-- ==== Sys2Proof/Word.lean ====
section
/-! DEFINITION. The two word types of the part: the byte of a memory or packet, and the 32-bit register word (R17, R19). -/

namespace Sys2Proof

/-- A byte of a memory, a packet or a frame (R17). -/
abbrev Byte := BitVec 8

/-- A register word: 32 bits at a 4-aligned byte address (R19). -/
abbrev Word := BitVec 32

end Sys2Proof
end

