-- ==== Sys2Proof/Syntax.lean ====
section
/-! DEFINITION. The commands of the part: one constructor per row of spec/opcode_table.json. A command is what happens to the
part at one instant: a host transaction or packet, a register access by an executor, an edge or a frame at a pin, or the end
of an interval that a unit measures. Times are device time in phase units of 2⁻³² ns where a rule stamps them. -/

namespace Sys2Proof

inductive Instr where
  /-- DT_SET_COMMIT. Executor `ex` writes `hi` to STG_DT_SET_HI; `rollover` says that a nanosecond rollover falls in the same CCLK cycle (R41). -/
  | dtSetCommit (ex : Fin 4) (hi : BitVec 16) (rollover : Bool)
  /-- WHOLE_SECOND_CHANGE. The rollover at which the pending seconds value takes effect (R41). -/
  | wholeSecondChange
  /-- NANOSECOND_ROLLOVER. Device time reaches its next carry into seconds (R35). -/
  | nanosecondRollover
  /-- DEVICE_TIME_LOAD. The first Frost subsecond tick after RS locks in Course; it brings the subsecond to `sub` (R39). -/
  | deviceTimeLoad (sub : BitVec 15)
  /-- CREDIT_RETURN. The consumer of a link returns one credit (R42). -/
  | creditReturn (link : Fin 256)
  /-- LINK_ERROR. A link's counter check fails: a parity error, or an over-return (R47). -/
  | linkError (link : Fin 256) (parity : Bool)
  /-- LINK_COUNTER_RESET. The next idle cycle of a link after an error (R47). -/
  | linkCounterReset (link : Fin 256)
  /-- BG_STARVED. A background activity passes its starvation limit: 0 cal, 1 vscrub, 2 fscrub, 3 telem, 4 tvscrub (R51). -/
  | bgStarved (activity : Fin 5)
  /-- REF_STAMP. The TDC stamps candidate `i`'s selected edge at device time `t` (phase units); `high` is the pulse's count of TSCLK edges that sample it high (R66, R76). -/
  | refStamp (i : Fin 24) (t : Nat) (high : Nat)
  /-- ACTIVITY_FAILURE. No stamp has come within act_lim + 0.5 stamp periods (R75). -/
  | activityFailure (i : Fin 24)
  /-- GATE_END. The qualification gate whose last stamp has come ends (R77). -/
  | gateEnd (i : Fin 24)
  /-- QUAL_TIME_EXPIRE. qual_time has run out without interruption (R73). -/
  | qualTimeExpire (i : Fin 24)
  /-- WTR_EXPIRE. wtr has run out without interruption (R73). -/
  | wtrExpire (i : Fin 24)
  /-- REQUAL. A REF_CTRL.requal pulse (R73). -/
  | requal (i : Fin 24)
  /-- FORCE_DISQ. REF_CTRL.force_disq is written (R73). -/
  | forceDisq (i : Fin 24) (v : Bool)
  /-- REF_CFG_WRITE. A write of REF_CFG (R73). -/
  | refCfgWrite (i : Fin 24) (be : BitVec 4) (data : BitVec 32)
  /-- ESMC_QL_TIMEOUT. No valid ESMC PDU has arrived on a lane for 5 s (R81). -/
  | esmcQlTimeout (lane : Fin 4)
  /-- TOD_FRAME_RX. The 16 bytes of a ToD frame have been received on a TODIN pin (R83). -/
  | todFrameRx (pin : Fin 2) (bytes : List Byte)
  /-- TOD_TIMEOUT. No valid ToD frame has labelled a stamp of the candidate for 3 s (R83). -/
  | todTimeout (i : Fin 24)
  /-- TOD_RAW_GROUP. A group of raw bytes ends; `t` is the device time of its first start bit (R83). -/
  | todRawGroup (pin : Fin 2) (t : Nat) (bytes : List Byte)
  /-- DISAGREE_COMPARE. The comparison of every pair of candidates, every 1 ms (R85). -/
  | disagreeCompare
  /-- LOOP_UPDATE. An update period of channel `h` (R96). -/
  | loopUpdate (h : Fin 12)
  /-- CH_CFG_WRITE. A write of CH_CFG (R102). -/
  | chCfgWrite (h : Fin 12) (be : BitVec 4) (data : BitVec 32)
  /-- CH_SEL_CFG_WRITE. A write of CH_SEL_CFG (R109). -/
  | chSelCfgWrite (h : Fin 12) (be : BitVec 4) (data : BitVec 32)
  /-- CH_PSTEP_COMMIT. Executor `ex` writes CH_PSTEP_HI (R121). -/
  | chPstepCommit (h : Fin 12) (ex : Fin 4) (data : BitVec 32)
  /-- FORCE_FR. CH_CTRL.force_fr is written (R102). -/
  | forceFr (h : Fin 12) (v : Bool)
  /-- FORCE_HO. CH_CTRL.force_ho is written (R102). -/
  | forceHo (h : Fin 12) (v : Bool)
  /-- HO_RELEASE. A CH_CTRL.ho_release pulse (R126). -/
  | hoRelease (h : Fin 12)
  /-- POOL_ABORT. A CH_CTRL.pool_abort pulse; `emptied` says that the pools emptied in the same CCLK cycle (R124). -/
  | poolAbort (h : Fin 12) (emptied : Bool)
  /-- GLC_SAMPLE. The engine's sample work for a channel (R141). -/
  | glcSample (h : Fin 12)
  /-- CLEAR. A GLC_MDL_CTRL.clear pulse; `atSample` says that it falls in the cycle of the sample work (R146). -/
  | clear (h : Fin 12) (atSample : Bool)
  /-- DECLARE. A GLC_MDL_CTRL.declare pulse (R146). -/
  | declare (h : Fin 12) (atSample : Bool)
  /-- GLC_MDL_STORE. A GLC_MDL_CTRL.store pulse (R153). -/
  | glcMdlStore (h : Fin 12)
  /-- NEW_OSC. A GLC_AGE_CTRL.new_osc pulse (R140). -/
  | newOsc
  /-- GLC_MDL_CFG_WRITE. A write of GLC_MDL_CFG (R135). -/
  | glcMdlCfgWrite (h : Fin 12) (be : BitVec 4) (data : BitVec 32)
  /-- DAY_ROLLOVER. sec_in_day reaches 86,400 (R139). -/
  | dayRollover
  /-- STORE_INTERVAL. GLC_STORE_CFG.int minutes have passed (R153). -/
  | storeInterval
  /-- TEMP_INVALID. T of a channel has been invalid for 10 s (R149). -/
  | tempInvalid (h : Fin 12)
  /-- HOST_TEMP_EXPIRE. GLC_HOST_TEMP is 10 s old (R136). -/
  | hostTempExpire
  /-- SENSOR_READING. On-die sensor `s`, or OSCTEMP for `s` = 8, delivers a reading (R136). -/
  | sensorReading (k : Fin 9) (v : BitVec 16)
  /-- ADEV_SAMPLE. τ_c has passed for a channel's ensemble (R156). -/
  | adevSample (h : Fin 12)
  /-- READMIT. A rejected member's deviation has stayed small for readmit seconds (R158). -/
  | readmit (h : Fin 12) (m : Fin 4)
  /-- GLC_ENS_MEM_WRITE. A write of GLC_ENS_MEM (R155). -/
  | glcEnsMemWrite (h : Fin 12) (be : BitVec 4) (data : BitVec 32)
  /-- TACH_EDGE. An edge of rotor channel `h`'s tach is stamped at device time `t` (R169). -/
  | tachEdge (h : Fin 12) (t : Nat)
  /-- INDEX_EDGE. A rising edge of the index leg is stamped (R173). -/
  | indexEdge (h : Fin 12)
  /-- TACH_LATE. The deadline of the next tooth passes at `t` (R170). -/
  | tachLate (h : Fin 12) (t : Nat)
  /-- STOP_TIMEOUT. No tooth has been accepted within stop_to (R170). -/
  | stopTimeout (h : Fin 12)
  /-- COAST_END. The coast limit runs out (R168). -/
  | coastEnd (h : Fin 12)
  /-- FLYWHEEL_CROSSING. The generator passes zero in flywheel operation (R177). -/
  | flywheelCrossing (h : Fin 12) (t : Nat)
  /-- HOST_RESYNC. A PAL_ROT_CTRL.resync pulse (R168). -/
  | hostResync (h : Fin 12)
  /-- RS_CAL_DONE. RS VCO band calibration completes (R186). -/
  | rsCalDone
  /-- LOCK_COUNT_END. A frequency count of SYN `unit`, or of RS for `unit` = 4, ends with `count` feedback cycles (R184). -/
  | lockCountEnd (unit : Fin 5) (count : BitVec 32)
  /-- ACQUIRE_TIMEOUT. SYN `unit`, or RS for `unit` = 4, has not locked within 10 ms of entering ACQUIRING (R186, R192). -/
  | acquireTimeout (unit : Fin 5)
  /-- RS_RELOCK. An RS_CTRL.relock pulse (R186). -/
  | rsRelock
  /-- LO_LOSS. No local-oscillator edge for 200 ns (R187). -/
  | loLoss
  /-- LO_RESTORED. 1 ms of uninterrupted local-oscillator activity (R187). -/
  | loRestored
  /-- SYN_CAL_DONE. SYN band calibration completes at `band` (R192). -/
  | synCalDone (n : Fin 4) (band : BitVec 8)
  /-- SYN_RELOCK. A SYN_CTRL.relock pulse (R192). -/
  | synRelock (n : Fin 4)
  /-- SYN_CFG_WRITE. A write of SYN_CFG (R192). -/
  | synCfgWrite (n : Fin 4) (be : BitVec 4) (data : BitVec 32)
  /-- COMMIT. A SYN_CTRL.commit pulse (R195). -/
  | commit (n : Fin 4)
  /-- COMMIT_LOAD. Every running output of the bank is holding (R195). -/
  | commitLoad (n : Fin 4)
  /-- RET. A SYN_CTRL.ret pulse (R200). -/
  | ret (n : Fin 4)
  /-- RETURN. The bank restarts from its dividers; `diff` is the phase, in phase units, from the aligned instant to the edge (R200). -/
  | return_ (n : Fin 4) (diff : Int)
  /-- OUT_CFG_WRITE. A write of OUT_CFG (R203). -/
  | outCfgWrite (o : Fin 24) (be : BitVec 4) (data : BitVec 32)
  /-- PA_EDGE_LATCH. 10 µs before the next leading edge of aligner `a` (R207). -/
  | paEdgeLatch (a : Fin 8)
  /-- PA_EDGE. Device time reaches the latched leading edge (R205). -/
  | paEdge (a : Fin 8)
  /-- COMPANION_STAMP. A stamp at `t` of the SE2 companion leg of REF pin `pin` (R206). -/
  | companionStamp (pin : Fin 16) (t : Nat)
  /-- COMPANION_TIMEOUT. No companion stamp for 2 × P (R208). -/
  | companionTimeout (a : Fin 8)
  /-- TODOUT_FRAME. 10 ms after a leading edge of aligner `a` (R209). -/
  | todoutFrame (a : Fin 8)
  /-- PAL_PA_CFG_WRITE. A write of PAL_PA_CFG (R209). -/
  | palPaCfgWrite (a : Fin 8) (be : BitVec 4) (data : BitVec 32)
  /-- TIMREF_ACTIVITY. TIMREF edges for 1 ms without a gap (R221). -/
  | timrefActivity
  /-- TIMREF_COUNT_END. 2^16 TIMREF cycles end: `count` feedback cycles, `dur` phase units of device time (R221). -/
  | timrefCountEnd (count : BitVec 32) (dur : Nat)
  /-- TIMREF_GAP. No TIMREF edge for 400 ns (R221). -/
  | timrefGap
  /-- TIM_CFG_WRITE. A write of TIM_CFG (R225). -/
  | timCfgWrite (be : BitVec 4) (data : BitVec 32)
  /-- ARM. A TIM_CTRL.arm pulse; `leaving` says that it falls in the cycle in which the state leaves READY (R226). -/
  | arm (leaving : Bool)
  /-- TIMGATE_EDGE. The TIMGATE pin changes to `level` (R226). -/
  | timgateEdge (level : Bool)
  /-- TIM_EDGE. A selected edge of the start or stop source at coarse count `cyc`, raw TDC code `code` and device time `t`; `sw` says that it falls in a switch of the time base (R229, R223). -/
  | timEdge (stop : Bool) (cyc : Nat) (code : BitVec 11) (t : Nat) (sw : Bool)
  /-- GATE_LENGTH_EXPIRE. TIM_GATE_LEN elapses (R227). -/
  | gateLengthExpire
  /-- RANGE. The coarse counter reaches 2^48 − 1 (R227). -/
  | range
  /-- TIM_RESULT. The result has been formed (R225). -/
  | timResult
  /-- TIM_CTRL_ABORT. A TIM_CTRL.abort pulse; `closing` says that the gate closes for another reason in the same cycle (R236, R237). -/
  | timCtrlAbort (closing : Bool)
  /-- CAL_SLOT. A 1 s background calibration slot begins (R233). -/
  | calSlot
  /-- CAL_TABLE_DONE. The code-density table of TDC `k` is complete, with `hits` on its codes (R233). -/
  | calTableDone (k : Fin 32) (hits : List Nat)
  /-- CAL_NOW. A TIM_CAL_CTRL.now pulse (R233). -/
  | calNow
  /-- TIM_CAL_DATA_READ. A read of TIM_CAL_DATA (R368). -/
  | timCalDataRead
  /-- THROUGH_FRAME. A frame arrives at a lane in a direction: its bytes without FCS, whether the FCS is good, the stamp of the
  receive word clock with the delimiter's bit in the word, the launch at the transmit ball, the bytes that rate adaptation
  leaves free in the direction's buffer, the words of its lane-event item (R247 to R259). -/
  | throughFrame (n : Fin 4) (m2l : Bool) (l : List Byte) (good : Bool) (rx : Nat × Nat) (tTx room words : Nat)
  /-- ESMC_PDU_RX. A slow-protocol frame on LRX with the receive stamp `t` (R250, R264). -/
  | esmcPduRx (n : Fin 4) (l : List Byte) (good : Bool) (t : Nat)
  /-- INSERTED_FRAME. The first frame that waits for insertion leaves on LTX at ball time `tTx`; `late` says that it is later than R58's bound (R261, R262). -/
  | insertedFrame (n : Fin 4) (tTx : Nat) (late : Bool)
  /-- LANE_SYNC. The receivers of the sides named come into sync (R246). -/
  | laneSync (n : Fin 4) (line mac : Bool)
  /-- LANE_SYNC_LOST. The receiver of a side leaves sync (R246). -/
  | laneSyncLost (n : Fin 4) (line : Bool)
  /-- LANE_RELEASE. An ETH_CTRL.release pulse (R246). -/
  | laneRelease (n : Fin 4)
  /-- AN_RESTART. An ETH_CTRL.an_restart pulse (R243). -/
  | anRestart (n : Fin 4)
  /-- ETH_LOOP_WRITE. A write of ETH_LOOP (R265). -/
  | ethLoopWrite (n : Fin 4) (be : BitVec 4) (data : BitVec 32)
  /-- ETH_CFG_WRITE. A write of ETH_CFG (R246). -/
  | ethCfgWrite (n : Fin 4) (be : BitVec 4) (data : BitVec 32)
  /-- SYNC_RX. The engine receives a Sync on a lane: its receive timestamp and frame (R273). -/
  | syncRx (n : Fin 4) (t : Nat) (l : List Byte)
  /-- FOLLOW_UP_RX. A Follow_Up (R273). -/
  | followUpRx (n : Fin 4) (t : Nat) (l : List Byte)
  /-- DELAY_REQ_RX. A Delay_Req (R284). -/
  | delayReqRx (n : Fin 4) (t : Nat) (l : List Byte)
  /-- DELAY_RESP_RX. A Delay_Resp (R273). -/
  | delayRespRx (n : Fin 4) (l : List Byte)
  /-- PDELAY_REQ_RX. A Pdelay_Req (R273). -/
  | pdelayReqRx (n : Fin 4) (t : Nat) (l : List Byte)
  /-- PDELAY_RESP_RX. A Pdelay_Resp (R273). -/
  | pdelayRespRx (n : Fin 4) (t : Nat) (l : List Byte)
  /-- ANNOUNCE_RX. An Announce (R275). -/
  | announceRx (n : Fin 4) (l : List Byte)
  /-- REQUEST_UNICAST_TRANSMISSION. A Signaling message with requests (R282). -/
  | requestUnicastTransmission (n : Fin 4) (l : List Byte)
  /-- CANCEL_UNICAST_TRANSMISSION. A Signaling message with cancels (R281). -/
  | cancelUnicastTransmission (n : Fin 4) (l : List Byte)
  /-- ANNOUNCE_TIMEOUT. No Announce from the parent for ann_timeout intervals (R276). -/
  | announceTimeout (p : Fin 4)
  /-- SERVO_UPDATE. The end of a servo's update period (R278). -/
  | servoUpdate (sv : Fin 4)
  /-- LEARNED. 64 update periods of learning are complete (R292). -/
  | learned (sv : Fin 4)
  /-- SV_ASYM_ACK. A PTE_SV_CTRL.asym_ack pulse (R290). -/
  | svAsymAck (sv : Fin 4)
  /-- EVICT. A PTE_SLOT_CTRL EVICT operation on slot `k` (R285). -/
  | evict (k : BitVec 14)
  /-- ASYM_ACK. A PTE_SLOT_CTRL ASYM_ACK operation on slot `k` (R287). -/
  | asymAck (k : BitVec 14)
  /-- GRANT_EXPIRE. A grant of slot `k` expires: 0 Sync, 1 Announce, 2 Delay_Resp (R285). -/
  | grantExpire (k : Fin 16384) (ty : Fin 3)
  /-- CLIENT_SYNC_DUE. The scheduled Sync time of slot `k` (R283). -/
  | clientSyncDue (k : Fin 16384)
  /-- CLIENT_ANNOUNCE_DUE. The scheduled Announce time of slot `k` (R283). -/
  | clientAnnounceDue (k : Fin 16384)
  /-- PORT_SYNC_DUE. A MASTER port's Sync interval elapses (R273). -/
  | portSyncDue (p : Fin 4)
  /-- PORT_ANNOUNCE_DUE. A MASTER port's Announce interval elapses (R277). -/
  | portAnnounceDue (p : Fin 4)
  /-- DELAY_REQ_DUE. A slave port's log_delay interval elapses (R273). -/
  | delayReqDue (p : Fin 4)
  /-- PTE_START. The engine may start: the Vault has become READY (R417). -/
  | pteStart
  /-- RECORD_ITEM_START. The next item of the merge order starts at the tail of queue `q`, or is discarded (R299). -/
  | recordItemStart (q : Fin 128)
  /-- QUEUE_WORD_ENTER. A word on queue `q`'s link enters its tail and goes to the head or the middle (R302). -/
  | queueWordEnter (q : Fin 128)
  /-- ITEM_READABLE. The oldest complete item of queue `q` not yet readable becomes readable (R305). -/
  | itemReadable (q : Fin 128)
  /-- QUEUE_READ. Executor `ex` reads QMG_Q_DATA0 of queue `q` (R304). -/
  | queueRead (q : Fin 128) (ex : Fin 4)
  /-- MARK. QMG_Q_CTRL.mark (R305). -/
  | mark (q : Fin 128)
  /-- REWIND. QMG_Q_CTRL.rewind (R305). -/
  | rewind (q : Fin 128)
  /-- RELEASE. QMG_Q_CTRL.release (R305). -/
  | release (q : Fin 128)
  /-- FLUSH. QMG_Q_CTRL.flush (R307). -/
  | flush (q : Fin 128)
  /-- STALE_WIN_END. 16 µs of PCLK time after an epoch change of queue `q` (R309). -/
  | staleWinEnd (q : Fin 128)
  /-- TELEMETRY. The 100 ms telemetry time (R300). -/
  | telemetry
  /-- TMC_START. TMC_CTRL.start (R316). -/
  | tmcStart
  /-- TMC_ABORT. TMC_CTRL.abort; `completing` says that the test completes in the same cycle (R318). -/
  | tmcAbort (completing : Bool)
  /-- TILE_TEST_DONE. A Tile test ends; `fails` lists each failing row: bank, row, failing words (R317). -/
  | tileTestDone (fails : List (Nat × Nat × Nat))
  /-- VAULT_TRAINED. Bus timing training completes (R323). -/
  | vaultTrained
  /-- TRAIN_TIMEOUT. 50 ms of training without completion (R323). -/
  | trainTimeout
  /-- VAULT_TEST_DONE. A Vault test ends having found `failing` bursts with more than one erroneous symbol (R323). -/
  | vaultTestDone (failing : Nat)
  /-- VLT_TEST_START. VLT_CTRL.test_start (R323). -/
  | vltTestStart
  /-- VLT_ABORT. VLT_CTRL.abort; `completing` says that the test completes in the same cycle (R324). -/
  | vltAbort (completing : Bool)
  /-- RETRAIN. VLT_CTRL.retrain (R323). -/
  | retrain
  /-- SCRUB_BURST. The Vault scrub reads its next burst: `corr` symbols corrected, or uncorrectable; `again` says that a foreground write cancelled the write back (R322). -/
  | scrubBurst (corr : Fin 3) (uncorr again : Bool)
  /-- SEND. A SEND transaction's bytes after its code (R330). -/
  | send (bytes : List Byte)
  /-- RECEIVE. A RECEIVE transaction clocks out `n` bytes (R331). -/
  | receive (n : BitVec 16)
  /-- STATUS. A STATUS transaction (R332). -/
  | status
  /-- RESYNC. A RESYNC transaction (R341). -/
  | resync
  /-- INVALID_TRANSACTION_CODE. A transaction of code `code` (R330). -/
  | invalidTransactionCode (code : BitVec 8)
  /-- INBAND_FRAME. A Veline frame received on ETH0_LRX with a good FCS, from its destination address (R348). -/
  | inbandFrame (l : List Byte)
  /-- PHASE_STEP. A PHASE_STEP packet at a port (R126). -/
  | phaseStep (port : Fin 2) (cls : Fin 4) (tag : BitVec 16) (ch : BitVec 8) (slew : Bool) (delta : BitVec 48)
  /-- FORCE_HOLDOVER. A FORCE_HOLDOVER packet (R126). -/
  | forceHoldover (port : Fin 2) (cls : Fin 4) (tag : BitVec 16) (ch : BitVec 8) (v : Bool)
  /-- MANUAL_SELECT. A MANUAL_SELECT packet (R126). -/
  | manualSelect (port : Fin 2) (cls : Fin 4) (tag : BitVec 16) (ch cand : BitVec 8)
  /-- MUTE_OUTPUT. A MUTE_OUTPUT packet (R337). -/
  | muteOutput (port : Fin 2) (cls : Fin 4) (tag : BitVec 16) (mask : BitVec 32) (mute : Bool)
  /-- READ_STATUS. A READ_STATUS packet of a channel, or of the registers `addrs` where there are any (R337). -/
  | readStatus (port : Fin 2) (cls : Fin 4) (tag : BitVec 16) (ch : BitVec 8) (addrs : List Word)
  /-- ACK_FAULT. An ACK_FAULT packet (R478). -/
  | ackFault (port : Fin 2) (cls : Fin 4) (tag : BitVec 16) (fs unit : BitVec 8)
  /-- REG_READ. A REG_READ packet (R358). -/
  | regRead (port : Fin 2) (cls : Fin 4) (tag : BitVec 16) (addr : BitVec 32) (be : BitVec 4) (fixed : Bool) (count : BitVec 16)
  /-- REG_WRITE. A REG_WRITE packet (R358). -/
  | regWrite (port : Fin 2) (cls : Fin 4) (tag : BitVec 16) (addr : BitVec 32) (be : BitVec 4) (fixed : Bool) (words : List Word)
  /-- ABORT. An ABORT packet (R337, R369). -/
  | abort (port : Fin 2) (cls : Fin 4) (tag : BitVec 16) (target index : BitVec 8)
  /-- BULK_WRITE. A BULK_WRITE packet (R340). -/
  | bulkWrite (port : Fin 2) (cls : Fin 4) (tag : BitVec 16) (target : BitVec 8) (off : BitVec 32) (data : List Byte)
  /-- BULK_READ. A BULK_READ packet (R340). -/
  | bulkRead (port : Fin 2) (cls : Fin 4) (tag : BitVec 16) (target : BitVec 8) (len : BitVec 16) (off : BitVec 32)
  /-- QUEUE_DRAIN. A QUEUE_DRAIN packet (R339). -/
  | queueDrain (port : Fin 2) (cls : Fin 4) (tag : BitVec 16) (queue : BitVec 8) (rel rew mark : Bool) (limit : BitVec 16)
  /-- ECHO. An ECHO packet (R337). -/
  | echo (port : Fin 2) (cls : Fin 4) (tag : BitVec 16) (payload : List Byte)
  /-- REGISTER_WRITE. Executor `ex` writes a register by its byte address; `data` is the word, and whether the write falls in
  the cycle of a hardware update of the register, which comes before it among the commands and is lost (R363, R367). -/
  | registerWrite (ex : Fin 4) (addr : BitVec 32) (be : BitVec 4) (data : BitVec 32 × Bool)
  /-- BIT_ALIAS_WRITE. Executor `ex` writes an address of the bit-alias region (R365). -/
  | bitAliasWrite (ex : Fin 4) (addr : BitVec 32) (be : BitVec 4) (data : BitVec 32)
  /-- IND_DATA_ACCESS. Executor `ex` accesses IND_DATA`n` (R372). -/
  | indDataAccess (n ex : Fin 4) (write : Bool) (data : BitVec 32)
  /-- IND_ACCESS_DONE. The target of window `n` completes the access after `busy` repeats; `coll` tells a collision, `late` that its limit passed (R372). -/
  | indAccessDone (n : Fin 4) (busy : Nat) (coll late : Bool)
  /-- TV_SCRUB_VISIT. The TV scrub visits the register at `addr` (R364). -/
  | tvScrubVisit (addr : BitVec 32)
  /-- LOAD. MTL_CTRL.load (R399). -/
  | load
  /-- MTL_ABORT. MTL_CTRL.abort; `fixed` says that the action is already fixed in the same cycle (R410). -/
  | mtlAbort (fixed : Bool)
  /-- VERIFY_DONE. Verification of the staged image ends (R396). -/
  | verifyDone
  /-- APPLY_STEP_DONE. A step of image application completes, `us` microseconds after the release of step 10 began (R403). -/
  | applyStepDone (us : Nat)
  /-- SLOT_STORED. A Firn store of the loader completes (R401). -/
  | slotStored
  /-- STORE_RETRY. A refused loader store is due again (R401). -/
  | storeRetry
  /-- RESET_RELEASE. The internal reset releases with BOOTSEL at `boot` (R418). -/
  | resetRelease (boot : BitVec 3)
  /-- FOOTING_REPORTED. The measurement of the local oscillator reads `khz`; Footing is reported `us` microseconds after the release (R418, R420). -/
  | footingReported (khz us : Nat)
  /-- COURSE_PULSE. STG_CTRL.course (R420). -/
  | coursePulse
  /-- COURSE_MARCH_DONE. The Course march ends; `fails` lists each failing row: bank, row, failing words (R421). -/
  | courseMarchDone (fails : List (Nat × Nat × Nat))
  /-- COURSE_CAL_DONE. The Course calibration ends (R421). -/
  | courseCalDone
  /-- COURSE_REPORTED. Course is reported `us` microseconds after the release (R415). -/
  | courseReported (us : Nat)
  /-- COURSE_WAIT. A Course wait reaches 100 ms (R423). -/
  | courseWait
  /-- RESET_N_ASSERT. RESET_N held low for 1 µs or more (R428). -/
  | resetNAssert
  /-- HOST_RESET. A write of STG_RST_CTRL.dev with `key` in its key field (R428). -/
  | hostReset (key : BitVec 16)
  /-- DEVICE_RESET. A requested device reset takes effect (R427). -/
  | deviceReset
  /-- POWER_ON_RESET. A supply is below power-good from power-up (R427). -/
  | powerOnReset
  /-- BLOCK_RESET. STG_BLK_RST.go for a unit (R430). -/
  | blockReset (unit : Fin 32) (index : Fin 128)
  /-- BLOCK_RESET_DONE. A block reset completes (R430). -/
  | blockResetDone (unit : Fin 9) (index : Fin 128)
  /-- POWER_FAIL. The power-fail condition (R435). -/
  | powerFail
  /-- AUX_WARNING. AUXCMP trips (R434). -/
  | auxWarning
  /-- AUX_DELAY_EXPIRE. AUXCMP is still low pf_delay after the trip (R434). -/
  | auxDelayExpire
  /-- VHOLD_LOW. VHOLD falls below 3.0 V (R436). -/
  | vholdLow
  /-- FRN_STORE_GO. FRN_STORE_CTRL.go: a store of the dirty pages from `first` to `last` (R444). -/
  | frnStoreGo (first last : BitVec 8)
  /-- FRN_STORE_ABORT. FRN_STORE_CTRL.abort; `completing` says that it falls in the store's completion cycle (R447, R369). -/
  | frnStoreAbort (completing : Bool)
  /-- PAGE_STORED. The page in progress is programmed and verified, or fails twice (R445). -/
  | pageStored (fail : Bool)
  /-- TOKEN_ACCRUAL. 64 s of SCLK running time have passed (R446). -/
  | tokenAccrual
  /-- REFRESH_READ. The refresh reads copy A or B of a page at margin (R449). -/
  | refreshRead (page : Fin 256) (b weak crcBad : Bool)
  /-- PROVISION. A FRN_KEY_CTRL write with provision = 1 (R451). -/
  | provision (confirm : BitVec 16)
  /-- POLICY. A FRN_KEY_CTRL write with policy = 1 (R452). -/
  | policy (confirm : BitVec 16)
  /-- ZEROISE. A FRN_KEY_CTRL write with zeroise = 1 (R452). -/
  | zeroise (confirm : BitVec 16)
  /-- TALLY_INC. An increment of counter `k` is requested (R454). -/
  | tallyInc (k : Fin 32)
  /-- TALLY_INC_DONE. The increment's cell is programmed (R454). -/
  | tallyIncDone (k : Fin 32)
  /-- FROST_SECOND. The Frost seconds roll over (R461). -/
  | frostSecond
  /-- XTAL_FAIL. No crystal edge in 2 watch periods (R456). -/
  | xtalFail
  /-- XTAL_RESTART. The crystal restarts (R456). -/
  | xtalRestart
  /-- FROST_POR. VFROST falls below 1.45 V (R456). -/
  | frostPor
  /-- CORE_LOST. VDD_CORE falls below 0.55 V (R457). -/
  | coreLost
  /-- FROST_TIME_COMMIT. FRS_W_SET_SEC_HI is written with `hi` (R458). -/
  | frostTimeCommit (hi : BitVec 16)
  /-- FROST_TIME_LOAD. The next Frost tick after a commit (R458). -/
  | frostTimeLoad
  /-- FROST_SYNC. The once-per-second comparison, at the tick that brings the subsecond to `sub` (R459). -/
  | frostSync (sub : BitVec 15)
  /-- TRIM_WINDOW. The end of a 1,024 s window (R459). -/
  | trimWindow
  /-- COMPARATOR_SAMPLE. Comparator `k` samples the input `v`, in 0.1 mV or 0.1 °C: 0 core_ok, 1 vhold_ok, 2 vfrost_ok,
  3 aux_high, 4 temp_high (R460). -/
  | comparatorSample (k : Fin 5) (v : Int)
  /-- FAULT_HIT. A detector asserts source `fs` for the unit, information, address and auxiliary value it gives (R470). -/
  | faultHit (fs : Fin 96) (info addr : BitVec 32) (aux : BitVec 16)
  /-- RECORD_CLOSE. The oldest building fault record closes (R479). -/
  | recordClose
  /-- GUARD_EXPIRE. The guard timer of source `fs` expires (R477). -/
  | guardExpire (fs : Fin 96)
  /-- FLT_ACK. FLT_ACK.go for a source and unit (R478). -/
  | fltAck (src : BitVec 7) (unit : BitVec 8)
  /-- ACK_ALL. FLT_CTRL.ack_all (R478). -/
  | ackAll
  /-- UNMUTE. FLT_CTRL.unmute (R476). -/
  | unmute
  /-- FLT_SRC_CFG_WRITE. A write of FLT_SRC_CFG`n`, or of FLT_SRC_MASK`n` where `mask` (R474). -/
  | fltSrcCfgWrite (n : Fin 96) (mask : Bool) (data : BitVec 32)
  /-- INJ_ARM. A write of FLT_INJ_CFG (R485). -/
  | injArm (be : BitVec 4) (data : BitVec 32)
  /-- WDOG_KICK. A write of FLT_WDOG_KICK (R487). -/
  | wdogKick (key : BitVec 16)
  /-- HOST_WDOG. The host watchdog expires (R487). -/
  | hostWdog
  /-- QUIET_WINDOW_END. The quiet window of a unit closes (R482). -/
  | quietWindowEnd (unit : Fin 9) (index : Fin 128)
  /-- ALIVE_TOGGLE. 500 µs of SCLK time (R473). -/
  | aliveToggle
  /-- ANGLE_CLOCK_EDGE. The generator angle passes zero + j/ppr at `t` (R171). -/
  | angleClockEdge (h : Fin 12) (t : Nat)
  /-- PHASE_QUANTUM. A period of the fastest enabled output of SYN `n`'s bank (R193). -/
  | phaseQuantum (n : Fin 4)
  /-- TOD_LABEL_TIMEOUT. No stamp of candidate `i` arrives within 1.0 s of a frame's stop bit (R83). -/
  | todLabelTimeout (i : Fin 24)
  /-- PDELAY_RESP_FOLLOW_UP_RX. A Pdelay_Resp_Follow_Up (R273). -/
  | pdelayRespFollowUpRx (n : Fin 4) (l : List Byte)
  /-- PAUSE_BITS_CHANGE. The partner of a side advertises other pause bits (R243). -/
  | pauseBitsChange (n : Fin 4) (line : Bool) (pause : BitVec 2)
deriving DecidableEq, Repr

end Sys2Proof
end

