-- ==== Sys2Proof/Decode.lean ====
section
/-! DEFINITION. The part has no instruction words: its commands are events at its pins and registers, and no row of the opcode
table gives bits. -/

namespace Sys2Proof

/-- The command that a word spells by the table's bits: none, since no row of the table gives bits.
Log entry 8 (DESIGN CHOICE). -/
def decodeTableWord (_nbits _w : Nat) : Option Instr := none

end Sys2Proof
end

