-- ==== Sys2Proof/Machine/Bits.lean ====
section
/-! DEFINITION. Bit fields, two's complement, saturation, rounding and byte order (R8, R10, R11, R16, R17, R18). -/

namespace Sys2Proof.Machine

/-- Bits `[hi:lo]` of `x`, inclusive (R17). -/
def bits (x hi lo : Nat) : Nat := (x >>> lo) % 2 ^ (hi + 1 - lo)

/-- Bit `b` of `x` as a Boolean. -/
def bitOf (x b : Nat) : Bool := x.testBit b

/-- `x` with bit `b` set. -/
def setBit (x b : Nat) : Nat := x ||| (1 <<< b)

/-- `x` with bit `b` cleared. -/
def clrBit (x b : Nat) : Nat := if x.testBit b then x ^^^ (1 <<< b) else x

/-- `x` with bit `b` at `v`. -/
def putBit (x b : Nat) (v : Bool) : Nat := if v then setBit x b else clrBit x b

/-- `v` placed at bit `lo`, cut to the width of `[hi:lo]`. -/
def place (hi lo v : Nat) : Nat := (v % 2 ^ (hi + 1 - lo)) <<< lo

/-- The value of `x` read as a two's-complement number of `w` bits (R8). -/
def toS (w x : Nat) : Int :=
  let y := x % 2 ^ w
  if y < 2 ^ (w - 1) then (y : Int) else (y : Int) - 2 ^ w

/-- The two's-complement code of `z` in `w` bits, wrapping. -/
def ofS (w : Nat) (z : Int) : Nat := (z % (2 ^ w : Int)).toNat

/-- `z` clamped to `lo … hi`. -/
def clampI (lo hi z : Int) : Int := max lo (min hi z)

/-- The two's-complement code of `z` in `w` bits, saturating at both ends. -/
def satS (w : Nat) (z : Int) : Nat := ofS w (clampI (-(2 ^ (w - 1) : Int)) ((2 ^ (w - 1) : Int) - 1) z)

/-- An unsigned count saturated at the greatest code of `w` bits. -/
def satU (w : Nat) (z : Int) : Nat := (clampI 0 ((2 ^ w : Int) - 1) z).toNat

/-- Rounding to the nearest integer, ties away from zero (R16). -/
def roundR16 (q : Rat) : Int :=
  if 0 ≤ q then (q + 1 / 2).floor else -((-q + 1 / 2).floor)

/-- Truncation toward zero. -/
def truncR (q : Rat) : Int := if 0 ≤ q then q.floor else -((-q).floor)

/-- The greatest number `x + y` with `y < 2^n` whose `k`-th power is at most `v`, bit by bit from the top (where `x^k ≤
v`). -/
def rootBits (k v : Nat) : Nat → Nat → Nat
  | 0, x => x
  | n + 1, x => rootBits k v n (if (x + 2 ^ n) ^ k ≤ v then x + 2 ^ n else x)

/-- The Boolean as the code of a one-bit field. -/
def b2n (b : Bool) : Nat := if b then 1 else 0

/-- `n` bytes of `x`, least significant first (R18). -/
def bytesLE : Nat → Nat → List Byte
  | 0, _ => []
  | n + 1, x => BitVec.ofNat 8 x :: bytesLE n (x / 256)

/-- The number whose bytes, least significant first, are `l` (R18). -/
def leVal : List Byte → Nat
  | [] => 0
  | b :: r => b.toNat + 256 * leVal r

/-- The number whose bytes, most significant first (network order, R18), are `l`. -/
def beVal (l : List Byte) : Nat := leVal l.reverse

/-- Bytes `[off, off + n)` of `l` as one little-endian number; missing bytes read 0. -/
def fieldLE (l : List Byte) (off n : Nat) : Nat := leVal ((l.drop off).take n)

/-- Nanoseconds of one second in phase units (R8, R11). -/
def secPU : Nat := 1000000000 * 65536

/-- The 96-bit timestamp of a time `t` held in phase units since the epoch (R11). -/
def stamp96 (t : Nat) : Nat :=
  ((t / secPU) % 2 ^ 48) <<< 48 ||| ((t % secPU) / 65536) <<< 16 ||| t % 65536

/-- The time in phase units of a 96-bit timestamp (R11). -/
def stampTime (s : Nat) : Nat :=
  bits s 95 48 * secPU + bits s 47 16 * 65536 + bits s 15 0

/-- A 96-bit timestamp is invalid when its nanoseconds exceed 999,999,999 (R12). -/
def stampValid (s : Nat) : Bool := bits s 47 16 ≤ 999999999

end Sys2Proof.Machine
end

