-- ==== Sys2Proof/Machine/Crypto.lean ====
section
/-! DEFINITION. CRC-32C (R335) and HMAC-SHA-256 (R380, R451). -/

namespace Sys2Proof.Machine

/-- CRC-32C: polynomial 0x1EDC6F41, reflected input and output, initial value and final XOR 0xFFFFFFFF (R335). -/
def crc32c (l : List Byte) : Nat :=
  (l.foldl (fun a b => (List.range 8).foldl
    (fun x _ => if x.testBit 0 then (x >>> 1) ^^^ 0x82F63B78 else x >>> 1) (a ^^^ b.toNat)) 0xFFFFFFFF) ^^^ 0xFFFFFFFF

/-- The prime numbers below 312: there are 64. -/
def primes64 : List Nat :=
  (List.range 312).filter fun n => 1 < n && (List.range' 2 16).all fun d => n = d || n % d != 0

/-- The first 32 bits of the fraction of the `k`-th root of `p`: the constants of SHA-256 are those of the square roots of
the first eight primes (`k` = 2) and of the cube roots of the first 64 (`k` = 3). -/
def rootFrac (k p : Nat) : Nat := rootBits k (p * 2 ^ (32 * k)) 38 0 % 2 ^ 32

/-- The exclusive or of three rotations right of a word, or of two and a shift right where `sh` holds. -/
def mix3 (sh : Bool) (i j k : Nat) (x : Word) : Word :=
  x.rotateRight i ^^^ x.rotateRight j ^^^ (if sh then x >>> k else x.rotateRight k)

/-- The working words of SHA-256 as its two sequences: the last four words `a` made (newest first), the last four words
`e` made, and the sixteen message words still to come. -/
structure ShaRun where
  as : List Word
  es : List Word
  msg : List Word
  deriving DecidableEq, Repr

/-- One round with the constant `k`: the front message word is used, and the word sixteen places later joins the end. -/
def ShaRun.turn (r : ShaRun) (k : Nat) : ShaRun :=
  let a := fun n => r.as.getD n 0
  let e := fun n => r.es.getD n 0
  let m := fun n => r.msg.getD n 0
  let t := e 3 + BitVec.ofNat 32 k + m 0 + mix3 false 6 11 25 (e 0) + (e 2 ^^^ (e 0 &&& (e 1 ^^^ e 2)))
  let u := mix3 false 2 13 22 (a 0) + ((a 0 &&& (a 1 ||| a 2)) ||| (a 1 &&& a 2))
  { as := (t + u) :: r.as.take 3,
    es := (a 3 + t) :: r.es.take 3,
    msg := r.msg.drop 1 ++ [m 0 + mix3 true 7 18 3 (m 1) + m 9 + mix3 true 17 19 10 (m 14)] }

/-- `l` cut into `n` big-endian 32-bit words. -/
def words32 : Nat → List Byte → List Word
  | 0, _ => []
  | n + 1, l => BitVec.ofNat 32 (beVal (l.take 4)) :: words32 n (l.drop 4)

/-- One block of 64 bytes on the hash words `h`. -/
def shaBlock (h : List Word) (block : List Byte) : List Word :=
  let r := (primes64.map (rootFrac 3)).foldl ShaRun.turn ⟨h.take 4, h.drop 4, words32 16 block⟩
  h.zipWith (· + ·) (r.as ++ r.es)

/-- `n` blocks of a padded message. -/
def shaBlocks : Nat → List Word → List Byte → List Word
  | 0, h, _ => h
  | n + 1, h, l => shaBlocks n (shaBlock h (l.take 64)) (l.drop 64)

/-- `n` bytes of `x`, most significant first. -/
def bytesBE (n x : Nat) : List Byte := (bytesLE n x).reverse

/-- SHA-256 of a byte string. -/
def sha256 (m : List Byte) : List Byte :=
  let n := m.length
  let p := m ++ [0x80#8] ++ List.replicate ((119 - n % 64) % 64) 0#8 ++ bytesBE 8 (8 * n)
  (shaBlocks (p.length / 64) ((primes64.take 8).map fun q => BitVec.ofNat 32 (rootFrac 2 q)) p).flatMap
    fun w => bytesBE 4 w.toNat

/-- HMAC-SHA-256 with a key of at most 64 bytes. -/
def hmac256 (key m : List Byte) : List Byte :=
  let k := key ++ List.replicate (64 - key.length) 0#8
  sha256 (k.map (· ^^^ 0x5c#8) ++ sha256 (k.map (· ^^^ 0x36#8) ++ m))

end Sys2Proof.Machine
end

