-- ==== Sys2Proof/Machine/Fields.lean ====
section
/-! DEFINITION. What a register field is: its place in the address map, its bits, its access code (R22) and its reset value
(R21). The register tables of the spec are lists of these (files Regs*.lean). -/

namespace Sys2Proof.Machine

/-- Access codes of R22; the L and H words of a pair carry the access of their bits. -/
inductive Acc where
  | rw | ro | rc | wp | rwe | rwTv | rweTv
  | lRo | hRo | lRw | hRw | lRwe | hRwe
deriving DecidableEq, Repr

/-- A register field: the block's base and instance stride (R25), the register's offset, the step between the members of
an array of registers, the bits `[hi:lo]`, the access code, and the reset value; `tab`, where it is not empty, gives the
reset value of each instance. -/
structure Fld where
  base : Nat
  stride : Nat
  off : Nat
  step : Nat
  hi : Nat
  lo : Nat
  acc : Acc
  rst : Nat
  tab : List Nat := []
deriving DecidableEq, Repr

/-- The width of a field. -/
def Fld.width (f : Fld) : Nat := f.hi + 1 - f.lo

/-- The byte address of the register that holds a field: instance `i`, array member `k`. -/
def Fld.addr (f : Fld) (i k : Nat) : Nat := f.base + i * f.stride + f.off + k * f.step

/-- Where a field's value is kept in the register store: 32 keys for each register, by the field's lowest bit. -/
def Fld.key (f : Fld) (i k : Nat) : Nat := f.addr i k * 32 + f.lo

/-- The reset value of a field in instance `i` (R21). -/
def Fld.reset (f : Fld) (i : Nat) : Nat := f.tab.getD i f.rst

/-- A register of the tables: its name, the number of its array members and its fields. Log entry 3 (DESIGN CHOICE). -/
structure RegRow where
  name : String
  cnt : Nat
  flds : List Fld
deriving DecidableEq, Repr

/-- The offset of a register row (of its first member). -/
def RegRow.off (r : RegRow) : Nat := (r.flds.head?.map Fld.off).getD 0

/-- The step between the members of a register row. -/
def RegRow.step (r : RegRow) : Nat := (r.flds.head?.map Fld.step).getD 4

end Sys2Proof.Machine
end

