-- ==== Sys2Proof/Machine/RegsClock.lean ====
section
/-! DEFINITION. The register tables of the RS, SYN, output, pulse-aligner and TIM blocks: one constant per field, one row per register.
Reserved bits have no field: they read 0 and ignore writes (R20). Where the spec's table says `state` or `pin`, the
field starts at 0 here and the operation that the spec names loads it (log entry 3). -/

namespace Sys2Proof.Machine

def RS_LO_NOM_LO.nom_lo : Fld := ⟨0x130000, 0x0, 0x0, 4, 31, 0, .lRo, 0, []⟩
/-- RS_LO_NOM_LO (R214). -/
def RS_LO_NOM_LO.row : RegRow := ⟨"RS_LO_NOM_LO", 1, [RS_LO_NOM_LO.nom_lo]⟩

def RS_LO_NOM_HI.nom_hi : Fld := ⟨0x130000, 0x0, 0x4, 4, 7, 0, .hRo, 0, []⟩
/-- RS_LO_NOM_HI (R214). -/
def RS_LO_NOM_HI.row : RegRow := ⟨"RS_LO_NOM_HI", 1, [RS_LO_NOM_HI.nom_hi]⟩

def RS_FB_INT.n_int : Fld := ⟨0x130000, 0x0, 0x8, 4, 8, 0, .ro, 0, []⟩
/-- RS_FB_INT (R214). -/
def RS_FB_INT.row : RegRow := ⟨"RS_FB_INT", 1, [RS_FB_INT.n_int]⟩

def RS_FB_NUM.num : Fld := ⟨0x130000, 0x0, 0xc, 4, 23, 0, .ro, 0, []⟩
/-- RS_FB_NUM (R214). -/
def RS_FB_NUM.row : RegRow := ⟨"RS_FB_NUM", 1, [RS_FB_NUM.num]⟩

def RS_FB_DEN.den : Fld := ⟨0x130000, 0x0, 0x10, 4, 23, 0, .ro, 0, []⟩
/-- RS_FB_DEN (R214). -/
def RS_FB_DEN.row : RegRow := ⟨"RS_FB_DEN", 1, [RS_FB_DEN.den]⟩

def RS_LOCK_CFG.win : Fld := ⟨0x130000, 0x0, 0x14, 4, 7, 0, .rw, 4, []⟩
/-- RS_LOCK_CFG (R214). -/
def RS_LOCK_CFG.row : RegRow := ⟨"RS_LOCK_CFG", 1, [RS_LOCK_CFG.win]⟩

def RS_CTRL.relock : Fld := ⟨0x130000, 0x0, 0x18, 4, 0, 0, .wp, 0, []⟩
/-- RS_CTRL (R214). -/
def RS_CTRL.row : RegRow := ⟨"RS_CTRL", 1, [RS_CTRL.relock]⟩

def RS_STAT.state : Fld := ⟨0x130000, 0x0, 0x40, 4, 31, 29, .ro, 0, []⟩
def RS_STAT.cause : Fld := ⟨0x130000, 0x0, 0x40, 4, 28, 25, .ro, 1, []⟩
def RS_STAT.lo_ok : Fld := ⟨0x130000, 0x0, 0x40, 4, 24, 24, .ro, 0, []⟩
def RS_STAT.clk_src : Fld := ⟨0x130000, 0x0, 0x40, 4, 23, 22, .ro, 1, []⟩
def RS_STAT.k_s : Fld := ⟨0x130000, 0x0, 0x40, 4, 15, 8, .ro, 0, []⟩
def RS_STAT.k_c : Fld := ⟨0x130000, 0x0, 0x40, 4, 7, 0, .ro, 0, []⟩
/-- RS_STAT (R214). -/
def RS_STAT.row : RegRow := ⟨"RS_STAT", 1, [RS_STAT.state, RS_STAT.cause, RS_STAT.lo_ok, RS_STAT.clk_src, RS_STAT.k_s, RS_STAT.k_c]⟩

def RS_EVENT.retry : Fld := ⟨0x130000, 0x0, 0x44, 4, 4, 4, .rc, 0, []⟩
def RS_EVENT.lo_back : Fld := ⟨0x130000, 0x0, 0x44, 4, 3, 3, .rc, 0, []⟩
def RS_EVENT.lo_lost : Fld := ⟨0x130000, 0x0, 0x44, 4, 2, 2, .rc, 0, []⟩
def RS_EVENT.lock_lost : Fld := ⟨0x130000, 0x0, 0x44, 4, 1, 1, .rc, 0, []⟩
def RS_EVENT.lock : Fld := ⟨0x130000, 0x0, 0x44, 4, 0, 0, .rc, 0, []⟩
/-- RS_EVENT (R214). -/
def RS_EVENT.row : RegRow := ⟨"RS_EVENT", 1, [RS_EVENT.retry, RS_EVENT.lo_back, RS_EVENT.lo_lost, RS_EVENT.lock_lost, RS_EVENT.lock]⟩

def RS_FCOUNT.count : Fld := ⟨0x130000, 0x0, 0x48, 4, 31, 0, .ro, 0, []⟩
/-- RS_FCOUNT (R214). -/
def RS_FCOUNT.row : RegRow := ⟨"RS_FCOUNT", 1, [RS_FCOUNT.count]⟩

def RS_LO_MEAS.khz : Fld := ⟨0x130000, 0x0, 0x4c, 4, 31, 0, .ro, 0, []⟩
/-- RS_LO_MEAS (R214). -/
def RS_LO_MEAS.row : RegRow := ⟨"RS_LO_MEAS", 1, [RS_LO_MEAS.khz]⟩

def RS_UNLOCK_CNT.count : Fld := ⟨0x130000, 0x0, 0x50, 4, 31, 0, .rc, 0, []⟩
/-- RS_UNLOCK_CNT (R214). -/
def RS_UNLOCK_CNT.row : RegRow := ⟨"RS_UNLOCK_CNT", 1, [RS_UNLOCK_CNT.count]⟩

def RS_RETRY_CNT.count : Fld := ⟨0x130000, 0x0, 0x54, 4, 31, 0, .rc, 0, []⟩
/-- RS_RETRY_CNT (R214). -/
def RS_RETRY_CNT.row : RegRow := ⟨"RS_RETRY_CNT", 1, [RS_RETRY_CNT.count]⟩

/-- The register rows of RS (R214). -/
def rowsRS : List RegRow :=
  [RS_LO_NOM_LO.row, RS_LO_NOM_HI.row, RS_FB_INT.row, RS_FB_NUM.row, RS_FB_DEN.row, RS_LOCK_CFG.row, RS_CTRL.row, RS_STAT.row] ++
  [RS_EVENT.row, RS_FCOUNT.row, RS_LO_MEAS.row, RS_UNLOCK_CNT.row, RS_RETRY_CNT.row]

def SYN_CFG.en : Fld := ⟨0x130800, 0x800, 0x0, 4, 31, 31, .rw, 0, []⟩
def SYN_CFG.aux : Fld := ⟨0x130800, 0x800, 0x0, 4, 30, 30, .ro, 0, []⟩
def SYN_CFG.auto_ret : Fld := ⟨0x130800, 0x800, 0x0, 4, 29, 29, .rw, 1, []⟩
def SYN_CFG.sec_align : Fld := ⟨0x130800, 0x800, 0x0, 4, 28, 28, .rw, 0, []⟩
def SYN_CFG.steer : Fld := ⟨0x130800, 0x800, 0x0, 4, 27, 24, .ro, 15, []⟩
/-- SYN_CFG (R215). -/
def SYN_CFG.row : RegRow := ⟨"SYN_CFG", 1, [SYN_CFG.en, SYN_CFG.aux, SYN_CFG.auto_ret, SYN_CFG.sec_align, SYN_CFG.steer]⟩

def SYN_FB_LO.frac_lo : Fld := ⟨0x130800, 0x800, 0x4, 4, 31, 0, .lRwe, 0, []⟩
/-- SYN_FB_LO (R215). -/
def SYN_FB_LO.row : RegRow := ⟨"SYN_FB_LO", 1, [SYN_FB_LO.frac_lo]⟩

def SYN_FB_HI.n_int : Fld := ⟨0x130800, 0x800, 0x8, 4, 12, 8, .hRwe, 16, []⟩
def SYN_FB_HI.frac_hi : Fld := ⟨0x130800, 0x800, 0x8, 4, 7, 0, .hRwe, 0, []⟩
/-- SYN_FB_HI (R215). -/
def SYN_FB_HI.row : RegRow := ⟨"SYN_FB_HI", 1, [SYN_FB_HI.n_int, SYN_FB_HI.frac_hi]⟩

def SYN_LOCK_CFG.win : Fld := ⟨0x130800, 0x800, 0xc, 4, 7, 0, .rw, 4, []⟩
/-- SYN_LOCK_CFG (R215). -/
def SYN_LOCK_CFG.row : RegRow := ⟨"SYN_LOCK_CFG", 1, [SYN_LOCK_CFG.win]⟩

def SYN_DIV_STAGE.phase : Fld := ⟨0x130800, 0x800, 0x10, 4, 31, 24, .rw, 0, []⟩
def SYN_DIV_STAGE.div : Fld := ⟨0x130800, 0x800, 0x10, 4, 23, 0, .rw, 0, []⟩
/-- SYN_DIV_STAGE (R215). -/
def SYN_DIV_STAGE.row : RegRow := ⟨"SYN_DIV_STAGE", 6, [SYN_DIV_STAGE.phase, SYN_DIV_STAGE.div]⟩

def SYN_DIV_ACT.phase : Fld := ⟨0x130800, 0x800, 0x28, 4, 31, 24, .ro, 0, []⟩
def SYN_DIV_ACT.div : Fld := ⟨0x130800, 0x800, 0x28, 4, 23, 0, .ro, 0, []⟩
/-- SYN_DIV_ACT (R215). -/
def SYN_DIV_ACT.row : RegRow := ⟨"SYN_DIV_ACT", 6, [SYN_DIV_ACT.phase, SYN_DIV_ACT.div]⟩

def SYN_CTRL.relock : Fld := ⟨0x130800, 0x800, 0x40, 4, 2, 2, .wp, 0, []⟩
def SYN_CTRL.ret : Fld := ⟨0x130800, 0x800, 0x40, 4, 1, 1, .wp, 0, []⟩
def SYN_CTRL.commit : Fld := ⟨0x130800, 0x800, 0x40, 4, 0, 0, .wp, 0, []⟩
/-- SYN_CTRL (R215). -/
def SYN_CTRL.row : RegRow := ⟨"SYN_CTRL", 1, [SYN_CTRL.relock, SYN_CTRL.ret, SYN_CTRL.commit]⟩

def SYN_SSC.en : Fld := ⟨0x130800, 0x800, 0x44, 4, 31, 31, .rw, 0, []⟩
def SYN_SSC.mode : Fld := ⟨0x130800, 0x800, 0x44, 4, 30, 30, .rw, 0, []⟩
def SYN_SSC.rate : Fld := ⟨0x130800, 0x800, 0x44, 4, 15, 8, .rw, 60, []⟩
def SYN_SSC.dev : Fld := ⟨0x130800, 0x800, 0x44, 4, 7, 0, .rw, 50, []⟩
/-- SYN_SSC (R215). -/
def SYN_SSC.row : RegRow := ⟨"SYN_SSC", 1, [SYN_SSC.en, SYN_SSC.mode, SYN_SSC.rate, SYN_SSC.dev]⟩

def SYN_DITHER.en : Fld := ⟨0x130800, 0x800, 0x48, 4, 31, 31, .rw, 0, []⟩
def SYN_DITHER.amp : Fld := ⟨0x130800, 0x800, 0x48, 4, 29, 28, .rw, 0, []⟩
def SYN_DITHER.seed : Fld := ⟨0x130800, 0x800, 0x48, 4, 23, 0, .rw, 1, []⟩
/-- SYN_DITHER (R215). -/
def SYN_DITHER.row : RegRow := ⟨"SYN_DITHER", 1, [SYN_DITHER.en, SYN_DITHER.amp, SYN_DITHER.seed]⟩

def SYN_STAT.state : Fld := ⟨0x130800, 0x800, 0x80, 4, 31, 29, .ro, 0, []⟩
def SYN_STAT.cause : Fld := ⟨0x130800, 0x800, 0x80, 4, 28, 25, .ro, 0, []⟩
def SYN_STAT.commit_pend : Fld := ⟨0x130800, 0x800, 0x80, 4, 24, 24, .ro, 0, []⟩
def SYN_STAT.phase_busy : Fld := ⟨0x130800, 0x800, 0x80, 4, 23, 23, .ro, 0, []⟩
def SYN_STAT.phase_lost : Fld := ⟨0x130800, 0x800, 0x80, 4, 22, 22, .ro, 1, []⟩
def SYN_STAT.int_mode : Fld := ⟨0x130800, 0x800, 0x80, 4, 21, 21, .ro, 1, []⟩
def SYN_STAT.ssc_on : Fld := ⟨0x130800, 0x800, 0x80, 4, 20, 20, .ro, 0, []⟩
def SYN_STAT.fast_out : Fld := ⟨0x130800, 0x800, 0x80, 4, 19, 16, .ro, 15, []⟩
def SYN_STAT.vco_band : Fld := ⟨0x130800, 0x800, 0x80, 4, 15, 8, .ro, 0, []⟩
def SYN_STAT.byp : Fld := ⟨0x130800, 0x800, 0x80, 4, 5, 0, .ro, 63, []⟩
/-- SYN_STAT (R215). -/
def SYN_STAT.row : RegRow := ⟨"SYN_STAT", 1, [SYN_STAT.state, SYN_STAT.cause, SYN_STAT.commit_pend, SYN_STAT.phase_busy, SYN_STAT.phase_lost, SYN_STAT.int_mode, SYN_STAT.ssc_on, SYN_STAT.fast_out, SYN_STAT.vco_band, SYN_STAT.byp]⟩

def SYN_EVENT.phase_disc : Fld := ⟨0x130800, 0x800, 0x84, 4, 5, 5, .rc, 0, []⟩
def SYN_EVENT.returned : Fld := ⟨0x130800, 0x800, 0x84, 4, 4, 4, .rc, 0, []⟩
def SYN_EVENT.lock_lost : Fld := ⟨0x130800, 0x800, 0x84, 4, 3, 3, .rc, 0, []⟩
def SYN_EVENT.lock : Fld := ⟨0x130800, 0x800, 0x84, 4, 2, 2, .rc, 0, []⟩
def SYN_EVENT.commit_refused : Fld := ⟨0x130800, 0x800, 0x84, 4, 1, 1, .rc, 0, []⟩
def SYN_EVENT.commit_done : Fld := ⟨0x130800, 0x800, 0x84, 4, 0, 0, .rc, 0, []⟩
/-- SYN_EVENT (R215). -/
def SYN_EVENT.row : RegRow := ⟨"SYN_EVENT", 1, [SYN_EVENT.phase_disc, SYN_EVENT.returned, SYN_EVENT.lock_lost, SYN_EVENT.lock, SYN_EVENT.commit_refused, SYN_EVENT.commit_done]⟩

def SYN_PHASE_PEND.pend : Fld := ⟨0x130800, 0x800, 0x88, 4, 31, 0, .ro, 0, []⟩
/-- SYN_PHASE_PEND (R215). -/
def SYN_PHASE_PEND.row : RegRow := ⟨"SYN_PHASE_PEND", 1, [SYN_PHASE_PEND.pend]⟩

def SYN_FCOUNT.count : Fld := ⟨0x130800, 0x800, 0x8c, 4, 31, 0, .ro, 0, []⟩
/-- SYN_FCOUNT (R215). -/
def SYN_FCOUNT.row : RegRow := ⟨"SYN_FCOUNT", 1, [SYN_FCOUNT.count]⟩

def SYN_UNLOCK_CNT.count : Fld := ⟨0x130800, 0x800, 0x90, 4, 31, 0, .rc, 0, []⟩
/-- SYN_UNLOCK_CNT (R215). -/
def SYN_UNLOCK_CNT.row : RegRow := ⟨"SYN_UNLOCK_CNT", 1, [SYN_UNLOCK_CNT.count]⟩

def SYN_CFG_REJECT.valid : Fld := ⟨0x130800, 0x800, 0x94, 4, 31, 31, .rc, 0, []⟩
def SYN_CFG_REJECT.count : Fld := ⟨0x130800, 0x800, 0x94, 4, 15, 8, .rc, 0, []⟩
def SYN_CFG_REJECT.word : Fld := ⟨0x130800, 0x800, 0x94, 4, 7, 0, .rc, 0, []⟩
/-- SYN_CFG_REJECT (R215). -/
def SYN_CFG_REJECT.row : RegRow := ⟨"SYN_CFG_REJECT", 1, [SYN_CFG_REJECT.valid, SYN_CFG_REJECT.count, SYN_CFG_REJECT.word]⟩

/-- The register rows of SYN (R215). -/
def rowsSYN : List RegRow :=
  [SYN_CFG.row, SYN_FB_LO.row, SYN_FB_HI.row, SYN_LOCK_CFG.row, SYN_DIV_STAGE.row, SYN_DIV_ACT.row, SYN_CTRL.row, SYN_SSC.row] ++
  [SYN_DITHER.row, SYN_STAT.row, SYN_EVENT.row, SYN_PHASE_PEND.row, SYN_FCOUNT.row, SYN_UNLOCK_CNT.row, SYN_CFG_REJECT.row]

def OUT_CFG.en : Fld := ⟨0x140000, 0x100, 0x0, 4, 31, 31, .rw, 0, []⟩
def OUT_CFG.std : Fld := ⟨0x140000, 0x100, 0x0, 4, 30, 28, .rwe, 0, []⟩
def OUT_CFG.p_en : Fld := ⟨0x140000, 0x100, 0x0, 4, 27, 27, .rw, 1, []⟩
def OUT_CFG.n_en : Fld := ⟨0x140000, 0x100, 0x0, 4, 26, 26, .rw, 0, []⟩
def OUT_CFG.n_inv : Fld := ⟨0x140000, 0x100, 0x0, 4, 25, 25, .rw, 0, []⟩
def OUT_CFG.drive : Fld := ⟨0x140000, 0x100, 0x0, 4, 24, 23, .rw, 2, []⟩
def OUT_CFG.hiz : Fld := ⟨0x140000, 0x100, 0x0, 4, 22, 22, .rw, 0, []⟩
def OUT_CFG.byp_src : Fld := ⟨0x140000, 0x100, 0x0, 4, 21, 20, .rw, 0, []⟩
def OUT_CFG.force_byp : Fld := ⟨0x140000, 0x100, 0x0, 4, 19, 19, .rw, 0, []⟩
def OUT_CFG.src : Fld := ⟨0x140000, 0x100, 0x0, 4, 16, 16, .ro, 0, []⟩
def OUT_CFG.pal_src : Fld := ⟨0x140000, 0x100, 0x0, 4, 4, 0, .ro, 0, []⟩
/-- OUT_CFG (R216). -/
def OUT_CFG.row : RegRow := ⟨"OUT_CFG", 1, [OUT_CFG.en, OUT_CFG.std, OUT_CFG.p_en, OUT_CFG.n_en, OUT_CFG.n_inv, OUT_CFG.drive, OUT_CFG.hiz, OUT_CFG.byp_src, OUT_CFG.force_byp, OUT_CFG.src, OUT_CFG.pal_src]⟩

def OUT_BYP.byp_div : Fld := ⟨0x140000, 0x100, 0x4, 4, 23, 0, .rw, 0, []⟩
/-- OUT_BYP (R216). -/
def OUT_BYP.row : RegRow := ⟨"OUT_BYP", 1, [OUT_BYP.byp_div]⟩

def OUT_STAT.cur : Fld := ⟨0x140000, 0x100, 0x8, 4, 31, 29, .ro, 0, []⟩
def OUT_STAT.pal_low : Fld := ⟨0x140000, 0x100, 0x8, 4, 28, 28, .ro, 0, []⟩
/-- OUT_STAT (R216). -/
def OUT_STAT.row : RegRow := ⟨"OUT_STAT", 1, [OUT_STAT.cur, OUT_STAT.pal_low]⟩

def OUT_CFG_REJECT.valid : Fld := ⟨0x140000, 0x100, 0xc, 4, 31, 31, .rc, 0, []⟩
def OUT_CFG_REJECT.count : Fld := ⟨0x140000, 0x100, 0xc, 4, 15, 8, .rc, 0, []⟩
def OUT_CFG_REJECT.word : Fld := ⟨0x140000, 0x100, 0xc, 4, 7, 0, .rc, 0, []⟩
/-- OUT_CFG_REJECT (R216). -/
def OUT_CFG_REJECT.row : RegRow := ⟨"OUT_CFG_REJECT", 1, [OUT_CFG_REJECT.valid, OUT_CFG_REJECT.count, OUT_CFG_REJECT.word]⟩

/-- The register rows of OUT (R216). -/
def rowsOUT : List RegRow :=
  [OUT_CFG.row, OUT_BYP.row, OUT_STAT.row, OUT_CFG_REJECT.row]

def PAL_PA_CFG.en : Fld := ⟨0x150000, 0x40, 0x0, 4, 31, 31, .rw, 0, []⟩
def PAL_PA_CFG.mode : Fld := ⟨0x150000, 0x40, 0x0, 4, 30, 29, .rwe, 0, []⟩
def PAL_PA_CFG.src : Fld := ⟨0x150000, 0x40, 0x0, 4, 28, 24, .rwe, 0, []⟩
def PAL_PA_CFG.pol : Fld := ⟨0x150000, 0x40, 0x0, 4, 23, 23, .rw, 0, []⟩
def PAL_PA_CFG.tod_en : Fld := ⟨0x150000, 0x40, 0x0, 4, 22, 22, .rwe, 0, []⟩
def PAL_PA_CFG.tod_pin : Fld := ⟨0x150000, 0x40, 0x0, 4, 21, 21, .rwe, 0, []⟩
def PAL_PA_CFG.baud : Fld := ⟨0x150000, 0x40, 0x0, 4, 20, 18, .rwe, 4, []⟩
/-- PAL_PA_CFG (R217). -/
def PAL_PA_CFG.row : RegRow := ⟨"PAL_PA_CFG", 1, [PAL_PA_CFG.en, PAL_PA_CFG.mode, PAL_PA_CFG.src, PAL_PA_CFG.pol, PAL_PA_CFG.tod_en, PAL_PA_CFG.tod_pin, PAL_PA_CFG.baud]⟩

def PAL_PA_PERIOD.period : Fld := ⟨0x150000, 0x40, 0x4, 4, 29, 0, .rwe, 0x3b9aca00, []⟩
/-- PAL_PA_PERIOD (R217). -/
def PAL_PA_PERIOD.row : RegRow := ⟨"PAL_PA_PERIOD", 1, [PAL_PA_PERIOD.period]⟩

def PAL_PA_WIDTH.width : Fld := ⟨0x150000, 0x40, 0x8, 4, 23, 0, .rw, 0xf424, []⟩
/-- PAL_PA_WIDTH (R217). -/
def PAL_PA_WIDTH.row : RegRow := ⟨"PAL_PA_WIDTH", 1, [PAL_PA_WIDTH.width]⟩

def PAL_PA_OFFS_LO.offs_lo : Fld := ⟨0x150000, 0x40, 0xc, 4, 31, 0, .lRw, 0, []⟩
/-- PAL_PA_OFFS_LO (R217). -/
def PAL_PA_OFFS_LO.row : RegRow := ⟨"PAL_PA_OFFS_LO", 1, [PAL_PA_OFFS_LO.offs_lo]⟩

def PAL_PA_OFFS_HI.offs_hi : Fld := ⟨0x150000, 0x40, 0x10, 4, 15, 0, .hRw, 0, []⟩
/-- PAL_PA_OFFS_HI (R217). -/
def PAL_PA_OFFS_HI.row : RegRow := ⟨"PAL_PA_OFFS_HI", 1, [PAL_PA_OFFS_HI.offs_hi]⟩

def PAL_PA_MAXSTEP.maxstep : Fld := ⟨0x150000, 0x40, 0x14, 4, 23, 0, .rw, 0, []⟩
/-- PAL_PA_MAXSTEP (R217). -/
def PAL_PA_MAXSTEP.row : RegRow := ⟨"PAL_PA_MAXSTEP", 1, [PAL_PA_MAXSTEP.maxstep]⟩

def PAL_PA_TOD.cclass : Fld := ⟨0x150000, 0x40, 0x18, 4, 31, 24, .rw, 248, []⟩
def PAL_PA_TOD.flags : Fld := ⟨0x150000, 0x40, 0x18, 4, 20, 16, .rw, 0, []⟩
def PAL_PA_TOD.utc_offset : Fld := ⟨0x150000, 0x40, 0x18, 4, 15, 0, .rw, 0, []⟩
/-- PAL_PA_TOD (R217). -/
def PAL_PA_TOD.row : RegRow := ⟨"PAL_PA_TOD", 1, [PAL_PA_TOD.cclass, PAL_PA_TOD.flags, PAL_PA_TOD.utc_offset]⟩

def PAL_PA_STAT.state : Fld := ⟨0x150000, 0x40, 0x1c, 4, 31, 29, .ro, 0, []⟩
def PAL_PA_STAT.cause : Fld := ⟨0x150000, 0x40, 0x1c, 4, 28, 25, .ro, 0, []⟩
def PAL_PA_STAT.slewing : Fld := ⟨0x150000, 0x40, 0x1c, 4, 24, 24, .ro, 0, []⟩
/-- PAL_PA_STAT (R217). -/
def PAL_PA_STAT.row : RegRow := ⟨"PAL_PA_STAT", 1, [PAL_PA_STAT.state, PAL_PA_STAT.cause, PAL_PA_STAT.slewing]⟩

def PAL_PA_EDGE_FRAC.frac : Fld := ⟨0x150000, 0x40, 0x20, 4, 15, 0, .lRo, 0, []⟩
/-- PAL_PA_EDGE_FRAC (R217). -/
def PAL_PA_EDGE_FRAC.row : RegRow := ⟨"PAL_PA_EDGE_FRAC", 1, [PAL_PA_EDGE_FRAC.frac]⟩

def PAL_PA_EDGE_NS.ns : Fld := ⟨0x150000, 0x40, 0x24, 4, 31, 0, .hRo, 0, []⟩
/-- PAL_PA_EDGE_NS (R217). -/
def PAL_PA_EDGE_NS.row : RegRow := ⟨"PAL_PA_EDGE_NS", 1, [PAL_PA_EDGE_NS.ns]⟩

def PAL_PA_EDGE_SEC_LO.sec_lo : Fld := ⟨0x150000, 0x40, 0x28, 4, 31, 0, .hRo, 0, []⟩
/-- PAL_PA_EDGE_SEC_LO (R217). -/
def PAL_PA_EDGE_SEC_LO.row : RegRow := ⟨"PAL_PA_EDGE_SEC_LO", 1, [PAL_PA_EDGE_SEC_LO.sec_lo]⟩

def PAL_PA_EDGE_SEC_HI.sec_hi : Fld := ⟨0x150000, 0x40, 0x2c, 4, 15, 0, .hRo, 0, []⟩
/-- PAL_PA_EDGE_SEC_HI (R217). -/
def PAL_PA_EDGE_SEC_HI.row : RegRow := ⟨"PAL_PA_EDGE_SEC_HI", 1, [PAL_PA_EDGE_SEC_HI.sec_hi]⟩

def PAL_PA_EVENT.tod_sent : Fld := ⟨0x150000, 0x40, 0x30, 4, 3, 3, .rc, 0, []⟩
def PAL_PA_EVENT.hold : Fld := ⟨0x150000, 0x40, 0x30, 4, 2, 2, .rc, 0, []⟩
def PAL_PA_EVENT.run : Fld := ⟨0x150000, 0x40, 0x30, 4, 1, 1, .rc, 0, []⟩
def PAL_PA_EVENT.stopped : Fld := ⟨0x150000, 0x40, 0x30, 4, 0, 0, .rc, 0, []⟩
/-- PAL_PA_EVENT (R217). -/
def PAL_PA_EVENT.row : RegRow := ⟨"PAL_PA_EVENT", 1, [PAL_PA_EVENT.tod_sent, PAL_PA_EVENT.hold, PAL_PA_EVENT.run, PAL_PA_EVENT.stopped]⟩

def PAL_PA_CFG_REJECT.valid : Fld := ⟨0x150000, 0x40, 0x34, 4, 31, 31, .rc, 0, []⟩
def PAL_PA_CFG_REJECT.count : Fld := ⟨0x150000, 0x40, 0x34, 4, 15, 8, .rc, 0, []⟩
def PAL_PA_CFG_REJECT.word : Fld := ⟨0x150000, 0x40, 0x34, 4, 7, 0, .rc, 0, []⟩
/-- PAL_PA_CFG_REJECT (R217). -/
def PAL_PA_CFG_REJECT.row : RegRow := ⟨"PAL_PA_CFG_REJECT", 1, [PAL_PA_CFG_REJECT.valid, PAL_PA_CFG_REJECT.count, PAL_PA_CFG_REJECT.word]⟩

def PAL_PA_RESID.resid : Fld := ⟨0x150000, 0x40, 0x38, 4, 31, 0, .ro, 0, []⟩
/-- PAL_PA_RESID (R217). -/
def PAL_PA_RESID.row : RegRow := ⟨"PAL_PA_RESID", 1, [PAL_PA_RESID.resid]⟩

/-- The register rows of PA (R217). -/
def rowsPA : List RegRow :=
  [PAL_PA_CFG.row, PAL_PA_PERIOD.row, PAL_PA_WIDTH.row, PAL_PA_OFFS_LO.row, PAL_PA_OFFS_HI.row, PAL_PA_MAXSTEP.row, PAL_PA_TOD.row, PAL_PA_STAT.row] ++
  [PAL_PA_EDGE_FRAC.row, PAL_PA_EDGE_NS.row, PAL_PA_EDGE_SEC_LO.row, PAL_PA_EDGE_SEC_HI.row, PAL_PA_EVENT.row, PAL_PA_CFG_REJECT.row, PAL_PA_RESID.row]

def TIM_CFG.en : Fld := ⟨0x160000, 0x0, 0x0, 4, 31, 31, .rw, 0, []⟩
def TIM_CFG.mode : Fld := ⟨0x160000, 0x0, 0x0, 4, 30, 29, .rwe, 0, []⟩
def TIM_CFG.tbase : Fld := ⟨0x160000, 0x0, 0x0, 4, 28, 28, .rwe, 0, []⟩
def TIM_CFG.gate_src : Fld := ⟨0x160000, 0x0, 0x0, 4, 27, 26, .rwe, 0, []⟩
def TIM_CFG.gate_pol : Fld := ⟨0x160000, 0x0, 0x0, 4, 25, 25, .rwe, 0, []⟩
def TIM_CFG.rep : Fld := ⟨0x160000, 0x0, 0x0, 4, 24, 24, .rwe, 0, []⟩
def TIM_CFG.stamp_q : Fld := ⟨0x160000, 0x0, 0x0, 4, 23, 23, .rwe, 0, []⟩
def TIM_CFG.cal_hold : Fld := ⟨0x160000, 0x0, 0x0, 4, 22, 22, .rw, 0, []⟩
def TIM_CFG.start_edge : Fld := ⟨0x160000, 0x0, 0x0, 4, 21, 21, .rwe, 0, []⟩
def TIM_CFG.stop_edge : Fld := ⟨0x160000, 0x0, 0x0, 4, 20, 20, .rwe, 0, []⟩
/-- TIM_CFG (R241). -/
def TIM_CFG.row : RegRow := ⟨"TIM_CFG", 1, [TIM_CFG.en, TIM_CFG.mode, TIM_CFG.tbase, TIM_CFG.gate_src, TIM_CFG.gate_pol, TIM_CFG.rep, TIM_CFG.stamp_q, TIM_CFG.cal_hold, TIM_CFG.start_edge, TIM_CFG.stop_edge]⟩

def TIM_SRC.start_src : Fld := ⟨0x160000, 0x0, 0x4, 4, 13, 8, .rwe, 0, []⟩
def TIM_SRC.stop_src : Fld := ⟨0x160000, 0x0, 0x4, 4, 5, 0, .rwe, 1, []⟩
/-- TIM_SRC (R241). -/
def TIM_SRC.row : RegRow := ⟨"TIM_SRC", 1, [TIM_SRC.start_src, TIM_SRC.stop_src]⟩

def TIM_PRESCALE.n : Fld := ⟨0x160000, 0x0, 0x8, 4, 23, 0, .rwe, 1, []⟩
/-- TIM_PRESCALE (R241). -/
def TIM_PRESCALE.row : RegRow := ⟨"TIM_PRESCALE", 1, [TIM_PRESCALE.n]⟩

def TIM_GATE_LEN.len : Fld := ⟨0x160000, 0x0, 0xc, 4, 31, 0, .rw, 0xf4240, []⟩
/-- TIM_GATE_LEN (R241). -/
def TIM_GATE_LEN.row : RegRow := ⟨"TIM_GATE_LEN", 1, [TIM_GATE_LEN.len]⟩

def TIM_NOM_LO.nom_lo : Fld := ⟨0x160000, 0x0, 0x10, 4, 31, 0, .lRwe, 0x98968000, []⟩
/-- TIM_NOM_LO (R241). -/
def TIM_NOM_LO.row : RegRow := ⟨"TIM_NOM_LO", 1, [TIM_NOM_LO.nom_lo]⟩

def TIM_NOM_HI.nom_hi : Fld := ⟨0x160000, 0x0, 0x14, 4, 7, 0, .hRwe, 0, []⟩
/-- TIM_NOM_HI (R241). -/
def TIM_NOM_HI.row : RegRow := ⟨"TIM_NOM_HI", 1, [TIM_NOM_HI.nom_hi]⟩

def TIM_REF_CFG.use : Fld := ⟨0x160000, 0x0, 0x18, 4, 31, 31, .rw, 1, []⟩
def TIM_REF_CFG.ac : Fld := ⟨0x160000, 0x0, 0x18, 4, 30, 30, .rw, 0, []⟩
def TIM_REF_CFG.win : Fld := ⟨0x160000, 0x0, 0x18, 4, 7, 0, .rw, 4, []⟩
/-- TIM_REF_CFG (R241). -/
def TIM_REF_CFG.row : RegRow := ⟨"TIM_REF_CFG", 1, [TIM_REF_CFG.use, TIM_REF_CFG.ac, TIM_REF_CFG.win]⟩

def TIM_CTRL.abort : Fld := ⟨0x160000, 0x0, 0x1c, 4, 1, 1, .wp, 0, []⟩
def TIM_CTRL.arm : Fld := ⟨0x160000, 0x0, 0x1c, 4, 0, 0, .wp, 0, []⟩
/-- TIM_CTRL (R241). -/
def TIM_CTRL.row : RegRow := ⟨"TIM_CTRL", 1, [TIM_CTRL.abort, TIM_CTRL.arm]⟩

def TIM_STAT.state : Fld := ⟨0x160000, 0x0, 0x40, 4, 31, 29, .ro, 0, []⟩
def TIM_STAT.tb_state : Fld := ⟨0x160000, 0x0, 0x40, 4, 28, 27, .ro, 0, []⟩
def TIM_STAT.tb_used : Fld := ⟨0x160000, 0x0, 0x40, 4, 26, 26, .ro, 0, []⟩
def TIM_STAT.abort_st : Fld := ⟨0x160000, 0x0, 0x40, 4, 25, 24, .ro, 0, []⟩
def TIM_STAT.endCode : Fld := ⟨0x160000, 0x0, 0x40, 4, 23, 20, .ro, 0, []⟩
def TIM_STAT.cfg_bad : Fld := ⟨0x160000, 0x0, 0x40, 4, 19, 19, .ro, 0, []⟩
def TIM_STAT.meas : Fld := ⟨0x160000, 0x0, 0x40, 4, 15, 0, .ro, 0, []⟩
/-- TIM_STAT (R241). -/
def TIM_STAT.row : RegRow := ⟨"TIM_STAT", 1, [TIM_STAT.state, TIM_STAT.tb_state, TIM_STAT.tb_used, TIM_STAT.abort_st, TIM_STAT.endCode, TIM_STAT.cfg_bad, TIM_STAT.meas]⟩

def TIM_EVENT.arm_ignored : Fld := ⟨0x160000, 0x0, 0x44, 4, 8, 8, .rc, 0, []⟩
def TIM_EVENT.lost : Fld := ⟨0x160000, 0x0, 0x44, 4, 7, 7, .rc, 0, []⟩
def TIM_EVENT.buf_ovf : Fld := ⟨0x160000, 0x0, 0x44, 4, 6, 6, .rc, 0, []⟩
def TIM_EVENT.tb_locked : Fld := ⟨0x160000, 0x0, 0x44, 4, 5, 5, .rc, 0, []⟩
def TIM_EVENT.tb_lost : Fld := ⟨0x160000, 0x0, 0x44, 4, 4, 4, .rc, 0, []⟩
def TIM_EVENT.order : Fld := ⟨0x160000, 0x0, 0x44, 4, 3, 3, .rc, 0, []⟩
def TIM_EVENT.coincident : Fld := ⟨0x160000, 0x0, 0x44, 4, 2, 2, .rc, 0, []⟩
def TIM_EVENT.aborted : Fld := ⟨0x160000, 0x0, 0x44, 4, 1, 1, .rc, 0, []⟩
def TIM_EVENT.result : Fld := ⟨0x160000, 0x0, 0x44, 4, 0, 0, .rc, 0, []⟩
/-- TIM_EVENT (R241). -/
def TIM_EVENT.row : RegRow := ⟨"TIM_EVENT", 1, [TIM_EVENT.arm_ignored, TIM_EVENT.lost, TIM_EVENT.buf_ovf, TIM_EVENT.tb_locked, TIM_EVENT.tb_lost, TIM_EVENT.order, TIM_EVENT.coincident, TIM_EVENT.aborted, TIM_EVENT.result]⟩

def TIM_IV_LO.iv_lo : Fld := ⟨0x160000, 0x0, 0x48, 4, 31, 0, .lRo, 0, []⟩
/-- TIM_IV_LO (R241). -/
def TIM_IV_LO.row : RegRow := ⟨"TIM_IV_LO", 1, [TIM_IV_LO.iv_lo]⟩

def TIM_IV_MID.iv_mid : Fld := ⟨0x160000, 0x0, 0x4c, 4, 31, 0, .hRo, 0, []⟩
/-- TIM_IV_MID (R241). -/
def TIM_IV_MID.row : RegRow := ⟨"TIM_IV_MID", 1, [TIM_IV_MID.iv_mid]⟩

def TIM_IV_HI.iv_hi : Fld := ⟨0x160000, 0x0, 0x50, 4, 31, 0, .hRo, 0, []⟩
/-- TIM_IV_HI (R241). -/
def TIM_IV_HI.row : RegRow := ⟨"TIM_IV_HI", 1, [TIM_IV_HI.iv_hi]⟩

def TIM_Y_LO.y : Fld := ⟨0x160000, 0x0, 0x54, 4, 31, 0, .lRo, 0, []⟩
/-- TIM_Y_LO (R241). -/
def TIM_Y_LO.row : RegRow := ⟨"TIM_Y_LO", 1, [TIM_Y_LO.y]⟩

def TIM_Y_HI.y : Fld := ⟨0x160000, 0x0, 0x58, 4, 31, 0, .hRo, 0, []⟩
/-- TIM_Y_HI (R241). -/
def TIM_Y_HI.row : RegRow := ⟨"TIM_Y_HI", 1, [TIM_Y_HI.y]⟩

def TIM_F_LO.f : Fld := ⟨0x160000, 0x0, 0x5c, 4, 31, 0, .lRo, 0, []⟩
/-- TIM_F_LO (R241). -/
def TIM_F_LO.row : RegRow := ⟨"TIM_F_LO", 1, [TIM_F_LO.f]⟩

def TIM_F_HI.f : Fld := ⟨0x160000, 0x0, 0x60, 4, 31, 0, .hRo, 0, []⟩
/-- TIM_F_HI (R241). -/
def TIM_F_HI.row : RegRow := ⟨"TIM_F_HI", 1, [TIM_F_HI.f]⟩

def TIM_N.n : Fld := ⟨0x160000, 0x0, 0x64, 4, 31, 0, .ro, 0, []⟩
/-- TIM_N (R241). -/
def TIM_N.row : RegRow := ⟨"TIM_N", 1, [TIM_N.n]⟩

def TIM_RES.res : Fld := ⟨0x160000, 0x0, 0x68, 4, 31, 0, .ro, 0, []⟩
/-- TIM_RES (R241). -/
def TIM_RES.row : RegRow := ⟨"TIM_RES", 1, [TIM_RES.res]⟩

def TIM_EARLY_CNT.count : Fld := ⟨0x160000, 0x0, 0x6c, 4, 31, 0, .rc, 0, []⟩
/-- TIM_EARLY_CNT (R241). -/
def TIM_EARLY_CNT.row : RegRow := ⟨"TIM_EARLY_CNT", 1, [TIM_EARLY_CNT.count]⟩

def TIM_DEAD_CNT.count : Fld := ⟨0x160000, 0x0, 0x70, 4, 31, 0, .rc, 0, []⟩
/-- TIM_DEAD_CNT (R241). -/
def TIM_DEAD_CNT.row : RegRow := ⟨"TIM_DEAD_CNT", 1, [TIM_DEAD_CNT.count]⟩

def TIM_BUF_STAT.ovf : Fld := ⟨0x160000, 0x0, 0x74, 4, 31, 31, .ro, 0, []⟩
def TIM_BUF_STAT.count : Fld := ⟨0x160000, 0x0, 0x74, 4, 16, 0, .ro, 0, []⟩
/-- TIM_BUF_STAT (R241). -/
def TIM_BUF_STAT.row : RegRow := ⟨"TIM_BUF_STAT", 1, [TIM_BUF_STAT.ovf, TIM_BUF_STAT.count]⟩

def TIM_CFG_REJECT.valid : Fld := ⟨0x160000, 0x0, 0x78, 4, 31, 31, .rc, 0, []⟩
def TIM_CFG_REJECT.count : Fld := ⟨0x160000, 0x0, 0x78, 4, 15, 8, .rc, 0, []⟩
def TIM_CFG_REJECT.word : Fld := ⟨0x160000, 0x0, 0x78, 4, 7, 0, .rc, 0, []⟩
/-- TIM_CFG_REJECT (R241). -/
def TIM_CFG_REJECT.row : RegRow := ⟨"TIM_CFG_REJECT", 1, [TIM_CFG_REJECT.valid, TIM_CFG_REJECT.count, TIM_CFG_REJECT.word]⟩

def TIM_CAL_SEL.tdc : Fld := ⟨0x160000, 0x0, 0x80, 4, 4, 0, .rw, 20, []⟩
/-- TIM_CAL_SEL (R241). -/
def TIM_CAL_SEL.row : RegRow := ⟨"TIM_CAL_SEL", 1, [TIM_CAL_SEL.tdc]⟩

def TIM_CAL_STAT.valid : Fld := ⟨0x160000, 0x0, 0x84, 4, 31, 31, .ro, 0, []⟩
def TIM_CAL_STAT.nominal : Fld := ⟨0x160000, 0x0, 0x84, 4, 30, 30, .ro, 0, []⟩
def TIM_CAL_STAT.age : Fld := ⟨0x160000, 0x0, 0x84, 4, 29, 16, .ro, 0, []⟩
def TIM_CAL_STAT.span : Fld := ⟨0x160000, 0x0, 0x84, 4, 10, 0, .ro, 0, []⟩
/-- TIM_CAL_STAT (R241). -/
def TIM_CAL_STAT.row : RegRow := ⟨"TIM_CAL_STAT", 1, [TIM_CAL_STAT.valid, TIM_CAL_STAT.nominal, TIM_CAL_STAT.age, TIM_CAL_STAT.span]⟩

def TIM_CAL_BIN.max_w : Fld := ⟨0x160000, 0x0, 0x88, 4, 31, 16, .ro, 0, []⟩
def TIM_CAL_BIN.mean_w : Fld := ⟨0x160000, 0x0, 0x88, 4, 15, 0, .ro, 0, []⟩
/-- TIM_CAL_BIN (R241). -/
def TIM_CAL_BIN.row : RegRow := ⟨"TIM_CAL_BIN", 1, [TIM_CAL_BIN.max_w, TIM_CAL_BIN.mean_w]⟩

def TIM_CAL_IDX.entry : Fld := ⟨0x160000, 0x0, 0x8c, 4, 10, 0, .rw, 0, []⟩
/-- TIM_CAL_IDX (R241). -/
def TIM_CAL_IDX.row : RegRow := ⟨"TIM_CAL_IDX", 1, [TIM_CAL_IDX.entry]⟩

def TIM_CAL_DATA.w : Fld := ⟨0x160000, 0x0, 0x90, 4, 15, 0, .ro, 0, []⟩
/-- TIM_CAL_DATA (R241). -/
def TIM_CAL_DATA.row : RegRow := ⟨"TIM_CAL_DATA", 1, [TIM_CAL_DATA.w]⟩

def TIM_CAL_CTRL.now : Fld := ⟨0x160000, 0x0, 0x94, 4, 0, 0, .wp, 0, []⟩
/-- TIM_CAL_CTRL (R241). -/
def TIM_CAL_CTRL.row : RegRow := ⟨"TIM_CAL_CTRL", 1, [TIM_CAL_CTRL.now]⟩

def TIM_CAL_FAIL_CNT.count : Fld := ⟨0x160000, 0x0, 0x98, 4, 31, 0, .rc, 0, []⟩
/-- TIM_CAL_FAIL_CNT (R241). -/
def TIM_CAL_FAIL_CNT.row : RegRow := ⟨"TIM_CAL_FAIL_CNT", 1, [TIM_CAL_FAIL_CNT.count]⟩

/-- The register rows of TIM (R241). -/
def rowsTIM : List RegRow :=
  [TIM_CFG.row, TIM_SRC.row, TIM_PRESCALE.row, TIM_GATE_LEN.row, TIM_NOM_LO.row, TIM_NOM_HI.row, TIM_REF_CFG.row, TIM_CTRL.row] ++
  [TIM_STAT.row, TIM_EVENT.row, TIM_IV_LO.row, TIM_IV_MID.row, TIM_IV_HI.row, TIM_Y_LO.row, TIM_Y_HI.row, TIM_F_LO.row] ++
  [TIM_F_HI.row, TIM_N.row, TIM_RES.row, TIM_EARLY_CNT.row, TIM_DEAD_CNT.row, TIM_BUF_STAT.row, TIM_CFG_REJECT.row, TIM_CAL_SEL.row] ++
  [TIM_CAL_STAT.row, TIM_CAL_BIN.row, TIM_CAL_IDX.row, TIM_CAL_DATA.row, TIM_CAL_CTRL.row, TIM_CAL_FAIL_CNT.row]

end Sys2Proof.Machine
end

