-- ==== Sys2Proof/Machine/RegsCore.lean ====
section
/-! DEFINITION. The register tables of the candidate, channel, Glacier and rotor blocks: one constant per field, one row per register.
Reserved bits have no field: they read 0 and ignore writes (R20). Where the spec's table says `state` or `pin`, the
field starts at 0 here and the operation that the spec names loads it (log entry 3). -/

namespace Sys2Proof.Machine

def REF_CFG.en : Fld := ⟨0x100000, 0x400, 0x0, 4, 31, 31, .rw, 0, []⟩
def REF_CFG.recMode : Fld := ⟨0x100000, 0x400, 0x0, 4, 11, 10, .rw, 0, []⟩
def REF_CFG.ctype : Fld := ⟨0x100000, 0x400, 0x0, 4, 9, 9, .rwe, 0, []⟩
def REF_CFG.leg : Fld := ⟨0x100000, 0x400, 0x0, 4, 8, 8, .rwe, 0, []⟩
def REF_CFG.term : Fld := ⟨0x100000, 0x400, 0x0, 4, 7, 6, .rwe, 0, []⟩
def REF_CFG.edge : Fld := ⟨0x100000, 0x400, 0x0, 4, 4, 4, .rwe, 0, []⟩
def REF_CFG.mode : Fld := ⟨0x100000, 0x400, 0x0, 4, 2, 0, .rwe, 0, []⟩
/-- REF_CFG (R92). -/
def REF_CFG.row : RegRow := ⟨"REF_CFG", 1, [REF_CFG.en, REF_CFG.recMode, REF_CFG.ctype, REF_CFG.leg, REF_CFG.term, REF_CFG.edge, REF_CFG.mode]⟩

def REF_PREDIV.prediv : Fld := ⟨0x100000, 0x400, 0x4, 4, 23, 0, .rwe, 1, []⟩
/-- REF_PREDIV (R92). -/
def REF_PREDIV.row : RegRow := ⟨"REF_PREDIV", 1, [REF_PREDIV.prediv]⟩

def REF_NOM_LO.nom_lo : Fld := ⟨0x100000, 0x400, 0x8, 4, 31, 0, .lRwe, 0, []⟩
/-- REF_NOM_LO (R92). -/
def REF_NOM_LO.row : RegRow := ⟨"REF_NOM_LO", 1, [REF_NOM_LO.nom_lo]⟩

def REF_NOM_HI.nom_hi : Fld := ⟨0x100000, 0x400, 0xc, 4, 7, 0, .hRwe, 0, []⟩
/-- REF_NOM_HI (R92). -/
def REF_NOM_HI.row : RegRow := ⟨"REF_NOM_HI", 1, [REF_NOM_HI.nom_hi]⟩

def REF_EST_CFG.outlier : Fld := ⟨0x100000, 0x400, 0x10, 4, 23, 16, .rw, 64, []⟩
def REF_EST_CFG.bw : Fld := ⟨0x100000, 0x400, 0x10, 4, 12, 8, .rw, 6, []⟩
def REF_EST_CFG.qgate : Fld := ⟨0x100000, 0x400, 0x10, 4, 4, 0, .rw, 10, []⟩
/-- REF_EST_CFG (R92). -/
def REF_EST_CFG.row : RegRow := ⟨"REF_EST_CFG", 1, [REF_EST_CFG.outlier, REF_EST_CFG.bw, REF_EST_CFG.qgate]⟩

def REF_QUAL_CFG.wtr : Fld := ⟨0x100000, 0x400, 0x14, 4, 31, 20, .rw, 300, []⟩
def REF_QUAL_CFG.qual_time : Fld := ⟨0x100000, 0x400, 0x14, 4, 19, 8, .rw, 100, []⟩
def REF_QUAL_CFG.act_lim : Fld := ⟨0x100000, 0x400, 0x14, 4, 7, 4, .rw, 3, []⟩
def REF_QUAL_CFG.pw_en : Fld := ⟨0x100000, 0x400, 0x14, 4, 3, 3, .rw, 0, []⟩
/-- REF_QUAL_CFG (R92). -/
def REF_QUAL_CFG.row : RegRow := ⟨"REF_QUAL_CFG", 1, [REF_QUAL_CFG.wtr, REF_QUAL_CFG.qual_time, REF_QUAL_CFG.act_lim, REF_QUAL_CFG.pw_en]⟩

def REF_ACC_LIM.lim : Fld := ⟨0x100000, 0x400, 0x18, 4, 23, 0, .rw, 0x4d2ce, []⟩
/-- REF_ACC_LIM (R92). -/
def REF_ACC_LIM.row : RegRow := ⟨"REF_ACC_LIM", 1, [REF_ACC_LIM.lim]⟩

def REF_REJ_LIM.lim : Fld := ⟨0x100000, 0x400, 0x1c, 4, 23, 0, .rw, 0x9a59b, []⟩
/-- REF_REJ_LIM (R92). -/
def REF_REJ_LIM.row : RegRow := ⟨"REF_REJ_LIM", 1, [REF_REJ_LIM.lim]⟩

def REF_DRIFT_CFG.horizon : Fld := ⟨0x100000, 0x400, 0x20, 4, 31, 16, .rw, 0xe10, []⟩
def REF_DRIFT_CFG.drift_lim : Fld := ⟨0x100000, 0x400, 0x20, 4, 15, 0, .rw, 110, []⟩
/-- REF_DRIFT_CFG (R92). -/
def REF_DRIFT_CFG.row : RegRow := ⟨"REF_DRIFT_CFG", 1, [REF_DRIFT_CFG.horizon, REF_DRIFT_CFG.drift_lim]⟩

def REF_PW_MIN.pw : Fld := ⟨0x100000, 0x400, 0x24, 4, 31, 0, .rw, 1, []⟩
/-- REF_PW_MIN (R92). -/
def REF_PW_MIN.row : RegRow := ⟨"REF_PW_MIN", 1, [REF_PW_MIN.pw]⟩

def REF_PW_MAX.pw : Fld := ⟨0x100000, 0x400, 0x28, 4, 31, 0, .rw, 0xffffffff, []⟩
/-- REF_PW_MAX (R92). -/
def REF_PW_MAX.row : RegRow := ⟨"REF_PW_MAX", 1, [REF_PW_MAX.pw]⟩

def REF_QL_CFG.ovr_rank : Fld := ⟨0x100000, 0x400, 0x2c, 4, 23, 20, .rw, 13, []⟩
def REF_QL_CFG.ovr_en : Fld := ⟨0x100000, 0x400, 0x2c, 4, 19, 19, .rw, 0, []⟩
def REF_QL_CFG.ql_en : Fld := ⟨0x100000, 0x400, 0x2c, 4, 18, 18, .rw, 0, []⟩
def REF_QL_CFG.floor : Fld := ⟨0x100000, 0x400, 0x2c, 4, 17, 14, .rw, 14, []⟩
def REF_QL_CFG.opt : Fld := ⟨0x100000, 0x400, 0x2c, 4, 13, 13, .rw, 0, []⟩
def REF_QL_CFG.baud : Fld := ⟨0x100000, 0x400, 0x2c, 4, 12, 10, .rw, 4, []⟩
def REF_QL_CFG.tod_raw : Fld := ⟨0x100000, 0x400, 0x2c, 4, 9, 9, .rw, 0, []⟩
def REF_QL_CFG.src : Fld := ⟨0x100000, 0x400, 0x2c, 4, 5, 3, .ro, 0, []⟩
def REF_QL_CFG.src_idx : Fld := ⟨0x100000, 0x400, 0x2c, 4, 2, 0, .ro, 0, []⟩
/-- REF_QL_CFG (R92). -/
def REF_QL_CFG.row : RegRow := ⟨"REF_QL_CFG", 1, [REF_QL_CFG.ovr_rank, REF_QL_CFG.ovr_en, REF_QL_CFG.ql_en, REF_QL_CFG.floor, REF_QL_CFG.opt, REF_QL_CFG.baud, REF_QL_CFG.tod_raw, REF_QL_CFG.src, REF_QL_CFG.src_idx]⟩

def REF_DIS_CFG.phase_lim : Fld := ⟨0x100000, 0x400, 0x30, 4, 31, 16, .rw, 100, []⟩
def REF_DIS_CFG.freq_lim : Fld := ⟨0x100000, 0x400, 0x30, 4, 15, 0, .rw, 0x1ad8, []⟩
/-- REF_DIS_CFG (R92). -/
def REF_DIS_CFG.row : RegRow := ⟨"REF_DIS_CFG", 1, [REF_DIS_CFG.phase_lim, REF_DIS_CFG.freq_lim]⟩

def REF_CTRL.force_disq : Fld := ⟨0x100000, 0x400, 0x34, 4, 2, 2, .rw, 0, []⟩
def REF_CTRL.requal : Fld := ⟨0x100000, 0x400, 0x34, 4, 1, 1, .wp, 0, []⟩
/-- REF_CTRL (R92). -/
def REF_CTRL.row : RegRow := ⟨"REF_CTRL", 1, [REF_CTRL.force_disq, REF_CTRL.requal]⟩

def REF_STATE.phase_epoch : Fld := ⟨0x100000, 0x400, 0x40, 4, 31, 24, .ro, 0, []⟩
def REF_STATE.ql_rank : Fld := ⟨0x100000, 0x400, 0x40, 4, 23, 20, .ro, 13, []⟩
def REF_STATE.disagree : Fld := ⟨0x100000, 0x400, 0x40, 4, 15, 15, .ro, 0, []⟩
def REF_STATE.outvoted : Fld := ⟨0x100000, 0x400, 0x40, 4, 14, 14, .ro, 0, []⟩
def REF_STATE.est_clamp : Fld := ⟨0x100000, 0x400, 0x40, 4, 13, 13, .ro, 0, []⟩
def REF_STATE.tod_ok : Fld := ⟨0x100000, 0x400, 0x40, 4, 12, 12, .ro, 0, []⟩
def REF_STATE.cause : Fld := ⟨0x100000, 0x400, 0x40, 4, 11, 8, .ro, 1, []⟩
def REF_STATE.state : Fld := ⟨0x100000, 0x400, 0x40, 4, 2, 0, .ro, 0, []⟩
/-- REF_STATE (R92). -/
def REF_STATE.row : RegRow := ⟨"REF_STATE", 1, [REF_STATE.phase_epoch, REF_STATE.ql_rank, REF_STATE.disagree, REF_STATE.outvoted, REF_STATE.est_clamp, REF_STATE.tod_ok, REF_STATE.cause, REF_STATE.state]⟩

def REF_EVENT.tod_error : Fld := ⟨0x100000, 0x400, 0x44, 4, 8, 8, .rc, 0, []⟩
def REF_EVENT.no_signal : Fld := ⟨0x100000, 0x400, 0x44, 4, 7, 7, .rc, 0, []⟩
def REF_EVENT.disq : Fld := ⟨0x100000, 0x400, 0x44, 4, 6, 6, .rc, 0, []⟩
def REF_EVENT.degrading : Fld := ⟨0x100000, 0x400, 0x44, 4, 5, 5, .rc, 0, []⟩
def REF_EVENT.qualified : Fld := ⟨0x100000, 0x400, 0x44, 4, 4, 4, .rc, 0, []⟩
def REF_EVENT.disagree_set : Fld := ⟨0x100000, 0x400, 0x44, 4, 3, 3, .rc, 0, []⟩
def REF_EVENT.ql_change : Fld := ⟨0x100000, 0x400, 0x44, 4, 2, 2, .rc, 0, []⟩
def REF_EVENT.phase_jump : Fld := ⟨0x100000, 0x400, 0x44, 4, 1, 1, .rc, 0, []⟩
def REF_EVENT.overrun : Fld := ⟨0x100000, 0x400, 0x44, 4, 0, 0, .rc, 0, []⟩
/-- REF_EVENT (R92). -/
def REF_EVENT.row : RegRow := ⟨"REF_EVENT", 1, [REF_EVENT.tod_error, REF_EVENT.no_signal, REF_EVENT.disq, REF_EVENT.degrading, REF_EVENT.qualified, REF_EVENT.disagree_set, REF_EVENT.ql_change, REF_EVENT.phase_jump, REF_EVENT.overrun]⟩

def REF_PHASE_LO.phase_lo : Fld := ⟨0x100000, 0x400, 0x48, 4, 31, 0, .lRo, 0, []⟩
/-- REF_PHASE_LO (R92). -/
def REF_PHASE_LO.row : RegRow := ⟨"REF_PHASE_LO", 1, [REF_PHASE_LO.phase_lo]⟩

def REF_PHASE_HI.phase_hi : Fld := ⟨0x100000, 0x400, 0x4c, 4, 31, 0, .hRo, 0, []⟩
/-- REF_PHASE_HI (R92). -/
def REF_PHASE_HI.row : RegRow := ⟨"REF_PHASE_HI", 1, [REF_PHASE_HI.phase_hi]⟩

def REF_FREQ_LO.freq_lo : Fld := ⟨0x100000, 0x400, 0x50, 4, 31, 0, .lRo, 0, []⟩
/-- REF_FREQ_LO (R92). -/
def REF_FREQ_LO.row : RegRow := ⟨"REF_FREQ_LO", 1, [REF_FREQ_LO.freq_lo]⟩

def REF_FREQ_HI.freq_hi : Fld := ⟨0x100000, 0x400, 0x54, 4, 31, 0, .hRo, 0, []⟩
/-- REF_FREQ_HI (R92). -/
def REF_FREQ_HI.row : RegRow := ⟨"REF_FREQ_HI", 1, [REF_FREQ_HI.freq_hi]⟩

def REF_YQ.value : Fld := ⟨0x100000, 0x400, 0x58, 4, 31, 0, .ro, 0, []⟩
/-- REF_YQ (R92). -/
def REF_YQ.row : RegRow := ⟨"REF_YQ", 1, [REF_YQ.value]⟩

def REF_DRIFT.value : Fld := ⟨0x100000, 0x400, 0x5c, 4, 31, 0, .ro, 0, []⟩
/-- REF_DRIFT (R92). -/
def REF_DRIFT.row : RegRow := ⟨"REF_DRIFT", 1, [REF_DRIFT.value]⟩

def REF_STAB.stab_log : Fld := ⟨0x100000, 0x400, 0x60, 4, 23, 16, .ro, 0, []⟩
def REF_STAB.noise : Fld := ⟨0x100000, 0x400, 0x60, 4, 15, 0, .ro, 0, []⟩
/-- REF_STAB (R92). -/
def REF_STAB.row : RegRow := ⟨"REF_STAB", 1, [REF_STAB.stab_log, REF_STAB.noise]⟩

def REF_QL_STAT.essm : Fld := ⟨0x100000, 0x400, 0x64, 4, 31, 24, .ro, 255, []⟩
def REF_QL_STAT.ssm : Fld := ⟨0x100000, 0x400, 0x64, 4, 23, 20, .ro, 15, []⟩
def REF_QL_STAT.rank : Fld := ⟨0x100000, 0x400, 0x64, 4, 19, 16, .ro, 13, []⟩
def REF_QL_STAT.ext : Fld := ⟨0x100000, 0x400, 0x64, 4, 15, 15, .ro, 0, []⟩
def REF_QL_STAT.mixed : Fld := ⟨0x100000, 0x400, 0x64, 4, 14, 14, .ro, 0, []⟩
def REF_QL_STAT.partial : Fld := ⟨0x100000, 0x400, 0x64, 4, 13, 13, .ro, 0, []⟩
def REF_QL_STAT.inconsistent : Fld := ⟨0x100000, 0x400, 0x64, 4, 12, 12, .ro, 0, []⟩
def REF_QL_STAT.age : Fld := ⟨0x100000, 0x400, 0x64, 4, 11, 0, .ro, 0xfff, []⟩
/-- REF_QL_STAT (R92). -/
def REF_QL_STAT.row : RegRow := ⟨"REF_QL_STAT", 1, [REF_QL_STAT.essm, REF_QL_STAT.ssm, REF_QL_STAT.rank, REF_QL_STAT.ext, REF_QL_STAT.mixed, REF_QL_STAT.partial, REF_QL_STAT.inconsistent, REF_QL_STAT.age]⟩

def REF_QL_CHAIN.cclass : Fld := ⟨0x100000, 0x400, 0x68, 4, 23, 16, .ro, 0, []⟩
def REF_QL_CHAIN.n_eeec : Fld := ⟨0x100000, 0x400, 0x68, 4, 15, 8, .ro, 0, []⟩
def REF_QL_CHAIN.n_eec : Fld := ⟨0x100000, 0x400, 0x68, 4, 7, 0, .ro, 0, []⟩
/-- REF_QL_CHAIN (R92). -/
def REF_QL_CHAIN.row : RegRow := ⟨"REF_QL_CHAIN", 1, [REF_QL_CHAIN.cclass, REF_QL_CHAIN.n_eeec, REF_QL_CHAIN.n_eec]⟩

def REF_DISAGREE.mask : Fld := ⟨0x100000, 0x400, 0x6c, 4, 23, 0, .ro, 0, []⟩
/-- REF_DISAGREE (R92). -/
def REF_DISAGREE.row : RegRow := ⟨"REF_DISAGREE", 1, [REF_DISAGREE.mask]⟩

def REF_TOD_DIFF.diff : Fld := ⟨0x100000, 0x400, 0x70, 4, 31, 0, .ro, 0, []⟩
/-- REF_TOD_DIFF (R92). -/
def REF_TOD_DIFF.row : RegRow := ⟨"REF_TOD_DIFF", 1, [REF_TOD_DIFF.diff]⟩

def REF_OUTLIER_CNT.count : Fld := ⟨0x100000, 0x400, 0x74, 4, 31, 0, .rc, 0, []⟩
/-- REF_OUTLIER_CNT (R92). -/
def REF_OUTLIER_CNT.row : RegRow := ⟨"REF_OUTLIER_CNT", 1, [REF_OUTLIER_CNT.count]⟩

def REF_MISS_CNT.count : Fld := ⟨0x100000, 0x400, 0x78, 4, 31, 0, .rc, 0, []⟩
/-- REF_MISS_CNT (R92). -/
def REF_MISS_CNT.row : RegRow := ⟨"REF_MISS_CNT", 1, [REF_MISS_CNT.count]⟩

def REF_CFG_REJECT.valid : Fld := ⟨0x100000, 0x400, 0x7c, 4, 31, 31, .rc, 0, []⟩
def REF_CFG_REJECT.count : Fld := ⟨0x100000, 0x400, 0x7c, 4, 15, 8, .rc, 0, []⟩
def REF_CFG_REJECT.word : Fld := ⟨0x100000, 0x400, 0x7c, 4, 7, 0, .rc, 0, []⟩
/-- REF_CFG_REJECT (R92). -/
def REF_CFG_REJECT.row : RegRow := ⟨"REF_CFG_REJECT", 1, [REF_CFG_REJECT.valid, REF_CFG_REJECT.count, REF_CFG_REJECT.word]⟩

/-- The register rows of REF (R92). -/
def rowsREF : List RegRow :=
  [REF_CFG.row, REF_PREDIV.row, REF_NOM_LO.row, REF_NOM_HI.row, REF_EST_CFG.row, REF_QUAL_CFG.row, REF_ACC_LIM.row, REF_REJ_LIM.row] ++
  [REF_DRIFT_CFG.row, REF_PW_MIN.row, REF_PW_MAX.row, REF_QL_CFG.row, REF_DIS_CFG.row, REF_CTRL.row, REF_STATE.row, REF_EVENT.row] ++
  [REF_PHASE_LO.row, REF_PHASE_HI.row, REF_FREQ_LO.row, REF_FREQ_HI.row, REF_YQ.row, REF_DRIFT.row, REF_STAB.row, REF_QL_STAT.row] ++
  [REF_QL_CHAIN.row, REF_DISAGREE.row, REF_TOD_DIFF.row, REF_OUTLIER_CNT.row, REF_MISS_CNT.row, REF_CFG_REJECT.row]

def CH_CFG.en : Fld := ⟨0x110000, 0x1000, 0x0, 4, 31, 31, .rw, 0, []⟩
def CH_CFG.kind : Fld := ⟨0x110000, 0x1000, 0x0, 4, 30, 30, .rwe, 0, []⟩
def CH_CFG.ctype : Fld := ⟨0x110000, 0x1000, 0x0, 4, 29, 29, .rwe, 0, []⟩
def CH_CFG.policy : Fld := ⟨0x110000, 0x1000, 0x0, 4, 28, 28, .rw, 0, []⟩
def CH_CFG.ens_en : Fld := ⟨0x110000, 0x1000, 0x0, 4, 27, 27, .rw, 0, []⟩
/-- CH_CFG (R132). -/
def CH_CFG.row : RegRow := ⟨"CH_CFG", 1, [CH_CFG.en, CH_CFG.kind, CH_CFG.ctype, CH_CFG.policy, CH_CFG.ens_en]⟩

def CH_SEL_CFG.preempt : Fld := ⟨0x110000, 0x1000, 0x4, 4, 9, 9, .rw, 1, []⟩
def CH_SEL_CFG.revert : Fld := ⟨0x110000, 0x1000, 0x4, 4, 8, 8, .rw, 1, []⟩
def CH_SEL_CFG.manual : Fld := ⟨0x110000, 0x1000, 0x4, 4, 4, 0, .rw, 31, []⟩
/-- CH_SEL_CFG (R132). -/
def CH_SEL_CFG.row : RegRow := ⟨"CH_SEL_CFG", 1, [CH_SEL_CFG.preempt, CH_SEL_CFG.revert, CH_SEL_CFG.manual]⟩

def CH_PRIO.p : Fld := ⟨0x110000, 0x1000, 0x8, 4, 31, 0, .rw, 0, []⟩
/-- CH_PRIO (R132). -/
def CH_PRIO.row : RegRow := ⟨"CH_PRIO", 3, [CH_PRIO.p]⟩

def CH_BW.bw : Fld := ⟨0x110000, 0x1000, 0x14, 4, 31, 0, .rw, 0x100000, []⟩
/-- CH_BW (R132). -/
def CH_BW.row : RegRow := ⟨"CH_BW", 1, [CH_BW.bw]⟩

def CH_LOOP_CFG.preload : Fld := ⟨0x110000, 0x1000, 0x18, 4, 8, 8, .rw, 1, []⟩
def CH_LOOP_CFG.acq_mult : Fld := ⟨0x110000, 0x1000, 0x18, 4, 6, 4, .rw, 0, []⟩
def CH_LOOP_CFG.zeta : Fld := ⟨0x110000, 0x1000, 0x18, 4, 2, 0, .rw, 7, []⟩
/-- CH_LOOP_CFG (R132). -/
def CH_LOOP_CFG.row : RegRow := ⟨"CH_LOOP_CFG", 1, [CH_LOOP_CFG.preload, CH_LOOP_CFG.acq_mult, CH_LOOP_CFG.zeta]⟩

def CH_FLIM.flim : Fld := ⟨0x110000, 0x1000, 0x1c, 4, 27, 0, .rw, 0x9a59b, []⟩
/-- CH_FLIM (R132). -/
def CH_FLIM.row : RegRow := ⟨"CH_FLIM", 1, [CH_FLIM.flim]⟩

def CH_LOCK_CFG.unlock_thr : Fld := ⟨0x110000, 0x1000, 0x20, 4, 31, 16, .rw, 256, []⟩
def CH_LOCK_CFG.lock_thr : Fld := ⟨0x110000, 0x1000, 0x20, 4, 15, 0, .rw, 64, []⟩
/-- CH_LOCK_CFG (R132). -/
def CH_LOCK_CFG.row : RegRow := ⟨"CH_LOCK_CFG", 1, [CH_LOCK_CFG.unlock_thr, CH_LOCK_CFG.lock_thr]⟩

def CH_LOCK_TIME.time : Fld := ⟨0x110000, 0x1000, 0x24, 4, 15, 0, .rw, 100, []⟩
/-- CH_LOCK_TIME (R132). -/
def CH_LOCK_TIME.row : RegRow := ⟨"CH_LOCK_TIME", 1, [CH_LOCK_TIME.time]⟩

def CH_SLEW.rate : Fld := ⟨0x110000, 0x1000, 0x28, 4, 23, 0, .rw, 0xa00, []⟩
/-- CH_SLEW (R132). -/
def CH_SLEW.row : RegRow := ⟨"CH_SLEW", 1, [CH_SLEW.rate]⟩

def CH_ACQ_CFG.jam_en : Fld := ⟨0x110000, 0x1000, 0x2c, 4, 31, 31, .rw, 0, []⟩
def CH_ACQ_CFG.jam_ho : Fld := ⟨0x110000, 0x1000, 0x2c, 4, 30, 30, .rw, 0, []⟩
def CH_ACQ_CFG.jam_thr : Fld := ⟨0x110000, 0x1000, 0x2c, 4, 23, 0, .rw, 0x3e8, []⟩
/-- CH_ACQ_CFG (R132). -/
def CH_ACQ_CFG.row : RegRow := ⟨"CH_ACQ_CFG", 1, [CH_ACQ_CFG.jam_en, CH_ACQ_CFG.jam_ho, CH_ACQ_CFG.jam_thr]⟩

def CH_TOFFS_LO.toffs_lo : Fld := ⟨0x110000, 0x1000, 0x30, 4, 31, 0, .lRw, 0, []⟩
/-- CH_TOFFS_LO (R132). -/
def CH_TOFFS_LO.row : RegRow := ⟨"CH_TOFFS_LO", 1, [CH_TOFFS_LO.toffs_lo]⟩

def CH_TOFFS_HI.toffs_hi : Fld := ⟨0x110000, 0x1000, 0x34, 4, 15, 0, .hRw, 0, []⟩
/-- CH_TOFFS_HI (R132). -/
def CH_TOFFS_HI.row : RegRow := ⟨"CH_TOFFS_HI", 1, [CH_TOFFS_HI.toffs_hi]⟩

def CH_CTRL.force_fr : Fld := ⟨0x110000, 0x1000, 0x38, 4, 3, 3, .rw, 0, []⟩
def CH_CTRL.force_ho : Fld := ⟨0x110000, 0x1000, 0x38, 4, 2, 2, .rw, 0, []⟩
def CH_CTRL.ho_release : Fld := ⟨0x110000, 0x1000, 0x38, 4, 1, 1, .wp, 0, []⟩
def CH_CTRL.pool_abort : Fld := ⟨0x110000, 0x1000, 0x38, 4, 0, 0, .wp, 0, []⟩
/-- CH_CTRL (R132). -/
def CH_CTRL.row : RegRow := ⟨"CH_CTRL", 1, [CH_CTRL.force_fr, CH_CTRL.force_ho, CH_CTRL.ho_release, CH_CTRL.pool_abort]⟩

def CH_PSTEP_LO.amt_lo : Fld := ⟨0x110000, 0x1000, 0x3c, 4, 31, 0, .lRw, 0, []⟩
/-- CH_PSTEP_LO (R132). -/
def CH_PSTEP_LO.row : RegRow := ⟨"CH_PSTEP_LO", 1, [CH_PSTEP_LO.amt_lo]⟩

def CH_PSTEP_HI.mode : Fld := ⟨0x110000, 0x1000, 0x40, 4, 31, 31, .hRw, 0, []⟩
def CH_PSTEP_HI.amt_hi : Fld := ⟨0x110000, 0x1000, 0x40, 4, 15, 0, .hRw, 0, []⟩
/-- CH_PSTEP_HI (R132). -/
def CH_PSTEP_HI.row : RegRow := ⟨"CH_PSTEP_HI", 1, [CH_PSTEP_HI.mode, CH_PSTEP_HI.amt_hi]⟩

def CH_ROUTE.mask : Fld := ⟨0x110000, 0x1000, 0x44, 4, 23, 0, .ro, 0, []⟩
/-- CH_ROUTE (R132). -/
def CH_ROUTE.row : RegRow := ⟨"CH_ROUTE", 1, [CH_ROUTE.mask]⟩

def CH_STEER.syn : Fld := ⟨0x110000, 0x1000, 0x48, 4, 3, 0, .ro, 0, []⟩
/-- CH_STEER (R132). -/
def CH_STEER.row : RegRow := ⟨"CH_STEER", 1, [CH_STEER.syn]⟩

def CH_STAT.master : Fld := ⟨0x110000, 0x1000, 0x80, 4, 27, 27, .ro, 0, []⟩
def CH_STAT.ho_valid : Fld := ⟨0x110000, 0x1000, 0x80, 4, 26, 26, .ro, 0, []⟩
def CH_STAT.flt_hold : Fld := ⟨0x110000, 0x1000, 0x80, 4, 25, 25, .ro, 0, []⟩
def CH_STAT.bw_clamp : Fld := ⟨0x110000, 0x1000, 0x80, 4, 24, 24, .ro, 0, []⟩
def CH_STAT.flim : Fld := ⟨0x110000, 0x1000, 0x80, 4, 23, 23, .ro, 0, []⟩
def CH_STAT.slewing : Fld := ⟨0x110000, 0x1000, 0x80, 4, 22, 22, .ro, 0, []⟩
def CH_STAT.fallback : Fld := ⟨0x110000, 0x1000, 0x80, 4, 21, 21, .ro, 0, []⟩
def CH_STAT.abort_st : Fld := ⟨0x110000, 0x1000, 0x80, 4, 19, 18, .ro, 0, []⟩
def CH_STAT.active : Fld := ⟨0x110000, 0x1000, 0x80, 4, 12, 8, .ro, 31, []⟩
def CH_STAT.state : Fld := ⟨0x110000, 0x1000, 0x80, 4, 2, 0, .ro, 0, []⟩
/-- CH_STAT (R132). -/
def CH_STAT.row : RegRow := ⟨"CH_STAT", 1, [CH_STAT.master, CH_STAT.ho_valid, CH_STAT.flt_hold, CH_STAT.bw_clamp, CH_STAT.flim, CH_STAT.slewing, CH_STAT.fallback, CH_STAT.abort_st, CH_STAT.active, CH_STAT.state]⟩

def CH_EVENT.cmd_refused : Fld := ⟨0x110000, 0x1000, 0x84, 4, 10, 10, .rc, 0, []⟩
def CH_EVENT.pool_sat : Fld := ⟨0x110000, 0x1000, 0x84, 4, 9, 9, .rc, 0, []⟩
def CH_EVENT.slew_done : Fld := ⟨0x110000, 0x1000, 0x84, 4, 8, 8, .rc, 0, []⟩
def CH_EVENT.freq_limit : Fld := ⟨0x110000, 0x1000, 0x84, 4, 7, 7, .rc, 0, []⟩
def CH_EVENT.lock_lost : Fld := ⟨0x110000, 0x1000, 0x84, 4, 6, 6, .rc, 0, []⟩
def CH_EVENT.locked : Fld := ⟨0x110000, 0x1000, 0x84, 4, 5, 5, .rc, 0, []⟩
def CH_EVENT.holdover : Fld := ⟨0x110000, 0x1000, 0x84, 4, 4, 4, .rc, 0, []⟩
def CH_EVENT.freerun : Fld := ⟨0x110000, 0x1000, 0x84, 4, 3, 3, .rc, 0, []⟩
def CH_EVENT.preempt : Fld := ⟨0x110000, 0x1000, 0x84, 4, 2, 2, .rc, 0, []⟩
def CH_EVENT.fallback : Fld := ⟨0x110000, 0x1000, 0x84, 4, 1, 1, .rc, 0, []⟩
def CH_EVENT.switch : Fld := ⟨0x110000, 0x1000, 0x84, 4, 0, 0, .rc, 0, []⟩
/-- CH_EVENT (R132). -/
def CH_EVENT.row : RegRow := ⟨"CH_EVENT", 1, [CH_EVENT.cmd_refused, CH_EVENT.pool_sat, CH_EVENT.slew_done, CH_EVENT.freq_limit, CH_EVENT.lock_lost, CH_EVENT.locked, CH_EVENT.holdover, CH_EVENT.freerun, CH_EVENT.preempt, CH_EVENT.fallback, CH_EVENT.switch]⟩

def CH_PHERR.e : Fld := ⟨0x110000, 0x1000, 0x88, 4, 31, 0, .ro, 0, []⟩
/-- CH_PHERR (R132). -/
def CH_PHERR.row : RegRow := ⟨"CH_PHERR", 1, [CH_PHERR.e]⟩

def CH_FREQ_LO.f_lo : Fld := ⟨0x110000, 0x1000, 0x8c, 4, 31, 0, .lRo, 0, []⟩
/-- CH_FREQ_LO (R132). -/
def CH_FREQ_LO.row : RegRow := ⟨"CH_FREQ_LO", 1, [CH_FREQ_LO.f_lo]⟩

def CH_FREQ_HI.f_hi : Fld := ⟨0x110000, 0x1000, 0x90, 4, 31, 0, .hRo, 0, []⟩
/-- CH_FREQ_HI (R132). -/
def CH_FREQ_HI.row : RegRow := ⟨"CH_FREQ_HI", 1, [CH_FREQ_HI.f_hi]⟩

def CH_POOL_LO.pool_lo : Fld := ⟨0x110000, 0x1000, 0x94, 4, 31, 0, .lRo, 0, []⟩
/-- CH_POOL_LO (R132). -/
def CH_POOL_LO.row : RegRow := ⟨"CH_POOL_LO", 1, [CH_POOL_LO.pool_lo]⟩

def CH_POOL_HI.pool_hi : Fld := ⟨0x110000, 0x1000, 0x98, 4, 15, 0, .hRo, 0, []⟩
/-- CH_POOL_HI (R132). -/
def CH_POOL_HI.row : RegRow := ⟨"CH_POOL_HI", 1, [CH_POOL_HI.pool_hi]⟩

def CH_SWITCH_CNT.count : Fld := ⟨0x110000, 0x1000, 0x9c, 4, 31, 0, .rc, 0, []⟩
/-- CH_SWITCH_CNT (R132). -/
def CH_SWITCH_CNT.row : RegRow := ⟨"CH_SWITCH_CNT", 1, [CH_SWITCH_CNT.count]⟩

def CH_CFG_REJECT.valid : Fld := ⟨0x110000, 0x1000, 0xa0, 4, 31, 31, .rc, 0, []⟩
def CH_CFG_REJECT.count : Fld := ⟨0x110000, 0x1000, 0xa0, 4, 15, 8, .rc, 0, []⟩
def CH_CFG_REJECT.word : Fld := ⟨0x110000, 0x1000, 0xa0, 4, 7, 0, .rc, 0, []⟩
/-- CH_CFG_REJECT (R132). -/
def CH_CFG_REJECT.row : RegRow := ⟨"CH_CFG_REJECT", 1, [CH_CFG_REJECT.valid, CH_CFG_REJECT.count, CH_CFG_REJECT.word]⟩

/-- The register rows of CH (R132). -/
def rowsCH : List RegRow :=
  [CH_CFG.row, CH_SEL_CFG.row, CH_PRIO.row, CH_BW.row, CH_LOOP_CFG.row, CH_FLIM.row, CH_LOCK_CFG.row, CH_LOCK_TIME.row] ++
  [CH_SLEW.row, CH_ACQ_CFG.row, CH_TOFFS_LO.row, CH_TOFFS_HI.row, CH_CTRL.row, CH_PSTEP_LO.row, CH_PSTEP_HI.row, CH_ROUTE.row] ++
  [CH_STEER.row, CH_STAT.row, CH_EVENT.row, CH_PHERR.row, CH_FREQ_LO.row, CH_FREQ_HI.row, CH_POOL_LO.row, CH_POOL_HI.row] ++
  [CH_SWITCH_CNT.row, CH_CFG_REJECT.row]

def GLC_MDL_CFG.learn_en : Fld := ⟨0x120000, 0x100, 0x0, 4, 31, 31, .rw, 1, []⟩
def GLC_MDL_CFG.cold_ho : Fld := ⟨0x120000, 0x100, 0x0, 4, 30, 30, .rw, 0, []⟩
def GLC_MDL_CFG.terms : Fld := ⟨0x120000, 0x100, 0x0, 4, 29, 24, .rwe, 63, []⟩
def GLC_MDL_CFG.tsrc : Fld := ⟨0x120000, 0x100, 0x0, 4, 19, 16, .rwe, 8, []⟩
def GLC_MDL_CFG.lag_tau : Fld := ⟨0x120000, 0x100, 0x0, 4, 15, 0, .rwe, 0xe10, []⟩
/-- GLC_MDL_CFG (R163). -/
def GLC_MDL_CFG.row : RegRow := ⟨"GLC_MDL_CFG", 1, [GLC_MDL_CFG.learn_en, GLC_MDL_CFG.cold_ho, GLC_MDL_CFG.terms, GLC_MDL_CFG.tsrc, GLC_MDL_CFG.lag_tau]⟩

def GLC_MDL_LIM.fit_tau : Fld := ⟨0x120000, 0x100, 0x4, 4, 31, 16, .rw, 168, []⟩
def GLC_MDL_LIM.settle : Fld := ⟨0x120000, 0x100, 0x4, 4, 15, 8, .rw, 60, []⟩
def GLC_MDL_LIM.min_samp : Fld := ⟨0x120000, 0x100, 0x4, 4, 7, 0, .rw, 60, []⟩
/-- GLC_MDL_LIM (R163). -/
def GLC_MDL_LIM.row : RegRow := ⟨"GLC_MDL_LIM", 1, [GLC_MDL_LIM.fit_tau, GLC_MDL_LIM.settle, GLC_MDL_LIM.min_samp]⟩

def GLC_HO_CFG.avg : Fld := ⟨0x120000, 0x100, 0x8, 4, 31, 16, .rw, 300, []⟩
/-- GLC_HO_CFG (R163). -/
def GLC_HO_CFG.row : RegRow := ⟨"GLC_HO_CFG", 1, [GLC_HO_CFG.avg]⟩

def GLC_MDL_CTRL.store : Fld := ⟨0x120000, 0x100, 0xc, 4, 2, 2, .wp, 0, []⟩
def GLC_MDL_CTRL.declare : Fld := ⟨0x120000, 0x100, 0xc, 4, 1, 1, .wp, 0, []⟩
def GLC_MDL_CTRL.clear : Fld := ⟨0x120000, 0x100, 0xc, 4, 0, 0, .wp, 0, []⟩
/-- GLC_MDL_CTRL (R163). -/
def GLC_MDL_CTRL.row : RegRow := ⟨"GLC_MDL_CTRL", 1, [GLC_MDL_CTRL.store, GLC_MDL_CTRL.declare, GLC_MDL_CTRL.clear]⟩

def GLC_MDL_STAT.cause : Fld := ⟨0x120000, 0x100, 0x10, 4, 31, 28, .ro, 0, []⟩
def GLC_MDL_STAT.ho_valid : Fld := ⟨0x120000, 0x100, 0x10, 4, 27, 27, .ro, 0, []⟩
def GLC_MDL_STAT.bias_ok : Fld := ⟨0x120000, 0x100, 0x10, 4, 26, 26, .ro, 0, []⟩
def GLC_MDL_STAT.restored : Fld := ⟨0x120000, 0x100, 0x10, 4, 25, 25, .ro, 0, []⟩
def GLC_MDL_STAT.host_prov : Fld := ⟨0x120000, 0x100, 0x10, 4, 24, 24, .ro, 0, []⟩
def GLC_MDL_STAT.temp_ok : Fld := ⟨0x120000, 0x100, 0x10, 4, 23, 23, .ro, 0, []⟩
def GLC_MDL_STAT.held : Fld := ⟨0x120000, 0x100, 0x10, 4, 22, 17, .ro, 63, []⟩
def GLC_MDL_STAT.skip : Fld := ⟨0x120000, 0x100, 0x10, 4, 10, 8, .ro, 0, []⟩
def GLC_MDL_STAT.state : Fld := ⟨0x120000, 0x100, 0x10, 4, 1, 0, .ro, 0, []⟩
/-- GLC_MDL_STAT (R163). -/
def GLC_MDL_STAT.row : RegRow := ⟨"GLC_MDL_STAT", 1, [GLC_MDL_STAT.cause, GLC_MDL_STAT.ho_valid, GLC_MDL_STAT.bias_ok, GLC_MDL_STAT.restored, GLC_MDL_STAT.host_prov, GLC_MDL_STAT.temp_ok, GLC_MDL_STAT.held, GLC_MDL_STAT.skip, GLC_MDL_STAT.state]⟩

def GLC_NSAMP.nsamp : Fld := ⟨0x120000, 0x100, 0x14, 4, 31, 0, .rwe, 0, []⟩
/-- GLC_NSAMP (R163). -/
def GLC_NSAMP.row : RegRow := ⟨"GLC_NSAMP", 1, [GLC_NSAMP.nsamp]⟩

def GLC_RES.res : Fld := ⟨0x120000, 0x100, 0x18, 4, 31, 0, .ro, 0, []⟩
/-- GLC_RES (R163). -/
def GLC_RES.row : RegRow := ⟨"GLC_RES", 1, [GLC_RES.res]⟩

def GLC_BIAS.bias : Fld := ⟨0x120000, 0x100, 0x1c, 4, 31, 0, .ro, 0, []⟩
/-- GLC_BIAS (R163). -/
def GLC_BIAS.row : RegRow := ⟨"GLC_BIAS", 1, [GLC_BIAS.bias]⟩

def GLC_RES_LIM.res_lim : Fld := ⟨0x120000, 0x100, 0x7c, 4, 31, 0, .rw, 0x44b82fa, []⟩
/-- GLC_RES_LIM (R163). -/
def GLC_RES_LIM.row : RegRow := ⟨"GLC_RES_LIM", 1, [GLC_RES_LIM.res_lim]⟩

def GLC_C_LO.c_lo : Fld := ⟨0x120000, 0x100, 0x20, 8, 31, 0, .lRwe, 0, []⟩
/-- GLC_C_LO (R163). -/
def GLC_C_LO.row : RegRow := ⟨"GLC_C_LO", 7, [GLC_C_LO.c_lo]⟩

def GLC_C_HI.c_hi : Fld := ⟨0x120000, 0x100, 0x24, 8, 31, 0, .hRwe, 0, []⟩
/-- GLC_C_HI (R163). -/
def GLC_C_HI.row : RegRow := ⟨"GLC_C_HI", 7, [GLC_C_HI.c_hi]⟩

def GLC_T0.t0 : Fld := ⟨0x120000, 0x100, 0x58, 4, 15, 0, .rwe, 0x8000, []⟩
/-- GLC_T0 (R163). -/
def GLC_T0.row : RegRow := ⟨"GLC_T0", 1, [GLC_T0.t0]⟩

def GLC_TEMP.t : Fld := ⟨0x120000, 0x100, 0x5c, 4, 31, 16, .ro, 0x8000, []⟩
def GLC_TEMP.t_lag : Fld := ⟨0x120000, 0x100, 0x5c, 4, 15, 0, .ro, 0x8000, []⟩
/-- GLC_TEMP (R163). -/
def GLC_TEMP.row : RegRow := ⟨"GLC_TEMP", 1, [GLC_TEMP.t, GLC_TEMP.t_lag]⟩

def GLC_ORIGIN_LO.org_lo : Fld := ⟨0x120000, 0x100, 0x60, 4, 31, 0, .lRwe, 0, []⟩
/-- GLC_ORIGIN_LO (R163). -/
def GLC_ORIGIN_LO.row : RegRow := ⟨"GLC_ORIGIN_LO", 1, [GLC_ORIGIN_LO.org_lo]⟩

def GLC_ORIGIN_HI.org_hi : Fld := ⟨0x120000, 0x100, 0x64, 4, 15, 0, .hRwe, 0, []⟩
/-- GLC_ORIGIN_HI (R163). -/
def GLC_ORIGIN_HI.row : RegRow := ⟨"GLC_ORIGIN_HI", 1, [GLC_ORIGIN_HI.org_hi]⟩

def GLC_PRED_LO.p_lo : Fld := ⟨0x120000, 0x100, 0x68, 4, 31, 0, .lRo, 0, []⟩
/-- GLC_PRED_LO (R163). -/
def GLC_PRED_LO.row : RegRow := ⟨"GLC_PRED_LO", 1, [GLC_PRED_LO.p_lo]⟩

def GLC_PRED_HI.p_hi : Fld := ⟨0x120000, 0x100, 0x6c, 4, 31, 0, .hRo, 0, []⟩
/-- GLC_PRED_HI (R163). -/
def GLC_PRED_HI.row : RegRow := ⟨"GLC_PRED_HI", 1, [GLC_PRED_HI.p_hi]⟩

def GLC_HO_SEC.sec : Fld := ⟨0x120000, 0x100, 0x70, 4, 31, 0, .ro, 0, []⟩
/-- GLC_HO_SEC (R163). -/
def GLC_HO_SEC.row : RegRow := ⟨"GLC_HO_SEC", 1, [GLC_HO_SEC.sec]⟩

def GLC_SKIP_CNT.count : Fld := ⟨0x120000, 0x100, 0x74, 4, 31, 0, .rc, 0, []⟩
/-- GLC_SKIP_CNT (R163). -/
def GLC_SKIP_CNT.row : RegRow := ⟨"GLC_SKIP_CNT", 1, [GLC_SKIP_CNT.count]⟩

def GLC_CFG_REJECT.valid : Fld := ⟨0x120000, 0x100, 0x78, 4, 31, 31, .rc, 0, []⟩
def GLC_CFG_REJECT.count : Fld := ⟨0x120000, 0x100, 0x78, 4, 15, 8, .rc, 0, []⟩
def GLC_CFG_REJECT.word : Fld := ⟨0x120000, 0x100, 0x78, 4, 7, 0, .rc, 0, []⟩
/-- GLC_CFG_REJECT (R163). -/
def GLC_CFG_REJECT.row : RegRow := ⟨"GLC_CFG_REJECT", 1, [GLC_CFG_REJECT.valid, GLC_CFG_REJECT.count, GLC_CFG_REJECT.word]⟩

def GLC_ENS_MEM.m3 : Fld := ⟨0x120000, 0x100, 0x80, 4, 28, 24, .rw, 31, []⟩
def GLC_ENS_MEM.m2 : Fld := ⟨0x120000, 0x100, 0x80, 4, 20, 16, .rw, 31, []⟩
def GLC_ENS_MEM.m1 : Fld := ⟨0x120000, 0x100, 0x80, 4, 12, 8, .rw, 31, []⟩
def GLC_ENS_MEM.m0 : Fld := ⟨0x120000, 0x100, 0x80, 4, 4, 0, .rw, 31, []⟩
/-- GLC_ENS_MEM (R163). -/
def GLC_ENS_MEM.row : RegRow := ⟨"GLC_ENS_MEM", 1, [GLC_ENS_MEM.m3, GLC_ENS_MEM.m2, GLC_ENS_MEM.m1, GLC_ENS_MEM.m0]⟩

def GLC_ENS_CFG.cap : Fld := ⟨0x120000, 0x100, 0x84, 4, 31, 24, .rw, 192, []⟩
def GLC_ENS_CFG.out_lim : Fld := ⟨0x120000, 0x100, 0x84, 4, 23, 16, .rw, 64, []⟩
def GLC_ENS_CFG.readmit : Fld := ⟨0x120000, 0x100, 0x84, 4, 15, 8, .rw, 10, []⟩
def GLC_ENS_CFG.tau : Fld := ⟨0x120000, 0x100, 0x84, 4, 4, 0, .rw, 0, []⟩
/-- GLC_ENS_CFG (R163). -/
def GLC_ENS_CFG.row : RegRow := ⟨"GLC_ENS_CFG", 1, [GLC_ENS_CFG.cap, GLC_ENS_CFG.out_lim, GLC_ENS_CFG.readmit, GLC_ENS_CFG.tau]⟩

def GLC_ENS_STAT.ready : Fld := ⟨0x120000, 0x100, 0x88, 4, 31, 31, .ro, 0, []⟩
def GLC_ENS_STAT.in_use : Fld := ⟨0x120000, 0x100, 0x88, 4, 27, 24, .ro, 0, []⟩
def GLC_ENS_STAT.rejected : Fld := ⟨0x120000, 0x100, 0x88, 4, 23, 20, .ro, 0, []⟩
def GLC_ENS_STAT.est_ready : Fld := ⟨0x120000, 0x100, 0x88, 4, 19, 16, .ro, 0, []⟩
def GLC_ENS_STAT.tau_used : Fld := ⟨0x120000, 0x100, 0x88, 4, 12, 8, .ro, 0, []⟩
def GLC_ENS_STAT.n_in_use : Fld := ⟨0x120000, 0x100, 0x88, 4, 2, 0, .ro, 0, []⟩
/-- GLC_ENS_STAT (R163). -/
def GLC_ENS_STAT.row : RegRow := ⟨"GLC_ENS_STAT", 1, [GLC_ENS_STAT.ready, GLC_ENS_STAT.in_use, GLC_ENS_STAT.rejected, GLC_ENS_STAT.est_ready, GLC_ENS_STAT.tau_used, GLC_ENS_STAT.n_in_use]⟩

def GLC_ENS_W01.w1 : Fld := ⟨0x120000, 0x100, 0x8c, 4, 31, 16, .ro, 0, []⟩
def GLC_ENS_W01.w0 : Fld := ⟨0x120000, 0x100, 0x8c, 4, 15, 0, .ro, 0, []⟩
/-- GLC_ENS_W01 (R163). -/
def GLC_ENS_W01.row : RegRow := ⟨"GLC_ENS_W01", 1, [GLC_ENS_W01.w1, GLC_ENS_W01.w0]⟩

def GLC_ENS_W23.w3 : Fld := ⟨0x120000, 0x100, 0x90, 4, 31, 16, .ro, 0, []⟩
def GLC_ENS_W23.w2 : Fld := ⟨0x120000, 0x100, 0x90, 4, 15, 0, .ro, 0, []⟩
/-- GLC_ENS_W23 (R163). -/
def GLC_ENS_W23.row : RegRow := ⟨"GLC_ENS_W23", 1, [GLC_ENS_W23.w3, GLC_ENS_W23.w2]⟩

def GLC_ADEV.adev : Fld := ⟨0x120000, 0x100, 0x94, 4, 31, 0, .ro, 0, []⟩
/-- GLC_ADEV (R163). -/
def GLC_ADEV.row : RegRow := ⟨"GLC_ADEV", 4, [GLC_ADEV.adev]⟩

def GLC_ENS_REJ_CNT.count : Fld := ⟨0x120000, 0x100, 0xa4, 4, 31, 0, .rc, 0, []⟩
/-- GLC_ENS_REJ_CNT (R163). -/
def GLC_ENS_REJ_CNT.row : RegRow := ⟨"GLC_ENS_REJ_CNT", 1, [GLC_ENS_REJ_CNT.count]⟩

/-- The register rows of GLC (R163). -/
def rowsGLC : List RegRow :=
  [GLC_MDL_CFG.row, GLC_MDL_LIM.row, GLC_HO_CFG.row, GLC_MDL_CTRL.row, GLC_MDL_STAT.row, GLC_NSAMP.row, GLC_RES.row, GLC_BIAS.row] ++
  [GLC_RES_LIM.row, GLC_C_LO.row, GLC_C_HI.row, GLC_T0.row, GLC_TEMP.row, GLC_ORIGIN_LO.row, GLC_ORIGIN_HI.row, GLC_PRED_LO.row] ++
  [GLC_PRED_HI.row, GLC_HO_SEC.row, GLC_SKIP_CNT.row, GLC_CFG_REJECT.row, GLC_ENS_MEM.row, GLC_ENS_CFG.row, GLC_ENS_STAT.row, GLC_ENS_W01.row] ++
  [GLC_ENS_W23.row, GLC_ADEV.row, GLC_ENS_REJ_CNT.row]

def GLC_TSENS.temp : Fld := ⟨0x120c00, 0x0, 0x0, 4, 15, 0, .ro, 0x8000, []⟩
/-- GLC_TSENS (R163). -/
def GLC_TSENS.row : RegRow := ⟨"GLC_TSENS", 8, [GLC_TSENS.temp]⟩

def GLC_OSCT_CFG.off : Fld := ⟨0x120c00, 0x0, 0x20, 4, 31, 16, .rw, 0, []⟩
def GLC_OSCT_CFG.gain : Fld := ⟨0x120c00, 0x0, 0x20, 4, 15, 0, .rw, 0, []⟩
/-- GLC_OSCT_CFG (R163). -/
def GLC_OSCT_CFG.row : RegRow := ⟨"GLC_OSCT_CFG", 1, [GLC_OSCT_CFG.off, GLC_OSCT_CFG.gain]⟩

def GLC_OSCT.code : Fld := ⟨0x120c00, 0x0, 0x24, 4, 27, 16, .ro, 0, []⟩
def GLC_OSCT.temp : Fld := ⟨0x120c00, 0x0, 0x24, 4, 15, 0, .ro, 0x8000, []⟩
/-- GLC_OSCT (R163). -/
def GLC_OSCT.row : RegRow := ⟨"GLC_OSCT", 1, [GLC_OSCT.code, GLC_OSCT.temp]⟩

def GLC_HOST_TEMP.temp : Fld := ⟨0x120c00, 0x0, 0x28, 4, 15, 0, .rw, 0x8000, []⟩
/-- GLC_HOST_TEMP (R163). -/
def GLC_HOST_TEMP.row : RegRow := ⟨"GLC_HOST_TEMP", 1, [GLC_HOST_TEMP.temp]⟩

def GLC_AGE_CFG.a0 : Fld := ⟨0x120c00, 0x0, 0x2c, 4, 31, 16, .rw, 30, []⟩
def GLC_AGE_CFG.tally : Fld := ⟨0x120c00, 0x0, 0x2c, 4, 4, 0, .ro, 0, []⟩
/-- GLC_AGE_CFG (R163). -/
def GLC_AGE_CFG.row : RegRow := ⟨"GLC_AGE_CFG", 1, [GLC_AGE_CFG.a0, GLC_AGE_CFG.tally]⟩

def GLC_AGE.days : Fld := ⟨0x120c00, 0x0, 0x30, 4, 31, 8, .ro, 0, []⟩
def GLC_AGE.frac : Fld := ⟨0x120c00, 0x0, 0x30, 4, 7, 0, .ro, 0, []⟩
/-- GLC_AGE (R163). -/
def GLC_AGE.row : RegRow := ⟨"GLC_AGE", 1, [GLC_AGE.days, GLC_AGE.frac]⟩

def GLC_AGE_CTRL.new_osc : Fld := ⟨0x120c00, 0x0, 0x34, 4, 0, 0, .wp, 0, []⟩
/-- GLC_AGE_CTRL (R163). -/
def GLC_AGE_CTRL.row : RegRow := ⟨"GLC_AGE_CTRL", 1, [GLC_AGE_CTRL.new_osc]⟩

def GLC_STORE_CFG.int_ : Fld := ⟨0x120c00, 0x0, 0x38, 4, 31, 16, .rw, 60, []⟩
def GLC_STORE_CFG.page : Fld := ⟨0x120c00, 0x0, 0x38, 4, 15, 8, .ro, 130, []⟩
def GLC_STORE_CFG.req : Fld := ⟨0x120c00, 0x0, 0x38, 4, 0, 0, .rw, 1, []⟩
/-- GLC_STORE_CFG (R163). -/
def GLC_STORE_CFG.row : RegRow := ⟨"GLC_STORE_CFG", 1, [GLC_STORE_CFG.int_, GLC_STORE_CFG.page, GLC_STORE_CFG.req]⟩

def GLC_STORE_STAT.dirty : Fld := ⟨0x120c00, 0x0, 0x3c, 4, 31, 31, .ro, 0, []⟩
def GLC_STORE_STAT.deferred : Fld := ⟨0x120c00, 0x0, 0x3c, 4, 30, 30, .rc, 0, []⟩
def GLC_STORE_STAT.writes : Fld := ⟨0x120c00, 0x0, 0x3c, 4, 15, 0, .ro, 0, []⟩
/-- GLC_STORE_STAT (R163). -/
def GLC_STORE_STAT.row : RegRow := ⟨"GLC_STORE_STAT", 1, [GLC_STORE_STAT.dirty, GLC_STORE_STAT.deferred, GLC_STORE_STAT.writes]⟩

/-- The register rows of GLCG (R163). -/
def rowsGLCG : List RegRow :=
  [GLC_TSENS.row, GLC_OSCT_CFG.row, GLC_OSCT.row, GLC_HOST_TEMP.row, GLC_AGE_CFG.row, GLC_AGE.row, GLC_AGE_CTRL.row, GLC_STORE_CFG.row] ++
  [GLC_STORE_STAT.row]

def PAL_ROT_CFG.zref : Fld := ⟨0x158000, 0x100, 0x0, 4, 31, 30, .rwe, 0, []⟩
def PAL_ROT_CFG.resync : Fld := ⟨0x158000, 0x100, 0x0, 4, 29, 29, .rw, 0, []⟩
def PAL_ROT_CFG.dir : Fld := ⟨0x158000, 0x100, 0x0, 4, 28, 28, .rw, 0, []⟩
def PAL_ROT_CFG.missing : Fld := ⟨0x158000, 0x100, 0x0, 4, 23, 21, .rwe, 2, []⟩
def PAL_ROT_CFG.teeth : Fld := ⟨0x158000, 0x100, 0x0, 4, 20, 10, .rwe, 60, []⟩
/-- PAL_ROT_CFG (R180). -/
def PAL_ROT_CFG.row : RegRow := ⟨"PAL_ROT_CFG", 1, [PAL_ROT_CFG.zref, PAL_ROT_CFG.resync, PAL_ROT_CFG.dir, PAL_ROT_CFG.missing, PAL_ROT_CFG.teeth]⟩

def PAL_ROT_AC.ppr : Fld := ⟨0x158000, 0x100, 0x4, 4, 16, 0, .rwe, 0x400, []⟩
/-- PAL_ROT_AC (R180). -/
def PAL_ROT_AC.row : RegRow := ⟨"PAL_ROT_AC", 1, [PAL_ROT_AC.ppr]⟩

def PAL_ROT_BW.fn : Fld := ⟨0x158000, 0x100, 0x8, 4, 23, 0, .rw, 0x1400, []⟩
/-- PAL_ROT_BW (R180). -/
def PAL_ROT_BW.row : RegRow := ⟨"PAL_ROT_BW", 1, [PAL_ROT_BW.fn]⟩

def PAL_ROT_LIM.max_speed : Fld := ⟨0x158000, 0x100, 0xc, 4, 31, 16, .rw, 0x9600, []⟩
def PAL_ROT_LIM.accel_lim : Fld := ⟨0x158000, 0x100, 0xc, 4, 15, 0, .rw, 0x7d0, []⟩
/-- PAL_ROT_LIM (R180). -/
def PAL_ROT_LIM.row : RegRow := ⟨"PAL_ROT_LIM", 1, [PAL_ROT_LIM.max_speed, PAL_ROT_LIM.accel_lim]⟩

def PAL_ROT_STOP.min_speed : Fld := ⟨0x158000, 0x100, 0x10, 4, 31, 16, .rw, 256, []⟩
def PAL_ROT_STOP.stop_to : Fld := ⟨0x158000, 0x100, 0x10, 4, 15, 0, .rw, 0x7d0, []⟩
/-- PAL_ROT_STOP (R180). -/
def PAL_ROT_STOP.row : RegRow := ⟨"PAL_ROT_STOP", 1, [PAL_ROT_STOP.min_speed, PAL_ROT_STOP.stop_to]⟩

def PAL_ROT_GAP.coast : Fld := ⟨0x158000, 0x100, 0x14, 4, 31, 16, .rw, 0x3e8, []⟩
def PAL_ROT_GAP.gap_ratio : Fld := ⟨0x158000, 0x100, 0x14, 4, 15, 8, .rwe, 32, []⟩
def PAL_ROT_GAP.late : Fld := ⟨0x158000, 0x100, 0x14, 4, 7, 0, .rw, 16, []⟩
/-- PAL_ROT_GAP (R180). -/
def PAL_ROT_GAP.row : RegRow := ⟨"PAL_ROT_GAP", 1, [PAL_ROT_GAP.coast, PAL_ROT_GAP.gap_ratio, PAL_ROT_GAP.late]⟩

def PAL_ROT_ZERO_FWD.offset : Fld := ⟨0x158000, 0x100, 0x18, 4, 31, 0, .rw, 0, []⟩
/-- PAL_ROT_ZERO_FWD (R180). -/
def PAL_ROT_ZERO_FWD.row : RegRow := ⟨"PAL_ROT_ZERO_FWD", 1, [PAL_ROT_ZERO_FWD.offset]⟩

def PAL_ROT_ZERO_REV.offset : Fld := ⟨0x158000, 0x100, 0x1c, 4, 31, 0, .rw, 0, []⟩
/-- PAL_ROT_ZERO_REV (R180). -/
def PAL_ROT_ZERO_REV.row : RegRow := ⟨"PAL_ROT_ZERO_REV", 1, [PAL_ROT_ZERO_REV.offset]⟩

def PAL_ROT_REVP.width : Fld := ⟨0x158000, 0x100, 0x20, 4, 15, 0, .rw, 100, []⟩
/-- PAL_ROT_REVP (R180). -/
def PAL_ROT_REVP.row : RegRow := ⟨"PAL_ROT_REVP", 1, [PAL_ROT_REVP.width]⟩

def PAL_ROT_SLEW.slew : Fld := ⟨0x158000, 0x100, 0x24, 4, 15, 0, .rw, 32, []⟩
/-- PAL_ROT_SLEW (R180). -/
def PAL_ROT_SLEW.row : RegRow := ⟨"PAL_ROT_SLEW", 1, [PAL_ROT_SLEW.slew]⟩

def PAL_ROT_CTRL.resync : Fld := ⟨0x158000, 0x100, 0x28, 4, 0, 0, .wp, 0, []⟩
/-- PAL_ROT_CTRL (R180). -/
def PAL_ROT_CTRL.row : RegRow := ⟨"PAL_ROT_CTRL", 1, [PAL_ROT_CTRL.resync]⟩

def PAL_ROT_STAT.rstate : Fld := ⟨0x158000, 0x100, 0x40, 4, 31, 29, .ro, 0, []⟩
def PAL_ROT_STAT.cause : Fld := ⟨0x158000, 0x100, 0x40, 4, 28, 25, .ro, 0, []⟩
def PAL_ROT_STAT.sync : Fld := ⟨0x158000, 0x100, 0x40, 4, 24, 24, .ro, 0, []⟩
def PAL_ROT_STAT.fly : Fld := ⟨0x158000, 0x100, 0x40, 4, 23, 23, .ro, 0, []⟩
def PAL_ROT_STAT.slewing : Fld := ⟨0x158000, 0x100, 0x40, 4, 22, 22, .ro, 0, []⟩
def PAL_ROT_STAT.dir : Fld := ⟨0x158000, 0x100, 0x40, 4, 21, 21, .ro, 0, []⟩
def PAL_ROT_STAT.dir_pend : Fld := ⟨0x158000, 0x100, 0x40, 4, 20, 20, .ro, 0, []⟩
def PAL_ROT_STAT.overspeed : Fld := ⟨0x158000, 0x100, 0x40, 4, 19, 19, .ro, 0, []⟩
def PAL_ROT_STAT.over_accel : Fld := ⟨0x158000, 0x100, 0x40, 4, 18, 18, .ro, 0, []⟩
def PAL_ROT_STAT.ac_over : Fld := ⟨0x158000, 0x100, 0x40, 4, 17, 17, .ro, 0, []⟩
def PAL_ROT_STAT.bw_clamp : Fld := ⟨0x158000, 0x100, 0x40, 4, 16, 16, .ro, 0, []⟩
def PAL_ROT_STAT.tooth : Fld := ⟨0x158000, 0x100, 0x40, 4, 9, 0, .ro, 0, []⟩
/-- PAL_ROT_STAT (R180). -/
def PAL_ROT_STAT.row : RegRow := ⟨"PAL_ROT_STAT", 1, [PAL_ROT_STAT.rstate, PAL_ROT_STAT.cause, PAL_ROT_STAT.sync, PAL_ROT_STAT.fly, PAL_ROT_STAT.slewing, PAL_ROT_STAT.dir, PAL_ROT_STAT.dir_pend, PAL_ROT_STAT.overspeed, PAL_ROT_STAT.over_accel, PAL_ROT_STAT.ac_over, PAL_ROT_STAT.bw_clamp, PAL_ROT_STAT.tooth]⟩

def PAL_ROT_EVENT.pattern_err : Fld := ⟨0x158000, 0x100, 0x44, 4, 7, 7, .rc, 0, []⟩
def PAL_ROT_EVENT.tach_late : Fld := ⟨0x158000, 0x100, 0x44, 4, 6, 6, .rc, 0, []⟩
def PAL_ROT_EVENT.stopped : Fld := ⟨0x158000, 0x100, 0x44, 4, 5, 5, .rc, 0, []⟩
def PAL_ROT_EVENT.synced : Fld := ⟨0x158000, 0x100, 0x44, 4, 4, 4, .rc, 0, []⟩
def PAL_ROT_EVENT.overspeed : Fld := ⟨0x158000, 0x100, 0x44, 4, 3, 3, .rc, 0, []⟩
def PAL_ROT_EVENT.over_accel : Fld := ⟨0x158000, 0x100, 0x44, 4, 2, 2, .rc, 0, []⟩
def PAL_ROT_EVENT.ac_omit : Fld := ⟨0x158000, 0x100, 0x44, 4, 1, 1, .rc, 0, []⟩
def PAL_ROT_EVENT.spurious : Fld := ⟨0x158000, 0x100, 0x44, 4, 0, 0, .rc, 0, []⟩
/-- PAL_ROT_EVENT (R180). -/
def PAL_ROT_EVENT.row : RegRow := ⟨"PAL_ROT_EVENT", 1, [PAL_ROT_EVENT.pattern_err, PAL_ROT_EVENT.tach_late, PAL_ROT_EVENT.stopped, PAL_ROT_EVENT.synced, PAL_ROT_EVENT.overspeed, PAL_ROT_EVENT.over_accel, PAL_ROT_EVENT.ac_omit, PAL_ROT_EVENT.spurious]⟩

def PAL_ROT_SPEED.w : Fld := ⟨0x158000, 0x100, 0x48, 4, 31, 0, .ro, 0, []⟩
/-- PAL_ROT_SPEED (R180). -/
def PAL_ROT_SPEED.row : RegRow := ⟨"PAL_ROT_SPEED", 1, [PAL_ROT_SPEED.w]⟩

def PAL_ROT_ACCEL.alpha : Fld := ⟨0x158000, 0x100, 0x4c, 4, 31, 0, .ro, 0, []⟩
/-- PAL_ROT_ACCEL (R180). -/
def PAL_ROT_ACCEL.row : RegRow := ⟨"PAL_ROT_ACCEL", 1, [PAL_ROT_ACCEL.alpha]⟩

def PAL_ROT_ANGLE.a : Fld := ⟨0x158000, 0x100, 0x50, 4, 31, 0, .ro, 0, []⟩
/-- PAL_ROT_ANGLE (R180). -/
def PAL_ROT_ANGLE.row : RegRow := ⟨"PAL_ROT_ANGLE", 1, [PAL_ROT_ANGLE.a]⟩

def PAL_ROT_REVCNT.count : Fld := ⟨0x158000, 0x100, 0x54, 4, 31, 0, .rw, 0, []⟩
/-- PAL_ROT_REVCNT (R180). -/
def PAL_ROT_REVCNT.row : RegRow := ⟨"PAL_ROT_REVCNT", 1, [PAL_ROT_REVCNT.count]⟩

def PAL_ROT_PAT_ERR.count : Fld := ⟨0x158000, 0x100, 0x58, 4, 31, 0, .rc, 0, []⟩
/-- PAL_ROT_PAT_ERR (R180). -/
def PAL_ROT_PAT_ERR.row : RegRow := ⟨"PAL_ROT_PAT_ERR", 1, [PAL_ROT_PAT_ERR.count]⟩

def PAL_ROT_OMIT.count : Fld := ⟨0x158000, 0x100, 0x5c, 4, 31, 0, .rc, 0, []⟩
/-- PAL_ROT_OMIT (R180). -/
def PAL_ROT_OMIT.row : RegRow := ⟨"PAL_ROT_OMIT", 1, [PAL_ROT_OMIT.count]⟩

def PAL_ROT_RESID.delta : Fld := ⟨0x158000, 0x100, 0x60, 4, 31, 0, .ro, 0, []⟩
/-- PAL_ROT_RESID (R180). -/
def PAL_ROT_RESID.row : RegRow := ⟨"PAL_ROT_RESID", 1, [PAL_ROT_RESID.delta]⟩

def PAL_ROT_CFG_REJECT.valid : Fld := ⟨0x158000, 0x100, 0x64, 4, 31, 31, .rc, 0, []⟩
def PAL_ROT_CFG_REJECT.count : Fld := ⟨0x158000, 0x100, 0x64, 4, 15, 8, .rc, 0, []⟩
def PAL_ROT_CFG_REJECT.word : Fld := ⟨0x158000, 0x100, 0x64, 4, 7, 0, .rc, 0, []⟩
/-- PAL_ROT_CFG_REJECT (R180). -/
def PAL_ROT_CFG_REJECT.row : RegRow := ⟨"PAL_ROT_CFG_REJECT", 1, [PAL_ROT_CFG_REJECT.valid, PAL_ROT_CFG_REJECT.count, PAL_ROT_CFG_REJECT.word]⟩

/-- The register rows of ROT (R180). -/
def rowsROT : List RegRow :=
  [PAL_ROT_CFG.row, PAL_ROT_AC.row, PAL_ROT_BW.row, PAL_ROT_LIM.row, PAL_ROT_STOP.row, PAL_ROT_GAP.row, PAL_ROT_ZERO_FWD.row, PAL_ROT_ZERO_REV.row] ++
  [PAL_ROT_REVP.row, PAL_ROT_SLEW.row, PAL_ROT_CTRL.row, PAL_ROT_STAT.row, PAL_ROT_EVENT.row, PAL_ROT_SPEED.row, PAL_ROT_ACCEL.row, PAL_ROT_ANGLE.row] ++
  [PAL_ROT_REVCNT.row, PAL_ROT_PAT_ERR.row, PAL_ROT_OMIT.row, PAL_ROT_RESID.row, PAL_ROT_CFG_REJECT.row]

end Sys2Proof.Machine
end

