-- ==== Sys2Proof/Machine/RegsMemory.lean ====
section
/-! DEFINITION. The register tables of the QMG, TMC, VLT, FRN and FRS blocks and the Frost word registers: one constant per field, one row per register.
Reserved bits have no field: they read 0 and ignore writes (R20). Where the spec's table says `state` or `pin`, the
field starts at 0 here and the operation that the spec names loads it (log entry 3). -/

namespace Sys2Proof.Machine

def QMG_Q_CFG.en : Fld := ⟨0x220000, 0x40, 0x0, 4, 31, 31, .rw, 0, []⟩
def QMG_Q_CFG.notice_en : Fld := ⟨0x220000, 0x40, 0x0, 4, 30, 30, .rw, 1, []⟩
def QMG_Q_CFG.rtype : Fld := ⟨0x220000, 0x40, 0x0, 4, 22, 15, .ro, 0, []⟩
def QMG_Q_CFG.granules : Fld := ⟨0x220000, 0x40, 0x0, 4, 14, 0, .ro, 0, []⟩
/-- QMG_Q_CFG (R326). -/
def QMG_Q_CFG.row : RegRow := ⟨"QMG_Q_CFG", 1, [QMG_Q_CFG.en, QMG_Q_CFG.notice_en, QMG_Q_CFG.rtype, QMG_Q_CFG.granules]⟩

def QMG_Q_BASE.base : Fld := ⟨0x220000, 0x40, 0x4, 4, 31, 0, .ro, 0, []⟩
/-- QMG_Q_BASE (R326). -/
def QMG_Q_BASE.row : RegRow := ⟨"QMG_Q_BASE", 1, [QMG_Q_BASE.base]⟩

def QMG_Q_STAT.mark_valid : Fld := ⟨0x220000, 0x40, 0x8, 4, 31, 31, .ro, 0, []⟩
def QMG_Q_STAT.stale_win : Fld := ⟨0x220000, 0x40, 0x8, 4, 30, 30, .ro, 0, []⟩
def QMG_Q_STAT.dropping : Fld := ⟨0x220000, 0x40, 0x8, 4, 29, 29, .ro, 0, []⟩
def QMG_Q_STAT.epoch : Fld := ⟨0x220000, 0x40, 0x8, 4, 27, 24, .ro, 0, []⟩
def QMG_Q_STAT.unread : Fld := ⟨0x220000, 0x40, 0x8, 4, 22, 0, .ro, 0, []⟩
/-- QMG_Q_STAT (R326). -/
def QMG_Q_STAT.row : RegRow := ⟨"QMG_Q_STAT", 1, [QMG_Q_STAT.mark_valid, QMG_Q_STAT.stale_win, QMG_Q_STAT.dropping, QMG_Q_STAT.epoch, QMG_Q_STAT.unread]⟩

def QMG_Q_FILL.words : Fld := ⟨0x220000, 0x40, 0xc, 4, 22, 0, .ro, 0, []⟩
/-- QMG_Q_FILL (R326). -/
def QMG_Q_FILL.row : RegRow := ⟨"QMG_Q_FILL", 1, [QMG_Q_FILL.words]⟩

def QMG_Q_CTRL.flush : Fld := ⟨0x220000, 0x40, 0x10, 4, 3, 3, .wp, 0, []⟩
def QMG_Q_CTRL.rewind : Fld := ⟨0x220000, 0x40, 0x10, 4, 2, 2, .wp, 0, []⟩
def QMG_Q_CTRL.mark : Fld := ⟨0x220000, 0x40, 0x10, 4, 1, 1, .wp, 0, []⟩
def QMG_Q_CTRL.release : Fld := ⟨0x220000, 0x40, 0x10, 4, 0, 0, .wp, 0, []⟩
/-- QMG_Q_CTRL (R326). -/
def QMG_Q_CTRL.row : RegRow := ⟨"QMG_Q_CTRL", 1, [QMG_Q_CTRL.flush, QMG_Q_CTRL.rewind, QMG_Q_CTRL.mark, QMG_Q_CTRL.release]⟩

def QMG_Q_EVENT.stale_rx : Fld := ⟨0x220000, 0x40, 0x14, 4, 5, 5, .rc, 0, []⟩
def QMG_Q_EVENT.ecc_ue : Fld := ⟨0x220000, 0x40, 0x14, 4, 4, 4, .rc, 0, []⟩
def QMG_Q_EVENT.torn : Fld := ⟨0x220000, 0x40, 0x14, 4, 3, 3, .rc, 0, []⟩
def QMG_Q_EVENT.lost : Fld := ⟨0x220000, 0x40, 0x14, 4, 2, 2, .rc, 0, []⟩
def QMG_Q_EVENT.mark_lost : Fld := ⟨0x220000, 0x40, 0x14, 4, 1, 1, .rc, 0, []⟩
/-- QMG_Q_EVENT (R326). -/
def QMG_Q_EVENT.row : RegRow := ⟨"QMG_Q_EVENT", 1, [QMG_Q_EVENT.stale_rx, QMG_Q_EVENT.ecc_ue, QMG_Q_EVENT.torn, QMG_Q_EVENT.lost, QMG_Q_EVENT.mark_lost]⟩

def QMG_Q_LOST.count : Fld := ⟨0x220000, 0x40, 0x18, 4, 31, 0, .rc, 0, []⟩
/-- QMG_Q_LOST (R326). -/
def QMG_Q_LOST.row : RegRow := ⟨"QMG_Q_LOST", 1, [QMG_Q_LOST.count]⟩

def QMG_Q_TORN.count : Fld := ⟨0x220000, 0x40, 0x1c, 4, 31, 0, .rc, 0, []⟩
/-- QMG_Q_TORN (R326). -/
def QMG_Q_TORN.row : RegRow := ⟨"QMG_Q_TORN", 1, [QMG_Q_TORN.count]⟩

def QMG_Q_STALE.count : Fld := ⟨0x220000, 0x40, 0x20, 4, 31, 0, .rc, 0, []⟩
/-- QMG_Q_STALE (R326). -/
def QMG_Q_STALE.row : RegRow := ⟨"QMG_Q_STALE", 1, [QMG_Q_STALE.count]⟩

def QMG_Q_ECC.corr : Fld := ⟨0x220000, 0x40, 0x24, 4, 31, 16, .rc, 0, []⟩
def QMG_Q_ECC.ue : Fld := ⟨0x220000, 0x40, 0x24, 4, 15, 0, .rc, 0, []⟩
/-- QMG_Q_ECC (R326). -/
def QMG_Q_ECC.row : RegRow := ⟨"QMG_Q_ECC", 1, [QMG_Q_ECC.corr, QMG_Q_ECC.ue]⟩

def QMG_Q_WRITTEN.count : Fld := ⟨0x220000, 0x40, 0x28, 4, 31, 0, .rc, 0, []⟩
/-- QMG_Q_WRITTEN (R326). -/
def QMG_Q_WRITTEN.row : RegRow := ⟨"QMG_Q_WRITTEN", 1, [QMG_Q_WRITTEN.count]⟩

def QMG_Q_DATA0.w0 : Fld := ⟨0x220000, 0x40, 0x30, 4, 31, 0, .lRo, 0, []⟩
/-- QMG_Q_DATA0 (R326). -/
def QMG_Q_DATA0.row : RegRow := ⟨"QMG_Q_DATA0", 1, [QMG_Q_DATA0.w0]⟩

def QMG_Q_DATA1.w1 : Fld := ⟨0x220000, 0x40, 0x34, 4, 31, 0, .hRo, 0, []⟩
/-- QMG_Q_DATA1 (R326). -/
def QMG_Q_DATA1.row : RegRow := ⟨"QMG_Q_DATA1", 3, [QMG_Q_DATA1.w1]⟩

/-- The register rows of QMGQ (R326). -/
def rowsQMGQ : List RegRow :=
  [QMG_Q_CFG.row, QMG_Q_BASE.row, QMG_Q_STAT.row, QMG_Q_FILL.row, QMG_Q_CTRL.row, QMG_Q_EVENT.row, QMG_Q_LOST.row, QMG_Q_TORN.row] ++
  [QMG_Q_STALE.row, QMG_Q_ECC.row, QMG_Q_WRITTEN.row, QMG_Q_DATA0.row, QMG_Q_DATA1.row]

def QMG_NOTICE.pend : Fld := ⟨0x222000, 0x0, 0x0, 4, 31, 0, .ro, 0, []⟩
/-- QMG_NOTICE (R326). -/
def QMG_NOTICE.row : RegRow := ⟨"QMG_NOTICE", 4, [QMG_NOTICE.pend]⟩

def QMG_CFG_REJECT.valid : Fld := ⟨0x222000, 0x0, 0x10, 4, 31, 31, .rc, 0, []⟩
def QMG_CFG_REJECT.queue : Fld := ⟨0x222000, 0x0, 0x10, 4, 30, 24, .rc, 0, []⟩
def QMG_CFG_REJECT.globl : Fld := ⟨0x222000, 0x0, 0x10, 4, 23, 23, .rc, 0, []⟩
def QMG_CFG_REJECT.count : Fld := ⟨0x222000, 0x0, 0x10, 4, 15, 8, .rc, 0, []⟩
def QMG_CFG_REJECT.word : Fld := ⟨0x222000, 0x0, 0x10, 4, 7, 0, .rc, 0, []⟩
/-- QMG_CFG_REJECT (R326). -/
def QMG_CFG_REJECT.row : RegRow := ⟨"QMG_CFG_REJECT", 1, [QMG_CFG_REJECT.valid, QMG_CFG_REJECT.queue, QMG_CFG_REJECT.globl, QMG_CFG_REJECT.count, QMG_CFG_REJECT.word]⟩

/-- The register rows of QMGG (R326). -/
def rowsQMGG : List RegRow :=
  [QMG_NOTICE.row, QMG_CFG_REJECT.row]

def TMC_CTRL.start : Fld := ⟨0x230000, 0x0, 0x0, 4, 31, 31, .wp, 0, []⟩
def TMC_CTRL.abort : Fld := ⟨0x230000, 0x0, 0x0, 4, 30, 30, .wp, 0, []⟩
def TMC_CTRL.mode : Fld := ⟨0x230000, 0x0, 0x0, 4, 29, 29, .rw, 1, []⟩
def TMC_CTRL.banks : Fld := ⟨0x230000, 0x0, 0x0, 4, 15, 0, .rw, 0xffff, []⟩
/-- TMC_CTRL (R327). -/
def TMC_CTRL.row : RegRow := ⟨"TMC_CTRL", 1, [TMC_CTRL.start, TMC_CTRL.abort, TMC_CTRL.mode, TMC_CTRL.banks]⟩

def TMC_STAT.state : Fld := ⟨0x230000, 0x0, 0x4, 4, 31, 29, .ro, 0, []⟩
def TMC_STAT.abort_st : Fld := ⟨0x230000, 0x0, 0x4, 4, 28, 27, .ro, 0, []⟩
def TMC_STAT.bank : Fld := ⟨0x230000, 0x0, 0x4, 4, 19, 16, .ro, 0, []⟩
def TMC_STAT.failed : Fld := ⟨0x230000, 0x0, 0x4, 4, 15, 0, .ro, 0, []⟩
/-- TMC_STAT (R327). -/
def TMC_STAT.row : RegRow := ⟨"TMC_STAT", 1, [TMC_STAT.state, TMC_STAT.abort_st, TMC_STAT.bank, TMC_STAT.failed]⟩

def TMC_CORR_CNT.count : Fld := ⟨0x230000, 0x0, 0x8, 4, 31, 0, .rc, 0, []⟩
/-- TMC_CORR_CNT (R327). -/
def TMC_CORR_CNT.row : RegRow := ⟨"TMC_CORR_CNT", 1, [TMC_CORR_CNT.count]⟩

def TMC_UE_CNT.count : Fld := ⟨0x230000, 0x0, 0xc, 4, 31, 0, .rc, 0, []⟩
/-- TMC_UE_CNT (R327). -/
def TMC_UE_CNT.row : RegRow := ⟨"TMC_UE_CNT", 1, [TMC_UE_CNT.count]⟩

def TMC_UE_ADDR.valid : Fld := ⟨0x230000, 0x0, 0x10, 4, 31, 31, .ro, 0, []⟩
def TMC_UE_ADDR.master : Fld := ⟨0x230000, 0x0, 0x10, 4, 23, 21, .ro, 0, []⟩
def TMC_UE_ADDR.addr : Fld := ⟨0x230000, 0x0, 0x10, 4, 20, 0, .ro, 0, []⟩
/-- TMC_UE_ADDR (R327). -/
def TMC_UE_ADDR.row : RegRow := ⟨"TMC_UE_ADDR", 1, [TMC_UE_ADDR.valid, TMC_UE_ADDR.master, TMC_UE_ADDR.addr]⟩

def TMC_COLL.busy : Fld := ⟨0x230000, 0x0, 0x14, 4, 31, 16, .rc, 0, []⟩
def TMC_COLL.rd : Fld := ⟨0x230000, 0x0, 0x14, 4, 15, 8, .rc, 0, []⟩
def TMC_COLL.wr : Fld := ⟨0x230000, 0x0, 0x14, 4, 7, 0, .rc, 0, []⟩
/-- TMC_COLL (R327). -/
def TMC_COLL.row : RegRow := ⟨"TMC_COLL", 1, [TMC_COLL.busy, TMC_COLL.rd, TMC_COLL.wr]⟩

def TMC_BANK.failed : Fld := ⟨0x230000, 0x0, 0x100, 4, 31, 31, .ro, 0, []⟩
def TMC_BANK.spares : Fld := ⟨0x230000, 0x0, 0x100, 4, 3, 0, .ro, 0, []⟩
/-- TMC_BANK (R327). -/
def TMC_BANK.row : RegRow := ⟨"TMC_BANK", 16, [TMC_BANK.failed, TMC_BANK.spares]⟩

def TMC_CONF.count : Fld := ⟨0x230000, 0x0, 0x400, 4, 31, 0, .rc, 0, []⟩
/-- TMC_CONF (R327). -/
def TMC_CONF.row : RegRow := ⟨"TMC_CONF", 96, [TMC_CONF.count]⟩

/-- The register rows of TMC (R327). -/
def rowsTMC : List RegRow :=
  [TMC_CTRL.row, TMC_STAT.row, TMC_CORR_CNT.row, TMC_UE_CNT.row, TMC_UE_ADDR.row, TMC_COLL.row, TMC_BANK.row, TMC_CONF.row]

def VLT_CTRL.test_start : Fld := ⟨0x240000, 0x0, 0x0, 4, 31, 31, .wp, 0, []⟩
def VLT_CTRL.abort : Fld := ⟨0x240000, 0x0, 0x0, 4, 30, 30, .wp, 0, []⟩
def VLT_CTRL.retrain : Fld := ⟨0x240000, 0x0, 0x0, 4, 29, 29, .wp, 0, []⟩
def VLT_CTRL.scrub_en : Fld := ⟨0x240000, 0x0, 0x0, 4, 28, 28, .rw, 1, []⟩
/-- VLT_CTRL (R328). -/
def VLT_CTRL.row : RegRow := ⟨"VLT_CTRL", 1, [VLT_CTRL.test_start, VLT_CTRL.abort, VLT_CTRL.retrain, VLT_CTRL.scrub_en]⟩

def VLT_STAT.state : Fld := ⟨0x240000, 0x0, 0x4, 4, 31, 29, .ro, 0, []⟩
def VLT_STAT.abort_st : Fld := ⟨0x240000, 0x0, 0x4, 4, 28, 27, .ro, 0, []⟩
def VLT_STAT.test_fail : Fld := ⟨0x240000, 0x0, 0x4, 4, 26, 26, .ro, 0, []⟩
def VLT_STAT.size : Fld := ⟨0x240000, 0x0, 0x4, 4, 7, 0, .ro, 0, []⟩
/-- VLT_STAT (R328). -/
def VLT_STAT.row : RegRow := ⟨"VLT_STAT", 1, [VLT_STAT.state, VLT_STAT.abort_st, VLT_STAT.test_fail, VLT_STAT.size]⟩

def VLT_CORR_CNT.count : Fld := ⟨0x240000, 0x0, 0x8, 4, 31, 0, .rc, 0, []⟩
/-- VLT_CORR_CNT (R328). -/
def VLT_CORR_CNT.row : RegRow := ⟨"VLT_CORR_CNT", 1, [VLT_CORR_CNT.count]⟩

def VLT_UE_CNT.count : Fld := ⟨0x240000, 0x0, 0xc, 4, 31, 0, .rc, 0, []⟩
/-- VLT_UE_CNT (R328). -/
def VLT_UE_CNT.row : RegRow := ⟨"VLT_UE_CNT", 1, [VLT_UE_CNT.count]⟩

def VLT_UE_ADDR.addr : Fld := ⟨0x240000, 0x0, 0x10, 4, 31, 0, .ro, 0, []⟩
/-- VLT_UE_ADDR (R328). -/
def VLT_UE_ADDR.row : RegRow := ⟨"VLT_UE_ADDR", 1, [VLT_UE_ADDR.addr]⟩

def VLT_SCRUB_POS.addr : Fld := ⟨0x240000, 0x0, 0x14, 4, 31, 0, .ro, 0, []⟩
/-- VLT_SCRUB_POS (R328). -/
def VLT_SCRUB_POS.row : RegRow := ⟨"VLT_SCRUB_POS", 1, [VLT_SCRUB_POS.addr]⟩

def VLT_SCRUB_PASS.count : Fld := ⟨0x240000, 0x0, 0x18, 4, 31, 0, .ro, 0, []⟩
/-- VLT_SCRUB_PASS (R328). -/
def VLT_SCRUB_PASS.row : RegRow := ⟨"VLT_SCRUB_PASS", 1, [VLT_SCRUB_PASS.count]⟩

def VLT_TEST_FAIL.count : Fld := ⟨0x240000, 0x0, 0x1c, 4, 31, 0, .ro, 0, []⟩
/-- VLT_TEST_FAIL (R328). -/
def VLT_TEST_FAIL.row : RegRow := ⟨"VLT_TEST_FAIL", 1, [VLT_TEST_FAIL.count]⟩

def VLT_REG_BASE.base : Fld := ⟨0x240000, 0x0, 0x40, 8, 31, 0, .ro, 0, []⟩
/-- VLT_REG_BASE (R328). -/
def VLT_REG_BASE.row : RegRow := ⟨"VLT_REG_BASE", 4, [VLT_REG_BASE.base]⟩

def VLT_REG_SIZE.size : Fld := ⟨0x240000, 0x0, 0x44, 8, 31, 0, .ro, 0, []⟩
/-- VLT_REG_SIZE (R328). -/
def VLT_REG_SIZE.row : RegRow := ⟨"VLT_REG_SIZE", 4, [VLT_REG_SIZE.size]⟩

/-- The register rows of VLT (R328). -/
def rowsVLT : List RegRow :=
  [VLT_CTRL.row, VLT_STAT.row, VLT_CORR_CNT.row, VLT_UE_CNT.row, VLT_UE_ADDR.row, VLT_SCRUB_POS.row, VLT_SCRUB_PASS.row, VLT_TEST_FAIL.row] ++
  [VLT_REG_BASE.row, VLT_REG_SIZE.row]

def FRN_CFG.refresh_en : Fld := ⟨0x250000, 0x0, 0x0, 4, 31, 31, .rw, 1, []⟩
def FRN_CFG.refr_int : Fld := ⟨0x250000, 0x0, 0x0, 4, 15, 0, .rw, 168, []⟩
/-- FRN_CFG (R465). -/
def FRN_CFG.row : RegRow := ⟨"FRN_CFG", 1, [FRN_CFG.refresh_en, FRN_CFG.refr_int]⟩

def FRN_STORE_CTRL.go : Fld := ⟨0x250000, 0x0, 0x4, 4, 31, 31, .wp, 0, []⟩
def FRN_STORE_CTRL.abort : Fld := ⟨0x250000, 0x0, 0x4, 4, 30, 30, .wp, 0, []⟩
def FRN_STORE_CTRL.last : Fld := ⟨0x250000, 0x0, 0x4, 4, 15, 8, .rw, 255, []⟩
def FRN_STORE_CTRL.first : Fld := ⟨0x250000, 0x0, 0x4, 4, 7, 0, .rw, 0, []⟩
/-- FRN_STORE_CTRL (R465). -/
def FRN_STORE_CTRL.row : RegRow := ⟨"FRN_STORE_CTRL", 1, [FRN_STORE_CTRL.go, FRN_STORE_CTRL.abort, FRN_STORE_CTRL.last, FRN_STORE_CTRL.first]⟩

def FRN_STAT.state : Fld := ⟨0x250000, 0x0, 0x8, 4, 31, 29, .ro, 0, []⟩
def FRN_STAT.abort_st : Fld := ⟨0x250000, 0x0, 0x8, 4, 28, 27, .ro, 0, []⟩
def FRN_STAT.waiting : Fld := ⟨0x250000, 0x0, 0x8, 4, 26, 24, .ro, 0, []⟩
def FRN_STAT.page : Fld := ⟨0x250000, 0x0, 0x8, 4, 23, 16, .ro, 0, []⟩
def FRN_STAT.dirty : Fld := ⟨0x250000, 0x0, 0x8, 4, 8, 0, .ro, 0, []⟩
/-- FRN_STAT (R465). -/
def FRN_STAT.row : RegRow := ⟨"FRN_STAT", 1, [FRN_STAT.state, FRN_STAT.abort_st, FRN_STAT.waiting, FRN_STAT.page, FRN_STAT.dirty]⟩

def FRN_EVENT.key_done : Fld := ⟨0x250000, 0x0, 0xc, 4, 6, 6, .rc, 0, []⟩
def FRN_EVENT.tally_fail : Fld := ⟨0x250000, 0x0, 0xc, 4, 5, 5, .rc, 0, []⟩
def FRN_EVENT.recall_lost : Fld := ⟨0x250000, 0x0, 0xc, 4, 4, 4, .rc, 0, []⟩
def FRN_EVENT.copy_bad : Fld := ⟨0x250000, 0x0, 0xc, 4, 3, 3, .rc, 0, []⟩
def FRN_EVENT.store_fail : Fld := ⟨0x250000, 0x0, 0xc, 4, 2, 2, .rc, 0, []⟩
def FRN_EVENT.deferred : Fld := ⟨0x250000, 0x0, 0xc, 4, 1, 1, .rc, 0, []⟩
def FRN_EVENT.store_done : Fld := ⟨0x250000, 0x0, 0xc, 4, 0, 0, .rc, 0, []⟩
/-- FRN_EVENT (R465). -/
def FRN_EVENT.row : RegRow := ⟨"FRN_EVENT", 1, [FRN_EVENT.key_done, FRN_EVENT.tally_fail, FRN_EVENT.recall_lost, FRN_EVENT.copy_bad, FRN_EVENT.store_fail, FRN_EVENT.deferred, FRN_EVENT.store_done]⟩

def FRN_PAGE_SEL.page : Fld := ⟨0x250000, 0x0, 0x10, 4, 7, 0, .rw, 0, []⟩
/-- FRN_PAGE_SEL (R465). -/
def FRN_PAGE_SEL.row : RegRow := ⟨"FRN_PAGE_SEL", 1, [FRN_PAGE_SEL.page]⟩

def FRN_PAGE_STAT.dirty : Fld := ⟨0x250000, 0x0, 0x14, 4, 31, 31, .ro, 0, []⟩
def FRN_PAGE_STAT.prot : Fld := ⟨0x250000, 0x0, 0x14, 4, 30, 30, .ro, 0, []⟩
def FRN_PAGE_STAT.recall : Fld := ⟨0x250000, 0x0, 0x14, 4, 29, 28, .ro, 0, []⟩
def FRN_PAGE_STAT.a_ok : Fld := ⟨0x250000, 0x0, 0x14, 4, 27, 27, .ro, 0, []⟩
def FRN_PAGE_STAT.b_ok : Fld := ⟨0x250000, 0x0, 0x14, 4, 26, 26, .ro, 0, []⟩
def FRN_PAGE_STAT.a_weak : Fld := ⟨0x250000, 0x0, 0x14, 4, 25, 25, .ro, 0, []⟩
def FRN_PAGE_STAT.b_weak : Fld := ⟨0x250000, 0x0, 0x14, 4, 24, 24, .ro, 0, []⟩
def FRN_PAGE_STAT.last : Fld := ⟨0x250000, 0x0, 0x14, 4, 23, 23, .ro, 0, []⟩
def FRN_PAGE_STAT.tokens : Fld := ⟨0x250000, 0x0, 0x14, 4, 6, 0, .ro, 0, []⟩
/-- FRN_PAGE_STAT (R465). -/
def FRN_PAGE_STAT.row : RegRow := ⟨"FRN_PAGE_STAT", 1, [FRN_PAGE_STAT.dirty, FRN_PAGE_STAT.prot, FRN_PAGE_STAT.recall, FRN_PAGE_STAT.a_ok, FRN_PAGE_STAT.b_ok, FRN_PAGE_STAT.a_weak, FRN_PAGE_STAT.b_weak, FRN_PAGE_STAT.last, FRN_PAGE_STAT.tokens]⟩

def FRN_PAGE_SEQ.seq : Fld := ⟨0x250000, 0x0, 0x18, 4, 31, 0, .ro, 0, []⟩
/-- FRN_PAGE_SEQ (R465). -/
def FRN_PAGE_SEQ.row : RegRow := ⟨"FRN_PAGE_SEQ", 1, [FRN_PAGE_SEQ.seq]⟩

def FRN_TALLY_SEL.tally : Fld := ⟨0x250000, 0x0, 0x1c, 4, 4, 0, .rw, 0, []⟩
/-- FRN_TALLY_SEL (R465). -/
def FRN_TALLY_SEL.row : RegRow := ⟨"FRN_TALLY_SEL", 1, [FRN_TALLY_SEL.tally]⟩

def FRN_TALLY.value : Fld := ⟨0x250000, 0x0, 0x20, 4, 31, 0, .ro, 0, []⟩
/-- FRN_TALLY (R465). -/
def FRN_TALLY.row : RegRow := ⟨"FRN_TALLY", 1, [FRN_TALLY.value]⟩

def FRN_TALLY_CTRL.inc : Fld := ⟨0x250000, 0x0, 0x24, 4, 31, 31, .wp, 0, []⟩
def FRN_TALLY_CTRL.busy : Fld := ⟨0x250000, 0x0, 0x24, 4, 30, 30, .ro, 0, []⟩
def FRN_TALLY_CTRL.failed : Fld := ⟨0x250000, 0x0, 0x24, 4, 29, 29, .ro, 0, []⟩
def FRN_TALLY_CTRL.upkept : Fld := ⟨0x250000, 0x0, 0x24, 4, 28, 28, .ro, 0, []⟩
/-- FRN_TALLY_CTRL (R465). -/
def FRN_TALLY_CTRL.row : RegRow := ⟨"FRN_TALLY_CTRL", 1, [FRN_TALLY_CTRL.inc, FRN_TALLY_CTRL.busy, FRN_TALLY_CTRL.failed, FRN_TALLY_CTRL.upkept]⟩

def FRN_KEY_W.key : Fld := ⟨0x250000, 0x0, 0x30, 4, 31, 0, .rw, 0, []⟩
/-- FRN_KEY_W (R465). -/
def FRN_KEY_W.row : RegRow := ⟨"FRN_KEY_W", 8, [FRN_KEY_W.key]⟩

def FRN_KEY_CTRL.provision : Fld := ⟨0x250000, 0x0, 0x50, 4, 31, 31, .wp, 0, []⟩
def FRN_KEY_CTRL.policy : Fld := ⟨0x250000, 0x0, 0x50, 4, 30, 30, .wp, 0, []⟩
def FRN_KEY_CTRL.zeroise : Fld := ⟨0x250000, 0x0, 0x50, 4, 29, 29, .wp, 0, []⟩
def FRN_KEY_CTRL.confirm : Fld := ⟨0x250000, 0x0, 0x50, 4, 15, 0, .rw, 0, []⟩
/-- FRN_KEY_CTRL (R465). -/
def FRN_KEY_CTRL.row : RegRow := ⟨"FRN_KEY_CTRL", 1, [FRN_KEY_CTRL.provision, FRN_KEY_CTRL.policy, FRN_KEY_CTRL.zeroise, FRN_KEY_CTRL.confirm]⟩

def FRN_KEY_STAT.key_set : Fld := ⟨0x250000, 0x0, 0x54, 4, 31, 31, .ro, 0, []⟩
def FRN_KEY_STAT.policy : Fld := ⟨0x250000, 0x0, 0x54, 4, 30, 30, .ro, 0, []⟩
/-- FRN_KEY_STAT (R465). -/
def FRN_KEY_STAT.row : RegRow := ⟨"FRN_KEY_STAT", 1, [FRN_KEY_STAT.key_set, FRN_KEY_STAT.policy]⟩

def FRN_KEY_KCV.kcv : Fld := ⟨0x250000, 0x0, 0x58, 4, 31, 0, .ro, 0, []⟩
/-- FRN_KEY_KCV (R465). -/
def FRN_KEY_KCV.row : RegRow := ⟨"FRN_KEY_KCV", 1, [FRN_KEY_KCV.kcv]⟩

def FRN_STORE_CNT.count : Fld := ⟨0x250000, 0x0, 0x5c, 4, 31, 0, .rc, 0, []⟩
/-- FRN_STORE_CNT (R465). -/
def FRN_STORE_CNT.row : RegRow := ⟨"FRN_STORE_CNT", 1, [FRN_STORE_CNT.count]⟩

def FRN_DEFER_CNT.count : Fld := ⟨0x250000, 0x0, 0x60, 4, 31, 0, .rc, 0, []⟩
/-- FRN_DEFER_CNT (R465). -/
def FRN_DEFER_CNT.row : RegRow := ⟨"FRN_DEFER_CNT", 1, [FRN_DEFER_CNT.count]⟩

def FRN_CFG_REJECT.valid : Fld := ⟨0x250000, 0x0, 0x64, 4, 31, 31, .rc, 0, []⟩
def FRN_CFG_REJECT.count : Fld := ⟨0x250000, 0x0, 0x64, 4, 15, 8, .rc, 0, []⟩
def FRN_CFG_REJECT.word : Fld := ⟨0x250000, 0x0, 0x64, 4, 7, 0, .rc, 0, []⟩
/-- FRN_CFG_REJECT (R465). -/
def FRN_CFG_REJECT.row : RegRow := ⟨"FRN_CFG_REJECT", 1, [FRN_CFG_REJECT.valid, FRN_CFG_REJECT.count, FRN_CFG_REJECT.word]⟩

/-- The register rows of FRN (R465). -/
def rowsFRN : List RegRow :=
  [FRN_CFG.row, FRN_STORE_CTRL.row, FRN_STAT.row, FRN_EVENT.row, FRN_PAGE_SEL.row, FRN_PAGE_STAT.row, FRN_PAGE_SEQ.row, FRN_TALLY_SEL.row] ++
  [FRN_TALLY.row, FRN_TALLY_CTRL.row, FRN_KEY_W.row, FRN_KEY_CTRL.row, FRN_KEY_STAT.row, FRN_KEY_KCV.row, FRN_STORE_CNT.row, FRN_DEFER_CNT.row] ++
  [FRN_CFG_REJECT.row]

def FRS_SYNC_CFG.en : Fld := ⟨0x260000, 0x0, 0x0, 4, 31, 31, .rw, 1, []⟩
def FRS_SYNC_CFG.auto_trim : Fld := ⟨0x260000, 0x0, 0x0, 4, 30, 30, .rw, 1, []⟩
def FRS_SYNC_CFG.tol : Fld := ⟨0x260000, 0x0, 0x0, 4, 7, 0, .rw, 1, []⟩
/-- FRS_SYNC_CFG (R466). -/
def FRS_SYNC_CFG.row : RegRow := ⟨"FRS_SYNC_CFG", 1, [FRS_SYNC_CFG.en, FRS_SYNC_CFG.auto_trim, FRS_SYNC_CFG.tol]⟩

def FRS_STAT.time_valid : Fld := ⟨0x260000, 0x0, 0x4, 4, 31, 31, .ro, 0, []⟩
def FRS_STAT.xtal_ok : Fld := ⟨0x260000, 0x0, 0x4, 4, 30, 30, .ro, 0, []⟩
def FRS_STAT.vhold_ok : Fld := ⟨0x260000, 0x0, 0x4, 4, 29, 29, .ro, 0, []⟩
def FRS_STAT.vfrost_ok : Fld := ⟨0x260000, 0x0, 0x4, 4, 28, 28, .ro, 0, []⟩
def FRS_STAT.aux_high : Fld := ⟨0x260000, 0x0, 0x4, 4, 27, 27, .ro, 0, []⟩
def FRS_STAT.temp_high : Fld := ⟨0x260000, 0x0, 0x4, 4, 26, 26, .ro, 0, []⟩
def FRS_STAT.trim : Fld := ⟨0x260000, 0x0, 0x4, 4, 7, 0, .ro, 0, []⟩
/-- FRS_STAT (R466). -/
def FRS_STAT.row : RegRow := ⟨"FRS_STAT", 1, [FRS_STAT.time_valid, FRS_STAT.xtal_ok, FRS_STAT.vhold_ok, FRS_STAT.vfrost_ok, FRS_STAT.aux_high, FRS_STAT.temp_high, FRS_STAT.trim]⟩

def FRS_EVENT.time_set : Fld := ⟨0x260000, 0x0, 0x8, 4, 3, 3, .rc, 0, []⟩
def FRS_EVENT.sync_step : Fld := ⟨0x260000, 0x0, 0x8, 4, 2, 2, .rc, 0, []⟩
def FRS_EVENT.trim_set : Fld := ⟨0x260000, 0x0, 0x8, 4, 1, 1, .rc, 0, []⟩
def FRS_EVENT.xtal_fail : Fld := ⟨0x260000, 0x0, 0x8, 4, 0, 0, .rc, 0, []⟩
/-- FRS_EVENT (R466). -/
def FRS_EVENT.row : RegRow := ⟨"FRS_EVENT", 1, [FRS_EVENT.time_set, FRS_EVENT.sync_step, FRS_EVENT.trim_set, FRS_EVENT.xtal_fail]⟩

def FRS_TIME_FRAC.frac : Fld := ⟨0x260000, 0x0, 0x10, 4, 15, 0, .lRo, 0, []⟩
/-- FRS_TIME_FRAC (R466). -/
def FRS_TIME_FRAC.row : RegRow := ⟨"FRS_TIME_FRAC", 1, [FRS_TIME_FRAC.frac]⟩

def FRS_TIME_NS.ns : Fld := ⟨0x260000, 0x0, 0x14, 4, 31, 0, .hRo, 0, []⟩
/-- FRS_TIME_NS (R466). -/
def FRS_TIME_NS.row : RegRow := ⟨"FRS_TIME_NS", 1, [FRS_TIME_NS.ns]⟩

def FRS_TIME_SEC_LO.sec_lo : Fld := ⟨0x260000, 0x0, 0x18, 4, 31, 0, .hRo, 0, []⟩
/-- FRS_TIME_SEC_LO (R466). -/
def FRS_TIME_SEC_LO.row : RegRow := ⟨"FRS_TIME_SEC_LO", 1, [FRS_TIME_SEC_LO.sec_lo]⟩

def FRS_TIME_SEC_HI.sec_hi : Fld := ⟨0x260000, 0x0, 0x1c, 4, 15, 0, .hRo, 0, []⟩
/-- FRS_TIME_SEC_HI (R466). -/
def FRS_TIME_SEC_HI.row : RegRow := ⟨"FRS_TIME_SEC_HI", 1, [FRS_TIME_SEC_HI.sec_hi]⟩

def FRS_SYNC_ERR.err : Fld := ⟨0x260000, 0x0, 0x20, 4, 31, 0, .ro, 0, []⟩
/-- FRS_SYNC_ERR (R466). -/
def FRS_SYNC_ERR.row : RegRow := ⟨"FRS_SYNC_ERR", 1, [FRS_SYNC_ERR.err]⟩

def FRS_CFG_REJECT.valid : Fld := ⟨0x260000, 0x0, 0x24, 4, 31, 31, .rc, 0, []⟩
def FRS_CFG_REJECT.count : Fld := ⟨0x260000, 0x0, 0x24, 4, 15, 8, .rc, 0, []⟩
def FRS_CFG_REJECT.word : Fld := ⟨0x260000, 0x0, 0x24, 4, 7, 0, .rc, 0, []⟩
/-- FRS_CFG_REJECT (R466). -/
def FRS_CFG_REJECT.row : RegRow := ⟨"FRS_CFG_REJECT", 1, [FRS_CFG_REJECT.valid, FRS_CFG_REJECT.count, FRS_CFG_REJECT.word]⟩

/-- The register rows of FRS (R466). -/
def rowsFRS : List RegRow :=
  [FRS_SYNC_CFG.row, FRS_STAT.row, FRS_EVENT.row, FRS_TIME_FRAC.row, FRS_TIME_NS.row, FRS_TIME_SEC_LO.row, FRS_TIME_SEC_HI.row, FRS_SYNC_ERR.row] ++
  [FRS_CFG_REJECT.row]

def FRS_W_SUB.sub : Fld := ⟨0x100000000, 0x0, 0x0, 4, 14, 0, .lRo, 0, []⟩
/-- FRS_W_SUB (R467). -/
def FRS_W_SUB.row : RegRow := ⟨"FRS_W_SUB", 1, [FRS_W_SUB.sub]⟩

def FRS_W_SEC_LO.sec_lo : Fld := ⟨0x100000000, 0x0, 0x4, 4, 31, 0, .hRo, 0, []⟩
/-- FRS_W_SEC_LO (R467). -/
def FRS_W_SEC_LO.row : RegRow := ⟨"FRS_W_SEC_LO", 1, [FRS_W_SEC_LO.sec_lo]⟩

def FRS_W_SEC_HI.sec_hi : Fld := ⟨0x100000000, 0x0, 0x8, 4, 15, 0, .hRo, 0, []⟩
/-- FRS_W_SEC_HI (R467). -/
def FRS_W_SEC_HI.row : RegRow := ⟨"FRS_W_SEC_HI", 1, [FRS_W_SEC_HI.sec_hi]⟩

def FRS_W_SET_SUB.sub : Fld := ⟨0x100000000, 0x0, 0x10, 4, 14, 0, .rw, 0, []⟩
/-- FRS_W_SET_SUB (R467). -/
def FRS_W_SET_SUB.row : RegRow := ⟨"FRS_W_SET_SUB", 1, [FRS_W_SET_SUB.sub]⟩

def FRS_W_SET_SEC_LO.sec_lo : Fld := ⟨0x100000000, 0x0, 0x14, 4, 31, 0, .rw, 0, []⟩
/-- FRS_W_SET_SEC_LO (R467). -/
def FRS_W_SET_SEC_LO.row : RegRow := ⟨"FRS_W_SET_SEC_LO", 1, [FRS_W_SET_SEC_LO.sec_lo]⟩

def FRS_W_SET_SEC_HI.sec_hi : Fld := ⟨0x100000000, 0x0, 0x18, 4, 15, 0, .rw, 0, []⟩
/-- FRS_W_SET_SEC_HI (R467). -/
def FRS_W_SET_SEC_HI.row : RegRow := ⟨"FRS_W_SET_SEC_HI", 1, [FRS_W_SET_SEC_HI.sec_hi]⟩

def FRS_W_TRIM.trim : Fld := ⟨0x100000000, 0x0, 0x20, 4, 7, 0, .rw, 0, []⟩
/-- FRS_W_TRIM (R467). -/
def FRS_W_TRIM.row : RegRow := ⟨"FRS_W_TRIM", 1, [FRS_W_TRIM.trim]⟩

def FRS_W_CMP_CFG.core_thr : Fld := ⟨0x100000000, 0x0, 0x30, 4, 31, 27, .rw, 14, []⟩
def FRS_W_CMP_CFG.vfrost_thr : Fld := ⟨0x100000000, 0x0, 0x30, 4, 26, 22, .rw, 4, []⟩
def FRS_W_CMP_CFG.aux_thr : Fld := ⟨0x100000000, 0x0, 0x30, 4, 21, 17, .rw, 24, []⟩
def FRS_W_CMP_CFG.temp_thr : Fld := ⟨0x100000000, 0x0, 0x30, 4, 16, 9, .rw, 120, []⟩
def FRS_W_CMP_CFG.aux_pol : Fld := ⟨0x100000000, 0x0, 0x30, 4, 0, 0, .rw, 0, []⟩
/-- FRS_W_CMP_CFG (R467). -/
def FRS_W_CMP_CFG.row : RegRow := ⟨"FRS_W_CMP_CFG", 1, [FRS_W_CMP_CFG.core_thr, FRS_W_CMP_CFG.vfrost_thr, FRS_W_CMP_CFG.aux_thr, FRS_W_CMP_CFG.temp_thr, FRS_W_CMP_CFG.aux_pol]⟩

def FRS_W_CMP_STAT.levels : Fld := ⟨0x100000000, 0x0, 0x34, 4, 31, 27, .ro, 0, []⟩
/-- FRS_W_CMP_STAT (R467). -/
def FRS_W_CMP_STAT.row : RegRow := ⟨"FRS_W_CMP_STAT", 1, [FRS_W_CMP_STAT.levels]⟩

def FRS_W_WAKE_CFG.en : Fld := ⟨0x100000000, 0x0, 0x40, 4, 4, 0, .rw, 0, []⟩
/-- FRS_W_WAKE_CFG (R467). -/
def FRS_W_WAKE_CFG.row : RegRow := ⟨"FRS_W_WAKE_CFG", 1, [FRS_W_WAKE_CFG.en]⟩

def FRS_W_ALARM_LO.al_lo : Fld := ⟨0x100000000, 0x0, 0x44, 4, 31, 0, .lRw, 0, []⟩
/-- FRS_W_ALARM_LO (R467). -/
def FRS_W_ALARM_LO.row : RegRow := ⟨"FRS_W_ALARM_LO", 1, [FRS_W_ALARM_LO.al_lo]⟩

def FRS_W_ALARM_HI.al_hi : Fld := ⟨0x100000000, 0x0, 0x48, 4, 15, 0, .hRw, 0xffff, []⟩
/-- FRS_W_ALARM_HI (R467). -/
def FRS_W_ALARM_HI.row : RegRow := ⟨"FRS_W_ALARM_HI", 1, [FRS_W_ALARM_HI.al_hi]⟩

def FRS_W_WAKE_STAT.ev : Fld := ⟨0x100000000, 0x0, 0x4c, 4, 4, 0, .rc, 0, []⟩
/-- FRS_W_WAKE_STAT (R467). -/
def FRS_W_WAKE_STAT.row : RegRow := ⟨"FRS_W_WAKE_STAT", 1, [FRS_W_WAKE_STAT.ev]⟩

def FRS_W_STAT.time_valid : Fld := ⟨0x100000000, 0x0, 0x50, 4, 31, 31, .ro, 0, []⟩
def FRS_W_STAT.xtal_ok : Fld := ⟨0x100000000, 0x0, 0x50, 4, 30, 30, .ro, 0, []⟩
def FRS_W_STAT.core_lost : Fld := ⟨0x100000000, 0x0, 0x50, 4, 29, 29, .ro, 1, []⟩
def FRS_W_STAT.frost_por : Fld := ⟨0x100000000, 0x0, 0x50, 4, 28, 28, .ro, 1, []⟩
/-- FRS_W_STAT (R467). -/
def FRS_W_STAT.row : RegRow := ⟨"FRS_W_STAT", 1, [FRS_W_STAT.time_valid, FRS_W_STAT.xtal_ok, FRS_W_STAT.core_lost, FRS_W_STAT.frost_por]⟩

/-- The register rows of FRSW (R467). -/
def rowsFRSW : List RegRow :=
  [FRS_W_SUB.row, FRS_W_SEC_LO.row, FRS_W_SEC_HI.row, FRS_W_SET_SUB.row, FRS_W_SET_SEC_LO.row, FRS_W_SET_SEC_HI.row, FRS_W_TRIM.row, FRS_W_CMP_CFG.row] ++
  [FRS_W_CMP_STAT.row, FRS_W_WAKE_CFG.row, FRS_W_ALARM_LO.row, FRS_W_ALARM_HI.row, FRS_W_WAKE_STAT.row, FRS_W_STAT.row]

end Sys2Proof.Machine
end

