-- ==== Sys2Proof/Machine/RegsNet.lean ====
section
/-! DEFINITION. The register tables of the Ethernet lane and PTE blocks: one constant per field, one row per register.
Reserved bits have no field: they read 0 and ignore writes (R20). Where the spec's table says `state` or `pin`, the
field starts at 0 here and the operation that the spec names loads it (log entry 3). -/

namespace Sys2Proof.Machine

def ETH_CFG.en : Fld := ⟨0x200000, 0x4000, 0x0, 4, 31, 31, .rw, 0, []⟩
def ETH_CFG.mode : Fld := ⟨0x200000, 0x4000, 0x0, 4, 30, 29, .rwe, 0, []⟩
def ETH_CFG.an_en : Fld := ⟨0x200000, 0x4000, 0x0, 4, 28, 28, .rwe, 1, []⟩
def ETH_CFG.role : Fld := ⟨0x200000, 0x4000, 0x0, 4, 27, 27, .ro, 0, []⟩
def ETH_CFG.domain : Fld := ⟨0x200000, 0x4000, 0x0, 4, 26, 25, .ro, 0, []⟩
def ETH_CFG.hlk : Fld := ⟨0x200000, 0x4000, 0x0, 4, 24, 24, .ro, 0, []⟩
def ETH_CFG.txclk : Fld := ⟨0x200000, 0x4000, 0x0, 4, 23, 21, .ro, 0, []⟩
def ETH_CFG.maxlen : Fld := ⟨0x200000, 0x4000, 0x0, 4, 13, 0, .rwe, 0x2400, []⟩
/-- ETH_CFG (R271). -/
def ETH_CFG.row : RegRow := ⟨"ETH_CFG", 1, [ETH_CFG.en, ETH_CFG.mode, ETH_CFG.an_en, ETH_CFG.role, ETH_CFG.domain, ETH_CFG.hlk, ETH_CFG.txclk, ETH_CFG.maxlen]⟩

def ETH_PTP_CFG.m2l_mode : Fld := ⟨0x200000, 0x4000, 0x4, 4, 31, 30, .rw, 1, []⟩
def ETH_PTP_CFG.l2m_mode : Fld := ⟨0x200000, 0x4000, 0x4, 4, 29, 28, .rw, 1, []⟩
def ETH_PTP_CFG.types : Fld := ⟨0x200000, 0x4000, 0x4, 4, 27, 24, .rw, 15, []⟩
def ETH_PTP_CFG.enc : Fld := ⟨0x200000, 0x4000, 0x4, 4, 23, 21, .rw, 7, []⟩
def ETH_PTP_CFG.v6_comp : Fld := ⟨0x200000, 0x4000, 0x4, 4, 20, 20, .rw, 1, []⟩
def ETH_PTP_CFG.mc_term : Fld := ⟨0x200000, 0x4000, 0x4, 4, 19, 19, .rw, 0, []⟩
def ETH_PTP_CFG.esmc_fwd : Fld := ⟨0x200000, 0x4000, 0x4, 4, 18, 18, .rw, 0, []⟩
/-- ETH_PTP_CFG (R271). -/
def ETH_PTP_CFG.row : RegRow := ⟨"ETH_PTP_CFG", 1, [ETH_PTP_CFG.m2l_mode, ETH_PTP_CFG.l2m_mode, ETH_PTP_CFG.types, ETH_PTP_CFG.enc, ETH_PTP_CFG.v6_comp, ETH_PTP_CFG.mc_term, ETH_PTP_CFG.esmc_fwd]⟩

def ETH_MAC_LO.mac_lo : Fld := ⟨0x200000, 0x4000, 0x8, 4, 31, 0, .rw, 0, []⟩
/-- ETH_MAC_LO (R271). -/
def ETH_MAC_LO.row : RegRow := ⟨"ETH_MAC_LO", 1, [ETH_MAC_LO.mac_lo]⟩

def ETH_MAC_HI.mac_hi : Fld := ⟨0x200000, 0x4000, 0xc, 4, 15, 0, .rw, 0, []⟩
/-- ETH_MAC_HI (R271). -/
def ETH_MAC_HI.row : RegRow := ⟨"ETH_MAC_HI", 1, [ETH_MAC_HI.mac_hi]⟩

def ETH_IP4.ip4 : Fld := ⟨0x200000, 0x4000, 0x10, 4, 31, 0, .rw, 0, []⟩
/-- ETH_IP4 (R271). -/
def ETH_IP4.row : RegRow := ⟨"ETH_IP4", 1, [ETH_IP4.ip4]⟩

def ETH_IP6.ip6 : Fld := ⟨0x200000, 0x4000, 0x14, 4, 31, 0, .rw, 0, []⟩
/-- ETH_IP6 (R271). -/
def ETH_IP6.row : RegRow := ⟨"ETH_IP6", 4, [ETH_IP6.ip6]⟩

def ETH_RX_DLY_L.dly : Fld := ⟨0x200000, 0x4000, 0x24, 4, 31, 0, .rw, 0, []⟩
/-- ETH_RX_DLY_L (R271). -/
def ETH_RX_DLY_L.row : RegRow := ⟨"ETH_RX_DLY_L", 1, [ETH_RX_DLY_L.dly]⟩

def ETH_TX_DLY_L.dly : Fld := ⟨0x200000, 0x4000, 0x28, 4, 31, 0, .rw, 0, []⟩
/-- ETH_TX_DLY_L (R271). -/
def ETH_TX_DLY_L.row : RegRow := ⟨"ETH_TX_DLY_L", 1, [ETH_TX_DLY_L.dly]⟩

def ETH_RX_DLY_M.dly : Fld := ⟨0x200000, 0x4000, 0x2c, 4, 31, 0, .rw, 0, []⟩
/-- ETH_RX_DLY_M (R271). -/
def ETH_RX_DLY_M.row : RegRow := ⟨"ETH_RX_DLY_M", 1, [ETH_RX_DLY_M.dly]⟩

def ETH_TX_DLY_M.dly : Fld := ⟨0x200000, 0x4000, 0x30, 4, 31, 0, .rw, 0, []⟩
/-- ETH_TX_DLY_M (R271). -/
def ETH_TX_DLY_M.row : RegRow := ⟨"ETH_TX_DLY_M", 1, [ETH_TX_DLY_M.dly]⟩

def ETH_ASYM.asym : Fld := ⟨0x200000, 0x4000, 0x34, 4, 31, 0, .rw, 0, []⟩
/-- ETH_ASYM (R271). -/
def ETH_ASYM.row : RegRow := ⟨"ETH_ASYM", 1, [ETH_ASYM.asym]⟩

def ETH_LOOP.side : Fld := ⟨0x200000, 0x4000, 0x38, 4, 8, 8, .rw, 0, []⟩
def ETH_LOOP.depth : Fld := ⟨0x200000, 0x4000, 0x38, 4, 1, 0, .rw, 0, []⟩
/-- ETH_LOOP (R271). -/
def ETH_LOOP.row : RegRow := ⟨"ETH_LOOP", 1, [ETH_LOOP.side, ETH_LOOP.depth]⟩

def ETH_CTRL.release : Fld := ⟨0x200000, 0x4000, 0x3c, 4, 1, 1, .wp, 0, []⟩
def ETH_CTRL.an_restart : Fld := ⟨0x200000, 0x4000, 0x3c, 4, 0, 0, .wp, 0, []⟩
/-- ETH_CTRL (R271). -/
def ETH_CTRL.row : RegRow := ⟨"ETH_CTRL", 1, [ETH_CTRL.release, ETH_CTRL.an_restart]⟩

def ETH_STAT.state : Fld := ⟨0x200000, 0x4000, 0x40, 4, 31, 29, .ro, 0, []⟩
def ETH_STAT.cause : Fld := ⟨0x200000, 0x4000, 0x40, 4, 28, 25, .ro, 0, []⟩
def ETH_STAT.l_sync : Fld := ⟨0x200000, 0x4000, 0x40, 4, 24, 24, .ro, 0, []⟩
def ETH_STAT.m_sync : Fld := ⟨0x200000, 0x4000, 0x40, 4, 23, 23, .ro, 0, []⟩
def ETH_STAT.l_an : Fld := ⟨0x200000, 0x4000, 0x40, 4, 22, 22, .ro, 0, []⟩
def ETH_STAT.m_an : Fld := ⟨0x200000, 0x4000, 0x40, 4, 21, 21, .ro, 0, []⟩
def ETH_STAT.isolated : Fld := ⟨0x200000, 0x4000, 0x40, 4, 20, 20, .ro, 0, []⟩
/-- ETH_STAT (R271). -/
def ETH_STAT.row : RegRow := ⟨"ETH_STAT", 1, [ETH_STAT.state, ETH_STAT.cause, ETH_STAT.l_sync, ETH_STAT.m_sync, ETH_STAT.l_an, ETH_STAT.m_an, ETH_STAT.isolated]⟩

def ETH_EVENT.late : Fld := ⟨0x200000, 0x4000, 0x44, 4, 5, 5, .rc, 0, []⟩
def ETH_EVENT.skip : Fld := ⟨0x200000, 0x4000, 0x44, 4, 4, 4, .rc, 0, []⟩
def ETH_EVENT.drop : Fld := ⟨0x200000, 0x4000, 0x44, 4, 3, 3, .rc, 0, []⟩
def ETH_EVENT.hold : Fld := ⟨0x200000, 0x4000, 0x44, 4, 2, 2, .rc, 0, []⟩
def ETH_EVENT.down : Fld := ⟨0x200000, 0x4000, 0x44, 4, 1, 1, .rc, 0, []⟩
def ETH_EVENT.up : Fld := ⟨0x200000, 0x4000, 0x44, 4, 0, 0, .rc, 0, []⟩
/-- ETH_EVENT (R271). -/
def ETH_EVENT.row : RegRow := ⟨"ETH_EVENT", 1, [ETH_EVENT.late, ETH_EVENT.skip, ETH_EVENT.drop, ETH_EVENT.hold, ETH_EVENT.down, ETH_EVENT.up]⟩

def ETH_RES_MAX.res : Fld := ⟨0x200000, 0x4000, 0x48, 4, 31, 0, .rc, 0, []⟩
/-- ETH_RES_MAX (R271). -/
def ETH_RES_MAX.row : RegRow := ⟨"ETH_RES_MAX", 1, [ETH_RES_MAX.res]⟩

def ETH_CORR_CNT.count : Fld := ⟨0x200000, 0x4000, 0x4c, 4, 31, 0, .rc, 0, []⟩
/-- ETH_CORR_CNT (R271). -/
def ETH_CORR_CNT.row : RegRow := ⟨"ETH_CORR_CNT", 1, [ETH_CORR_CNT.count]⟩

def ETH_SKIP_CNT.count : Fld := ⟨0x200000, 0x4000, 0x50, 4, 31, 0, .rc, 0, []⟩
/-- ETH_SKIP_CNT (R271). -/
def ETH_SKIP_CNT.row : RegRow := ⟨"ETH_SKIP_CNT", 1, [ETH_SKIP_CNT.count]⟩

def ETH_MACSEC_CNT.count : Fld := ⟨0x200000, 0x4000, 0x54, 4, 31, 0, .rc, 0, []⟩
/-- ETH_MACSEC_CNT (R271). -/
def ETH_MACSEC_CNT.row : RegRow := ⟨"ETH_MACSEC_CNT", 1, [ETH_MACSEC_CNT.count]⟩

def ETH_UNPARSED_CNT.count : Fld := ⟨0x200000, 0x4000, 0x58, 4, 31, 0, .rc, 0, []⟩
/-- ETH_UNPARSED_CNT (R271). -/
def ETH_UNPARSED_CNT.row : RegRow := ⟨"ETH_UNPARSED_CNT", 1, [ETH_UNPARSED_CNT.count]⟩

def ETH_DROP_CNT.count : Fld := ⟨0x200000, 0x4000, 0x5c, 4, 31, 0, .rc, 0, []⟩
/-- ETH_DROP_CNT (R271). -/
def ETH_DROP_CNT.row : RegRow := ⟨"ETH_DROP_CNT", 1, [ETH_DROP_CNT.count]⟩

def ETH_HOLD_DROP.count : Fld := ⟨0x200000, 0x4000, 0x60, 4, 31, 0, .rc, 0, []⟩
/-- ETH_HOLD_DROP (R271). -/
def ETH_HOLD_DROP.row : RegRow := ⟨"ETH_HOLD_DROP", 1, [ETH_HOLD_DROP.count]⟩

def ETH_FCS_CNT.count : Fld := ⟨0x200000, 0x4000, 0x64, 4, 31, 0, .rc, 0, []⟩
/-- ETH_FCS_CNT (R271). -/
def ETH_FCS_CNT.row : RegRow := ⟨"ETH_FCS_CNT", 1, [ETH_FCS_CNT.count]⟩

def ETH_LONG_CNT.count : Fld := ⟨0x200000, 0x4000, 0x68, 4, 31, 0, .rc, 0, []⟩
/-- ETH_LONG_CNT (R271). -/
def ETH_LONG_CNT.row : RegRow := ⟨"ETH_LONG_CNT", 1, [ETH_LONG_CNT.count]⟩

def ETH_LATE_CNT.count : Fld := ⟨0x200000, 0x4000, 0x6c, 4, 31, 0, .rc, 0, []⟩
/-- ETH_LATE_CNT (R271). -/
def ETH_LATE_CNT.row : RegRow := ⟨"ETH_LATE_CNT", 1, [ETH_LATE_CNT.count]⟩

def ETH_EVT_DROP.count : Fld := ⟨0x200000, 0x4000, 0x70, 4, 31, 0, .rc, 0, []⟩
/-- ETH_EVT_DROP (R271). -/
def ETH_EVT_DROP.row : RegRow := ⟨"ETH_EVT_DROP", 1, [ETH_EVT_DROP.count]⟩

def ETH_ESMC_CNT.count : Fld := ⟨0x200000, 0x4000, 0x74, 4, 31, 0, .rc, 0, []⟩
/-- ETH_ESMC_CNT (R271). -/
def ETH_ESMC_CNT.row : RegRow := ⟨"ETH_ESMC_CNT", 1, [ETH_ESMC_CNT.count]⟩

def ETH_ESMC_BAD.count : Fld := ⟨0x200000, 0x4000, 0x78, 4, 31, 0, .rc, 0, []⟩
/-- ETH_ESMC_BAD (R271). -/
def ETH_ESMC_BAD.row : RegRow := ⟨"ETH_ESMC_BAD", 1, [ETH_ESMC_BAD.count]⟩

def ETH_CFG_REJECT.valid : Fld := ⟨0x200000, 0x4000, 0x7c, 4, 31, 31, .rc, 0, []⟩
def ETH_CFG_REJECT.count : Fld := ⟨0x200000, 0x4000, 0x7c, 4, 15, 8, .rc, 0, []⟩
def ETH_CFG_REJECT.word : Fld := ⟨0x200000, 0x4000, 0x7c, 4, 7, 0, .rc, 0, []⟩
/-- ETH_CFG_REJECT (R271). -/
def ETH_CFG_REJECT.row : RegRow := ⟨"ETH_CFG_REJECT", 1, [ETH_CFG_REJECT.valid, ETH_CFG_REJECT.count, ETH_CFG_REJECT.word]⟩

/-- The register rows of ETH (R271). -/
def rowsETH : List RegRow :=
  [ETH_CFG.row, ETH_PTP_CFG.row, ETH_MAC_LO.row, ETH_MAC_HI.row, ETH_IP4.row, ETH_IP6.row, ETH_RX_DLY_L.row, ETH_TX_DLY_L.row] ++
  [ETH_RX_DLY_M.row, ETH_TX_DLY_M.row, ETH_ASYM.row, ETH_LOOP.row, ETH_CTRL.row, ETH_STAT.row, ETH_EVENT.row, ETH_RES_MAX.row] ++
  [ETH_CORR_CNT.row, ETH_SKIP_CNT.row, ETH_MACSEC_CNT.row, ETH_UNPARSED_CNT.row, ETH_DROP_CNT.row, ETH_HOLD_DROP.row, ETH_FCS_CNT.row, ETH_LONG_CNT.row] ++
  [ETH_LATE_CNT.row, ETH_EVT_DROP.row, ETH_ESMC_CNT.row, ETH_ESMC_BAD.row, ETH_CFG_REJECT.row]

def PTE_CFG.en : Fld := ⟨0x210000, 0x0, 0x0, 4, 31, 31, .rw, 0, []⟩
def PTE_CFG.max_log : Fld := ⟨0x210000, 0x0, 0x0, 4, 23, 20, .rwe, 9, []⟩
/-- PTE_CFG (R296). -/
def PTE_CFG.row : RegRow := ⟨"PTE_CFG", 1, [PTE_CFG.en, PTE_CFG.max_log]⟩

def PTE_SRV_CFG.grant_max : Fld := ⟨0x210000, 0x0, 0x4, 4, 31, 20, .rw, 0x3e8, []⟩
def PTE_SRV_CFG.grant_min : Fld := ⟨0x210000, 0x0, 0x4, 4, 19, 8, .rw, 60, []⟩
/-- PTE_SRV_CFG (R296). -/
def PTE_SRV_CFG.row : RegRow := ⟨"PTE_SRV_CFG", 1, [PTE_SRV_CFG.grant_max, PTE_SRV_CFG.grant_min]⟩

def PTE_TRK_CFG.trk_en : Fld := ⟨0x210000, 0x0, 0x8, 4, 31, 31, .rw, 1, []⟩
def PTE_TRK_CFG.confirm : Fld := ⟨0x210000, 0x0, 0x8, 4, 27, 24, .rw, 2, []⟩
def PTE_TRK_CFG.trk_tau : Fld := ⟨0x210000, 0x0, 0x8, 4, 23, 20, .rw, 6, []⟩
def PTE_TRK_CFG.step_thr : Fld := ⟨0x210000, 0x0, 0x8, 4, 19, 0, .rw, 0x3e8, []⟩
/-- PTE_TRK_CFG (R296). -/
def PTE_TRK_CFG.row : RegRow := ⟨"PTE_TRK_CFG", 1, [PTE_TRK_CFG.trk_en, PTE_TRK_CFG.confirm, PTE_TRK_CFG.trk_tau, PTE_TRK_CFG.step_thr]⟩

def PTE_CLOCK_ID_LO.id_lo : Fld := ⟨0x210000, 0x0, 0xc, 4, 31, 0, .rwe, 0, []⟩
/-- PTE_CLOCK_ID_LO (R296). -/
def PTE_CLOCK_ID_LO.row : RegRow := ⟨"PTE_CLOCK_ID_LO", 1, [PTE_CLOCK_ID_LO.id_lo]⟩

def PTE_CLOCK_ID_HI.id_hi : Fld := ⟨0x210000, 0x0, 0x10, 4, 31, 0, .rwe, 0, []⟩
/-- PTE_CLOCK_ID_HI (R296). -/
def PTE_CLOCK_ID_HI.row : RegRow := ⟨"PTE_CLOCK_ID_HI", 1, [PTE_CLOCK_ID_HI.id_hi]⟩

def PTE_STAT.run : Fld := ⟨0x210000, 0x0, 0x40, 4, 31, 31, .ro, 0, []⟩
def PTE_STAT.cfg_bad : Fld := ⟨0x210000, 0x0, 0x40, 4, 30, 30, .ro, 0, []⟩
def PTE_STAT.used : Fld := ⟨0x210000, 0x0, 0x40, 4, 14, 0, .ro, 0, []⟩
/-- PTE_STAT (R296). -/
def PTE_STAT.row : RegRow := ⟨"PTE_STAT", 1, [PTE_STAT.run, PTE_STAT.cfg_bad, PTE_STAT.used]⟩

def PTE_LOAD.load : Fld := ⟨0x210000, 0x0, 0x44, 4, 23, 0, .ro, 0, []⟩
/-- PTE_LOAD (R296). -/
def PTE_LOAD.row : RegRow := ⟨"PTE_LOAD", 1, [PTE_LOAD.load]⟩

def PTE_EVENT.table_full : Fld := ⟨0x210000, 0x0, 0x48, 4, 4, 4, .rc, 0, []⟩
def PTE_EVENT.refused : Fld := ⟨0x210000, 0x0, 0x48, 4, 3, 3, .rc, 0, []⟩
def PTE_EVENT.client_asym : Fld := ⟨0x210000, 0x0, 0x48, 4, 2, 2, .rc, 0, []⟩
def PTE_EVENT.domain_asym : Fld := ⟨0x210000, 0x0, 0x48, 4, 1, 1, .rc, 0, []⟩
def PTE_EVENT.master_lost : Fld := ⟨0x210000, 0x0, 0x48, 4, 0, 0, .rc, 0, []⟩
/-- PTE_EVENT (R296). -/
def PTE_EVENT.row : RegRow := ⟨"PTE_EVENT", 1, [PTE_EVENT.table_full, PTE_EVENT.refused, PTE_EVENT.client_asym, PTE_EVENT.domain_asym, PTE_EVENT.master_lost]⟩

def PTE_REFUSE_CNT.count : Fld := ⟨0x210000, 0x0, 0x4c, 4, 31, 0, .rc, 0, []⟩
/-- PTE_REFUSE_CNT (R296). -/
def PTE_REFUSE_CNT.row : RegRow := ⟨"PTE_REFUSE_CNT", 1, [PTE_REFUSE_CNT.count]⟩

def PTE_DISCARD_CNT.count : Fld := ⟨0x210000, 0x0, 0x50, 4, 31, 0, .rc, 0, []⟩
/-- PTE_DISCARD_CNT (R296). -/
def PTE_DISCARD_CNT.row : RegRow := ⟨"PTE_DISCARD_CNT", 1, [PTE_DISCARD_CNT.count]⟩

def PTE_CFG_REJECT.valid : Fld := ⟨0x210000, 0x0, 0x54, 4, 31, 31, .rc, 0, []⟩
def PTE_CFG_REJECT.count : Fld := ⟨0x210000, 0x0, 0x54, 4, 15, 8, .rc, 0, []⟩
def PTE_CFG_REJECT.word : Fld := ⟨0x210000, 0x0, 0x54, 4, 7, 0, .rc, 0, []⟩
/-- PTE_CFG_REJECT (R296). -/
def PTE_CFG_REJECT.row : RegRow := ⟨"PTE_CFG_REJECT", 1, [PTE_CFG_REJECT.valid, PTE_CFG_REJECT.count, PTE_CFG_REJECT.word]⟩

def PTE_SLOT_CTRL.go : Fld := ⟨0x210000, 0x0, 0x60, 4, 31, 31, .wp, 0, []⟩
def PTE_SLOT_CTRL.op : Fld := ⟨0x210000, 0x0, 0x60, 4, 17, 16, .rw, 0, []⟩
def PTE_SLOT_CTRL.slot : Fld := ⟨0x210000, 0x0, 0x60, 4, 13, 0, .rw, 0, []⟩
/-- PTE_SLOT_CTRL (R296). -/
def PTE_SLOT_CTRL.row : RegRow := ⟨"PTE_SLOT_CTRL", 1, [PTE_SLOT_CTRL.go, PTE_SLOT_CTRL.op, PTE_SLOT_CTRL.slot]⟩

def PTE_SLOT_STAT.active : Fld := ⟨0x210000, 0x0, 0x64, 4, 31, 31, .ro, 0, []⟩
def PTE_SLOT_STAT.asym : Fld := ⟨0x210000, 0x0, 0x64, 4, 30, 30, .ro, 0, []⟩
def PTE_SLOT_STAT.path_known : Fld := ⟨0x210000, 0x0, 0x64, 4, 29, 29, .ro, 0, []⟩
def PTE_SLOT_STAT.domain : Fld := ⟨0x210000, 0x0, 0x64, 4, 28, 28, .ro, 0, []⟩
def PTE_SLOT_STAT.lane : Fld := ⟨0x210000, 0x0, 0x64, 4, 27, 26, .ro, 0, []⟩
def PTE_SLOT_STAT.path : Fld := ⟨0x210000, 0x0, 0x64, 4, 25, 20, .ro, 63, []⟩
/-- PTE_SLOT_STAT (R296). -/
def PTE_SLOT_STAT.row : RegRow := ⟨"PTE_SLOT_STAT", 1, [PTE_SLOT_STAT.active, PTE_SLOT_STAT.asym, PTE_SLOT_STAT.path_known, PTE_SLOT_STAT.domain, PTE_SLOT_STAT.lane, PTE_SLOT_STAT.path]⟩

/-- The register rows of PTE (R296). -/
def rowsPTE : List RegRow :=
  [PTE_CFG.row, PTE_SRV_CFG.row, PTE_TRK_CFG.row, PTE_CLOCK_ID_LO.row, PTE_CLOCK_ID_HI.row, PTE_STAT.row, PTE_LOAD.row, PTE_EVENT.row] ++
  [PTE_REFUSE_CNT.row, PTE_DISCARD_CNT.row, PTE_CFG_REJECT.row, PTE_SLOT_CTRL.row, PTE_SLOT_STAT.row]

def PTE_DOM_CFG.en : Fld := ⟨0x210100, 0x40, 0x0, 4, 31, 31, .rw, 0, []⟩
def PTE_DOM_CFG.profile : Fld := ⟨0x210100, 0x40, 0x0, 4, 30, 28, .rwe, 0, []⟩
def PTE_DOM_CFG.number : Fld := ⟨0x210100, 0x40, 0x0, 4, 15, 8, .rwe, 0, []⟩
/-- PTE_DOM_CFG (R296). -/
def PTE_DOM_CFG.row : RegRow := ⟨"PTE_DOM_CFG", 1, [PTE_DOM_CFG.en, PTE_DOM_CFG.profile, PTE_DOM_CFG.number]⟩

def PTE_DOM_PRIO.priority1 : Fld := ⟨0x210100, 0x40, 0x4, 4, 31, 24, .rw, 128, []⟩
def PTE_DOM_PRIO.priority2 : Fld := ⟨0x210100, 0x40, 0x4, 4, 23, 16, .rw, 128, []⟩
def PTE_DOM_PRIO.local_prio : Fld := ⟨0x210100, 0x40, 0x4, 4, 15, 8, .rw, 128, []⟩
def PTE_DOM_PRIO.accuracy : Fld := ⟨0x210100, 0x40, 0x4, 4, 7, 0, .rw, 254, []⟩
/-- PTE_DOM_PRIO (R296). -/
def PTE_DOM_PRIO.row : RegRow := ⟨"PTE_DOM_PRIO", 1, [PTE_DOM_PRIO.priority1, PTE_DOM_PRIO.priority2, PTE_DOM_PRIO.local_prio, PTE_DOM_PRIO.accuracy]⟩

def PTE_DOM_CLASS.cls_lock : Fld := ⟨0x210100, 0x40, 0x8, 4, 31, 24, .rw, 6, []⟩
def PTE_DOM_CLASS.cls_ho : Fld := ⟨0x210100, 0x40, 0x8, 4, 23, 16, .rw, 135, []⟩
def PTE_DOM_CLASS.cls_ho_out : Fld := ⟨0x210100, 0x40, 0x8, 4, 15, 8, .rw, 165, []⟩
def PTE_DOM_CLASS.cls_fr : Fld := ⟨0x210100, 0x40, 0x8, 4, 7, 0, .rw, 248, []⟩
/-- PTE_DOM_CLASS (R296). -/
def PTE_DOM_CLASS.row : RegRow := ⟨"PTE_DOM_CLASS", 1, [PTE_DOM_CLASS.cls_lock, PTE_DOM_CLASS.cls_ho, PTE_DOM_CLASS.cls_ho_out, PTE_DOM_CLASS.cls_fr]⟩

def PTE_DOM_HO.ho_lim : Fld := ⟨0x210100, 0x40, 0xc, 4, 31, 0, .rw, 0x15180, []⟩
/-- PTE_DOM_HO (R296). -/
def PTE_DOM_HO.row : RegRow := ⟨"PTE_DOM_HO", 1, [PTE_DOM_HO.ho_lim]⟩

def PTE_DOM_TPROP.time_source : Fld := ⟨0x210100, 0x40, 0x10, 4, 31, 24, .rw, 160, []⟩
def PTE_DOM_TPROP.flags : Fld := ⟨0x210100, 0x40, 0x10, 4, 18, 16, .rw, 0, []⟩
def PTE_DOM_TPROP.utc_offset : Fld := ⟨0x210100, 0x40, 0x10, 4, 15, 0, .rw, 37, []⟩
/-- PTE_DOM_TPROP (R296). -/
def PTE_DOM_TPROP.row : RegRow := ⟨"PTE_DOM_TPROP", 1, [PTE_DOM_TPROP.time_source, PTE_DOM_TPROP.flags, PTE_DOM_TPROP.utc_offset]⟩

def PTE_DOM_STAT.gm_class : Fld := ⟨0x210100, 0x40, 0x20, 4, 31, 24, .ro, 255, []⟩
def PTE_DOM_STAT.steps : Fld := ⟨0x210100, 0x40, 0x20, 4, 23, 16, .ro, 0, []⟩
def PTE_DOM_STAT.parent_port : Fld := ⟨0x210100, 0x40, 0x20, 4, 15, 12, .ro, 15, []⟩
def PTE_DOM_STAT.ann_class : Fld := ⟨0x210100, 0x40, 0x20, 4, 7, 0, .ro, 248, []⟩
/-- PTE_DOM_STAT (R296). -/
def PTE_DOM_STAT.row : RegRow := ⟨"PTE_DOM_STAT", 1, [PTE_DOM_STAT.gm_class, PTE_DOM_STAT.steps, PTE_DOM_STAT.parent_port, PTE_DOM_STAT.ann_class]⟩

/-- The register rows of PTEDOM (R296). -/
def rowsPTEDOM : List RegRow :=
  [PTE_DOM_CFG.row, PTE_DOM_PRIO.row, PTE_DOM_CLASS.row, PTE_DOM_HO.row, PTE_DOM_TPROP.row, PTE_DOM_STAT.row]

def PTE_PORT_CFG.en : Fld := ⟨0x210200, 0x20, 0x0, 4, 31, 31, .rw, 0, []⟩
def PTE_PORT_CFG.master_only : Fld := ⟨0x210200, 0x20, 0x0, 4, 30, 30, .rw, 0, []⟩
def PTE_PORT_CFG.lane : Fld := ⟨0x210200, 0x20, 0x0, 4, 29, 28, .ro, 0, []⟩
def PTE_PORT_CFG.local_prio : Fld := ⟨0x210200, 0x20, 0x0, 4, 27, 24, .rw, 8, []⟩
def PTE_PORT_CFG.log_sync : Fld := ⟨0x210200, 0x20, 0x0, 4, 23, 20, .rw, 12, []⟩
def PTE_PORT_CFG.log_delay : Fld := ⟨0x210200, 0x20, 0x0, 4, 19, 16, .rw, 12, []⟩
def PTE_PORT_CFG.log_ann : Fld := ⟨0x210200, 0x20, 0x0, 4, 15, 12, .rw, 13, []⟩
def PTE_PORT_CFG.ann_timeout : Fld := ⟨0x210200, 0x20, 0x0, 4, 11, 8, .rw, 3, []⟩
/-- PTE_PORT_CFG (R296). -/
def PTE_PORT_CFG.row : RegRow := ⟨"PTE_PORT_CFG", 1, [PTE_PORT_CFG.en, PTE_PORT_CFG.master_only, PTE_PORT_CFG.lane, PTE_PORT_CFG.local_prio, PTE_PORT_CFG.log_sync, PTE_PORT_CFG.log_delay, PTE_PORT_CFG.log_ann, PTE_PORT_CFG.ann_timeout]⟩

def PTE_PORT_STAT.state : Fld := ⟨0x210200, 0x20, 0x4, 4, 31, 28, .ro, 1, []⟩
/-- PTE_PORT_STAT (R296). -/
def PTE_PORT_STAT.row : RegRow := ⟨"PTE_PORT_STAT", 1, [PTE_PORT_STAT.state]⟩

/-- The register rows of PTEPORT (R296). -/
def rowsPTEPORT : List RegRow :=
  [PTE_PORT_CFG.row, PTE_PORT_STAT.row]

def PTE_SV_CFG.en : Fld := ⟨0x210300, 0x40, 0x0, 4, 31, 31, .rw, 0, []⟩
def PTE_SV_CFG.domain : Fld := ⟨0x210300, 0x40, 0x0, 4, 30, 30, .ro, 0, []⟩
def PTE_SV_CFG.port : Fld := ⟨0x210300, 0x40, 0x0, 4, 29, 28, .ro, 0, []⟩
def PTE_SV_CFG.log_upd : Fld := ⟨0x210300, 0x40, 0x0, 4, 27, 24, .rwe, 12, []⟩
def PTE_SV_CFG.sel : Fld := ⟨0x210300, 0x40, 0x0, 4, 23, 22, .rw, 1, []⟩
def PTE_SV_CFG.learn : Fld := ⟨0x210300, 0x40, 0x0, 4, 21, 21, .rw, 0, []⟩
def PTE_SV_CFG.xchk : Fld := ⟨0x210300, 0x40, 0x0, 4, 20, 18, .rw, 4, []⟩
def PTE_SV_CFG.thr : Fld := ⟨0x210300, 0x40, 0x0, 4, 17, 0, .rw, 100, []⟩
/-- PTE_SV_CFG (R296). -/
def PTE_SV_CFG.row : RegRow := ⟨"PTE_SV_CFG", 1, [PTE_SV_CFG.en, PTE_SV_CFG.domain, PTE_SV_CFG.port, PTE_SV_CFG.log_upd, PTE_SV_CFG.sel, PTE_SV_CFG.learn, PTE_SV_CFG.xchk, PTE_SV_CFG.thr]⟩

def PTE_SV_CTRL.asym_ack : Fld := ⟨0x210300, 0x40, 0x4, 4, 0, 0, .wp, 0, []⟩
/-- PTE_SV_CTRL (R296). -/
def PTE_SV_CTRL.row : RegRow := ⟨"PTE_SV_CTRL", 1, [PTE_SV_CTRL.asym_ack]⟩

def PTE_SV_ASYM.asym : Fld := ⟨0x210300, 0x40, 0x8, 4, 31, 0, .rw, 0, []⟩
/-- PTE_SV_ASYM (R296). -/
def PTE_SV_ASYM.row : RegRow := ⟨"PTE_SV_ASYM", 1, [PTE_SV_ASYM.asym]⟩

def PTE_SV_STAT.state : Fld := ⟨0x210300, 0x40, 0x10, 4, 31, 29, .ro, 0, []⟩
def PTE_SV_STAT.cause : Fld := ⟨0x210300, 0x40, 0x10, 4, 28, 25, .ro, 0, []⟩
def PTE_SV_STAT.xchk_ok : Fld := ⟨0x210300, 0x40, 0x10, 4, 24, 24, .ro, 0, []⟩
def PTE_SV_STAT.path : Fld := ⟨0x210300, 0x40, 0x10, 4, 23, 18, .ro, 63, []⟩
/-- PTE_SV_STAT (R296). -/
def PTE_SV_STAT.row : RegRow := ⟨"PTE_SV_STAT", 1, [PTE_SV_STAT.state, PTE_SV_STAT.cause, PTE_SV_STAT.xchk_ok, PTE_SV_STAT.path]⟩

def PTE_SV_OFFS_LO.o : Fld := ⟨0x210300, 0x40, 0x14, 4, 31, 0, .lRo, 0, []⟩
/-- PTE_SV_OFFS_LO (R296). -/
def PTE_SV_OFFS_LO.row : RegRow := ⟨"PTE_SV_OFFS_LO", 1, [PTE_SV_OFFS_LO.o]⟩

def PTE_SV_OFFS_HI.o : Fld := ⟨0x210300, 0x40, 0x18, 4, 31, 0, .hRo, 0, []⟩
/-- PTE_SV_OFFS_HI (R296). -/
def PTE_SV_OFFS_HI.row : RegRow := ⟨"PTE_SV_OFFS_HI", 1, [PTE_SV_OFFS_HI.o]⟩

def PTE_SV_MPD_LO.m : Fld := ⟨0x210300, 0x40, 0x1c, 4, 31, 0, .lRo, 0, []⟩
/-- PTE_SV_MPD_LO (R296). -/
def PTE_SV_MPD_LO.row : RegRow := ⟨"PTE_SV_MPD_LO", 1, [PTE_SV_MPD_LO.m]⟩

def PTE_SV_MPD_HI.m : Fld := ⟨0x210300, 0x40, 0x20, 4, 31, 0, .hRo, 0, []⟩
/-- PTE_SV_MPD_HI (R296). -/
def PTE_SV_MPD_HI.row : RegRow := ⟨"PTE_SV_MPD_HI", 1, [PTE_SV_MPD_HI.m]⟩

def PTE_SV_SAMP_CNT.count : Fld := ⟨0x210300, 0x40, 0x24, 4, 31, 0, .rc, 0, []⟩
/-- PTE_SV_SAMP_CNT (R296). -/
def PTE_SV_SAMP_CNT.row : RegRow := ⟨"PTE_SV_SAMP_CNT", 1, [PTE_SV_SAMP_CNT.count]⟩

def PTE_SV_WITHHELD.count : Fld := ⟨0x210300, 0x40, 0x28, 4, 31, 0, .rc, 0, []⟩
/-- PTE_SV_WITHHELD (R296). -/
def PTE_SV_WITHHELD.row : RegRow := ⟨"PTE_SV_WITHHELD", 1, [PTE_SV_WITHHELD.count]⟩

/-- The register rows of PTESV (R296). -/
def rowsPTESV : List RegRow :=
  [PTE_SV_CFG.row, PTE_SV_CTRL.row, PTE_SV_ASYM.row, PTE_SV_STAT.row, PTE_SV_OFFS_LO.row, PTE_SV_OFFS_HI.row, PTE_SV_MPD_LO.row, PTE_SV_MPD_HI.row] ++
  [PTE_SV_SAMP_CNT.row, PTE_SV_WITHHELD.row]

def PTE_PATH_KEY.valid : Fld := ⟨0x210400, 0x10, 0x0, 4, 31, 31, .rw, 0, []⟩
def PTE_PATH_KEY.learned : Fld := ⟨0x210400, 0x10, 0x0, 4, 30, 30, .ro, 0, []⟩
def PTE_PATH_KEY.lane : Fld := ⟨0x210400, 0x10, 0x0, 4, 29, 28, .rw, 0, []⟩
def PTE_PATH_KEY.vid : Fld := ⟨0x210400, 0x10, 0x0, 4, 27, 16, .rw, 0, []⟩
def PTE_PATH_KEY.any_vid : Fld := ⟨0x210400, 0x10, 0x0, 4, 15, 15, .rw, 0, []⟩
/-- PTE_PATH_KEY (R296). -/
def PTE_PATH_KEY.row : RegRow := ⟨"PTE_PATH_KEY", 1, [PTE_PATH_KEY.valid, PTE_PATH_KEY.learned, PTE_PATH_KEY.lane, PTE_PATH_KEY.vid, PTE_PATH_KEY.any_vid]⟩

def PTE_PATH_DMIN.d : Fld := ⟨0x210400, 0x10, 0x4, 4, 31, 0, .rw, 0, []⟩
/-- PTE_PATH_DMIN (R296). -/
def PTE_PATH_DMIN.row : RegRow := ⟨"PTE_PATH_DMIN", 1, [PTE_PATH_DMIN.d]⟩

def PTE_PATH_DMAX.d : Fld := ⟨0x210400, 0x10, 0x8, 4, 31, 0, .rw, 0, []⟩
/-- PTE_PATH_DMAX (R296). -/
def PTE_PATH_DMAX.row : RegRow := ⟨"PTE_PATH_DMAX", 1, [PTE_PATH_DMAX.d]⟩

def PTE_PATH_ASYM.asym : Fld := ⟨0x210400, 0x10, 0xc, 4, 31, 0, .rw, 0, []⟩
/-- PTE_PATH_ASYM (R296). -/
def PTE_PATH_ASYM.row : RegRow := ⟨"PTE_PATH_ASYM", 1, [PTE_PATH_ASYM.asym]⟩

/-- The register rows of PTEPATH (R296). -/
def rowsPTEPATH : List RegRow :=
  [PTE_PATH_KEY.row, PTE_PATH_DMIN.row, PTE_PATH_DMAX.row, PTE_PATH_ASYM.row]

end Sys2Proof.Machine
end

