-- ==== Sys2Proof/Machine/RegsSystem.lean ====
section
/-! DEFINITION. The register tables of the IDB, HLK, FLT, STG, MTL and IND blocks: one constant per field, one row per register.
Reserved bits have no field: they read 0 and ignore writes (R20). Where the spec's table says `state` or `pin`, the
field starts at 0 here and the operation that the spec names loads it (log entry 3). -/

namespace Sys2Proof.Machine

/-- The default severities of FS0 to FS95 (R55, R90, R128 and the other fault tables, R468); a spare source has 0, which
no rule gives (log entry 3). -/
def sevDefaults : List Nat :=
  [2, 2, 2, 2, 2, 1, 2, 0, 2, 2, 2, 1, 1, 2, 3, 0, 2, 1, 2, 2, 2, 2, 2, 1, 2, 2, 2, 1, 2, 2, 1, 0, 2, 1, 2, 1, 2, 2, 1, 1, 1, 1, 1, 2, 1, 1, 1, 0, 1, 2, 2, 2, 2, 2, 2, 2, 2, 1, 2, 2, 2, 2, 2, 1, 2, 2, 2, 2, 2, 3, 2, 2, 2, 2, 2, 2, 0, 0, 0, 0, 0, 0, 0, 0, 0, 0, 0, 0, 0, 0, 0, 0, 0, 0, 0, 0]

def IDB_VENDOR.vendor : Fld := ⟨0x0, 0x0, 0x0, 4, 31, 16, .ro, 0x4d44, []⟩
def IDB_VENDOR.family : Fld := ⟨0x0, 0x0, 0x0, 4, 15, 0, .ro, 8, []⟩
/-- IDB_VENDOR (R374). -/
def IDB_VENDOR.row : RegRow := ⟨"IDB_VENDOR", 1, [IDB_VENDOR.vendor, IDB_VENDOR.family]⟩

def IDB_PART.part : Fld := ⟨0x0, 0x0, 0x4, 4, 31, 16, .ro, 0, []⟩
def IDB_PART.variant : Fld := ⟨0x0, 0x0, 0x4, 4, 15, 8, .ro, 0, []⟩
/-- IDB_PART (R374). -/
def IDB_PART.row : RegRow := ⟨"IDB_PART", 1, [IDB_PART.part, IDB_PART.variant]⟩

def IDB_REV.letter : Fld := ⟨0x0, 0x0, 0x8, 4, 15, 8, .ro, 0, []⟩
def IDB_REV.digit : Fld := ⟨0x0, 0x0, 0x8, 4, 7, 0, .ro, 0, []⟩
/-- IDB_REV (R374). -/
def IDB_REV.row : RegRow := ⟨"IDB_REV", 1, [IDB_REV.letter, IDB_REV.digit]⟩

def IDB_CAP_CAND.cand : Fld := ⟨0x0, 0x0, 0xc, 4, 23, 0, .ro, 0, []⟩
/-- IDB_CAP_CAND (R374). -/
def IDB_CAP_CAND.row : RegRow := ⟨"IDB_CAP_CAND", 1, [IDB_CAP_CAND.cand]⟩

def IDB_CAP_CH.syn : Fld := ⟨0x0, 0x0, 0x10, 4, 19, 16, .ro, 0, []⟩
def IDB_CAP_CH.ch : Fld := ⟨0x0, 0x0, 0x10, 4, 11, 0, .ro, 0, []⟩
/-- IDB_CAP_CH (R374). -/
def IDB_CAP_CH.row : RegRow := ⟨"IDB_CAP_CH", 1, [IDB_CAP_CH.syn, IDB_CAP_CH.ch]⟩

def IDB_CAP_OUT.banks : Fld := ⟨0x0, 0x0, 0x14, 4, 27, 24, .ro, 0, []⟩
def IDB_CAP_OUT.out : Fld := ⟨0x0, 0x0, 0x14, 4, 23, 0, .ro, 0, []⟩
/-- IDB_CAP_OUT (R374). -/
def IDB_CAP_OUT.row : RegRow := ⟨"IDB_CAP_OUT", 1, [IDB_CAP_OUT.banks, IDB_CAP_OUT.out]⟩

def IDB_CAP_NET.slots : Fld := ⟨0x0, 0x0, 0x18, 4, 31, 16, .ro, 0, []⟩
def IDB_CAP_NET.inband : Fld := ⟨0x0, 0x0, 0x18, 4, 5, 5, .ro, 0, []⟩
def IDB_CAP_NET.pte : Fld := ⟨0x0, 0x0, 0x18, 4, 4, 4, .ro, 0, []⟩
def IDB_CAP_NET.lanes : Fld := ⟨0x0, 0x0, 0x18, 4, 3, 0, .ro, 0, []⟩
/-- IDB_CAP_NET (R374). -/
def IDB_CAP_NET.row : RegRow := ⟨"IDB_CAP_NET", 1, [IDB_CAP_NET.slots, IDB_CAP_NET.inband, IDB_CAP_NET.pte, IDB_CAP_NET.lanes]⟩

def IDB_CAP_MEM.vault : Fld := ⟨0x0, 0x0, 0x1c, 4, 31, 24, .ro, 0, []⟩
def IDB_CAP_MEM.middles : Fld := ⟨0x0, 0x0, 0x1c, 4, 23, 16, .ro, 0, []⟩
def IDB_CAP_MEM.tile : Fld := ⟨0x0, 0x0, 0x1c, 4, 15, 8, .ro, 16, []⟩
def IDB_CAP_MEM.firn : Fld := ⟨0x0, 0x0, 0x1c, 4, 7, 0, .ro, 64, []⟩
/-- IDB_CAP_MEM (R374). -/
def IDB_CAP_MEM.row : RegRow := ⟨"IDB_CAP_MEM", 1, [IDB_CAP_MEM.vault, IDB_CAP_MEM.middles, IDB_CAP_MEM.tile, IDB_CAP_MEM.firn]⟩

def IDB_CAP_MISC.queues : Fld := ⟨0x0, 0x0, 0x20, 4, 31, 24, .ro, 128, []⟩
def IDB_CAP_MISC.pa : Fld := ⟨0x0, 0x0, 0x20, 4, 23, 16, .ro, 8, []⟩
def IDB_CAP_MISC.tdc : Fld := ⟨0x0, 0x0, 0x20, 4, 15, 8, .ro, 0, []⟩
def IDB_CAP_MISC.always : Fld := ⟨0x0, 0x0, 0x20, 4, 7, 0, .ro, 31, []⟩
/-- IDB_CAP_MISC (R374). -/
def IDB_CAP_MISC.row : RegRow := ⟨"IDB_CAP_MISC", 1, [IDB_CAP_MISC.queues, IDB_CAP_MISC.pa, IDB_CAP_MISC.tdc, IDB_CAP_MISC.always]⟩

def IDB_BUSERR_STAT.valid : Fld := ⟨0x0, 0x0, 0x40, 4, 31, 31, .rc, 0, []⟩
def IDB_BUSERR_STAT.cause : Fld := ⟨0x0, 0x0, 0x40, 4, 30, 28, .rc, 0, []⟩
def IDB_BUSERR_STAT.source : Fld := ⟨0x0, 0x0, 0x40, 4, 27, 26, .rc, 0, []⟩
def IDB_BUSERR_STAT.count : Fld := ⟨0x0, 0x0, 0x40, 4, 15, 0, .rc, 0, []⟩
/-- IDB_BUSERR_STAT (R374). -/
def IDB_BUSERR_STAT.row : RegRow := ⟨"IDB_BUSERR_STAT", 1, [IDB_BUSERR_STAT.valid, IDB_BUSERR_STAT.cause, IDB_BUSERR_STAT.source, IDB_BUSERR_STAT.count]⟩

def IDB_BUSERR_ADDR.addr : Fld := ⟨0x0, 0x0, 0x44, 4, 31, 0, .ro, 0, []⟩
/-- IDB_BUSERR_ADDR (R374). -/
def IDB_BUSERR_ADDR.row : RegRow := ⟨"IDB_BUSERR_ADDR", 1, [IDB_BUSERR_ADDR.addr]⟩

def IDB_HW_OVERRIDE.valid : Fld := ⟨0x0, 0x0, 0x48, 4, 31, 31, .rc, 0, []⟩
def IDB_HW_OVERRIDE.count : Fld := ⟨0x0, 0x0, 0x48, 4, 30, 24, .rc, 0, []⟩
def IDB_HW_OVERRIDE.word : Fld := ⟨0x0, 0x0, 0x48, 4, 21, 2, .rc, 0, []⟩
/-- IDB_HW_OVERRIDE (R374). -/
def IDB_HW_OVERRIDE.row : RegRow := ⟨"IDB_HW_OVERRIDE", 1, [IDB_HW_OVERRIDE.valid, IDB_HW_OVERRIDE.count, IDB_HW_OVERRIDE.word]⟩

def IDB_TV_CORR.count : Fld := ⟨0x0, 0x0, 0x4c, 4, 31, 0, .rc, 0, []⟩
/-- IDB_TV_CORR (R374). -/
def IDB_TV_CORR.row : RegRow := ⟨"IDB_TV_CORR", 1, [IDB_TV_CORR.count]⟩

/-- The register rows of IDB (R374). -/
def rowsIDB : List RegRow :=
  [IDB_VENDOR.row, IDB_PART.row, IDB_REV.row, IDB_CAP_CAND.row, IDB_CAP_CH.row, IDB_CAP_OUT.row, IDB_CAP_NET.row, IDB_CAP_MEM.row] ++
  [IDB_CAP_MISC.row, IDB_BUSERR_STAT.row, IDB_BUSERR_ADDR.row, IDB_HW_OVERRIDE.row, IDB_TV_CORR.row]

def HLK_CFG.qn_en : Fld := ⟨0x10000, 0x0, 0x0, 4, 31, 31, .rw, 0, []⟩
def HLK_CFG.qn_port : Fld := ⟨0x10000, 0x0, 0x0, 4, 30, 30, .rw, 0, []⟩
def HLK_CFG.ib_notify : Fld := ⟨0x10000, 0x0, 0x0, 4, 29, 29, .rw, 1, []⟩
def HLK_CFG.c3_share : Fld := ⟨0x10000, 0x0, 0x0, 4, 23, 20, .rw, 1, []⟩
/-- HLK_CFG (R352). -/
def HLK_CFG.row : RegRow := ⟨"HLK_CFG", 1, [HLK_CFG.qn_en, HLK_CFG.qn_port, HLK_CFG.ib_notify, HLK_CFG.c3_share]⟩

def HLK_STAT.c0_free : Fld := ⟨0x10000, 0x0, 0x4, 4, 31, 28, .ro, 8, []⟩
def HLK_STAT.c1_free : Fld := ⟨0x10000, 0x0, 0x4, 4, 27, 23, .ro, 16, []⟩
def HLK_STAT.c2_free : Fld := ⟨0x10000, 0x0, 0x4, 4, 22, 20, .ro, 4, []⟩
def HLK_STAT.c3_free : Fld := ⟨0x10000, 0x0, 0x4, 4, 19, 17, .ro, 4, []⟩
def HLK_STAT.hirq : Fld := ⟨0x10000, 0x0, 0x4, 4, 16, 16, .ro, 0, []⟩
def HLK_STAT.n_pend : Fld := ⟨0x10000, 0x0, 0x4, 4, 15, 11, .ro, 0, []⟩
/-- HLK_STAT (R352). -/
def HLK_STAT.row : RegRow := ⟨"HLK_STAT", 1, [HLK_STAT.c0_free, HLK_STAT.c1_free, HLK_STAT.c2_free, HLK_STAT.c3_free, HLK_STAT.hirq, HLK_STAT.n_pend]⟩

def HLK_C0_LATE.count : Fld := ⟨0x10000, 0x0, 0x8, 4, 31, 0, .rc, 0, []⟩
/-- HLK_C0_LATE (R352). -/
def HLK_C0_LATE.row : RegRow := ⟨"HLK_C0_LATE", 1, [HLK_C0_LATE.count]⟩

def HLK_NOTIFY_LATE.count : Fld := ⟨0x10000, 0x0, 0xc, 4, 31, 0, .rc, 0, []⟩
/-- HLK_NOTIFY_LATE (R352). -/
def HLK_NOTIFY_LATE.row : RegRow := ⟨"HLK_NOTIFY_LATE", 1, [HLK_NOTIFY_LATE.count]⟩

def HLK_C0_MAX.cycles : Fld := ⟨0x10000, 0x0, 0x10, 4, 15, 0, .rc, 0, []⟩
/-- HLK_C0_MAX (R352). -/
def HLK_C0_MAX.row : RegRow := ⟨"HLK_C0_MAX", 1, [HLK_C0_MAX.cycles]⟩

def HLK_NOTIFY_MAX.cycles : Fld := ⟨0x10000, 0x0, 0x14, 4, 15, 0, .rc, 0, []⟩
/-- HLK_NOTIFY_MAX (R352). -/
def HLK_NOTIFY_MAX.row : RegRow := ⟨"HLK_NOTIFY_MAX", 1, [HLK_NOTIFY_MAX.cycles]⟩

def HLK_CRC_CNT.count : Fld := ⟨0x10000, 0x0, 0x18, 4, 31, 0, .rc, 0, []⟩
/-- HLK_CRC_CNT (R352). -/
def HLK_CRC_CNT.row : RegRow := ⟨"HLK_CRC_CNT", 1, [HLK_CRC_CNT.count]⟩

def HLK_FRAME_ERR.count : Fld := ⟨0x10000, 0x0, 0x1c, 4, 31, 0, .rc, 0, []⟩
/-- HLK_FRAME_ERR (R352). -/
def HLK_FRAME_ERR.row : RegRow := ⟨"HLK_FRAME_ERR", 1, [HLK_FRAME_ERR.count]⟩

def HLK_NOCREDIT_CNT.count : Fld := ⟨0x10000, 0x0, 0x20, 4, 31, 0, .rc, 0, []⟩
/-- HLK_NOCREDIT_CNT (R352). -/
def HLK_NOCREDIT_CNT.row : RegRow := ⟨"HLK_NOCREDIT_CNT", 1, [HLK_NOCREDIT_CNT.count]⟩

def HLK_POLICY_CNT.count : Fld := ⟨0x10000, 0x0, 0x24, 4, 31, 0, .rc, 0, []⟩
/-- HLK_POLICY_CNT (R352). -/
def HLK_POLICY_CNT.row : RegRow := ⟨"HLK_POLICY_CNT", 1, [HLK_POLICY_CNT.count]⟩

def HLK_NOTIFY_DROP.count : Fld := ⟨0x10000, 0x0, 0x28, 4, 31, 0, .rc, 0, []⟩
/-- HLK_NOTIFY_DROP (R352). -/
def HLK_NOTIFY_DROP.row : RegRow := ⟨"HLK_NOTIFY_DROP", 1, [HLK_NOTIFY_DROP.count]⟩

def HLK_RESYNC_CNT.count : Fld := ⟨0x10000, 0x0, 0x2c, 4, 31, 0, .rc, 0, []⟩
/-- HLK_RESYNC_CNT (R352). -/
def HLK_RESYNC_CNT.row : RegRow := ⟨"HLK_RESYNC_CNT", 1, [HLK_RESYNC_CNT.count]⟩

def HLK_IB_CFG.en : Fld := ⟨0x10000, 0x0, 0x40, 4, 31, 31, .ro, 0, []⟩
def HLK_IB_CFG.seg : Fld := ⟨0x10000, 0x0, 0x40, 4, 12, 0, .ro, 256, []⟩
/-- HLK_IB_CFG (R352). -/
def HLK_IB_CFG.row : RegRow := ⟨"HLK_IB_CFG", 1, [HLK_IB_CFG.en, HLK_IB_CFG.seg]⟩

def HLK_IB_PEER_LO.mac_lo : Fld := ⟨0x10000, 0x0, 0x44, 4, 31, 0, .rw, 0, []⟩
/-- HLK_IB_PEER_LO (R352). -/
def HLK_IB_PEER_LO.row : RegRow := ⟨"HLK_IB_PEER_LO", 1, [HLK_IB_PEER_LO.mac_lo]⟩

def HLK_IB_PEER_HI.mac_hi : Fld := ⟨0x10000, 0x0, 0x48, 4, 15, 0, .rw, 0, []⟩
/-- HLK_IB_PEER_HI (R352). -/
def HLK_IB_PEER_HI.row : RegRow := ⟨"HLK_IB_PEER_HI", 1, [HLK_IB_PEER_HI.mac_hi]⟩

def HLK_IB_STAT.c0_free : Fld := ⟨0x10000, 0x0, 0x4c, 4, 31, 28, .ro, 8, []⟩
def HLK_IB_STAT.c1_free : Fld := ⟨0x10000, 0x0, 0x4c, 4, 27, 23, .ro, 16, []⟩
def HLK_IB_STAT.c2_free : Fld := ⟨0x10000, 0x0, 0x4c, 4, 22, 20, .ro, 4, []⟩
def HLK_IB_STAT.c3_free : Fld := ⟨0x10000, 0x0, 0x4c, 4, 19, 17, .ro, 4, []⟩
def HLK_IB_STAT.hirq : Fld := ⟨0x10000, 0x0, 0x4c, 4, 16, 16, .ro, 0, []⟩
def HLK_IB_STAT.n_pend : Fld := ⟨0x10000, 0x0, 0x4c, 4, 15, 11, .ro, 0, []⟩
def HLK_IB_STAT.up : Fld := ⟨0x10000, 0x0, 0x4c, 4, 10, 10, .ro, 0, []⟩
/-- HLK_IB_STAT (R352). -/
def HLK_IB_STAT.row : RegRow := ⟨"HLK_IB_STAT", 1, [HLK_IB_STAT.c0_free, HLK_IB_STAT.c1_free, HLK_IB_STAT.c2_free, HLK_IB_STAT.c3_free, HLK_IB_STAT.hirq, HLK_IB_STAT.n_pend, HLK_IB_STAT.up]⟩

def HLK_IB_DROP.count : Fld := ⟨0x10000, 0x0, 0x50, 4, 31, 0, .rc, 0, []⟩
/-- HLK_IB_DROP (R352). -/
def HLK_IB_DROP.row : RegRow := ⟨"HLK_IB_DROP", 1, [HLK_IB_DROP.count]⟩

def HLK_IB_RX_CNT.count : Fld := ⟨0x10000, 0x0, 0x54, 4, 31, 0, .rc, 0, []⟩
/-- HLK_IB_RX_CNT (R352). -/
def HLK_IB_RX_CNT.row : RegRow := ⟨"HLK_IB_RX_CNT", 1, [HLK_IB_RX_CNT.count]⟩

def HLK_IB_TX_CNT.count : Fld := ⟨0x10000, 0x0, 0x58, 4, 31, 0, .rc, 0, []⟩
/-- HLK_IB_TX_CNT (R352). -/
def HLK_IB_TX_CNT.row : RegRow := ⟨"HLK_IB_TX_CNT", 1, [HLK_IB_TX_CNT.count]⟩

/-- The register rows of HLK (R352). -/
def rowsHLK : List RegRow :=
  [HLK_CFG.row, HLK_STAT.row, HLK_C0_LATE.row, HLK_NOTIFY_LATE.row, HLK_C0_MAX.row, HLK_NOTIFY_MAX.row, HLK_CRC_CNT.row, HLK_FRAME_ERR.row] ++
  [HLK_NOCREDIT_CNT.row, HLK_POLICY_CNT.row, HLK_NOTIFY_DROP.row, HLK_RESYNC_CNT.row, HLK_IB_CFG.row, HLK_IB_PEER_LO.row, HLK_IB_PEER_HI.row, HLK_IB_STAT.row] ++
  [HLK_IB_DROP.row, HLK_IB_RX_CNT.row, HLK_IB_TX_CNT.row]

def FLT_CTRL.unmute : Fld := ⟨0x20000, 0x0, 0x0, 4, 1, 1, .wp, 0, []⟩
def FLT_CTRL.ack_all : Fld := ⟨0x20000, 0x0, 0x0, 4, 0, 0, .wp, 0, []⟩
/-- FLT_CTRL (R489). -/
def FLT_CTRL.row : RegRow := ⟨"FLT_CTRL", 1, [FLT_CTRL.unmute, FLT_CTRL.ack_all]⟩

def FLT_ACK.go : Fld := ⟨0x20000, 0x0, 0x4, 4, 31, 31, .wp, 0, []⟩
def FLT_ACK.unit : Fld := ⟨0x20000, 0x0, 0x4, 4, 15, 8, .rw, 255, []⟩
def FLT_ACK.src : Fld := ⟨0x20000, 0x0, 0x4, 4, 6, 0, .rw, 0, []⟩
/-- FLT_ACK (R489). -/
def FLT_ACK.row : RegRow := ⟨"FLT_ACK", 1, [FLT_ACK.go, FLT_ACK.unit, FLT_ACK.src]⟩

def FLT_STAT.alive_run : Fld := ⟨0x20000, 0x0, 0x8, 4, 31, 31, .ro, 1, []⟩
def FLT_STAT.fault_low : Fld := ⟨0x20000, 0x0, 0x8, 4, 30, 30, .ro, 0, []⟩
def FLT_STAT.n_guard : Fld := ⟨0x20000, 0x0, 0x8, 4, 29, 23, .ro, 0, []⟩
/-- FLT_STAT (R489). -/
def FLT_STAT.row : RegRow := ⟨"FLT_STAT", 1, [FLT_STAT.alive_run, FLT_STAT.fault_low, FLT_STAT.n_guard]⟩

def FLT_EVENT.inj_fired : Fld := ⟨0x20000, 0x0, 0xc, 4, 5, 5, .rc, 0, []⟩
def FLT_EVENT.buf_full : Fld := ⟨0x20000, 0x0, 0xc, 4, 4, 4, .rc, 0, []⟩
def FLT_EVENT.merged : Fld := ⟨0x20000, 0x0, 0xc, 4, 3, 3, .rc, 0, []⟩
def FLT_EVENT.shadowed : Fld := ⟨0x20000, 0x0, 0xc, 4, 2, 2, .rc, 0, []⟩
def FLT_EVENT.act : Fld := ⟨0x20000, 0x0, 0xc, 4, 1, 1, .rc, 0, []⟩
def FLT_EVENT.escalated : Fld := ⟨0x20000, 0x0, 0xc, 4, 0, 0, .rc, 0, []⟩
/-- FLT_EVENT (R489). -/
def FLT_EVENT.row : RegRow := ⟨"FLT_EVENT", 1, [FLT_EVENT.inj_fired, FLT_EVENT.buf_full, FLT_EVENT.merged, FLT_EVENT.shadowed, FLT_EVENT.act, FLT_EVENT.escalated]⟩

def FLT_WDOG_CFG.en : Fld := ⟨0x20000, 0x0, 0x10, 4, 31, 31, .rwTv, 0, []⟩
def FLT_WDOG_CFG.period : Fld := ⟨0x20000, 0x0, 0x10, 4, 15, 0, .rwTv, 0x3e8, []⟩
/-- FLT_WDOG_CFG (R489). -/
def FLT_WDOG_CFG.row : RegRow := ⟨"FLT_WDOG_CFG", 1, [FLT_WDOG_CFG.en, FLT_WDOG_CFG.period]⟩

def FLT_WDOG_KICK.key : Fld := ⟨0x20000, 0x0, 0x14, 4, 15, 0, .wp, 0, []⟩
/-- FLT_WDOG_KICK (R489). -/
def FLT_WDOG_KICK.row : RegRow := ⟨"FLT_WDOG_KICK", 1, [FLT_WDOG_KICK.key]⟩

def FLT_INJ_CFG.arm : Fld := ⟨0x20000, 0x0, 0x18, 4, 31, 31, .rw, 0, []⟩
def FLT_INJ_CFG.act : Fld := ⟨0x20000, 0x0, 0x18, 4, 30, 30, .rw, 0, []⟩
def FLT_INJ_CFG.inv : Fld := ⟨0x20000, 0x0, 0x18, 4, 29, 28, .rw, 1, []⟩
def FLT_INJ_CFG.src : Fld := ⟨0x20000, 0x0, 0x18, 4, 6, 0, .rw, 0, []⟩
/-- FLT_INJ_CFG (R489). -/
def FLT_INJ_CFG.row : RegRow := ⟨"FLT_INJ_CFG", 1, [FLT_INJ_CFG.arm, FLT_INJ_CFG.act, FLT_INJ_CFG.inv, FLT_INJ_CFG.src]⟩

def FLT_INJ_TGT.tgt : Fld := ⟨0x20000, 0x0, 0x1c, 4, 31, 0, .rw, 0, []⟩
/-- FLT_INJ_TGT (R489). -/
def FLT_INJ_TGT.row : RegRow := ⟨"FLT_INJ_TGT", 1, [FLT_INJ_TGT.tgt]⟩

def FLT_INJ_STAT.fired : Fld := ⟨0x20000, 0x0, 0x20, 4, 31, 31, .rc, 0, []⟩
/-- FLT_INJ_STAT (R489). -/
def FLT_INJ_STAT.row : RegRow := ⟨"FLT_INJ_STAT", 1, [FLT_INJ_STAT.fired]⟩

def FLT_MUTE_STAT.out : Fld := ⟨0x20000, 0x0, 0x24, 4, 23, 0, .ro, 0, []⟩
/-- FLT_MUTE_STAT (R489). -/
def FLT_MUTE_STAT.row : RegRow := ⟨"FLT_MUTE_STAT", 1, [FLT_MUTE_STAT.out]⟩

def FLT_HOLD_STAT.lanes : Fld := ⟨0x20000, 0x0, 0x28, 4, 15, 12, .ro, 0, []⟩
def FLT_HOLD_STAT.ch : Fld := ⟨0x20000, 0x0, 0x28, 4, 11, 0, .ro, 0, []⟩
/-- FLT_HOLD_STAT (R489). -/
def FLT_HOLD_STAT.row : RegRow := ⟨"FLT_HOLD_STAT", 1, [FLT_HOLD_STAT.lanes, FLT_HOLD_STAT.ch]⟩

def FLT_LOST.count : Fld := ⟨0x20000, 0x0, 0x2c, 4, 31, 0, .rc, 0, []⟩
/-- FLT_LOST (R489). -/
def FLT_LOST.row : RegRow := ⟨"FLT_LOST", 1, [FLT_LOST.count]⟩

def FLT_CFG_REJECT.valid : Fld := ⟨0x20000, 0x0, 0x30, 4, 31, 31, .rc, 0, []⟩
def FLT_CFG_REJECT.count : Fld := ⟨0x20000, 0x0, 0x30, 4, 15, 8, .rc, 0, []⟩
def FLT_CFG_REJECT.word : Fld := ⟨0x20000, 0x0, 0x30, 4, 7, 0, .rc, 0, []⟩
/-- FLT_CFG_REJECT (R489). -/
def FLT_CFG_REJECT.row : RegRow := ⟨"FLT_CFG_REJECT", 1, [FLT_CFG_REJECT.valid, FLT_CFG_REJECT.count, FLT_CFG_REJECT.word]⟩

def FLT_RAW.hit : Fld := ⟨0x20000, 0x0, 0x40, 4, 31, 0, .rc, 0, []⟩
/-- FLT_RAW (R489). -/
def FLT_RAW.row : RegRow := ⟨"FLT_RAW", 3, [FLT_RAW.hit]⟩

def FLT_UNACK.unack : Fld := ⟨0x20000, 0x0, 0x50, 4, 31, 0, .ro, 0, []⟩
/-- FLT_UNACK (R489). -/
def FLT_UNACK.row : RegRow := ⟨"FLT_UNACK", 3, [FLT_UNACK.unack]⟩

def FLT_GUARD.run : Fld := ⟨0x20000, 0x0, 0x60, 4, 31, 0, .ro, 0, []⟩
/-- FLT_GUARD (R489). -/
def FLT_GUARD.row : RegRow := ⟨"FLT_GUARD", 3, [FLT_GUARD.run]⟩

def FLT_ESC.esc : Fld := ⟨0x20000, 0x0, 0x70, 4, 31, 0, .ro, 0, []⟩
/-- FLT_ESC (R489). -/
def FLT_ESC.row : RegRow := ⟨"FLT_ESC", 3, [FLT_ESC.esc]⟩

/-- The register rows of FLT (R489). -/
def rowsFLT : List RegRow :=
  [FLT_CTRL.row, FLT_ACK.row, FLT_STAT.row, FLT_EVENT.row, FLT_WDOG_CFG.row, FLT_WDOG_KICK.row, FLT_INJ_CFG.row, FLT_INJ_TGT.row] ++
  [FLT_INJ_STAT.row, FLT_MUTE_STAT.row, FLT_HOLD_STAT.row, FLT_LOST.row, FLT_CFG_REJECT.row, FLT_RAW.row, FLT_UNACK.row, FLT_GUARD.row] ++
  [FLT_ESC.row]

def FLT_SRC_CFG.guard : Fld := ⟨0x20400, 0x8, 0x0, 4, 27, 8, .rwTv, 0x2710, []⟩
def FLT_SRC_CFG.action : Fld := ⟨0x20400, 0x8, 0x0, 4, 6, 4, .rwTv, 0, [0, 0, 0, 0, 0, 0, 0, 0, 0, 0, 0, 0, 0, 0, 1, 0, 0, 0, 0, 0, 0, 0, 0, 0, 0, 0, 0, 0, 0, 0, 0, 0, 0, 0, 0, 0, 0, 0, 0, 0, 0, 0, 0, 0, 0, 0, 0, 0, 0, 0, 0, 0, 0, 0, 0, 0, 0, 0, 0, 0, 0, 0, 0, 0, 0, 0, 0, 0, 0, 0, 0, 0, 0, 0, 0, 0, 0, 0, 0, 0, 0, 0, 0, 0, 0, 0, 0, 0, 0, 0, 0, 0, 0, 0, 0, 0]⟩
def FLT_SRC_CFG.sev : Fld := ⟨0x20400, 0x8, 0x0, 4, 2, 0, .rwTv, 0, sevDefaults⟩
/-- FLT_SRC_CFG (R489). -/
def FLT_SRC_CFG.row : RegRow := ⟨"FLT_SRC_CFG", 1, [FLT_SRC_CFG.guard, FLT_SRC_CFG.action, FLT_SRC_CFG.sev]⟩

def FLT_SRC_MASK.self : Fld := ⟨0x20400, 0x8, 0x4, 4, 31, 31, .rwTv, 0, [0, 0, 0, 0, 0, 0, 0, 0, 0, 0, 0, 0, 0, 0, 1, 0, 0, 0, 0, 0, 0, 0, 0, 0, 0, 0, 0, 0, 0, 0, 0, 0, 0, 0, 0, 0, 0, 0, 0, 0, 0, 0, 0, 0, 0, 0, 0, 0, 0, 0, 0, 0, 0, 0, 0, 0, 0, 0, 0, 0, 0, 0, 0, 0, 0, 0, 0, 0, 0, 0, 0, 0, 0, 0, 0, 0, 0, 0, 0, 0, 0, 0, 0, 0, 0, 0, 0, 0, 0, 0, 0, 0, 0, 0, 0, 0]⟩
def FLT_SRC_MASK.tgt : Fld := ⟨0x20400, 0x8, 0x4, 4, 30, 0, .rwTv, 0, []⟩
/-- FLT_SRC_MASK (R489). -/
def FLT_SRC_MASK.row : RegRow := ⟨"FLT_SRC_MASK", 1, [FLT_SRC_MASK.self, FLT_SRC_MASK.tgt]⟩

/-- The register rows of FLTSRC (R489). -/
def rowsFLTSRC : List RegRow :=
  [FLT_SRC_CFG.row, FLT_SRC_MASK.row]

def FLT_SRC_CNT.count : Fld := ⟨0x20800, 0x4, 0x0, 4, 31, 0, .rc, 0, []⟩
/-- FLT_SRC_CNT (R489). -/
def FLT_SRC_CNT.row : RegRow := ⟨"FLT_SRC_CNT", 1, [FLT_SRC_CNT.count]⟩

/-- The register rows of FLTCNT (R489). -/
def rowsFLTCNT : List RegRow :=
  [FLT_SRC_CNT.row]

def FLT_SRC_UNIT.units : Fld := ⟨0x20a00, 0x4, 0x0, 4, 23, 0, .ro, 0, []⟩
/-- FLT_SRC_UNIT (R489). -/
def FLT_SRC_UNIT.row : RegRow := ⟨"FLT_SRC_UNIT", 1, [FLT_SRC_UNIT.units]⟩

/-- The register rows of FLTUNIT (R489). -/
def rowsFLTUNIT : List RegRow :=
  [FLT_SRC_UNIT.row]

def STG_DT_FRAC.frac : Fld := ⟨0x30000, 0x0, 0x800, 4, 15, 0, .lRo, 0, []⟩
/-- STG_DT_FRAC (R59, R440). -/
def STG_DT_FRAC.row : RegRow := ⟨"STG_DT_FRAC", 1, [STG_DT_FRAC.frac]⟩

def STG_DT_NS.ns : Fld := ⟨0x30000, 0x0, 0x804, 4, 31, 0, .hRo, 0, []⟩
/-- STG_DT_NS (R59, R440). -/
def STG_DT_NS.row : RegRow := ⟨"STG_DT_NS", 1, [STG_DT_NS.ns]⟩

def STG_DT_SEC_LO.sec_lo : Fld := ⟨0x30000, 0x0, 0x808, 4, 31, 0, .hRo, 0, []⟩
/-- STG_DT_SEC_LO (R59, R440). -/
def STG_DT_SEC_LO.row : RegRow := ⟨"STG_DT_SEC_LO", 1, [STG_DT_SEC_LO.sec_lo]⟩

def STG_DT_SEC_HI.sec_hi : Fld := ⟨0x30000, 0x0, 0x80c, 4, 15, 0, .hRo, 0, []⟩
/-- STG_DT_SEC_HI (R59, R440). -/
def STG_DT_SEC_HI.row : RegRow := ⟨"STG_DT_SEC_HI", 1, [STG_DT_SEC_HI.sec_hi]⟩

def STG_DT_STAT.master : Fld := ⟨0x30000, 0x0, 0x810, 4, 15, 12, .ro, 15, []⟩
def STG_DT_STAT.src : Fld := ⟨0x30000, 0x0, 0x810, 4, 10, 8, .ro, 0, []⟩
def STG_DT_STAT.set_pending : Fld := ⟨0x30000, 0x0, 0x810, 4, 7, 7, .ro, 0, []⟩
/-- STG_DT_STAT (R59, R440). -/
def STG_DT_STAT.row : RegRow := ⟨"STG_DT_STAT", 1, [STG_DT_STAT.master, STG_DT_STAT.src, STG_DT_STAT.set_pending]⟩

def STG_BG_SHARE.tvscrub : Fld := ⟨0x30000, 0x0, 0x814, 4, 19, 16, .rw, 1, []⟩
def STG_BG_SHARE.telem : Fld := ⟨0x30000, 0x0, 0x814, 4, 15, 12, .rw, 1, []⟩
def STG_BG_SHARE.fscrub : Fld := ⟨0x30000, 0x0, 0x814, 4, 11, 8, .rw, 1, []⟩
def STG_BG_SHARE.vscrub : Fld := ⟨0x30000, 0x0, 0x814, 4, 7, 4, .rw, 1, []⟩
def STG_BG_SHARE.cal : Fld := ⟨0x30000, 0x0, 0x814, 4, 3, 0, .rw, 1, []⟩
/-- STG_BG_SHARE (R59, R440). -/
def STG_BG_SHARE.row : RegRow := ⟨"STG_BG_SHARE", 1, [STG_BG_SHARE.tvscrub, STG_BG_SHARE.telem, STG_BG_SHARE.fscrub, STG_BG_SHARE.vscrub, STG_BG_SHARE.cal]⟩

def STG_BG_STARVE.tvscrub : Fld := ⟨0x30000, 0x0, 0x818, 4, 4, 4, .rc, 0, []⟩
def STG_BG_STARVE.telem : Fld := ⟨0x30000, 0x0, 0x818, 4, 3, 3, .rc, 0, []⟩
def STG_BG_STARVE.fscrub : Fld := ⟨0x30000, 0x0, 0x818, 4, 2, 2, .rc, 0, []⟩
def STG_BG_STARVE.vscrub : Fld := ⟨0x30000, 0x0, 0x818, 4, 1, 1, .rc, 0, []⟩
def STG_BG_STARVE.cal : Fld := ⟨0x30000, 0x0, 0x818, 4, 0, 0, .rc, 0, []⟩
/-- STG_BG_STARVE (R59, R440). -/
def STG_BG_STARVE.row : RegRow := ⟨"STG_BG_STARVE", 1, [STG_BG_STARVE.tvscrub, STG_BG_STARVE.telem, STG_BG_STARVE.fscrub, STG_BG_STARVE.vscrub, STG_BG_STARVE.cal]⟩

def STG_FAB_ERR.valid : Fld := ⟨0x30000, 0x0, 0x81c, 4, 31, 31, .rc, 0, []⟩
def STG_FAB_ERR.link : Fld := ⟨0x30000, 0x0, 0x81c, 4, 23, 16, .rc, 0, []⟩
def STG_FAB_ERR.count : Fld := ⟨0x30000, 0x0, 0x81c, 4, 15, 8, .rc, 0, []⟩
def STG_FAB_ERR.over_return : Fld := ⟨0x30000, 0x0, 0x81c, 4, 1, 1, .rc, 0, []⟩
def STG_FAB_ERR.parity : Fld := ⟨0x30000, 0x0, 0x81c, 4, 0, 0, .rc, 0, []⟩
/-- STG_FAB_ERR (R59, R440). -/
def STG_FAB_ERR.row : RegRow := ⟨"STG_FAB_ERR", 1, [STG_FAB_ERR.valid, STG_FAB_ERR.link, STG_FAB_ERR.count, STG_FAB_ERR.over_return, STG_FAB_ERR.parity]⟩

def STG_FAB_DROP.dropped : Fld := ⟨0x30000, 0x0, 0x820, 4, 31, 0, .rc, 0, []⟩
/-- STG_FAB_DROP (R59, R440). -/
def STG_FAB_DROP.row : RegRow := ⟨"STG_FAB_DROP", 1, [STG_FAB_DROP.dropped]⟩

def STG_DT_SET_LO.set_lo : Fld := ⟨0x30000, 0x0, 0x824, 4, 31, 0, .lRw, 0, []⟩
/-- STG_DT_SET_LO (R59, R440). -/
def STG_DT_SET_LO.row : RegRow := ⟨"STG_DT_SET_LO", 1, [STG_DT_SET_LO.set_lo]⟩

def STG_DT_SET_HI.set_hi : Fld := ⟨0x30000, 0x0, 0x828, 4, 15, 0, .hRw, 0, []⟩
/-- STG_DT_SET_HI (R59, R440). -/
def STG_DT_SET_HI.row : RegRow := ⟨"STG_DT_SET_HI", 1, [STG_DT_SET_HI.set_hi]⟩

def STG_STAT.stage : Fld := ⟨0x30000, 0x0, 0x0, 4, 31, 30, .ro, 1, []⟩
def STG_STAT.step : Fld := ⟨0x30000, 0x0, 0x0, 4, 29, 27, .ro, 0, []⟩
def STG_STAT.wait : Fld := ⟨0x30000, 0x0, 0x0, 4, 26, 24, .ro, 0, []⟩
def STG_STAT.bootsel : Fld := ⟨0x30000, 0x0, 0x0, 4, 23, 21, .ro, 0, []⟩
def STG_STAT.vhold_ok : Fld := ⟨0x30000, 0x0, 0x0, 4, 20, 20, .ro, 0, []⟩
def STG_STAT.aux_low : Fld := ⟨0x30000, 0x0, 0x0, 4, 19, 19, .ro, 0, []⟩
def STG_STAT.vault_ready : Fld := ⟨0x30000, 0x0, 0x0, 4, 18, 18, .ro, 0, []⟩
def STG_STAT.degraded : Fld := ⟨0x30000, 0x0, 0x0, 4, 17, 17, .ro, 0, []⟩
def STG_STAT.store_busy : Fld := ⟨0x30000, 0x0, 0x0, 4, 16, 16, .ro, 0, []⟩
/-- STG_STAT (R59, R440). -/
def STG_STAT.row : RegRow := ⟨"STG_STAT", 1, [STG_STAT.stage, STG_STAT.step, STG_STAT.wait, STG_STAT.bootsel, STG_STAT.vhold_ok, STG_STAT.aux_low, STG_STAT.vault_ready, STG_STAT.degraded, STG_STAT.store_busy]⟩

def STG_CTRL.course : Fld := ⟨0x30000, 0x0, 0x4, 4, 0, 0, .wp, 0, []⟩
/-- STG_CTRL (R59, R440). -/
def STG_CTRL.row : RegRow := ⟨"STG_CTRL", 1, [STG_CTRL.course]⟩

def STG_RST_CTRL.key : Fld := ⟨0x30000, 0x0, 0x8, 4, 31, 16, .wp, 0, []⟩
def STG_RST_CTRL.dev : Fld := ⟨0x30000, 0x0, 0x8, 4, 0, 0, .wp, 0, []⟩
/-- STG_RST_CTRL (R59, R440). -/
def STG_RST_CTRL.row : RegRow := ⟨"STG_RST_CTRL", 1, [STG_RST_CTRL.key, STG_RST_CTRL.dev]⟩

def STG_RST_CAUSE.cause : Fld := ⟨0x30000, 0x0, 0xc, 4, 31, 29, .ro, 0, []⟩
def STG_RST_CAUSE.fs : Fld := ⟨0x30000, 0x0, 0xc, 4, 28, 22, .ro, 0x7F, []⟩
def STG_RST_CAUSE.count : Fld := ⟨0x30000, 0x0, 0xc, 4, 15, 0, .ro, 0, []⟩
/-- STG_RST_CAUSE (R59, R440). -/
def STG_RST_CAUSE.row : RegRow := ⟨"STG_RST_CAUSE", 1, [STG_RST_CAUSE.cause, STG_RST_CAUSE.fs, STG_RST_CAUSE.count]⟩

def STG_PF_CFG.aux_en : Fld := ⟨0x30000, 0x0, 0x10, 4, 31, 31, .rwTv, 0, []⟩
def STG_PF_CFG.aux_rst : Fld := ⟨0x30000, 0x0, 0x10, 4, 30, 30, .rwTv, 0, []⟩
def STG_PF_CFG.pf_delay : Fld := ⟨0x30000, 0x0, 0x10, 4, 15, 0, .rwTv, 100, []⟩
/-- STG_PF_CFG (R59, R440). -/
def STG_PF_CFG.row : RegRow := ⟨"STG_PF_CFG", 1, [STG_PF_CFG.aux_en, STG_PF_CFG.aux_rst, STG_PF_CFG.pf_delay]⟩

def STG_EVENT.restart : Fld := ⟨0x30000, 0x0, 0x14, 4, 5, 5, .rc, 0, []⟩
def STG_EVENT.course_done : Fld := ⟨0x30000, 0x0, 0x14, 4, 4, 4, .rc, 0, []⟩
def STG_EVENT.vault_ready : Fld := ⟨0x30000, 0x0, 0x14, 4, 3, 3, .rc, 0, []⟩
def STG_EVENT.aux_low : Fld := ⟨0x30000, 0x0, 0x14, 4, 2, 2, .rc, 0, []⟩
def STG_EVENT.vhold_low : Fld := ⟨0x30000, 0x0, 0x14, 4, 1, 1, .rc, 0, []⟩
def STG_EVENT.course_wait : Fld := ⟨0x30000, 0x0, 0x14, 4, 0, 0, .rc, 0, []⟩
/-- STG_EVENT (R59, R440). -/
def STG_EVENT.row : RegRow := ⟨"STG_EVENT", 1, [STG_EVENT.restart, STG_EVENT.course_done, STG_EVENT.vault_ready, STG_EVENT.aux_low, STG_EVENT.vhold_low, STG_EVENT.course_wait]⟩

def STG_BLK_RST.go : Fld := ⟨0x30000, 0x0, 0x18, 4, 31, 31, .wp, 0, []⟩
def STG_BLK_RST.unit : Fld := ⟨0x30000, 0x0, 0x18, 4, 12, 8, .rw, 0, []⟩
def STG_BLK_RST.index : Fld := ⟨0x30000, 0x0, 0x18, 4, 6, 0, .rw, 0, []⟩
/-- STG_BLK_RST (R59, R440). -/
def STG_BLK_RST.row : RegRow := ⟨"STG_BLK_RST", 1, [STG_BLK_RST.go, STG_BLK_RST.unit, STG_BLK_RST.index]⟩

def STG_T_FOOTING.us : Fld := ⟨0x30000, 0x0, 0x1c, 4, 31, 0, .ro, 0, []⟩
/-- STG_T_FOOTING (R59, R440). -/
def STG_T_FOOTING.row : RegRow := ⟨"STG_T_FOOTING", 1, [STG_T_FOOTING.us]⟩

def STG_T_COURSE.us : Fld := ⟨0x30000, 0x0, 0x20, 4, 31, 0, .ro, 0, []⟩
/-- STG_T_COURSE (R59, R440). -/
def STG_T_COURSE.row : RegRow := ⟨"STG_T_COURSE", 1, [STG_T_COURSE.us]⟩

def STG_CFG_REJECT.valid : Fld := ⟨0x30000, 0x0, 0x24, 4, 31, 31, .rc, 0, []⟩
def STG_CFG_REJECT.count : Fld := ⟨0x30000, 0x0, 0x24, 4, 15, 8, .rc, 0, []⟩
def STG_CFG_REJECT.word : Fld := ⟨0x30000, 0x0, 0x24, 4, 7, 0, .rc, 0, []⟩
/-- STG_CFG_REJECT (R59, R440). -/
def STG_CFG_REJECT.row : RegRow := ⟨"STG_CFG_REJECT", 1, [STG_CFG_REJECT.valid, STG_CFG_REJECT.count, STG_CFG_REJECT.word]⟩

/-- The register rows of STG (R59, R440). -/
def rowsSTG : List RegRow :=
  [STG_DT_FRAC.row, STG_DT_NS.row, STG_DT_SEC_LO.row, STG_DT_SEC_HI.row, STG_DT_STAT.row, STG_BG_SHARE.row, STG_BG_STARVE.row, STG_FAB_ERR.row] ++
  [STG_FAB_DROP.row, STG_DT_SET_LO.row, STG_DT_SET_HI.row, STG_STAT.row, STG_CTRL.row, STG_RST_CTRL.row, STG_RST_CAUSE.row, STG_PF_CFG.row] ++
  [STG_EVENT.row, STG_BLK_RST.row, STG_T_FOOTING.row, STG_T_COURSE.row, STG_CFG_REJECT.row]

def MTL_CFG.auth_req : Fld := ⟨0x40000, 0x0, 0x0, 4, 0, 0, .rwTv, 0, []⟩
/-- MTL_CFG (R414). -/
def MTL_CFG.row : RegRow := ⟨"MTL_CFG", 1, [MTL_CFG.auth_req]⟩

def MTL_CTRL.load : Fld := ⟨0x40000, 0x0, 0x4, 4, 31, 31, .wp, 0, []⟩
def MTL_CTRL.abort : Fld := ⟨0x40000, 0x0, 0x4, 4, 30, 30, .wp, 0, []⟩
def MTL_CTRL.apply : Fld := ⟨0x40000, 0x0, 0x4, 4, 1, 1, .rw, 1, []⟩
def MTL_CTRL.store : Fld := ⟨0x40000, 0x0, 0x4, 4, 0, 0, .rw, 0, []⟩
/-- MTL_CTRL (R414). -/
def MTL_CTRL.row : RegRow := ⟨"MTL_CTRL", 1, [MTL_CTRL.load, MTL_CTRL.abort, MTL_CTRL.apply, MTL_CTRL.store]⟩

def MTL_STAT.state : Fld := ⟨0x40000, 0x0, 0x40, 4, 31, 29, .ro, 0, []⟩
def MTL_STAT.abort_st : Fld := ⟨0x40000, 0x0, 0x40, 4, 28, 27, .ro, 0, []⟩
def MTL_STAT.src : Fld := ⟨0x40000, 0x0, 0x40, 4, 26, 25, .ro, 0, []⟩
def MTL_STAT.pending : Fld := ⟨0x40000, 0x0, 0x40, 4, 24, 24, .ro, 0, []⟩
def MTL_STAT.partial : Fld := ⟨0x40000, 0x0, 0x40, 4, 23, 23, .ro, 0, []⟩
def MTL_STAT.store_deferred : Fld := ⟨0x40000, 0x0, 0x40, 4, 22, 22, .ro, 0, []⟩
def MTL_STAT.auth : Fld := ⟨0x40000, 0x0, 0x40, 4, 21, 21, .ro, 0, []⟩
def MTL_STAT.active_slot : Fld := ⟨0x40000, 0x0, 0x40, 4, 20, 20, .ro, 0, []⟩
def MTL_STAT.epoch : Fld := ⟨0x40000, 0x0, 0x40, 4, 19, 16, .ro, 0, []⟩
def MTL_STAT.step : Fld := ⟨0x40000, 0x0, 0x40, 4, 15, 12, .ro, 0, []⟩
def MTL_STAT.pending_store : Fld := ⟨0x40000, 0x0, 0x40, 4, 11, 11, .ro, 0, []⟩
def MTL_STAT.reject : Fld := ⟨0x40000, 0x0, 0x40, 4, 4, 0, .ro, 0, []⟩
/-- MTL_STAT (R414). -/
def MTL_STAT.row : RegRow := ⟨"MTL_STAT", 1, [MTL_STAT.state, MTL_STAT.abort_st, MTL_STAT.src, MTL_STAT.pending, MTL_STAT.partial, MTL_STAT.store_deferred, MTL_STAT.auth, MTL_STAT.active_slot, MTL_STAT.epoch, MTL_STAT.step, MTL_STAT.pending_store, MTL_STAT.reject]⟩

def MTL_EVENT.slot_fallback : Fld := ⟨0x40000, 0x0, 0x44, 4, 5, 5, .rc, 0, []⟩
def MTL_EVENT.store_fail : Fld := ⟨0x40000, 0x0, 0x44, 4, 4, 4, .rc, 0, []⟩
def MTL_EVENT.stored : Fld := ⟨0x40000, 0x0, 0x44, 4, 3, 3, .rc, 0, []⟩
def MTL_EVENT.test_fail : Fld := ⟨0x40000, 0x0, 0x44, 4, 2, 2, .rc, 0, []⟩
def MTL_EVENT.rejected : Fld := ⟨0x40000, 0x0, 0x44, 4, 1, 1, .rc, 0, []⟩
def MTL_EVENT.applied : Fld := ⟨0x40000, 0x0, 0x44, 4, 0, 0, .rc, 0, []⟩
/-- MTL_EVENT (R414). -/
def MTL_EVENT.row : RegRow := ⟨"MTL_EVENT", 1, [MTL_EVENT.slot_fallback, MTL_EVENT.store_fail, MTL_EVENT.stored, MTL_EVENT.test_fail, MTL_EVENT.rejected, MTL_EVENT.applied]⟩

def MTL_ID.id : Fld := ⟨0x40000, 0x0, 0x48, 4, 31, 0, .ro, 0, []⟩
/-- MTL_ID (R414). -/
def MTL_ID.row : RegRow := ⟨"MTL_ID", 1, [MTL_ID.id]⟩

def MTL_SEQ.seq : Fld := ⟨0x40000, 0x0, 0x4c, 4, 31, 0, .ro, 0, []⟩
/-- MTL_SEQ (R414). -/
def MTL_SEQ.row : RegRow := ⟨"MTL_SEQ", 1, [MTL_SEQ.seq]⟩

def MTL_LAST_ID.id : Fld := ⟨0x40000, 0x0, 0x50, 4, 31, 0, .ro, 0, []⟩
/-- MTL_LAST_ID (R414). -/
def MTL_LAST_ID.row : RegRow := ⟨"MTL_LAST_ID", 1, [MTL_LAST_ID.id]⟩

def MTL_REJ_OFFS.offs : Fld := ⟨0x40000, 0x0, 0x54, 4, 16, 0, .ro, 0, []⟩
/-- MTL_REJ_OFFS (R414). -/
def MTL_REJ_OFFS.row : RegRow := ⟨"MTL_REJ_OFFS", 1, [MTL_REJ_OFFS.offs]⟩

def MTL_FIRN_STAT.slot1_ok : Fld := ⟨0x40000, 0x0, 0x58, 4, 1, 1, .ro, 0, []⟩
def MTL_FIRN_STAT.slot0_ok : Fld := ⟨0x40000, 0x0, 0x58, 4, 0, 0, .ro, 0, []⟩
/-- MTL_FIRN_STAT (R414). -/
def MTL_FIRN_STAT.row : RegRow := ⟨"MTL_FIRN_STAT", 1, [MTL_FIRN_STAT.slot1_ok, MTL_FIRN_STAT.slot0_ok]⟩

def MTL_APPLY_TIME.us : Fld := ⟨0x40000, 0x0, 0x5c, 4, 31, 0, .ro, 0, []⟩
/-- MTL_APPLY_TIME (R414). -/
def MTL_APPLY_TIME.row : RegRow := ⟨"MTL_APPLY_TIME", 1, [MTL_APPLY_TIME.us]⟩

def MTL_LOAD_CNT.count : Fld := ⟨0x40000, 0x0, 0x60, 4, 31, 0, .rc, 0, []⟩
/-- MTL_LOAD_CNT (R414). -/
def MTL_LOAD_CNT.row : RegRow := ⟨"MTL_LOAD_CNT", 1, [MTL_LOAD_CNT.count]⟩

def MTL_REJECT_CNT.count : Fld := ⟨0x40000, 0x0, 0x64, 4, 31, 0, .rc, 0, []⟩
/-- MTL_REJECT_CNT (R414). -/
def MTL_REJECT_CNT.row : RegRow := ⟨"MTL_REJECT_CNT", 1, [MTL_REJECT_CNT.count]⟩

def MTL_CFG_REJECT.valid : Fld := ⟨0x40000, 0x0, 0x68, 4, 31, 31, .rc, 0, []⟩
def MTL_CFG_REJECT.count : Fld := ⟨0x40000, 0x0, 0x68, 4, 15, 8, .rc, 0, []⟩
def MTL_CFG_REJECT.word : Fld := ⟨0x40000, 0x0, 0x68, 4, 7, 0, .rc, 0, []⟩
/-- MTL_CFG_REJECT (R414). -/
def MTL_CFG_REJECT.row : RegRow := ⟨"MTL_CFG_REJECT", 1, [MTL_CFG_REJECT.valid, MTL_CFG_REJECT.count, MTL_CFG_REJECT.word]⟩

/-- The register rows of MTL (R414). -/
def rowsMTL : List RegRow :=
  [MTL_CFG.row, MTL_CTRL.row, MTL_STAT.row, MTL_EVENT.row, MTL_ID.row, MTL_SEQ.row, MTL_LAST_ID.row, MTL_REJ_OFFS.row] ++
  [MTL_FIRN_STAT.row, MTL_APPLY_TIME.row, MTL_LOAD_CNT.row, MTL_REJECT_CNT.row, MTL_CFG_REJECT.row]

def IND_CFG.space : Fld := ⟨0x270000, 0x20, 0x0, 4, 6, 4, .rw, 0, []⟩
def IND_CFG.inc : Fld := ⟨0x270000, 0x20, 0x0, 4, 0, 0, .rw, 1, []⟩
/-- IND_CFG (R375). -/
def IND_CFG.row : RegRow := ⟨"IND_CFG", 1, [IND_CFG.space, IND_CFG.inc]⟩

def IND_ADDR.addr : Fld := ⟨0x270000, 0x20, 0x4, 4, 31, 2, .rw, 0, []⟩
/-- IND_ADDR (R375). -/
def IND_ADDR.row : RegRow := ⟨"IND_ADDR", 1, [IND_ADDR.addr]⟩

def IND_DATA.data : Fld := ⟨0x270000, 0x20, 0x8, 4, 31, 0, .rw, 0, []⟩
/-- IND_DATA (R375). -/
def IND_DATA.row : RegRow := ⟨"IND_DATA", 1, [IND_DATA.data]⟩

def IND_STAT.waiting : Fld := ⟨0x270000, 0x20, 0xc, 4, 31, 31, .ro, 0, []⟩
/-- IND_STAT (R375). -/
def IND_STAT.row : RegRow := ⟨"IND_STAT", 1, [IND_STAT.waiting]⟩

def IND_ERR.wr_coll : Fld := ⟨0x270000, 0x20, 0x10, 4, 3, 3, .rc, 0, []⟩
def IND_ERR.ue : Fld := ⟨0x270000, 0x20, 0x10, 4, 2, 2, .rc, 0, []⟩
def IND_ERR.unavail : Fld := ⟨0x270000, 0x20, 0x10, 4, 1, 0, .rc, 0, []⟩
/-- IND_ERR (R375). -/
def IND_ERR.row : RegRow := ⟨"IND_ERR", 1, [IND_ERR.wr_coll, IND_ERR.ue, IND_ERR.unavail]⟩

/-- The register rows of IND (R375). -/
def rowsIND : List RegRow :=
  [IND_CFG.row, IND_ADDR.row, IND_DATA.row, IND_STAT.row, IND_ERR.row]

def IND_CFG_REJECT.valid : Fld := ⟨0x270080, 0x0, 0x0, 4, 31, 31, .rc, 0, []⟩
def IND_CFG_REJECT.count : Fld := ⟨0x270080, 0x0, 0x0, 4, 15, 8, .rc, 0, []⟩
def IND_CFG_REJECT.word : Fld := ⟨0x270080, 0x0, 0x0, 4, 7, 0, .rc, 0, []⟩
/-- IND_CFG_REJECT (R375). -/
def IND_CFG_REJECT.row : RegRow := ⟨"IND_CFG_REJECT", 1, [IND_CFG_REJECT.valid, IND_CFG_REJECT.count, IND_CFG_REJECT.word]⟩

/-- The register rows of INDG (R375). -/
def rowsINDG : List RegRow :=
  [IND_CFG_REJECT.row]

end Sys2Proof.Machine
end

