-- ==== Sys2Proof/Config.lean ====
section
/-! DEFINITION. What the spec leaves open as a VALUE: constants with no body, so that nothing can be proved of a value of
them. A statement that holds, holds for every value of these. (Log entries 4 and 5.) -/

namespace Sys2Proof.Config

/-- A fresh value the spec does not give, by the number of its use (log entry 4). -/
opaque freeNat : Nat → Nat

/-- A byte of Tile memory (0) or of the Vault (1) whose content is undefined, by the number of times that happened and the
byte address (R427, log entry 6). -/
opaque freeByte : Nat → Nat → Nat → Byte

/-- Whether an internal product that is no whole number is held as the whole number above it: the spec gives a precision
and no rounding (log entry 5). -/
opaque roundUp : Rat → Bool

/-- The error of an internal function (0 exponential, 1 logarithm, 2 square root, 3 the constant 2π) at an argument, in
units the model bounds: no rule gives its precision; and the value of the logarithm (4) and of the square root (5) where the
argument has none (log entry 5). -/
opaque numErr : Nat → Rat → Int

/-- How an engine port addresses its messages where its profile allows several ways: the multicast address, the
encapsulation, and multicast or unicast (R272; log entry 51). -/
opaque portChoice : Nat → Nat

/-- The instruction of the test port that an 8-bit code names, and the number of boundary cells (R509; log entry 118). -/
opaque tapCode : Nat → Nat
opaque tapCells : Nat

/-- The boundary cell of a pin: the P and N legs of the outputs (0 to 47), the SP pins (48 to 63), FAULT_N, ALIVE, TODOUT0
and 1, HIO0 to 3, HIRQ_N (64 to 72), and the LTX and MTX pairs (73 to 80) (log entry 118). -/
opaque tapCell : Nat → Nat

/-- What the outside sees of a quantity that time alone settles, by kind and by the count of free values used: whether
VDD_ANA or VDD_IO is below power-good (0; log entry 136), the bank of a march in progress (1; log entry 59), cycles in which
masters of Tile memory wait or meet (2; log entry 90), and the queue that undefined routing names (3; log entry 70). -/
opaque viewNat : Nat → Nat → Nat

/-- The revision index of a letter and digit other than A1 (R509; log entry 118). -/
opaque revIndex : Nat → Nat → Nat

end Sys2Proof.Config
end

