-- ==== Sys2Proof/Machine/Sparse.lean ====
section
/-! DEFINITION. Sparse maps in one canonical form: strictly rising keys, and no entry equal to what an unlisted key reads as.
Memories, the register store and the tables of units are all kept in this form, so that equal contents are equal data. -/

namespace Sys2Proof.Machine

/-- A sparse map: key and value pairs. -/
abbrev AMap (α : Type) := List (Nat × α)

/-- The value at `k`; `d` where `k` is not listed. -/
def AMap.get {α : Type} (d : α) : AMap α → Nat → α
  | [], _ => d
  | (j, v) :: r, k => if j = k then v else AMap.get d r k

/-- `v` listed at `k`, in rising order. -/
def AMap.ins {α : Type} : AMap α → Nat → α → AMap α
  | [], k, v => [(k, v)]
  | (j, w) :: r, k, v => if j < k then (j, w) :: AMap.ins r k v else if j = k then (k, v) :: r else (k, v) :: (j, w) :: r

/-- Put `v` at `k`: listed in rising order when it differs from `d`, else no longer listed. -/
def AMap.set {α : Type} [DecidableEq α] (d : α) (m : AMap α) (k : Nat) (v : α) : AMap α :=
  if v = d then m.filter (fun e => e.1 ≠ k) else m.ins k v

/-- Every key of the map exceeds `b`, the keys rise strictly, and no value is the default. -/
def AMap.wfAbove {α : Type} [DecidableEq α] (d : α) : Nat → AMap α → Bool
  | _, [] => true
  | b, (j, v) :: r => decide (b < j) && decide (v ≠ d) && AMap.wfAbove d j r

/-- The canonical form (a Bool): strictly rising keys and no listed default. -/
def AMap.wf {α : Type} [DecidableEq α] (d : α) : AMap α → Bool
  | [] => true
  | (j, v) :: r => decide (v ≠ d) && AMap.wfAbove d j r

/-- Put `f k` at each of the keys `start … start + n - 1`. -/
def AMap.setRange {α : Type} [DecidableEq α] (d : α) (m : AMap α) (start : Nat) : Nat → (Nat → α) → AMap α
  | 0, _ => m
  | n + 1, f => (AMap.setRange d m start n f).set d (start + n) (f (start + n))

/-- Change the value at `k` by `f`. -/
def AMap.upd {α : Type} [DecidableEq α] (d : α) (m : AMap α) (k : Nat) (f : α → α) : AMap α :=
  m.set d k (f (m.get d k))

/-- Every listed value changed by `f`. -/
def AMap.mapVals {α : Type} [DecidableEq α] (d : α) (m : AMap α) (f : Nat → α → α) : AMap α :=
  m.foldl (fun a kv => a.set d kv.1 (f kv.1 kv.2)) []

/-- The entries of a list of keys and values put into a map, in order. -/
def AMap.puts {α : Type} [DecidableEq α] (d : α) (m : AMap α) (l : List (Nat × α)) : AMap α :=
  l.foldl (fun a kv => a.set d kv.1 kv.2) m

end Sys2Proof.Machine
end

