-- ==== Sys2Proof/Machine/State.lean ====
section
/-! DEFINITION. The state of the part, as plain data: every register, every hidden latch, timer run, queue and memory the
spec gives the machine, and the queue of commands that wait. -/

namespace Sys2Proof.Machine

/-- Why a step stops with a fault. The part itself never stops: its faults are records of the collector (R468), so no
command of this model ends here. SAFE: nobody raises it. -/
inductive Fault where
  /-- Raised by no command; safe. -/
  | none
deriving DecidableEq, Repr

/-- Why a step is refused. -/
inductive Refusal where
  /-- A command that has no meaning yet, by its mnemonic in the opcode table; raised by an arm of `exec` only. Safe. -/
  | notModelled (mnemonic : String)
deriving DecidableEq, Repr

/-- The three variants (R1). -/
inductive Variant where
  | f1624 | c1624 | f1612
deriving DecidableEq, Repr

/-- Which part this is: its variant and the two characters of its silicon revision (R1, R3, R374).
Log entry 1 (DESIGN CHOICE). -/
structure Part where
  variant : Variant := .f1624
  letter : Nat := 0x41
  digit : Nat := 0x31
deriving DecidableEq, Repr

/-- A ToD frame that has passed its checks and waits for a stamp to label (R83). -/
structure TodFrame where
  sec : Nat
  cclass : Nat
  flags : Nat
  utc : Nat
deriving DecidableEq, Repr

/-- The hidden state of a candidate's watch estimator and qualifier (R66 to R86). Log entry 11 (DEDUCED). -/
structure Cand where
  /-- The anchor of a FREQ candidate, phase units (R67). -/
  anchor : Rat := 0
  /-- A new anchor (FREQ) or position is taken at the next stamp (R67, R468 FS6). -/
  restart : Bool := true
  /-- The restart follows a parity error and counts as a phase jump (R468 FS6). -/
  parity : Bool := false
  /-- The index of the last stamp, counted from the anchor (R66). -/
  k : Nat := 0
  /-- A block reset's increment of phase_epoch waits for the next entry to OBSERVING (R430). -/
  epochDue : Bool := false
  /-- Filtered phase and phase change per stamp, in 2^-32 phase units (R66). -/
  phi : Int := 0
  s : Int := 0
  /-- Filtered frequency, frequency units (R66). -/
  y : Int := 0
  /-- Device time of the last stamp that was not discarded as an overrun, phase units (R63, R75). -/
  last : Option Nat := none
  /-- Device time at which the candidate left DISABLED, from which periods count before its first stamp (R75). -/
  start : Nat := 0
  /-- What steps of device time have taken off the time since `last` or `start`, phase units (R123). -/
  late : Rat := 0
  /-- Stamp periods already counted as missed since then (R75). -/
  missed : Nat := 0
  /-- Consecutive outliers (R68), pulse-width failures (R76) and good stamps in NO_SIGNAL (R73). -/
  outRun : Nat := 0
  pwRun : Nat := 0
  goodRun : Nat := 0
  /-- Residuals of the last 256 accepted stamps, newest first, 2^-32 phase units (R70). -/
  resid : List Int := []
  /-- The stamp index and raw phase at the start of the gate in progress (R77). -/
  gate : Option (Nat × Rat) := none
  /-- A gate whose last stamp has come: its stamps, raw phase change and last stamp; GATE_END forms y_q of it. -/
  gateDone : Option (Nat × Rat × Nat) := none
  /-- The gate in progress has failed with cause OVERRUN (R63). -/
  overrun : Bool := false
  /-- The last gate lay beyond the acceptance limit, and beyond the reject limit (R77). -/
  freqBad : Bool := false
  rejHit : Bool := false
  /-- A complete gate has passed since the entry to OBSERVING (R73). -/
  passed : Bool := false
  /-- qual_time has passed since the entry to OBSERVING or the last restart of the timer (R73, R77). -/
  qualUp : Bool := false
  /-- Gates ended since the entry to OBSERVING or the last change of `rec` (R91). -/
  gates : Nat := 0
  /-- Seconds of stamp periods gone by, and the last 64 gate ends with their y_q in 2^-36, newest first (R78). -/
  span : Rat := 0
  hist : List (Rat × Rat) := []
  /-- The drift condition of R78 asks for DEGRADING. -/
  degrade : Bool := false
  /-- Anchors and phase jumps accepted since reset; channels compare it (R119). -/
  jumps : Nat := 0
  /-- Filtered phase and frequency as the consumers hold them, where they have lost an estimate on its link (R468 FS70). -/
  stale : Option (Int × Int) := none
  /-- A frame waiting for a stamp (R83). -/
  tod : Option TodFrame := none
  /-- A block reset is in progress (R430). -/
  inReset : Bool := false
deriving DecidableEq, Repr

/-- A pair of candidates under comparison: the run of equal results, positive for disagreements, and the mark (R85). -/
structure Pair where
  run : Int := 0
  marked : Bool := false
deriving DecidableEq, Repr

/-- A record item that its producer has finished: the stream (record type and unit), the producer's register address
(R299), the placement epoch where one is already fixed (R521), and the payload of each word (R297). -/
structure Item where
  rtype : Nat
  unit : Nat
  addr : Nat
  epoch : Option Nat := none
  body : List Nat
deriving DecidableEq, Repr

/-- A stream of the image: its record type, its source (255: every source) and its queue (R385). -/
structure Stream where
  rtype : Nat
  source : Nat
  queue : Nat
deriving DecidableEq, Repr

/-- The events of a fault record (R481). -/
inductive FltEvent where
  | detect | escalate | ack
deriving DecidableEq, Repr

/-- An action the collector will issue when a record closes: the source, the units it names, the action and the mask
(R475, R476). -/
structure FltAct where
  fs : Nat
  units : List Nat
  action : Nat
  mask : Nat
deriving DecidableEq, Repr

/-- A fault record being built or buffered (R479, R481). -/
structure FltRec where
  fs : Nat
  sev : Nat
  action : Nat
  event : FltEvent
  real : Bool
  inj : Bool
  shadowed : Bool
  acted : Bool
  tfrost : Bool
  merge : Nat
  info : Nat
  seq : Nat
  time : Nat
  mask : Nat
  notify : Bool
  acts : List FltAct
  /-- The (source, unit) pairs of its hits (R488). -/
  pairs : List (Nat × Nat)
deriving DecidableEq, Repr

/-- A hold, mute or isolation in force: the (source, unit) whose action engaged it, the kind (the action code 1, 2 or 3)
and the targets (R476). -/
structure Engaged where
  fs : Nat
  unit : Nat
  kind : Nat
  targets : Nat
deriving DecidableEq, Repr

/-- One end-to-end credit link of R46: the credits in use at the producer, and a counter reset that waits for an idle
cycle (R47). -/
structure Link where
  used : Nat := 0
  resetPend : Bool := false
deriving DecidableEq, Repr

/-- The hidden state of a rotor channel (R164 to R177). -/
structure Rot where
  /-- Loop angle from tooth 0 (unwrapped, rev), speed (rev/s) and acceleration (rev/s²) (R169). -/
  a : Rat := 0
  w : Rat := 0
  alpha : Rat := 0
  /-- Tooth error of the last update, rev. -/
  e : Rat := 0
  /-- Device time of the last accepted edge, and of the last stamp that was not discarded as an overrun, phase units (R63). -/
  tPrev : Option Nat := none
  lastStamp : Option Nat := none
  /-- Whole revolutions of the last accepted tooth (R169). -/
  revs : Int := 0
  /-- SYNCING: the last intervals and the last normal intervals, newest first; non-gap intervals since a gap; teeth since
  an index; edges since entry; the second index has come (R173). -/
  ivals : List Nat := []
  normal : List Nat := []
  sinceGap : Option Nat := none
  sinceIndex : Option Nat := none
  nEdge : Nat := 0
  armed : Bool := false
  /-- SYNCING or COASTING runs as a flywheel: angle and speed of the generator at a device time (R172). -/
  gamma : Rat := 0
  gw : Rat := 0
  gt : Nat := 0
  /-- The generator's remaining offset from the loop angle, rev, and how long after the last tooth it stood so, s (R172). -/
  resid : Rat := 0
  slewD : Rat := 0
  /-- The zero offset in use, rev (R175). -/
  zero : Rat := 0
  /-- What the current revolution's stamp will carry, and whether the revolution before had a pattern error (R174, R177). -/
  fResync : Bool := false
  fSlew : Bool := false
  fZero : Bool := false
  fPattern : Bool := false
  fAccel : Bool := false
  fStart : Bool := false
  patPrev : Bool := false
  /-- The correction of the last tooth that the generator has still to take up, rev, and the interval over which it does
  (s); the unwrapped loop angle of the next zero crossing; the change of the edge count by a STEP in this revolution
  (R171, R172, R175). -/
  corr : Rat := 0
  span : Rat := 0
  nextZ : Rat := 0
  stepBy : Option Int := none
  /-- The revolutions that have begun and are not stamped yet which have a pattern error, as the number of crossings before
  them (R174). -/
  marks : List Nat := []
  /-- Angle-clock edges of the revolution in progress, the generator angles of those that may lie behind its end, newest first,
  the generator angle from which edges count in it, and the instant at which the last one was due (R171, R177). -/
  edges : Nat := 0
  edgeAng : List Rat := []
  edgeFrom : Rat := 0
  lastEdge : Option Rat := none
  /-- Rising and falling edge of the last pulse of the angle clock and of the last revolution pulse, phase units (R171). -/
  acPulse : Option (Rat × Rat) := none
  rpPulse : Option (Rat × Rat) := none
deriving DecidableEq, Repr

/-- The hidden state of a channel's loop (R95 to R124). Phases are in 2^-32 phase units. -/
structure Chan where
  acc : Rat := 0
  theta : Int := 0
  psi : Int := 0
  eta : Int := 0
  e : Int := 0
  eLast : Int := 0
  /-- Steering value, frequency units (R100). -/
  fS : Int := 0
  passPool : Int := 0
  hostPool : Int := 0
  /-- The pools emptied in the last update (R124). -/
  emptied : Bool := false
  /-- The host pool drains in STEP mode (R121); a jammed D waits for the next update (R118). -/
  hostStep : Bool := false
  jam : Int := 0
  /-- Updates in a row within lock_thr, and beyond unlock_thr (R104). -/
  lockRun : Nat := 0
  unlockRun : Nat := 0
  /-- A manual write that still asks for its switch (R109). -/
  manNew : Bool := false
  /-- The phase epoch and the jumps of the active candidate that the loop has taken up (R119). -/
  epoch : Nat := 0
  jumps : Nat := 0
  /-- force_fr, force_ho or flt_hold was 1 in this or the last update period (R130). -/
  released : Bool := false
  /-- f_s was limited in the last update (R99). -/
  limited : Bool := false
  /-- Ensemble: the build-out, phase epoch and jumps of each slot's member, and the in-use set and weights that e was
  last formed with (R107, R159). -/
  thetas : List Int := [0, 0, 0, 0]
  mEpoch : List Nat := [0, 0, 0, 0]
  mJumps : List Nat := [0, 0, 0, 0]
  lastW : List Nat := []
  /-- The error of each slot's member, from its own θ_i, in the last update (R119). -/
  mErr : List Int := [0, 0, 0, 0]
  /-- Holdover: the predictions at the start and the end of the second, and the updates gone by in it (R148). -/
  hoFrom : Int := 0
  hoTo : Int := 0
  hoN : Nat := 0
deriving DecidableEq, Repr

/-- What a channel's steering did in one device-time second (R141). -/
structure SecRun where
  sum : Int := 0
  n : Nat := 0
  /-- The channel was LOCKED or ENSEMBLE in every update; f_s was limited in some update; src read FALLBACK. -/
  stateOk : Bool := true
  flim : Bool := false
  clock : Bool := false
deriving DecidableEq, Repr

/-- A member slot's stability estimate (R156): the last two samples, newest first, A, n; and its rejection (R158). -/
structure Member where
  /-- The phase epoch and the jumps of the candidate that the samples belong to. -/
  ep : Nat := 0
  jp : Nat := 0
  xs : List Int := []
  aVar : Rat := 0
  n : Nat := 0
  rejected : Bool := false
deriving DecidableEq, Repr

/-- The hidden state of a channel's Glacier model and ensemble (R133 to R159). -/
structure Glc where
  /-- The second in progress, and the last one completed and not yet judged. -/
  cur : SecRun := {}
  done : Option SecRun := none
  /-- Whole seconds of LOCKED or ENSEMBLE since the last entry, switch or set change, and whether the second in progress
  began before it (R141). -/
  settled : Nat := 0
  midSec : Bool := false
  /-- The exponentially weighted normal equations of the fit: 7 × 7 sums and 7 right-hand sides (R142). -/
  gram : List Rat := []
  rhs : List Rat := []
  /-- Device-time second of the last accepted sample. -/
  lastSec : Option Nat := none
  /-- Least and greatest t, g and ΔT and greatest |L| over the accepted samples (R142). -/
  spans : List (Rat × Rat) := []
  maxL : Rat := 0
  /-- r of the last accepted samples, newest first (R143), and how many have been accepted toward bias_ok (R147). -/
  rs : List Int := []
  nBias : Nat := 0
  /-- b in force, and the b restored or written with the model, frequency units (R143, R147, R148). -/
  b : Int := 0
  b0 : Int := 0
  /-- T of the last second with a valid one, seconds without one, and T_lag, in 1/256 °C (R138, R149). -/
  t : Option Int := none
  tMiss : Nat := 0
  tLag : Option Rat := none
  /-- The last completed second had a valid T; T_lag has been set by a valid T since Course (R138). -/
  tNow : Bool := false
  lagSet : Bool := false
  members : List Member := [{}, {}, {}, {}]
deriving DecidableEq, Repr

/-- The hidden state of a SYN (R182 to R200). -/
structure Syn where
  /-- Steering value in use and the one that the next update period brings (R182). -/
  fS : Int := 0
  fNext : Int := 0
  /-- Phase accumulator, phase units (R193). -/
  phase : Rat := 0
  /-- Consecutive counts in and out of window (R184). -/
  inWin : Nat := 0
  outWin : Nat := 0
  /-- A return has been requested and waits (R200). -/
  retPend : Bool := false
  /-- The bank has returned since the SYN last reached LOCKED (R200). -/
  returned : Bool := false
  /-- A commit pulse came with the return pulse and starts after the return (R196). -/
  commitWait : Bool := false
  /-- The dither generator (R198). -/
  lfsr : Nat := 1
  /-- The spread-spectrum profile in force: centred, dev and rate; and its place since the last minimum, in 1/1,250,000 of its
  period (R197). -/
  ssc : Option (Bool × Nat × Nat) := none
  sscPos : Nat := 0
deriving DecidableEq, Repr

/-- A tally counter in the shadow array (R453, R455): the copies of the high part (none: the CRC fails), the programmed
cells of the two rows, a cell or the inactive row left partial.
Log entry 2 (DESIGN CHOICE). -/
structure Tally where
  ha : Option Nat := some 0
  hb : Option Nat := some 0
  u0 : Nat := 0
  u1 : Nat := 0
  cellPart : Bool := false
  rowPart : Bool := false
  failed : Bool := false
  upkept : Bool := false
deriving DecidableEq, Repr

/-- A Firn page: its dirty mark, and of its shadow copies A and B the validity, weakness, erasure, sequence number and
which was written last (0 A, 1 B); the outcome of its last recall and its store tokens (R441 to R448).
Log entry 2 (DESIGN CHOICE). -/
structure Page where
  /-- The CRC-32C that each copy holds; none where the copy is torn or erased. -/
  crcA : Option Nat := none
  crcB : Option Nat := none
  dirty : Bool := false
  recalled : Nat := 2
  aOk : Bool := false
  bOk : Bool := false
  aWeak : Bool := false
  bWeak : Bool := false
  aBlank : Bool := true
  bBlank : Bool := true
  seqA : Nat := 0
  seqB : Nat := 0
  last : Nat := 1
  tokens : Nat := 8
deriving DecidableEq, Repr

/-- A Firn store: its requester (0 host, 1 Glacier, 2 loader slot, 3 loader directory, 4 key page, 5 refresh,
6 power-fail, 7 key page of a provisioning) and its pages (R444). -/
structure StoreReq where
  kind : Nat
  first : Nat
  last : Nat
deriving DecidableEq, Repr

/-- The store in progress: the page whose copy is in the page buffer, the next page to look at, an abort, a page that failed,
and the page that was in progress at a power-fail condition (R445, R447, R463). -/
structure StoreRun where
  req : StoreReq
  page : Option Nat := none
  next : Nat := 0
  abort : Bool := false
  fail : Bool := false
  skip : Option Nat := none
deriving DecidableEq, Repr

/-- The Firn engine: pages, the store in progress, the requests waiting, those that this command has made, the outcomes
(requester; 0 stored, 1 failed, 2 refused) that the loader has not yet taken up, and the tally counters. `lost`: the front
was recalled and the pages that the recall lost have not been told yet (R448). -/
structure FirnU where
  pages : AMap Page := []
  run : Option StoreRun := none
  waiting : List StoreReq := []
  asked : List StoreReq := []
  done : List (Nat × Nat) := []
  tallies : AMap Tally := []
  /-- The increments of tally counters requested and not complete, oldest first; the first one has begun (R454). -/
  tq : List Nat := []
  tGo : Bool := false
  lost : Bool := false
  /-- Power was lost, and Course has not been reported since: no refresh pass (R449). -/
  cold : Bool := true
  /-- The directory page that the Mortar loader stores next, and the one before it (R401). -/
  dirNew : Option (List Byte) := none
  dirOld : List Byte := []
deriving DecidableEq, Repr

/-- The hidden state of Frost: a committed time, seconds and subseconds, that waits for the next tick, the latched
seconds, the error at the start of the trim window and the last one compared in it after that, ns, and a step in the window
(R458, R459).
`held`: the host committed a time in this second of Frost. -/
structure FrostU where
  commit : Option (Nat × Nat) := none
  latch : Nat := 0
  held : Bool := false
  win : Option Int := none
  err : Option Int := none
  stepped : Bool := false
deriving DecidableEq, Repr

/-- The hidden state of a pulse aligner (R206 to R209). Times in phase units of device time. -/
structure Pa where
  /-- The last leading edge latched, exactly; the leading edge whose trailing edge is not latched yet; the edges latched and
  not fired, oldest first, with true for a leading one; and the pulse in progress (R206, R207). -/
  pos : Option Int := none
  trail : Option Int := none
  edges : List (Rat × Bool) := []
  high : Bool := false
  /-- The placed instants of the last leading edge and of the trailing edge that followed it, phase units, and the remainder
  that the leading edge took up (R205). -/
  rise : Option Rat := none
  fall : Option Rat := none
  took : Rat := 0
  /-- What the 6.25 ps grid of the edge generator has left over (R205). -/
  carry : Rat := 0
  /-- The filtered phase of the last latch with a usable candidate (R208). -/
  phi : Int := 0
  /-- The last stamp of the companion leg (R206). -/
  ts : Option Nat := none
  /-- The seconds that the ToD frame of the last pulse will carry (R209). -/
  tod : Option Nat := none
deriving DecidableEq, Repr

/-- The pulse aligners, the holder of each TODOUT pin, the last ToD frame sent on each (R206, R209), and when each
output last began or ceased to follow its PAL source, phase units (R203). -/
structure PalU where
  pas : AMap Pa := []
  holder : AMap (Option Nat) := []
  sent : AMap (List Byte) := []
  swap : AMap Rat := []
deriving DecidableEq, Repr

/-- A TDC's calibration table (R233): widths in 2^-8 phase units up to the span, whether it was measured, and its age in
seconds. Log entry 45 (DEDUCED). -/
structure TdcTab where
  /-- The entries' widths, 2^-8 phase units; none stands for the uniform table. -/
  widths : List Nat := []
  /-- The codes in use. -/
  span : Nat := 1778
  measured : Bool := false
  nominal : Bool := false
  age : Nat := 0
deriving DecidableEq, Repr

/-- A TIM stamp: coarse count, fine time and device time in phase units (R230, R239). -/
structure TimStamp where
  c : Nat
  f : Rat
  t : Nat
deriving DecidableEq, Repr

/-- What the TIM keeps of a gate (R226 to R232). -/
structure Gate where
  /-- The time base is device time; it was switched; the device time of c_o. -/
  dev : Bool := false
  switched : Bool := false
  t0 : Nat := 0
  /-- A lost edge marks the next stamp of its input and the result; UNCAL, BUF_OVF, ABORTED of the result. -/
  lostA : Bool := false
  lostB : Bool := false
  lost : Bool := false
  uncal : Bool := false
  /-- The pair in progress uses a stamp of the uniform table. -/
  uncalP : Bool := false
  ovf : Bool := false
  aborted : Bool := false
  /-- Selected edges of the start input, and the stamps taken on it. -/
  nEdge : Nat := 0
  n : Nat := 0
  /-- The last stamps of the two inputs, for their dead times. -/
  lastA : Option TimStamp := none
  lastB : Option TimStamp := none
  /-- INTERVAL: the stamps of the pair in progress, the pairs completed, the last interval with its flags and start time. -/
  pairA : Option TimStamp := none
  pairB : Option TimStamp := none
  pairs : Nat := 0
  iv : Int := 0
  coin : Bool := false
  order : Bool := false
  ivT : Nat := 0
  /-- FREQ: the first stamp and the sums of k, k², t, t², k·t (R232). -/
  first : Option TimStamp := none
  sk : Rat := 0
  skk : Rat := 0
  st : Rat := 0
  stt : Rat := 0
  skt : Rat := 0
deriving DecidableEq, Repr

/-- The Time Interval Meter and the calibration of every TDC (R218 to R241). -/
structure TimU where
  /-- The level of the TIMGATE pin. -/
  gatePin : Bool := false
  gate : Option Gate := none
  /-- TIMREF counts in a row that pass, and that fail (R221). -/
  passRun : Nat := 0
  failRun : Nat := 0
  /-- Stamps that wait for the buffer's memory, as record words (R231). -/
  fifo : List (List Nat) := []
  tabs : AMap TdcTab := []
  /-- Tables that wait for the gate to close (R233). -/
  wait : AMap (List Nat) := []
  /-- The background round: the next slot, the TDC of the slot in progress, the TDC placed first. -/
  slot : Nat := 0
  cur : Option Nat := none
  next : Option Nat := none
deriving DecidableEq, Repr

/-- The memory map of the image (R383): base and size of the Vault's queue middles, client table, stamp buffer and test save
area, the size of the stamp buffer in stamps, and the use of each Tile bank. -/
structure MemMap where
  regions : List (Nat × Nat) := []
  bufCap : Nat := 0
  tileUse : List Nat := []
deriving DecidableEq, Repr

/-- The states of the test port's controller (IEEE 1149.1). -/
inductive TapState where
  | testLogicReset | runTestIdle | selectDr | captureDr | shiftDr | exit1Dr | pauseDr | exit2Dr | updateDr
  | selectIr | captureIr | shiftIr | exit1Ir | pauseIr | exit2Ir | updateIr
deriving DecidableEq, Repr

/-- The instructions of the test port (R509). -/
inductive TapInstr where
  | bypass | idcode | sample | preload | extest | extestPulse | extestTrain | clamp | highz
deriving DecidableEq, Repr

/-- The test port (R509): its controller, the instruction in force, the shift registers, and the boundary cells' latches. -/
structure Tap where
  state : TapState := .testLogicReset
  ir : TapInstr := .idcode
  irShift : Nat := 0
  dr : Nat := 0
  cells : Nat := 0
  /-- The pins of the serial pairs show the inverse of their cells (IEEE 1149.6, R509). -/
  inv : Bool := false
deriving DecidableEq, Repr

/-- The supplies as the part sees them: the class of each output bank's VDD_OUT since the release (0 for 1.8 V, 1 for
2.5 V, 2 for 3.3 V, R494), and whether a main rail has fallen since, so that VDD_ANA or VDD_IO may be below power-good
(R496). -/
structure Supply where
  cls : List Nat := []
  low : Bool := false
deriving DecidableEq, Repr

/-- A frame as a transmitter sends it: its bytes without FCS, whether its FCS is good, whether it ended with an error
(R248), and the instant at which its first byte leaves the ball, phase units (R250). -/
structure TxFrame where
  bytes : List Byte := []
  good : Bool := true
  err : Bool := false
  start : Nat := 0
deriving DecidableEq, Repr

/-- A transport address: MAC address, outer and inner VLAN tags (0: absent), encapsulation (0 L2, 1 UDP/IPv4, 2
UDP/IPv6), IP address and UDP port (R286). -/
structure Dest where
  mac : Nat := 0
  outer : Nat := 0
  inner : Nat := 0
  enc : Nat := 0
  ip : Nat := 0
  port : Nat := 0
deriving DecidableEq, Repr

/-- A frame waiting for insertion on LTX (R260, R261): a PTP message of the engine with its destination, or the bytes of an
in-band response where there is none; for an event message the timestamp t_ins placed in it. Log entry 49 (DEDUCED). -/
structure InsFrame where
  dest : Option Dest := none
  bytes : List Byte := []
  event : Bool := false
  tIns : Nat := 0
deriving DecidableEq, Repr

/-- The hidden state of a lane (R242 to R267): the frame that each transmitter took up last and the message inserted
last; the messages at the engine that wait for credits of the insertion link, with the words of the first one that have
gone (R44), and those that wait for insertion; the M2L frames that wait in the buffer behind these (R261); the frames
sent on the looped side, which come back (R265); the messages that the parser passed to the engine, each with its
receive timestamp, or with none where the item was dropped (R255), and how far the time master's steps had come (R293); the frames that HOLD discarded (R267); the arrival
times of the last ten ESMC PDUs, newest first; and the pause bits that each side advertises (R243). -/
structure LaneU where
  ltx : Option TxFrame := none
  mtx : Option TxFrame := none
  sent : Option InsFrame := none
  prod : List InsFrame := []
  prodSent : Nat := 0
  ins : List InsFrame := []
  buf : List TxFrame := []
  loop : List (List Byte) := []
  evq : List (List Byte × Option Nat × Int) := []
  holdN : Nat := 0
  esmcT : List Nat := []
  advL : Nat := 0
  advM : Nat := 0
deriving DecidableEq, Repr

/-- A PTP Announce kept of a foreign master: its port identity and transport address, the grandmaster's data, and how many
Announces have come, and when the last two came (R275, R277). Log entry 51 (DEDUCED). -/
structure Ann where
  src : Nat := 0
  dest : Dest := {}
  p1 : Nat := 0
  cls : Nat := 0
  acc : Nat := 0
  var : Nat := 0
  p2 : Nat := 0
  gm : Nat := 0
  steps : Nat := 0
  tsrc : Nat := 0
  utc : Nat := 0
  flags : Nat := 0
  n : Nat := 0
  t0 : Nat := 0
  t1 : Nat := 0
deriving DecidableEq, Repr

/-- What an engine port keeps (R273, R275, R278): foreign masters, the parent followed, a two-step Sync and its outstanding
requests, sequence numbers, the samples since UNCALIBRATED, the announce intervals left in PRE_MASTER, and the peer delay of
profile 3. -/
structure PortU where
  foreign : List Ann := []
  parent : Option Nat := none
  /-- A two-step Sync that waits: sequenceId, t2, correction. -/
  sync : Option (Nat × Nat × Int) := none
  /-- How far the time master's steps had come at the stamps of `sync`, `req`, `presp` and `pair` (R293). -/
  syncAt : Int := 0
  reqAt : Int := 0
  prespAt : Int := 0
  pairAt : Int := 0
  /-- Outer VLAN ID of the last Sync. -/
  vid : Nat := 0
  /-- Delay_Req or Pdelay_Req outstanding: sequenceId and originTimestamp. -/
  req : Option (Nat × Nat) := none
  /-- A two-step Pdelay_Resp that waits: sequenceId, t2, t4, correction. -/
  presp : Option (Nat × Nat × Nat × Int) := none
  /-- The last two-step pair (t3 + corrections, t4), the neighborRateRatio and the meanLinkDelay. -/
  pair : Option (Int × Nat) := none
  nrr : Rat := 1
  mld : Option Rat := none
  seqSync : Nat := 0
  seqAnn : Nat := 0
  seqReq : Nat := 0
  nCal : Nat := 0
  qual : Nat := 0
deriving DecidableEq, Repr

/-- A servo sample (R278): F, m, and o_ref where the cross-check servo ran. -/
structure SvSample where
  f : Rat
  m : Rat
  oref : Option Rat
deriving DecidableEq, Repr

/-- The hidden state of a servo (R278, R290 to R292): forward and backward delays of the period, the bases, the samples
withheld, the last o, an asymmetry staged by the host, the learning sum; what the time master's steps moved the bases by.
Log entry 52 (DEDUCED). -/
structure SvU where
  df : List Int := []
  db : List Int := []
  mBase : Option Rat := none
  xBase : Option Rat := none
  aside : List SvSample := []
  o : Rat := 0
  m : Rat := 0
  staged : Option Int := none
  lSum : Rat := 0
  lN : Nat := 0
  off : Rat := 0
deriving DecidableEq, Repr

/-- A client slot (R280 to R288). A grant is its log interval and the device time at which it ends. -/
structure Slot where
  dom : Nat := 0
  lane : Nat := 0
  ident : Nat := 0
  dest : Dest := {}
  gSync : Option (Int × Nat) := none
  gResp : Option (Int × Nat) := none
  gAnn : Option (Int × Nat) := none
  asym : Bool := false
  pathKnown : Bool := false
  noT3 : Bool := false
  path : Nat := 63
  seqSync : Nat := 0
  seqAnn : Nat := 0
  seqSig : Nat := 0
  seqResp : Nat := 0
  base : Option Rat := none
  lastDb : Int := 0
  steps : Nat := 0
  nSync : Nat := 0
  nResp : Nat := 0
  nDisc : Nat := 0
  /-- The history ring (device-time seconds, nanoseconds, d_b) and its next entry; d_b samples accepted. -/
  hist : AMap (Nat × Nat × Int) := []
  histI : Nat := 0
  nAcc : Nat := 0
  /-- Samples set aside, and the times of the Delay_Reqs of the last second, newest first. -/
  aside : List Int := []
  reqT : List Nat := []
deriving DecidableEq, Repr

/-- The PTP engine (R272 to R296): ports, servos, ACTIVE slots, and the committed event messages per second. -/
structure PteU where
  ports : AMap PortU := []
  svs : AMap SvU := []
  slots : AMap (Option Slot) := []
  load : Rat := 0
  rxAt : Int := 0
deriving DecidableEq, Repr

/-- An item in a queue: the number of its word 0 counted over all words the queue has accepted, its producer, its words
so far and its length, its notice given (R305), held in a middle that is not available (R303), and the word stored with
inverted check bits, with their number (R485). -/
structure QItem where
  pos : Nat
  addr : Nat := 0
  words : List Nat := []
  len : Nat := 1
  readable : Bool := false
  mid : Bool := false
  flaw : Option (Nat × Nat) := none
deriving DecidableEq, Repr

/-- A queue and its tail link (R299 to R309): its items, oldest first; the read pointer and the mark as word numbers;
the number of the next word; the number of the first word that has not been spilled (R302); the words on the link, and
those of the item in progress that wait for credits, by producer. Log entry 117 (DEDUCED). -/
structure QueueU where
  items : List QItem := []
  rp : Nat := 0
  mark : Option Nat := none
  nextPos : Nat := 0
  spilled : Nat := 0
  /-- The words of the open burst of the middle, by their numbers (R302). -/
  openB : List (Nat × Nat) := []
  linkQ : List (Nat × Nat) := []
  wait : List (Nat × Nat) := []
  /-- While dropping, the producer of the torn item (R307). -/
  torn : Option Nat := none
  /-- An epoch change that waits for the stale window (R309). -/
  epochHeld : Option Nat := none
  /-- A loss has raised FS48 since the last read of QMG_Q_EVENT (R306). -/
  lostSeen : Bool := false
deriving DecidableEq, Repr

/-- The hidden state of the memories' controllers (R311 to R324): the sums of the next TELEMETRY record; the repair map
of each Tile bank (row and spare), its bad spares, the banks and the kind of the Tile test (destructive, being aborted);
and of the Vault the state before self-refresh, the kind of its test (destructive, of the loader) and the poisoned
bursts. -/
structure MemU where
  corrV : Nat := 0
  corrT : Nat := 0
  lost : Nat := 0
  written : Nat := 0
  rows : AMap (List (Nat × Nat)) := []
  badSpare : AMap Nat := []
  tBanks : Nat := 0
  tDestr : Bool := false
  tAbort : Bool := false
  vBack : Nat := 0
  vDestr : Bool := false
  /-- An abort of the test waits for PCLK (R34, R324). -/
  vAbort : Bool := false
  vLoader : Bool := false
  /-- The outcome of the loader's test: 0 none, 1 passed, 2 failed, 3 aborted (R412). -/
  vRes : Nat := 0
  poison : List Nat := []
  /-- The uncorrectable words of Tile memory that nothing has written since, by word number (R315). -/
  badT : List Nat := []
  /-- The Vault burst written with inverted check symbols, and their number (R485). -/
  injV : Option (Nat × Nat) := none
  /-- The Tile word stored with inverted check bits, by word number, and their number (R485). -/
  injT : Option (Nat × Nat) := none
  /-- Writes of hardware masters that repeat until a destructive test of their bank ends (R314, R316). -/
  tWait : List (Nat × List (Nat × Byte)) := []
deriving DecidableEq, Repr

/-- A verification in progress (R399, R400): what follows it, the source (1, 2 Firn slot 0, 1; 3 host), part of Course,
and the second Firn slot tried. -/
structure LoadRun where
  apply : Bool := false
  store : Bool := false
  src : Nat := 3
  course : Bool := false
  second : Bool := false
deriving DecidableEq, Repr

/-- An application in progress (R403): the records of the new structure, the keys that change, the image and what
follows. -/
structure ApplyRun where
  recs : AMap (List Byte) := []
  changed : List Nat := []
  id : Nat := 0
  seq : Nat := 0
  isPart : Bool := false
  auth : Bool := false
  src : Nat := 3
  store : Bool := false
  vtest : Bool := false
  course : Bool := false
deriving DecidableEq, Repr

/-- The Mortar loader (R377 to R414): the records in force by 65536 × section type + key, the verification, the application
and the store in progress (slot, length, image id, sequence), the units held by the application, and block resets that wait
for their unit's step (R405). -/
structure MtlU where
  recs : AMap (List Byte) := []
  load : Option LoadRun := none
  app : Option ApplyRun := none
  storing : Option (Nat × Nat × Nat × Nat) := none
  heldKeys : List Nat := []
  later : List (Nat × Nat) := []
  /-- The fields of held units that the host has written since the hold began, by their keys (R411). -/
  wrote : List Nat := []
  /-- Course has come to its first step, and waits for the loader to be IDLE (R400, R402). -/
  courseAsk : Bool := false
deriving DecidableEq, Repr

/-- A command packet that a port has received (R334): its class, opcode, tag and payload; `c0` marks one that R54 moves to
class-1 order, whose class-0 credit its response returns; `bad` one with a header bit set that R334 keeps at 0. -/
structure Pkt where
  cls : Nat
  op : Nat
  tag : Nat := 0
  body : List Byte := []
  c0 : Bool := false
  bad : Bool := false
deriving DecidableEq, Repr

/-- A REG_READ or REG_WRITE that waits at a word (R372, R399): the packet, the words done, the words read, the status so
far, and what it waits for: 4 the loader's verification, 0 to 3 an indirect window; or a bulk transfer that waits for a
Tile bank under test (5, R316). `drop`: a RESYNC discards its response (R341). -/
structure Burst where
  pkt : Pkt
  idx : Nat := 0
  acc : List Nat := []
  status : Nat := 0
  wait : Nat := 4
  drop : Bool := false
deriving DecidableEq, Repr

/-- A port of the host link (R329 to R349): commands that wait, the command in progress, the consecutive class-1 and class-2
packets since a class-3 one, the response in transfer with its offset, responses not started (class 0, others), pending
notifications (payloads), those whose place in the stream is decided (R346), the packet of the one being driven with its
offset, the notification sequence number, drops not yet told, and the frame sequence number of the in-band port. -/
structure Port where
  rx : List Pkt := []
  burst : Option Burst := none
  c3run : Nat := 0
  cur : Option (List Byte × Nat) := none
  r0 : List (List Byte) := []
  rs : List (List Byte) := []
  notes : List (List Byte) := []
  ins : List (List Byte) := []
  insCur : Option (List Byte × Nat) := none
  noteTag : Nat := 0
  drops : Nat := 0
  frameSeq : Nat := 0
deriving DecidableEq, Repr

/-- The host link: the queue notice pending (its payload; rising bits since it was built), and the bytes that the part drove
on HIO0 to HIO3 in the last RECEIVE or STATUS, with the byte that it drove after them until HCS_N rose (R330). -/
structure HostU where
  ports : AMap Port := []
  qn : Option (List Byte) := none
  qnRise : Bool := false
  driven : List Byte := []
  after : Option Byte := none
deriving DecidableEq, Repr

/-- An access of an indirect window that waits (R372): the executor, the direction, the data, and the space, address and
increment it uses; a write of Tile memory that has met WR_COLL (R314). `solo`: no burst of a port waits with it. -/
structure IndAcc where
  ex : Nat
  write : Bool
  data : Nat
  space : Nat
  addr : Nat
  inc : Bool
  lost : Bool := false
  solo : Bool := false
deriving DecidableEq, Repr

/-- An access of an executor to a register by address: a write, in the cycle of a hardware update or not, or a read of a
window's data port (R367, R372). Log entry 82 (DEDUCED). -/
structure BusAcc where
  ex : Nat := 0
  addr : Nat := 0
  be : Nat := 15
  data : Nat := 0
  write : Bool := true
  hw : Bool := false
deriving DecidableEq, Repr

/-- An indirect window: the access that waits; a write of IND_CFG that waits for it, and the bits of IND_ADDR that writes
waiting for it take, with their values (R373); and further accesses, oldest first: the executor, the direction and the data.
Log entry 82 (DEDUCED). -/
structure IndU where
  acc : Option IndAcc := none
  cfgNew : Option Nat := none
  addrNew : Option (Nat × Nat) := none
  more : List (Nat × Bool × Nat) := []
deriving DecidableEq, Repr

/-- Everything the part holds except its byte-addressed memories and the queue of waiting commands. A table of units
lists only those that differ from their state after reset. Log entry 2 (DESIGN CHOICE). -/
structure Core where
  rots : AMap Rot := []
  /-- The tach pin that the image routes to each channel, plus one; 0 for none (R29, R165). -/
  tach : AMap Nat := []
  chans : AMap Chan := []
  glcs : AMap Glc := []
  /-- Temperature readings of the second in progress, by source 0 to 7 on-die, 9 OSCTEMP, 10 host: sum and count (R136). -/
  tSum : AMap (Int × Nat) := []
  /-- sec_in_day and age_base of the age record (R139), and the last completed device-time second with the oscillator's age
  in it, days (R141, R143). -/
  secInDay : Nat := 0
  ageBase : Nat := 0
  secDone : Option (Nat × Rat) := none
  /-- Glacier restoration has run since Course began (R154); the image's nominal oscillator frequency, 1/256 Hz. -/
  glcReady : Bool := false
  /-- The local oscillator's frequency as the backup oscillator measures it, kHz (R187, R418). -/
  loKhz : Nat := 0
  syns : AMap Syn := []
  /-- The Firn engine (R441 to R455), and the bytes that this command writes into the front (empty between commands). -/
  firnU : FirnU := {}
  firnOut : List (Nat × Byte) := []
  /-- The internal reset is held (R418, R427). -/
  inReset : Bool := true
  frost : FrostU := {}
  /-- The PAL block's aligners (R206 to R209). -/
  pal : PalU := {}
  /-- Units whose block reset is in progress: unit code of R430 and index. -/
  inRst : List (Nat × Nat) := []
  tim : TimU := {}
  memMap : MemMap := {}
  /-- The bytes that this command writes into Tile memory (0) or the Vault (1) (empty between commands). -/
  memOut : List (Nat × Nat × Byte) := []
  lanes : AMap LaneU := []
  /-- Which part this is (R1, R3). -/
  part : Part := {}
  /-- Every register field, as its difference (exclusive or) from its reset value, by `Fld.key`. -/
  regs : AMap Nat := []
  /-- Where the second and third copies of a TV field differ from the first (R364). -/
  tvB : AMap Nat := []
  tvC : AMap Nat := []
  /-- The executors' shadows of latched words and their staging words (R361, R362), by executor and address. -/
  shadow : AMap Nat := []
  staging : AMap Nat := []
  /-- Accesses of executors that wait with an access to a window's data port, oldest first (R372). -/
  exHeld : List BusAcc := []
  /-- Device time in units of 2^-48 ns since the epoch, and the TSCLK cycle count modulo 5 (R35). -/
  dt : Nat := 0
  dtk : Nat := 0
  /-- A committed whole-second value, and whether the next rollover still precedes it (R41). -/
  setPend : Option Nat := none
  setSkip : Bool := false
  /-- The time master's frequency correction; the slices, 2^-32 phase units, that device time still takes up in 256 groups
  each, oldest first, and the group reached (R36, R100); of each slice, what the other channels' ψ and what the estimators
  still shift with it (R123). -/
  yMaster : Int := 0
  dSlices : List Int := []
  dShift : List (Int × Int) := []
  dGroup : Nat := 0
  /-- The time master's steps so far, 2^-32 phase units (R293). -/
  stepped : Int := 0
  /-- The time master has reached LOCKED or ENSEMBLE since the first load (R39). -/
  dtLocked : Bool := false
  /-- MODEL'S OWN: how many free values have been used (log entry 4). -/
  free : Nat := 0
  /-- The fabric links, by index (R46). -/
  links : AMap Link := []
  /-- Items produced and not yet started; items held while PCLK is stopped, by producer address (R521, R191, R224). -/
  outbox : List Item := []
  held : List Item := []
  /-- The image's stream assignments (R385). -/
  streams : List Stream := []
  /-- The estimator core has started (R30, R73). -/
  estRun : Bool := false
  cands : AMap Cand := []
  pairs : AMap Pair := []
  /-- The fault collector: records being built (oldest first), closed records, the next sequence number, escalated or
  acted units, engagements, and acknowledgements that wait for a record to close (R476 to R481, R488). -/
  building : List FltRec := []
  fltBuf : List FltRec := []
  fltSeq : Nat := 0
  esc : List (Nat × Nat) := []
  engaged : List Engaged := []
  ackWait : List (Nat × Nat) := []
  /-- The queues whose hits of FS48 or FS49 are unacknowledged (R471, R475, R477). -/
  hitUnits : List (Nat × Nat) := []
  /-- The severity and info of the last hit of each (source, unit), by 32 × source + unit, and of the hit that started a source's
  guard timer, by 4096 + source (R477, R481). -/
  hits : AMap (Nat × Nat) := []
  /-- Open quiet windows: unit code of R430 and index (R482); and a device reset that has been issued (R484). -/
  quiet : List (Nat × Nat) := []
  resetIssued : Bool := false
  /-- The latest-value links, as the info of FS70 names them, whose next value is discarded (R468). -/
  linkBad : List Nat := []
  pte : PteU := {}
  queues : AMap QueueU := []
  memU : MemU := {}
  /-- Memories whose contents become undefined by this command: Tile banks 0 to 15, 16 the Vault (empty between commands). -/
  memLost : List Nat := []
  mtl : MtlU := {}
  host : HostU := {}
  inds : AMap IndU := []
  /-- The level of ALIVE (R473); Footing is reported (R418); FS60 has been raised (R436); a Course pulse held in Footing (R420); a Course wait has reached 100 ms (R423); the cause and
  fault source of a device reset that has been requested (R428, R484). -/
  alive : Bool := false
  footed : Bool := false
  vholdTold : Bool := false
  courseHeld : Bool := false
  courseWaited : Bool := false
  /-- RS has left ACQUIRING by RETRY in Course and has not locked since (R423). -/
  rsTried : Bool := false
  /-- The causes asserted since the internal reset began, oldest first (R438). -/
  rstOpen : List Nat := []
  supply : Supply := {}
  rstReq : Option (Nat × Nat) := none
  tap : Tap := {}
deriving DecidableEq, Repr

/-- The byte-addressed memories: sparse, in canonical form. An unlisted byte of Tile memory and of the Vault holds a free
value, which changes with the generation `gens` of its bank (16: the Vault) (R427, log entry 6); an unlisted byte of the
others is 0. -/
structure Mem where
  /-- Tile memory, 2 MB (R311): the bytes whose value is known. -/
  tile : AMap (Option Byte) := []
  /-- The Vault, 128 MB or 64 MB (R319): the bytes whose value is known. -/
  vault : AMap (Option Byte) := []
  /-- MODEL'S OWN: how many times the contents of each became undefined. -/
  gens : AMap Nat := []
  /-- The Firn SRAM front, 256 KB (R439, R441). -/
  firn : AMap Byte := []
  /-- The Firn shadow copies A and B of every page (R441). -/
  shadowA : AMap Byte := []
  shadowB : AMap Byte := []
  /-- The page buffer of the store engine, 1 KB (R445). -/
  pbuf : AMap Byte := []
  /-- The Mortar staging buffer, 64 KB (R399). -/
  staged : AMap Byte := []
deriving DecidableEq, Repr

/-- The part without its queue of commands. -/
structure Dev where
  core : Core := {}
  mem : Mem := {}
deriving DecidableEq, Repr

/-- The state: the commands that wait, first in first out, and the part. -/
structure State where
  pending : List Instr
  dev : Dev
deriving DecidableEq, Repr

/-- The part right after reset: every register at its reset value, every table empty, no memory byte listed and no
command waiting. Log entry 2 (DESIGN CHOICE). -/
def State.reset : State := ⟨[], {}⟩

end Sys2Proof.Machine
end

