-- ==== Sys2Proof/Machine/Ops.lean ====
section
/-! DEFINITION. The named operations over the part's state: register fields, saturating counters, refusals, free values, the
units present, device time, records and their hold buffers, and the lifting of an operation to a command's meaning. -/

namespace Sys2Proof.Machine

/-! ## Register fields -/

/-- The value of a field: instance `i`, array member `k`. -/
def Core.rd (c : Core) (f : Fld) (i : Nat := 0) (k : Nat := 0) : Nat :=
  Nat.xor (c.regs.get 0 (f.key i k)) (f.reset i)

/-- `c` with the field at `v`, cut to its width. -/
def Core.wr (c : Core) (f : Fld) (v : Nat) (i : Nat := 0) (k : Nat := 0) : Core :=
  { c with regs := c.regs.set 0 (f.key i k) (Nat.xor (v % 2 ^ f.width) (f.reset i)) }

/-- A one-bit field as a Boolean. -/
def Core.rdB (c : Core) (f : Fld) (i : Nat := 0) (k : Nat := 0) : Bool := c.rd f i k ≠ 0

/-- A field as a two's-complement number. -/
def Core.rdS (c : Core) (f : Fld) (i : Nat := 0) (k : Nat := 0) : Int := toS f.width (c.rd f i k)

/-- A field written with a two's-complement number, saturating. -/
def Core.wrS (c : Core) (f : Fld) (z : Int) (i : Nat := 0) (k : Nat := 0) : Core := c.wr f (satS f.width z) i k

/-- A field written with an unsigned number, saturating. -/
def Core.wrU (c : Core) (f : Fld) (z : Int) (i : Nat := 0) (k : Nat := 0) : Core := c.wr f (satU f.width z) i k

/-- A one-bit field written with a Boolean. -/
def Core.wrB (c : Core) (f : Fld) (b : Bool) (i : Nat := 0) (k : Nat := 0) : Core := c.wr f (b2n b) i k

/-- A field back at its reset value. -/
def Core.clr (c : Core) (f : Fld) (i : Nat := 0) (k : Nat := 0) : Core := c.wr f (f.reset i) i k

/-- A counter advanced by `n`, saturating at its greatest code. -/
def Core.bump (c : Core) (f : Fld) (i : Nat := 0) (k : Nat := 0) (n : Nat := 1) : Core :=
  c.wr f (min (c.rd f i k + n) (2 ^ f.width - 1)) i k

/-- A counter advanced by `n`, wrapping. -/
def Core.bumpWrap (c : Core) (f : Fld) (i : Nat := 0) (k : Nat := 0) (n : Nat := 1) : Core :=
  c.wr f (c.rd f i k + n) i k

/-- Bit `b` of a field set or cleared. -/
def Core.wrBit (c : Core) (f : Fld) (b : Nat) (v : Bool) (i : Nat := 0) (k : Nat := 0) : Core :=
  c.wr f (putBit (c.rd f i k) b v) i k

/-- A TV field reads the bitwise majority of its three copies (R364). -/
def Core.rdTv (c : Core) (f : Fld) (i : Nat := 0) (k : Nat := 0) : Nat :=
  let a := c.rd f i k
  let b := Nat.xor a (c.tvB.get 0 (f.key i k))
  let d := Nat.xor a (c.tvC.get 0 (f.key i k))
  (a &&& b) ||| (a &&& d) ||| (b &&& d)

/-- A write of a TV field stores all three copies (R364). -/
def Core.wrTv (c : Core) (f : Fld) (v : Nat) (i : Nat := 0) (k : Nat := 0) : Core :=
  { c.wr f v i k with tvB := c.tvB.set 0 (f.key i k) 0, tvC := c.tvC.set 0 (f.key i k) 0 }

/-- Every field of a register row of instance `i` back at its reset value. -/
def Core.clrRow (c : Core) (r : RegRow) (i : Nat := 0) (k : Nat := 0) : Core :=
  r.flds.foldl (fun c f => c.clr f i k) c

/-- A 64-bit pair written whole: the low and the high word's fields, from a two's-complement number. -/
def Core.wrPair (c : Core) (lo hi : Fld) (z : Int) (i : Nat := 0) (k : Nat := 0) : Core :=
  let v := ofS 64 z
  (c.wr lo (v % 2 ^ 32) i k).wr hi (v / 2 ^ 32) i k

/-- A refusal recorded in a CFG_REJECT register: `valid`, the first word, and the saturating count (R363). -/
def Core.reject (c : Core) (valid count word : Fld) (w : Nat) (i : Nat := 0) : Core :=
  let first := c.rd valid i = 0
  let c := if first then c.wr word w i else c
  (c.wr valid 1 i).bump count i

/-! ## Free values and time -/

/-- A free value: nothing is known of it (log entry 4). -/
def Core.fresh (c : Core) : Nat × Core := (Config.freeNat c.free, { c with free := c.free + 1 })

/-- The pending fault notifications of a port, the one being driven among them (R333, R345). -/
def Port.waits (x : Port) : Nat := x.notes.length + x.ins.length + b2n x.insCur.isSome

/-- Whether a pulse falls in the completion cycle of the operation in progress that it would abort: no command tells it of a
register write or an ABORT packet, so a free choice (R369). Log entry 139 (DESIGN CHOICE). -/
def Core.atEnd (c : Core) (running : Bool) : Bool × Core := if running then (c.fresh.1 % 2 = 1, c.fresh.2) else (false, c)

/-- VDD_OUT of an output bank is of the 1.8 V class (R201, R494). Log entry 136 (DESIGN CHOICE). -/
def Core.bankLow (c : Core) (b : Nat) : Bool := c.supply.cls.getD b 1 = 0

/-- One second in units of 2^-48 ns (R35). -/
def secDt : Nat := 1000000000 * 2 ^ 48

/-- Device time truncated to the phase unit (R37). Log entry 92 (DESIGN CHOICE). -/
def Core.now (c : Core) : Nat := c.dt / 2 ^ 32

/-- The sources of device time in STG_DT_STAT.src (R39, R59). -/
def srcUnset : Nat := 0
def srcFrost : Nat := 1
def srcFreerun : Nat := 2
def srcSteered : Nat := 3
def srcHoldover : Nat := 4
def srcFallback : Nat := 5

/-- TSCLK and PCLK run while CCLK is divided from the root (R34, R190; RS_STAT.clk_src, R214). -/
def Core.pclk (c : Core) : Bool := c.rd RS_STAT.clk_src = 0

/-! ## The units present (R1) -/

def Part.cand (p : Part) (i : Nat) : Bool :=
  i < 16 || (match p.variant with
    | .f1624 => i < 24
    | .c1624 => false
    | .f1612 => i < 18 || (20 ≤ i && i < 24))

def Part.nCh (p : Part) : Nat := match p.variant with | .f1612 => 6 | _ => 12
def Part.nSyn (p : Part) : Nat := match p.variant with | .f1612 => 2 | _ => 4
def Part.nOut (p : Part) : Nat := match p.variant with | .f1612 => 12 | _ => 24
def Part.nLane (p : Part) : Nat := match p.variant with | .f1624 => 4 | .c1624 => 0 | .f1612 => 2
def Part.pte (p : Part) : Bool := p.variant ≠ .c1624
/-- Vault size in MB; 0 where it is absent. -/
def Part.vaultMB (p : Part) : Nat := match p.variant with | .f1624 => 128 | .c1624 => 0 | .f1612 => 64
/-- The regions of the Vault that stand where no image has placed them: base and size (R320). -/
def Part.regionDefault (p : Part) (k : Nat) : Nat × Nat :=
  match p.variant with
  | .f1624 => [(0, 96 * 2 ^ 20), (0x6000000, 8 * 2 ^ 20), (0x6800000, 2 * 2 ^ 20), (0x7FFFC00, 1024)].getD k (0, 0)
  | .f1612 => [(0, 48 * 2 ^ 20), (0x3000000, 4 * 2 ^ 20), (0x3400000, 2 * 2 ^ 20), (0x3FFFC00, 1024)].getD k (0, 0)
  | .c1624 => (0, 0)
/-- A region of the Vault: base and size (R320). -/
def Core.region (c : Core) (k : Nat) : Nat × Nat := c.memMap.regions.getD k (c.part.regionDefault k)
def Part.nSlot (p : Part) : Nat := match p.variant with | .f1624 => 16384 | .c1624 => 0 | .f1612 => 8192
/-- TDCs: one per REF and RCK input, two in the TIM and two per lane (R50, R374). -/
def Part.nTdc (p : Part) : Nat := match p.variant with | .f1624 => 30 | .c1624 => 18 | .f1612 => 24

/-! ## Records (R297 to R299, R521) -/

/-- The payload bits of a record word from its fields: high bit, low bit, value. -/
def packWord (l : List (Nat × Nat × Nat)) : Nat :=
  l.foldl (fun acc f => acc ||| place f.1 f.2.1 f.2.2) 0

/-- A Tile bank of a use has failed its march at Course, so that what the use holds is undefined (R425).
Log entry 70 (DEDUCED). -/
def Core.badUse (c : Core) (use : Nat) : Bool :=
  c.rdB STG_STAT.degraded && (List.range 16).any (fun b => c.memMap.tileUse.getD b 0 = use && c.rdB TMC_BANK.failed 0 b)

/-- A datum of the estimator, channel and Glacier core: a free value where the core's own bank has failed (R425).
Log entry 70 (DEDUCED). -/
def Core.coreData (c : Core) (v : Rat) : Rat × Core :=
  if c.badUse 2 then ((toS 64 c.fresh.1 : Rat), c.fresh.2) else (v, c)

/-- The queue of a stream: a record with the source itself prevails over the one of every source (R385); any queue where the
bank of the routing tables has failed (R425). Log entry 70 (DEDUCED). -/
def Core.streamQueue (c : Core) (rt unit : Nat) : Option Nat :=
  if c.badUse 6 then (let q := Config.viewNat 3 (c.free + 256 * rt + unit); if q < 128 then some q else none) else
  match c.streams.find? (fun s => s.rtype = rt && s.source = unit && decide (unit ≠ 255)) with
  | some s => if s.queue < 128 then some s.queue else none
  | none => match c.streams.find? (fun s => s.rtype = rt && s.source = 255) with
    | some s => if s.queue < 128 then some s.queue else none
    | none => none

/-- The record types whose tail link is DROP (R298). -/
def rtDrop (rt : Nat) : Bool := rt = 0x02 || rt = 0x11 || rt = 0x12 || rt = 0x20 || rt = 0x30 || rt = 0x39

/-- The current epoch of a queue, which the producers of its streams carry (R308, R309). -/
def Core.queueEpoch (c : Core) (q : Nat) : Nat := c.rd QMG_Q_STAT.epoch q

/-- An item produced while PCLK is stopped: CLK_EVENT is held in 8 places (R191), TIM_STAMP in 256 and the latest
TIM_RESULT alone (R224), every other STALL type in 8 places per producing unit; the rest is discarded and counted (R521).
The item keeps the epoch with which it was started. Log entry 38 (DEDUCED). -/
def Core.holdItem (c : Core) (q : Nat) (it : Item) : Core :=
  let it := { it with epoch := some (c.queueEpoch q) }
  let full := fun (n : Nat) (p : Item → Bool) => n ≤ (c.held.filter p).length
  let lose := c.bump STG_FAB_DROP.dropped
  let keep := { c with held := c.held ++ [it] }
  if it.rtype = 0x28 then (if full 8 (fun h => h.rtype = 0x28) then lose else keep)
  else if it.rtype = 0x30 then
    (if full 256 (fun h => h.rtype = 0x30) then c.bump TIM_DEAD_CNT.count else keep)
  else if it.rtype = 0x31 then { c with held := c.held.filter (fun h => h.rtype ≠ 0x31) ++ [it] }
  else if rtDrop it.rtype then lose
  else if full 8 (fun h => h.addr = it.addr && h.rtype ≠ 0x28 && h.rtype ≠ 0x30 && h.rtype ≠ 0x31) then lose
  else keep

/-- A producer finishes an item: it waits at its queue's tail, or is held while PCLK is stopped; a stream that no queue
is assigned to produces nothing (R385). Log entry 132 (DEDUCED). -/
def Core.emit (c : Core) (rt unit addr : Nat) (body : List Nat) : Core :=
  match c.streamQueue rt unit with
  | none => c
  | some q =>
    let it : Item := { rtype := rt, unit := unit, addr := addr, body := body }
    if c.pclk then { c with outbox := c.outbox ++ [it] } else c.holdItem q it

/-! ## Credit links (R42 to R47) -/

def Core.link (c : Core) (k : Nat) : Link := c.links.get {} k
def Core.setLink (c : Core) (k : Nat) (x : Link) : Core := { c with links := c.links.set {} k x }

/-- The pool of a fabric link; 0 for an index that is not used (R46). -/
def linkPool (k : Nat) : Nat := if k < 128 then 8 else if k < 132 then 64 else if k < 136 then 32 else if k < 142 then 16 else 0

/-- The link belongs to a unit that the variant has: lane links go with the lanes (R7, R46). -/
def Part.hasLink (p : Part) (k : Nat) : Bool := linkPool k ≠ 0 && (k < 128 || 140 ≤ k || (k - 128) % 4 < p.nLane)

/-- An item of a DROP link starts: charged `words` credits where the link has them and its counters are not about to be
reset; otherwise it is discarded whole, told by the second value (R43, R47). Log entry 115 (DEDUCED). -/
def Core.dropTake (c : Core) (k words : Nat) : Core × Bool :=
  let x := c.link k
  if x.resetPend || decide (linkPool k < x.used + words) then (c.bump STG_FAB_DROP.dropped, false)
  else (c.setLink k { x with used := x.used + words }, true)

/-! ## A command's meaning -/

/-- What a command answers. -/
abbrev Out := Host.Outcome State Fault Refusal

/-- Do `f` for each of `l`, in order. -/
def Core.each {α : Type} (c : Core) (l : List α) (f : Core → α → Core) : Core := l.foldl f c

/-- Do `f` where `b` holds. -/
def Core.on (c : Core) (b : Bool) (f : Core → Core) : Core := if b then f c else c

end Sys2Proof.Machine
end

