-- ==== Sys2Proof/Machine/Flags.lean ====
section
/-! DEFINITION. Raising a fault source (R468 to R486): the raw bit and the hit counter, the severity's handling, merging
into a record that is being built, shadowing by quiet windows, and the lines and bits that show unacknowledged units. -/

namespace Sys2Proof.Machine

/-- Sources whose unacknowledged units are tracked one by one: unit kind candidate, channel, SYN, aligner, lane or servo
(R468, R471). -/
def fsTracked (fs : Nat) : Bool :=
  fs ≤ 6 || (8 ≤ fs && fs ≤ 14) || (16 ≤ fs && fs ≤ 23) || fs = 25 || fs = 27 || (32 ≤ fs && fs ≤ 36)

/-- Spare sources (R468). -/
def fsSpare (fs : Nat) : Bool := fs = 7 || fs = 15 || fs = 31 || 76 ≤ fs

/-- The sources that the variant lacks (R7, R469). -/
def Part.fsAbsent (p : Part) (fs : Nat) : Bool :=
  p.variant = .c1624 && ((32 ≤ fs && fs ≤ 39) || fs = 52 || fs = 53 || fs = 73 || fs = 74)

/-- A unit of a source is one that the variant has, as the source's info names units: candidates, channels, SYNs, aligners,
TDCs, lanes, servos, domains, slots, links, ports, queues, producers of latest values, banks (R1, R7, R468, R469). -/
def Part.fsUnitOk (p : Part) (fs info : Nat) : Bool :=
  if fs ≤ 6 then info < 24 && p.cand info
  else if fs ≤ 23 then info < p.nCh
  else if fs = 25 then info < p.nSyn
  else if fs = 27 then info < 8
  else if fs = 29 then if info < 20 then p.cand info else info < 22 || (info < 30 && (info - 22) / 2 < p.nLane)
  else if 32 ≤ fs && fs ≤ 35 then info < p.nLane
  else if fs = 36 then info < 4
  else if fs = 37 then info < 2
  else if fs = 38 || fs = 39 then info < p.nSlot || info = 0xFFFFFFFF
  else if fs = 43 then p.hasLink info
  else if fs = 45 then info = 0 || (info = 1 && p.nLane ≠ 0)
  else if fs = 48 || fs = 49 then info < 128
  else if fs = 70 then
    (match info / 256 with
     | 0 => info % 256 < 24 && p.cand (info % 256)
     | 1 => info % 256 < p.nCh
     | 2 => p.pte && info % 256 < 4
     | _ => false)
  else if fs = 75 then info < p.nSyn
  else true

/-- The unit of a hit for acknowledgement: the info's unit where it is tracked, else the whole source, written 0 (R471). -/
def fsUnit (fs info : Nat) : Nat := if fsTracked fs then info else 0

/-- The severity in force: 0 for a source the variant lacks (R7), else the voted field. Log entry 67 (DEDUCED). -/
def Core.sev (c : Core) (fs : Nat) : Nat := if c.part.fsAbsent fs then 0 else c.rdTv FLT_SRC_CFG.sev fs

/-- Whether a (source, unit) is unacknowledged (R471). -/
def Core.unacked (c : Core) (fs unit : Nat) : Bool :=
  if fsTracked fs then bitOf (c.rd FLT_SRC_UNIT.units fs) unit
  else bitOf (c.rd FLT_UNACK.unack 0 (fs / 32)) (fs % 32)

/-- The unacknowledged units of a source. -/
def Core.unackedUnits (c : Core) (fs : Nat) : List Nat :=
  if fsTracked fs then (List.range 24).filter (fun u => bitOf (c.rd FLT_SRC_UNIT.units fs) u)
  else if bitOf (c.rd FLT_UNACK.unack 0 (fs / 32)) (fs % 32) then [0] else []

/-- The lines and summary bits that follow from the collector's state: FAULT_N (R472), the escalation bits and ALIVE
(R473), and the count of running timers (R489). Log entry 79 (DEDUCED). -/
def Core.fltRefresh (c : Core) : Core :=
  let anyUnack := (List.range 3).any (fun k => c.rd FLT_UNACK.unack 0 k ≠ 0)
  let escBit := fun k => (List.range 32).foldl (fun a b => if c.esc.any (fun e => e.1 = 32 * k + b) then setBit a b else a) 0
  let nGuard := ((List.range 96).filter (fun n => bitOf (c.rd FLT_GUARD.run 0 (n / 32)) (n % 32))).length
  let c := c.wrB FLT_STAT.fault_low anyUnack
  let c := c.wr FLT_STAT.n_guard nGuard
  let c := c.each (List.range 3) (fun c k => c.wr FLT_ESC.esc (escBit k) 0 k)
  c.wrB FLT_STAT.alive_run c.esc.isEmpty

/-- Mark a (source, unit) unacknowledged (R471). -/
def Core.markUnacked (c : Core) (fs unit : Nat) : Core :=
  let c := if fsTracked fs then c.wrBit FLT_SRC_UNIT.units (fsUnit fs unit) true fs else c
  let keep := (fs = 48 || fs = 49) && !c.hitUnits.contains (fs, unit)
  let c := if keep then { c with hitUnits := c.hitUnits ++ [(fs, unit)] } else c
  c.wrBit FLT_UNACK.unack (fs % 32) true 0 (fs / 32)

/-- Whether a channel has a candidate routed (CH_ROUTE, R132). -/
def Core.routed (c : Core) (ch cand : Nat) : Bool := bitOf (c.rd CH_ROUTE.mask ch) cand

/-- Whether an open quiet window shadows a source for a unit (R482, R484). -/
def Core.shadowed (c : Core) (fs info : Nat) : Bool :=
  let lane := fun (n : Nat) => c.rd ETH_CFG.domain n
  c.resetIssued || c.quiet.any fun w =>
    match w with
    | (0, x) => (fs ≤ 6 && info = x) ||
        ((fs = 8 || fs = 9 || fs = 10 || fs = 13 || fs = 19) && c.routed info x) ||
        (fs = 27 && c.rd PAL_PA_CFG.mode info = 1 && c.rd PAL_PA_CFG.src info = x)
    | (1, x) => (((8 ≤ fs && fs ≤ 14) || (16 ≤ fs && fs ≤ 23)) && info = x) ||
        (fs = 25 && bitOf (c.rd CH_STEER.syn x) info)
    | (2, x) => fs = 25 && info = x
    | (4, x) => fs = 27 && info = x
    | (5, _) => 28 ≤ fs && fs ≤ 30
    | (6, x) => (32 ≤ fs && fs ≤ 35 && info = x) || (fs ≤ 3 && info = 16 + x) ||
        ((fs = 8 || fs = 9 || fs = 10 || fs = 13) && c.routed info (16 + x)) ||
        (fs = 36 && lane x ≠ 0 && c.rd PTE_SV_CFG.domain info + 1 = lane x) ||
        (fs = 37 && lane x ≠ 0 && info + 1 = lane x)
    | (7, _) => (36 ≤ fs && fs ≤ 39) || (fs ≤ 3 && 20 ≤ info && info < 24) ||
        ((fs = 8 || fs = 9 || fs = 10 || fs = 13) && (List.range 4).any (fun k => c.routed info (20 + k)))
    | (8, x) => (fs = 48 || fs = 49) && info = x
    | _ => false

/-- The time of a fault record: device time, or Frost time converted as R39 states while device time reads UNSET, with
the tfrost mark (R481). Each Frost subsecond count is worth 2,000,000,000 phase units. -/
def Core.fltTime (c : Core) : Bool × Nat :=
  if c.rd STG_DT_STAT.src = srcUnset then
    (true, (c.rd FRS_W_SEC_LO.sec_lo + c.rd FRS_W_SEC_HI.sec_hi * 2 ^ 32) * secPU + c.rd FRS_W_SUB.sub * 2000000000)
  else (false, c.now)

/-- The targets that engagements of a kind hold (R476). Log entry 77 (DEDUCED). -/
def Core.engTargets (c : Core) (kind : Nat) : Nat := c.engaged.foldl (fun a e => if e.kind = kind then a ||| e.targets else a) 0

/-- FLT_MUTE_STAT and FLT_HOLD_STAT as the engagements stand. Log entry 73 (DEDUCED). -/
def Core.engRefresh (c : Core) : Core :=
  ((c.wr FLT_MUTE_STAT.out (c.engTargets 2)).wr FLT_HOLD_STAT.lanes (c.engTargets 3)).wr FLT_HOLD_STAT.ch (c.engTargets 1)

/-- No engagement of a kind holds target `t` any longer (R476). -/
def Core.engDrop (c : Core) (kind t : Nat) : Core :=
  let l := c.engaged.map (fun (e : Engaged) => if e.kind = kind then { e with targets := clrBit e.targets t } else e)
  Core.engRefresh { c with engaged := l.filter (fun (e : Engaged) => e.targets ≠ 0) }

/-- A new record; its sequence number is the next one (R481). Log entry 76 (DEDUCED). -/
def Core.newRec (c : Core) (fs sev action : Nat) (ev : FltEvent) (real inj shadowed acted : Bool) (info : Nat)
    (notify : Bool) (acts : List FltAct) (pairs : List (Nat × Nat)) : Core :=
  let t := c.fltTime
  let r : FltRec := {
    fs := fs, sev := sev, action := action, event := ev, real := real, inj := inj, shadowed := shadowed,
    acted := acted, tfrost := t.1, merge := 0, info := info, seq := c.fltSeq, time := t.2, mask := 0, notify := notify,
    acts := acts, pairs := pairs }
  { c with building := c.building ++ [r], fltSeq := (c.fltSeq + 1) % 2 ^ 32 }

/-- A hit merged into a record: the merge count and mask, REAL and INJ of a hit of the same source, and the hit's own
notification and action through that record (R479, R486); the first real hit of the source gives a record begun by an
injected one its severity and action (R481). Log entry 74 (DEDUCED). -/
def FltRec.merged (r : FltRec) (fs sev action : Nat) (real inj notify acted : Bool) (acts : List FltAct) (pairs : List (Nat × Nat)) : FltRec :=
  let same := r.fs = fs
  let r := { r with
    merge := min 255 (r.merge + 1), mask := setBit r.mask fs, notify := r.notify || notify, acts := r.acts ++ acts,
    pairs := r.pairs ++ pairs }
  if same then { r with
    real := r.real || real, inj := r.inj || inj, acted := r.acted || acted,
    sev := if real && !r.real then sev else r.sev, action := if real && !r.real then action else r.action } else r

/-- A hit begins a record, or merges into the one that was begun first and is still being built (R479). -/
def Core.recordHit (c : Core) (fs sev action : Nat) (inj sh acted : Bool) (info : Nat) (notify : Bool) (acts : List FltAct)
    (pairs : List (Nat × Nat)) : Core :=
  match c.building with
  | [] => c.newRec fs sev action .detect (!inj) inj sh acted info notify acts pairs
  | r :: rest => { c.wr FLT_EVENT.merged 1 with
      building := r.merged fs sev action (!inj) inj notify acted acts pairs :: rest }

/-- A detector asserts source `fs` for a unit; `inj` marks a hit caused at an injected location (R470, R471, R479, R483,
R485). `info` is the record's info field, `unit` the unit of R468; a unit that the variant lacks raises nothing (R7).
Log entry 76 (DEDUCED). -/
def Core.raiseInfo (c : Core) (fs unit info : Nat) (inj : Bool) : Core :=
  if fsSpare fs || 96 ≤ fs || c.part.fsAbsent fs || !c.part.fsUnitOk fs info then c else
  let cfgSev := c.sev fs
  let action := c.rdTv FLT_SRC_CFG.action fs
  let mask := c.rdTv FLT_SRC_MASK.tgt fs ||| (c.rdTv FLT_SRC_MASK.self fs) <<< 31
  let sev := if inj && !c.rdB FLT_INJ_CFG.act then 1 else cfgSev
  let sh := c.shadowed fs unit
  let c := c.wrBit FLT_RAW.hit (fs % 32) true 0 (fs / 32)
  let c := c.bump FLT_SRC_CNT.count fs
  if sev = 0 then c else
  let notify := !sh && 2 ≤ sev
  let act := !sh && sev = 4
  let acted := act && action ≠ 0
  let acts : List FltAct := if act then [⟨fs, [unit], action, mask⟩] else []
  let c := c.on sh (fun c => c.wr FLT_EVENT.shadowed 1)
  let c := c.recordHit fs sev action inj sh acted info notify acts [(fs, fsUnit fs unit)]
  if sh || sev < 2 then c else
  let u := fsUnit fs unit
  let c := c.markUnacked fs unit
  let starts := sev = 3 && !bitOf (c.rd FLT_GUARD.run 0 (fs / 32)) (fs % 32)
  let m := c.hits.set (0, 0) (32 * fs + u) (sev, info)
  let c : Core := { c with hits := if starts then m.set (0, 0) (4096 + fs) (sev, info) else m }
  let c := c.on (sev = 3) (fun c => c.wrBit FLT_GUARD.run (fs % 32) true 0 (fs / 32))
  let c := if sev = 4 then { c with esc := if c.esc.contains (fs, u) then c.esc else c.esc ++ [(fs, u)] } else c
  c.fltRefresh

/-- A real hit whose info is its unit. -/
def Core.raise (c : Core) (fs : Nat) (unit : Nat := 0) : Core := c.raiseInfo fs unit unit false

/-- The armed injection fires: `fired` sets and `arm` clears (R485). -/
def Core.injFired (c : Core) : Core := ((c.wr FLT_INJ_STAT.fired 1).wr FLT_INJ_CFG.arm 0).wr FLT_EVENT.inj_fired 1

/-- The injection armed for a source and target fires, and the injected hit follows (R485). -/
def Core.injFire (c : Core) (fs unit info : Nat) : Core := c.injFired.raiseInfo fs unit info true

/-- An injection is armed for source `fs` at target `tgt` (R485). -/
def Core.injArmed (c : Core) (fs tgt : Nat) : Bool :=
  c.rdB FLT_INJ_CFG.arm && c.rd FLT_INJ_CFG.src = fs && c.rd FLT_INJ_TGT.tgt = tgt

/-- A value of a latest-value link (0 estimate, 1 steering, 2 domain servo) from a producer reaches its consumers, unless a
parity error of it discards it: one that an injection makes, or one that has been told (R45, R468, R485).
Log entries 78 (DEDUCED), 133 (DEDUCED). -/
def Core.linkVal (c : Core) (link prod : Nat) : Core × Bool :=
  let info := link * 256 + prod
  if c.injArmed 70 info then (c.injFire 70 0 info, false)
  else if c.linkBad.contains info then ({ c with linkBad := c.linkBad.filter (fun x => x ≠ info) }, false)
  else (c, true)

/-- The Vault is written in bursts, given by their addresses: an injection of corrected symbols armed for one of them takes
effect (R485). Log entry 78 (DEDUCED). -/
def Core.vaultWrote (c : Core) (l : List Nat) : Core :=
  let t := c.rd FLT_INJ_TGT.tgt
  if !c.injArmed 52 t || 3 ≤ c.rd FLT_INJ_CFG.inv || !l.contains (t / 64 * 64) then c
  else { c.injFired with memU := { c.memU with injV := some (t / 64 * 64, c.rd FLT_INJ_CFG.inv) } }

end Sys2Proof.Machine
end

