-- ==== Sys2Proof/Machine/Operands.lean ====
section
/-! DEFINITION. The operand forms of register accesses: a data word under byte-enables (R356), the write of a register row
by access code with the RWE rule (R22, R363), L/H pairs by executor (R23, R362), and words read back from fields. -/

namespace Sys2Proof.Machine

/-- How a write ended: done, refused and recorded (CFGLOCK, R363), or a bus error with its cause (R354). -/
inductive WStat where
  | ok | locked | bus (cause : Nat)
deriving DecidableEq, Repr

/-- The 32-bit mask of a byte-enable (R356). -/
def beMask (be : Nat) : Nat :=
  (if be.testBit 0 then 0xFF else 0) ||| (if be.testBit 1 then 0xFF00 else 0) |||
  (if be.testBit 2 then 0xFF0000 else 0) ||| (if be.testBit 3 then 0xFF000000 else 0)

/-- The value a field takes when `data` is written under `be`: enabled bits new, the others old (R356). -/
def mergeField (f : Fld) (old be data : Nat) : Nat :=
  old ^^^ ((old ^^^ bits data f.hi f.lo) &&& bits (beMask be) f.hi f.lo)

/-- The field of a write-one-pulse register is pulsed by this write (R22). -/
def pulsed (f : Fld) (be data : Nat) : Bool := bits (data &&& beMask be) f.hi f.lo ≠ 0

/-- One field of a plain register write under byte-enables (R22, R356). L and H words, and RC, RO and WP fields, are not
written here; the RWE rule is `writeRow`'s. -/
def Core.writeField (c : Core) (be data i k : Nat) (f : Fld) : Core :=
  match f.acc with
  | .rw | .rwe => c.wr f (mergeField f (c.rd f i k) be data) i k
  | .rwTv | .rweTv => c.wrTv f (mergeField f (c.rdTv f i k) be data) i k
  | _ => c

/-- A plain write of a register row: every RW field, and the RWE fields unless one of them would change while the enable
is 1, in which case all of them keep their values (R363). The Boolean says that the write was refused. -/
def Core.writeRow (c : Core) (r : RegRow) (en : Bool) (be data : Nat) (i : Nat := 0) (k : Nat := 0) : Core × Bool :=
  let isRwe := fun (f : Fld) => f.acc = .rwe || f.acc = .rweTv
  let bad := en && r.flds.any (fun f => isRwe f &&
    decide (mergeField f (c.rdTv f i k) be data ≠ c.rdTv f i k))
  let c := r.flds.foldl (fun c f => if bad && isRwe f then c else c.writeField be data i k f) c
  (c, bad)

/-- The key of an executor's shadow or staging word: executors are 0 SPI class 0, 1 in-band class 0, 2 SPI classes 1–3
and 3 in-band classes 1–3 (R359). -/
def exKey (ex addr : Nat) : Nat := ex * 2 ^ 32 + addr

/-- The executor's staging word of the L register at `addr` (R362). -/
def Core.staged (c : Core) (ex addr : Nat) : Nat := c.staging.get 0 (exKey ex addr)

/-- A write to an L register loads the executor's staging word and changes nothing else (R362). -/
def Core.stage (c : Core) (ex addr data : Nat) : Core :=
  { c with staging := c.staging.set 0 (exKey ex addr) (data % 2 ^ 32) }

/-- A commit of a pair: the H word's data and the executor's staging word (R362). Where the pair is RWE and would change
while `en`, both words keep their values and the Boolean says so. -/
def Core.commitPair (c : Core) (lo hi : Fld) (rwe en : Bool) (ex data : Nat) (i : Nat := 0) (k : Nat := 0) : Core × Bool :=
  let l := bits (c.staged ex (lo.addr i k)) lo.hi lo.lo
  let h := bits data hi.hi hi.lo
  if rwe && en && (decide (l ≠ c.rd lo i k) || decide (h ≠ c.rd hi i k)) then (c, true)
  else ((c.wr lo l i k).wr hi h i k, false)

/-- A register's word composed of stored fields: RC, RO, RW and TV fields as they stand, WP fields 0 (R20, R22). -/
def Core.rowWord (c : Core) (r : RegRow) (i : Nat := 0) (k : Nat := 0) : Nat :=
  r.flds.foldl (fun w f => match f.acc with
    | .wp => w
    | .rwTv | .rweTv => w ||| (c.rdTv f i k) <<< f.lo
    | _ => w ||| (c.rd f i k) <<< f.lo) 0

/-- A read clears every RC field of the register (R360). -/
def Core.clearRc (c : Core) (r : RegRow) (i : Nat := 0) (k : Nat := 0) : Core :=
  r.flds.foldl (fun c f => if f.acc = .rc then c.wr f 0 i k else c) c

end Sys2Proof.Machine
end

