-- ==== Sys2Proof/Machine/RegMap.lean ====
section
/-! DEFINITION. The address map (R353): the blocks with their windows, what each variant lacks (R1, R4), and the decoding of a
word address and of the bit-alias region (R365, R366). -/

namespace Sys2Proof.Machine

/-- The register blocks of R353, with the parts of a block that repeat taken apart. -/
inductive BlkId where
  | idb | hlk | flt | fltSrc | fltCnt | fltUnit | stg | mtl | ref | ch | glc | glcG | rs | syn | out | pa | rot | tim
  | eth | pte | pteDom | ptePort | pteSv | ptePath | qmgQ | qmgG | tmc | vlt | frn | frs | ind | indG
deriving DecidableEq, Repr

/-- A block: its base, the stride and the number of its instances, and its register rows (R25). -/
structure Blk where
  id : BlkId
  base : Nat
  stride : Nat
  cnt : Nat
  rows : List RegRow
deriving DecidableEq, Repr

/-- The blocks of R353. -/
def blks : List Blk := [
  ⟨.idb, 0x0, 0x100, 1, rowsIDB⟩,
  ⟨.hlk, 0x10000, 0x10000, 1, rowsHLK⟩,
  ⟨.flt, 0x20000, 0x400, 1, rowsFLT⟩,
  ⟨.fltSrc, 0x20400, 0x8, 96, rowsFLTSRC⟩,
  ⟨.fltCnt, 0x20800, 0x4, 96, rowsFLTCNT⟩,
  ⟨.fltUnit, 0x20a00, 0x4, 96, rowsFLTUNIT⟩,
  ⟨.stg, 0x30000, 0x10000, 1, rowsSTG⟩,
  ⟨.mtl, 0x40000, 0x10000, 1, rowsMTL⟩,
  ⟨.ref, 0x100000, 0x400, 24, rowsREF⟩,
  ⟨.ch, 0x110000, 0x1000, 12, rowsCH⟩,
  ⟨.glc, 0x120000, 0x100, 12, rowsGLC⟩,
  ⟨.glcG, 0x120c00, 0x400, 1, rowsGLCG⟩,
  ⟨.rs, 0x130000, 0x800, 1, rowsRS⟩,
  ⟨.syn, 0x130800, 0x800, 4, rowsSYN⟩,
  ⟨.out, 0x140000, 0x100, 24, rowsOUT⟩,
  ⟨.pa, 0x150000, 0x40, 8, rowsPA⟩,
  ⟨.rot, 0x158000, 0x100, 12, rowsROT⟩,
  ⟨.tim, 0x160000, 0x10000, 1, rowsTIM⟩,
  ⟨.eth, 0x200000, 0x4000, 4, rowsETH⟩,
  ⟨.pte, 0x210000, 0x100, 1, rowsPTE⟩,
  ⟨.pteDom, 0x210100, 0x40, 2, rowsPTEDOM⟩,
  ⟨.ptePort, 0x210200, 0x20, 4, rowsPTEPORT⟩,
  ⟨.pteSv, 0x210300, 0x40, 4, rowsPTESV⟩,
  ⟨.ptePath, 0x210400, 0x10, 64, rowsPTEPATH⟩,
  ⟨.qmgQ, 0x220000, 0x40, 128, rowsQMGQ⟩,
  ⟨.qmgG, 0x222000, 0x1000, 1, rowsQMGG⟩,
  ⟨.tmc, 0x230000, 0x800, 1, rowsTMC⟩,
  ⟨.vlt, 0x240000, 0x800, 1, rowsVLT⟩,
  ⟨.frn, 0x250000, 0x10000, 1, rowsFRN⟩,
  ⟨.frs, 0x260000, 0x10000, 1, rowsFRS⟩,
  ⟨.ind, 0x270000, 0x20, 4, rowsIND⟩,
  ⟨.indG, 0x270080, 0x80, 1, rowsINDG⟩]

/-! ## Decoding -/

/-- The windows of units that the variant lacks (R1, R4, R353): the whole unit, or the absent instances. -/
def Part.absentAt (p : Part) (a : Nat) : Bool :=
  let inst := fun (base stride : Nat) => (a - base) / stride
  if 0x100000 ≤ a && a < 0x106000 then !p.cand (inst 0x100000 0x400)
  else if 0x110000 ≤ a && a < 0x11c000 then p.nCh ≤ inst 0x110000 0x1000
  else if 0x120000 ≤ a && a < 0x120c00 then p.nCh ≤ inst 0x120000 0x100
  else if 0x130800 ≤ a && a < 0x132800 then p.nSyn ≤ inst 0x130800 0x800
  else if 0x140000 ≤ a && a < 0x141800 then p.nOut ≤ inst 0x140000 0x100
  else if 0x158000 ≤ a && a < 0x158c00 then p.nCh ≤ inst 0x158000 0x100
  else if 0x200000 ≤ a && a < 0x210000 then p.nLane ≤ inst 0x200000 0x4000
  else if 0x210000 ≤ a && a < 0x220000 then !p.pte
  else if 0x240000 ≤ a && a < 0x240800 then p.vaultMB = 0
  else false

/-- A register: its block, the instance, the row and the member of the row. -/
structure RegRef where
  id : BlkId
  i : Nat
  row : RegRow
  k : Nat
deriving DecidableEq, Repr

/-- The row of a list that holds the offset `o`. -/
def rowAt (rows : List RegRow) (o : Nat) : Option (RegRow × Nat) :=
  (rows.find? (fun r => r.off ≤ o && (o - r.off) % r.step = 0 && (o - r.off) / r.step < r.cnt)).map
    (fun r => (r, (o - r.off) / r.step))

/-- What a word address names (R353). -/
inductive Decoded where
  | reserved | absent | reg (r : RegRef)
deriving DecidableEq, Repr

/-- Decoding of a 4-aligned address below the alias region. -/
def Part.decodeWord (p : Part) (a : Nat) : Decoded :=
  if p.absentAt a then .absent else
  match blks.find? (fun b => b.base ≤ a && a < b.base + b.stride * b.cnt) with
  | none => .reserved
  | some b =>
    let i := (a - b.base) / b.stride
    let o := (a - b.base) % b.stride
    if p.variant = .c1624 && b.id = .hlk && 0x40 ≤ o then .reserved else
    match rowAt b.rows o with
    | none => .reserved
    | some (r, k) => .reg ⟨b.id, i, r, k⟩

/-- A field of the register is latched, staged or held in three copies (R357). -/
def Acc.whole (a : Acc) : Bool := match a with
  | .rwTv | .rweTv | .lRo | .hRo | .lRw | .hRw | .lRwe | .hRwe => true
  | .rw | .ro | .rc | .wp | .rwe => false

/-- The data ports (R357). -/
def RegRef.dataPort (r : RegRef) : Bool := match r.id with
  | .qmgQ => 0x30 ≤ r.row.off
  | .tim => r.row.off = TIM_CAL_DATA.row.off
  | .ind => r.row.off = 0x08
  | _ => false

/-- A whole-word register (R357); STG_RST_CTRL is one by name (R437). -/
def RegRef.wholeWord (r : RegRef) : Bool :=
  r.row.flds.any (fun f => f.acc.whole) || r.dataPort || (r.id = .stg && r.row.off = STG_RST_CTRL.row.off)

/-- The register holds an RC field. -/
def RegRef.hasRc (r : RegRef) : Bool := r.row.flds.any (fun f => f.acc = .rc)

/-- The register's byte address. -/
def RegRef.addr (r : RegRef) : Nat := match r.row.flds with | f :: _ => f.addr r.i r.k | [] => 0

/-- The bit-alias region (R365). -/
def aliasAddr (a : Nat) : Bool := 0x40000000 ≤ a && a < 0x48000000

/-- The register address and the bit that an alias address names (R365). -/
def aliasOf (a : Nat) : Nat × Nat := (((a - 0x40000000) / 128) * 4, (a - 0x40000000) % 128 / 4)

/-! ## Executors and bus errors (R354, R355, R359) -/

/-- The source code of an executor in IDB_BUSERR_STAT; executors are numbered in the order of R359: 0 SPI class 0, 1 in-band
class 0, 2 SPI classes 1 to 3, 3 in-band classes 1 to 3. -/
def exSource (ex : Nat) : Nat := [1, 3, 0, 2].getD ex 0

def beReserved : Nat := 0
def beAbsent : Nat := 1
def beUnaligned : Nat := 2
def beByteEnable : Nat := 3
def beAlias : Nat := 4
def beUnavailable : Nat := 6
def beDataPort : Nat := 7

/-- A bus error counted and raised; the first since the last read is recorded (R355). Log entry 81 (DEDUCED). -/
def Core.busErr (c : Core) (ex cause addr : Nat) : Core :=
  let c := if c.rdB IDB_BUSERR_STAT.valid then c else
    (((c.wr IDB_BUSERR_STAT.valid 1).wr IDB_BUSERR_STAT.cause cause).wr IDB_BUSERR_STAT.source (exSource ex)).wr
      IDB_BUSERR_ADDR.addr addr
  (c.bump IDB_BUSERR_STAT.count).raise 47 (exSource ex)

/-- What a command does that stands for a write of the register at `a` by executor `ex`; a bus error where the variant lacks the
unit (R4). Log entry 148 (DESIGN CHOICE). -/
def Core.atReg (c : Core) (ex a : Nat) (f : Core → Core) : Core :=
  if c.part.absentAt a then c.busErr ex beAbsent a else f c

/-- An executor of classes 1 to 3 waits for a window's access; that of class 0 is never held (R372). Log entry 82 (DEDUCED). -/
def Core.indWaits (c : Core) (ex : Nat) : Bool :=
  decide (2 ≤ ex) && (List.range 4).any (fun n =>
    let w := c.inds.get {} n
    w.acc.any (fun x => x.ex = ex) || w.more.any (fun x => x.1 = ex))

/-- What a command does that stands for the access `x` of an executor, which keeps the access while it waits for a window
(R372). Log entry 82 (DEDUCED). -/
def Core.heldOr (c : Core) (x : BusAcc) (f : Core → Core) : Core :=
  if c.indWaits x.ex then { c with exHeld := c.exHeld ++ [x] } else f c

/-- The executor of a command that names none: SPI classes 1 to 3. Log entry 148 (DESIGN CHOICE). -/
def exHost : Nat := 2

end Sys2Proof.Machine
end

