-- ==== Sys2Proof/Machine/Settle.lean ====
section
/-! DEFINITION. The Firn front, its pages and the store engine (R441 to R449), and the lifting of an operation to a command's
meaning: what a command writes into the front lands there whole, its store requests are judged, and the engine takes up its
next page. -/

namespace Sys2Proof.Machine

/-! ## Pages and requests -/

def Core.page (c : Core) (p : Nat) : Page := c.firnU.pages.get {} p
def Core.setPage (c : Core) (p : Nat) (x : Page) : Core :=
  { c with firnU := { c.firnU with pages := c.firnU.pages.set {} p x } }

/-- The dirty pages from `first` to `last`, ascending. -/
def Core.dirtyPages (c : Core) (first last : Nat) : List Nat :=
  ((c.firnU.pages.filter (fun e => e.2.dirty && first ≤ e.1 && e.1 ≤ last)).map Prod.fst)

/-- Pages whose host writes are refused (R442). -/
def pageProt (p : Nat) : Bool := p < 130 || 254 ≤ p

/-- Copy X is newer than copy Y (R441). -/
def seqNewer (x y : Nat) : Bool :=
  let d := (x + (2 ^ 32 - y % 2 ^ 32)) % 2 ^ 32
  1 ≤ d && d < 2 ^ 31

/-- The newer valid copy of a page: 0 A, 1 B. -/
def Page.newer (x : Page) : Option Nat :=
  if x.aOk && x.bOk then some (if seqNewer x.seqB x.seqA then 1 else 0)
  else if x.aOk then some 0 else if x.bOk then some 1 else none

/-- The sequence number of the newer valid copy; 0 where there is none. -/
def Page.seq (x : Page) : Nat :=
  match x.newer with
  | some 0 => x.seqA
  | some _ => x.seqB
  | none => 0

/-- Bytes written into the front, least address first (R153, R443). -/
def Core.frontWrite (c : Core) (addr : Nat) (l : List Byte) : Core :=
  { c with firnOut := c.firnOut ++ (List.range l.length).map (fun i => (addr + i, l.getD i 0#8)) }

/-- Bytes written into Tile memory (0) or the Vault (1), by address; a burst of the Vault written whole is no longer
poisoned, a Tile word written no longer bad (R315, R319, R321). Log entry 119 (DEDUCED). -/
def Core.memPut (c : Core) (mem : Nat) (l : List (Nat × Byte)) : Core :=
  let kept := fun (w : Nat) => mem ≠ 0 || !l.any (fun e => e.1 / 16 = w)
  let whole := fun (a : Nat) => mem ≠ 0 && (List.range 64).all (fun j => l.any (fun w => w.1 = a + j))
  { c with
    memOut := c.memOut ++ l.map (fun w => (mem, w.1, w.2))
    memU := { c.memU with poison := c.memU.poison.filter (fun a => !whole a), badT := c.memU.badT.filter kept } }

/-! ## The ports of a Tile bank (R312 to R314) -/

/-- The port of a master (R312). Log entry 90 (DEDUCED). -/
def tilePort (master : Nat) : Nat := if master < 3 then 0 else 1

/-- The master that a port serves among those that ask for one bank, each with the cycles that it has waited: a guaranteed
background slot first, else the longest wait, ties going to the lower index (R313). Log entry 90 (DEDUCED). -/
def tileServed (slot : Option Nat) (asks : List (Nat × Nat)) : Option Nat :=
  match slot.filter (fun m => asks.any (fun e => e.1 = m)) with
  | some m => some m
  | none =>
    (asks.foldl (fun (b : Option (Nat × Nat)) e =>
      match b with
      | none => some e
      | some x => if x.2 < e.2 || (x.2 = e.2 && e.1 < x.1) then some e else b) none).map Prod.fst

/-- What the two ports' accesses of one word in one cycle come to: which are performed, and what the master of port 1, or of
port 0, is told. -/
structure PortMeet where
  /-- Port 0's access is performed, with defined data. -/
  did0 : Bool
  /-- Port 1's access is performed. -/
  did1 : Bool
  /-- Port 0's read returns undefined data marked RD_COLL. -/
  rdColl : Bool := false
  /-- Port 1's master receives BUSY and repeats its access. -/
  busy : Bool := false
  /-- Port 1's master receives WR_COLL; its write is lost. -/
  wrColl : Bool := false
deriving DecidableEq, Repr

/-- Port 0 and port 1 access one word in one cycle; `w0` and `w1` say which write (R314). Log entry 90 (DEDUCED). -/
def portMeet (w0 w1 : Bool) : PortMeet :=
  match w0, w1 with
  | false, false => { did0 := true, did1 := true }
  | true, true => { did0 := true, did1 := false, wrColl := true }
  | false, true => { did0 := false, did1 := false, rdColl := true, busy := true }
  | true, false => { did0 := true, did1 := false, busy := true }

/-- The counters of TMC_COLL after `n` such meetings (R314, R327). Log entry 90 (DEDUCED). -/
def Core.portCount (c : Core) (x : PortMeet) (n : Nat := 1) : Core :=
  let c := c.on x.wrColl (fun c => c.bump TMC_COLL.wr 0 0 n)
  let c := c.on x.busy (fun c => c.bump TMC_COLL.busy 0 0 n)
  c.on x.rdColl (fun c => c.bump TMC_COLL.rd 0 0 n)

/-- One cycle of a port of bank `b`: the master served, and each other that waits counted in its TMC_CONF (R313).
Log entry 90 (DEDUCED). -/
def Core.tileCycle (c : Core) (b : Nat) (slot : Option Nat) (asks : List (Nat × Nat)) : Core × Option Nat :=
  let m := tileServed slot asks
  (c.each (asks.filter (fun e => some e.1 ≠ m)) (fun c e => c.bump TMC_CONF.count 0 (16 * e.1 + b)), m)

/-- A hardware master writes Tile words, each by its number. A window's access that waits for one of their banks asks
for it in the same cycle, and has waited longer: on the same port the other master waits, on the other port the two meet
at a word that both name (R313, R314). Log entry 90 (DEDUCED). -/
def Core.tileMeet (c : Core) (master : Nat) (words : List Nat) : Core :=
  c.each (List.range 4) fun c n =>
    let w := c.inds.get {} n
    match w.acc with
    | none => c
    | some x =>
      let b := x.addr / 131072
      if x.space ≠ 0 || !words.any (fun v => v / 8192 = b) then c
      else if tilePort master = tilePort 5 then (c.tileCycle b none [(master, 0), (5, 1)]).1
      else if !words.contains (x.addr / 16) then c
      else
        let m := portMeet true x.write
        let c := c.portCount m
        if m.wrColl then { c with inds := c.inds.set {} n { w with acc := some { x with lost := true } } } else c

def Core.setMemU (c : Core) (u : MemU) : Core := { c with memU := u }

/-! ## Banks under test (R316) -/

/-- Every access to bank `b` receives BUSY: it is under a destructive test on request (R316). -/
def Core.bankBusy (c : Core) (b : Nat) : Bool :=
  c.rd TMC_STAT.state = 1 && c.memU.tDestr && bitOf c.memU.tBanks b

/-- An access to bank `b` under a preserving test: it receives BUSY while it meets the row under test, how
often is not stated: a free value (R316). Log entry 90 (DEDUCED). -/
def Core.rowBusy (c : Core) (b : Nat) : Core :=
  if c.rd TMC_STAT.state = 1 && !c.memU.tDestr && bitOf c.memU.tBanks b then
    let f := c.fresh
    f.2.bump TMC_COLL.busy 0 0 f.1
  else c

/-- Tile words are written whole, each by its number: an injection armed for one of them takes effect in it, and one in a word
written before is gone (R485). Log entry 78 (DEDUCED). -/
def Core.tileWrote (c : Core) (words : List Nat) : Core :=
  let t := c.rd FLT_INJ_TGT.tgt / 16
  let c := c.setMemU { c.memU with injT := c.memU.injT.filter (fun v => !words.contains v.1) }
  if !c.injArmed 50 (c.rd FLT_INJ_TGT.tgt) || !words.contains t then c
  else c.injFired.setMemU { c.memU with injT := some (t, c.rd FLT_INJ_CFG.inv) }

/-- A hardware master's write of Tile memory; one that meets a bank under a destructive test repeats until the test ends, how
often is a free value (R314, R316). Log entry 90 (DEDUCED). -/
def Core.tilePut (c : Core) (master : Nat) (l : List (Nat × Byte)) : Core :=
  let banks := (l.map (fun e => e.1 / 131072)).eraseDups
  let words := (l.map (fun e => e.1 / 16)).eraseDups
  if banks.any c.bankBusy then
    let f := c.fresh
    (f.2.bump TMC_COLL.busy 0 0 (1 + f.1)).setMemU { c.memU with tWait := c.memU.tWait ++ [(master, l)] }
  else (((c.each banks Core.rowBusy).tileMeet master words).tileWrote words).memPut 0 l

/-- The writes that waited for the end of a test are made (R316). Log entry 90 (DEDUCED). -/
def Core.tileRepeat (c : Core) : Core :=
  (c.setMemU { c.memU with tWait := [] }).each c.memU.tWait fun c w => c.tilePut w.1 w.2

/-- A request for a store (R444). Log entry 32 (DEDUCED). -/
def Core.storeAsk (c : Core) (kind first last : Nat) : Core :=
  { c with firnU := { c.firnU with asked := c.firnU.asked ++ [⟨kind, first, last⟩] } }

/-- The outcome of a store of the Mortar loader, for the loader to take up: 0 stored, 1 failed, 2 refused, which sets
store_deferred (R401). A store that a reset has kept is the loader's no longer (R432). Log entry 33 (DEDUCED). -/
def Core.storeTold (c : Core) (kind res : Nat) : Core :=
  if c.mtl.storing.isSome && (kind = 2 || kind = 3) then
    ({ c with firnU := { c.firnU with done := c.firnU.done ++ [(kind, res)] } }).wr MTL_STAT.store_deferred (b2n (res = 2))
  else c

/-- One request judged: refused where 4 wait already, or where it is rate-limited and a dirty page of it has no token,
the directory that the loader is about to write among them (R401, R444, R446). An idle engine takes a request up at
once, so that it does not wait. -/
def Core.storeJudge (c : Core) (r : StoreReq) : Core :=
  let full := 4 ≤ c.firnU.waiting.length
  let poor := r.kind ≤ 3 && ((c.dirtyPages r.first r.last).any (fun p => (c.page p).tokens = 0) ||
    (r.kind = 3 && c.firnU.dirNew.isSome && (c.page 128).tokens = 0))
  if full || poor then
    let c := (c.wr FRN_EVENT.deferred 1).bump FRN_DEFER_CNT.count
    let c := c.on (r.kind = 1) (fun c => c.wr GLC_STORE_STAT.deferred 1)
    c.storeTold r.kind 2
  else
    let idle := c.firnU.run.isNone && c.firnU.waiting.isEmpty
    { c with firnU := { c.firnU with
      run := if idle then some { req := r, next := r.first } else c.firnU.run
      waiting := if idle then [] else c.firnU.waiting ++ [r] } }

/-- The requests of this command judged in order. Log entry 94 (DEDUCED). -/
def Core.storeJudgeAll (c : Core) : Core :=
  let l := c.firnU.asked
  ({ c with firnU := { c.firnU with asked := [] } }).each l Core.storeJudge

/-- The store in progress ends (R445, R447). Log entry 33 (DEDUCED). -/
def Core.storeEnd (c : Core) (x : StoreRun) : Core :=
  let c := { c with firnU := { c.firnU with run := none } }
  let c := c.on (!x.fail && !x.abort) (fun c => c.wr FRN_EVENT.store_done 1)
  let c := c.on (x.req.kind = 7) (fun c => c.wr FRN_EVENT.key_done 1)
  c.storeTold x.req.kind (if x.fail || x.abort then 1 else 0)

/-- The registers that follow from the engine's state (R465, R433), and the Glacier's dirty bit (R153). -/
def Core.firnRegs (c : Core) : Core :=
  let u := c.firnU
  let tal := !u.tq.isEmpty
  let st := match u.run with
    | some x => if x.req.kind = 5 then 2 else 1
    | none => if tal then 3 else 0
  let c := c.wr FRN_STAT.state st
  let c := c.wr FRN_STAT.waiting u.waiting.length
  let c := c.wr FRN_STAT.page ((u.run.bind StoreRun.page).getD 0)
  let c := c.wr FRN_STAT.dirty (c.dirtyPages 0 255).length
  let c := c.on (u.run.isNone) (fun c => c.wr STG_STAT.store_busy 0)
  let p := c.rd GLC_STORE_CFG.page
  c.on (!(c.page p).dirty && !(c.page (p + 1)).dirty) (fun c => c.wr GLC_STORE_STAT.dirty 0)

/-! ## The engine with its memories -/

/-- The bytes that this command writes into the front land; a byte that changes makes its page dirty (R443). -/
def Dev.frontLand (d : Dev) : Dev :=
  let d1 := d.core.firnOut.foldl (fun (d : Dev) ab =>
    if d.mem.firn.get 0#8 ab.1 = ab.2 then d
    else { core := d.core.setPage (ab.1 / 1024) { d.core.page (ab.1 / 1024) with dirty := true },
           mem := { d.mem with firn := d.mem.firn.set 0#8 ab.1 ab.2 } }) d
  { d1 with core := { d1.core with firnOut := [] } }

/-- A page copied into the page buffer, its dirty mark cleared (R445 step 1). -/
def Dev.pageTake (d : Dev) (x : StoreRun) (p : Nat) : Dev :=
  let c := d.core.setPage p { d.core.page p with dirty := false }
  { core := { c with firnU := { c.firnU with run := some { x with page := some p, next := p + 1 } } },
    mem := { d.mem with pbuf := (AMap.setRange 0#8 [] 0 1024 (fun i => d.mem.firn.get 0#8 (1024 * p + i))) } }

/-- The loader's directory is written into the front when its store begins (R401, R432). Log entry 94 (DEDUCED). -/
def Dev.dirLand (d : Dev) (x : StoreRun) : Dev :=
  match d.core.firnU.dirNew with
  | none => d
  | some b =>
    if x.req.kind ≠ 3 then d else
    let c := d.core
    let old := (List.range b.length).map (fun i => d.mem.firn.get 0#8 (131072 + i))
    Dev.frontLand { d with core := { c.frontWrite 131072 b with firnU := { c.firnU with dirNew := none, dirOld := old } } }

/-- The next tally increment begins where no page is in progress (R454, R463). Log entry 94 (DEDUCED). -/
def Core.tallyPump (c : Core) : Core :=
  let u := c.firnU
  if u.tGo || u.tq.isEmpty || (u.run.bind StoreRun.page).isSome then c else { c with firnU := { u with tGo := true } }

/-- The engine takes up work: the next request, then its next page, which waits for a tally increment that has begun; a store
with no page left is complete (R445). `n` bounds the requests begun and ended on the way. Log entry 94 (DEDUCED). -/
def Dev.storePump : Nat → Dev → Dev
  | 0, d => d
  | n + 1, d =>
    match d.core.firnU.run with
    | none =>
      match d.core.firnU.waiting with
      | [] => d
      | r :: rest =>
        Dev.storePump n { d with core := { d.core with
          firnU := { d.core.firnU with waiting := rest, run := some { req := r, next := r.first } } } }
    | some x =>
      if x.page.isSome then d
      else if x.abort then Dev.storePump n { d with core := d.core.storeEnd x }
      else
        let d := d.dirLand x
        let cand := if x.req.kind = 5 then (if x.next = x.req.first then [x.req.first] else [])
          else (d.core.dirtyPages x.next x.req.last).filter (fun p => x.skip ≠ some p)
        match cand with
        | p :: _ => if d.core.firnU.tGo then d else d.pageTake x p
        | [] => Dev.storePump n { d with core := d.core.storeEnd x }

/-- The contents of a Tile bank, or of the Vault (16), become undefined: nothing of them is known (R316, R427).
Log entry 6 (DESIGN CHOICE). -/
def Mem.forget (m : Mem) (k : Nat) : Mem :=
  let m := { m with gens := m.gens.set 0 k (m.gens.get 0 k + 1) }
  if k < 16 then { m with tile := m.tile.filter (fun e => e.1 / 131072 ≠ k) } else { m with vault := [] }

/-- What this command makes undefined is forgotten, and the bytes that it writes into Tile memory and the Vault land. -/
def Dev.memLand (d : Dev) : Dev :=
  let d : Dev := { core := { d.core with memLost := [] }, mem := d.core.memLost.foldl Mem.forget d.mem }
  let m := d.core.memOut.foldl (fun (m : Mem) w =>
    if w.1 = 0 then { m with tile := m.tile.set none w.2.1 (some w.2.2) }
    else { m with vault := m.vault.set none w.2.1 (some w.2.2) }) d.mem
  { core := { d.core with memOut := [] }, mem := m }

/-- What every command ends with: its memory writes land, its store requests are judged, the store engine goes on.
Log entry 10 (DESIGN CHOICE). -/
def Dev.settle (d : Dev) : Dev :=
  let d := d.frontLand.memLand
  let c := d.core.storeJudgeAll.tallyPump
  let d := Dev.storePump (2 * c.firnU.waiting.length + 2) { d with core := c }
  { d with core := d.core.firnRegs }

/-! ## A command's meaning -/

/-- An item put in its place among the items that start with it: by the producer's register address, then by record type,
and after those it ties with (R299). Log entry 55 (DEDUCED). -/
def Item.insertBy (x : Item) : List Item → List Item
  | [] => [x]
  | y :: r => if x.addr < y.addr || (x.addr = y.addr && x.rtype < y.rtype) then x :: y :: r else y :: x.insertBy r

/-- The items that this command starts, in the order of the merge stage, behind the `n` that waited before it (R299) and the
held ones that it lets go, which keep the order of their production (R521). Log entry 55 (DEDUCED). -/
def Core.outOrder (c : Core) (n : Nat) : Core :=
  let l := c.outbox.drop n
  { c with outbox := c.outbox.take n ++ l.filter (fun x => x.epoch.isSome) ++
      (l.filter (fun x => x.epoch.isNone)).foldl (fun l x => x.insertBy l) [] }

/-- The four words of QMG_NOTICE. -/
def Core.noticeWords (c : Core) : List Nat := (List.range 4).map (fun k => c.rd QMG_NOTICE.pend 0 k)

/-- A notice bit that rises builds a queue notice where none is pending, and is kept for the next one where one is
(R344). -/
def Core.noticeEval (c : Core) (old : List Nat) : Core :=
  let now := c.noticeWords
  let rise := (List.range 4).any (fun k => now.getD k 0 &&& (2 ^ 32 - 1 - old.getD k 0) ≠ 0)
  if !rise || !c.rdB HLK_CFG.qn_en then c
  else if c.host.qn.isSome then { c with host := { c.host with qnRise := true } }
  else { c with host := { c.host with qn := some (now.flatMap (bytesLE 4)), qnRise := false } }

/-- One operation whole: what it writes lands, its items take their order, and its notice bits are seen.
Log entry 10 (DESIGN CHOICE). -/
def Dev.act (f : Dev → Dev) (d : Dev) : Dev :=
  let e := (f d).settle
  { e with core := (e.core.outOrder d.core.outbox.length).noticeEval d.core.noticeWords }

/-- An operation on the part with its memories, as a command's meaning: the waiting commands stay as they are. -/
def onDev (f : Dev → Dev) (s : State) : Out := .next { s with dev := s.dev.act f }

/-- An operation that touches no memory, as a command's meaning. -/
def onCore (f : Core → Core) (s : State) : Out := onDev (fun d => { d with core := f d.core }) s

/-- An operation of a block that the internal reset holds: without effect while it does (R418). Log entry 9 (DEDUCED). -/
def onRun (f : Dev → Dev) (s : State) : Out := onDev (fun d => if d.core.inReset then d else f d) s

/-- The same for an operation that touches no memory. Log entry 9 (DEDUCED). -/
def onRunCore (f : Core → Core) (s : State) : Out := onRun (fun d => { d with core := f d.core }) s

end Sys2Proof.Machine
end

