-- ==== Sys2Proof/Machine/Firn.lean ====
section
/-! DEFINITION. Firn and Frost (R441 to R467): stores, recall, refresh, the key page, the tally counters, Frost time, its
comparators and WAKE_N, and the meanings of their commands. -/

namespace Sys2Proof.Machine

/-! ## Stores and refresh -/

/-- FRN_STORE_GO: a host request for the dirty pages from `first` to `last` (R444). -/
def frnStoreGoStep (first last : BitVec 8) (c : Core) : Core :=
  let c := (c.wr FRN_STORE_CTRL.first first.toNat).wr FRN_STORE_CTRL.last last.toNat
  c.storeAsk 0 first.toNat last.toNat

/-- FRN_STORE_ABORT, with its outcome as R369 gives it: the page in progress completes and the store then ends (R447).
`completing` says that the pulse falls in the completion cycle. The Boolean result tells whether an operation was ended,
and `none` that the outcome is unchanged. -/
def Core.storeAbort (c : Core) (completing : Bool) : Core × Nat :=
  match c.firnU.run with
  | some x =>
    if 3 < x.req.kind || x.abort then (c, 0)
    else if completing then (c.wr FRN_STAT.abort_st 2, 2)
    else ({ c.wr FRN_STAT.abort_st 1 with firnU := { c.firnU with run := some { x with abort := true } } }, 1)
  | none => (c, 0)

def frnStoreAbortStep (completing : Bool) (c : Core) : Core := (c.storeAbort completing).1

/-- The CRC-32C of a copy: over its data, its sequence number and its page number (R441). Log entry 134 (DEDUCED). -/
def pageCrc (data : List Byte) (seq page : Nat) : Nat := crc32c (data ++ bytesLE 4 seq ++ bytesLE 4 page)

/-- Copy A or B of page `p` passes its CRC (R441). Log entry 134 (DEDUCED). -/
def Dev.copyOk (d : Dev) (p : Nat) (b : Bool) : Bool :=
  let x := d.core.page p
  let m := if b then d.mem.shadowB else d.mem.shadowA
  (if b then x.crcB else x.crcA) = some (pageCrc ((List.range 1024).map (fun k => m.get 0#8 (1024 * p + k)))
    (if b then x.seqB else x.seqA) p)

/-- PAGE_STORED: the copy not written last is programmed from the page buffer and verified; `fail` says that it failed
twice (R445). A page stored uses a token where one is present (R446). -/
def pageStoredStep (fail : Bool) (d : Dev) : Dev :=
  match d.core.firnU.run with
  | none => d
  | some x =>
    match x.page with
    | none => d
    | some p =>
      let pg := d.core.page p
      let toA := pg.last ≠ 0
      let seq := (pg.seq + 1) % 2 ^ 32
      let mem := if toA
        then { d.mem with shadowA := d.mem.shadowA.setRange 0#8 (1024 * p) 1024 (fun k => d.mem.pbuf.get 0#8 (k - 1024 * p)) }
        else { d.mem with shadowB := d.mem.shadowB.setRange 0#8 (1024 * p) 1024 (fun k => d.mem.pbuf.get 0#8 (k - 1024 * p)) }
      let crc := if fail then none else some (pageCrc ((List.range 1024).map (fun k => d.mem.pbuf.get 0#8 k)) seq p)
      let pg := if toA then { pg with aOk := !fail, aWeak := fail, aBlank := false, seqA := seq, crcA := crc }
        else { pg with bOk := !fail, bWeak := fail, bBlank := false, seqB := seq, crcB := crc }
      let pg := if fail then { pg with dirty := true }
        else { pg with last := if toA then 0 else 1, tokens := pg.tokens - 1 }
      let c := d.core.setPage p pg
      let c := { c with firnU := { c.firnU with run := some { x with page := none, fail := x.fail || fail } } }
      let c := if fail then (c.wr FRN_EVENT.store_fail 1).raise 61 p else c.bump FRN_STORE_CNT.count
      { core := c, mem := mem }

/-- TOKEN_ACCRUAL: every bucket gains a token, up to 64 (R446). -/
def tokenAccrualStep (c : Core) : Core :=
  c.each (List.range 256) (fun c p => c.setPage p { c.page p with tokens := min 64 ((c.page p).tokens + 1) })

/-- REFRESH_READ: copy A or B of a page read at margin; `weak` says that it fails the margin read and `crcBad` that it
fails its CRC, as a torn copy does. A failed copy of a clean page is refreshed by a store of the page. After a power
loss the reads begin when Course is reported (R449). -/
def refreshReadStep (page : Fin 256) (b weak crcBad : Bool) (c : Core) : Core :=
  if !c.rdB FRN_CFG.refresh_en || c.firnU.cold then c else
  let p := page.val
  let x := c.page p
  let erased := if b then x.bBlank else x.aBlank
  if erased then c else
  let bad := crcBad || (if b then x.crcB else x.crcA).isNone
  let c := c.setPage p (if b then { x with bWeak := weak, bOk := !bad } else { x with aWeak := weak, aOk := !bad })
  let c := c.on bad (fun c => (c.wr FRN_EVENT.copy_bad 1).raise 63)
  if (weak || bad) && !x.dirty then c.storeAsk 5 p p else c

/-! ## Recall (R448) -/

/-- The recall of one page after a loss of content: the copy loaded, if any, and the page's state. Log entry 33
(DEDUCED). -/
def Page.recall (x : Page) : Page :=
  let x := { x with dirty := false, tokens := 8 }
  match x.newer with
  | some k => { x with recalled := k, last := 1 - k }
  | none => if x.aBlank && x.bBlank then { x with recalled := 2, last := 1 } else { x with recalled := 3, last := 1 }

/-- The copies of page `p` as the recall reads them: one is valid that its last read found so and whose CRC passes (R441).
Log entry 134 (DEDUCED). -/
def Dev.copyRead (d : Dev) (p : Nat) (x : Page) : Page :=
  { x with aOk := x.aOk && d.copyOk p false, bOk := x.bOk && d.copyOk p true }

/-- The front recalled from the shadow where core_lost or frost_por says so; then both clear (R448). -/
def Dev.recall (d : Dev) : Dev :=
  let c := d.core
  if !c.rdB FRS_W_STAT.core_lost && !c.rdB FRS_W_STAT.frost_por then d else
  let c := { c with firnU := { c.firnU with pages := c.firnU.pages.mapVals {} (fun p x => (d.copyRead p x).recall), lost := true, cold := true } }
  let sel := fun k (e : Nat × Byte) => (c.page (e.1 / 1024)).recalled = k
  let front := (AMap.puts 0#8 [] (d.mem.shadowA.filter (sel 0))).puts 0#8 (d.mem.shadowB.filter (sel 1))
  let c := (c.wr FRS_W_STAT.core_lost 0).wr FRS_W_STAT.frost_por 0
  let c := c.on (c.firnU.pages.any (fun e => e.2.recalled = 3)) (fun c => c.wr FRN_EVENT.recall_lost 1)
  { core := c, mem := { d.mem with firn := front } }

/-- The pages that the recall lost, where none has told of them yet (R448); FS62 is raised for them at Footing.
Log entry 120 (DEDUCED). -/
def Core.lostPages (c : Core) : List Nat :=
  if c.firnU.lost then (c.firnU.pages.filter (fun e => e.2.recalled = 3)).map Prod.fst else []

/-! ## Tally counters (R453 to R455) -/

def Core.tally (c : Core) (k : Nat) : Tally := c.firnU.tallies.get {} k
def Core.setTally (c : Core) (k : Nat) (x : Tally) : Core :=
  { c with firnU := { c.firnU with tallies := c.firnU.tallies.set {} k x } }

/-- H: the greater of the valid copies of the high part. -/
def Tally.high (x : Tally) : Nat := max (x.ha.getD 0) (x.hb.getD 0)

/-- k: the programmed cells of the active row. -/
def Tally.cells (x : Tally) : Nat := if x.high % 2 = 0 then x.u0 else x.u1

/-- The counter's value (R453); a failed counter reads 0xFFFF_FFFF (R455). -/
def Tally.value (x : Tally) : Nat := if x.failed then 0xFFFFFFFF else 16 * x.high + x.cells

/-- The active row at `k` cells; the other row is left. -/
def Tally.setRow (x : Tally) (k : Nat) : Tally := if x.high % 2 = 0 then { x with u0 := k } else { x with u1 := k }

/-- The other row at `k` cells. -/
def Tally.setOther (x : Tally) (k : Nat) : Tally := if x.high % 2 = 0 then { x with u1 := k } else { x with u0 := k }

/-- The copy H_A is torn. -/
def Tally.torn (x : Tally) : Tally := { x with ha := none }

/-- An increment complete: the next cell programmed, or the carry into the high part and the other row (R454). -/
def Tally.inc (x : Tally) : Tally :=
  if x.cells < 16 then x.setRow (x.cells + 1)
  else
    let h := x.high + 1
    { x with ha := some h, hb := some h, u0 := if h % 2 = 0 then 1 else 0, u1 := if h % 2 = 0 then 0 else 1 }

/-- What an interruption can leave of an increment in progress, by the moment `n` of the interruption (R455).
Log entries 4 (DESIGN CHOICE), 71 (DESIGN CHOICE). -/
def Tally.interrupted (x : Tally) (n : Nat) : Tally :=
  let h := x.high
  if x.cells < 16 then (if n % 2 = 0 then x else { x with cellPart := true })
  else
    let moved := { x with ha := some (h + 1), u0 := if h % 2 = 0 then 16 else 0, u1 := if h % 2 = 0 then 0 else 16 }
    match n % 7 with
    | 0 => x
    | 1 => { x with rowPart := true }
    | 2 => (x.setOther 0).torn
    | 3 => moved
    | 4 => { moved with hb := none }
    | 5 => { moved with hb := some (h + 1), cellPart := true }
    | _ => { (Tally.setRow { moved with hb := some (h + 1) } 1) with rowPart := true }

/-- The upkeep at a release: each state that an interruption can leave is completed, and any other marks the counter failed
(R455). -/
def Tally.upkeep (x : Tally) : Tally :=
  let x := { x with upkept := false }
  let whole := !x.cellPart && !x.rowPart
  let other := if x.high % 2 = 0 then x.u1 else x.u0
  let fail := { x with failed := true }
  match x.ha, x.hb with
  | some a, some b =>
    if a = b then
      if x.cellPart then
        (if x.rowPart || x.cells = 16 then fail
         else { (x.setRow (x.cells + 1)) with cellPart := false, upkept := true })
      else if x.rowPart then { (x.setOther 0) with rowPart := false, upkept := true }
      else x
    else if a = b + 1 && whole && x.cells = 0 then { x with hb := some a, upkept := true }
    else fail
  | none, some b =>
    if whole && x.cells = 16 && other = 0 then { x with ha := some (b + 1), hb := some (b + 1), upkept := true } else fail
  | some a, none => if whole && x.cells = 0 then { x with hb := some a, upkept := true } else fail
  | none, none => fail

/-- The upkeep of every counter; a counter that fails raises FS64 with its number (R455). -/
def Core.tallyUpkeep (c : Core) : Core :=
  let c := { c with firnU := { c.firnU with tallies := c.firnU.tallies.mapVals {} (fun _ x => x.upkeep) } }
  c.each (c.firnU.tallies.filter (fun e => e.2.failed)) (fun c e => (c.wr FRN_EVENT.tally_fail 1).raise 64 e.1)

/-- The oscillator age in days (R139). -/
def Core.glcAge (c : Core) : Rat :=
  ((((c.tally (c.rd GLC_AGE_CFG.tally)).value : Int) - c.ageBase : Int) : Rat) + (c.secInDay : Rat) / 86400

/-- GLC_AGE follows the tally and the seconds of the day (R139): whole days and 1/256 days. Log entry 146 (DESIGN CHOICE). -/
def Core.ageRegs (c : Core) : Core :=
  let a := c.glcAge
  let n := (a * 256).floor.toNat
  (c.wr GLC_AGE.days (min (2 ^ 24 - 1) (n / 256))).wr GLC_AGE.frac (n % 256)

/-- TALLY_INC: an increment is requested; increments follow one another (R454, R463). A failed counter refuses. -/
def Core.tallyInc (c : Core) (k : Nat) : Core :=
  if (c.tally k).failed then c else { c with firnU := { c.firnU with tq := c.firnU.tq ++ [k] } }

def tallyIncStep (k : Fin 32) (c : Core) : Core := c.tallyInc k

/-- TALLY_INC_DONE: the cell of the increment in progress is programmed, where it is this counter's; GLC_AGE reads A with it
(R139, R454). -/
def tallyIncDoneStep (k : Fin 32) (c : Core) : Core :=
  if !c.firnU.tGo || c.firnU.tq.head? ≠ some k.val then c else
  let c := c.setTally k (c.tally k).inc
  Core.ageRegs { c with firnU := { c.firnU with tq := c.firnU.tq.tail, tGo := false } }

/-! ## Loss of power -/

/-- VDD_CORE below the retention level: the front has lost its content; a copy being programmed is torn, requests are lost,
the tally increment in progress is cut off at a moment the spec does not give, and those not begun are lost (R448, R455,
R457). -/
def Dev.coreLost (d : Dev) : Dev :=
  let c := d.core.wr FRS_W_STAT.core_lost 1
  let c := match c.firnU.run.bind StoreRun.page with
    | none => c
    | some p =>
      let x := c.page p
      c.setPage p (if x.last ≠ 0 then { x with aOk := false, aBlank := false, crcA := none }
        else { x with bOk := false, bBlank := false, crcB := none })
  let c := c.each (if c.firnU.tGo then c.firnU.tq.take 1 else []) fun c k =>
    let r := c.fresh
    r.2.setTally k ((c.tally k).interrupted r.1)
  { d with core := { c with
    firnU := { c.firnU with run := none, waiting := [], asked := [], done := [], tq := [], tGo := false, cold := true }, inReset := true } }

/-! ## The key page (R451, R452) -/

def keyPageBase : Nat := 129 * 1024

/-- The content of page 129: flags, key and check value, zeros, and the CRC. -/
def keyPage (pol : Bool) (key : Option (List Byte)) : List Byte :=
  let fl := b2n key.isSome + 2 * b2n pol
  let k := key.getD (List.replicate 32 0#8)
  let kcv := match key with
    | some k => (hmac256 k (List.replicate 32 0#8)).take 4
    | none => List.replicate 4 0#8
  let body := [0x4B#8, 0x01#8, BitVec.ofNat 8 fl, 0#8] ++ k ++ kcv ++ List.replicate 980 0#8
  body ++ bytesLE 4 (crc32c body)

/-- Bytes of the front. -/
def Mem.front (m : Mem) (addr n : Nat) : List Byte := (List.range n).map (fun i => m.firn.get 0#8 (addr + i))

/-- The key that page 129 holds, where it is valid (R451). -/
def Mem.key (m : Mem) : Option (List Byte) :=
  let p := m.front keyPageBase 1024
  if fieldLE p 0 1 = 0x4B && fieldLE p 1 1 = 1 && fieldLE p 1020 4 = crc32c (p.take 1020) && bitOf (fieldLE p 2 1) 0
  then some ((p.drop 4).take 32) else none

/-- The policy bit of a valid page 129. -/
def Mem.policy (m : Mem) : Bool :=
  let p := m.front keyPageBase 1024
  fieldLE p 0 1 = 0x4B && fieldLE p 1 1 = 1 && fieldLE p 1020 4 = crc32c (p.take 1020) && bitOf (fieldLE p 2 1) 1

/-- The key registers follow the page. -/
def Core.keyRegs (c : Core) (pol : Bool) (key : Option (List Byte)) : Core :=
  let c := (c.wrB FRN_KEY_STAT.key_set key.isSome).wrB FRN_KEY_STAT.policy pol
  c.wr FRN_KEY_KCV.kcv (match key with
    | some k => beVal ((hmac256 k (List.replicate 32 0#8)).take 4)
    | none => 0)

/-- Page 129 written and stored, not rate-limited; requester 7 where the key is provisioned (R451, R452). -/
def Core.keyStore (c : Core) (pol : Bool) (key : Option (List Byte)) (kind : Nat := 4) : Core :=
  ((c.frontWrite keyPageBase (keyPage pol key)).keyRegs pol key).storeAsk kind 129 129

/-- A refused write of FRN_KEY_CTRL (R452). -/
def Core.keyRefuse (c : Core) : Core :=
  c.reject FRN_CFG_REJECT.valid FRN_CFG_REJECT.count FRN_CFG_REJECT.word 0x14

/-- PROVISION: with the confirm code and no key set, the key words become the key page, which is stored at once; the words
clear, and key_done follows the store (R451, R452). -/
def provisionStep (confirm : BitVec 16) (c : Core) : Core :=
  if confirm.toNat ≠ 0x4B59 || c.rdB FRN_KEY_STAT.key_set then c.keyRefuse else
  let key := (List.range 8).flatMap (fun k => bytesBE 4 (c.rd FRN_KEY_W.key 0 k))
  let c := c.keyStore (c.rdB FRN_KEY_STAT.policy) (some key) 7
  c.each (List.range 8) (fun c k => c.wr FRN_KEY_W.key 0 0 k)

/-- POLICY: with the confirm code and a key set, the policy bit, page 129 stored and MTL_CFG.auth_req at 1 (R452). -/
def policyStep (confirm : BitVec 16) (d : Dev) : Dev :=
  let c := d.core
  if confirm.toNat ≠ 0x4B59 || !c.rdB FRN_KEY_STAT.key_set then { d with core := c.keyRefuse } else
  { d with core := (c.keyStore true d.mem.key).wrTv MTL_CFG.auth_req 1 }

/-- ZEROISE: with the confirm code and no policy, the key and key_set clear and page 129 is stored (R452). -/
def zeroiseStep (confirm : BitVec 16) (c : Core) : Core :=
  if confirm.toNat ≠ 0x4B59 || c.rdB FRN_KEY_STAT.policy then c.keyRefuse else c.keyStore false none

/-! ## Frost (R456 to R461) -/

/-- Frost time in phase units, each subsecond count worth 2,000,000,000 (R39). -/
def Core.frostTime (c : Core) : Nat :=
  (c.rd FRS_W_SEC_LO.sec_lo + c.rd FRS_W_SEC_HI.sec_hi * 2 ^ 32) * secPU + c.rd FRS_W_SUB.sub * 2000000000

/-- The core-side mirrors of Frost (R458, R466). -/
def Core.frostMirror (c : Core) : Core :=
  let s := stamp96 c.frostTime
  let c := c.wr FRS_TIME_FRAC.frac (bits s 15 0)
  let c := c.wr FRS_TIME_NS.ns (bits s 47 16)
  let c := c.wr FRS_TIME_SEC_LO.sec_lo (bits s 79 48)
  let c := c.wr FRS_TIME_SEC_HI.sec_hi (bits s 95 80)
  let c := c.wr FRS_STAT.time_valid (c.rd FRS_W_STAT.time_valid)
  let c := c.wr FRS_STAT.xtal_ok (c.rd FRS_W_STAT.xtal_ok)
  let lv := c.rd FRS_W_CMP_STAT.levels
  let c := c.wrB FRS_STAT.vhold_ok (bitOf lv 3)
  let c := c.wrB STG_STAT.vhold_ok (bitOf lv 3)
  let c := c.wrB FRS_STAT.vfrost_ok (bitOf lv 2)
  let c := c.wrB FRS_STAT.aux_high (bitOf lv 1)
  let c := c.wrB FRS_STAT.temp_high (bitOf lv 0)
  c.wr FRS_STAT.trim (c.rd FRS_W_TRIM.trim)

/-- Frost time set to a count of seconds and subseconds. -/
def Core.frostSet (c : Core) (sec sub : Nat) : Core :=
  let c := c.wr FRS_W_SEC_LO.sec_lo (sec % 2 ^ 32)
  let c := c.wr FRS_W_SEC_HI.sec_hi (sec / 2 ^ 32)
  c.wr FRS_W_SUB.sub sub

/-- The committed time loads at a tick, valid (R458). -/
def Core.frostLoad (c : Core) : Core :=
  match c.frost.commit with
  | none => c
  | some t =>
    let c := Core.frostSet { c with frost := { c.frost with commit := none } } t.1 t.2
    ((c.wr FRS_W_STAT.time_valid 1).wr FRS_EVENT.time_set 1).frostMirror

/-- Frost has counted crystal cycles since it was last looked at, fewer than the rest of its second: how many is time's,
a free value; a committed time loads at the first of them (R456, R458). Log entry 120 (DEDUCED). -/
def Core.frostFlow (c : Core) : Core :=
  if !c.rdB FRS_W_STAT.xtal_ok then c else
  let f := c.fresh
  let n := f.1 % (32768 - c.rd FRS_W_SUB.sub)
  if n = 0 then f.2 else
  let m := if c.frost.commit.isSome then n - 1 else n
  let c := f.2.frostLoad
  let sub := c.rd FRS_W_SUB.sub
  (c.wr FRS_W_SUB.sub (sub + m % (32768 - sub))).frostMirror

/-- A wake event bit (R461). -/
def Core.wake (c : Core) (b : Nat) : Core := c.wrBit FRS_W_WAKE_STAT.ev b true

/-- WAKE_N is low while an enabled wake event bit is 1 (R461). -/
def Core.wakeLow (c : Core) : Bool := c.rd FRS_W_WAKE_STAT.ev &&& c.rd FRS_W_WAKE_CFG.en ≠ 0

/-- FROST_SECOND: the seconds roll over and are compared with the alarm, and a committed time loads after that (R458, R461,
R463); without the crystal nothing counts.
Log entry 120 (DEDUCED). -/
def frostSecondStep (c : Core) : Core :=
  if !c.rdB FRS_W_STAT.xtal_ok then c else
  let sec := (c.rd FRS_W_SEC_LO.sec_lo + c.rd FRS_W_SEC_HI.sec_hi * 2 ^ 32 + 1) % 2 ^ 48
  let c := c.frostSet sec 0
  let c := c.on (sec = c.rd FRS_W_ALARM_LO.al_lo + c.rd FRS_W_ALARM_HI.al_hi * 2 ^ 32) (fun c => c.wake 4)
  let c := c.frostLoad
  ({ c with frost := { c.frost with held := false } } : Core).frostMirror

/-- XTAL_FAIL: xtal_ok and time_valid clear, the counter stops, FS65 while the core is powered (R456). -/
def xtalFailStep (c : Core) : Core :=
  let c := ((c.frostFlow.wr FRS_W_STAT.xtal_ok 0).wr FRS_W_STAT.time_valid 0).frostMirror
  if c.inReset then c else (c.wr FRS_EVENT.xtal_fail 1).raise 65

/-- XTAL_RESTART: counting resumes from the value held (R456). -/
def xtalRestartStep (c : Core) : Core := (c.wr FRS_W_STAT.xtal_ok 1).frostMirror

/-- CORE_LOST: the supply of the core falls below the retention level; the front's content is lost (R457). -/
def coreLostStep (d : Dev) : Dev := d.coreLost

/-- FROST_TIME_COMMIT: a write to FRS_W_SET_SEC_HI commits the time that the three registers hold (R458). -/
def frostTimeCommitStep (hi : BitVec 16) (c : Core) : Core :=
  let c := c.wr FRS_W_SET_SEC_HI.sec_hi hi.toNat
  let sec := c.rd FRS_W_SET_SEC_LO.sec_lo + hi.toNat * 2 ^ 32
  { c with frost := { c.frost with commit := some (sec, c.rd FRS_W_SET_SUB.sub), held := true } }

/-- FROST_TIME_LOAD: at the next tick the committed time loads (R458). -/
def frostTimeLoadStep (c : Core) : Core := if !c.rdB FRS_W_STAT.xtal_ok then c else c.frostLoad

/-- Frost time is compared with device time: FRS_SYNC_CFG.en, and STEERED or HOLDOVER (R459). Log entry 120 (DEDUCED). -/
def Core.frostCompares (c : Core) : Bool :=
  let src := c.rd STG_DT_STAT.src
  c.rdB FRS_SYNC_CFG.en && (src = srcSteered || src = srcHoldover) && c.rdB FRS_W_STAT.xtal_ok

/-- The error of a comparison, ns: the first that a window knows is its start (R459). Log entry 120 (DEDUCED). -/
def FrostU.compared (x : FrostU) (e : Int) : FrostU :=
  if x.win.isNone then { x with win := some e } else { x with err := some e }

/-- FROST_SYNC: the comparison at the tick that brings the subsecond to `sub`; beyond tol ticks Frost takes device time at
the next tick, rounded to the nearest tick. A host commit of the same second prevails, and that second has no sync (R459).
Log entry 120 (DEDUCED). -/
def frostSyncStep (sub : BitVec 15) (c : Core) : Core :=
  if !c.frostCompares || c.frost.commit.isSome || c.frost.held then c
  else
    let c := c.wr FRS_W_SUB.sub sub.toNat
    let err : Int := (c.frostTime : Int) - c.now
    let c := c.wrS FRS_SYNC_ERR.err (roundR16 ((err : Rat) / 65536))
    let c := { c with frost := c.frost.compared (c.rdS FRS_SYNC_ERR.err) }
    let tol := max 1 (c.rd FRS_SYNC_CFG.tol)
    if decide (err.natAbs ≤ tol * 2000000000) then c.frostMirror
    else
      let t := c.now + 2000000000
      let n := (roundR16 (((t % secPU : Nat) : Rat) / 2000000000)).toNat
      let c := c.frostSet ((t / secPU + n / 32768) % 2 ^ 48) (n % 32768)
      let left : Int := (c.frostTime : Int) - t
      let c := { c with frost := { c.frost with stepped := true, err := some (roundR16 ((left : Rat) / 65536)) } }
      ((c.wr FRS_W_STAT.time_valid 1).wr FRS_EVENT.sync_step 1).frostMirror

/-- TRIM_WINDOW: with auto_trim, at the end of a window without a step, the trim that would have cancelled the rate
error measured over it; one unit is a tick in 2^20 ticks, 976,562.5 ns in 1,024 s. A window in which Frost has not been compared
twice, or at whose end it is not compared, measures no rate. The next window starts from the last error compared, after a step
the one that it leaves (R459). Log entry 120 (DEDUCED). -/
def trimWindowStep (c : Core) : Core :=
  let c1 :=
    match c.frost.win, c.frost.err with
    | some e0, some e1 =>
      if c.rdB FRS_SYNC_CFG.auto_trim && c.frostCompares && !c.frost.stepped then
        ((c.wrS FRS_W_TRIM.trim (c.rdS FRS_W_TRIM.trim - roundR16 (((e1 - e0 : Int) : Rat) * 2 / 1953125))).wr
          FRS_EVENT.trim_set 1).frostMirror
      else c
    | _, _ => c
  { c1 with frost := { c1.frost with win := c.frost.err, err := none, stepped := false } }

/-- VHOLD below 3.0 V in Coping (R436). Log entry 68 (DEDUCED). -/
def Core.vholdCheck (c : Core) : Core :=
  if c.rdB STG_STAT.vhold_ok || c.vholdTold || c.rd STG_STAT.stage ≠ 3 then c else
  ({ c with vholdTold := true }.wr STG_EVENT.vhold_low 1).raise 60

/-- FROST_POR: every Frost register at its reset value, frost_por among them; the seconds latched and the executors'
shadows of the alarm clear with it (R456, R467). -/
def frostPorStep (c : Core) : Core :=
  let c := rowsFRSW.foldl (fun c r => c.clrRow r) c
  let sh := (List.range 4).foldl (fun m ex => m.set 0 (exKey ex (FRS_W_ALARM_HI.al_hi.addr 0 0)) 0) c.shadow
  let c := ({ c with frost := {}, shadow := sh } : Core).frostMirror
  c.on (!c.inReset) Core.vholdCheck

/-- The threshold of comparator `k`, in 0.1 mV or 0.1 °C (R460). Log entry 142 (DESIGN CHOICE). -/
def Core.cmpThr (c : Core) (k : Nat) : Int :=
  match k with
  | 0 => 6000 + 100 * c.rd FRS_W_CMP_CFG.core_thr
  | 1 => 30000
  | 2 => 15000 + 500 * c.rd FRS_W_CMP_CFG.vfrost_thr
  | 3 => 4000 + 250 * c.rd FRS_W_CMP_CFG.aux_thr
  | _ => 10 * c.rdS FRS_W_CMP_CFG.temp_thr

/-- The output of comparator `k` for an input of `v`, in 0.1 mV or 0.1 °C, where it reads `old`: with a hysteresis of 2 % of the
threshold for a voltage, which has to rise by it to be good again, and of 2 K for the temperature (R460).
Log entry 142 (DESIGN CHOICE). -/
def Core.cmpOut (c : Core) (k : Nat) (old : Bool) (v : Int) : Bool :=
  let t := c.cmpThr k
  if k = 4 then decide (t < v) || (old && decide (t - 20 < v))
  else if old then decide (t ≤ v) else decide (t + t / 50 ≤ v)

/-- COMPARATOR_SAMPLE: comparator 0 core_ok, 1 vhold_ok, 2 vfrost_ok, 3 aux_high or 4 temp_high samples the input `v`, in 0.1 mV
or 0.1 °C; crossings set the wake events and raise FS66 and FS67, and FS60 in Coping, while the core is powered (R436, R460,
R461). Log entry 120 (DEDUCED). -/
def comparatorSampleStep (k : Fin 5) (v : Int) (c : Core) : Core :=
  let b := 4 - k.val
  let old := bitOf (c.rd FRS_W_CMP_STAT.levels) b
  let level := c.cmpOut k.val old v
  let c := (c.wrBit FRS_W_CMP_STAT.levels b level).frostMirror
  if k.val = 1 then c.on (!c.inReset) Core.vholdCheck
  else if old = level then c
  else match k.val with
  | 0 => if level then c.wake 0 else c
  | 2 => if level then c else (c.wake 3).on (!c.inReset) (fun c => c.raise 66)
  | 3 => if level = c.rdB FRS_W_CMP_CFG.aux_pol then c.wake 1 else c
  | _ => if level then (c.wake 2).on (!c.inReset) (fun c => c.raise 67) else c

/-! ## The meanings of the commands -/

/-- FRN_STORE_GO (R444). -/
def execFrnStoreGo (first last : BitVec 8) (s : State) : Out := onRunCore (frnStoreGoStep first last) s

/-- FRN_STORE_ABORT (R447). -/
def execFrnStoreAbort (completing : Bool) (s : State) : Out := onRunCore (frnStoreAbortStep completing) s

/-- PAGE_STORED (R445). -/
def execPageStored (fail : Bool) (s : State) : Out := onDev (pageStoredStep fail) s

/-- TOKEN_ACCRUAL (R446). -/
def execTokenAccrual (s : State) : Out := onCore tokenAccrualStep s

/-- REFRESH_READ (R449). -/
def execRefreshRead (page : Fin 256) (b weak crcBad : Bool) (s : State) : Out := onRunCore (refreshReadStep page b weak crcBad) s

/-- PROVISION (R451). -/
def execProvision (confirm : BitVec 16) (s : State) : Out := onRunCore (provisionStep confirm) s

/-- POLICY (R452). -/
def execPolicy (confirm : BitVec 16) (s : State) : Out := onRun (policyStep confirm) s

/-- ZEROISE (R452). -/
def execZeroise (confirm : BitVec 16) (s : State) : Out := onRunCore (zeroiseStep confirm) s

/-- TALLY_INC (R454). -/
def execTallyInc (k : Fin 32) (s : State) : Out := onRunCore (tallyIncStep k) s

/-- TALLY_INC_DONE (R454). -/
def execTallyIncDone (k : Fin 32) (s : State) : Out := onCore (tallyIncDoneStep k) s

/-- FROST_SECOND (R461). -/
def execFrostSecond (s : State) : Out := onCore frostSecondStep s

/-- XTAL_FAIL (R456). -/
def execXtalFail (s : State) : Out := onCore xtalFailStep s

/-- XTAL_RESTART (R456). -/
def execXtalRestart (s : State) : Out := onCore xtalRestartStep s

/-- FROST_POR (R456). -/
def execFrostPor (s : State) : Out := onCore frostPorStep s

/-- CORE_LOST (R457). -/
def execCoreLost (s : State) : Out := onDev coreLostStep s

/-- FROST_TIME_COMMIT (R458). -/
def execFrostTimeCommit (hi : BitVec 16) (s : State) : Out := onRunCore (frostTimeCommitStep hi) s

/-- FROST_TIME_LOAD (R458). -/
def execFrostTimeLoad (s : State) : Out := onCore frostTimeLoadStep s

/-- FROST_SYNC (R459). -/
def execFrostSync (sub : BitVec 15) (s : State) : Out := onRunCore (frostSyncStep sub) s

/-- TRIM_WINDOW (R459). -/
def execTrimWindow (s : State) : Out := onCore trimWindowStep s

/-- COMPARATOR_SAMPLE (R460). -/
def execComparatorSample (k : Fin 5) (v : Int) (s : State) : Out := onCore (comparatorSampleStep k v) s

end Sys2Proof.Machine
end

