-- ==== Sys2Proof/Machine/Numeric.lean ====
section
/-! DEFINITION. The numbers the engines compute with (R66, R97, R133, R142, R156, R169, R170): the exponential, the natural
logarithm, the square root and 2π as the spec names them, each within 2^-40 of its true value, the error itself free, and
the whole number at which a product is held. -/

namespace Sys2Proof.Machine

/-- The whole number at which an internal value is held: the value itself where it is whole, else the one below or above it.
Log entry 5 (DESIGN CHOICE): which of the two is free. -/
def roundFree (q : Rat) : Int := if q.den = 1 then q.num else q.floor + b2n (Config.roundUp q)

/-- `v`, the value of the internal function `k` at `x`, as the part holds it: within 2^-40 of it, relatively.
Log entry 5 (DESIGN CHOICE): the bound is the model's, the error below it is free. -/
def asHeld (k : Nat) (x v : Rat) : Rat := v * (1 + (clampI (-65536) 65536 (Config.numErr k x) : Rat) / 2 ^ 56)

/-- The first `n` terms of Σ `y^j / j!` from the term `t` with index `j`. -/
def expTerms (y : Rat) : Nat → Nat → Rat → Rat
  | 0, _, _ => 0
  | n + 1, j, t => t + expTerms y n (j + 1) (t * y / ((j : Rat) + 1))

/-- e^`y` for `y` ≥ 0, as the power of a series with an argument of at most 1. -/
def expPos (y : Rat) : Rat :=
  let n := max 1 y.ceil.toNat
  expTerms (y / n) 32 0 1 ^ n

/-- The first `n` terms of Σ `t^(2j+1) / (2j+1)` from the power `p` with index `j`. -/
def artanhTerms (t : Rat) : Nat → Nat → Rat → Rat
  | 0, _, _ => 0
  | n + 1, j, p => p / (2 * (j : Rat) + 1) + artanhTerms t n (j + 1) (p * t * t)

/-- ln `x` for `x` ≥ 1: the power of two below it, and the series for what is left. -/
def lnAbove (x : Rat) : Rat :=
  let n := x.floor.toNat.log2
  let ln := fun m : Rat => 2 * artanhTerms ((m - 1) / (m + 1)) 40 0 ((m - 1) / (m + 1))
  n * ln 2 + ln (x / 2 ^ n)

/-- exp(`x`) (R66, R142, R169). Log entry 5 (DESIGN CHOICE). -/
def numExp (x : Rat) : Rat := asHeld 0 x (if x < 0 then 1 / expPos (-x) else expPos x)

/-- ln(`x`) (R133, R156); the rules give no value where `x` is not positive: there it is free. Log entry 5 (DESIGN
CHOICE). -/
def numLn (x : Rat) : Rat :=
  if 0 < x then asHeld 1 x (if x < 1 then -(lnAbove (1 / x)) else lnAbove x) else (Config.numErr 4 x : Rat)

/-- √`x` (R170, R177); the rules give no value where `x` is negative: there it is free. Log entry 5 (DESIGN CHOICE). -/
def numSqrt (x : Rat) : Rat :=
  let v := x.num.toNat * x.den * 2 ^ 128
  if x < 0 then (Config.numErr 5 x : Rat) else asHeld 2 x ((rootBits 2 v (v.log2 / 2 + 1) 0 : Rat) / (x.den * 2 ^ 64))

/-- 2π (R66, R97, R169). Log entry 5 (DESIGN CHOICE). -/
def num2Pi : Rat := asHeld 3 0 (6283185307179586476925286766559 / 10 ^ 30)

end Sys2Proof.Machine
end

