-- ==== Sys2Proof/Machine/PalOps.lean ====
section
/-! DEFINITION. The CLK_EVENT record (R213) and the states of the pulse aligners (R206 to R208), which follow the candidates
that they use. -/

namespace Sys2Proof.Machine

/-! ## Candidates as others see them -/

/-- A channel may use a QUALIFIED or DEGRADING candidate (R72). -/
def Core.usable (c : Core) (i : Nat) : Bool := c.rd REF_STATE.state i = 3 || c.rd REF_STATE.state i = 4

/-- TIME candidates: REF by choice, RCK never, PKT always (R60). -/
def Core.candIsTime (c : Core) (i : Nat) : Bool :=
  if i < 16 then c.rdB REF_CFG.ctype i else 20 ≤ i

/-! ## CLK_EVENT (R213) -/

def kcNone : Nat := 0
def kcStart : Nat := 1
def kcCalDone : Nat := 2
def kcLock : Nat := 3
def kcLockLost : Nat := 4
def kcRefLost : Nat := 5
def kcLoLost : Nat := 6
def kcHost : Nat := 7
def kcRetry : Nat := 8
def kcReturn : Nat := 9
def kcCommit : Nat := 10
def kcDisable : Nat := 11
def kcCfgInvalid : Nat := 12
def kcCandLost : Nat := 13
def kcClock : Nat := 14
def kcBlockReset : Nat := 15

/-- The first address of the block that writes a CLK_EVENT: 0 RS, 1 SYN, 2 OUT, 3 PA (R299, R25). -/
def clkAddr (unit i : Nat) : Nat :=
  match unit with
  | 0 => 0x130000
  | 1 => 0x130800 + i * 0x800
  | 2 => 0x140000 + i * 0x100
  | _ => 0x150000 + i * 0x40

/-- A CLK_EVENT record (R213); the source of its stream is 0 (R385). Log entry 37 (DEDUCED). -/
def Core.clkEvent (c : Core) (unit i new old cause : Nat) : Core :=
  c.emit 0x28 0 (clkAddr unit i)
    [packWord [(109, 108, unit), (107, 103, i), (102, 100, new), (99, 97, old), (96, 93, cause)], stamp96 c.now]

/-! ## Edge placement (R205) -/

/-- One TSCLK period, 1.6 ns, and 1/256 of it, in phase units. -/
def tsclkPU : Rat := 1048576 / 10
def edgeUnit : Rat := 4096 / 10

/-- The instant at which an edge generator places an edge that is due at `q`: rounded to 1/256 of a TSCLK period (R205). -/
def placeEdge (q : Rat) : Rat := (roundR16 (q / edgeUnit) : Rat) * edgeUnit

/-! ## Pulse aligners (R206, R208) -/

def paOff : Nat := 0
def paWait : Nat := 1
def paRun : Nat := 2
def paHold : Nat := 3
def paStopped : Nat := 4

def Core.pa (c : Core) (a : Nat) : Pa := c.pal.pas.get {} a
def Core.setPa (c : Core) (a : Nat) (x : Pa) : Core := { c with pal := { c.pal with pas := c.pal.pas.set {} a x } }
def Core.paState (c : Core) (a : Nat) : Nat := c.rd PAL_PA_STAT.state a

/-- O as a signed number of phase units. -/
def Core.paOffs (c : Core) (a : Nat) : Int := toS 48 (c.rd PAL_PA_OFFS_LO.offs_lo a + c.rd PAL_PA_OFFS_HI.offs_hi a * 2 ^ 32)

/-- The offset limit: 0.5 s. -/
def offsMax : Int := 32768000000000

/-- The configuration of an aligner is valid (R206). W × 1.6 ns ≤ P − 3.2 ns is compared in units of 0.1 ns. -/
def Core.paValid (c : Core) (a : Nat) : Bool :=
  let p := c.rd PAL_PA_PERIOD.period a
  let w := c.rd PAL_PA_WIDTH.width a
  let src := c.rd PAL_PA_CFG.src a
  let mode := c.rd PAL_PA_CFG.mode a
  32 ≤ p && 1000000000 % p = 0 && 2 ≤ w && 16 * w + 32 ≤ 10 * p && decide ((c.paOffs a).natAbs ≤ offsMax.natAbs) &&
    (match mode with
      | 0 => true
      | 1 => src < 24 && c.part.cand src && c.candIsTime src
      | 2 => src < 16 && c.rd REF_CFG.mode src = 2
      | _ => false) &&
    (!c.rdB PAL_PA_CFG.tod_en a || p = 1000000000)

/-- W in phase units. -/
def Core.paWidth (c : Core) (a : Nat) : Rat := (c.rd PAL_PA_WIDTH.width a : Rat) * tsclkPU

/-- The edge that ends the high phase in progress: what is left to fire when an aligner stops. It is the trailing edge of the
pulse, and with pol = 1, where TSCLK stops, the next leading edge (R203, R208). Log entry 42 (DEDUCED). -/
def Core.paFall (c : Core) (a : Nat) (stop : Bool) : List (Rat × Bool) :=
  let x := c.pa a
  if stop && c.rdB PAL_PA_CFG.pol a then
    (if x.high then [] else match x.edges with
      | (e, true) :: _ => [(e, true)]
      | _ => [])
  else
  if !x.high then []
  else match x.edges with
    | (e, false) :: _ => [(e, false)]
    | _ => (x.trail.map (fun (l : Int) => ((l : Rat) + c.paWidth a, false))).toList

/-- PAL_LOW: a PAL-sourced output whose source is held low (R208, R216). -/
def Core.palLow (c : Core) : Core :=
  c.each (List.range 24) fun c o =>
    let p := c.rd OUT_CFG.pal_src o
    c.wrB OUT_STAT.pal_low (c.rdB OUT_CFG.src o && (if p < 8 then c.paState p = paStopped else !c.pclk)) o

/-- An aligner takes a state with a cause (R208). -/
def Core.paGoto (c : Core) (a new cause : Nat) : Core :=
  let old := c.paState a
  let c := c.wr PAL_PA_STAT.cause cause a
  if new = old then c else
  let c := c.wr PAL_PA_STAT.state new a
  let c := c.on (new = paRun) (fun c => c.wr PAL_PA_EVENT.run 1 a)
  let c := c.on (new = paHold) (fun c => (c.wr PAL_PA_EVENT.hold 1 a).raise 27 a)
  let c := c.on (new = paStopped) (fun c => c.wr PAL_PA_EVENT.stopped 1 a)
  let x := c.pa a
  let stop := { x with pos := none, trail := none, edges := c.paFall a (new = paStopped), tod := none }
  let c := if new = paOff then c.setPa a { edges := stop.edges, high := x.high, rise := x.rise, fall := x.fall, took := x.took } else if new = paStopped || new = paWait then c.setPa a stop
    else c
  let c := c.on (new = paOff || new = paStopped || new = paWait)
    (fun c => (c.wr PAL_PA_STAT.slewing 0 a).wr PAL_PA_RESID.resid 0 a)
  (c.clkEvent 3 a new old cause).palLow

/-- The change of state that an aligner's conditions ask for (R208, R417). HOLD of a COMPANION aligner starts and ends with
the companion's stamps. -/
def Core.palEval (c : Core) (a : Nat) : Core :=
  let st := c.paState a
  if c.inRst.contains (4, a) then c
  else if !c.rdB PAL_PA_CFG.en a then (if st = paOff then c else c.paGoto a paOff kcDisable)
  else if !c.paValid a then c.paGoto a paOff kcCfgInvalid
  else if !c.estRun then c
  else
    let c := if st = paOff then c.paGoto a paWait kcStart else c
    let st := c.paState a
    if !c.pclk then (if st = paStopped then c else c.paGoto a paStopped kcClock)
    else if st = paStopped then c.paGoto a paWait kcClock
    else if c.rd PAL_PA_CFG.mode a = 1 then
      let ok := c.usable (c.rd PAL_PA_CFG.src a)
      if st = paRun && !ok then c.paGoto a paHold kcCandLost
      else if st = paHold && ok then c.paGoto a paRun kcReturn
      else c
    else c

/-- Every aligner evaluated. -/
def Core.palEvalAll (c : Core) : Core := c.each (List.range 8) Core.palEval

end Sys2Proof.Machine
end

