-- ==== Sys2Proof/Machine/Ref.lean ====
section
/-! DEFINITION. Reference inputs and watch estimators (R60 to R92): the estimator, the qualifier, quality levels and the
comparison of candidates, and the meanings of their commands. -/

namespace Sys2Proof.Machine

/-! ## States and causes (R72, R92) -/

def csDisabled : Nat := 0
def csNoSignal : Nat := 1
def csObserving : Nat := 2
def csQualified : Nat := 3
def csDegrading : Nat := 4
def csDisqualified : Nat := 5

def ccNone : Nat := 0
def ccNotStarted : Nat := 1
def ccHostDisabled : Nat := 2
def ccTach : Nat := 3
def ccCfgInvalid : Nat := 4
def ccNoActivity : Nat := 5
def ccOverrun : Nat := 6
def ccPulseWidth : Nat := 7
def ccFreqWindow : Nat := 8
def ccQlFloor : Nat := 9
def ccForced : Nat := 10
def ccDrift : Nat := 11
def ccWtr : Nat := 12
def ccQualTimer : Nat := 13
def ccBlockReset : Nat := 14

/-- The hidden state of a candidate. -/
def Core.cand (c : Core) (i : Nat) : Cand := c.cands.get {} i

/-- The hidden state of a candidate replaced. -/
def Core.setCand (c : Core) (i : Nat) (x : Cand) : Core := { c with cands := c.cands.set {} i x }

/-- The candidate's state code. -/
def Core.candState (c : Core) (i : Nat) : Nat := c.rd REF_STATE.state i

/-- The estimator runs in the running states (R30). -/
def candRunning (st : Nat) : Bool := 2 ≤ st && st ≤ 5

/-- f_nom in units of 1/256 Hz: the host's for a REF, the lane mode's for an RCK (R64). Log entry 144 (DESIGN CHOICE). -/
def Core.candNom (c : Core) (i : Nat) : Nat :=
  if i < 16 then c.rd REF_NOM_LO.nom_lo i + c.rd REF_NOM_HI.nom_hi i * 2 ^ 32
  else if i < 20 then
    match c.rd ETH_CFG.mode (i - 16) with
    | 0 => 0x099AB10C80
    | 1 => 0x12A05F2000
    | _ => 0x0773594000
  else 0

/-- The pre-divider N: the host's for a REF, the lane mode's for an RCK, 1 for a PKT (R63, R64, R92).
Log entry 144 (DESIGN CHOICE). -/
def Core.candPrediv (c : Core) (i : Nat) : Nat :=
  if i < 16 then c.rd REF_PREDIV.prediv i
  else if i < 20 then
    match c.rd ETH_CFG.mode (i - 16) with
    | 0 => 125
    | 1 => 250
    | _ => 100
  else 1

/-- The nominal stamp period T in phase units: N × 65,536 × 10^9 / f_nom (R66), or the update period of the PKT's servo
(R71), 2^log_upd s. Log entry 144 (DESIGN CHOICE). -/
def Core.candPeriod (c : Core) (i : Nat) : Rat :=
  if i < 20 then (c.candPrediv i : Rat) * secPU * 256 / (c.candNom i : Rat)
  else (secPU : Rat) * (2 : Rat) ^ (c.rdS PTE_SV_CFG.log_upd (i - 20))

/-- The configuration of a REF candidate is valid (R62, R63, R67); RCK and PKT candidates are fixed. -/
def Core.candValid (c : Core) (i : Nat) : Bool :=
  if 16 ≤ i then true else
  let f := c.candNom i
  let n := c.candPrediv i
  c.rd REF_CFG.mode i ≤ 3 && f ≠ 0 && n ≠ 0 && decide (f ≤ 2500000 * 256 * n) &&
    (!c.candIsTime i || (n = 1 && f % 256 = 0 && 1000000000 % (f / 256) = 0))

/-- Why a candidate is DISABLED, if it is (R72, R73). Log entry 96 (DESIGN CHOICE). -/
def Core.candDisabled (c : Core) (i : Nat) : Option Nat :=
  if (c.cand i).inReset then some ccBlockReset
  else if !c.estRun then some ccNotStarted
  else if !c.rdB REF_CFG.en i then some ccHostDisabled
  else if i < 16 && c.rd REF_CFG.mode i = 3 then some ccTach
  else if !c.candValid i then some ccCfgInvalid
  else none

/-- The failing check of a running candidate, if any (R63, R76, R77, R84, R73). A pulse-width failure stands until a stamp
ends it, whatever pw_en then reads. Log entries 97 (DESIGN CHOICE), 122 (DESIGN CHOICE). -/
def Core.candFailing (c : Core) (i : Nat) : Option Nat :=
  let x := c.cand i
  if c.rdB REF_CTRL.force_disq i then some ccForced
  else if x.overrun then some ccOverrun
  else if 2 ≤ x.pwRun then some ccPulseWidth
  else if x.rejHit || (c.candState i = csDisqualified && x.freqBad) then some ccFreqWindow
  else if c.rdB REF_QL_CFG.ql_en i && decide (c.rd REF_QL_CFG.floor i < c.rd REF_STATE.ql_rank i) then some ccQlFloor
  else none

/-! ## Registers of the estimate (R66, R70, R92) -/

/-- The nearest integer to the square root of `q`, ties upward. -/
def roundSqrt (q : Rat) : Nat :=
  let r := Nat.sqrt q.floor.toNat
  if ((r : Rat) + 1 / 2) * ((r : Rat) + 1 / 2) ≤ q then r + 1 else r

/-- round(4 × log2 √q), limited to 0–255, and 0 for √q below 1: the count of the codes k with √q ≥ 2^((2k − 1)/8). -/
def stabLog (q : Rat) : Nat :=
  if q < 1 then 0
  else ((List.range 256).filter (fun k => decide (1 ≤ k) && decide ((2 : Rat) ^ (2 * k - 1) ≤ q ^ 4))).length

/-- The mean square of the residuals kept, in phase units squared (R70). Log entry 18 (DEDUCED). -/
def Cand.noiseSq (x : Cand) : Rat :=
  if x.resid.isEmpty then 0
  else (x.resid.foldl (fun a r => a + r * r) 0 : Int) / ((2 : Rat) ^ 64 * x.resid.length)

/-- Filtered phase in phase units, rounded (R16). -/
def Cand.phase (x : Cand) : Int := roundR16 ((x.phi : Rat) / 2 ^ 32)

/-- The phase, frequency and stability registers of a candidate (R92). Log entry 143 (DESIGN CHOICE). -/
def Core.candRegs (c : Core) (i : Nat) : Core :=
  let x := c.cand i
  let c := c.wrPair REF_PHASE_LO.phase_lo REF_PHASE_HI.phase_hi (clampI (-(2 ^ 47)) (2 ^ 47 - 1) x.phase) i
  let c := c.wrPair REF_FREQ_LO.freq_lo REF_FREQ_HI.freq_hi (clampI (-(2 ^ 63)) (2 ^ 63 - 1) x.y) i
  let c := c.wrU REF_STAB.noise (roundSqrt x.noiseSq) i
  c.wr REF_STAB.stab_log (stabLog x.noiseSq) i

/-! ## Changes of state (R73, R74, R91) -/

/-- A CAND_EVENT record of a change of state (R91). -/
def Core.candEvent (c : Core) (i old : Nat) : Core :=
  c.emit 0x10 i (REF_CFG.en.addr i 0)
    [packWord [(109, 105, i), (104, 102, c.candState i), (101, 99, old), (98, 95, c.rd REF_STATE.cause i),
      (94, 91, c.rd REF_STATE.ql_rank i), (90, 83, c.rd REF_STATE.phase_epoch i),
      (82, 82, c.rd REF_STATE.disagree i), (81, 81, c.rd REF_STATE.outvoted i)],
     stamp96 c.now]

/-- The key of a pair of candidates. -/
def pairKey (a b : Nat) : Nat := if a < b then 24 * a + b else 24 * b + a

/-- Whether a pair is marked as disagreeing (R85). -/
def Core.disagree (c : Core) (a b : Nat) : Bool := a ≠ b && (c.pairs.get {} (pairKey a b)).marked

/-- Whether a kind of comparison runs for a pair: its limit is non-zero in both, and phases only between TIME candidates
(R85). -/
def Core.freqRuns (c : Core) (a b : Nat) : Bool := c.rd REF_DIS_CFG.freq_lim a ≠ 0 && c.rd REF_DIS_CFG.freq_lim b ≠ 0
def Core.phaseRuns (c : Core) (a b : Nat) : Bool :=
  c.rd REF_DIS_CFG.phase_lim a ≠ 0 && c.rd REF_DIS_CFG.phase_lim b ≠ 0 && c.candIsTime a && c.candIsTime b

/-- A pair is compared while both are usable and some kind runs (R85). -/
def Core.compared (c : Core) (a b : Nat) : Bool :=
  a ≠ b && c.usable a && c.usable b && (c.freqRuns a b || c.phaseRuns a b)

/-- X is outvoted (R86): it disagrees with some Y, and of the other usable candidates more agree with Y and disagree with
X than the other way round. A pair agrees when it is compared and not marked. Log entry 20 (DEDUCED). -/
def Core.outvotedBy (c : Core) (x y : Nat) : Bool :=
  let agree := fun a b => c.compared a b && !c.disagree a b
  let others := (List.range 24).filter (fun z => z ≠ x && z ≠ y && c.usable z)
  c.disagree x y &&
    decide ((others.filter (fun z => agree z x && c.disagree z y)).length <
            (others.filter (fun z => agree z y && c.disagree z x)).length)

/-- REF_DISAGREE, disagree and outvoted of every candidate (R85, R86). Log entry 20 (DEDUCED). -/
def Core.disRefresh (c : Core) : Core :=
  c.each (List.range 24) fun c i =>
    let m := (List.range 24).foldl (fun a j => if c.disagree i j then setBit a j else a) 0
    let c := c.wr REF_DISAGREE.mask m i
    let c := c.wrB REF_STATE.disagree (m ≠ 0) i
    c.wrB REF_STATE.outvoted ((List.range 24).any (fun y => c.outvotedBy i y)) i

/-- Pairs that are no longer compared are cleared at once (R85). -/
def Core.pairsClear (c : Core) : Core :=
  let c := c.each (List.range 24) fun c a => c.each (List.range 24) fun c b =>
    if a < b && !c.compared a b then { c with pairs := c.pairs.set {} (pairKey a b) {} } else c
  c.disRefresh

/-- A candidate takes state `new` with a cause: its indications, faults and record, and what entering the state does to
its estimator (R67, R72, R73, R90, R91); the new anchor of a FREQ candidate is the increment that a block reset asks for
(R430). With the state unchanged only the cause is shown.
Log entries 15 (DEDUCED), 98 (DESIGN CHOICE), 145 (DESIGN CHOICE). -/
def Core.candGoto (c : Core) (i new cause : Nat) : Core :=
  let old := c.candState i
  let c := c.wr REF_STATE.cause cause i
  if new = old then c else
  let c := c.wr REF_STATE.state new i
  let x := c.cand i
  let time := c.candIsTime i
  let c :=
    if new = csDisabled then
      let c := c.setCand i { inReset := x.inReset, jumps := x.jumps, tod := x.tod, epochDue := x.epochDue }
      let c := (c.candRegs i).wr REF_DRIFT.value 0 i
      c.wr REF_STATE.est_clamp 0 i
    else if new = csNoSignal then
      let c := c.setCand i { x with
        start := if old = csDisabled then c.now else x.start, late := if old = csDisabled then 0 else x.late,
        goodRun := 0, outRun := 0, pwRun := 0, gate := none, gateDone := none, hist := [], overrun := false,
        freqBad := false, rejHit := false, degrade := false }
      c.wr REF_DRIFT.value 0 i
    else if new = csObserving then
      let c := c.on (x.epochDue && time) (fun c => c.bumpWrap REF_STATE.phase_epoch i)
      c.setCand i { x with
        epochDue := false, restart := x.restart || !time || old = csNoSignal, passed := false, qualUp := false, gates := 0, overrun := false,
        freqBad := false, rejHit := false, degrade := false }
    else c
  let c := c.on (new = csNoSignal) (fun c => c.wr REF_EVENT.no_signal 1 i)
  let c := c.on (new = csDisqualified) (fun c => c.wr REF_EVENT.disq 1 i)
  let c := c.on (new = csDegrading) (fun c => c.wr REF_EVENT.degrading 1 i)
  let c := c.on (new = csQualified) (fun c => c.wr REF_EVENT.qualified 1 i)
  let c := c.pairsClear
  let c := c.on (new = csNoSignal && candRunning old) (fun c => c.raise 0 i)
  let c := c.on (new = csDisqualified) (fun c => c.raise 1 i)
  let c := c.on (new = csDegrading) (fun c => c.raise 2 i)
  (c.candEvent i old).palEvalAll

/-- One change of state that the conditions ask for, ranked DISABLED, NO_SIGNAL, DISQUALIFIED, DEGRADING, QUALIFIED
(R73, R74). `act` says that activity fails, `qual` and `wtr` that the timer has ended. Log entry 13 (DEDUCED). -/
def Core.candOnce (c : Core) (i : Nat) (act qual wtr : Bool) : Core :=
  if !c.part.cand i then c else
  let x := c.cand i
  let st := c.candState i
  match c.candDisabled i with
  | some cause => c.candGoto i csDisabled cause
  | none =>
    if st = csDisabled then c.candGoto i csNoSignal ccNoActivity
    else if st = csNoSignal then
      if 2 ≤ x.goodRun then c.candGoto i csObserving ccQualTimer else c.candGoto i csNoSignal ccNoActivity
    else if act then c.candGoto i csNoSignal ccNoActivity
    else match c.candFailing i with
      | some cause => c.candGoto i csDisqualified cause
      | none =>
        if st = csDisqualified then
          if wtr then c.candGoto i csObserving ccQualTimer else c.candGoto i csDisqualified ccWtr
        else if st = csObserving then
          if (qual || x.qualUp) && x.passed && !x.freqBad then c.candGoto i csQualified ccNone
          else c.candGoto i csObserving (if x.freqBad then ccFreqWindow else ccQualTimer)
        else if x.degrade then c.candGoto i csDegrading ccDrift
        else c.candGoto i csQualified ccNone

/-- The changes of state that the conditions ask for: one in this CCLK cycle, and, where it enters OBSERVING while a check
fails that needs no new stamp (force_disq, the QL floor), the one of the cycle after (R73, R74). Log entry 13 (DEDUCED). -/
def Core.candEval (c : Core) (i : Nat) (act qual wtr : Bool := false) : Core :=
  let d := c.candOnce i act qual wtr
  if d.candState i = csObserving && c.candState i ≠ csObserving then d.candOnce i false false false else d

/-! ## The estimator (R66 to R70) -/

/-- A new position is accepted: a FREQ candidate takes a new anchor and a new phase epoch, a TIME or PKT candidate takes
the raw phase; the slope s is kept (R67, R68). `ev` sets phase_jump. Log entries 12 (DEDUCED), 16 (DEDUCED). -/
def Core.estJump (c : Core) (i t : Nat) (raw : Rat) (ev : Bool) : Core :=
  let x := c.cand i
  let time := c.candIsTime i
  let x := if time then { x with phi := roundR16 (raw * 2 ^ 32), gate := some (x.k, raw) }
           else { x with anchor := t, k := 0, phi := 0, gate := some (0, 0) }
  let c := c.setCand i { x with restart := false, parity := false, outRun := 0, jumps := x.jumps + 1 }
  let c := if time then c else c.bumpWrap REF_STATE.phase_epoch i
  (c.on ev (fun c => c.wr REF_EVENT.phase_jump 1 i)).candRegs i

/-- The bandwidth in force, and whether R69 clamps it, for a stamp period T. Log entry 17 (DEDUCED). -/
def Core.estBw (c : Core) (i : Nat) (T : Rat) : Rat × Bool :=
  let b : Rat := 8000 / 2 ^ (min 23 (c.rd REF_EST_CFG.bw i))
  let rate := (secPU : Rat) / T
  if rate / 10 < b then (rate / 10, true) else (b, false)

/-- The pole λ of the filter, exp(−2π · B · T_s / 2.482) (R66). -/
def Core.estPole (c : Core) (i : Nat) (T : Rat) : Rat :=
  numExp (-(num2Pi * (c.estBw i T).1 * (T / secPU) / (2482 / 1000)))

/-- The gate of 2^qgate stamps, values above 20 acting as 20 (R77, R92). -/
def Core.gateLen (c : Core) (i : Nat) : Nat := 2 ^ (min 20 (c.rd REF_EST_CFG.qgate i))

/-- One raw phase into the filter: the residual, the outlier check, the filter step, the noise and the gate (R66, R68,
R69, R70, R77). `n` is the advance of the stamp index; a gate of 2^qgate stamps is counted by the index, so that missing and
outlying stamps count in it. Log entries 12 (DEDUCED), 17 (DEDUCED), 121 (DEDUCED). -/
def Core.estStep (c : Core) (i t n : Nat) (raw T : Rat) : Core :=
  let x := { c.cand i with k := (c.cand i).k + n }
  let c := c.setCand i x
  if x.restart || x.parity then c.estJump i t raw x.parity else
  let c := c.wrB REF_STATE.est_clamp (c.estBw i T).2 i
  let r : Rat := raw * 2 ^ 32 - (x.phi + x.s : Int)
  let lim : Nat := c.rd REF_EST_CFG.outlier i * 1024 * 2 ^ 32
  if lim ≠ 0 && decide ((lim : Rat) < |r|) then
    let c := (c.bump REF_OUTLIER_CNT.count i).setCand i { x with outRun := x.outRun + 1 }
    if 8 ≤ x.outRun + 1 then c.estJump i t raw true else c
  else
    let lam := c.estPole i T
    let a := 1 - lam * lam
    let b := (1 - lam) * (1 - lam)
    let s := x.s + roundFree (b * r)
    let phi := x.phi + x.s + roundFree (a * r)
    let gate := match x.gate with
      | none => (some (x.k, raw), x.gateDone)
      | some (k0, raw0) =>
        if c.gateLen i ≤ x.k - k0 then (some (x.k, raw), some (x.k - k0, raw - raw0, t)) else (x.gate, x.gateDone)
    let c := c.setCand i { x with
      phi := phi, s := s, y := roundR16 (-(s : Rat) * 2 ^ 16 / T), outRun := 0,
      resid := (roundFree r :: x.resid).take 256, gate := gate.1, gateDone := gate.2 }
    c.candRegs i

/-- The phase and the frequency as the estimate's consumers hold them (R45, R468). -/
def Cand.outPhi (x : Cand) : Int := (x.stale.map Prod.fst).getD x.phi
def Cand.outY (x : Cand) : Int := (x.stale.map Prod.snd).getD x.y

/-- One raw phase into the filter, and the estimate to its consumers: one lost on its link leaves them the value before
(R45, R66, R468). Log entry 133 (DEDUCED). -/
def Core.estUpdate (c : Core) (i t n : Nat) (raw T : Rat) : Core :=
  let old := c.cand i
  let d := c.coreData raw
  let v := (d.2.estStep i t n d.1 T).linkVal 0 i
  v.1.setCand i { v.1.cand i with stale := if v.2 then none else some (old.outPhi, old.outY) }

/-- The instant of the grid of period T nearest to `t` (R67). -/
def gridNearest (t : Nat) (T : Rat) : Rat := (roundR16 ((t : Rat) / T) : Rat) * T

/-- The shift of R123: every filtered phase, and the raw phase at the start of each gate, falls by `d` phase units, and the
time since a candidate's last stamp grows by it. Log entries 12 (DEDUCED), 16 (DEDUCED). -/
def Core.estShift (c : Core) (d : Rat) : Core :=
  c.each (List.range 24) fun c i =>
    let x := c.cand i
    if c.candState i = csDisabled then c else
    let x := { x with late := x.late + d }
    if !candRunning (c.candState i) then c.setCand i x else
    (c.setCand i { x with
      phi := x.phi - roundFree (d * 2 ^ 32),
      stale := x.stale.map (fun v => (v.1 - roundFree (d * 2 ^ 32), v.2)),
      gate := x.gate.map (fun g => (g.1, g.2 - d)) }).candRegs i

/-- The time from a candidate's last stamp, or from its enable where it has had none, up to `t`, in phase units, with what
steps of device time have taken off it (R75, R123). -/
def Cand.since (x : Cand) (t : Nat) : Rat := ((t : Int) - ((x.last.getD x.start : Nat) : Int) : Int) + x.late

/-- Stamp periods that have passed without a stamp up to `t`, counted in REF_MISS_CNT (R75). Log entry 15 (DEDUCED). -/
def Core.candMiss (c : Core) (i t : Nat) : Core :=
  let x := c.cand i
  if c.candState i = csDisabled then c else
  let m := (x.since t / c.candPeriod i - (if x.last.isSome then 1 / 2 else 0)).floor.toNat
  if m ≤ x.missed then c
  else (c.bump REF_MISS_CNT.count i 0 (m - x.missed)).setCand i { x with missed := m }

/-- The stamp periods of every candidate that have passed up to `t`: a command that tells the time counts them (R75).
Log entry 15 (DEDUCED). -/
def Core.missAll (c : Core) (t : Nat) : Core := c.each (List.range 24) (fun c i => c.candMiss i t)

/-- The stamp periods up to a stamp or sample at `t`, the first being the stamp's own where there was none before.
Log entry 12 (DEDUCED). -/
def Core.candSteps (c : Core) (i t : Nat) : Nat :=
  if (c.cand i).last.isSome then (max 1 (roundR16 ((c.cand i).since t / c.candPeriod i))).toNat else 1

/-! ## Quality levels (R79 to R84) -/

/-- The rank of an SSM code with an eSSM code (0xFF: none), and whether the pair is inconsistent (R80, R81). -/
def qlRank (opt2 : Bool) (ssm essm : Nat) : Nat × Bool :=
  let pairs : List (Nat × Nat × Nat) :=
    if opt2 then [(0x1, 0x21, 1), (0x1, 0x20, 2), (0x1, 0x23, 3), (0xA, 0x22, 9)]
    else [(0x2, 0x21, 1), (0x2, 0x20, 2), (0x2, 0x23, 3), (0xB, 0x22, 9)]
  let alone : List (Nat × Nat) :=
    if opt2 then [(0x1, 4), (0x0, 5), (0x7, 6), (0x4, 7), (0xD, 8), (0xA, 10), (0xC, 11), (0xE, 12), (0xF, 15)]
    else [(0x2, 4), (0x4, 6), (0x8, 8), (0xB, 10), (0xF, 15)]
  match pairs.find? (fun p => p.1 = ssm && p.2.1 = essm) with
  | some p => (p.2.2, false)
  | none => (((alone.find? (fun p => p.1 = ssm)).map Prod.snd).getD 14, essm ≠ 0xFF)

/-- The rank of a clockClass (R80). -/
def classRank (k : Nat) : Nat :=
  match k with
  | 6 => 2 | 7 => 4 | 135 => 5 | 140 => 6 | 150 => 7 | 160 => 8 | 165 => 9 | 248 => 13 | 255 => 15
  | _ => 14

/-- The candidate receives no quality level: it has no QL source (R79), or a TODIN pin whose bytes are not parsed (R83). -/
def Core.qlNone (c : Core) (i : Nat) : Bool :=
  c.rd REF_QL_CFG.src i = 0 || (c.rd REF_QL_CFG.src i = 3 && c.rdB REF_QL_CFG.tod_raw i)

/-- The effective rank: the override, else the received rank, 13 without a quality level (R79, R83). -/
def Core.rankNow (c : Core) (i : Nat) : Nat :=
  if c.rdB REF_QL_CFG.ovr_en i then c.rd REF_QL_CFG.ovr_rank i
  else if c.qlNone i then 13 else c.rd REF_QL_STAT.rank i

/-- The effective rank follows its sources: a change sets ql_change, a worse rank raises FS4, and the floor is checked
(R84). -/
def Core.rankRefresh (c : Core) (i : Nat) : Core :=
  let old := c.rd REF_STATE.ql_rank i
  let new := c.rankNow i
  let c := if new = old then c else
    ((c.wr REF_STATE.ql_rank new i).wr REF_EVENT.ql_change 1 i).on (decide (old < new)) (fun c => c.raise 4 i)
  c.candEval i

/-- A received rank loaded (R81, R82, R83). -/
def Core.setRank (c : Core) (i r : Nat) : Core := (c.wr REF_QL_STAT.rank r i).rankRefresh i

/-- The QL source or its use has changed: without a quality level the received rank is 13 and no frame waits (R79, R83). -/
def Core.qlSource (c : Core) (i : Nat) : Core :=
  if c.qlNone i then (c.setCand i { c.cand i with tod := none }).setRank i 13 else c.rankRefresh i

/-- The candidates whose QL source is `src` number `idx` (R79). -/
def Core.qlUsers (c : Core) (src idx : Nat) : List Nat :=
  (List.range 24).filter (fun i => c.part.cand i && c.rd REF_QL_CFG.src i = src && c.rd REF_QL_CFG.src_idx i = idx)

/-- A valid ESMC PDU of a lane updates every candidate that takes its QL there (R81).
Log entries 48 (PRESUMED), 99 (DESIGN CHOICE). -/
def Core.esmcQl (c : Core) (lane ssm essm : Nat) (ext mixed part : Bool) (nEeec nEec : Nat) : Core :=
  c.each (c.qlUsers 1 lane) fun c i =>
    let r := qlRank (c.rdB REF_QL_CFG.opt i) ssm (if ext then essm else 0xFF)
    let c := c.wr REF_QL_STAT.essm (if ext then essm else 0xFF) i
    let c := c.wr REF_QL_STAT.ssm ssm i
    let c := c.wrB REF_QL_STAT.ext ext i
    let c := c.wrB REF_QL_STAT.mixed (ext && mixed) i
    let c := c.wrB REF_QL_STAT.partial (ext && part) i
    let c := c.wrB REF_QL_STAT.inconsistent r.2 i
    let c := c.wr REF_QL_STAT.age 0 i
    let c := c.wr REF_QL_CHAIN.n_eeec (if ext then nEeec else 0) i
    let c := c.wr REF_QL_CHAIN.n_eec (if ext then nEec else 0) i
    c.setRank i r.1

/-- A clockClass that an Announce of the selected master brings to a domain reaches the candidates that take their QL there;
a newly selected master's counts from its next Announce (R82, R92). Log entry 123 (DEDUCED). -/
def Core.announceQl (c : Core) (servo cclass : Nat) : Core :=
  c.each (c.qlUsers 2 servo) fun c i =>
    ((c.wr REF_QL_CHAIN.cclass cclass i).wr REF_QL_STAT.age 0 i).setRank i (classRank cclass)

/-- The domain has lost its master: rank 15 for those candidates, the last message as it was (R82, R92). -/
def Core.announceLost (c : Core) (servo : Nat) : Core := c.each (c.qlUsers 2 servo) (fun c i => c.setRank i 15)

/-- CRC-16 with polynomial 0x1021, initial value 0xFFFF, no reflection and no final XOR (R83). -/
def crc16 (l : List Byte) : Nat :=
  l.foldl (fun a b => (List.range 8).foldl (fun x _ =>
    if x.testBit 15 then ((x <<< 1) ^^^ 0x1021) % 65536 else (x <<< 1) % 65536) (a ^^^ (b.toNat <<< 8))) 0xFFFF

/-- A ToD frame that passes its checks, if it does (R83). Log entry 19 (DEDUCED). -/
def todParse (l : List Byte) : Option TodFrame :=
  if l.length = 16 && fieldLE l 2 1 = 1 && fieldLE l 3 1 = 16 && fieldLE l 14 2 = crc16 (l.take 14) then
    some { sec := fieldLE l 4 6, cclass := fieldLE l 10 1, flags := fieldLE l 11 1, utc := fieldLE l 12 2 }
  else none

/-- A frame rejected (R83). -/
def Core.todReject (c : Core) (i : Nat) : Core :=
  ((c.setCand i { c.cand i with tod := none }).wr REF_EVENT.tod_error 1 i).raise 5 i

/-- The frame that waits labels the stamp at `t` (R83). Log entry 19 (DEDUCED). -/
def Core.todLabel (c : Core) (i t : Nat) : Core :=
  match (c.cand i).tod with
  | none => c
  | some f =>
    let c := c.setCand i { c.cand i with tod := none }
    let c := c.wrS REF_TOD_DIFF.diff ((f.sec : Int) - roundR16 ((t : Rat) / secPU)) i
    let c := c.wr REF_STATE.tod_ok 1 i
    let c := (c.wr REF_QL_CHAIN.cclass f.cclass i).wr REF_QL_STAT.age 0 i
    c.setRank i (classRank f.cclass)

/-- One second passes for the ages of the QL messages (R92), saturating. -/
def Core.qlAge (c : Core) : Core := c.each (List.range 24) (fun c i => c.bump REF_QL_STAT.age i)

/-- The receiver of lane `i` − 16 gives a clock: the line side is in sync and not in TEST (R263); a REF needs none. -/
def Core.rckClock (c : Core) (i : Nat) : Bool :=
  i < 16 || 20 ≤ i || (c.rdB ETH_STAT.l_sync (i - 16) &&
    !(c.rd ETH_STAT.state (i - 16) = 4 && !c.rdB ETH_LOOP.side (i - 16)))

/-! ## The commands -/

/-- REF_STAMP: the overrun check (R63), the count of missed periods (R75), the pulse-width check (R76), the estimator
(R66) and the label of a ToD frame (R83); the other candidates' periods up to its time have passed. A stamp of a DISABLED
candidate, of a PKT candidate, and of an RCK candidate whose lane gives no clock, does nothing.
Log entries 11 (DEDUCED), 12 (DEDUCED), 92 (DESIGN CHOICE). -/
def refStampStep (i : Fin 24) (t high : Nat) (c : Core) : Core :=
  let i := i.val
  let st := c.candState i
  let c := c.missAll t
  if 20 ≤ i || st = csDisabled || !c.part.cand i || !c.rckClock i then c else
  let x := c.cand i
  let T := c.candPeriod i
  let near := x.last.isSome && decide (0 ≤ x.since t) && decide (x.since t < 320 * 65536)
  if near then
    let c := (c.bump REF_MISS_CNT.count i).wr REF_EVENT.overrun 1 i
    (c.setCand i { x with overrun := true, gate := none }).candEval i
  else
    let n := c.candSteps i t
    let c := c.bump REF_MISS_CNT.count i 0 (n - 1 - x.missed)
    let bad := c.rdB REF_QUAL_CFG.pw_en i &&
      (decide (high < c.rd REF_PW_MIN.pw i) || decide (c.rd REF_PW_MAX.pw i < high))
    let pw := if bad then x.pwRun + 1 else 0
    let x := { x with missed := 0, last := some t, late := 0, pwRun := pw }
    let c := if st = csNoSignal then c.setCand i { x with goodRun := if 2 ≤ pw then 0 else x.goodRun + 1 }
      else
        let c := c.setCand i x
        let raw : Rat := if c.candIsTime i then (t : Rat) - gridNearest t T
          else (t : Rat) - (x.anchor + ((x.k + n : Nat) : Rat) * T)
        let c := c.estUpdate i t n raw T
        if c.injArmed 6 i then (c.injFire 6 i i).setCand i { c.cand i with restart := true, parity := true } else c
    (c.todLabel i t).candEval i

/-- A sample of a PKT candidate: its raw phase, delivered with a servo update, after the update periods that brought none
(R67, R71, R75). -/
def Core.pktSample (c : Core) (i t : Nat) (raw : Rat) : Core :=
  let st := c.candState i
  if st = csDisabled || !c.part.cand i then c else
  let n := c.candSteps i t
  let c := c.bump REF_MISS_CNT.count i 0 (n - 1 - (c.cand i).missed)
  let x := { c.cand i with missed := 0, last := some t, late := 0 }
  let c := if st = csNoSignal then c.setCand i { x with goodRun := x.goodRun + 1 }
    else
      let c := (c.setCand i x).estUpdate i t n raw (c.candPeriod i)
      if c.injArmed 6 i then (c.injFire 6 i i).setCand i { c.cand i with restart := true, parity := true } else c
  c.candEval i

/-- ACTIVITY_FAILURE: the periods missed are counted and a running candidate enters NO_SIGNAL (R75). Log entry 15
(DEDUCED). -/
def activityFailureStep (i : Fin 24) (c : Core) : Core :=
  let i := i.val
  let st := c.candState i
  if st = csDisabled then c else
  let x := c.cand i
  let act := max 1 (c.rd REF_QUAL_CFG.act_lim i)
  let c := c.bump REF_MISS_CNT.count i 0 (act - x.missed)
  let c := c.setCand i { x with missed := max act x.missed, goodRun := 0 }
  c.candEval i (act := true)

/-- The least-squares slope of the kept gates, in frequency units per second (R78). Log entry 18 (DEDUCED). -/
def driftOf (h : List (Rat × Rat)) : Rat :=
  let n : Rat := h.length
  let mt := (h.foldl (fun a p => a + p.1) 0) / n
  let my := (h.foldl (fun a p => a + p.2) 0) / n
  let sxx := h.foldl (fun a p => a + (p.1 - mt) * (p.1 - mt)) 0
  let sxy := h.foldl (fun a p => a + (p.1 - mt) * (p.2 - my)) 0
  if sxx = 0 then 0 else sxy / sxx * 4096

/-- Whether DEGRADING is asked for at the end of a gate (R78); `yq` in 2^-36, `drift` in frequency units per second.
Log entries 18 (DEDUCED), 145 (DESIGN CHOICE). -/
def Core.driftAsks (c : Core) (i : Nat) (yq drift rej : Rat) : Bool :=
  let h : Rat := c.rd REF_DRIFT_CFG.horizon i
  let lim : Rat := c.rd REF_DRIFT_CFG.drift_lim i
  let toward := drift ≠ 0 && decide (0 ≤ drift * yq)
  let exit := (rej - |yq|) * 4096 / |drift|
  let st := c.candState i
  if st = csDegrading then
    !(!toward || decide (2 * h < exit) || decide (|drift| < 128 * lim))
  else st = csQualified && h ≠ 0 && decide (256 * lim ≤ |drift|) && toward && decide (exit ≤ h)

/-- An ESTIMATE record (R91). Log entry 143 (DESIGN CHOICE). -/
def Core.estimateRec (c : Core) (i t : Nat) (yq : Rat) : Core :=
  let x := c.cand i
  c.emit 0x11 i (REF_CFG.en.addr i 0)
    [packWord [(109, 105, i), (104, 102, c.candState i), (101, 94, c.rd REF_STATE.phase_epoch i),
      (93, 86, c.rd REF_STAB.stab_log i), (85, 70, c.rd REF_STAB.noise i), (47, 0, satS 48 x.phase)],
     stamp96 t,
     packWord [(125, 96, satS 30 (roundR16 yq)), (63, 0, satS 64 x.y)]]

/-- GATE_END: y_q of the gate whose last stamp has come, its checks against the limits (R77), the drift (R78) and the
ESTIMATE record (R91). Without such a gate nothing happens.
Log entries 13 (DEDUCED), 14 (DEDUCED), 98 (DESIGN CHOICE), 100 (DESIGN CHOICE), 145 (DESIGN CHOICE). -/
def gateEndStep (i : Fin 24) (c : Core) : Core :=
  let i := i.val
  let x := c.cand i
  match x.gateDone with
  | none => c
  | some (n, d, t) =>
    if !candRunning (c.candState i) then c.setCand i { x with gateDone := none } else
    let T := c.candPeriod i
    let yq : Rat := -d * 2 ^ 36 / ((n : Rat) * T)
    let rej : Rat := c.rd REF_REJ_LIM.lim i
    let acc := min (c.rd REF_ACC_LIM.lim i : Rat) rej
    let bad := decide (acc < |yq|)
    let span := x.span + (n : Rat) * T / secPU
    let hist := ((span, yq) :: x.hist).take 64
    let drift := if hist.length = 64 then driftOf hist else 0
    let c := c.wrS REF_YQ.value (roundR16 yq) i
    let c := c.wrS REF_DRIFT.value (roundR16 drift) i
    let deg := hist.length = 64 && c.driftAsks i yq drift rej
    let gates := x.gates + 1
    let c := c.setCand i { x with
      gateDone := none, overrun := false, freqBad := bad, rejHit := decide (rej < |yq|),
      passed := x.passed || (c.candState i = csObserving && !bad), qualUp := x.qualUp && !bad, span := span, hist := hist, degrade := deg,
      gates := gates }
    let rec1 := c.rd REF_CFG.recMode i
    let c := c.on (rec1 = 1 || (rec1 = 2 && gates % 16 = 0)) (fun c => c.estimateRec i t yq)
    c.candEval i

/-- QUAL_TIME_EXPIRE: an OBSERVING candidate with a passed gate and no failing check becomes QUALIFIED, at once or when
its first gate has passed (R73). Log entry 13 (DEDUCED). -/
def qualTimeExpireStep (i : Fin 24) (c : Core) : Core :=
  if c.candState i = csObserving then (c.setCand i { c.cand i with qualUp := true }).candEval i else c

/-- WTR_EXPIRE: a DISQUALIFIED candidate with no failing check returns to OBSERVING (R73). -/
def wtrExpireStep (i : Fin 24) (c : Core) : Core :=
  if c.candState i = csDisqualified then c.candEval i (wtr := true) else c

/-- REQUAL: ends wtr in DISQUALIFIED while all checks pass, or qual_time in OBSERVING after one passed gate (R73, R92). -/
def requalStep (i : Fin 24) (c : Core) : Core :=
  c.atReg exHost (REF_CTRL.requal.addr i 0) fun c =>
    if c.candState i = csDisqualified || c.candState i = csObserving then c.candEval i (qual := true) (wtr := true) else c

/-- FORCE_DISQ: REF_CTRL.force_disq takes the value; while it is 1 the candidate is disqualified with cause FORCED (R73). -/
def forceDisqStep (i : Fin 24) (v : Bool) (c : Core) : Core :=
  c.atReg exHost (REF_CTRL.force_disq.addr i 0) fun c => (c.wrB REF_CTRL.force_disq v i).candEval i

/-- A write of REF_CFG (R73, R92): en and rec are plain, the rest RWE; in an RCK or PKT block the fixed fields ignore the
write. A change of rec starts the count of gates anew (R91). -/
def Core.refCfgWrite (c : Core) (i be data : Nat) : Core × Bool :=
  let oldRec := c.rd REF_CFG.recMode i
  let r := if i < 16 then c.writeRow REF_CFG.row (c.rdB REF_CFG.en i) be data i
    else (((c.writeField be data i 0 REF_CFG.en).writeField be data i 0 REF_CFG.recMode), false)
  let c := if r.2 then r.1.reject REF_CFG_REJECT.valid REF_CFG_REJECT.count REF_CFG_REJECT.word 0 i else r.1
  let c := if c.rd REF_CFG.recMode i = oldRec then c else c.setCand i { c.cand i with gates := 0 }
  ((c.rankRefresh i).palEvalAll, r.2)

/-- ESMC_QL_TIMEOUT: QL-FAILED, rank 15, for the candidates that take their QL from the lane (R81). -/
def esmcQlTimeoutStep (lane : Fin 4) (c : Core) : Core :=
  c.each (c.qlUsers 1 lane) (fun c i => c.setRank i 15)

/-- What the receiver of a ToD pin passes on over its link: one word and one per 15 bytes, or nothing where the link
lacks the credits (R43, R46). Log entry 115 (DEDUCED). -/
def Core.todItem (c : Core) (pin : Nat) (bytes : List Byte) (users : List Nat) (f : Core → Nat → Core) : Core :=
  if users.isEmpty then c else
  let r := c.dropTake (140 + pin) (1 + (bytes.length + 14) / 15)
  if r.2 then r.1.each users f else r.1

/-- TOD_FRAME_RX: a frame that passes its checks waits for the next stamp of each candidate that takes its QL from the
pin; another is rejected (R83). Bytes that do not begin with the sync pattern are no frame. Log entry 19 (DEDUCED). -/
def todFrameRxStep (pin : Fin 2) (bytes : List Byte) (c : Core) : Core :=
  if fieldLE bytes 0 2 ≠ 0x5AA5 then c else
  c.todItem pin bytes ((c.qlUsers 3 pin).filter (fun i => !c.rdB REF_QL_CFG.tod_raw i)) fun c i =>
    match todParse bytes with
    | some f => c.setCand i { c.cand i with tod := some f }
    | none => ((c.wr REF_EVENT.tod_error 1 i).raise 5 i)

/-- TOD_LABEL_TIMEOUT: a frame that has waited 1.0 s for a stamp is rejected (R83). -/
def todLabelTimeoutStep (i : Fin 24) (c : Core) : Core :=
  if (c.cand i).tod.isSome then c.todReject i else c

/-- TOD_TIMEOUT: no valid frame for 3 s; tod_ok clears, and the rank becomes 15 where frames give it (R83). -/
def todTimeoutStep (i : Fin 24) (c : Core) : Core :=
  if !c.part.cand i then c else
  let c := c.wr REF_STATE.tod_ok 0 i
  if c.rd REF_QL_CFG.src i = 3 && !c.rdB REF_QL_CFG.tod_raw i then c.setRank i 15 else c

/-- The continuation words of a TOD_FRAME record: 15 bytes each (R300). -/
def todWords (l : List Byte) (n : Nat) : List Nat :=
  (List.range ((n + 14) / 15)).map (fun w => leVal ((l.drop (15 * w)).take 15))

/-- TOD_RAW_GROUP: with tod_raw = 1, a TOD_FRAME record of at most 105 bytes, the remainder discarded (R83, R300). -/
def todRawGroupStep (pin : Fin 2) (t : Nat) (bytes : List Byte) (c : Core) : Core :=
  let g := bytes.take 105
  let n := g.length
  if n = 0 then c else
  c.todItem pin g ((c.qlUsers 3 pin).filter (fun i => c.rdB REF_QL_CFG.tod_raw i)) fun c i =>
    c.emit 0x12 i (REF_CFG.en.addr i 0)
      (packWord [(109, 105, i), (104, 98, n), (97, 97, b2n (105 < bytes.length)), (95, 0, stamp96 t)] :: todWords g n)

/-- The result of one comparison of a pair: whether some kind that runs disagrees (R85). -/
def Core.pairDisagrees (c : Core) (a b : Nat) : Bool :=
  let x := c.cand a
  let y := c.cand b
  (c.freqRuns a b && decide (((max (c.rd REF_DIS_CFG.freq_lim a) (c.rd REF_DIS_CFG.freq_lim b) * 4096 : Nat) : Int) < |x.y - y.y|)) ||
  (c.phaseRuns a b && decide (((max (c.rd REF_DIS_CFG.phase_lim a) (c.rd REF_DIS_CFG.phase_lim b) * 65536 * 2 ^ 32 : Nat) : Int) <
      |x.phi - y.phi|))

/-- One pair compared: four equal results in a row mark or clear it; a newly marked pair sets disagree_set and raises FS3
once for each candidate (R85). Log entry 20 (DEDUCED). -/
def Core.comparePair (c : Core) (a b : Nat) : Core :=
  if !c.compared a b then c else
  let p := c.pairs.get {} (pairKey a b)
  let run := if c.pairDisagrees a b then (if 0 ≤ p.run then p.run + 1 else 1) else (if p.run ≤ 0 then p.run - 1 else -1)
  let marked := if 4 ≤ run then true else if run ≤ -4 then false else p.marked
  let run := clampI (-4) 4 run
  let c := { c with pairs := c.pairs.set {} (pairKey a b) { run := run, marked := marked } }
  if marked && !p.marked then
    (((c.wr REF_EVENT.disagree_set 1 a).wr REF_EVENT.disagree_set 1 b).raise 3 a).raise 3 b
  else c

/-- DISAGREE_COMPARE: every pair of usable candidates (R85), then the votes (R86). -/
def disagreeCompareStep (c : Core) : Core :=
  let c := c.each (List.range 24) fun c a => c.each (List.range 24) fun c b => if a < b then c.comparePair a b else c
  c.pairsClear

/-! ## The meanings of the commands -/

/-- REF_STAMP (R66). -/
def execRefStamp (i : Fin 24) (t : Nat) (high : Nat) (s : State) : Out := onRunCore (refStampStep i t high) s

/-- ACTIVITY_FAILURE (R75). -/
def execActivityFailure (i : Fin 24) (s : State) : Out := onRunCore (activityFailureStep i) s

/-- GATE_END (R77). -/
def execGateEnd (i : Fin 24) (s : State) : Out := onRunCore (gateEndStep i) s

/-- QUAL_TIME_EXPIRE (R73). -/
def execQualTimeExpire (i : Fin 24) (s : State) : Out := onRunCore (qualTimeExpireStep i) s

/-- WTR_EXPIRE (R73). -/
def execWtrExpire (i : Fin 24) (s : State) : Out := onRunCore (wtrExpireStep i) s

/-- REQUAL (R73). -/
def execRequal (i : Fin 24) (s : State) : Out := onRunCore (requalStep i) s

/-- FORCE_DISQ (R73). -/
def execForceDisq (i : Fin 24) (v : Bool) (s : State) : Out := onRunCore (forceDisqStep i v) s

/-- ESMC_QL_TIMEOUT (R81). -/
def execEsmcQlTimeout (lane : Fin 4) (s : State) : Out := onRunCore (esmcQlTimeoutStep lane) s

/-- TOD_FRAME_RX (R83). -/
def execTodFrameRx (pin : Fin 2) (bytes : List Byte) (s : State) : Out := onRunCore (todFrameRxStep pin bytes) s

/-- TOD_TIMEOUT (R83). -/
def execTodTimeout (i : Fin 24) (s : State) : Out := onRunCore (todTimeoutStep i) s

/-- TOD_RAW_GROUP (R83). -/
def execTodRawGroup (pin : Fin 2) (t : Nat) (bytes : List Byte) (s : State) : Out := onRunCore (todRawGroupStep pin t bytes) s

/-- DISAGREE_COMPARE (R85). -/
def execDisagreeCompare (s : State) : Out := onRunCore disagreeCompareStep s

/-- TOD_LABEL_TIMEOUT (R83). -/
def execTodLabelTimeout (i : Fin 24) (s : State) : Out := onRunCore (todLabelTimeoutStep i) s

end Sys2Proof.Machine
end

