-- ==== Sys2Proof/Machine/Steer.lean ====
section
/-! DEFINITION. What a channel's steering reaches: the phase accumulator of a SYN (R193, R194), and device time with its
source (R36, R39, R100, R123). -/

namespace Sys2Proof.Machine

def Core.chan (c : Core) (h : Nat) : Chan := c.chans.get {} h
def Core.setChan (c : Core) (h : Nat) (x : Chan) : Core := { c with chans := c.chans.set {} h x }
def Core.glc (c : Core) (h : Nat) : Glc := c.glcs.get {} h
def Core.setGlc (c : Core) (h : Nat) (x : Glc) : Core := { c with glcs := c.glcs.set {} h x }
def Core.syn (c : Core) (n : Nat) : Syn := c.syns.get {} n
def Core.setSyn (c : Core) (n : Nat) (x : Syn) : Core := { c with syns := c.syns.set {} n x }

/-- The channel states (R101). -/
def chDisabled : Nat := 0
def chFreerun : Nat := 1
def chAcquiring : Nat := 2
def chLocked : Nat := 3
def chHoldover : Nat := 4
def chEnsemble : Nat := 5
def chRotor : Nat := 7

def Core.chState (c : Core) (h : Nat) : Nat := c.rd CH_STAT.state h

/-- The loop runs in ACQUIRING, LOCKED and ENSEMBLE (R101). -/
def chRunning (st : Nat) : Bool := st = chAcquiring || st = chLocked || st = chEnsemble

/-- The time master, if the image names one (R93; 15: none). -/
def Core.master (c : Core) : Option Nat :=
  let m := c.rd STG_DT_STAT.master
  if m < 12 then some m else none

/-- Whether a channel is the time master. -/
def Core.isMaster (c : Core) (h : Nat) : Bool := c.rdB CH_STAT.master h

/-- STG_DT_STAT.src as R39 gives it, and FALLBACK while R40 applies, which the second in progress notes (R141). -/
def Core.dtSource (c : Core) : Core :=
  if c.rd STG_DT_STAT.src = srcUnset then c else
  let src :=
    if !c.pclk then srcFallback
    else match c.master with
      | none => srcFrost
      | some m =>
        if !c.dtLocked then srcFrost
        else if chRunning (c.chState m) then srcSteered
        else if c.chState m = chHoldover then srcHoldover
        else srcFreerun
  let c := c.wr STG_DT_STAT.src src
  c.on (src = srcFallback) fun c =>
    c.each (List.range c.part.nCh) fun c h => c.setGlc h { c.glc h with cur := { (c.glc h).cur with clock := true } }

/-! ## Phase into a SYN (R193, R194) -/

/-- One quantum: 0.25 ps is 16.384 phase units. -/
def quantum : Rat := 16384 / 1000

/-- The quanta that a SYN's accumulator holds, rounded to the nearest. -/
def Syn.quanta (x : Syn) : Int := roundR16 (x.phase / quantum)

/-- SYN_PHASE_PEND and phase_busy follow the accumulator (R193). -/
def Core.synPend (c : Core) (n : Nat) : Core :=
  let q := (c.syn n).quanta
  (c.wrS SYN_PHASE_PEND.pend q n).wrB SYN_STAT.phase_busy (q ≠ 0) n

/-- A discard of a non-zero amount (R194). Log entry 39 (DEDUCED). -/
def Core.synLose (c : Core) (n : Nat) : Core := (c.wr SYN_EVENT.phase_disc 1 n).wr SYN_STAT.phase_lost 1 n

/-- A slice, in 2^-32 phase units, arrives at a SYN: taken up while LOCKED, else discarded (R193, R194). -/
def Core.synSlice (c : Core) (n : Nat) (s : Int) : Core :=
  if c.rd SYN_STAT.state n = 3 then
    (c.setSyn n { c.syn n with phase := (c.syn n).phase + (s : Rat) / 2 ^ 32 }).synPend n
  else if s = 0 then c else c.synLose n

/-- A channel's steering value and slice reach the SYNs it steers; each applies the value at the start of the update
period after its arrival (R100, R182). -/
def Core.steerSyns (c : Core) (h : Nat) (f s : Int) : Core :=
  c.each ((List.range c.part.nSyn).filter (fun n => bitOf (c.rd CH_STEER.syn h) n)) fun c n =>
    let x := c.syn n
    (c.setSyn n { x with fS := x.fNext, fNext := f }).synSlice n s

/-! ## Steering of device time (R36, R100, R123) -/

/-- ψ is the phase of an output relative to device time (R95): when device time is delayed by `s`, in 2^-32 phase units,
every other channel's ψ falls by it. Log entry 29 (DEDUCED). -/
def Core.psiShift (c : Core) (s : Int) : Core :=
  c.each (List.range 12) fun c h =>
    let st := c.chState h
    if c.isMaster h || st = chDisabled || st = chRotor then c
    else c.setChan h { c.chan h with psi := (c.chan h).psi - s }

/-- A step of the master shifts the samples that the stability estimates hold (R123). -/
def Core.memberShift (c : Core) (s : Int) : Core :=
  c.each (List.range 12) fun c h =>
    let g := c.glc h
    c.setGlc h { g with members := g.members.map (fun m => { m with xs := m.xs.map (· - s) }) }

/-- Device time takes up a part of the master's slices: the other channels' ψ falls by `ps`, the estimators and the
stability samples by `es`, 2^-32 phase units (R123). Log entry 29 (DEDUCED). -/
def Core.dtShift (c : Core) (ps es : Int) : Core :=
  let c := c.on (ps ≠ 0) (fun c => c.psiShift ps)
  c.on (es ≠ 0) (fun c => (c.estShift ((es : Rat) / 2 ^ 32)).memberShift es)

/-- What groups 0 to `j` − 1 of a slice take up of an amount (R100). -/
def groupSum (s : Int) (j : Nat) : Int := (j : Int) * s / 256

/-- What device time has still to take up of its slices, and of those that are steps, 2^-32 phase units. -/
def Core.shiftLeft (c : Core) : Int × Int :=
  match c.dShift with
  | [] => (0, 0)
  | (p, e) :: rest =>
    (rest.foldl (fun a x => a + x.1) (p - groupSum p c.dGroup), rest.foldl (fun a x => a + x.2) (e - groupSum e c.dGroup))

/-- How far the master's steps have come: what device time has taken up of all of them, 2^-32 phase units.
Log entry 54 (DEDUCED). -/
def Core.stepDone (c : Core) : Int := c.stepped - c.shiftLeft.2

/-- What device time takes up of the master's steps after a stamp taken when they had come to `a`, phase units: the engine
counts a delay measured with that stamp as if the steps were over (R293). Log entry 54 (DEDUCED). -/
def Core.stepAfter (c : Core) (a : Int) : Int := roundR16 (((c.stepped - a : Int) : Rat) / 2 ^ 32)

/-- What device time has still to take up of its slices is taken up. Log entry 29 (DEDUCED). -/
def Core.dtShiftRest (c : Core) : Core :=
  { c.dtShift c.shiftLeft.1 c.shiftLeft.2 with dShift := c.dShift.map (fun _ => (0, 0)) }

/-- A step of the master, `s` in 2^-32 phase units: the engine shifts the bases, and the o and the delays that its
servos and clients hold, by −s, in this update (R293). A backward delay of a servo, device time first, rises, so that m
stays: `off` is what m, and a difference of two servos, are judged with against the shifted bases, so that no step is
judged. Log entry 54 (DEDUCED). -/
def Core.pteShift (c : Core) (s : Int) : Core :=
  let z : Rat := (s : Rat) / 2 ^ 32
  let sv := fun (_ : Nat) (x : SvU) => { x with
    o := x.o - z, mBase := x.mBase.map (· - z), xBase := x.xBase.map (· - z), df := x.df.map (· - roundR16 z),
    db := x.db.map (· + roundR16 z), lSum := x.lSum - x.lN * z,
    off := if x.mBase.isNone then 0 else x.off - z,
    aside := x.aside.map (fun q => { q with f := q.f - z, oref := q.oref.map (· - z) }) }
  let sl := fun (_ : Nat) (x : Option Slot) => x.map (fun y => { y with
    base := y.base.map (· - z), lastDb := y.lastDb - roundR16 z, aside := y.aside.map (· - roundR16 z) })
  { c with stepped := c.stepped + s, pte := { c.pte with svs := c.pte.svs.mapVals {} sv, slots := c.pte.slots.mapVals none sl } }

/-- The time master no longer steers device time (R100). -/
def Core.masterStill (c : Core) : Core := { c with yMaster := 0, dSlices := [], dShift := [], dGroup := 0 }

end Sys2Proof.Machine
end

