-- ==== Sys2Proof/Machine/GlcOps.lean ====
section
/-! DEFINITION. The Glacier engine's shared operations (R133 to R159): regressors and prediction, model records and states,
the fit, and ensemble weights. -/

namespace Sys2Proof.Machine

/-- The model states (R145). -/
def gsEmpty : Nat := 0
def gsLearning : Nat := 1
def gsValid : Nat := 2

/-- The causes of GLC_MDL_STAT.cause. -/
def gcFirstSample : Nat := 1
def gcConverged : Nat := 2
def gcResidual : Nat := 3
def gcCleared : Nat := 4
def gcDeclared : Nat := 5
def gcNewOsc : Nat := 6
def gcRestored : Nat := 7
def gcRecCrc : Nat := 8
def gcRecFormat : Nat := 9
def gcLoMismatch : Nat := 10
def gcNoRecord : Nat := 11

/-- Device-time seconds. -/
def Core.sec (c : Core) : Nat := c.dt / secDt

/-! ## Regressors and prediction (R133, R134, R139) -/

/-- tsrc in force: codes 11 to 14 act as 15 (R136). -/
def Core.glcSrc (c : Core) (h : Nat) : Nat :=
  let s := c.rd GLC_MDL_CFG.tsrc h
  if 11 ≤ s then 15 else s

/-- Whether term c(j+1) is enabled (R134). -/
def Core.glcTerm (c : Core) (h j : Nat) : Bool :=
  bitOf (c.rd GLC_MDL_CFG.terms h) j && (j ≠ 5 || c.rd GLC_MDL_CFG.lag_tau h ≠ 0) && (j < 2 || c.glcSrc h ≠ 15)

/-- Some temperature term is enabled. -/
def Core.glcTempTerm (c : Core) (h : Nat) : Bool := (List.range 4).any (fun j => c.glcTerm h (j + 2))

/-- Coefficient k, 2^-64 per unit of its regressor; a disabled one reads 0. -/
def Core.glcCoef (c : Core) (h k : Nat) : Int :=
  if k ≠ 0 && !c.glcTerm h (k - 1) then 0
  else toS 64 (c.rd GLC_C_LO.c_lo h k + c.rd GLC_C_HI.c_hi h k * 2 ^ 32)

/-- Coefficient k written, saturating. -/
def Core.glcSetCoef (c : Core) (h k : Nat) (v : Int) : Core :=
  c.wrPair GLC_C_LO.c_lo GLC_C_HI.c_hi (clampI (-(2 ^ 63)) (2 ^ 63 - 1) v) h k

/-- The model origin, seconds. -/
def Core.glcOrigin (c : Core) (h : Nat) : Nat := c.rd GLC_ORIGIN_LO.org_lo h + c.rd GLC_ORIGIN_HI.org_hi h * 2 ^ 32

def Core.glcSetOrigin (c : Core) (h v : Nat) : Core :=
  (c.wr GLC_ORIGIN_LO.org_lo v h).wr GLC_ORIGIN_HI.org_hi (v / 2 ^ 32) h

/-- T and T_lag in 1/256 °C as numbers; 0x8000 in the register means none. -/
def Core.glcT0 (c : Core) (h : Nat) : Option Int :=
  let t := c.rd GLC_T0.t0 h
  if t = 0x8000 then none else some (toS 16 t)

/-- The last completed second and the age in it; the running one where none has been completed (R143).
Log entry 31 (DEDUCED). -/
def Core.glcAt (c : Core) : Nat × Rat := c.secDone.getD (c.sec, c.glcAge)

/-- The regressors 1, t, g, ΔT, ΔT², ΔT³ and L of channel h at a device-time second and an age (R133). -/
def Core.glcRegressors (c : Core) (h : Nat) (sa : Nat × Rat) : List Rat :=
  let g := c.glc h
  let t : Rat := ((sa.1 : Int) - c.glcOrigin h : Int)
  let a0 : Rat := (max 1 (c.rd GLC_AGE_CFG.a0) : Nat)
  let age := numLn (1 + sa.2 / a0)
  let dT : Rat := match g.t, c.glcT0 h with
    | some x, some y => ((x - y : Int) : Rat) / 256
    | _, _ => 0
  let L : Rat := match g.t, g.tLag with
    | some x, some y => ((x : Rat) - y) / 256
    | _, _ => 0
  [1, t, age, dT, dT * dT, dT * dT * dT, L]

/-- f̂ in frequency units at a second and an age, rounded (R133). -/
def Core.glcHat (c : Core) (h : Nat) (sa : Nat × Rat) : Int :=
  let x := c.glcRegressors h sa
  roundR16 (((List.range 7).foldl (fun (a : Rat) k => a + (c.glcCoef h k : Rat) * x.getD k 0) 0) / 65536)

/-- GLC_PRED: f̂ + b at a second and an age (R143). -/
def Core.glcPredAt (c : Core) (h : Nat) (sa : Nat × Rat) : Core :=
  c.wrPair GLC_PRED_LO.p_lo GLC_PRED_HI.p_hi (clampI (-(2 ^ 63)) (2 ^ 63 - 1) (c.glcHat h sa + (c.glc h).b)) h

/-- GLC_PRED recomputed between rollovers, from the regressors of the last completed second (R143). Log entry 31
(DEDUCED). -/
def Core.glcPred (c : Core) (h : Nat) : Core := c.glcPredAt h c.glcAt

/-- The prediction register as a number. -/
def Core.glcPredVal (c : Core) (h : Nat) : Int := toS 64 (c.rd GLC_PRED_LO.p_lo h + c.rd GLC_PRED_HI.p_hi h * 2 ^ 32)

/-- The present value of GLC_TEMP: T of the last second and T_lag. -/
def Core.glcTempReg (c : Core) (h : Nat) : Core :=
  let g := c.glc h
  let c := c.wr GLC_TEMP.t (if g.tNow then (match g.t with | some x => ofS 16 x | none => 0x8000) else 0x8000) h
  c.wr GLC_TEMP.t_lag (match g.tLag with | some x => satS 16 (roundR16 x) | none => 0x8000) h

/-- temp_ok (R133, R149): 0 while T0 is unset, or T or T_lag has never been; it sets at a valid T. -/
def Core.glcTempOk (c : Core) (h : Nat) : Core :=
  let g := c.glc h
  if !c.glcTempTerm h then c
  else if (c.glcT0 h).isNone || g.t.isNone || g.tLag.isNone then c.wr GLC_MDL_STAT.temp_ok 0 h
  else if g.tNow then c.wr GLC_MDL_STAT.temp_ok 1 h else c

/-- ho_valid, which CH_STAT mirrors (R147). -/
def Core.glcHoValid (c : Core) (h : Nat) : Core :=
  let v := c.rd GLC_MDL_STAT.state h = gsValid && (c.rdB GLC_MDL_STAT.bias_ok h || c.rdB GLC_MDL_CFG.cold_ho h)
  (c.wrB GLC_MDL_STAT.ho_valid v h).wrB CH_STAT.ho_valid v h

/-! ## Records (R152, R153, R162) -/

/-- A record write is counted since Course and, with req, asks for a store of the two pages (R153, R163). -/
def Core.glcWrote (c : Core) : Core :=
  let p := c.rd GLC_STORE_CFG.page
  let c := (c.on (2 ≤ c.rd STG_STAT.stage) (fun c => c.bumpWrap GLC_STORE_STAT.writes)).wr GLC_STORE_STAT.dirty 1
  if c.rdB GLC_STORE_CFG.req then c.storeAsk 1 p (p + 1) else c

/-- The nominal oscillator frequency of the image, 1/256 Hz. -/
def Core.loNom (c : Core) : Nat := c.rd RS_LO_NOM_LO.nom_lo + c.rd RS_LO_NOM_HI.nom_hi * 2 ^ 32

/-- The 128 bytes of a channel's model record (R152). -/
def Core.glcRecord (c : Core) (h : Nat) : List Byte :=
  let st := c.rd GLC_MDL_STAT.state h + 4 * c.rd GLC_MDL_STAT.bias_ok h + 8 * c.rd GLC_MDL_STAT.host_prov h
  let lag := match (c.glc h).tLag with | some x => satS 16 (roundR16 x) | none => 0x8000
  let body := [0x47#8, 0x01#8, BitVec.ofNat 8 h, BitVec.ofNat 8 st] ++ bytesLE 4 (c.rd GLC_NSAMP.nsamp h) ++
    bytesLE 6 (c.glcOrigin h) ++ bytesLE 2 0 ++ (List.range 7).flatMap (fun k => bytesLE 8 (ofS 64 (c.glcCoef h k))) ++
    bytesLE 2 (c.rd GLC_T0.t0 h) ++ bytesLE 2 lag ++ bytesLE 1 (c.rd GLC_MDL_CFG.terms h) ++
    bytesLE 1 (c.rd GLC_MDL_CFG.tsrc h) ++ bytesLE 1 (c.rd GLC_MDL_STAT.held h) ++ bytesLE 1 0 ++
    bytesLE 4 (satS 32 (c.glc h).b) ++ bytesLE 4 (c.rd GLC_RES.res h) ++ bytesLE 5 c.loNom ++ List.replicate 31 0#8
  body ++ bytesLE 4 (crc32c body)

/-- The Firn address of a channel's model record. -/
def Core.glcRecAddr (c : Core) (h : Nat) : Nat := c.rd GLC_STORE_CFG.page * 1024 + 128 * h

/-- A channel's model record written into the front (R153). Log entry 32 (DEDUCED). -/
def Core.glcStore (c : Core) (h : Nat) : Core := (c.frontWrite (c.glcRecAddr h) (c.glcRecord h)).glcWrote

/-- The 32 bytes of the age record (R152). -/
def Core.ageRecord (c : Core) : List Byte :=
  let body := [0x41#8, 0x01#8, 0#8, 0#8] ++ bytesLE 4 c.ageBase ++ bytesLE 4 c.secInDay ++ List.replicate 16 0#8
  body ++ bytesLE 4 (crc32c body)

/-- The age record written into the front, with the reserved bytes of its page written 0 (R152, R153). -/
def Core.ageStore (c : Core) : Core :=
  (c.frontWrite ((c.rd GLC_STORE_CFG.page + 1) * 1024 + 512) (c.ageRecord ++ List.replicate 480 0#8)).glcWrote

/-- A GLC_EVENT record (R162). -/
def Core.glcEvent (c : Core) (h ev old cand : Nat) : Core :=
  c.emit 0x1C h (GLC_MDL_CFG.learn_en.addr h 0)
    [packWord [(109, 106, h), (105, 103, ev), (102, 100, c.rd GLC_MDL_STAT.state h), (99, 97, old),
      (96, 93, c.rd GLC_MDL_STAT.cause h), (92, 88, cand), (63, 48, c.rd GLC_ENS_W23.w3 h),
      (47, 32, c.rd GLC_ENS_W23.w2 h), (31, 16, c.rd GLC_ENS_W01.w1 h), (15, 0, c.rd GLC_ENS_W01.w0 h)],
     stamp96 c.now]

/-- The model emptied (R145): coefficients, origin and samples 0, T0 unset, every coefficient held.
Log entry 147 (DESIGN CHOICE). -/
def Core.glcEmpty (c : Core) (h : Nat) : Core :=
  let c := c.each (List.range 7) (fun c k => c.glcSetCoef h k 0)
  let c := (c.glcSetOrigin h 0).wr GLC_T0.t0 0x8000 h
  let c := c.wr GLC_MDL_STAT.held 0x3F h
  let c := c.wr GLC_MDL_STAT.bias_ok 0 h
  let c := c.wr GLC_MDL_STAT.host_prov 0 h
  let c := c.wr GLC_MDL_STAT.restored 0 h
  let c := c.wr GLC_NSAMP.nsamp 0 h
  let c := (c.wr GLC_RES.res 0 h).wr GLC_BIAS.bias 0 h
  let g := c.glc h
  (c.setGlc h { g with gram := [], rhs := [], lastSec := none, spans := [], maxL := 0, rs := [], nBias := 0, b := 0, b0 := 0 }).glcTempOk h

/-- A model takes a state with a cause; the record, the Firn record and the prediction follow (R143, R146, R153). -/
def Core.glcGoto (c : Core) (h new cause : Nat) : Core :=
  let old := c.rd GLC_MDL_STAT.state h
  let c := (c.wr GLC_MDL_STAT.state new h).wr GLC_MDL_STAT.cause cause h
  let c := c.on (new = gsEmpty) (fun c => c.glcEmpty h)
  let c := ((c.glcHoValid h).glcPred h).glcStore h
  let c := c.glcEvent h 0 old 31
  c.on (old = gsValid && new = gsLearning) (fun c => c.raise 16 h)

/-- The settling time of a channel's samples starts anew (R141). -/
def Core.glcUnsettle (c : Core) (h : Nat) : Core := c.setGlc h { c.glc h with settled := 0, midSec := true }

/-! ## The fit (R142) -/

/-- Element of a list of rows. -/
def matAt (m : List (List Rat)) (i j : Nat) : Rat := (m.getD i []).getD j 0

/-- `k` steps of elimination on rows of `n` coefficients and a right-hand side: each step takes a row whose leading
coefficient is not 0 and clears it from the others; `none` where there is no such row. -/
def eliminate (n : Nat) : Nat → Nat → List (List Rat) → Option (List (List Rat))
  | 0, _, m => some m
  | f + 1, k, m =>
    if n ≤ k then some m else
    match (List.range n).find? (fun i => k ≤ i && matAt m i k ≠ 0) with
    | none => none
    | some p =>
      let row := (m.getD p []).map (fun v => v / matAt m p k)
      let other := m.getD k []
      let m1 := (m.set p other).set k row
      let m2 := (List.range n).map (fun i =>
        let r := m1.getD i []
        if i = k then r else (r.zip row).map (fun ab => ab.1 - matAt m1 i k * ab.2))
      eliminate n f (k + 1) m2

/-- The solution of n linear equations given as rows with their right-hand sides. Log entry 104 (DESIGN CHOICE). -/
def solveRows (n : Nat) (m : List (List Rat)) : Option (List Rat) :=
  (eliminate n n 0 m).map (fun r => (List.range n).map (fun i => matAt r i n))

/-- The weighted sums after one more sample x, f: 49 products and 7 right-hand sides, the old ones decayed by `lam`. -/
def fitSums (lam : Rat) (gram rhs x : List Rat) (f : Rat) : List Rat × List Rat :=
  ((List.range 49).map (fun k => lam * gram.getD k 0 + x.getD (k / 7) 0 * x.getD (k % 7) 0),
   (List.range 7).map (fun k => lam * rhs.getD k 0 + x.getD k 0 * f))

/-- The spans required of c1 to c6 (R142), over the (least, greatest) of t, g and ΔT and the greatest |L|. -/
def spanMet (spans : List (Rat × Rat)) (maxL : Rat) (j : Nat) : Bool :=
  let w := fun i => (spans.getD i (0, 0)).2 - (spans.getD i (0, 0)).1
  match j with
  | 0 => decide (3600 ≤ w 0)
  | 1 => decide ((5 : Rat) / 100 ≤ w 1)
  | 2 => decide (2 ≤ w 2)
  | 3 => decide (4 ≤ w 2)
  | 4 => decide (6 ≤ w 2)
  | _ => decide ((1 : Rat) / 2 ≤ maxL)

/-- The coefficients that are fitted: c0, and those enabled and not held. -/
def Core.glcFitted (c : Core) (h : Nat) : List Nat :=
  (List.range 7).filter (fun k => k = 0 || (c.glcTerm h (k - 1) && !bitOf (c.rd GLC_MDL_STAT.held h) (k - 1)))

/-- One accepted sample `f` (frequency units) of a second into the fit (R142): spans and held bits, the decayed sums,
and the solution over the fitted coefficients with the others at their values; where it is not unique they are free.
Log entry 104 (DESIGN CHOICE). -/
def Core.glcFit (c : Core) (h : Nat) (sa : Nat × Rat) (f : Rat) : Core :=
  let g := c.glc h
  let sec := sa.1
  let x := c.glcRegressors h sa
  let grow := fun (p : Option (Rat × Rat)) (v : Rat) => match p with
    | none => (v, v)
    | some (a, b) => (min a v, max b v)
  let spans := (List.range 3).map (fun i => grow g.spans[i]? (x.getD (i + 1) 0))
  let maxL := max g.maxL |x.getD 6 0|
  let held := (List.range 6).foldl (fun m j => if spanMet spans maxL j then clrBit m j else m) (c.rd GLC_MDL_STAT.held h)
  let c := c.wr GLC_MDL_STAT.held held h
  let tau : Nat := max 1 (c.rd GLC_MDL_LIM.fit_tau h) * 3600
  let lam : Rat := match g.lastSec with
    | some l => numExp (-(((sec : Int) - l : Int) : Rat) / tau)
    | none => 0
  let s := fitSums lam g.gram g.rhs x (f * 65536)
  let c := c.setGlc h { g with gram := s.1, rhs := s.2, lastSec := some sec, spans := spans, maxL := maxL }
  let ks := c.glcFitted h
  let n := ks.length
  let rows := ks.map (fun i =>
    ks.map (fun j => s.1.getD (7 * i + j) 0) ++
      [s.2.getD i 0 - ((List.range 7).filter (fun j => !ks.contains j)).foldl
        (fun (a : Rat) j => a + s.1.getD (7 * i + j) 0 * (c.glcCoef h j : Rat)) 0])
  match solveRows n rows with
  | none => c.each ks (fun c k => let v := c.fresh; v.2.glcSetCoef h k (toS 64 (v.1 % 2 ^ 64)))
  | some v => c.each (List.range n) (fun c i => c.glcSetCoef h (ks.getD i 0) (roundR16 (v.getD i 0)))

/-! ## The ensemble (R155 to R159) -/

/-- The candidate of a slot; 31 for an empty one. -/
def Core.ensCand (c : Core) (h m : Nat) : Nat :=
  match m with
  | 0 => c.rd GLC_ENS_MEM.m0 h
  | 1 => c.rd GLC_ENS_MEM.m1 h
  | 2 => c.rd GLC_ENS_MEM.m2 h
  | _ => c.rd GLC_ENS_MEM.m3 h

/-- A candidate's priority in a channel (R108); 0 excludes it. -/
def Core.chPrio (c : Core) (h i : Nat) : Nat := bits (c.rd CH_PRIO.p h (i / 8)) (4 * (i % 8) + 3) (4 * (i % 8))

/-- A candidate is usable by a channel (R108). -/
def Core.chUsable (c : Core) (h i : Nat) : Bool := i < 24 && c.routed h i && c.chPrio h i ≠ 0 && c.usable i

/-- A slot's member is in use (R155). -/
def Core.ensInUse (c : Core) (h m : Nat) : Bool :=
  let x := (c.glc h).members.getD m {}
  c.chUsable h (c.ensCand h m) && 64 ≤ x.n && !x.rejected

/-- The slots whose members are in use. -/
def Core.ensSet (c : Core) (h : Nat) : List Nat := (List.range 4).filter (fun m => c.ensInUse h m)

/-- One round of the limiting of R157 on (weight, fixed) pairs: the unfixed share what the fixed leave, in proportion. -/
def capRound (wmax : Rat) (l : List (Rat × Bool)) : List (Rat × Bool) :=
  let fixedSum := l.foldl (fun (a : Rat) p => if p.2 then a + p.1 else a) 0
  let freeSum := l.foldl (fun (a : Rat) p => if p.2 then a else a + p.1) 0
  let l := l.map (fun p => if p.2 || freeSum = 0 then p else (p.1 / freeSum * (1 - fixedSum), false))
  l.map (fun p => if !p.2 && decide (wmax < p.1) then (wmax, true) else p)

/-- The weights of four slots in 2^-16 from their raw weights, 0 for a slot not in use (R157): normalised, limited,
rounded, and the difference from 65,536 added to the largest. Log entry 28 (DEDUCED). -/
def ensWeights (cap : Nat) (raw : List Rat) : List Nat :=
  let n := (raw.filter (fun r => r ≠ 0)).length
  let tot := raw.foldl (· + ·) (0 : Rat)
  if n = 0 || tot = 0 then raw.map (fun _ => 0) else
  let wmax : Rat := max ((cap : Rat) / 256) (1 / n)
  let l : List (Rat × Bool) := raw.map (fun r => (r / tot, decide (r = 0)))
  let l := capRound wmax (capRound wmax (capRound wmax (capRound wmax l)))
  let w := l.map (fun p => (roundR16 (p.1 * 65536)).toNat)
  let big := w.foldl max 0
  let at0 := w.findIdx (fun v => v = big)
  let sum := w.foldl (· + ·) 0
  w.mapIdx (fun i v => if i = at0 then v + 65536 - sum else v)

/-- A slot's raw weight 1/σ², with σ = 0 taken as 1, in the units of GLC_ADEV (R157). Log entry 28 (DEDUCED). -/
def Core.ensRaw (c : Core) (h m : Nat) : Rat :=
  if !c.ensInUse h m then 0 else
  let s : Rat := max 1 (c.rd GLC_ADEV.adev h m)
  1 / (s * s)

/-- The weights that the present set and estimates give; none while fewer than two members are in use (R155). A single
member holds weight 1. -/
def Core.ensW (c : Core) (h : Nat) : List Nat :=
  let set := c.ensSet h
  match set with
  | [m] => (List.range 4).map (fun i => if i = m then 65536 else 0)
  | _ => ensWeights (c.rd GLC_ENS_CFG.cap h) ((List.range 4).map (fun m => c.ensRaw h m))

/-- The slot of highest weight, the lower on a tie (R155). -/
def ensTop (w : List Nat) : Nat := w.findIdx (fun v => v = w.foldl max 0)

/-- The ensemble status registers: set, weights and readiness (R155, R157). The weights are recomputed at a change of the in-use set
and at a new set of estimates (`fresh`). The result says whether the in-use set and
whether the weights changed. Log entry 107 (DEDUCED). -/
def Core.ensRefresh (c : Core) (h : Nat) (fresh : Bool := false) : Core × Bool × Bool :=
  let set := c.ensSet h
  let mask := set.foldl setBit 0
  let g := c.glc h
  let oldSet := c.rd GLC_ENS_STAT.in_use h
  let oldW := (c.chan h).lastW
  let w := if mask = oldSet && !fresh then oldW else c.ensW h
  let c := c.wr GLC_ENS_STAT.in_use mask h
  let c := c.wr GLC_ENS_STAT.n_in_use set.length h
  let c := c.wrB GLC_ENS_STAT.ready (2 ≤ set.length) h
  let c := c.wr GLC_ENS_STAT.rejected ((List.range 4).foldl (fun a m => if (g.members.getD m {}).rejected then setBit a m else a) 0) h
  let c := c.wr GLC_ENS_STAT.est_ready ((List.range 4).foldl (fun a m => if 64 ≤ (g.members.getD m {}).n then setBit a m else a) 0) h
  let c := (c.wr GLC_ENS_W01.w0 (w.getD 0 0) h).wr GLC_ENS_W01.w1 (w.getD 1 0) h
  let c := (c.wr GLC_ENS_W23.w2 (w.getD 2 0) h).wr GLC_ENS_W23.w3 (w.getD 3 0) h
  let c := c.setChan h { c.chan h with lastW := w }
  let c := if mask = oldSet then c else
    (c.glcUnsettle h).glcEvent h 4 (c.rd GLC_MDL_STAT.state h) 31
  (c, mask ≠ oldSet, w ≠ oldW)

/-- A member's d = φ − θ, 2^-32 phase units. -/
def Core.ensD (c : Core) (h m : Nat) : Int := (c.cand (c.ensCand h m)).outPhi - (c.chan h).thetas.getD m 0

/-- m_i of R158: the weighted mean of the other members' d. -/
def Core.ensMean (c : Core) (h m : Nat) (w : List Nat) : Rat :=
  let others := (c.ensSet h).filter (fun k => k ≠ m)
  let tot : Nat := others.foldl (fun a k => a + w.getD k 0) 0
  if tot = 0 then 0 else
  (others.foldl (fun (a : Rat) k => a + (w.getD k 0 : Rat) * (c.ensD h k : Rat)) 0) / tot

/-- The deviation of a member, 2^-32 phase units. -/
def Core.ensDev (c : Core) (h m : Nat) (w : List Nat) : Rat := |(c.ensD h m : Rat) - c.ensMean h m w|

end Sys2Proof.Machine
end

