-- ==== Sys2Proof/Machine/Rotor.lean ====
section
/-! DEFINITION. Rotor channels and angle-synchronous clocks (R164 to R180): the shaft loop, synchronisation, the flywheel,
revolution stamps, and the meanings of their commands. -/

namespace Sys2Proof.Machine

def rsOff : Nat := 0
def rsStopped : Nat := 1
def rsSyncing : Nat := 2
def rsTracking : Nat := 3
def rsCoasting : Nat := 4

def rcNone : Nat := 0
def rcEnable : Nat := 1
def rcCfgInvalid : Nat := 2
def rcFirstTooth : Nat := 3
def rcSync : Nat := 4
def rcTachLate : Nat := 5
def rcStop : Nat := 6
def rcCoastEnd : Nat := 7
def rcPattern : Nat := 8
def rcForced : Nat := 9
def rcHold : Nat := 10
def rcRelease : Nat := 11
def rcHostResync : Nat := 12
def rcClock : Nat := 13
def rcTeethReturn : Nat := 14
def rcDisable : Nat := 15

/-- The hidden state of a rotor channel. -/
def Core.rot (c : Core) (h : Nat) : Rot := c.rots.get {} h

/-- The hidden state of a rotor channel replaced. -/
def Core.setRot (c : Core) (h : Nat) (x : Rot) : Core := { c with rots := c.rots.set {} h x }

/-- The rotor state code. -/
def Core.rotState (c : Core) (h : Nat) : Nat := c.rd PAL_ROT_STAT.rstate h

/-- The tach pin that the image routes to a channel (R29). -/
def Core.tachPin (c : Core) (h : Nat) : Option Nat :=
  match c.tach.get 0 h with
  | 0 => none
  | n + 1 => some n

/-- The slice's configuration is valid (R166). -/
def Core.rotValid (c : Core) (h : Nat) : Bool :=
  let teeth := c.rd PAL_ROT_CFG.teeth h
  let miss := c.rd PAL_ROT_CFG.missing h
  let z := c.rd PAL_ROT_CFG.zref h
  let ppr := c.rd PAL_ROT_AC.ppr h
  let g := c.rd PAL_ROT_GAP.gap_ratio h
  let leg := match c.tachPin h with
    | some p => c.rdB REF_CFG.leg p
    | none => false
  1 ≤ teeth && teeth ≤ 1024 && decide (2 * miss < teeth) && z ≤ 2 && (z ≠ 0 || 1 ≤ miss) && (z ≠ 1 || leg) &&
    (z ≠ 2 || miss = 0) && 1 ≤ ppr && ppr ≤ 65536 && 20 ≤ g && (z ≠ 0 || decide (10 * g < 128 * (miss + 1)))

/-- The first two conditions of R165: the channel is enabled as a rotor, and its tach pin is enabled in TACH mode. -/
def Core.rotEnabled (c : Core) (h : Nat) : Bool :=
  c.rdB CH_CFG.en h && c.rdB CH_CFG.kind h &&
    match c.tachPin h with
    | some p => p < 16 && c.rdB REF_CFG.en p && c.rd REF_CFG.mode p = 3
    | none => false

/-- `q` reduced to [0, 1) rev. -/
def fracRev (q : Rat) : Rat := q - q.floor

/-- The zero offset that the direction in use selects, rev (R171, R175). -/
def Core.rotZero (c : Core) (h : Nat) : Rat :=
  ((if c.rdB PAL_ROT_STAT.dir h then c.rd PAL_ROT_ZERO_REV.offset h else c.rd PAL_ROT_ZERO_FWD.offset h : Nat) : Rat) / 2 ^ 32

/-- Speed, acceleration, angle, remaining offset and tooth error registers (R166, R180). -/
def Core.rotRegs (c : Core) (h : Nat) : Core :=
  let x := c.rot h
  let c := c.wrU PAL_ROT_SPEED.w (roundR16 (x.w * 65536)) h
  let c := c.wrS PAL_ROT_ACCEL.alpha (roundR16 (x.alpha * 256)) h
  let c := c.wr PAL_ROT_ANGLE.a (ofS 32 (roundR16 (fracRev (x.a - x.zero) * 2 ^ 32))) h
  let c := c.wr PAL_ROT_RESID.delta (ofS 32 (roundR16 (x.resid * 2 ^ 32))) h
  c.wrS CH_PHERR.e (roundR16 (x.e * 2 ^ 32)) h

/-- The time from the last accepted tooth to `t`, in seconds. -/
def Core.rotAge (c : Core) (h t : Nat) : Rat := (((t : Int) - ((c.rot h).tPrev.getD t : Nat) : Int) : Rat) / secPU

/-- How fast a slew removes the remaining offset: slew / 1,024 of the loop's speed, rev/s (R172). -/
def Core.rotSlewRate (c : Core) (h : Nat) : Rat := ((max 1 (c.rd PAL_ROT_SLEW.slew h) : Nat) : Rat) / 1024 * |(c.rot h).w|

/-- The generator's remaining offset Δ, `d` seconds after the last tooth (R172). -/
def Core.rotResidAt (c : Core) (h : Nat) (d : Rat) : Rat :=
  let x := c.rot h
  let lim := c.rotSlewRate h * max 0 (d - x.slewD)
  if |x.resid| ≤ lim then 0 else if 0 < x.resid then x.resid - lim else x.resid + lim

/-- The offset that a slew has still to remove now (R172). -/
def Core.rotLeft (c : Core) (h : Nat) : Rat :=
  if c.rdB PAL_ROT_STAT.fly h then 0 else c.rotResidAt h (c.rotAge h c.now)

/-- What is left of the correction of the last tooth, which the generator takes up linearly over the next expected tooth
interval (R171), `d` seconds after the tooth. -/
def Core.rotCorrAt (c : Core) (h : Nat) (d : Rat) : Rat :=
  let x := c.rot h
  if x.span ≤ d then 0 else x.corr * (1 - d / x.span)

/-- The generator angle at device time `t` (R171, R172): in flywheel operation from its start at a constant speed, else the
loop angle less the remaining offset and less the correction that is still to be taken up. Log entry 109 (DEDUCED). -/
def Core.rotGamma (c : Core) (h t : Nat) : Rat :=
  let x := c.rot h
  if c.rdB PAL_ROT_STAT.fly h then x.gamma + x.gw * (((t : Int) - x.gt : Int) : Rat) / secPU
  else
    let d := c.rotAge h t
    x.a + x.w * d + x.alpha * d * d / 2 - c.rotResidAt h d - c.rotCorrAt h d

/-- The speed of the generator at device time `t`, rev/s (R171, R172). -/
def Core.rotGenSpeed (c : Core) (h t : Nat) : Rat :=
  let x := c.rot h
  if c.rdB PAL_ROT_STAT.fly h then x.gw
  else
    let d := c.rotAge h t
    let left := c.rotResidAt h d
    let slew := if left = 0 then 0 else if 0 < left then c.rotSlewRate h else -c.rotSlewRate h
    x.w + x.alpha * d + slew + (if x.span ≤ d then 0 else x.corr / x.span)

/-- A ROTOR_EVENT record (R177). -/
def Core.rotEvent (c : Core) (h old : Nat) : Core :=
  c.emit 0x21 h (PAL_ROT_CFG.teeth.addr h 0)
    [packWord [(109, 106, h), (105, 103, c.rotState h), (102, 100, old), (99, 96, c.rd PAL_ROT_STAT.cause h),
      (95, 95, c.rd PAL_ROT_STAT.dir h), (63, 32, c.rd PAL_ROT_REVCNT.count h), (31, 0, c.rd PAL_ROT_SPEED.w h)],
     stamp96 c.now]

/-- A written direction takes effect, and with it the zero offset it selects (R175). -/
def Core.rotDir (c : Core) (h : Nat) : Core :=
  let c := (c.wr PAL_ROT_STAT.dir (c.rd PAL_ROT_CFG.dir h) h).wr PAL_ROT_STAT.dir_pend 0 h
  c.setRot h { c.rot h with zero := c.rotZero h }

/-- The loop, its synchronisation and its flags reset; a held direction takes effect (R167, R175). The pulse in progress of
each output completes (R171). -/
def Core.rotReset (c : Core) (h : Nat) : Core :=
  let c := c.rotDir h
  let c := c.wr PAL_ROT_STAT.sync 0 h
  let c := c.wr PAL_ROT_STAT.fly 0 h
  let c := c.wr PAL_ROT_STAT.slewing 0 h
  let c := c.wr PAL_ROT_STAT.overspeed 0 h
  let c := c.wr PAL_ROT_STAT.over_accel 0 h
  let c := c.wr PAL_ROT_STAT.ac_over 0 h
  let c := c.wr PAL_ROT_STAT.bw_clamp 0 h
  let c := c.wr PAL_ROT_STAT.tooth 0 h
  let x := c.rot h
  (c.setRot h { zero := x.zero, lastEdge := x.lastEdge, lastStamp := x.lastStamp, acPulse := x.acPulse, rpPulse := x.rpPulse }).rotRegs h

/-- An angle taken in (−0.5, +0.5] rev (R172). Log entry 108 (DEDUCED). -/
def halfRev (q : Rat) : Rat := if 1 / 2 < fracRev q then fracRev q - 1 else fracRev q

/-- The generator starts to flywheel at device time `t`, from the loop's angle and speed there; what is left of a slew
or of a correction is in its angle (R172). -/
def Core.rotFly (c : Core) (h t : Nat) : Core :=
  if c.rdB PAL_ROT_STAT.fly h then c else
  let x := c.rot h
  let g := c.rotGamma h t
  let c := c.setRot h { x with
    gamma := g, gw := x.w + x.alpha * c.rotAge h t, gt := t, resid := 0, corr := 0, span := 0 }
  ((c.wr PAL_ROT_STAT.fly 1 h).wr PAL_ROT_STAT.slewing 0 h).rotRegs h

/-- The next zero crossing of a generator at the loop angle `g`: the first zero after it. -/
def Rot.zeroAfter (x : Rot) (g : Rat) : Rat := g + 1 - fracRev (g - x.zero)

/-- At the return to TRACKING, Δ = a − γ in (−0.5, +0.5] rev is removed by a step or a slew (R172). The revolution in
progress is the generator's. From STOPPED the edges after the entry count. Log entry 108 (DEDUCED). -/
def Core.rotRejoin (c : Core) (h t : Nat) : Core :=
  let x := c.rot h
  let n : Rat := (max 1 (c.rd PAL_ROT_AC.ppr h) : Nat)
  if !c.rdB PAL_ROT_STAT.fly h then
    c.setRot h { x with
      nextZ := x.zeroAfter x.a, edges := 0, edgeAng := [], edgeFrom := x.zero + (((x.a - x.zero) * n).floor + 1 : Int) / n }
  else
  let g := c.rotGamma h t
  let c := (c.wr PAL_ROT_STAT.fly 0 h).setRot h { x with resid := 0, corr := 0, span := 0 }
  let a := c.rotGamma h t
  let d := halfRev (a - g)
  let k := a - d - g
  let x := { x with
    corr := 0, span := 0, nextZ := x.zeroAfter (a - d), edgeFrom := x.edgeFrom + k, edgeAng := x.edgeAng.map (· + k) }
  let c := if c.rdB PAL_ROT_CFG.resync h then
      (c.setRot h { x with resid := d, slewD := c.rotAge h t, fSlew := x.fSlew || d ≠ 0 }).wrB PAL_ROT_STAT.slewing (d ≠ 0) h
    else c.setRot h { x with resid := 0, fResync := true, stepBy := some (roundR16 (d * c.rd PAL_ROT_AC.ppr h)) }
  c.rotRegs h

/-- The edges of the revolution that ends at the generator angle `b` which the generator, at the angle `g`, has still to make
(R171). Log entry 109 (DEDUCED). -/
def Rot.edgesDue (x : Rot) (n g b : Rat) : Nat :=
  let first := max (((g - x.zero) * n).floor + 1) ((x.edgeFrom - x.zero) * n).ceil
  (((b - x.zero) * n).ceil - first).toNat

/-- A REV_STAMP record for a zero crossing at `t`, the change of REVCNT, and the start of the next revolution (R175 to
R177). `speed`, `accel` and `e` are the values at the crossing, `left` the offset that a slew still has to remove, `g` the
generator's angle when the record is formed; `coast` marks flywheel operation. The edge at the zero angle of the generator, and
those behind it, are of the revolution that begins; those that the generator has still to make before it count in the one that
ends. A changed zero offset moves the next crossing, and the generator removes the change.
Log entries 36 (DEDUCED), 108 (DEDUCED), 109 (DEDUCED). -/
def Core.rotCross (c : Core) (h : Nat) (t : Int) (speed accel e left g : Rat) (coast : Bool) : Core :=
  let x := c.rot h
  let rev := c.rdB PAL_ROT_STAT.dir h
  let n := c.rd PAL_ROT_REVCNT.count h
  let c := c.wr PAL_ROT_REVCNT.count (if rev then n + (2 ^ 32 - 1) else n + 1) h
  let b := if coast then x.zero + roundR16 (g - x.zero) else x.nextZ - left
  let after := x.edgeAng.filter (fun q => decide (b ≤ q))
  let edges := match x.stepBy with
    | some k => ((c.rd PAL_ROT_AC.ppr h : Int) + k).toNat
    | none => x.edges + x.edgesDue (max 1 (c.rd PAL_ROT_AC.ppr h) : Nat) g b - after.length
  let c := c.emit 0x20 h (PAL_ROT_CFG.teeth.addr h 0)
    [packWord [(109, 106, h), (105, 105, b2n coast), (104, 104, b2n x.fResync), (103, 103, b2n x.fSlew),
      (102, 102, b2n x.fZero), (101, 101, b2n x.fPattern), (100, 100, b2n rev), (99, 99, b2n x.fAccel),
      (98, 98, b2n x.fStart), (97, 81, edges), (63, 32, c.rd PAL_ROT_REVCNT.count h),
      (31, 0, satU 32 (roundR16 (speed * 65536)))],
     stamp96 t.toNat,
     packWord [(63, 32, satS 32 (roundR16 (accel * 256))), (31, 0, satS 32 (roundR16 (e * 2 ^ 32)))]]
  let z := c.rotZero h
  let dz := halfRev (z - x.zero)
  let slewNow := c.rdB PAL_ROT_CFG.resync h && dz ≠ 0 && !coast
  let step := dz ≠ 0 && !slewNow
  let resid := if slewNow then x.resid - dz else x.resid
  let k := if slewNow then dz else 0
  let c := c.setRot h { x with
    zero := z, nextZ := x.nextZ + 1 + dz, fZero := dz ≠ 0, fResync := step, fSlew := slewNow || left ≠ 0, fPattern := x.marks.contains 1,
    marks := (x.marks.filter (1 < ·)).map (· - 1), patPrev := x.fPattern, fAccel := c.rdB PAL_ROT_STAT.over_accel h, fStart := false, edges := after.length,
    edgeAng := after.map (· + k), edgeFrom := b + k, resid := resid,
    stepBy := if step then some (roundR16 (dz * c.rd PAL_ROT_AC.ppr h)) else none }
  c.on slewNow (fun c => c.wrB PAL_ROT_STAT.slewing (resid ≠ 0) h)

/-- The time in seconds, from the instant at which the loop has the state `a`, `w`, `alpha`, at which it passes the
angle `z`: the root of a + w·τ + α·τ²/2 = z nearest to that instant, in a form that stays exact as α goes to 0 (R177).
-/
def crossTau (a w alpha z : Rat) : Rat :=
  if alpha = 0 then (z - a) / w else 2 * (z - a) / (w + numSqrt (w * w + 2 * alpha * (z - a)))

/-- The zero crossings of the loop up to the angle `upto`, each timed by the loop state `a`, `w`, `al` of the tooth at
`t` with error `e`; `left` is the offset that a slew still has to remove at a time from that tooth, `g` the generator's
angle; at most `n` (R176, R177). -/
def Core.rotCrossings (c : Core) (h t : Nat) (upto a w al e g : Rat) (left : Rat → Rat) : Nat → Core
  | 0 => c
  | n + 1 =>
    let x := c.rot h
    if upto < x.nextZ then c
    else
      let tau := crossTau a w al x.nextZ
      (c.rotCross h ((t : Int) + (tau * secPU).floor) (w + al * tau) al e (left tau) g false).rotCrossings h t upto a w al e g left n

/-- The zeros that the loop has passed since its last tooth, when it leaves TRACKING for the flywheel at `t`: no later
tooth times them, so the state of the last one does (R176, R177). -/
def Core.rotPassed (c : Core) (h t : Nat) : Core :=
  let x := c.rot h
  let d := c.rotAge h t
  let at_ := x.a + x.w * d + x.alpha * d * d / 2
  c.rotCrossings h (x.tPrev.getD t) at_ x.a x.w x.alpha x.e (c.rotGamma h t) (fun tau => c.rotResidAt h tau) ((at_ - x.nextZ).floor.toNat + 2)

/-- The overspeed and acceleration tests (R170), each fault at the change into its condition. -/
def Core.rotTests (c : Core) (h : Nat) : Core :=
  let x := c.rot h
  let os := decide (((c.rd PAL_ROT_LIM.max_speed h : Nat) : Rat) / 64 < |x.w|)
  let oa := decide (((max 1 (c.rd PAL_ROT_LIM.accel_lim h) : Nat) : Rat) < |x.alpha|)
  let newS := os && !c.rdB PAL_ROT_STAT.overspeed h
  let newA := oa && !c.rdB PAL_ROT_STAT.over_accel h
  let c := (c.wrB PAL_ROT_STAT.overspeed os h).wrB PAL_ROT_STAT.over_accel oa h
  let c := c.setRot h { x with fAccel := x.fAccel || oa }
  let c := c.on newS (fun c => (c.wr PAL_ROT_EVENT.overspeed 1 h).raise 22 h)
  c.on newA (fun c => (c.wr PAL_ROT_EVENT.over_accel 1 h).raise 23 h)

/-- The effective natural frequency in Hz, the lesser of PAL_ROT_BW and teeth × w / 20, and whether the second limits it
(R169). -/
def Core.rotBw (c : Core) (h : Nat) (w : Rat) : Rat × Bool :=
  let f : Rat := (max 1 (c.rd PAL_ROT_BW.fn h) : Nat) / 256
  let g := (c.rd PAL_ROT_CFG.teeth h : Rat) * w / 20
  if g < f then (g, true) else (f, false)

/-- PAL_ROT_STAT.bw_clamp: the second value limits the effective f_n of the loop that runs (R169). -/
def Core.rotClamp (c : Core) (h : Nat) : Core :=
  c.wrB PAL_ROT_STAT.bw_clamp ((c.rotState h = rsTracking || c.rotState h = rsCoasting) && (c.rotBw h (c.rot h).w).2) h

/-- A rotor takes a state with a cause: its indications, fault and record, and what leaving TRACKING and entering the
state do (R167, R168, R170, R172, R176, R178). With the state unchanged only the cause is shown. -/
def Core.rotGoto (c : Core) (h t new cause : Nat) : Core :=
  let old := c.rotState h
  let c := c.wr PAL_ROT_STAT.cause cause h
  if new = old then c else
  let c := c.on (old = rsTracking && (new = rsSyncing || new = rsCoasting)) (fun c => c.rotPassed h t)
  let c := c.wr PAL_ROT_STAT.rstate new h
  let c :=
    if new = rsOff then c.rotReset h
    else if new = rsStopped then (c.rotReset h).on (old = rsOff) (fun c => c.wr PAL_ROT_REVCNT.count 0 h)
    else if new = rsSyncing then
      let c := if old = rsStopped then c else (c.rotFly h t).wr PAL_ROT_STAT.sync 0 h
      c.setRot h { c.rot h with
        ivals := [], normal := [], sinceGap := none, sinceIndex := none, nEdge := 0, armed := false, patPrev := false, marks := [],
        fStart := (c.rot h).fStart || old = rsStopped }
    else if new = rsCoasting then c.rotFly h t
    else (c.rotRejoin h t).rotTests h
  let c := c.on (new = rsStopped) (fun c => c.wr PAL_ROT_EVENT.stopped 1 h)
  let c := c.on (new = rsTracking) (fun c => c.wr PAL_ROT_EVENT.synced 1 h)
  let c := c.on (new = rsCoasting && cause = rcTachLate) (fun c => (c.wr PAL_ROT_EVENT.tach_late 1 h).raise 20 h)
  let c := c.on (new = rsSyncing && cause = rcPattern) (fun c => c.raise 21 h)
  (c.rotClamp h).rotEvent h old

/-- Whether a hold keeps the rotor coasting (R168). -/
def Core.rotHeld (c : Core) (h : Nat) : Bool := c.rdB CH_CTRL.force_ho h || c.rdB CH_STAT.flt_hold h

/-- The one transition that the standing conditions ask for, in the ranking of R168. -/
def Core.rotEval (c : Core) (h : Nat) : Core :=
  let st := c.rotState h
  let t := c.now
  if !c.rotEnabled h then (c.rotGoto h t rsOff (if st = rsOff then c.rd PAL_ROT_STAT.cause h else rcDisable)).rotDir h
  else if !c.rotValid h then (c.rotGoto h t rsOff rcCfgInvalid).rotDir h
  else if st = rsOff then c.rotGoto h t rsStopped rcEnable
  else if st = rsStopped then c.rotDir h
  else
    let c := c.wrB PAL_ROT_STAT.dir_pend (c.rd PAL_ROT_STAT.dir h ≠ c.rd PAL_ROT_CFG.dir h) h
    if c.rdB CH_CTRL.force_fr h then c.rotGoto h t rsStopped rcForced
    else if !c.pclk then c.rotGoto h t rsStopped rcClock
    else if st = rsTracking && c.rotHeld h then c.rotGoto h t rsCoasting rcHold
    else if st = rsCoasting && c.rd PAL_ROT_STAT.cause h = rcHold && !c.rotHeld h then
      c.rotGoto h t (if c.rdB PAL_ROT_STAT.sync h then rsTracking else rsSyncing) rcRelease
    else c

/-- The angle to the next expected tooth, rev (R170). -/
def Core.rotNextStep (c : Core) (h tooth : Nat) : Rat :=
  let teeth := c.rd PAL_ROT_CFG.teeth h
  let miss := c.rd PAL_ROT_CFG.missing h
  (if tooth + 1 + miss = teeth then (miss + 1 : Nat) else 1 : Nat) / (teeth : Rat)

/-- The tooth that follows, and whether it begins a new revolution (R166). -/
def Core.rotNext (c : Core) (h tooth : Nat) : Nat × Bool :=
  if c.rd PAL_ROT_CFG.teeth h ≤ tooth + 1 + c.rd PAL_ROT_CFG.missing h then (0, true) else (tooth + 1, false)

/-- The shaft could stop before the next tooth (R170). -/
def Core.rotMayStop (c : Core) (h : Nat) : Bool :=
  let x := c.rot h
  decide (x.w * x.w < 2 * (max 1 (c.rd PAL_ROT_LIM.accel_lim h) : Nat) * c.rotNextStep h (c.rd PAL_ROT_STAT.tooth h))

/-- The deadline of the next tooth, phase units: t_prev + (1 + late / 64) · t_d, where t_d is the smaller root of
Δθ = w·t − a_lim·t²/2; none where the shaft could stop before the tooth (R170). -/
def Core.rotDeadline (c : Core) (h : Nat) : Option Rat :=
  let x := c.rot h
  if c.rotMayStop h then none
  else x.tPrev.map fun t =>
    let lim : Rat := (max 1 (c.rd PAL_ROT_LIM.accel_lim h) : Nat)
    let td := (x.w - numSqrt (x.w * x.w - 2 * lim * c.rotNextStep h (c.rd PAL_ROT_STAT.tooth h))) / lim
    (t : Rat) + (1 + (c.rd PAL_ROT_GAP.late h : Rat) / 64) * td * secPU

/-- One accepted tooth at `t` with angle θ: the loop step of R169, the slew and the correction of the generator (R171,
R172), the zero crossings (R176, R177) and the tests (R170). -/
def Core.rotTooth (c : Core) (h t tooth : Nat) (revs : Int) : Core :=
  let c0 := c
  let x := c.rot h
  let dt := c.rotAge h t
  let bw := c.rotBw h x.w
  let lam := numExp (-(num2Pi * bw.1 * dt))
  let g1 := 1 - lam * lam * lam
  let g2 := 3 / 2 * (1 - lam) * (1 - lam) * (1 + lam)
  let g3 := 1 / 2 * (1 - lam) * (1 - lam) * (1 - lam)
  let pred := x.a + x.w * dt + x.alpha * dt * dt / 2
  let theta := (revs : Rat) + (tooth : Rat) / (c.rd PAL_ROT_CFG.teeth h : Rat)
  let e := theta - pred
  let a := pred + g1 * e
  let w := x.w + x.alpha * dt + (if dt = 0 then 0 else g2 * e / dt)
  let al := x.alpha + (if dt = 0 then 0 else 2 * g3 * e / (dt * dt))
  let resid := c.rotResidAt h dt
  let corr := c.rotCorrAt h dt + g1 * e
  let c := c.setRot h { x with
    a := a, w := w, alpha := al, e := e, tPrev := some t, revs := revs, resid := resid, slewD := 0, corr := corr,
    span := if 0 < w then c.rotNextStep h tooth / w else 0 }
  let c := (c.rotClamp h).wr PAL_ROT_STAT.tooth tooth h
  let c := c.wrB PAL_ROT_STAT.slewing (resid ≠ 0) h
  let c := c.on (c.rotState h = rsTracking)
    (fun c => (c.rotTests h).rotCrossings h t a a w al e (c0.rotGamma h t) (fun tau => c0.rotResidAt h (dt + tau)) ((a - x.nextZ).floor.toNat + 2))
  let y := c.rot h
  let c := (c.setRot h { y with edgeAng := y.edgeAng.filter (fun q => decide (y.nextZ - |y.resid| ≤ q)) }).rotRegs h
  if w < ((c.rd PAL_ROT_STOP.min_speed h : Nat) : Rat) / 256 then c.rotGoto h t rsStopped rcStop else c

/-- A pattern error: counted and marked for the revolution of its edge, `k` crossings behind the last one stamped; in two
consecutive revolutions it clears sync and ends TRACKING (R174). In COASTING
by HOLD it clears sync, which decides the state at the release (R168). Log entry 35 (DEDUCED). -/
def Core.rotPattern (c : Core) (h t : Nat) : Core :=
  let x := c.rot h
  let d := c.rotAge h t
  let k := if c.rotState h = rsTracking then ((x.a + x.w * d + x.alpha * d * d / 2 - x.nextZ).floor + 1).toNat else 0
  let c := ((c.bump PAL_ROT_PAT_ERR.count h).wr PAL_ROT_EVENT.pattern_err 1 h).setRot h
    (if k = 0 then { x with fPattern := true } else { x with marks := x.marks ++ [k] })
  let prev := if k = 0 then x.patPrev else if k = 1 then x.fPattern else x.marks.contains (k - 1)
  if !prev then c
  else if c.rotState h = rsTracking then c.rotGoto h t rsSyncing rcPattern
  else c.wr PAL_ROT_STAT.sync 0 h

/-- The start of the loop at entry to TRACKING with the tooth just accepted (R173): speed over the last normal interval,
acceleration from the last two. Log entry 35 (DEDUCED). -/
def Core.rotStart (c : Core) (h t tooth : Nat) : Core :=
  let x := c.rot h
  let pitch := 1 / (c.rd PAL_ROT_CFG.teeth h : Rat)
  let sec := fun (d : Nat) => (d : Rat) / secPU
  let w := match x.normal with
    | [] => 0
    | d :: _ => pitch / sec d
  let al := match x.normal with
    | d1 :: d2 :: _ => (pitch / sec d1 - pitch / sec d2) / ((sec d1 + sec d2) / 2)
    | _ => 0
  let zero := if c.rdB PAL_ROT_STAT.fly h then x.zero else c.rotZero h
  let c := c.setRot h { x with
    a := (tooth : Rat) * pitch, w := w, alpha := al, e := 0, tPrev := some t, revs := 0, zero := zero,
    corr := 0, span := 0, resid := 0 }
  let c := (c.wr PAL_ROT_STAT.sync 1 h).wr PAL_ROT_STAT.tooth tooth h
  ((c.rotRegs h).rotGoto h t rsTracking rcSync).rotEval h

/-- An accepted edge in SYNCING: intervals, gaps, the estimate of the speed and the sync condition (R167, R173).
Log entry 35 (DEDUCED). -/
def Core.rotSyncEdge (c : Core) (h t : Nat) : Core :=
  let x := c.rot h
  let d := t - x.tPrev.getD t
  let teeth := c.rd PAL_ROT_CFG.teeth h
  let miss := c.rd PAL_ROT_CFG.missing h
  let gap := 1 ≤ miss && match x.ivals with
    | a :: b :: _ => decide (c.rd PAL_ROT_GAP.gap_ratio h * (a + b) < 32 * d)
    | _ => false
  let z := c.rd PAL_ROT_CFG.zref h
  let sync := if z = 0 then gap && x.sinceGap = some (teeth - miss - 1) else if z = 1 then x.armed else 3 ≤ x.nEdge + 1
  let c := c.setRot h { x with
    tPrev := some t, ivals := (d :: x.ivals).take 2, normal := if gap then x.normal else (d :: x.normal).take 2,
    sinceGap := if gap then some 0 else x.sinceGap.map (· + 1), sinceIndex := x.sinceIndex.map (· + 1),
    nEdge := x.nEdge + 1, w := if gap || d = 0 then x.w else (secPU : Rat) / ((teeth : Rat) * d) }
  let c := c.rotRegs h
  if sync then c.rotStart h t (if z = 2 then 2 % teeth else 0) else c

/-- TACH_EDGE: an edge of the tach at device time `t`. One within 320 ns of the one before is discarded as R63 states;
STOPPED begins SYNCING, COASTING by TACH_LATE returns to it, and TRACKING and COASTING by HOLD check the pattern (R174)
and run the loop (R169). -/
def tachEdgeStep (h : Fin 12) (t : Nat) (c : Core) : Core :=
  let h := h.val
  let st := c.rotState h
  let x := c.rot h
  if st = rsOff then c else
  let near := match x.lastStamp with
    | some l => l ≤ t && decide (t - l < 320 * 65536)
    | none => false
  if near then
    match c.tachPin h with
    | some p => (c.bump REF_MISS_CNT.count p).wr REF_EVENT.overrun 1 p
    | none => c
  else
  let c := c.setRot h { x with lastStamp := some t }
  if st = rsStopped then
    if c.rdB CH_CTRL.force_fr h || !c.pclk then c
    else (c.rotGoto h t rsSyncing rcFirstTooth).setRot h { (c.rotGoto h t rsSyncing rcFirstTooth).rot h with tPrev := some t }
  else if st = rsSyncing then c.rotSyncEdge h t
  else if st = rsCoasting && c.rd PAL_ROT_STAT.cause h = rcTachLate then
    let c := c.rotGoto h t rsSyncing rcTeethReturn
    c.setRot h { c.rot h with tPrev := some t }
  else
    let dt := c.rotAge h t
    let pred := x.a + x.w * dt + x.alpha * dt * dt / 2
    let teeth : Rat := c.rd PAL_ROT_CFG.teeth h
    let n1 := c.rotNext h (c.rd PAL_ROT_STAT.tooth h)
    let r1 := x.revs + (if n1.2 then 1 else 0)
    let off := pred - ((r1 : Rat) + (n1.1 : Rat) / teeth)
    if off < -(1 / (2 * teeth)) then (c.rotPattern h t).wr PAL_ROT_EVENT.spurious 1 h
    else if 1 / (2 * teeth) < off then
      let n2 := c.rotNext h n1.1
      let c := c.rotPattern h t
      if c.rotState h = rsSyncing then c.setRot h { c.rot h with tPrev := some t }
      else c.rotTooth h t n2.1 (r1 + (if n2.2 then 1 else 0))
    else c.rotTooth h t n1.1 r1

/-- INDEX_EDGE: in SYNCING with zref INDEX, the second index after exactly teeth − missing teeth arms tooth 0 (R173). -/
def indexEdgeStep (h : Fin 12) (c : Core) : Core :=
  let h := h.val
  if c.rotState h = rsSyncing && c.rd PAL_ROT_CFG.zref h = 1 then
    let x := c.rot h
    c.setRot h { x with
      armed := x.sinceIndex = some (c.rd PAL_ROT_CFG.teeth h - c.rd PAL_ROT_CFG.missing h), sinceIndex := some 0 }
  else c

/-- The deadline of the next tooth has come at device time `t` (R170). -/
def Core.rotLate (c : Core) (h t : Nat) : Bool :=
  match c.rotDeadline h with
  | some d => decide (d ≤ (t : Rat))
  | none => false

/-- TACH_LATE: at device time `t` a TRACKING rotor has passed the deadline of its next tooth (R168, R170). -/
def tachLateStep (h : Fin 12) (t : Nat) (c : Core) : Core :=
  if c.rotState h = rsTracking && c.rotLate h t then c.rotGoto h t rsCoasting rcTachLate else c

/-- STOP_TIMEOUT: no tooth within stop_to of the last one (R168, R170); in TRACKING and COASTING only where the shaft could
stop before the next tooth. -/
def stopTimeoutStep (h : Fin 12) (c : Core) : Core :=
  let st := c.rotState h
  if st = rsSyncing || ((st = rsCoasting || st = rsTracking) && c.rotMayStop h) then c.rotGoto h c.now rsStopped rcStop else c

/-- COAST_END: the coast limit, in COASTING with no hold, or in flywheel SYNCING (R168). -/
def coastEndStep (h : Fin 12) (c : Core) : Core :=
  let st := c.rotState h
  if (st = rsCoasting && !c.rotHeld h) || (st = rsSyncing && c.rdB PAL_ROT_STAT.fly h) then
    c.rotGoto h c.now rsStopped rcCoastEnd
  else c

/-- FLYWHEEL_CROSSING: the generator's zero crossing at `t` writes a COAST-flagged REV_STAMP (R167, R177).
Log entry 35 (DEDUCED). -/
def flywheelCrossingStep (h : Fin 12) (t : Nat) (c : Core) : Core :=
  if c.rdB PAL_ROT_STAT.fly h && (c.rotState h = rsCoasting || c.rotState h = rsSyncing) then
    c.rotCross h t (c.rot h).gw 0 0 0 (c.rotGamma h t) true
  else c

/-- HOST_RESYNC: a TRACKING rotor returns to SYNCING (R168). Log entry 36 (DEDUCED). -/
def hostResyncStep (h : Fin 12) (c : Core) : Core :=
  c.atReg exHost (PAL_ROT_CTRL.resync.addr h 0) fun c =>
    if c.rotState h = rsTracking then c.rotGoto h c.now rsSyncing rcHostResync else c

/-- The edge of the angle clock that is due about device time `t`, counted from the zero of the generator: the one whose
angle zero + j / ppr is nearest to γ (R171). -/
def Core.rotEdge (c : Core) (h t : Nat) : Int :=
  roundR16 ((c.rotGamma h t - (c.rot h).zero) * max 1 (c.rd PAL_ROT_AC.ppr h))

/-- The generator angle of that edge. -/
def Core.rotEdgeAng (c : Core) (h t : Nat) : Rat := (c.rot h).zero + (c.rotEdge h t : Rat) / (max 1 (c.rd PAL_ROT_AC.ppr h) : Nat)

/-- The instant at which γ passes the angle of that edge, phase units (R171). Log entry 109 (DEDUCED). -/
def Core.rotEdgeDue (c : Core) (h t : Nat) : Rat :=
  let w := c.rotGenSpeed h t
  (t : Rat) + (if w = 0 then 0 else (c.rotEdgeAng h t - c.rotGamma h t) / w * secPU)

/-- The pulse of the angle clock that starts at `q`: high for half the instantaneous period, at least 3.2 ns (R171,
R205). -/
def Core.rotClockPulse (c : Core) (h t : Nat) (q : Rat) : Rat × Rat :=
  let w := |c.rotGenSpeed h t|
  let half := if w = 0 then 0 else (secPU : Rat) / (2 * (max 1 (c.rd PAL_ROT_AC.ppr h) : Nat) * w)
  (placeEdge q, placeEdge (q + max (2 * tsclkPU) half))

/-- The revolution pulse that starts at `q`: high for PAL_ROT_REVP.width TSCLK cycles, or for half a revolution if that is
shorter (R171, R205). -/
def Core.rotRevPulse (c : Core) (h t : Nat) (q : Rat) : Rat × Rat :=
  let w := |c.rotGenSpeed h t|
  let high : Rat := (max 1 (c.rd PAL_ROT_REVP.width h) : Nat) * tsclkPU
  (placeEdge q, placeEdge (q + (if w = 0 then high else min high ((secPU : Rat) / (2 * w)))))

/-- ANGLE_CLOCK_EDGE: about `t` the generator passes zero + j / ppr. The edge is placed at that instant on the grid of R205,
and with edge 0 the revolution pulse. Where ppr × |w| exceeds 62.5 MHz and the edge would come closer than 16 ns to the
previous one it is omitted and counted (R171). An edge not after the entry from STOPPED does not appear. Log entries 35 (DEDUCED), 109 (DEDUCED). -/
def angleClockEdgeStep (h : Fin 12) (t : Nat) (c : Core) : Core :=
  let h := h.val
  let st := c.rotState h
  let fly := c.rdB PAL_ROT_STAT.fly h
  if !(st = rsTracking || st = rsCoasting || (st = rsSyncing && fly)) then c else
  let x := c.rot h
  let ang := c.rotEdgeAng h t
  let mine := decide (x.edgeFrom ≤ ang)
  if x.fStart && !mine then c else
  let w := if fly then x.gw else x.w
  let fast := decide (62500000 < (c.rd PAL_ROT_AC.ppr h : Rat) * |w|)
  let due := c.rotEdgeDue h t
  let near := match x.lastEdge with
    | some l => decide (due - l < 16 * 65536)
    | none => false
  let c := if c.rotEdge h t % (max 1 (c.rd PAL_ROT_AC.ppr h) : Nat) = 0 then
      c.setRot h { x with rpPulse := some (c.rotRevPulse h t due) } else c
  if fast && near then ((c.bump PAL_ROT_OMIT.count h).wr PAL_ROT_STAT.ac_over 1 h).wr PAL_ROT_EVENT.ac_omit 1 h
  else
    let c := c.setRot h { c.rot h with
      edges := x.edges + b2n mine, edgeAng := if mine then ang :: x.edgeAng else x.edgeAng, lastEdge := some due, acPulse := some (c.rotClockPulse h t due) }
    c.on (!fast) (fun c => c.wr PAL_ROT_STAT.ac_over 0 h)

/-! ## The meanings of the commands -/

/-- TACH_EDGE (R169). -/
def execTachEdge (h : Fin 12) (t : Nat) (s : State) : Out := onRunCore (tachEdgeStep h t) s

/-- INDEX_EDGE (R173). -/
def execIndexEdge (h : Fin 12) (s : State) : Out := onRunCore (indexEdgeStep h) s

/-- TACH_LATE (R170). -/
def execTachLate (h : Fin 12) (t : Nat) (s : State) : Out := onRunCore (tachLateStep h t) s

/-- STOP_TIMEOUT (R170). -/
def execStopTimeout (h : Fin 12) (s : State) : Out := onRunCore (stopTimeoutStep h) s

/-- COAST_END (R168). -/
def execCoastEnd (h : Fin 12) (s : State) : Out := onRunCore (coastEndStep h) s

/-- FLYWHEEL_CROSSING (R177). -/
def execFlywheelCrossing (h : Fin 12) (t : Nat) (s : State) : Out := onRunCore (flywheelCrossingStep h t) s

/-- HOST_RESYNC (R168). -/
def execHostResync (h : Fin 12) (s : State) : Out := onRunCore (hostResyncStep h) s

/-- ANGLE_CLOCK_EDGE (R171). -/
def execAngleClockEdge (h : Fin 12) (t : Nat) (s : State) : Out := onRunCore (angleClockEdgeStep h t) s

end Sys2Proof.Machine
end

