-- ==== Sys2Proof/Machine/Chan.lean ====
section
/-! DEFINITION. DPLL channels (R93 to R132): selection, switching, the loop and its pools, states, and the meanings of the
channel commands. -/

namespace Sys2Proof.Machine

/-! ## Causes (R130) -/

def hcEnable : Nat := 0
def hcLock : Nat := 1
def hcLockLost : Nat := 2
def hcNoCandidate : Nat := 3
def hcForceHo : Nat := 4
def hcFltHo : Nat := 5
def hcForceFr : Nat := 6
def hcManual : Nat := 7
def hcFallback : Nat := 8
def hcRevert : Nat := 9
def hcPreempt : Nat := 10
def hcOutvoted : Nat := 11
def hcSlewDone : Nat := 12
def hcEnsemble : Nat := 13
def hcRelease : Nat := 14
def hcDisable : Nat := 15
def hcCandidate : Nat := 16
def hcEnsembleEnd : Nat := 17

/-! ## Selection (R87, R108, R109) -/

/-- The order of R87 as a number: not outvoted, lower stab_log, lower rank, lower index first. -/
def Core.voteKey (c : Core) (i : Nat) : Nat :=
  c.rd REF_STATE.outvoted i * 2 ^ 17 + c.rd REF_STAB.stab_log i * 2 ^ 9 + c.rd REF_STATE.ql_rank i * 2 ^ 5 + i

/-- The order of best(S): QUALIFIED before DEGRADING, lower priority value, then R87. -/
def Core.bestKey (c : Core) (h i : Nat) : Nat :=
  (if c.candState i = csQualified then 0 else 2 ^ 24) + c.chPrio h i * 2 ^ 18 + c.voteKey i

/-- The element of least key. -/
def leastBy (key : Nat → Nat) : List Nat → Option Nat
  | [] => none
  | a :: r => match leastBy key r with
    | none => some a
    | some b => if key b < key a then some b else some a

/-- The candidates usable by a channel. -/
def Core.chUsables (c : Core) (h : Nat) : List Nat := (List.range 24).filter (fun i => c.chUsable h i)

/-- The first line of R109: the manual candidate where it is usable, else the best usable one. -/
def Core.chFirst (c : Core) (h : Nat) : Option Nat :=
  let man := c.rd CH_SEL_CFG.manual h
  if c.chUsable h man then some man else leastBy (c.bestKey h) (c.chUsables h)

/-- The opponent of the current candidate (R87). -/
def Core.chOpponent (c : Core) (h cur : Nat) : Option Nat :=
  leastBy c.voteKey ((c.chUsables h).filter (fun y => y ≠ cur && c.chPrio h y = c.chPrio h cur && c.outvotedBy cur y))

/-- The decision of R109 with a current candidate: the target and the cause of the switch. -/
def Core.chDecide (c : Core) (h cur : Nat) : Option (Nat × Nat) :=
  let man := c.rd CH_SEL_CFG.manual h
  if !c.chUsable h cur then (c.chFirst h).map (fun t => (t, hcFallback))
  else if (c.chan h).manNew && man ≠ cur && c.chUsable h man then some (man, hcManual)
  else if man ≠ cur && c.rdB CH_SEL_CFG.revert h && c.chUsable h man && c.candState man = csQualified then
    some (man, hcRevert)
  else
    let qual := (c.chUsables h).filter (fun i => c.candState i = csQualified)
    if c.candState cur = csDegrading && c.rdB CH_SEL_CFG.preempt h && !qual.isEmpty then
      (leastBy (c.bestKey h) qual).map (fun t => (t, hcPreempt))
    else if c.rdB REF_STATE.outvoted cur then (c.chOpponent h cur).map (fun t => (t, hcOutvoted))
    else none

/-! ## Registers and records -/

/-- CH_STAT.fallback (R111). -/
def Core.fallbackReg (c : Core) (h : Nat) : Core :=
  let man := c.rd CH_SEL_CFG.manual h
  c.wrB CH_STAT.fallback (man ≠ 31 && c.rd CH_STAT.active h ≠ man) h

/-- The channel's registers that follow from its hidden state: error (of a rotor: the last tooth's), steering, pools,
slewing and fallback (R95, R100, R111, R116, R166). Log entry 26 (DESIGN CHOICE). -/
def Core.chRegs (c : Core) (h : Nat) : Core :=
  let x := c.chan h
  let st := c.chState h
  let c := c.wrS CH_PHERR.e (if chRunning st then roundR16 ((x.e : Rat) / 2 ^ 32)
    else if st = chRotor then roundR16 ((c.rot h).e * 2 ^ 32) else 0) h
  let c := c.wrPair CH_FREQ_LO.f_lo CH_FREQ_HI.f_hi x.fS h
  let pool := clampI (-(2 ^ 47)) (2 ^ 47 - 1) (roundR16 (((x.passPool + x.hostPool : Int) : Rat) / 2 ^ 32))
  let c := c.wrPair CH_POOL_LO.pool_lo CH_POOL_HI.pool_hi pool h
  (c.wrB CH_STAT.slewing (x.passPool ≠ 0 || x.hostPool ≠ 0) h).fallbackReg h

/-- A CHAN_EVENT record (R130); `d` is the D of a pass-through or jam, 2^-32 phase units. -/
def Core.chEvent (c : Core) (h old prev cause : Nat) (d : Int) : Core :=
  c.emit 0x18 h (CH_CFG.en.addr h 0)
    [packWord [(109, 106, h), (105, 103, c.chState h), (102, 100, old), (99, 95, c.rd CH_STAT.active h),
      (94, 90, prev), (89, 85, cause), (84, 84, c.rd CH_STAT.fallback h), (83, 83, c.rd CH_STAT.slewing h),
      (82, 82, c.rd CH_STAT.flt_hold h), (47, 0, satS 48 (roundR16 ((d : Rat) / 2 ^ 32)))],
     stamp96 c.now]

/-! ## Pools (R117, R121, R122) -/

/-- The limit of each pool in 2^-32 phase units (R122). -/
def poolMax : Int := (2 ^ 45 - 1) * 2 ^ 32

/-- pool_sat and FS12 (R122). -/
def Core.poolSat (c : Core) (h : Nat) (big : Bool) : Core :=
  c.on big (fun c => (c.wr CH_EVENT.pool_sat 1 h).raise 12 h)

/-- An amount into the pass pool. -/
def Core.passAdd (c : Core) (h : Nat) (d : Int) : Core :=
  let x := c.chan h
  let v := x.passPool + d
  (c.setChan h { x with passPool := clampI (-poolMax) poolMax v }).poolSat h (decide (poolMax < v.natAbs))

/-- A host commit into the host pool; its mode governs the whole pool (R121). -/
def Core.hostAdd (c : Core) (h : Nat) (d : Int) (step : Bool) : Core :=
  let x := c.chan h
  let v := x.hostPool + d
  (c.setChan h { x with hostPool := clampI (-poolMax) poolMax v, hostStep := step }).poolSat h (decide (poolMax < v.natAbs))

/-- The slice allowance of one update in 2^-32 phase units, rate × t_u (R117). -/
def Core.slewAllow (c : Core) (h : Nat) : Nat := max 1 (c.rd CH_SLEW.rate h) * 2 ^ 42 / 5 ^ 9

/-- One update's drain: the slice, the part of it applied as a step, and the pools left; `j` is the jammed D that the update
takes, none in the one that enters ACQUIRING (R117, R118, R121). -/
def Chan.drain (x : Chan) (allow : Nat) (j : Int) : Int × Int × Chan :=
  let p := clampI (-(allow : Int)) allow x.passPool
  let rest : Nat := allow - p.natAbs
  let s := if x.hostStep then x.hostPool else clampI (-(rest : Int)) rest x.hostPool
  let stepped := j + (if x.hostStep then x.hostPool else 0)
  (p + s + j, stepped,
   { x with passPool := x.passPool - p, hostPool := x.hostPool - s, hostStep := false, jam := x.jam - j })

/-! ## Changes of state (R101 to R106) -/

/-- A channel takes a state with a cause and an active candidate; `d` is D of R116. Its indications, faults and record, and
what entering the state does. -/
def Core.chGoto (c : Core) (h new cause act : Nat) (d : Int := 0) : Core :=
  let old := c.chState h
  let prev := c.rd CH_STAT.active h
  let c := (c.wr CH_STAT.state new h).wr CH_STAT.active act h
  let c := if new = chLocked || new = chEnsemble then c
    else c.setGlc h { c.glc h with cur := { (c.glc h).cur with stateOk := false } }
  let c :=
    if new = chDisabled then
      let c := c.setChan h {}
      let c := ((c.wr CH_STAT.flim 0 h).wr CH_STAT.bw_clamp 0 h)
      if c.isMaster h then c.masterStill else c
    else if new = chFreerun then
      let c := c.setChan h { c.chan h with acc := 0, eLast := 0, e := 0, fS := 0, limited := false, lockRun := 0, unlockRun := 0 }
      let c := ((c.wr CH_STAT.flim 0 h).wr CH_STAT.bw_clamp 0 h)
      if c.isMaster h then c.masterStill else c
    else if new = chHoldover then
      let p := c.glcPredVal h
      let c := c.setChan h { c.chan h with hoFrom := p, hoTo := p, hoN := 0, lockRun := 0, unlockRun := 0, e := 0 }
      ((c.wr GLC_HO_SEC.sec 0 h).wr CH_STAT.bw_clamp 0 h).glcStore h
    else if new = chAcquiring then
      c.setChan h { c.chan h with lockRun := 0, unlockRun := 0 }
    else if new = chLocked || new = chEnsemble then
      let c := c.glcUnsettle h
      let c := if old = chAcquiring then c.setChan h { c.chan h with unlockRun := 0 } else c
      if c.isMaster h then { c with dtLocked := true } else c
    else c
  let c := (c.chRegs h).dtSource
  let c := c.on (new = chFreerun) (fun c => c.wr CH_EVENT.freerun 1 h)
  let c := c.on (new = chHoldover) (fun c => c.wr CH_EVENT.holdover 1 h)
  let c := c.on (new = chLocked) (fun c => c.wr CH_EVENT.locked 1 h)
  let c := c.on (cause = hcLockLost) (fun c => c.wr CH_EVENT.lock_lost 1 h)
  let c := c.chEvent h old prev cause d
  let c := c.on (new = chHoldover) (fun c => c.raise 9 h)
  let c := c.on (cause = hcLockLost) (fun c => c.raise 10 h)
  c.on (new = chFreerun && cause = hcNoCandidate) (fun c => c.raise 13 h)

/-- CH_TOFFS, the target of a pass-through, 2^-32 phase units (R116). -/
def Core.chToffs (c : Core) (h : Nat) : Int :=
  toS 48 (c.rd CH_TOFFS_LO.toffs_lo h + c.rd CH_TOFFS_HI.toffs_hi h * 2 ^ 32) * 2 ^ 32

/-- The build-out of a new candidate by R113: hitless (R114), or a pass-through (R116) whose D enters the pass pool, or is
stepped where `jam` allows it and |D| exceeds jam_thr (R118). The result carries D. -/
def Core.buildOut (c : Core) (h b : Nat) (jam : Bool) : Core × Int :=
  let x := c.chan h
  let cand := c.cand b
  let c := c.setChan h { x with epoch := c.rd REF_STATE.phase_epoch b, jumps := cand.jumps }
  let x := c.chan h
  let th := cand.outPhi - x.psi + x.eta - x.eLast
  if c.rdB CH_CFG.ctype h && c.candIsTime b && !c.rdB CH_CFG.policy h then
    let off := c.chToffs h
    let d := th - off
    let x := { x with theta := off, eta := x.eta - d }
    if jam && decide ((c.rd CH_ACQ_CFG.jam_thr h : Int) * 65536 * 2 ^ 32 < d.natAbs) then
      (c.setChan h { x with jam := x.jam + d }, d)
    else ((c.setChan h x).passAdd h d, d)
  else (c.setChan h { x with theta := th }, 0)

/-- y_ref of R96: 0 for the time master. -/
def Core.yRef (c : Core) (h : Nat) : Int := if c.isMaster h then 0 else c.yMaster

/-- The bound on |f_s| in frequency units (R96, R99). -/
def Core.flimMax (c : Core) (h : Nat) : Int := ((min (2 ^ 26) (c.rd CH_FLIM.flim h) * 2 ^ 12 : Nat) : Int)

/-- A steering value under CH_FLIM: the bound sets flim, and at the first limited update freq_limit and FS11 (R99). -/
def Core.steerLimit (c : Core) (h : Nat) (fu : Rat) : Core × Bool :=
  let lim := c.flimMax h
  let big := decide ((lim : Rat) < |fu|)
  let f := if big then (if 0 ≤ fu then lim else -lim) else roundR16 fu
  let first := big && !(c.chan h).limited
  let c := (c.setChan h { c.chan h with fS := f, limited := big }).wrB CH_STAT.flim big h
  (c.on first (fun c => (c.wr CH_EVENT.freq_limit 1 h).raise 11 h), big)

/-- Acquisition from FREERUN or HOLDOVER (R106): the candidate, its build-out, the preload of acc, ACQUIRING. A candidate
whose phase does not yet belong to its epoch postpones it (R114). Log entry 24 (DEDUCED). -/
def Core.chAcquire (c : Core) (h b : Nat) : Core :=
  if (c.cand b).restart then c else
  let st := c.chState h
  let r := c.buildOut h b (if st = chHoldover then c.rdB CH_ACQ_CFG.jam_ho h else c.rdB CH_ACQ_CFG.jam_en h)
  let c := r.1
  let x := c.chan h
  let acc : Rat := if c.rdB CH_LOOP_CFG.preload h
    then -(((c.cand b).outY + (if c.isMaster h then c.yMaster else 0) : Int) : Rat) / 2 ^ 21
    else if st = chFreerun then 0 else x.acc
  let c := c.setChan h { x with acc := acc, e := (c.cand b).outPhi - x.theta - x.psi + x.eta }
  let c := (c.steerLimit h (-acc * 2 ^ 21 + (c.yRef h : Rat))).1
  c.chGoto h chAcquiring (if (c.chan h).released then hcRelease else hcCandidate) b r.2

/-- The conditions that force a channel (R102). -/
def Core.chForced (c : Core) (h : Nat) : Bool :=
  c.rdB CH_CTRL.force_fr h || c.rdB CH_CTRL.force_ho h || c.rdB CH_STAT.flt_hold h

/-- The transitions that the enable and the forces ask for (R102, ranks 1 to 3 of R103), and the start of an enabled channel
(R417); a ROTOR channel follows R168. Log entries 22 (DEDUCED), 23 (DEDUCED), 101 (DESIGN CHOICE). -/
def Core.chEval (c : Core) (h : Nat) : Core :=
  if c.part.nCh ≤ h || c.inRst.contains (1, h) then c else
  let st := c.chState h
  let force := c.rdB CH_CTRL.force_ho h || c.rdB CH_STAT.flt_hold h
  if !c.rdB CH_CFG.en h then
    (if st = chDisabled then c else c.chGoto h chDisabled hcDisable 31).rotEval h
  else if st = chDisabled then
    if !c.estRun then c
    else if c.rdB CH_CFG.kind h then (c.chGoto h chRotor hcEnable 31).rotEval h
    else c.chGoto h chFreerun hcEnable 31
  else if st = chRotor then c.rotEval h
  else if c.rdB CH_CTRL.force_fr h then (if st = chFreerun then c else c.chGoto h chFreerun hcForceFr 31)
  else if force && c.rdB CH_STAT.ho_valid h && st ≠ chHoldover then
    c.chGoto h chHoldover (if c.rdB CH_CTRL.force_ho h then hcForceHo else hcFltHo) 31
  else c

/-! ## Switching (R110, R111, R119) -/

/-- A switch of active candidate takes effect (R110). Log entries 25 (DEDUCED), 27 (DEDUCED). -/
def Core.chSwitch (c : Core) (h cur tgt cause : Nat) : Core :=
  let x := c.chan h
  let x := if c.chUsable h cur then { x with eLast := (c.cand cur).outPhi - x.theta - x.psi + x.eta } else x
  let r := (c.setChan h { x with manNew := false, lockRun := 0 }).buildOut h tgt false
  let c := (r.1.wr CH_STAT.active tgt h).bump CH_SWITCH_CNT.count h
  let c := (c.wr CH_EVENT.switch 1 h).chRegs h
  let c := c.glcUnsettle h
  let away := cur = c.rd CH_SEL_CFG.manual h && (cause = hcFallback || cause = hcPreempt || cause = hcOutvoted)
  let c := c.on away (fun c => if cause = hcPreempt then c.wr CH_EVENT.preempt 1 h else c.wr CH_EVENT.fallback 1 h)
  let c := c.chEvent h (c.chState h) cur cause r.2
  c.on away (fun c => c.raise 8 h)

/-- The active candidate's new phase epoch or jump re-anchors the channel (R119). Log entry 30 (DEDUCED). -/
def Core.chReanchor (c : Core) (h cur : Nat) : Core :=
  let x := c.chan h
  if (c.cand cur).restart || (x.epoch = c.rd REF_STATE.phase_epoch cur && x.jumps = (c.cand cur).jumps) then c
  else (c.buildOut h cur false).1

/-- Selection at the start of an update period: the switch decided, else the re-anchoring (R109, R110, R119). A switch to a
candidate whose phase is not of its current epoch is postponed by one update, and man_new with it (R114). -/
def Core.chSelect (c : Core) (h : Nat) : Core :=
  let cur := c.rd CH_STAT.active h
  match c.chDecide h cur with
  | some (t, cause) =>
    if t = cur then c.setChan h { c.chan h with manNew := false }
    else if !(c.cand t).restart then c.chSwitch h cur t cause
    else if c.chUsable h cur then c.chReanchor h cur else c
  | none => (c.setChan h { c.chan h with manNew := false }).chReanchor h cur

/-! ## The ensemble in a channel (R107, R158, R159) -/

/-- A member's build-out by R114 against an error `e`. Log entry 27 (DEDUCED). -/
def Core.ensAnchor (c : Core) (h m : Nat) (e : Int) : Core :=
  let x := c.chan h
  let i := c.ensCand h m
  c.setChan h { x with
    thetas := x.thetas.set m ((c.cand i).outPhi - x.psi + x.eta - e), mErr := x.mErr.set m e,
    mEpoch := x.mEpoch.set m (c.rd REF_STATE.phase_epoch i), mJumps := x.mJumps.set m (c.cand i).jumps }

/-- R158: with three or more members in use, the one that deviates most is rejected where it exceeds out_lim; the result
says whether one was. -/
def Core.ensReject (c : Core) (h : Nat) : Core × Bool :=
  let set := c.ensSet h
  let lim : Nat := c.rd GLC_ENS_CFG.out_lim h * 1024 * 2 ^ 32
  if set.length < 3 || lim = 0 then (c, false) else
  let w := (c.chan h).lastW
  let worst := set.foldl (fun (b : Option Nat) m => match b with
    | none => some m
    | some k => if c.ensDev h k w < c.ensDev h m w then some m else some k) none
  match worst with
  | none => (c, false)
  | some m =>
    if c.ensDev h m w ≤ lim then (c, false) else
    let g := c.glc h
    let c := c.setGlc h { g with members := g.members.set m { g.members.getD m {} with rejected := true } }
    let c := c.bump GLC_ENS_REJ_CNT.count h
    let c := (c.ensRefresh h).1
    ((c.glcEvent h 2 (c.rd GLC_MDL_STAT.state h) (c.ensCand h m)).raise 19 h, true)

/-- Estimates of members whose candidate has left the running states are cleared (R156). -/
def Core.ensEstimates (c : Core) (h : Nat) : Core :=
  c.each (List.range 4) fun c m =>
    let g := c.glc h
    let i := c.ensCand h m
    let x := g.members.getD m {}
    if (i < 24 && candRunning (c.candState i)) || (x.n = 0 && x.xs.isEmpty) then c
    else (c.setGlc h { g with members := g.members.set m { rejected := x.rejected } }).wr GLC_ADEV.adev 0 h m

/-- The ensemble's error from the members in use (R107). -/
def Core.ensError (c : Core) (h : Nat) : Rat :=
  let x := c.chan h
  ((List.range 4).foldl (fun (a : Rat) m => a + ((x.lastW.getD m 0 : Nat) : Rat) * (c.ensD h m : Rat)) 0) / 65536 - x.psi + x.eta

/-- A member whose candidate has a new epoch or jump is re-anchored on its own θ_i, as the active candidate is, from its
own error of the last update (R119): in a TIME channel with policy AUTO a TIME member takes CH_TOFFS as θ_i, and its D
passes, by its weight, through the pass pool; else the member is taken up hitlessly. Log entry 27 (DEDUCED). -/
def Core.ensRejump (c : Core) (h m : Nat) : Core :=
  let x := c.chan h
  let i := c.ensCand h m
  let own := x.mErr.getD m 0
  if c.rdB CH_CFG.ctype h && c.candIsTime i && !c.rdB CH_CFG.policy h then
    let d := (c.cand i).outPhi - x.psi + x.eta - own - c.chToffs h
    let a := roundFree (((x.lastW.getD m 0 : Nat) : Rat) * d / 65536)
    (c.setChan h { x with
      thetas := x.thetas.set m (c.chToffs h), eta := x.eta - a, mEpoch := x.mEpoch.set m (c.rd REF_STATE.phase_epoch i),
      mJumps := x.mJumps.set m (c.cand i).jumps }).passAdd h a
  else c.ensAnchor h m own

/-- δ of R159 into the build-out of every member in use, so that e keeps its value. -/
def Core.ensKeep (c : Core) (h : Nat) (e : Int) : Core :=
  let set := c.ensSet h
  let dl := roundR16 (c.ensError h - e)
  let x := c.chan h
  c.setChan h { x with thetas := (List.range 4).map (fun m => x.thetas.getD m 0 + (if set.contains m then dl else 0)) }

/-- The estimates, the in-use set and the weights of a channel, and in ENSEMBLE what follows a change of them: joining
members are anchored to the previous error, members that jumped are re-anchored, and e keeps its value (R119, R156,
R159). In an update (`check`) at most one member is then rejected, e again keeping its value (R158). Log entry 27
(DEDUCED). -/
def Core.ensUpdate (c : Core) (h : Nat) (check : Bool) (fresh : Bool := false) : Core :=
  let oldSet := c.rd GLC_ENS_STAT.in_use h
  let r := (c.ensEstimates h).ensRefresh h fresh
  let c := r.1
  if c.chState h ≠ chEnsemble then c else
  let e := (c.chan h).e
  let moved := fun (c : Core) (m : Nat) =>
    let i := c.ensCand h m
    let x := c.chan h
    x.mEpoch.getD m 0 ≠ c.rd REF_STATE.phase_epoch i || x.mJumps.getD m 0 ≠ (c.cand i).jumps
  let jumped := (c.ensSet h).any (fun m => moved c m)
  let c := c.each (c.ensSet h) fun c m =>
    if !bitOf oldSet m then c.ensAnchor h m e else if moved c m then c.ensRejump h m else c
  let c := c.on (r.2.1 || r.2.2 || jumped || oldSet ≠ c.rd GLC_ENS_STAT.in_use h) (fun c => c.ensKeep h e)
  let j := if check then c.ensReject h else (c, false)
  let c := j.1.on j.2 (fun c => c.ensKeep h e)
  c.on (2 ≤ (c.ensSet h).length) fun c => (c.wr CH_STAT.active (c.ensCand h (ensTop (c.chan h).lastW)) h).fallbackReg h

/-- LOCKED to ENSEMBLE: every member in use is anchored to the present error (R102, R159). -/
def Core.ensEnter (c : Core) (h : Nat) : Core :=
  let e := (c.chan h).e
  let c := c.each (c.ensSet h) (fun c m => c.ensAnchor h m e)
  c.chGoto h chEnsemble hcEnsemble (c.ensCand h (ensTop (c.chan h).lastW))

/-- ENSEMBLE to LOCKED on a candidate, whose build-out keeps the error (R102, R159). -/
def Core.ensLeave (c : Core) (h i : Nat) : Core :=
  let x := c.chan h
  let c := c.setChan h { x with
    theta := (c.cand i).outPhi - x.psi + x.eta - x.e, epoch := c.rd REF_STATE.phase_epoch i, jumps := (c.cand i).jumps }
  c.chGoto h chLocked hcEnsembleEnd i

/-! ## The update (R96 to R100, R104) -/

/-- ζ and ω_3dB / ω_n of CH_LOOP_CFG.zeta (R97). -/
def zetaTable (z : Nat) : Rat × Rat :=
  match z with
  | 0 => (5 / 10, 1817 / 1000)
  | 1 => (707 / 1000, 2058 / 1000)
  | 2 => (1, 2482 / 1000)
  | 3 => (15 / 10, 3330 / 1000)
  | 4 => (2, 4249 / 1000)
  | 5 => (3, 6167 / 1000)
  | 6 => (4, 8125 / 1000)
  | _ => (5, 10100 / 1000)

/-- CH_BW in Hz under the limits of R97. -/
def Core.chBw (c : Core) (h : Nat) : Rat := ((max 105 (min 4194304000 (c.rd CH_BW.bw h)) : Nat) : Rat) / 2 ^ 20

/-- The effective bandwidth, and whether the stamp rate of the active candidate limits it (R98). -/
def Core.chEffBw (c : Core) (h act : Nat) : Rat × Bool :=
  let b := c.chBw h * (if c.chState h = chAcquiring then 2 ^ c.rd CH_LOOP_CFG.acq_mult h else 1)
  let r := (secPU : Rat) / c.candPeriod act / 20
  let m := min b 4000
  if r < m then (r, true) else (m, false)

/-- Kp and Ki (R96, R97). -/
def Core.chGains (c : Core) (h : Nat) (bw : Rat) : Rat × Rat :=
  let zk := zetaTable (c.rd CH_LOOP_CFG.zeta h)
  let wt := num2Pi * bw / zk.2 * (2048 / 1000000000)
  (2 * zk.1 * wt, wt * wt)

/-- The loop of one update in ACQUIRING, LOCKED or ENSEMBLE: e, the gains, the advanced integrator, the clamp (R95 to R99);
e_last is kept of updates with a usable active candidate (R101). -/
def Core.chLoop (c : Core) (h : Nat) : Core :=
  let act := c.rd CH_STAT.active h
  let x := c.chan h
  let e := if c.chState h = chEnsemble then roundFree (c.ensError h) else (c.cand act).outPhi - x.theta - x.psi + x.eta
  let d := c.coreData e
  let e := roundR16 d.1
  let c := d.2
  let bw := c.chEffBw h act
  let k := c.chGains h bw.1
  let ep := (e : Rat) / 2 ^ 32
  let acc := x.acc + k.2 * ep
  let c := (c.setChan h { x with
    e := e, eLast := if c.chUsable h act then e else x.eLast,
    mErr := (List.range 4).map (fun m => c.ensD h m - x.psi + x.eta) }).wrB CH_STAT.bw_clamp bw.2 h
  let r := c.steerLimit h (-(k.1 * ep + acc) * 2 ^ 21 + (c.yRef h : Rat))
  if r.2 then r.1 else r.1.setChan h { r.1.chan h with acc := acc }

/-- The holdover steering of one update: linear from P_{k−1} to P_k over the second (R148). Log entry 31 (DEDUCED). -/
def Core.chCoast (c : Core) (h : Nat) : Core :=
  let x := c.chan h
  let part := min 1 ((x.hoN : Rat) * 2048 / 1000000000)
  let c := c.setChan h { x with hoN := x.hoN + 1 }
  (c.steerLimit h ((x.hoFrom : Rat) + ((x.hoTo - x.hoFrom : Int) : Rat) * part)).1

/-- The time master's steering reaches device time: y_master, and the slice spread over the next 256 groups, with which the
other channels' ψ shift, and, where it is applied as a step, the estimators and the stability samples; the engine's bases
shift in this update (R36, R100, R123, R293). In FREERUN both are 0. Log entry 29 (DEDUCED). -/
def Core.steerMaster (c : Core) (h : Nat) (s stepped : Int) : Core :=
  let c := c.dtShiftRest
  if c.chState h = chFreerun then { c with yMaster := 0 } else
  let c := { c with yMaster := clampI (-(2 ^ 38)) (2 ^ 38) (c.chan h).fS }
  if s = 0 then c else
  let c := { c with dSlices := c.dSlices ++ [s], dShift := c.dShift ++ [(s, stepped)] }
  c.on (stepped ≠ 0) (fun c => c.pteShift stepped)

/-- The drain of one update, ψ and η, the delivery of the steering, unless its link loses it, and the completion of a slew
(R96, R100, R117, R118). Log entries 29 (DEDUCED), 133 (DEDUCED). -/
def Core.chDeliver (c : Core) (h : Nat) (j : Int) : Core :=
  let x := c.chan h
  let before := x.passPool ≠ 0 || x.hostPool ≠ 0
  let dr := x.drain (c.slewAllow h) j
  let s := dr.1
  let y := dr.2.2
  let nu := y.fS - c.yRef h
  let psi := if c.isMaster h then 0 else y.psi - nu * 2 ^ 11 + s
  let gone := before && y.passPool = 0 && y.hostPool = 0
  let c := c.setChan h { y with psi := psi, eta := y.eta + s, emptied := gone }
  let v := c.linkVal 1 h
  let c := if !v.2 then v.1 else if c.isMaster h then v.1.steerMaster h s dr.2.1 else v.1.steerSyns h y.fS s
  let c := c.chRegs h
  if gone then
    (c.wr CH_EVENT.slew_done 1 h).chEvent h (c.chState h) (c.rd CH_STAT.active h) hcSlewDone 0
  else c

/-- The lock and unlock conditions at the end of an update (R104): the error has stayed within lock_thr over
CH_LOCK_TIME, or beyond unlock_thr for 16 updates. A channel that unlocks from ENSEMBLE goes on with its active member
at the present error. Log entry 25 (DEDUCED). -/
def Core.chLockCheck (c : Core) (h : Nat) : Core :=
  let x := c.chan h
  let st := c.chState h
  let unit : Nat := 1024 * 2 ^ 32
  if st = chAcquiring then
    if x.e.natAbs ≤ c.rd CH_LOCK_CFG.lock_thr h * unit then
      let c := c.setChan h { x with lockRun := x.lockRun + 1 }
      if max 1 (c.rd CH_LOCK_TIME.time h) * 10000000 ≤ x.lockRun * 2048 then c.chGoto h chLocked hcLock (c.rd CH_STAT.active h)
      else c
    else c.setChan h { x with lockRun := 0 }
  else if st = chLocked || st = chEnsemble then
    if c.rd CH_LOCK_CFG.unlock_thr h * unit < x.e.natAbs then
      let c := c.setChan h { x with unlockRun := x.unlockRun + 1 }
      if 16 ≤ x.unlockRun + 1 then
        let act := c.rd CH_STAT.active h
        let x := c.chan h
        let c := if st = chLocked then c else c.setChan h { x with
          theta := (c.cand act).outPhi - x.psi + x.eta - x.e,
          epoch := c.rd REF_STATE.phase_epoch act, jumps := (c.cand act).jumps }
        c.chGoto h chAcquiring hcLockLost act
      else c
    else c.setChan h { x with unlockRun := 0 }
  else c

/-- What the second in progress learns of this update (R141). -/
def Core.chSample (c : Core) (h : Nat) : Core :=
  let g := c.glc h
  let x := c.chan h
  let st := c.chState h
  c.setGlc h { g with cur := {
    sum := g.cur.sum + x.fS, n := g.cur.n + 1, stateOk := g.cur.stateOk && (st = chLocked || st = chEnsemble),
    flim := g.cur.flim || x.limited, clock := g.cur.clock || c.rd STG_DT_STAT.src = srcFallback } }

/-- The one change of state of this update among those of ranks 1 to 4 and the acquisition, evaluated at its start (R102,
R103); the Boolean says that there was one. Log entry 23 (DEDUCED). -/
def Core.chTransit (c : Core) (h : Nat) : Core × Bool :=
  let st := c.chState h
  let c1 := c.chEval h
  if c1.chState h ≠ st then (c1, true) else
  let lack := if st = chEnsemble then (c.ensSet h).isEmpty else (c.chUsables h).isEmpty
  if chRunning st && lack then
    (if c.rdB CH_STAT.ho_valid h then c.chGoto h chHoldover hcNoCandidate 31 else c.chGoto h chFreerun hcNoCandidate 31, true)
  else if (st = chFreerun || st = chHoldover) && !c.chForced h then
    match c.chFirst h with
    | some b => let c2 := c.chAcquire h b; (c2, decide (c2.chState h ≠ st))
    | none => (c, false)
  else (c, false)

/-- The entry to ENSEMBLE and the return to LOCKED, of rank 6: in an update whose error does not unlock the channel (R102,
R103). -/
def Core.chEnsTransit (c : Core) (h : Nat) : Core :=
  let st := c.chState h
  if st = chLocked && c.rdB CH_CFG.ens_en h && 2 ≤ (c.ensSet h).length then c.ensEnter h
  else if st = chEnsemble && (!c.rdB CH_CFG.ens_en h || (c.ensSet h).length = 1) then
    match c.ensSet h with
    | [m] => c.ensLeave h (c.ensCand h m)
    | _ => c.ensLeave h (c.rd CH_STAT.active h)
  else c

/-- LOOP_UPDATE: one update period of a channel (R96): transitions, selection, the loop, the drain and delivery, lock. A
DISABLED channel steers with f_s = 0 (R100); there and in ROTOR its members' estimates end with their candidates (R156).
A D that was jammed at the entry is applied in the first update after it, whatever else that update does (R118). In
ENSEMBLE R109 moves nothing: the weights name the active member (R101). Log entries 23 (DEDUCED), 24 (DEDUCED), 107
(DEDUCED). -/
def loopUpdateStep (h : Fin 12) (c : Core) : Core :=
  let h := h.val
  let st0 := c.chState h
  let jam := (c.chan h).jam
  if c.part.nCh ≤ h then c
  else if st0 = chRotor then c.ensUpdate h false
  else if st0 = chDisabled then (c.ensUpdate h false).steerSyns h 0 0 else
  let c := c.ensUpdate h true
  let r := c.chTransit h
  let c := r.1
  let st := c.chState h
  if st = chDisabled || st = chRotor then c else
  let c := c.on (!r.2 && (st = chAcquiring || st = chLocked)) (fun c => c.chSelect h)
  let c := c.on (st = chEnsemble) (fun c => c.setChan h { c.chan h with manNew := false })
  let c := c.on (chRunning st && c.injArmed 14 h) (fun c => c.injFire 14 h h)
  let c := if r.2 then c else if chRunning st then c.chLoop h else if st = chHoldover then c.chCoast h else c
  let c := c.chDeliver h (if (c.chan h).jam = 0 then 0 else jam)
  let c := c.chSample h
  let c := c.on (!r.2) fun c =>
    let d := c.chLockCheck h
    if d.chState h = st then d.chEnsTransit h else d
  c.setChan h { c.chan h with released := c.chForced h }

/-! ## Register writes and commands (R94, R112, R121 to R126, R179) -/

/-- A refusal recorded in CH_CFG_REJECT for the register at `off`. -/
def Core.chReject (c : Core) (h off : Nat) : Core :=
  c.reject CH_CFG_REJECT.valid CH_CFG_REJECT.count CH_CFG_REJECT.word (off / 4) h

/-- A write of CH_CFG: RWE, and R164's refusal of kind = 1 for a channel that steers. -/
def Core.chCfgWrite (c : Core) (h be data : Nat) : Core × Bool :=
  let kind := mergeField CH_CFG.kind (c.rd CH_CFG.kind h) be data
  let steers := c.rd CH_STEER.syn h ≠ 0 || c.isMaster h
  let bad := kind = 1 && c.rd CH_CFG.kind h = 0 && steers
  let r := c.writeRow CH_CFG.row (c.rdB CH_CFG.en h || bad) be data h
  let c := if r.2 then r.1.chReject h 0 else r.1
  (c.chEval h, r.2)

/-- man_new after an accepted write of the manual field: it stays while it asks for a switch (R109). -/
def Core.manNamed (c : Core) (h : Nat) : Core :=
  let cur := c.rd CH_STAT.active h
  let man := c.rd CH_SEL_CFG.manual h
  let st := c.chState h
  let ask := (st = chAcquiring || st = chLocked) && c.chUsable h cur && man ≠ cur && c.chUsable h man
  c.on (st ≠ chRotor) (fun c => (c.setChan h { c.chan h with manNew := ask }).chRegs h)

/-- The manual candidate may be named (R112). -/
def Core.manOk (c : Core) (h man : Nat) : Bool := man = 31 || (man < 24 && c.routed h man)

/-- The manual field named, or refused as R112 states; the Boolean says that it was refused. Log entry 26 (DESIGN
CHOICE). -/
def Core.chManual (c : Core) (h man : Nat) : Core × Bool :=
  if c.manOk h man then ((c.wr CH_SEL_CFG.manual man h).manNamed h, false)
  else ((c.chReject h 4).wr CH_EVENT.cmd_refused 1 h, true)

/-- A write of CH_SEL_CFG: byte 0 names the manual candidate, byte 1 holds preempt and revert (R109, R112). -/
def Core.chSelWrite (c : Core) (h be data : Nat) : Core × Bool :=
  let c := (c.writeField be data h 0 CH_SEL_CFG.preempt).writeField be data h 0 CH_SEL_CFG.revert
  if be.testBit 0 then c.chManual h (bits data 4 0) else (c, false)

/-- Whether a channel's controls are refused (R125): then cmd_refused sets, and the refusal of the register at `off` is
recorded. -/
def Core.chRefuse (c : Core) (h off : Nat) : Core := (c.chReject h off).wr CH_EVENT.cmd_refused 1 h

/-- A commit of Δ (R121): refused while disabled (R125), ignored in rotor mode (R179). -/
def Core.chCommit (c : Core) (h : Nat) (delta : Int) (step : Bool) : Core × Bool :=
  if !c.rdB CH_CFG.en h then (c.chRefuse h 0x40, true)
  else if c.rdB CH_CFG.kind h then (c.wr CH_EVENT.cmd_refused 1 h, true)
  else if c.chState h = chDisabled then (c, false)
  else ((c.hostAdd h (delta * 2 ^ 32) step).chRegs h, false)

/-- A phase step committed, whole or by CH_PSTEP_HI: the amount and the mode stand in the registers (R121, R126). -/
def Core.chPstepPut (c : Core) (h lo hi mode : Nat) : Core × Bool :=
  let r := c.chCommit h (toS 48 (lo + hi * 2 ^ 32)) (mode = 0)
  if r.2 then r else
  (((r.1.wr CH_PSTEP_LO.amt_lo lo h).wr CH_PSTEP_HI.amt_hi hi h).wr CH_PSTEP_HI.mode mode h, false)

/-- A write to CH_PSTEP_HI by an executor, with the word it staged in CH_PSTEP_LO (R121, R362). -/
def Core.chPstepHi (c : Core) (h ex data : Nat) : Core × Bool :=
  c.chPstepPut h (c.staged ex (CH_PSTEP_LO.amt_lo.addr h 0)) (bits data 15 0) (bits data 31 31)

/-- CH_PSTEP_COMMIT: executor `ex` writes `data` to CH_PSTEP_HI. -/
def chPstepCommitStep (h : Fin 12) (ex : Fin 4) (data : BitVec 32) (c : Core) : Core :=
  let a := CH_PSTEP_HI.mode.addr h 0
  c.heldOr { ex := ex, addr := a, data := data.toNat } fun c => c.atReg ex a fun c => (c.chPstepHi h ex data.toNat).1

/-- The forces and the hold take values in one cycle: what R130 remembers of them, then the one transition that they ask
for (R102, R103). -/
def Core.chForceSet (c : Core) (h : Nat) (fr ho hold : Bool) : Core :=
  let x := c.chan h
  let any := x.released || c.chForced h || fr || ho || hold
  let c := ((c.wrB CH_CTRL.force_fr fr h).wrB CH_CTRL.force_ho ho h).wrB CH_STAT.flt_hold hold h
  let c := if c.chState h = chDisabled then c else c.setChan h { x with released := any }
  c.chEval h

/-- A host request to force holdover while ho_valid = 0 stays pending and sets cmd_refused, in every state but DISABLED and
ROTOR (R102). -/
def Core.hoAsked (c : Core) (h : Nat) (v : Bool) : Core :=
  let st := c.chState h
  c.on (v && !c.rdB CH_STAT.ho_valid h && st ≠ chDisabled && st ≠ chRotor) (fun c => c.wr CH_EVENT.cmd_refused 1 h)

/-- force_ho written by the host (R102). Log entry 22 (DEDUCED). -/
def Core.forceHo (c : Core) (h : Nat) (v : Bool) : Core :=
  (c.hoAsked h v).chForceSet h (c.rdB CH_CTRL.force_fr h) v (c.rdB CH_STAT.flt_hold h)

/-- force_fr written by the host (R102). -/
def Core.forceFr (c : Core) (h : Nat) (v : Bool) : Core :=
  c.chForceSet h v (c.rdB CH_CTRL.force_ho h) (c.rdB CH_STAT.flt_hold h)

/-- flt_hold written by the fault collector (R476). -/
def Core.fltHold (c : Core) (h : Nat) (v : Bool) : Core :=
  c.chForceSet h (c.rdB CH_CTRL.force_fr h) (c.rdB CH_CTRL.force_ho h) v

/-- FORCE_FR: CH_CTRL.force_fr is written. -/
def forceFrStep (h : Fin 12) (v : Bool) (c : Core) : Core :=
  c.atReg exHost (CH_CTRL.force_fr.addr h 0) fun c => if !c.rdB CH_CFG.en h then c.chRefuse h 0x38 else c.forceFr h v

/-- FORCE_HO: CH_CTRL.force_ho is written. -/
def forceHoStep (h : Fin 12) (v : Bool) (c : Core) : Core :=
  c.atReg exHost (CH_CTRL.force_ho.addr h 0) fun c => if !c.rdB CH_CFG.en h then c.chRefuse h 0x38 else c.forceHo h v

/-- flt_hold clears at once, and no engagement of the collector holds the channel any longer (R126, R476). -/
def Core.holdRelease (c : Core) (h : Nat) : Core := (c.engDrop 1 h).fltHold h false

/-- HO_RELEASE: a CH_CTRL.ho_release pulse. -/
def hoReleaseStep (h : Fin 12) (c : Core) : Core :=
  c.atReg exHost (CH_CTRL.ho_release.addr h 0) fun c => if !c.rdB CH_CFG.en h then c.chRefuse h 0x38 else c.holdRelease h

/-- An abort of a channel's pools with its outcome: 0 unchanged, 1 ABORTED, 2 ALREADY_DONE (R124, R369). `emptied` says that
the pools emptied in the same CCLK cycle. -/
def Core.poolAbort (c : Core) (h : Nat) (emptied : Bool) : Core × Nat :=
  let x := c.chan h
  if x.passPool ≠ 0 || x.hostPool ≠ 0 then
    (((c.setChan h { x with passPool := 0, hostPool := 0, hostStep := false }).chRegs h).wr CH_STAT.abort_st 1 h, 1)
  else if emptied then (c.wr CH_STAT.abort_st 2 h, 2)
  else (c, 0)

/-- POOL_ABORT: a CH_CTRL.pool_abort pulse. -/
def poolAbortStep (h : Fin 12) (emptied : Bool) (c : Core) : Core :=
  c.atReg exHost (CH_CTRL.pool_abort.addr h 0) fun c => if !c.rdB CH_CFG.en h then c.chRefuse h 0x38 else (c.poolAbort h emptied).1

/-- A write of CH_CTRL as a whole (R125): the forces and the release of the hold act in one cycle, with one transition
(R102, R103), and pool_abort with them. Log entry 139 (DESIGN CHOICE). -/
def Core.chCtrlWrite (c : Core) (h be data : Nat) : Core × Bool :=
  if !c.rdB CH_CFG.en h then (c.chRefuse h 0x38, true) else
  let m := data &&& beMask be
  let fr := if be.testBit 0 then bitOf data 3 else c.rdB CH_CTRL.force_fr h
  let ho := if be.testBit 0 then bitOf data 2 else c.rdB CH_CTRL.force_ho h
  let same := fr = c.rdB CH_CTRL.force_fr h && ho = c.rdB CH_CTRL.force_ho h && !bitOf m 1
  let c := c.hoAsked h (bitOf m 2)
  let c := c.on (bitOf m 1) (fun c => c.engDrop 1 h)
  let c := if same then c else c.chForceSet h fr ho (c.rdB CH_STAT.flt_hold h && !bitOf m 1)
  let e := c.atEnd (bitOf m 0 && (c.chan h).emptied)
  (e.2.on (bitOf m 0) (fun c => (c.poolAbort h e.1).1), false)

/-! ## The meanings of the commands -/

/-- LOOP_UPDATE (R96). -/
def execLoopUpdate (h : Fin 12) (s : State) : Out := onRunCore (loopUpdateStep h) s

/-- CH_PSTEP_COMMIT (R121). -/
def execChPstepCommit (h : Fin 12) (ex : Fin 4) (data : BitVec 32) (s : State) : Out := onRunCore (chPstepCommitStep h ex data) s

/-- FORCE_FR (R102). -/
def execForceFr (h : Fin 12) (v : Bool) (s : State) : Out := onRunCore (forceFrStep h v) s

/-- FORCE_HO (R102). -/
def execForceHo (h : Fin 12) (v : Bool) (s : State) : Out := onRunCore (forceHoStep h v) s

/-- HO_RELEASE (R126). -/
def execHoRelease (h : Fin 12) (s : State) : Out := onRunCore (hoReleaseStep h) s

/-- POOL_ABORT (R124). -/
def execPoolAbort (h : Fin 12) (emptied : Bool) (s : State) : Out := onRunCore (poolAbortStep h emptied) s

end Sys2Proof.Machine
end

