-- ==== Sys2Proof/Machine/Glacier.lean ====
section
/-! DEFINITION. The Glacier engine's work (R133 to R163): temperatures and age, the samples of each second, model
transitions, storage, restoration and the stability estimates, with the meanings of its commands. -/

namespace Sys2Proof.Machine

/-! ## Temperatures (R136 to R138, R149) -/

/-- A valid reading of source `s` in the second in progress. -/
def Core.tRead (c : Core) (s : Nat) (v : Int) : Core :=
  { c with tSum := c.tSum.upd (0, 0) s (fun p => (p.1 + v, p.2 + 1)) }

/-- The OSCTEMP conversion in 1/256 °C; none reads 0x8000 (R137). -/
def Core.oscTemp (c : Core) (code : Nat) : Option Int :=
  let gain := toS 16 (c.rd GLC_OSCT_CFG.gain)
  let t := roundR16 ((toS 16 (c.rd GLC_OSCT_CFG.off) : Rat) + (gain * code : Int) / 1024)
  if code = 0 || code = 4095 || gain = 0 || decide (t < -32767) || decide (32767 < t) then none else some t

/-- SENSOR_READING: on-die sensor `s` reads `v` in 1/256 °C (0x8000: invalid), or `s` = 8, the OSCTEMP converter delivers
the code `v` (R136, R137). Log entry 21 (DEDUCED). -/
def sensorReadingStep (s : Fin 9) (v : BitVec 16) (c : Core) : Core :=
  if s.val < 8 then
    let c := c.wr GLC_TSENS.temp v.toNat 0 s.val
    if v.toNat = 0x8000 then c else c.tRead s.val (toS 16 v.toNat)
  else
    let code := v.toNat % 4096
    let c := c.wr GLC_OSCT.code code
    match c.oscTemp code with
    | none => c.wr GLC_OSCT.temp 0x8000
    | some t => (c.wr GLC_OSCT.temp (ofS 16 t)).tRead 9 t

/-- The mean of a source's readings in the second. -/
def Core.tMean (c : Core) (s : Nat) : Option Rat :=
  let p := c.tSum.get (0, 0) s
  if p.2 = 0 then none else some ((p.1 : Rat) / p.2)

/-- T of the second just ended for a channel, in 1/256 °C (R136); of GLC_HOST_TEMP the value that stands at its end.
Log entries 102 (DESIGN CHOICE), 125 (DESIGN CHOICE). -/
def Core.tOf (c : Core) (h : Nat) : Option Int :=
  let s := c.glcSrc h
  if s < 8 then (c.tMean s).map roundR16
  else if s = 8 then
    let l := (List.range 8).filterMap c.tMean
    if l.isEmpty then none else some (roundR16 (l.foldl (· + ·) (0 : Rat) / l.length))
  else if s = 9 then (c.tMean 9).map roundR16
  else if s = 10 then
    let t := c.rd GLC_HOST_TEMP.temp
    if t = 0x8000 then none else some (toS 16 t)
  else none

/-- A channel's T, T_lag and the registers that show them, at the end of a second; the first valid T after Course sets T_lag
(R138, R149). With lag_tau = 0 the filter of R138 has no value: T_lag is free. Log entry 103 (DESIGN CHOICE). -/
def Core.tSecond (c : Core) (h : Nat) : Core :=
  let g := c.glc h
  let tau := c.rd GLC_MDL_CFG.lag_tau h
  match c.tOf h with
  | none => ((c.setGlc h { g with tNow := false, tMiss := g.tMiss + 1 }).glcTempReg h).glcTempOk h
  | some t =>
    let v := c.fresh
    let r : Rat × Core := match g.tLag with
      | none => (t, c)
      | some l =>
        if c.estRun && !g.lagSet then (t, c)
        else if tau = 0 then ((max (-32767) (toS 16 (v.1 % 65536)) : Int), v.2)
        else (l + ((t : Rat) - l) / tau, c)
    let c := r.2.setGlc h { g with tNow := true, tMiss := 0, t := some t, tLag := some r.1, lagSet := g.lagSet || c.estRun }
    (c.glcTempReg h).glcTempOk h

/-! ## The second (R139, R143, R148, R150) -/

/-- A nanosecond rollover for one channel: the second that ends is kept for GLC_SAMPLE, T and T_lag move on, GLC_PRED is
formed with t and A of the new second, and a channel in HOLDOVER takes the next prediction (R141, R143, R148). A limit or a fallback
clock that stands at its start is of the second that begins. A second
without an update has no sample: it is skipped for the channel's state. Log entries 32 (DEDUCED), 124 (DEDUCED). -/
def Core.glcSecond (c : Core) (h : Nat) : Core :=
  let c := c.tSecond h
  let g := c.glc h
  let st := c.chState h
  let live := st = chLocked || st = chEnsemble
  let c := c.setGlc h { g with
    done := some { g.cur with stateOk := g.cur.stateOk && g.cur.n ≠ 0 },
    cur := { flim := c.rdB CH_STAT.flim h, clock := c.rd STG_DT_STAT.src = srcFallback },
    settled := if live && !g.midSec then g.settled + 1 else 0, midSec := false }
  let c := c.glcPredAt h (c.sec, c.glcAge)
  if st = chHoldover then
    let c := c.bump GLC_HO_SEC.sec h
    let x := c.chan h
    let p := if c.rd GLC_MDL_STAT.state h = gsValid then c.glcPredVal h else x.hoTo
    c.setChan h { x with hoFrom := x.hoTo, hoTo := p, hoN := 0 }
  else c

/-- The Glacier engine's work at a nanosecond rollover: sec_in_day counts, and the second that ends is kept with its age.
Log entry 31 (DEDUCED). -/
def Core.glcRollover (c : Core) : Core :=
  let c := { c with secDone := some (c.sec - 1, c.glcAge) }
  let c := if c.glcReady then { c with secInDay := c.secInDay + 1 } else c
  let c := c.each (List.range c.part.nCh) Core.glcSecond
  { c with tSum := [] }

/-- The skip cause of a completed second, in the order of R141; in HOLDOVER no sample is accepted (R150). The sample's own
second counts among the settle seconds. Log entry 124 (DEDUCED). -/
def Core.glcSkip (c : Core) (h : Nat) (s : SecRun) : Option Nat :=
  let g := c.glc h
  if !c.rdB GLC_MDL_CFG.learn_en h then some 1
  else if !s.stateOk || c.chState h = chHoldover then some 2
  else if g.settled < c.rd GLC_MDL_LIM.settle h then some 3
  else if s.flim then some 4
  else if c.glcTempTerm h && !g.tNow then some 5
  else if s.clock then some 6
  else if c.rd GLC_MDL_STAT.state h = gsValid &&
      decide ((8 * c.rd GLC_RES_LIM.res_lim h : Nat) < |(s.sum : Rat) / s.n - c.glcHat h c.glcAt - g.b| * 256) then some 7
  else none

/-- b in force and GLC_BIAS: the mean of r over the last avg accepted samples (R143); with cold_ho = 1 and bias_ok = 0 the
value restored or written with the model (R147). In HOLDOVER b is frozen (R148). -/
def Core.glcBias (c : Core) (h : Nat) : Core :=
  let g := c.glc h
  if c.chState h = chHoldover then c else
  let bl := g.rs.take (max 1 (c.rd GLC_HO_CFG.avg h))
  let kept := bl.isEmpty || g.nBias = 0 || (c.rdB GLC_MDL_CFG.cold_ho h && !c.rdB GLC_MDL_STAT.bias_ok h)
  let b := if kept then g.b0 else roundR16 ((bl.foldl (· + ·) 0 : Int) / (bl.length : Rat))
  (c.setGlc h { g with b := b }).wrS GLC_BIAS.bias b h

/-- GLC_RES and GLC_BIAS after an accepted sample (R143), and bias_ok, which stays set once avg samples have come (R147).
Log entry 147 (DESIGN CHOICE). -/
def Core.glcResidual (c : Core) (h : Nat) (r : Int) : Core :=
  let g := c.glc h
  let avg := max 1 (c.rd GLC_HO_CFG.avg h)
  let rs := (r :: g.rs).take 65535
  let rl := rs.take 1024
  let sq : Int := rl.foldl (fun a v => a + v * v) 0
  let c := c.setGlc h { g with rs := rs, nBias := g.nBias + 1 }
  let c := c.wrU GLC_RES.res (roundSqrt ((sq : Rat) * 65536 / rl.length)) h
  ((c.wrB GLC_MDL_STAT.bias_ok (c.rdB GLC_MDL_STAT.bias_ok h || avg ≤ g.nBias + 1) h).glcBias h).glcHoValid h

/-- An accepted sample of mean f_s `f`: origin and T0 of a first sample, the fit, the residual, and the model's transitions
(R134, R142, R143, R146); without a transition GLC_PRED of this rollover follows the b and the fit of the sample (R148).
Log entries 31 (DEDUCED), 105 (DESIGN CHOICE), 147 (DESIGN CHOICE). -/
def Core.glcAccept (c : Core) (h : Nat) (f : Rat) : Core :=
  let d := c.coreData f
  let f := d.1
  let c := d.2
  let st := c.rd GLC_MDL_STAT.state h
  let t0 := fun (c : Core) => match (c.glc h).t with
    | some t => if (st = gsEmpty || (c.glcT0 h).isNone) && (c.glc h).tNow then c.wr GLC_T0.t0 (ofS 16 t) h else c
    | none => c
  let c := if st = gsEmpty then c.glcSetOrigin h c.glcAt.1 else c
  let c := (t0 c).glcTempOk h
  let c := (c.bump GLC_NSAMP.nsamp h).glcFit h c.glcAt f
  let c := c.glcResidual h (roundR16 f - c.glcHat h c.glcAt)
  if st = gsEmpty then c.glcGoto h gsLearning gcFirstSample
  else if st = gsLearning then
    if 60 * c.rd GLC_MDL_LIM.min_samp h ≤ c.rd GLC_NSAMP.nsamp h && c.rd GLC_RES.res h ≤ c.rd GLC_RES_LIM.res_lim h
    then c.glcGoto h gsValid gcConverged else c.glcPredAt h (c.sec, c.glcAge)
  else if decide ((2 * c.rd GLC_RES_LIM.res_lim h : Nat) < c.rd GLC_RES.res h) then c.glcGoto h gsLearning gcResidual
  else c.glcPredAt h (c.sec, c.glcAge)

/-- A channel's holdover condition may have changed: the transition it allows (R102). -/
def Core.hoChanged (c : Core) (h : Nat) : Core := if c.chState h = chDisabled then c else c.chEval h

/-- GLC_SAMPLE: the completed second of a channel judged, and accepted or skipped (R141). Log entry 32 (DEDUCED). -/
def glcSampleStep (h : Fin 12) (c : Core) : Core :=
  let h := h.val
  let g := c.glc h
  match g.done with
  | none => c
  | some s =>
    let c := c.setGlc h { g with done := none }
    match c.glcSkip h s with
    | some k => (c.wr GLC_MDL_STAT.skip k h).bump GLC_SKIP_CNT.count h
    | none => (c.glcAccept h ((s.sum : Rat) / s.n)).hoChanged h

/-! ## Model commands (R135, R140, R146, R153) -/

/-- A pulse that falls in the cycle of the engine's sample work discards that sample (R146). Log entry 32 (DEDUCED). -/
def Core.glcDiscard (c : Core) (h : Nat) (b : Bool) : Core :=
  if b then c.setGlc h { c.glc h with done := none } else c

/-- CLEAR: the model becomes EMPTY with cause CLEARED; before restoration every model stays EMPTY with cause NONE (R154). -/
def clearStep (h : Fin 12) (atSample : Bool) (c : Core) : Core :=
  c.atReg exHost (GLC_MDL_CTRL.clear.addr h 0) fun c =>
    if !c.glcReady then c else ((c.glcDiscard h atSample).glcGoto h gsEmpty gcCleared).hoChanged h

/-- DECLARE: with learn_en = 0 the host-written model becomes VALID; else the pulse is refused (R146). Before restoration it
has no effect (R154). Log entries 106 (DESIGN CHOICE), 147 (DESIGN CHOICE). -/
def declareStep (h : Fin 12) (atSample : Bool) (c : Core) : Core :=
  c.atReg exHost (GLC_MDL_CTRL.declare.addr h 0) fun c =>
  if c.rdB GLC_MDL_CFG.learn_en h then
    c.reject GLC_CFG_REJECT.valid GLC_CFG_REJECT.count GLC_CFG_REJECT.word 3 h
  else if !c.glcReady then c
  else
    let c := c.glcDiscard h atSample
    let c := ((c.wr GLC_MDL_STAT.host_prov 1 h).wr GLC_MDL_STAT.bias_ok 0 h).wr GLC_MDL_STAT.restored 0 h
    let c := (c.setGlc h { c.glc h with nBias := 0, b0 := (c.glc h).b }).glcTempOk h
    (c.glcGoto h gsValid gcDeclared).hoChanged h

/-- GLC_MDL_STORE: the record into the front (R153). -/
def glcMdlStoreStep (h : Fin 12) (c : Core) : Core :=
  c.atReg exHost (GLC_MDL_CTRL.store.addr h 0) fun c => c.glcStore h

/-- NEW_OSC: the age starts anew, every model becomes EMPTY, and the age record is written (R140). Before restoration every
model reads EMPTY with cause NONE already and stays so (R154). -/
def newOscStep (c : Core) : Core :=
  let c := { c with ageBase := (c.tally (c.rd GLC_AGE_CFG.tally)).value, secInDay := 0 }
  let c := c.on c.glcReady fun c =>
    c.each (List.range c.part.nCh) (fun c h => (c.glcGoto h gsEmpty gcNewOsc).hoChanged h)
  c.ageStore.ageRegs

/-- A write of GLC_MDL_CFG: RWE, refused until restoration (R154); a change of the term set, the source or lag_tau of a
model that is not EMPTY clears it (R135). Where cold_ho changes b, GLC_PRED reads f̂ with it (R143, R147). -/
def Core.glcMdlCfgWrite (c : Core) (h be data : Nat) : Core × Bool :=
  let key := fun (c : Core) => (c.rd GLC_MDL_CFG.terms h, c.rd GLC_MDL_CFG.tsrc h, c.rd GLC_MDL_CFG.lag_tau h)
  let old := key c
  let r := c.writeRow GLC_MDL_CFG.row (c.rdB GLC_MDL_CFG.learn_en h || !c.glcReady) be data h
  let c := if r.2 then r.1.reject GLC_CFG_REJECT.valid GLC_CFG_REJECT.count GLC_CFG_REJECT.word 0 h else r.1
  let c := if key c ≠ old && c.rd GLC_MDL_STAT.state h ≠ gsEmpty then c.glcGoto h gsEmpty gcCleared else c
  let b := (c.glc h).b
  let c := (c.glcTempOk h).glcBias h
  (((c.on ((c.glc h).b ≠ b) (fun c => c.glcPred h)).glcHoValid h).hoChanged h, r.2)

/-- DAY_ROLLOVER: at 86,400 s the day starts anew, and the tally counter is asked to increment (R139). -/
def dayRolloverStep (c : Core) : Core :=
  if c.secInDay < 86400 then c else
  ({ c with secInDay := 0 }.tallyInc (c.rd GLC_AGE_CFG.tally)).ageRegs

/-- STORE_INTERVAL: the records of the models that are not EMPTY, and the age record, are written (R153); before restoration
the records are still to be read (R154). -/
def storeIntervalStep (c : Core) : Core :=
  if c.rd GLC_STORE_CFG.int_ = 0 || !c.glcReady then c else
  let c := c.each (List.range c.part.nCh) (fun c h => if c.rd GLC_MDL_STAT.state h = gsEmpty then c else c.glcStore h)
  c.ageStore

/-- TEMP_INVALID: T has been invalid for 10 s with a temperature term enabled (R149). -/
def tempInvalidStep (h : Fin 12) (c : Core) : Core :=
  if h.val < c.part.nCh && c.glcTempTerm h && !(c.glc h).tNow then (c.wr GLC_MDL_STAT.temp_ok 0 h).raise 17 h else c

/-- HOST_TEMP_EXPIRE: GLC_HOST_TEMP reads 0x8000 (R136). -/
def hostTempExpireStep (c : Core) : Core := c.wr GLC_HOST_TEMP.temp 0x8000

/-! ## Restoration (R154) -/

/-- A model record judged: the failing cause, or none; `blank` says that its whole page has never been written. -/
def Core.recCause (c : Core) (h : Nat) (blank : Bool) (r : List Byte) : Option Nat :=
  if blank then some gcNoRecord
  else if fieldLE r 124 4 ≠ crc32c (r.take 124) then some gcRecCrc
  else if fieldLE r 0 1 ≠ 0x47 || fieldLE r 1 1 ≠ 1 || fieldLE r 2 1 ≠ h then some gcRecFormat
  else if fieldLE r 88 5 ≠ c.loNom then some gcLoMismatch
  else none

/-- A channel's model restored from its record, and its record written as at every transition (R146, R154). -/
def Core.glcRestore (c : Core) (h : Nat) (blank : Bool) (r : List Byte) : Core :=
  match c.recCause h blank r with
  | some k =>
    let c := (c.glcEmpty h).wr GLC_MDL_STAT.state gsEmpty h
    let c := (((c.wr GLC_MDL_STAT.cause k h).glcHoValid h).glcPred h).glcStore h
    let c := c.glcEvent h 1 gsEmpty 31
    c.on (k ≠ gcNoRecord) (fun c => c.raise 18 h)
  | none =>
    let st := fieldLE r 3 1
    let c := c.each (List.range 7) (fun c k => c.glcSetCoef h k (toS 64 (fieldLE r (16 + 8 * k) 8)))
    let c := (c.glcSetOrigin h (fieldLE r 8 6)).wr GLC_T0.t0 (fieldLE r 72 2) h
    let c := (c.wr GLC_NSAMP.nsamp (fieldLE r 4 4) h).wr GLC_RES.res (fieldLE r 84 4) h
    let c := (c.wr GLC_MDL_CFG.terms (fieldLE r 76 1) h).wr GLC_MDL_CFG.tsrc (fieldLE r 77 1) h
    let c := c.wr GLC_MDL_STAT.held (fieldLE r 78 1) h
    let c := (c.wrB GLC_MDL_STAT.host_prov (bitOf st 3) h).wr GLC_MDL_STAT.bias_ok 0 h
    let c := (c.wr GLC_MDL_STAT.restored 1 h).wr GLC_BIAS.bias (fieldLE r 80 4) h
    let lag := fieldLE r 74 2
    let c := c.setGlc h { c.glc h with
      b := toS 32 (fieldLE r 80 4), b0 := toS 32 (fieldLE r 80 4), tLag := if lag = 0x8000 then none else some (toS 16 lag), nBias := 0 }
    let c := (c.wr GLC_MDL_STAT.state (st % 4) h).wr GLC_MDL_STAT.cause gcRestored h
    let c := ((((c.glcTempOk h).glcTempReg h).glcHoValid h).glcPred h).glcStore h
    c.glcEvent h 1 gsEmpty 31

/-- The age record restored; a record that fails starts a new oscillator (R154). Log entry 126 (DESIGN CHOICE). -/
def Core.ageRestore (c : Core) (r : List Byte) : Core :=
  let c1 := { c with ageBase := (c.tally (c.rd GLC_AGE_CFG.tally)).value, secInDay := 0 }
  let c := if r.all (fun b => b = 0#8) then c1
    else if fieldLE r 28 4 = crc32c (r.take 28) && fieldLE r 0 1 = 0x41 && fieldLE r 1 1 = 1 then
      { c with ageBase := fieldLE r 4 4, secInDay := fieldLE r 8 4 }
    else c1.raise 18
  c.ageRegs

/-- The Glacier engine's restoration at Course: the age record, then each channel's (R154). -/
def Dev.glcRestoreAll (d : Dev) : Dev :=
  let c := d.core
  let p := c.rd GLC_STORE_CFG.page
  let c := c.ageRestore (d.mem.front ((p + 1) * 1024 + 512) 32)
  let blank := fun (page : Nat) => !d.mem.firn.any (fun e => e.1 / 1024 = page)
  let c := c.each (List.range c.part.nCh) fun c h =>
    c.glcRestore h (blank (c.glcRecAddr h / 1024)) (d.mem.front (c.glcRecAddr h) 128)
  { d with core := { c with glcReady := true } }

/-! ## The ensemble's estimates (R155 to R158) -/

/-- The code of τ_c in use (R156): tau from 1 to 17, larger values as 17, or from CH_BW for 0. -/
def Core.tauCode (c : Core) (h : Nat) : Nat :=
  let t := c.rd GLC_ENS_CFG.tau h
  if t = 0 then
    let k := clampI (-4) 12 (roundR16 (numLn (1 / (num2Pi * c.chBw h)) / numLn 2))
    (k + 5).toNat
  else min 17 t

/-- A member's estimate after a sample x (R156). -/
def Member.sample (m : Member) (x : Int) : Member :=
  match m.xs with
  | a :: b :: _ =>
    let s : Rat := ((x - 2 * a + b : Int) : Rat) / 2 ^ 32
    let d := s * s - m.aVar
    { m with xs := [x, a], aVar := m.aVar + d / (if m.n < 64 then m.n + 1 else 64), n := min 64 (m.n + 1) }
  | _ => { m with xs := (x :: m.xs).take 2 }

/-- ADEV_SAMPLE: the phase of every configured member whose candidate runs enters its estimate, and the weights follow
(R156, R157). -/
def adevSampleStep (h : Fin 12) (c : Core) : Core :=
  let h := h.val
  if c.part.nCh ≤ h || !c.rdB CH_CFG.en h then c else
  let tau := c.tauCode h
  let c := c.wr GLC_ENS_STAT.tau_used tau h
  let k : Rat := 2 ^ 40 / (1000000000 * (2 : Rat) ^ ((tau : Int) - 5))
  let c := c.ensEstimates h
  let c := c.each (List.range 4) fun c m =>
    let i := c.ensCand h m
    if 24 ≤ i || !candRunning (c.candState i) then c else
    let g := c.glc h
    let x := g.members.getD m {}
    let ep := c.rd REF_STATE.phase_epoch i
    let jp := (c.cand i).jumps
    let x := if x.ep = ep && x.jp = jp then x else { x with xs := [], ep := ep, jp := jp }
    let x := x.sample (c.cand i).outPhi
    (c.setGlc h { g with members := g.members.set m x }).wrU GLC_ADEV.adev (roundSqrt (x.aVar / 2 * k * k)) h m
  c.ensUpdate h false true

/-- READMIT: a rejected member, usable and within out_lim / 2 by the weights as if it were in use, returns; its record
carries the weights after it (R158, R162). -/
def readmitStep (h : Fin 12) (m : Fin 4) (c : Core) : Core :=
  let h := h.val
  let g := c.glc h
  let x := g.members.getD m.val {}
  let lim : Rat := ((c.rd GLC_ENS_CFG.out_lim h * 1024 : Nat) : Rat) / 2 * 2 ^ 32
  let d := c.setGlc h { g with members := g.members.set m.val { x with rejected := false } }
  if x.rejected && c.chUsable h (c.ensCand h m.val) && decide (d.ensDev h m.val (d.ensW h) ≤ lim) then
    let c := d.ensUpdate h false
    c.glcEvent h 3 (c.rd GLC_MDL_STAT.state h) (c.ensCand h m.val)
  else c

/-- A write of GLC_ENS_MEM, refused as a whole where it names an index from 24 to 30 or a candidate that is not routed
(R155); a slot whose member changes starts a new estimate, and its GLC_ADEV reads 0. -/
def Core.ensMemWrite (c : Core) (h be data : Nat) : Core × Bool :=
  let flds := [GLC_ENS_MEM.m0, GLC_ENS_MEM.m1, GLC_ENS_MEM.m2, GLC_ENS_MEM.m3]
  let new := flds.map (fun f => mergeField f (c.rd f h) be data)
  if new.all (fun i => c.manOk h i) then
    let c := c.each (List.range 4) fun c m =>
      let f := flds.getD m GLC_ENS_MEM.m0
      let v := new.getD m 31
      if c.rd f h = v then c
      else ((c.wr f v h).setGlc h { c.glc h with members := (c.glc h).members.set m {} }).wr GLC_ADEV.adev 0 h m
    (c, false)
  else (c.reject GLC_CFG_REJECT.valid GLC_CFG_REJECT.count GLC_CFG_REJECT.word 0x20 h, true)

/-! ## The meanings of the commands -/

/-- GLC_SAMPLE (R141). -/
def execGlcSample (h : Fin 12) (s : State) : Out := onRunCore (glcSampleStep h) s

/-- CLEAR (R146). -/
def execClear (h : Fin 12) (atSample : Bool) (s : State) : Out := onRunCore (clearStep h atSample) s

/-- DECLARE (R146). -/
def execDeclare (h : Fin 12) (atSample : Bool) (s : State) : Out := onRunCore (declareStep h atSample) s

/-- GLC_MDL_STORE (R153). -/
def execGlcMdlStore (h : Fin 12) (s : State) : Out := onRunCore (glcMdlStoreStep h) s

/-- NEW_OSC (R140). -/
def execNewOsc (s : State) : Out := onRunCore newOscStep s

/-- DAY_ROLLOVER (R139). -/
def execDayRollover (s : State) : Out := onRunCore dayRolloverStep s

/-- STORE_INTERVAL (R153). -/
def execStoreInterval (s : State) : Out := onRunCore storeIntervalStep s

/-- TEMP_INVALID (R149). -/
def execTempInvalid (h : Fin 12) (s : State) : Out := onRunCore (tempInvalidStep h) s

/-- HOST_TEMP_EXPIRE (R136). -/
def execHostTempExpire (s : State) : Out := onRunCore hostTempExpireStep s

/-- SENSOR_READING (R136). -/
def execSensorReading (k : Fin 9) (v : BitVec 16) (s : State) : Out := onRunCore (sensorReadingStep k v) s

/-- ADEV_SAMPLE (R156). -/
def execAdevSample (h : Fin 12) (s : State) : Out := onRunCore (adevSampleStep h) s

/-- READMIT (R158). -/
def execReadmit (h : Fin 12) (m : Fin 4) (s : State) : Out := onRunCore (readmitStep h m) s

end Sys2Proof.Machine
end

