-- ==== Sys2Proof/Machine/DeviceTime.lean ====
section
/-! DEFINITION. Device time (R35 to R41): its advance by clock cycles, nanosecond rollovers and whole-second changes, and the
background activities' starvation bits (R51). -/

namespace Sys2Proof.Machine

/-- The instants that a port of the PTP engine keeps, moved by `mv`. -/
def PortU.shift (mv : Nat → Nat) (x : PortU) : PortU :=
  { x with
    foreign := x.foreign.map (fun a => { a with t0 := mv a.t0, t1 := mv a.t1 }),
    sync := x.sync.map (fun (y : Nat × Nat × Int) => (y.1, mv y.2.1, y.2.2)),
    req := x.req.map (fun (y : Nat × Nat) => (y.1, mv y.2)),
    presp := x.presp.map (fun (y : Nat × Nat × Nat × Int) => (y.1, y.2.1, mv y.2.2.1, y.2.2.2)),
    pair := x.pair.map (fun (y : Int × Nat) => (y.1, mv y.2)) }

/-- The instants that a client slot keeps, moved by `mv`. -/
def Slot.shift (mv : Nat → Nat) (y : Slot) : Slot :=
  let g := fun (x : Option (Int × Nat)) => x.map (fun (y : Int × Nat) => (y.1, mv y.2))
  { y with
    gSync := g y.gSync, gResp := g y.gResp, gAnn := g y.gAnn, reqT := y.reqT.map mv }

/-- A whole-second change relabels seconds: intervals that the part is measuring are kept, so every held instant moves with
it (log entry 34), and model origins shift as R134 states. `d` is the change in seconds. -/
def Core.secShift (c : Core) (d : Int) : Core :=
  let pu : Int := d * secPU
  let mv := fun (t : Nat) => ((t : Int) + pu).toNat
  let c := c.each (List.range 24) fun c i =>
    let x := c.cand i
    c.setCand i { x with
      last := x.last.map mv, start := mv x.start, anchor := if x.anchor = 0 then 0 else x.anchor + pu,
      gateDone := x.gateDone.map (fun g => (g.1, g.2.1, mv g.2.2)) }
  let c := c.each (List.range 12) fun c h =>
    let x := c.rot h
    c.setRot h { x with
      tPrev := x.tPrev.map mv, lastStamp := x.lastStamp.map mv,
      gt := if x.gt = 0 then 0 else mv x.gt, lastEdge := x.lastEdge.map (· + pu),
      acPulse := x.acPulse.map (fun p => (p.1 + pu, p.2 + pu)), rpPulse := x.rpPulse.map (fun p => (p.1 + pu, p.2 + pu)) }
  let c := c.each (List.range 8) fun c a =>
    let x := c.pa a
    c.setPa a { x with
      pos := x.pos.map (· + pu), trail := x.trail.map (· + pu), edges := x.edges.map (fun e => (e.1 + pu, e.2)), ts := x.ts.map mv,
      rise := x.rise.map (· + (pu : Rat)), fall := x.fall.map (· + (pu : Rat)), tod := x.tod.map (fun s => ((s : Int) + d).toNat) }
  let c := { c with pal := { c.pal with swap := c.pal.swap.mapVals 0 (fun _ q => q + pu) } }
  let c := { c with pte := { c.pte with
    ports := c.pte.ports.mapVals {} (fun _ x => x.shift mv), slots := c.pte.slots.mapVals none (fun _ x => x.map (Slot.shift mv)) } }
  let c := { c with lanes := c.lanes.mapVals {} (fun _ x => { x with
    esmcT := x.esmcT.map mv, evq := x.evq.map (fun (e : List Byte × Option Nat × Int) => (e.1, e.2.1.map mv, e.2.2)) }) }
  let c := { c with secDone := c.secDone.map (fun (x : Nat × Rat) => (((x.1 : Int) + d).toNat, x.2)) }
  c.each (List.range 12) fun c h =>
    if c.rd GLC_MDL_STAT.state h = gsEmpty then c
    else
      let g := c.glc h
      (c.glcSetOrigin h ((c.glcOrigin h : Int) + d).toNat).setGlc h
        { g with lastSec := g.lastSec.map (fun s => ((s : Int) + d).toNat) }

/-- What a nanosecond rollover does once device time has carried (R35, R41): a pending whole-second value takes effect,
unless its commit fell in this rollover's own cycle, and the per-second work of other blocks is done. -/
def Core.rolledOver (c : Core) : Core :=
  let c := match c.setPend with
    | none => c
    | some v =>
      if c.setSkip then { c with setSkip := false }
      else
        let d : Int := (v : Int) - c.sec
        ({ c with setPend := none, dt := v * secDt + c.dt % secDt }.wr STG_DT_STAT.set_pending 0).secShift d
  (c.glcRollover.qlAge.missAll c.now).ageRegs

/-- Device time advanced by a signed amount in 2^-48 ns, with the rollovers it passes. -/
def Core.dtAdvance (c : Core) (n : Int) : Core :=
  let old := c.sec
  let c := { c with dt := ((c.dt : Int) + n).toNat }
  if old < c.sec then c.rolledOver else c

/-- d_master of the group in progress, in 2^-48 ns, for a slice S (R100). -/
def groupShare (s : Int) (j : Nat) : Int := -(groupSum s (j + 1) - groupSum s j)

/-- The nominal step of TSCLK cycle k, phase units (R35). Log entry 7 (DESIGN CHOICE). -/
def tsStep (k : Nat) : Nat := if k % 5 = 1 || k % 5 = 3 then 104857 else 104858

/-- The nominal CCLK period on the fallback clock, in 2^-48 ns: k_c cycles of the local oscillator, or 10 ns from the backup
oscillator (R40, R187, R188). Log entry 34 (DEDUCED). -/
def Core.fallbackStep (c : Core) : Int :=
  let k : Nat := max 1 (c.rd RS_STAT.k_c)
  if c.rdB RS_STAT.lo_ok && c.loNom ≠ 0 then roundR16 ((k * 256 * secDt : Nat) / (c.loNom : Rat)) else (k * 10 * 2 ^ 48 : Nat)

/-- One clock period with no command waiting (log entry 7): a TSCLK cycle of R35, with the master's correction at the end of
each group of five, and what shifts in step with it (R123); while TSCLK is stopped after Course, a CCLK cycle of R40. Before
the first load nothing counts. -/
def Core.tick (c : Core) : Core :=
  if c.rd STG_DT_STAT.src = srcUnset || c.inReset then c
  else if c.pclk then
    let k := c.dtk
    let c := { c with dtk := (k + 1) % 5 }
    let n : Int := (tsStep k : Nat) * 2 ^ 32
    if k % 5 = 4 then
      match c.dSlices with
      | [] => c.dtAdvance (n + 8 * c.yMaster)
      | s :: rest =>
        let sh := c.dShift.headD (0, 0)
        let c2 := c.dtShift (-(groupShare sh.1 c.dGroup)) (-(groupShare sh.2 c.dGroup))
        let c1 := if c.dGroup = 255 then { c2 with dSlices := rest, dShift := c2.dShift.drop 1, dGroup := 0 }
          else { c2 with dGroup := c.dGroup + 1 }
        c1.dtAdvance (n + 8 * c.yMaster + groupShare s c.dGroup)
    else c.dtAdvance n
  else c.dtAdvance c.fallbackStep

/-- The device time of a TSCLK cycle within its group of five, phase units (R35). -/
def tsCum (k : Nat) : Nat := ((List.range k).map tsStep).foldl (· + ·) 0

/-- The device time at the start of the group of five TSCLK cycles that lies `m` groups behind the one in progress, 2^-48 ns,
each group with its 8 · y_master + d_master (R35); one whose correction is not known any more, or not yet, has the y_master of now. Log entry 141
(DEDUCED). -/
def Core.groupStart (c : Core) (m : Int) : Int :=
  let g0 : Int := (c.dt : Int) - tsCum c.dtk * 2 ^ 32
  let now : Int := c.dGroup
  let till := fun (s n : Int) => groupSum s (max 0 (min 256 n)).toNat
  let shares := match c.dSlices with
    | [] => 0
    | s :: rest => (rest.foldl (fun (x : Int × Int) s => (x.1 + till s x.2, x.2 - 256))
        (till s (now + m) - till s now, now + m - 256)).1
  g0 + m * (2 ^ 51 + 8 * c.yMaster) - shares

/-- The last TSCLK cycle of R35 at or before device time `t`, phase units (R206, R239); with TSCLK stopped there is no grid.
Log entry 141 (DEDUCED). -/
def Core.tsGrid (c : Core) (t : Nat) : Nat :=
  if !c.pclk then t else
  let q : Int := (t : Int) * 2 ^ 32 + 2 ^ 32 - 1
  let len := 2 ^ 51 + 8 * c.yMaster
  let m0 := (q - c.groupStart 0) / len
  let m1 := m0 + (q - c.groupStart m0) / len
  let m := if c.groupStart (m1 + 1) ≤ q then m1 + 1 else if c.groupStart m1 ≤ q then m1 else m1 - 1
  let s := c.groupStart m
  let k := ((List.range 5).filter (fun k => decide (s + tsCum k * 2 ^ 32 ≤ q))).length - 1
  ((s + tsCum k * 2 ^ 32) / 2 ^ 32).toNat

/-! ## The commands -/

/-- DT_SET_COMMIT: executor `ex` writes `hi` to STG_DT_SET_HI; the whole-second value waits for a rollover. A second commit
replaces the first; one in the cycle of a rollover waits for the next (R41). -/
def Core.dtSetCommit (c : Core) (ex hi : Nat) (rollover : Bool) : Core :=
  let lo := c.staged ex (STG_DT_SET_LO.set_lo.addr 0 0)
  let c := ((c.wr STG_DT_SET_LO.set_lo lo).wr STG_DT_SET_HI.set_hi hi).wr STG_DT_STAT.set_pending 1
  { c with setPend := some (lo + (hi % 2 ^ 16) * 2 ^ 32), setSkip := rollover }

def dtSetCommitStep (ex : Fin 4) (hi : BitVec 16) (rollover : Bool) (c : Core) : Core :=
  c.heldOr { ex := ex, addr := STG_DT_SET_HI.set_hi.addr 0 0, data := hi.toNat } fun c => c.dtSetCommit ex.val hi.toNat rollover

/-- NANOSECOND_ROLLOVER: device time reaches the start of the next second; what the master still had to apply before it has
been applied (R35). Before the first load nothing happens. -/
def nanosecondRolloverStep (c : Core) : Core :=
  if c.rd STG_DT_STAT.src = srcUnset then c else
  ({ c.dtShiftRest with dt := (c.sec + 1) * secDt, dSlices := [], dShift := [], dGroup := 0 } : Core).rolledOver

/-- WHOLE_SECOND_CHANGE: the rollover at which the pending value takes effect, the first that begins after its commit (R41).
Without a pending value nothing happens. Log entry 34 (DEDUCED). -/
def wholeSecondChangeStep (c : Core) : Core :=
  if c.setPend.isNone then c else nanosecondRolloverStep { c with setSkip := false }

/-- Device time loaded from Frost at the tick that brings the subsecond to `sub` (R39); its first second begins with no
reading and no update (R136, R141). -/
def Core.dtLoad (c : Core) (sub : Nat) : Core :=
  let c := (c.wr FRS_W_SUB.sub sub).frostMirror
  let c := { c with dt := c.frostTime * 2 ^ 32, dtk := 0, tSum := [], glcs := c.glcs.mapVals {} (fun _ g => { g with cur := {} }) }
  (c.wr STG_DT_STAT.src srcFrost).dtSource

/-- The starvation bit of a background activity: 0 TDC calibration, 1 Vault scrub, 2 Firn refresh, 3 telemetry, 4 TV
scrub. -/
def starveFld (a : Nat) : Fld :=
  match a with
  | 0 => STG_BG_STARVE.cal
  | 1 => STG_BG_STARVE.vscrub
  | 2 => STG_BG_STARVE.fscrub
  | 3 => STG_BG_STARVE.telem
  | _ => STG_BG_STARVE.tvscrub

/-- BG_STARVED: an activity has not completed its nominal period within its limit (R51). -/
def bgStarvedStep (a : Fin 5) (c : Core) : Core := (c.wr (starveFld a.val) 1).raise 44

/-! ## The meanings of the commands -/

/-- DT_SET_COMMIT (R41). -/
def execDtSetCommit (ex : Fin 4) (hi : BitVec 16) (rollover : Bool) (s : State) : Out :=
  onRunCore (dtSetCommitStep ex hi rollover) s

/-- WHOLE_SECOND_CHANGE (R41). -/
def execWholeSecondChange (s : State) : Out := onRunCore wholeSecondChangeStep s

/-- NANOSECOND_ROLLOVER (R35). -/
def execNanosecondRollover (s : State) : Out := onRunCore nanosecondRolloverStep s

/-- BG_STARVED (R51). -/
def execBgStarved (activity : Fin 5) (s : State) : Out := onRunCore (bgStarvedStep activity) s

end Sys2Proof.Machine
end

