-- ==== Sys2Proof/Machine/Synth.lean ====
section
/-! DEFINITION. Output synthesisers, their banks and outputs (R181 to R204): lock, commits, bypass and return. The commands of
both synthesisers' counts are in `Root.lean`. -/

namespace Sys2Proof.Machine

def sOff : Nat := 0
def sCal : Nat := 1
def sAcq : Nat := 2
def sLocked : Nat := 3
def sUnlocked : Nat := 4

def Core.rsLocked (c : Core) : Bool := c.rd RS_STAT.state = sLocked
def Core.synState (c : Core) (n : Nat) : Nat := c.rd SYN_STAT.state n

/-! ## Frequencies (R181, R182, R201) -/

/-- N × 2^40 of a SYN. -/
def Core.fbWord (c : Core) (n : Nat) : Nat :=
  c.rd SYN_FB_HI.n_int n * 2 ^ 40 + c.rd SYN_FB_HI.frac_hi n * 2 ^ 32 + c.rd SYN_FB_LO.frac_lo n

/-- N lies between 15.2 and 17.6 (R181). -/
def Core.fbValid (c : Core) (n : Nat) : Bool :=
  152 * 2 ^ 40 ≤ 10 * c.fbWord n && 10 * c.fbWord n ≤ 176 * 2 ^ 40

/-- SYN_STAT.int_mode and ssc_on (R183, R197). -/
def Core.synMode (c : Core) (n : Nat) : Core :=
  let on := (c.syn n).ssc.isSome
  (c.wrB SYN_STAT.ssc_on on n).wrB SYN_STAT.int_mode (c.fbWord n % 2 ^ 40 = 0 && !on) n

/-- The reference of the modulator runs: the SYN is neither OFF nor UNLOCKED (R185, R192). -/
def Core.synRuns (c : Core) (n : Nat) : Bool := c.synState n ≠ sOff && c.synState n ≠ sUnlocked

/-! ## Modulation (R197, R198) -/

/-- The profile's period in its units: `rate` of them pass in each TSCLK cycle. -/
def sscPeriod : Nat := 1250000

/-- The deviation that the profile adds to the steering value, as a fraction of the frequency: a triangle that stands at its
minimum, −dev or −dev/2, at place 0 (R197). -/
def Syn.sscDev (x : Syn) : Rat :=
  match x.ssc with
  | none => 0
  | some (centre, dev, _) =>
    let p := (x.sscPos : Rat) / sscPeriod
    let up := if p ≤ 1 / 2 then 2 * p else 2 - 2 * p
    (dev : Rat) / 10000 * (up - (if centre then 1 / 2 else 1))

/-- SYN_SSC asks for spread spectrum on a SYN that has it (R197). -/
def Core.sscAsked (c : Core) (n : Nat) : Bool := c.rdB SYN_SSC.en n && c.rdB SYN_CFG.aux n

/-- SYN_SSC takes effect (R197); a profile that runs stands `place` past its minimum. A profile that begins starts from
no deviation, downward. Log entry 111 (DESIGN CHOICE). -/
def Core.sscApply (c : Core) (n : Nat) (place : Nat := 0) : Core :=
  let x := c.syn n
  let new := if c.sscAsked n then some (c.rdB SYN_SSC.mode n, c.rd SYN_SSC.dev n, c.rd SYN_SSC.rate n) else none
  let pos := if x.ssc.isSome then place else if c.rdB SYN_SSC.mode n then 3 * sscPeriod / 4 else sscPeriod / 2
  (c.setSyn n { x with ssc := new, sscPos := pos }).synMode n

/-- The next state of the dither generator, x^24 + x^23 + x^22 + x^17 + 1 (R198). Log entry 112 (DEDUCED). -/
def lfsrNext (v : Nat) : Nat :=
  let b := b2n (bitOf v 23) + b2n (bitOf v 22) + b2n (bitOf v 21) + b2n (bitOf v 16)
  (2 * v + b % 2) % 2 ^ 24

/-- The dither that the generator adds to the modulator, in its LSBs; none in integer mode (R183, R198). Log entry 112
(DEDUCED). -/
def Core.ditherNow (c : Core) (n : Nat) : Int :=
  let a : Int := 2 ^ c.rd SYN_DITHER.amp n
  if !c.rdB SYN_DITHER.en n || c.rdB SYN_STAT.int_mode n then 0 else if bitOf (c.syn n).lfsr 23 then a else -a

/-- One cycle of 625 MHz at a SYN: the dither generator and the profile advance; at the profile's minimum SYN_SSC takes
effect (R197, R198). Log entry 7 (DESIGN CHOICE). -/
def Core.synTick (c : Core) (n : Nat) : Core :=
  if !c.synRuns n then c else
  let x := c.syn n
  let x := if c.rdB SYN_DITHER.en n then { x with lfsr := lfsrNext x.lfsr } else x
  match x.ssc with
  | none => c.setSyn n x
  | some (_, _, rate) =>
    let p := x.sscPos + rate
    let c := c.setSyn n { x with sscPos := p % sscPeriod }
    c.on (decide (sscPeriod ≤ p)) (fun c => c.sscApply n (p % sscPeriod))

/-- The frequency of the VCO of a locked SYN, Hz: 625 MHz × N × (1 + f_s), the profile added to the steering value; 625 MHz
stands for an eighth of the root (R182, R197). -/
def Core.vcoHz (c : Core) (n : Nat) : Rat :=
  let x := c.syn n
  625000000 * ((c.fbWord n : Rat) / 2 ^ 40) * (1 + (x.fS : Rat) / 2 ^ 48 + x.sscDev)

/-- The frequency of an output that its SYN drives, Hz (R182). -/
def Core.outHz (c : Core) (o : Nat) : Rat := c.vcoHz (o / 6) / c.rd SYN_DIV_ACT.div (o / 6) (o % 6)

/-- The frequency limit of a standard in Hz (R201). -/
def stdLimit (std : Nat) : Nat := if std = 4 then 250000000 else 1500000000

/-! ## What an output drives (R199, R203, R216) -/

def ocOff : Nat := 0
def ocSyn : Nat := 1
def ocBypLo : Nat := 2
def ocBypRoot : Nat := 3
def ocMute : Nat := 4
def ocPal : Nat := 5
def ocHoldLow : Nat := 6

/-- A fault mute engaged by the collector (R474, R476). -/
def Core.fltMuted (c : Core) (o : Nat) : Bool := c.engaged.any (fun e => e.kind = 2 && bitOf e.targets o)

/-- The bypass clock of an output (R199): an LO bypass waits for lo_ok and for the clocks to leave the backup oscillator
(R418); a ROOT bypass falls back to LO while RS is not LOCKED. Log entry 40 (DEDUCED). -/
def Core.bypCur (c : Core) (o : Nat) : Nat :=
  let sel := c.rd OUT_CFG.byp_src o
  let div := c.rd OUT_BYP.byp_div o
  let lim := stdLimit (c.rd OUT_CFG.std o)
  let lo := c.rdB RS_STAT.lo_ok && c.rd RS_STAT.clk_src ≠ 2
  if sel = 0 || sel = 3 || div = 0 then ocMute
  else if sel = 2 && c.rsLocked then (if 5000000000 ≤ lim * div then ocBypRoot else ocMute)
  else if !lo || decide (lim * div * 256 < c.loNom) then ocMute
  else ocBypLo

/-- What output `o` drives, OUT_STAT.cur (R199, R203, R204, R216). -/
def Core.outCur (c : Core) (o : Nat) : Nat :=
  let n := o / 6
  let byp := bitOf (c.rd SYN_STAT.byp n) (o % 6)
  if c.inReset || (4 ≤ o && !c.estRun) || !c.rdB OUT_CFG.en o || c.fltMuted o || c.inRst.contains (3, o) then ocOff
  else if c.rdB OUT_CFG.src o then ocPal
  else if byp then (if (c.syn n).retPend && !c.rdB OUT_CFG.force_byp o then ocHoldLow else c.bypCur o)
  else if c.rd SYN_DIV_ACT.div n (o % 6) = 0 then ocOff
  else if c.rdB SYN_STAT.commit_pend n then ocHoldLow
  else ocSyn

/-- The enabled outputs of a bank that its dividers feed. -/
def Core.synOuts (c : Core) (n : Nat) : List Nat :=
  (List.range 6).filter (fun m => c.rdB OUT_CFG.en (6 * n + m) && !c.rdB OUT_CFG.src (6 * n + m) &&
    c.rd SYN_DIV_ACT.div n m ≠ 0)

/-- The bank output with the least divider, the first of several (R193). Log entry 39 (DEDUCED). -/
def Core.fastOut (c : Core) (n : Nat) : Option Nat :=
  (c.synOuts n).foldl (fun b m => match b with
    | some k => if c.rd SYN_DIV_ACT.div n m < c.rd SYN_DIV_ACT.div n k then some m else b
    | none => some m) none

/-- OUT_STAT.cur of one output follows, with a CLK_EVENT record (R199), and the bank's fast_out; where the output begins or
ceases to follow its PAL source, the instant is kept (R203). Log entry 37 (DEDUCED). -/
def Core.outRefresh (c : Core) (o cause : Nat) : Core :=
  if c.part.nOut ≤ o then c else
  let old := c.rd OUT_STAT.cur o
  let new := c.outCur o
  let c := c.wr SYN_STAT.fast_out ((c.fastOut (o / 6)).getD 15) (o / 6)
  let c := if (old = ocPal) = (new = ocPal) then c else { c with pal := { c.pal with swap := c.pal.swap.set 0 o c.now } }
  if new = old then c else (c.wr OUT_STAT.cur new o).clkEvent 2 o new old cause

def Core.bankRefresh (c : Core) (n cause : Nat) : Core := c.each (List.range 6) (fun c m => c.outRefresh (6 * n + m) cause)
def Core.outRefreshAll (c : Core) (cause : Nat) : Core := c.each (List.range c.part.nOut) (fun c o => c.outRefresh o cause)

/-- Every SYN-sourced output of the bank goes into bypass (R199). -/
def Core.bankByp (c : Core) (n : Nat) : Core :=
  c.each (List.range 6) fun c m => c.wrBit SYN_STAT.byp m (!c.rdB OUT_CFG.src (6 * n + m)) n

/-! ## Return (R200) -/

/-- A return is requested where the SYN is LOCKED, with auto_ret or a pulse, and something is still to return.
Log entry 40 (DEDUCED). -/
def Core.retEval (c : Core) (n : Nat) (pulse : Bool) : Core :=
  let x := c.syn n
  let rest := (List.range 6).any (fun m => bitOf (c.rd SYN_STAT.byp n) m && !c.rdB OUT_CFG.force_byp (6 * n + m))
  if c.synState n = sLocked && (pulse || c.rdB SYN_CFG.auto_ret n) && (!x.returned || rest) && !x.retPend then
    (c.setSyn n { x with retPend := true }).bankRefresh n kcReturn
  else c

/-! ## Commits (R195, R196) -/

/-- The staged values load, and the commit completes (R195 steps 3 and 4). -/
def Core.commitLoad (c : Core) (n : Nat) : Core :=
  let c := c.each (List.range 6) fun c m =>
    (c.wr SYN_DIV_ACT.div (c.rd SYN_DIV_STAGE.div n m) n m).wr SYN_DIV_ACT.phase (c.rd SYN_DIV_STAGE.phase n m) n m
  let c := (c.wr SYN_STAT.commit_pend 0 n).wr SYN_EVENT.commit_done 1 n
  (c.clkEvent 1 n (c.synState n) (c.synState n) kcCommit).bankRefresh n kcCommit

/-- One staged value is valid (R195 step 1). -/
def Core.stageOk (c : Core) (n m : Nat) : Bool :=
  let div := c.rd SYN_DIV_STAGE.div n m
  div = 0 || (6 ≤ div && decide (c.rd SYN_DIV_STAGE.phase n m < 2 * div) &&
    decide (625000000 * c.fbWord n ≤ stdLimit (c.rd OUT_CFG.std (6 * n + m)) * div * 2 ^ 40))

/-- A refusal in SYN_CFG_REJECT for the register at `off`. -/
def Core.synReject (c : Core) (n off : Nat) : Core :=
  c.reject SYN_CFG_REJECT.valid SYN_CFG_REJECT.count SYN_CFG_REJECT.word (off / 4) n

/-- A commit pulse (R195, R196); the Boolean says that it was refused. -/
def Core.synCommit (c : Core) (n : Nat) : Core × Bool :=
  if c.rdB SYN_STAT.commit_pend n then (c.wr SYN_EVENT.commit_refused 1 n, false)
  else if !(List.range 6).all (fun m => c.stageOk n m) then ((c.wr SYN_EVENT.commit_refused 1 n).synReject n 0x40, true)
  else if c.synState n = sLocked && (c.syn n).returned then
    ((c.wr SYN_STAT.commit_pend 1 n).bankRefresh n kcCommit, false)
  else (c.commitLoad n, false)

/-! ## States (R192, R194) -/

/-- A SYN takes a state with a cause: its record and event bits; on leaving LOCKED its pending phase is discarded, its bank
goes into bypass and a commit completes (R192, R194, R196, R199). Log entry 41 (DEDUCED). -/
def Core.synGoto (c : Core) (n new cause : Nat) : Core :=
  let old := c.synState n
  let c := c.wr SYN_STAT.cause cause n
  if new = old then c else
  let c := c.wr SYN_STAT.state new n
  let x := c.syn n
  let c := c.setSyn n { x with
    inWin := 0, outWin := 0,
    lfsr := if new = sAcq then (if c.rd SYN_DITHER.seed n = 0 then 1 else c.rd SYN_DITHER.seed n) else x.lfsr }
  let c := c.clkEvent 1 n new old cause
  let c := c.on (new = sOff || new = sUnlocked) (fun c => c.sscApply n)
  let c := c.on (new = sLocked) (fun c => c.wr SYN_EVENT.lock 1 n)
  if old = sLocked then
    let lost := (c.syn n).phase ≠ 0
    let wait := (c.syn n).commitWait
    let c := c.setSyn n { c.syn n with phase := 0, returned := false, retPend := false, commitWait := false }
    let c := (c.on lost (fun c => c.synLose n)).synPend n
    let c := (c.wr SYN_EVENT.lock_lost 1 n).bump SYN_UNLOCK_CNT.count n
    let c := c.bankByp n
    let c := if c.rdB SYN_STAT.commit_pend n then c.commitLoad n else c.bankRefresh n cause
    let c := c.on wait (fun c => (c.synCommit n).1)
    c.on (cause = kcLockLost) (fun c => c.raise 25 n)
  else c.bankRefresh n cause

/-- The change of state that a SYN's conditions ask for (R192, R181, R417). -/
def Core.synEval (c : Core) (n : Nat) : Core :=
  if c.part.nSyn ≤ n || c.inRst.contains (2, n) then c else
  let st := c.synState n
  if !c.rdB SYN_CFG.en n then (if st = sOff then c else c.synGoto n sOff kcDisable)
  else if st = sOff then
    if !c.fbValid n then c.wr SYN_STAT.cause kcCfgInvalid n
    else if c.estRun && c.rsLocked then c.synGoto n sCal kcStart else c
  else if st = sUnlocked && c.rsLocked then c.synGoto n sCal kcRetry
  else c

/-- A SYN leaves LOCKED (or an earlier state) for UNLOCKED; the retry follows in the next cycle where RS is LOCKED (R192).
Log entry 40 (DEDUCED). -/
def Core.synUnlock (c : Core) (n cause : Nat) : Core := (c.synGoto n sUnlocked cause).synEval n

/-- One clock period with no command waiting: the SYNs' modulators and device time advance (R35, R197, R198). -/
def Core.clockPeriod (c : Core) : Core :=
  (c.on (c.pclk && !c.inReset) (fun c => c.each (List.range c.part.nSyn) Core.synTick)).tick

/-! ## Register writes (R192, R195, R197, R198, R201, R203) -/

/-- A write of SYN_CFG (R192, R200). -/
def Core.synCfgWrite (c : Core) (n be data : Nat) : Core :=
  ((c.writeRow SYN_CFG.row false be data n).1.synEval n).retEval n false

/-- A write of SYN_FB_HI by an executor: the pair is RWE (R215). -/
def Core.synFbWrite (c : Core) (n ex data : Nat) : Core × Bool :=
  let en := c.rdB SYN_CFG.en n
  let lo := bits (c.staged ex (SYN_FB_LO.frac_lo.addr n 0)) 31 0
  let hi := bits data 7 0
  let ni := bits data 12 8
  if en && (lo ≠ c.rd SYN_FB_LO.frac_lo n || hi ≠ c.rd SYN_FB_HI.frac_hi n || ni ≠ c.rd SYN_FB_HI.n_int n) then
    (c.synReject n 8, true)
  else
    ((((c.wr SYN_FB_LO.frac_lo lo n).wr SYN_FB_HI.frac_hi hi n).wr SYN_FB_HI.n_int ni n).synMode n, false)

/-- A write of SYN_DIV_STAGEm that changes it is refused while a commit is pending (R196, R363). Log entry 40 (DEDUCED). -/
def Core.synStageWrite (c : Core) (n m be data : Nat) : Core × Bool :=
  let y := (c.writeRow SYN_DIV_STAGE.row false be data n m).1
  if c.rdB SYN_STAT.commit_pend n && y.rowWord SYN_DIV_STAGE.row n m ≠ c.rowWord SYN_DIV_STAGE.row n m
  then (c.synReject n (0x10 + 4 * m), true)
  else (y, false)

/-- A write of SYN_SSC: en without aux, and a dev or rate out of range with en, are refused, and the other fields are
written (R197, R363); it takes effect at the next minimum of the profile that runs, or at once where none runs. Log
entries 40 (DEDUCED), 111 (DESIGN CHOICE). -/
def Core.synSscWrite (c : Core) (n be data : Nat) : Core × Bool :=
  let get := fun (f : Fld) => mergeField f (c.rd f n) be data
  let dev := get SYN_SSC.dev
  let rate := get SYN_SSC.rate
  let noAux := get SYN_SSC.en ≠ 0 && !c.rdB SYN_CFG.aux n
  let bad := get SYN_SSC.en ≠ 0 && !noAux && (dev < 5 || 50 < dev || rate < 60 || 126 < rate)
  let keep := fun (c1 : Core) (l : List Fld) => c1.each l (fun c1 f => c1.wr f (c.rd f n) n)
  let y := (c.writeRow SYN_SSC.row false be data n).1
  let y := y.on noAux (fun y => keep y [SYN_SSC.en])
  let y := y.on bad (fun y => keep y [SYN_SSC.en, SYN_SSC.dev, SYN_SSC.rate])
  let y := if y.synRuns n && (y.syn n).ssc.isSome then y else y.sscApply n
  (if noAux || bad then y.synReject n 0x44 else y, noAux || bad)

/-- A write of SYN_DITHER: the generator loads its seed when en rises (R198). -/
def Core.synDitherWrite (c : Core) (n be data : Nat) : Core :=
  let old := c.rdB SYN_DITHER.en n
  let c := (c.writeRow SYN_DITHER.row false be data n).1
  if !old && c.rdB SYN_DITHER.en n then
    c.setSyn n { c.syn n with lfsr := if c.rd SYN_DITHER.seed n = 0 then 1 else c.rd SYN_DITHER.seed n }
  else c

/-- A SYN_CTRL write: relock, return and commit pulses. A commit that comes with a return starts after it (R192, R195, R196,
R200). -/
def Core.synCtrlWrite (c : Core) (n m : Nat) : Core × Bool :=
  let c := c.on (bitOf m 2 && c.synState n = sLocked) (fun c => c.synUnlock n kcHost)
  let c := c.on (bitOf m 1) (fun c => c.retEval n true)
  if !bitOf m 0 then (c, false)
  else if bitOf m 1 && (c.syn n).retPend then (c.setSyn n { c.syn n with commitWait := true }, false)
  else c.synCommit n

/-- A refusal in OUT_CFG_REJECT. -/
def Core.outReject (c : Core) (o off : Nat) : Core :=
  c.reject OUT_CFG_REJECT.valid OUT_CFG_REJECT.count OUT_CFG_REJECT.word (off / 4) o

/-- What follows a change of an output's enable or force_byp (R199, R203): an output enabled before its SYN has returned, or
forced, is in bypass; one released returns with its bank. -/
def Core.outChanged (c : Core) (o : Nat) (oldEn oldForce : Bool) : Core :=
  let n := o / 6
  let en := c.rdB OUT_CFG.en o
  let force := c.rdB OUT_CFG.force_byp o
  let clk := !c.rdB OUT_CFG.src o
  let c := c.on (clk && ((en && !(c.syn n).returned) || force)) (fun c => c.wrBit SYN_STAT.byp (o % 6) true n)
  let cause := if en = oldEn then kcHost else if en then kcStart else kcDisable
  let c := c.outRefresh o cause
  c.on (oldForce && !force) (fun c => c.retEval n false)

/-- A write of OUT_CFG: std is RWE; codes 5 to 7, and 3 on a 1.8 V bank, are refused (R201). -/
def Core.outCfgWrite (c : Core) (o be data : Nat) : Core × Bool :=
  let std := mergeField OUT_CFG.std (c.rd OUT_CFG.std o) be data
  let bad := std ≠ c.rd OUT_CFG.std o && (5 ≤ std || (std = 3 && c.bankLow (o / 6)))
  let oldEn := c.rdB OUT_CFG.en o
  let oldForce := c.rdB OUT_CFG.force_byp o
  let r := c.writeRow OUT_CFG.row (oldEn || bad) be data o
  let c := if r.2 then r.1.outReject o 0 else r.1
  (c.outChanged o oldEn oldForce, r.2)

/-- OUT_CFG.en of one output at `v` (R337). -/
def Core.outEnable (c : Core) (o : Nat) (v : Bool) : Core :=
  let oldEn := c.rdB OUT_CFG.en o
  (c.wrB OUT_CFG.en v o).outChanged o oldEn (c.rdB OUT_CFG.force_byp o)

/-! ## The commands -/

/-- SYN_CAL_DONE: band calibration completes (R192). -/
def synCalDoneStep (n : Fin 4) (band : BitVec 8) (c : Core) : Core :=
  if c.part.nSyn ≤ n.val || c.synState n.val ≠ sCal then c
  else (c.wr SYN_STAT.vco_band band.toNat n.val).synGoto n.val sAcq kcCalDone

/-- SYN_RELOCK (R192). -/
def synRelockStep (n : Fin 4) (c : Core) : Core :=
  c.atReg exHost (SYN_CTRL.relock.addr n 0) fun c => (c.synCtrlWrite n.val 4).1

/-- COMMIT (R195, R196). -/
def commitStep (n : Fin 4) (c : Core) : Core :=
  c.atReg exHost (SYN_CTRL.commit.addr n 0) fun c => (c.synCommit n.val).1

/-- COMMIT_LOAD: every running output is holding (R195). -/
def commitLoadStep (n : Fin 4) (c : Core) : Core :=
  if c.part.nSyn ≤ n.val || !c.rdB SYN_STAT.commit_pend n.val then c else c.commitLoad n.val

/-- RET: a return pulse (R200). -/
def retStep (n : Fin 4) (c : Core) : Core :=
  c.atReg exHost (SYN_CTRL.ret.addr n 0) fun c => c.retEval n.val true

/-- RETURN: the bank's outputs whose force_byp is 0 restart from the dividers, and a commit that came with the return starts
(R196). With sec_align, `diff` phase units lie between
the restart's edge and the aligned instant; they enter the accumulator, and phase_lost clears (R200).
Log entry 40 (DEDUCED). -/
def returnStep (n : Fin 4) (diff : Int) (c : Core) : Core :=
  let n := n.val
  let x := c.syn n
  if c.part.nSyn ≤ n || !x.retPend then c else
  let c := c.setSyn n { x with retPend := false, returned := true, commitWait := false }
  let c := c.each (List.range 6) fun c m =>
    if c.rdB OUT_CFG.force_byp (6 * n + m) then c else c.wrBit SYN_STAT.byp m false n
  let c := if c.rdB SYN_CFG.sec_align n then
      ((c.setSyn n { c.syn n with phase := (c.syn n).phase + diff }).synPend n).wr SYN_STAT.phase_lost 0 n
    else c
  let c := (c.wr SYN_EVENT.returned 1 n).bankRefresh n kcReturn
  c.on x.commitWait (fun c => (c.synCommit n).1)

/-- The quota of one period of the fastest output, in quanta: ⌊P_fast / 64 / 0.25 ps⌋ = ⌊100 · div / N⌋, at least 1; 41 for
the 0.6667 ns without an enabled output (R193). Log entry 39 (DEDUCED). -/
def Core.quota (c : Core) (n : Nat) : Nat :=
  match c.fastOut n with
  | none => 41
  | some m => max 1 (100 * c.rd SYN_DIV_ACT.div n m * 2 ^ 40 / c.fbWord n)

/-- PHASE_QUANTUM (R193). Log entry 39 (DEDUCED). -/
def phaseQuantumStep (n : Fin 4) (c : Core) : Core :=
  let n := n.val
  if c.part.nSyn ≤ n || c.synState n ≠ sLocked then c else
  let x := c.syn n
  let q : Int := c.quota n
  let take := clampI (-q) q x.quanta
  (c.setSyn n { x with phase := x.phase - (take : Rat) * quantum }).synPend n

/-! ## The meanings of the commands -/

/-- SYN_CAL_DONE (R192). -/
def execSynCalDone (n : Fin 4) (band : BitVec 8) (s : State) : Out := onRunCore (synCalDoneStep n band) s

/-- SYN_RELOCK (R192). -/
def execSynRelock (n : Fin 4) (s : State) : Out := onRunCore (synRelockStep n) s

/-- COMMIT (R195). -/
def execCommit (n : Fin 4) (s : State) : Out := onRunCore (commitStep n) s

/-- COMMIT_LOAD (R195). -/
def execCommitLoad (n : Fin 4) (s : State) : Out := onRunCore (commitLoadStep n) s

/-- RET (R200). -/
def execRet (n : Fin 4) (s : State) : Out := onRunCore (retStep n) s

/-- RETURN (R200). -/
def execReturn (n : Fin 4) (diff : Int) (s : State) : Out := onRunCore (returnStep n diff) s

/-- PHASE_QUANTUM (R193). -/
def execPhaseQuantum (n : Fin 4) (s : State) : Out := onRunCore (phaseQuantumStep n) s

end Sys2Proof.Machine
end

