-- ==== Sys2Proof/Machine/Aligner.lean ====
section
/-! DEFINITION. Pulse aligners and edge generators (R205 to R209): the latch and the firing of an edge, companion stamps, ToD
frames, and the writes of an aligner's registers. -/

namespace Sys2Proof.Machine

/-- 10 µs and 1 µs in phase units (R206, R207). Log entry 42 (DEDUCED). -/
def latchLead : Int := 655360000
def companionLead : Int := 65536000

/-- P in phase units. -/
def Core.paPeriod (c : Core) (a : Nat) : Int := ((max 1 (c.rd PAL_PA_PERIOD.period a) * 65536 : Nat) : Int)

/-- The instant of the grid `base + j × p`, with `j` at least `least`, nearest to 10 µs from now. -/
def Core.paGrid (c : Core) (base p least : Int) : Int :=
  base + max least (roundR16 (((c.now : Int) + latchLead - base : Int) / (p : Rat))) * p

/-- The leading edge that this latch places, before any limit (R206), with the φ in use; none while the aligner has
nothing to go by. Log entry 42 (DEDUCED). -/
def Core.paTarget (c : Core) (a : Nat) : Option (Int × Int) :=
  let p := c.paPeriod a
  let o := c.paOffs a
  let src := c.rd PAL_PA_CFG.src a
  let x := c.pa a
  match c.rd PAL_PA_CFG.mode a with
  | 0 => some (c.paGrid o p 0, 0)
  | 1 =>
    let phi := if c.usable src then some (roundR16 (((c.cand src).outPhi : Rat) / 2 ^ 32)) else if c.paState a = paHold then some x.phi else none
    phi.map (fun f => (c.paGrid (o + f) p 0, f))
  | _ => x.ts.map (fun t => (c.paGrid ((t : Int) + o + (-((o - companionLead) / p)) * p) p 0, 0))

/-- The latched position under PAL_PA_MAXSTEP, and the remainder (R208). -/
def Core.paLimit (c : Core) (a : Nat) (t : Int) : Int × Int :=
  match (c.pa a).pos with
  | none => (t, 0)
  | some prev =>
    let p := c.paPeriod a
    let near := prev + max 1 (roundR16 ((t - prev : Int) / (p : Rat))) * p
    let m : Int := c.rd PAL_PA_MAXSTEP.maxstep a * 1024
    let d := t - near
    if m = 0 then (if prev < t then t else near, 0)
    else
      let s := clampI (-m) m d
      (near + s, d - s)

/-- PA_EDGE_LATCH: the next edge of an aligner in WAIT, RUN or HOLD is latched (R207): the trailing edge of the pulse
whose leading edge was latched last, W after it (R206), else the leading edge of the next pulse; the first latch of a
WAIT starts RUN (R208). Log entry 42 (DEDUCED). -/
def paEdgeLatchStep (a : Fin 8) (c : Core) : Core :=
  let a := a.val
  let st := c.paState a
  let x := c.pa a
  if !(st = paWait || st = paRun || st = paHold) then c else
  match x.trail, c.paTarget a with
  | some l, _ => c.setPa a { x with trail := none, edges := x.edges ++ [((l : Rat) + c.paWidth a, false)] }
  | none, none => c
  | none, some (t, f) =>
    let r := c.paLimit a t
    let c := c.setPa a { x with pos := some r.1, trail := some r.1, edges := x.edges ++ [((r.1 : Rat), true)], phi := f }
    let c := (c.wrS PAL_PA_RESID.resid r.2 a).wrB PAL_PA_STAT.slewing (r.2 ≠ 0) a
    if st = paWait then c.paGoto a paRun kcStart else c

/-- A time in the four words of R13. -/
def Core.paEdgeRegs (c : Core) (a t : Nat) : Core :=
  let c := c.wr PAL_PA_EDGE_FRAC.frac (t % 65536) a
  let c := c.wr PAL_PA_EDGE_NS.ns ((t % secPU) / 65536) a
  let c := c.wr PAL_PA_EDGE_SEC_LO.sec_lo (t / secPU) a
  c.wr PAL_PA_EDGE_SEC_HI.sec_hi (t / secPU / 2 ^ 32) a

/-- PA_EDGE: device time reaches the first latched edge, which fires on the 6.25 ps grid (R205). A leading edge begins
the pulse: the remainder carries to the next one (R205), PAL_PA_EDGE reads the edge (R207), and with tod_en a frame will
label the next pulse (R209). A trailing edge ends it, placed on the same grid with what its leading edge took up. Log
entry 42 (DEDUCED). -/
def paEdgeStep (a : Fin 8) (c : Core) : Core :=
  let a := a.val
  let x := c.pa a
  match x.edges with
  | [] => c
  | (e, false) :: r => c.setPa a { x with edges := r, high := false, fall := some (placeEdge (e + x.took)) }
  | (e, true) :: r =>
    let want : Rat := e + x.carry
    let tod := if c.rdB PAL_PA_CFG.tod_en a && c.paState a = paRun
      then some (roundR16 ((e + (c.paPeriod a : Rat)) / secPU)).toNat else none
    (c.setPa a { x with
      edges := r, high := true, rise := some (placeEdge want), fall := none, took := x.carry,
      carry := want - placeEdge want, tod := tod }).paEdgeRegs a
      (roundR16 (placeEdge want)).toNat

/-! ## Levels at the outputs (R201, R203 to R206) -/

/-- What a leg of an output shows: a static level, high impedance, or the clock, upright or inverted. -/
inductive Leg where
  | low | high | hiZ | clock | inverse
deriving DecidableEq, Repr

def Leg.level (b : Bool) : Leg := if b then .high else .low

/-- The nominal pad delay of an output's standard, phase units (R205, R503). -/
def padDelay (std : Nat) : Rat := (match std with | 0 => 620 | 1 => 680 | 4 => 1350 | _ => 550 : Nat) * 65536 / 1000

/-- When the edge generator of output `o` fires an edge that is due at the ball at `q` (R205). -/
def Core.edgeFires (c : Core) (o : Nat) (q : Rat) : Rat := placeEdge q - padDelay (c.rd OUT_CFG.std o)

/-- The last pulse of a PAL source, its rising edge and its falling edge where that has been placed (R204 to R206): a pulse
aligner, a channel's angle clock, or its revolution pulse. -/
def Core.palPulse (c : Core) (src : Nat) : Option (Rat × Option Rat) :=
  if src < 8 then (c.pa src).rise.map (fun r => (r, (c.pa src).fall))
  else ((if src < 20 then (c.rot (src - 8)).acPulse else (c.rot (src - 20)).rpPulse)).map (fun p => (p.1, some p.2))

/-- The pulse of its PAL source as the edge generator of output `o` fires it (R205). -/
def Core.genPulse (c : Core) (o : Nat) : Option (Rat × Option Rat) :=
  (c.palPulse (c.rd OUT_CFG.pal_src o)).map (fun p => (c.edgeFires o p.1, p.2.map (c.edgeFires o)))

/-- The level that the edge generator of output `o` gives at `t`: the pulse of its source, inverted for an aligner with
pol = 1; STOPPED it stays low once the latched edge that ends its high phase has fired (R205, R206, R208).
Log entry 42 (DEDUCED). -/
def Core.genHigh (c : Core) (o : Nat) (t : Rat) : Bool :=
  let src := c.rd OUT_CFG.pal_src o
  let high := match c.genPulse o with
    | some (r, f) => decide (r ≤ t) && (match f with | some q => decide (t < q) | none => true)
    | none => false
  if src < 8 && c.rdB PAL_PA_CFG.pol src then !high && !(c.rdB OUT_STAT.pal_low o && (c.pa src).edges.isEmpty) else high

/-- Whether the last cycle of the source of output `o` began before the output last began or ceased to follow it (R203). -/
def Core.genOld (c : Core) (o : Nat) : Bool :=
  match c.palPulse (c.rd OUT_CFG.pal_src o) with
  | some (r, _) => decide (r < c.pal.swap.get 0 o)
  | none => false

/-- The P and N legs of output `o` at device time `t` (R201, R203): muted, held low, or driven by its clock or PAL
source, whose edges come through the pad (R205). An output that ceases to follow a PAL source completes the high phase in
which it is, and one that begins to follow it starts at the source's next cycle. A disabled leg of an LVCMOS output is as a muted
one. Log entry 110 (DEDUCED). -/
def Core.outLegs (c : Core) (o : Nat) (t : Rat) : Leg × Leg :=
  let cur := c.rd OUT_STAT.cur o
  let lv := c.rd OUT_CFG.std o = 4
  let off : Leg := if c.rdB OUT_CFG.hiz o then .hiZ else .low
  let drive := fun (p n : Leg) =>
    if !lv then (p, n)
    else (if c.rdB OUT_CFG.p_en o then p else off, if !c.rdB OUT_CFG.n_en o then off else if c.rdB OUT_CFG.n_inv o then n else p)
  let high := c.genHigh o (t - padDelay (c.rd OUT_CFG.std o))
  let was := c.genHigh o ((c.pal.swap.get 0 o : Rat) - padDelay (c.rd OUT_CFG.std o))
  if (cur = ocOff || cur = ocMute) && c.rdB OUT_CFG.src o && c.genOld o && was && high then drive .high .low
  else if cur = ocOff || cur = ocMute then
    (if c.rdB OUT_CFG.hiz o then (.hiZ, .hiZ) else if lv then (.low, .low) else (.low, .high))
  else if cur = ocHoldLow then drive .low .high
  else if cur = ocPal then
    let b := high && !c.genOld o
    drive (.level b) (.level !b)
  else drive .clock .inverse

/-- COMPANION_STAMP: a stamp of the SE2 companion leg of REF pin `pin`, on the TSCLK grid (R206); an aligner in HOLD for want of stamps
returns (R208). -/
def companionStampStep (pin : Fin 16) (t : Nat) (c : Core) : Core :=
  if c.rd REF_CFG.mode pin.val ≠ 2 then c else
  c.each ((List.range 8).filter (fun a => c.rd PAL_PA_CFG.mode a = 2 && c.rd PAL_PA_CFG.src a = pin.val)) fun c a =>
    if c.paState a = paOff then c else
    let c := c.setPa a { c.pa a with ts := some (c.tsGrid t) }
    if c.paState a = paHold then c.paGoto a paRun kcReturn else c

/-- COMPANION_TIMEOUT: no stamp for 2 × P (R208). -/
def companionTimeoutStep (a : Fin 8) (c : Core) : Core :=
  if c.paState a.val = paRun && c.rd PAL_PA_CFG.mode a.val = 2 then c.paGoto a.val paHold kcCandLost else c

/-! ## ToD frames (R83, R209) -/

/-- The 16 bytes of a ToD frame (R83). -/
def todFrame (sec cclass flags utc : Nat) : List Byte :=
  let l := bytesLE 2 0x5AA5 ++ bytesLE 1 1 ++ bytesLE 1 16 ++ bytesLE 6 sec ++ bytesLE 1 cclass ++ bytesLE 1 flags ++ bytesLE 2 utc
  l ++ bytesLE 2 (crc16 l)

/-- The aligner that holds a TODOUT pin. -/
def Core.todHolder (c : Core) (pin : Nat) : Option Nat := c.pal.holder.get none pin

def Core.setHolder (c : Core) (pin : Nat) (a : Option Nat) : Core :=
  { c with pal := { c.pal with holder := c.pal.holder.set none pin a } }

/-- TODOUT_FRAME: 10 ms after the leading edge the holder of the pin sends its frame, unless it is in HOLD or STOPPED
(R209). -/
def todoutFrameStep (a : Fin 8) (c : Core) : Core :=
  let a := a.val
  let x := c.pa a
  let pin := c.rd PAL_PA_CFG.tod_pin a
  match x.tod with
  | none => c
  | some s =>
    let c := c.setPa a { x with tod := none }
    if c.paState a = paRun && c.rdB PAL_PA_CFG.tod_en a && c.todHolder pin = some a then
      let f := todFrame s (c.rd PAL_PA_TOD.cclass a) (c.rd PAL_PA_TOD.flags a) (c.rd PAL_PA_TOD.utc_offset a)
      { c.wr PAL_PA_EVENT.tod_sent 1 a with pal := { c.pal with sent := c.pal.sent.set [] pin f } }
    else c

/-! ## Register writes (R206, R207, R209, R217) -/

def Core.paReject (c : Core) (a off : Nat) : Core :=
  c.reject PAL_PA_CFG_REJECT.valid PAL_PA_CFG_REJECT.count PAL_PA_CFG_REJECT.word (off / 4) a

/-- A write of PAL_PA_CFG: RWE; tod_en and tod_pin keep their values where it would name a TODOUT pin that another aligner
holds, and the pin is claimed or freed otherwise (R209, R363). Log entry 42 (DEDUCED). -/
def Core.paCfgWrite (c : Core) (a be data : Nat) : Core × Bool :=
  let te := mergeField PAL_PA_CFG.tod_en (c.rd PAL_PA_CFG.tod_en a) be data
  let tp := mergeField PAL_PA_CFG.tod_pin (c.rd PAL_PA_CFG.tod_pin a) be data
  let new := te ≠ c.rd PAL_PA_CFG.tod_en a || tp ≠ c.rd PAL_PA_CFG.tod_pin a
  let held := match c.todHolder tp with | some b => b ≠ a | none => false
  let taken := te = 1 && new && held
  let r := c.writeRow PAL_PA_CFG.row (c.rdB PAL_PA_CFG.en a) be data a
  let y := r.1.on taken (fun y => (y.wr PAL_PA_CFG.tod_en (c.rd PAL_PA_CFG.tod_en a) a).wr PAL_PA_CFG.tod_pin (c.rd PAL_PA_CFG.tod_pin a) a)
  let c := y.on (r.2 || taken) (fun y => y.paReject a 0)
  let c := c.each [0, 1] fun c p => if c.todHolder p = some a then c.setHolder p none else c
  let c := c.on (c.rdB PAL_PA_CFG.tod_en a) (fun c => c.setHolder (c.rd PAL_PA_CFG.tod_pin a) (some a))
  (c.palEval a, r.2 || taken)

/-- A write of PAL_PA_PERIOD (RWE), or of a plain register of an aligner at `off`. -/
def Core.paRowWrite (c : Core) (a off : Nat) (r : RegRow) (be data : Nat) : Core × Bool :=
  let w := c.writeRow r (c.rdB PAL_PA_CFG.en a) be data a
  ((if w.2 then w.1.paReject a off else w.1).palEval a, w.2)

/-- A write of PAL_PA_OFFS_HI by an executor: a commit beyond ±0.5 s is refused (R206, R217). -/
def Core.paOffsWrite (c : Core) (a ex data : Nat) : Core × Bool :=
  let lo := c.staged ex (PAL_PA_OFFS_LO.offs_lo.addr a 0)
  let hi := bits data 15 0
  if offsMax.natAbs < (toS 48 (lo + hi * 2 ^ 32)).natAbs then (c.paReject a 0x10, true)
  else (((c.wr PAL_PA_OFFS_LO.offs_lo lo a).wr PAL_PA_OFFS_HI.offs_hi hi a).palEval a, false)

/-! ## The meanings of the commands -/

/-- PA_EDGE_LATCH (R207). -/
def execPaEdgeLatch (a : Fin 8) (s : State) : Out := onRunCore (paEdgeLatchStep a) s

/-- PA_EDGE (R205). -/
def execPaEdge (a : Fin 8) (s : State) : Out := onRunCore (paEdgeStep a) s

/-- COMPANION_STAMP (R206). -/
def execCompanionStamp (pin : Fin 16) (t : Nat) (s : State) : Out := onRunCore (companionStampStep pin t) s

/-- COMPANION_TIMEOUT (R208). -/
def execCompanionTimeout (a : Fin 8) (s : State) : Out := onRunCore (companionTimeoutStep a) s

/-- TODOUT_FRAME (R209). -/
def execTodoutFrame (a : Fin 8) (s : State) : Out := onRunCore (todoutFrameStep a) s

end Sys2Proof.Machine
end

