-- ==== Sys2Proof/Machine/Tim.lean ====
section
/-! DEFINITION. The Time Interval Meter and the code-density calibration of the TDCs (R218 to R241). -/

namespace Sys2Proof.Machine

def tsOff : Nat := 0
def tsReady : Nat := 1
def tsGating : Nat := 2
def tsFinishing : Nat := 3

def Core.timState (c : Core) : Nat := c.rd TIM_STAT.state
def Core.setTim (c : Core) (u : TimU) : Core := { c with tim := u }

/-! ## Calibration tables (R233) -/

/-- The TIM's coarse period: 1.6 ns, 104,857.6 phase units (R220). -/
def coarse : Rat := 1048576 / 10

/-- The uniform table of span 1,778 (R233). -/
def uniformTab : List Nat := List.replicate 1778 15098

/-- The TDCs of the variant (R233, R374). -/
def Part.tdc (p : Part) (k : Nat) : Bool :=
  if k < 20 then p.cand k
  else if k < 22 then true
  else k < 30 && (k - 22) / 2 < p.nLane

def Core.tdcTab (c : Core) (k : Nat) : TdcTab := c.tim.tabs.get {} k

/-- The widths of all entries: those of the table, or the uniform ones. -/
def TdcTab.all (x : TdcTab) : List Nat := if x.widths.isEmpty then uniformTab else x.widths

/-- The widths of the span, which are in use. -/
def TdcTab.use (x : TdcTab) : List Nat := x.all.take x.span

/-- The byte `hi` (0 low, 1 high) of an entry's width written (R340, R371). -/
def TdcTab.put (x : TdcTab) (e hi : Nat) (b : Byte) : TdcTab :=
  let w := x.all ++ List.replicate (e + 1 - x.all.length) 0
  let v := w.getD e 0
  { x with widths := w.set e (if hi = 0 then v / 256 * 256 + b.toNat else v % 256 + 256 * b.toNat) }

/-- The fine time of a raw code, phase units: half the code's width added to the widths below it; a code at or beyond the
span takes the last code of the span (R233). It lies from 0 to one coarse period (R230). Log entry 44 (DEDUCED). -/
def TdcTab.fine (x : TdcTab) (code : Nat) : Rat :=
  let w := x.use
  let k := min code (w.length - 1)
  let s := (w.take k).foldl (· + ·) 0
  min coarse (((2 * s + w.getD k 0 : Nat) : Rat) / 512)

/-- The mean bin width over the span, 2^-8 phase units. -/
def TdcTab.mean (x : TdcTab) : Nat :=
  let w := x.use
  (roundR16 (((w.foldl (· + ·) 0 : Nat) : Rat) / (w.length : Rat))).toNat

/-- TIM_CAL_STAT and TIM_CAL_BIN of the selected TDC (R241). Log entry 45 (DEDUCED). -/
def Core.calRegs (c : Core) : Core :=
  let x := c.tdcTab (c.rd TIM_CAL_SEL.tdc)
  let some_ := x.measured || x.nominal
  let c := c.wrB TIM_CAL_STAT.valid x.measured
  let c := c.wrB TIM_CAL_STAT.nominal x.nominal
  let c := c.wr TIM_CAL_STAT.age (min 16383 x.age)
  let c := c.wr TIM_CAL_STAT.span (if some_ then x.use.length else 0)
  let c := c.wr TIM_CAL_BIN.max_w (if some_ then x.use.foldl max 0 else 0)
  let c := c.wr TIM_CAL_BIN.mean_w (if some_ then x.mean else 0)
  c.wr TIM_CAL_DATA.w (if some_ then x.all.getD (c.rd TIM_CAL_IDX.entry) 0 else 0)

def Core.setTab (c : Core) (k : Nat) (x : TdcTab) : Core :=
  (c.setTim { c.tim with tabs := c.tim.tabs.set {} k x }).calRegs

/-- The table that a histogram gives, if it passes the checks (R233): enough hits, a span of 1,500 to 2,040 and no width
above 3.6 ps. -/
def tabOf (hits : List Nat) (need : Nat) : Option (List Nat) :=
  let hits := hits.take 2048
  let h := hits.foldl (· + ·) 0
  let body := (hits.reverse.dropWhile (· = 0)).reverse
  let span := body.length
  let most := body.foldl max 0
  if need ≤ h * 100 && 1500 ≤ span && span ≤ 2040 && decide (coarse * most ≤ (2359296 / 10000 : Rat) * h) then
    some (body.map (fun x => (roundR16 (coarse * 256 * (x : Rat) / (h : Rat))).toNat))
  else none

/-- The words of Tile memory that hold the table of TDC `k`. Log entry 45 (DEDUCED). -/
def Core.tabWords (c : Core) (k : Nat) : List Nat :=
  ((List.range 16).filter (fun b => c.memMap.tileUse.getD b 0 = 1)).flatMap
    (fun b => (List.range 256).map (fun j => b * 8192 + k * 256 + j))

/-- A table's contents become undefined: free values. Log entry 45 (DEDUCED). -/
def Core.tabVoid (c : Core) (k : Nat) : Core :=
  { c with free := c.free + 2048 }.setTab k
    { c.tdcTab k with widths := (List.range 2048).map (fun j => Config.freeNat (c.free + j) % 65536) }

/-- The tables become undefined with their bank `b` (R316, R317). -/
def Core.tabsLost (c : Core) (b : Nat) : Core :=
  if c.memMap.tileUse.getD b 0 ≠ 1 then c else
  c.each ((List.range 30).filter (fun k => (c.tdcTab k).measured || (c.tdcTab k).nominal)) Core.tabVoid

/-- The bank of the tables is under a destructive test: a master that writes a table repeats (R316). Log entry 45 (DEDUCED). -/
def Core.tabsBusy (c : Core) : Bool := (List.range 16).any (fun b => c.memMap.tileUse.getD b 0 = 1 && c.bankBusy b)

/-- A measured table installed: its words are written by the TIM or by the estimator core (R312, R315, R316); in a failed bank it
is undefined (R425). Log entries 45 (DEDUCED), 70 (DEDUCED). -/
def Core.tabInstall (c : Core) (k : Nat) (w : List Nat) : Core :=
  let l := c.tabWords k
  let banks := (l.map (· / 8192)).eraseDups
  let c := ((c.each banks Core.rowBusy).tileMeet (if k = 20 || k = 21 then 2 else 1) l).tileWrote l
  let c := Core.setTab { c with memU := { c.memU with badT := c.memU.badT.filter (fun v => !l.contains v) } } k
    { widths := w, span := w.length, measured := true }
  if c.badUse 1 then c.tabVoid k else c

/-- A byte of the Tile bank that the image gives to the tables, where TDC `a / 4096` of it has one: 2,048 widths of two
bytes each (R233, R383). Log entry 45 (DEDUCED). -/
def Core.tabByte (c : Core) (a : Nat) : Option Byte :=
  let k := a % 131072 / 4096
  let x := c.tdcTab k
  if c.memMap.tileUse.getD (a / 131072) 0 ≠ 1 || !(x.measured || x.nominal) then none
  else some (BitVec.ofNat 8 (x.all.getD (a % 4096 / 2) 0 >>> (8 * (a % 2))))

/-- The host writes bytes of Tile memory: those of a table's bank change the table. Log entry 45 (DEDUCED). -/
def Core.tabPut (c : Core) (l : List (Nat × Byte)) : Core :=
  c.each (l.filter (fun e => (c.tabByte e.1).isSome)) fun c e =>
    let k := e.1 % 131072 / 4096
    c.setTab k ((c.tdcTab k).put (e.1 % 4096 / 2) (e.1 % 2) e.2)

/-- The Course stage runs (STG_STAT.stage). -/
def Core.courseCal (c : Core) : Bool := c.rd STG_STAT.stage = 2

/-- CAL_TABLE_DONE: the table of TDC `k` is complete with `hits` on its codes. It is installed, kept until the gate
closes, or discarded with FS29; the slot of a kept one ends at the exchange (R233). No edge is injected, and so no table
completed, while TSCLK is stopped (R34, R65). It waits, too, for the end of a test of its bank (R316). -/
def calTableDoneStep (k : Fin 32) (hits : List Nat) (c : Core) : Core :=
  let k := k.val
  if !c.part.tdc k || !c.pclk then c else
  let course := c.courseCal
  if !course && c.tim.cur ≠ some k then c else
  let need := if course then 2 ^ 20 * 99 else 2 ^ 22 * 99
  let wait := (c.tabsBusy || (!course && (k = 20 || k = 21) && c.rdB TIM_CFG.cal_hold && c.timState = tsGating)) && (tabOf hits need).isSome
  let c := if course || wait then c else c.setTim { c.tim with cur := none }
  match tabOf hits need with
  | some w => if wait then c.setTim { c.tim with wait := c.tim.wait.set [] k w } else c.tabInstall k w
  | none =>
    let c := if course then c.setTab k { nominal := true } else c
    (c.bump TIM_CAL_FAIL_CNT.count).raise 29 k

/-- Every present TDC that Course has left without a table takes the uniform one (R233). -/
def Core.tabsCourseEnd (c : Core) : Core :=
  c.each ((List.range 30).filter (fun k => c.part.tdc k)) fun c k =>
    let x := c.tdcTab k
    if x.measured || x.nominal then c else c.setTab k { nominal := true }

/-- CAL_SLOT: a background slot begins, for the TDC placed first or the next of the round; slots of absent TDCs, and
slots 30 and 31, are idle, and a slot that holds a waiting table goes on (R233). Installed tables grow a second older.
Log entry 45 (DEDUCED). -/
def calSlotStep (c : Core) : Core :=
  let u := c.tim
  let u := match u.wait, u.next with
    | _ :: _, _ => u
    | [], some k => { u with next := none, cur := some k }
    | [], none => { u with slot := (u.slot + 1) % 32, cur := if c.part.tdc u.slot then some u.slot else none }
  (c.setTim { u with tabs := u.tabs.mapVals {} (fun _ x => if x.measured then { x with age := min 16383 (x.age + 1) } else x) }).calRegs

/-- CAL_NOW: TIM_CAL_CTRL.now (R233). -/
def calNowStep (c : Core) : Core := c.setTim { c.tim with next := some (c.rd TIM_CAL_SEL.tdc) }

/-- A read of TIM_CAL_DATA: the width, and TIM_CAL_IDX advanced (R368, R241). -/
def Core.calDataRead (c : Core) : Nat × Core :=
  (c.rd TIM_CAL_DATA.w, (c.wr TIM_CAL_IDX.entry ((c.rd TIM_CAL_IDX.entry + 1) % 2048)).calRegs)

/-- TIM_CAL_DATA_READ. -/
def timCalDataReadStep (c : Core) : Core := c.calDataRead.2

/-! ## Configuration (R218, R225, R226, R229, R238) -/

/-- A source code names a unit that is present (R218). -/
def Core.timSrcOk (c : Core) (s : Nat) : Bool :=
  s < 18 || (s < 22 && c.part.cand (s - 2)) || (22 ≤ s && s < 22 + c.part.nOut) || s = 46

/-- The configuration is valid. -/
def Core.timValid (c : Core) : Bool :=
  c.timSrcOk (c.rd TIM_SRC.start_src) && c.timSrcOk (c.rd TIM_SRC.stop_src) && c.rd TIM_CFG.gate_src ≠ 3 &&
    c.rd TIM_CFG.mode ≠ 3 && c.rd TIM_PRESCALE.n ≠ 0

def Core.timGate (c : Core) : Gate := c.tim.gate.getD {}
def Core.setGate (c : Core) (g : Gate) : Core := c.setTim { c.tim with gate := some g }

/-- Tables that waited for the gate are installed, which ends their slot; Tile memory does not serve the TIM while PCLK is stopped
(R34, R233). Log entry 45 (DEDUCED). -/
def Core.timTabs (c : Core) : Core :=
  if !c.pclk || c.tabsBusy || (c.rdB TIM_CFG.cal_hold && c.timState = tsGating) then c else
  let w := c.tim.wait
  (c.setTim { c.tim with wait := [], cur := if w.isEmpty then c.tim.cur else none }).each w (fun c kw => c.tabInstall kw.1 kw.2)

/-- The gate closes with an end code; the result is being formed (R225, R227). Log entry 43 (DEDUCED). -/
def Core.gateClose (c : Core) (code : Nat) : Core :=
  ((c.wr TIM_STAT.endCode code).wr TIM_STAT.state tsFinishing).timTabs

/-- The gate opens (R222, R226, R231). On device time it needs TSCLK: with TSCLK stopped it ends at once with CLOCK
(R224). -/
def Core.gateOpen (c : Core) : Core :=
  let dev := c.rdB TIM_CFG.tbase || c.rd TIM_STAT.tb_state ≠ 2
  let c := (c.wrB TIM_STAT.tb_used dev).wr TIM_STAT.state tsGating
  let c := c.wr TIM_STAT.meas (c.rd TIM_STAT.meas + 1)
  let c := (c.wr TIM_BUF_STAT.count 0).wr TIM_BUF_STAT.ovf 0
  let c := c.setTim { c.tim with fifo := [], gate := some { dev := dev, t0 := c.now } }
  if dev && !c.pclk then c.gateClose 6 else c

/-- TIMGATE is at its active level. -/
def Core.gateActive (c : Core) : Bool := c.tim.gatePin ≠ c.rdB TIM_CFG.gate_pol

/-- The TIM is READY; a gate of PIN_LEVEL mode opens at the active level (R226). Log entry 43 (DEDUCED). -/
def Core.timReady (c : Core) : Core :=
  let c := c.wr TIM_STAT.state tsReady
  if c.rd TIM_CFG.gate_src = 0 && c.gateActive then c.gateOpen else c

/-- OFF and READY follow the enable and the configuration (R225, R238). -/
def Core.timEval (c : Core) : Core :=
  let bad := !c.timValid
  let c := c.wrB TIM_STAT.cfg_bad bad
  if !c.rdB TIM_CFG.en || bad then
    if c.timState = tsOff then c else ((c.setTim { c.tim with gate := none }).wr TIM_STAT.state tsOff).timTabs
  else if c.timState = tsOff && c.estRun && !c.inRst.contains (5, 0) then c.timReady else c

def Core.timReject (c : Core) (off : Nat) : Core :=
  c.reject TIM_CFG_REJECT.valid TIM_CFG_REJECT.count TIM_CFG_REJECT.word (off / 4)

/-- A write of a TIM register at `off` under RWE; TIM_CFG and TIM_SRC are refused until Course is reported (R238).
Log entry 138 (DEDUCED). -/
def Core.timRowWrite (c : Core) (off : Nat) (r : RegRow) (be data : Nat) : Core × Bool :=
  if (off = 0 || off = 4) && !c.estRun then (c.timReject off, true) else
  let w := c.writeRow r (c.rdB TIM_CFG.en) be data
  ((if w.2 then w.1.timReject off else w.1).timEval, w.2)

/-- A write of TIM_CAL_SEL: an absent TDC, or 30 or 31, is refused (R241). -/
def Core.calSelWrite (c : Core) (be data : Nat) : Core × Bool :=
  let k := mergeField TIM_CAL_SEL.tdc (c.rd TIM_CAL_SEL.tdc) be data
  if c.part.tdc k then ((c.wr TIM_CAL_SEL.tdc k).calRegs, false) else (c.timReject 0x80, true)

/-! ## TIMREF (R221, R223) -/

/-- The multiplier leaves LOCKED or ACQUIRING; an open gate on TIMREF goes on with TSCLK (R223), or ends where TSCLK is
stopped too (R224). Log entry 128 (DEDUCED). -/
def Core.timrefLost (c : Core) : Core :=
  let old := c.rd TIM_STAT.tb_state
  let c := (c.setTim { c.tim with passRun := 0, failRun := 0 }).wr TIM_STAT.tb_state 0
  if old ≠ 2 then c else
  let g := c.timGate
  let c := if c.timState = tsGating && !g.dev && !g.switched then
      let c := c.setGate { g with switched := true }
      if c.pclk then c else c.gateClose 6
    else c
  (c.wr TIM_EVENT.tb_lost 1).raise 28

/-- TIMREF_ACTIVITY (R221). -/
def timrefActivityStep (c : Core) : Core :=
  if c.rdB TIM_REF_CFG.use && c.rd TIM_STAT.tb_state = 0 then
    (c.setTim { c.tim with passRun := 0, failRun := 0 }).wr TIM_STAT.tb_state 1
  else c

/-- TIMREF measured against device time is within ±20 ppm of 10 MHz: 2^16 cycles took `dur` phase units. -/
def timrefNear (dur : Nat) : Bool :=
  dur ≠ 0 && decide (9999800 * dur ≤ 65536 * secPU) && decide (65536 * secPU ≤ 10000200 * dur)

/-- TIMREF_COUNT_END: a count of 2^16 TIMREF cycles ends with `count` feedback cycles after `dur` phase units of device time
(R221). -/
def timrefCountEndStep (count : BitVec 32) (dur : Nat) (c : Core) : Core :=
  let st := c.rd TIM_STAT.tb_state
  if st = 0 then c else
  let ok := decide (((count.toNat : Int) - 65536).natAbs ≤ c.rd TIM_REF_CFG.win) && timrefNear dur
  let u := c.tim
  if ok then
    let c := c.setTim { u with passRun := u.passRun + 1, failRun := 0 }
    if st = 1 && 4 ≤ u.passRun + 1 then (c.wr TIM_STAT.tb_state 2).wr TIM_EVENT.tb_locked 1 else c
  else
    let c := c.setTim { u with passRun := 0, failRun := u.failRun + 1 }
    if 2 ≤ u.failRun + 1 then c.timrefLost else c

/-- TIMREF_GAP (R221). -/
def timrefGapStep (c : Core) : Core := if c.rd TIM_STAT.tb_state = 0 then c else c.timrefLost

/-- A write of TIM_REF_CFG: with use = 0 the state is ABSENT (R221). -/
def Core.timRefCfgWrite (c : Core) (be data : Nat) : Core :=
  let c := (c.writeRow TIM_REF_CFG.row false be data).1
  if !c.rdB TIM_REF_CFG.use && c.rd TIM_STAT.tb_state ≠ 0 then c.timrefLost else c

/-! ## The stamp buffer (R231) -/

/-- Where stamp `i` of the buffer lies: the memory (0 Tile, 1 Vault) and the byte address (R231, R383). -/
def Core.bufAddr (c : Core) (i : Nat) : Nat × Nat :=
  if c.part.vaultMB = 0 then
    let banks := (List.range 16).filter (fun b => c.memMap.tileUse.getD b 0 = 4)
    (0, banks.getD (i / 4096) 0 * 131072 + (i % 4096) * 32)
  else (1, (c.region 2).1 + i * 32)

/-- The buffer's memory takes writes: PCLK runs or the memory runs on CCLK; the Vault is READY. -/
def Core.bufOpen (c : Core) : Bool := c.pclk && (c.part.vaultMB = 0 || c.rd VLT_STAT.state = 3)

/-- The FIFO's stamps enter the buffer (R231). Log entry 44 (DEDUCED). -/
def Core.timDrain (c : Core) : Core :=
  if !c.bufOpen then c else
  let l := c.tim.fifo
  let i := c.rd TIM_BUF_STAT.count
  let bytes := l.zipIdx.flatMap (fun e =>
    let bs := e.1.flatMap (bytesLE 16)
    (List.range 32).map (fun j => ((c.bufAddr (i + e.2)).2 + j, bs.getD j 0#8)))
  let c := c.setTim { c.tim with fifo := [] }
  (if c.part.vaultMB = 0 then c.tilePut 2 bytes else (c.memPut 1 bytes).vaultWrote (bytes.map (fun e => e.1 / 64 * 64))).wr TIM_BUF_STAT.count (i + l.length)

/-- A data word lost or unstored: counted, FS30 for the first unstored stamp of a gate (R231). -/
def Core.timOvf (c : Core) : Core :=
  let g := c.timGate
  let c := c.bump TIM_DEAD_CNT.count
  if g.ovf then c else
  (((c.setGate { g with ovf := true }).wr TIM_EVENT.buf_ovf 1).wr TIM_BUF_STAT.ovf 1).raise 30

/-- The words of an item as a queue or buffer holds them (R297). -/
def itemWords (rt epoch : Nat) (body : List Nat) : List Nat :=
  match body with
  | [] => []
  | w :: r =>
    (2 ^ 127 + 2 ^ 126 + (r.length % 8) * 2 ^ 123 + (rt % 256) * 2 ^ 115 + (epoch % 16) * 2 ^ 111 + w % 2 ^ 110) ::
      r.map (fun x => 2 ^ 127 + x % 2 ^ 126)

/-- A stamp in STAMP mode: into the buffer and, with stamp_q, the queue (R224, R231, R239). Log entry 44 (DEDUCED). -/
def Core.timStore (c : Core) (stop : Bool) (k : Nat) (lost uncal : Bool) (x : TimStamp) : Core :=
  let g := c.timGate
  let body := [packWord [(109, 109, b2n stop), (108, 108, b2n g.dev), (107, 107, b2n g.switched), (106, 106, b2n lost),
      (105, 105, b2n uncal), (104, 89, c.rd TIM_STAT.meas), (88, 65, if stop then 0 else k), (64, 17, x.c),
      (16, 0, min 104857 (roundR16 x.f).toNat)], stamp96 x.t]
  let room := c.rd TIM_BUF_STAT.count + c.tim.fifo.length < c.memMap.bufCap
  let heldFull := !c.pclk && decide (256 ≤ (c.held.filter (fun h => h.rtype = 0x30)).length)
  let c := c.timDrain
  if !room || 256 ≤ c.tim.fifo.length || heldFull then
    let c := if c.rdB TIM_CFG.stamp_q && !heldFull then c.emit 0x30 0 TIM_CFG.en.base body else c
    c.timOvf
  else
    let c := if c.rdB TIM_CFG.stamp_q then c.emit 0x30 0 TIM_CFG.en.base body else c
    let ep := match c.streamQueue 0x30 0 with | some q => c.queueEpoch q | none => 0
    (c.setTim { c.tim with fifo := c.tim.fifo ++ [itemWords 0x30 ep body] }).timDrain

/-! ## Results (R225, R230, R232, R236, R239) -/

/-- TIM_IV (R230, R241). -/
def Core.ivRegs (c : Core) (iv : Int) : Core :=
  let v := ofS 96 iv
  ((c.wr TIM_IV_LO.iv_lo (v % 2 ^ 32)).wr TIM_IV_MID.iv_mid (v / 2 ^ 32 % 2 ^ 32)).wr TIM_IV_HI.iv_hi (v / 2 ^ 64)

/-- P, f, y and res of a FREQ gate (R232): f in 2^-24 Hz, y in frequency units, res in phase units; 0 below 3 stamps. -/
def Core.timFreq (c : Core) (g : Gate) : Int × Int × Nat :=
  let n : Rat := g.n
  if g.n < 3 then (0, 0, 0) else
  let num := n * g.skt - g.sk * g.st
  let den := n * g.skk - g.sk * g.sk
  let p := num / den
  let big : Rat := c.rd TIM_PRESCALE.n * 65536000000000
  let nom : Rat := (c.rd TIM_NOM_LO.nom_lo + c.rd TIM_NOM_HI.nom_hi * 2 ^ 32 : Nat) / 256
  let f := roundR16 (big / p * 2 ^ 24)
  let y := if nom = 0 then 0 else roundR16 ((big / (nom * p) - 1) * 2 ^ 48)
  let ss := (n * g.stt - g.st * g.st - p * num) / (n * n)
  (f, y, min (2 ^ 32 - 1) (roundSqrt ss))

/-- A TIM_RESULT record with an end code (R239). -/
def Core.timRecord (c : Core) (g : Gate) (code : Nat) : Core :=
  let mode := c.rd TIM_CFG.mode
  let fr := c.timFreq g
  let main := if mode = 0 then ofS 72 g.iv else if mode = 2 then ofS 64 fr.2.1 else 0
  let cnt := if mode = 0 then g.pairs else g.n
  let low := if mode = 2 then ofS 64 fr.1 else if mode = 1 then c.rd TIM_BUF_STAT.count + c.tim.fifo.length else 0
  let t := if mode = 0 then g.ivT else g.t0
  (c.emit 0x31 0 TIM_CFG.en.base
    [packWord [(109, 108, mode), (107, 105, code), (104, 104, b2n g.dev), (103, 103, b2n g.switched), (102, 102, b2n g.coin),
      (101, 101, b2n g.order), (100, 100, b2n g.lost), (99, 99, b2n g.uncal), (98, 98, b2n g.ovf), (97, 97, b2n g.aborted),
      (96, 81, c.rd TIM_STAT.meas), (71, 0, main)],
     packWord [(125, 96, if mode = 2 then min (2 ^ 30 - 1) fr.2.2 else 0), (95, 64, cnt), (63, 0, low)],
     stamp96 t]).wr TIM_EVENT.result 1

/-- TIM_RESULT: the result is written and the TIM is READY (R225). -/
def timResultStep (c : Core) : Core :=
  if c.timState ≠ tsFinishing then c else
  let g := c.timGate
  let mode := c.rd TIM_CFG.mode
  let c := c.wr TIM_N.n (if mode = 0 then g.pairs else g.n)
  let c := if mode = 2 then
      let fr := c.timFreq g
      ((c.wrPair TIM_F_LO.f TIM_F_HI.f fr.1).wrPair TIM_Y_LO.y TIM_Y_HI.y fr.2.1).wr TIM_RES.res fr.2.2
    else c
  let c := c.timRecord g (c.rd TIM_STAT.endCode)
  (c.setTim { c.tim with gate := none }).timReady

/-! ## Edges (R226 to R232) -/

/-- A pair is complete: its interval, classified, and its result (R230). With repeat = 1 the gate goes on and the pair's own
record is written with end code NONE; otherwise the gate closes with PAIR (R227). Log entries 43 (DEDUCED), 44 (DEDUCED). -/
def Core.timPair (c : Core) (a b : TimStamp) : Core :=
  let g := c.timGate
  let iv : Rat := ((b.c : Rat) - a.c) * coarse + (b.f - a.f)
  let w : Rat := ((c.tdcTab 20).mean + (c.tdcTab 21).mean : Nat) / 512
  let coin := decide (|iv| < w)
  let z := if coin then 0 else roundR16 iv
  let order := !coin && decide (iv < 0)
  let g := { g with
    pairA := none, pairB := none, uncal := g.uncalP, uncalP := false, pairs := g.pairs + 1, iv := z, coin := coin, order := order, ivT := a.t }
  let c := (c.setGate g).ivRegs z
  let c := c.on coin (fun c => c.wr TIM_EVENT.coincident 1)
  let c := c.on order (fun c => c.wr TIM_EVENT.order 1)
  let c := c.wr TIM_N.n g.pairs
  if c.rdB TIM_CFG.rep then c.timRecord g 0 else c.gateClose 2

/-- An edge lost to a dead time or to a switch of the time base (R223, R228). -/
def Core.timLose (c : Core) (stop dead : Bool) : Core :=
  let g := c.timGate
  let c := c.bump TIM_DEAD_CNT.count
  if !dead then c else
  ((c.setGate { g with lost := true, lostA := g.lostA || !stop, lostB := g.lostB || stop }).wr TIM_EVENT.lost 1).raise 30

/-- Within 8 ns of the last stamp of the same TDC (R228). -/
def inDead (last : Option TimStamp) (x : TimStamp) : Bool :=
  match last with
  | none => false
  | some y => decide (((x.c : Rat) - y.c) * coarse + (x.f - y.f) < 5 * coarse)

/-- TIM_EDGE: a selected edge of the start or stop source is stamped at coarse count `cyc`, raw code `code` and device time
`t`, which the TIMREF time base truncates to the TSCLK grid (R239); `sw` says that it falls in a switch of the time base
(R223, R226 to R232). -/
def timEdgeStep (stop : Bool) (cyc : Nat) (code : BitVec 11) (t : Nat) (sw : Bool) (c : Core) : Core :=
  let st := c.timState
  if st = tsReady then (if stop then c.bump TIM_EARLY_CNT.count else c)
  else if st ≠ tsGating then c else
  let mode := c.rd TIM_CFG.mode
  if mode = 2 && stop then c else
  let g0 := c.timGate
  let tab := c.tdcTab (if stop then 21 else 20)
  let x : TimStamp := ⟨cyc, tab.fine code.toNat, if g0.dev || g0.switched then t else c.tsGrid t⟩
  -- the prescaler of the start input (R229)
  let k := g0.nEdge / c.rd TIM_PRESCALE.n
  let sel := stop || mode = 0 || g0.nEdge % c.rd TIM_PRESCALE.n = 0
  let c := if stop || mode = 0 then c else c.setGate { g0 with nEdge := g0.nEdge + 1 }
  -- INTERVAL takes the first edge of each input in a pair only
  if !sel || (mode = 0 && (if stop then g0.pairB.isSome else g0.pairA.isSome)) then c
  else if sw && g0.switched then c.timLose stop false
  else if inDead (if stop then g0.lastB else g0.lastA) x then c.timLose stop true
  else
    let g := c.timGate
    let lost := if stop then g.lostB else g.lostA
    let g := { g with
      uncal := g.uncal || (mode ≠ 0 && tab.nominal), uncalP := g.uncalP || (mode = 0 && tab.nominal),
      lostA := g.lostA && stop, lostB := g.lostB && !stop,
      lastA := if stop then g.lastA else some x, lastB := if stop then some x else g.lastB,
      n := if stop then g.n else g.n + 1 }
    if mode = 0 then
      let g := if stop then { g with pairB := some x } else { g with pairA := some x }
      let c := c.setGate g
      match g.pairA, g.pairB with
      | some a, some b => c.timPair a b
      | _, _ => c
    else
      let g := if mode = 2 then
          let f0 := g.first.getD x
          let tk : Rat := ((x.c : Rat) - f0.c) * coarse + (x.f - f0.f)
          { g with
            first := some f0, sk := g.sk + k, skk := g.skk + (k : Rat) * k, st := g.st + tk, stt := g.stt + tk * tk,
            skt := g.skt + (k : Rat) * tk }
        else g
      let c := c.setGate g
      let c := if mode = 1 then c.timStore stop k lost tab.nominal x else c
      if !stop && 65536 ≤ (c.timGate).n then c.gateClose 3 else c

/-! ## Gate commands (R226, R227, R236, R237) -/

/-- An arm pulse (R226, R238); the Boolean says that it was refused. -/
def Core.timArm (c : Core) : Core × Bool :=
  if !c.estRun then (c.timReject 0x1C, true)
  else if c.rd TIM_CFG.gate_src = 2 && c.timState = tsReady then (c.gateOpen, false)
  else (c.wr TIM_EVENT.arm_ignored 1, false)

/-- ARM: `leaving` says that the pulse falls in the cycle in which the state leaves READY. -/
def armStep (leaving : Bool) (c : Core) : Core :=
  if leaving && c.estRun then c.wr TIM_EVENT.arm_ignored 1 else c.timArm.1

/-- TIMGATE_EDGE: the pin changes to `level` (R226). -/
def timgateEdgeStep (level : Bool) (c : Core) : Core :=
  let changed := c.tim.gatePin ≠ level
  let c := c.setTim { c.tim with gatePin := level }
  let src := c.rd TIM_CFG.gate_src
  if !changed then c
  else if c.timState = tsReady && src ≤ 1 && c.gateActive then c.gateOpen
  else if c.timState = tsGating && src = 0 && !c.gateActive then c.gateClose 1
  else c

/-- GATE_LENGTH_EXPIRE (R227). -/
def gateLengthExpireStep (c : Core) : Core :=
  if c.timState = tsGating && c.rd TIM_CFG.gate_src ≠ 0 && c.rd TIM_GATE_LEN.len ≠ 0 then c.gateClose 1 else c

/-- RANGE (R227). -/
def rangeStep (c : Core) : Core := if c.timState = tsGating then c.gateClose 4 else c

/-- An abort pulse with its outcome: 0 unchanged, 1 ABORTED, 2 ALREADY_DONE, 3 refused (R236, R237, R238); while an
earlier abort is being carried out it changes nothing (R369). `closing` says that the gate closes for another reason in
the same CCLK cycle. -/
def Core.timAbort (c : Core) (closing : Bool) : Core × Nat :=
  if !c.estRun then (c.timReject 0x1C, 3)
  else if c.timState = tsFinishing && c.timGate.aborted then (c, 0)
  else if c.timState = tsFinishing || (c.timState = tsGating && closing) then (c.wr TIM_STAT.abort_st 2, 2)
  else if c.timState = tsGating then
    ((((c.setGate { c.timGate with aborted := true }).gateClose 5).wr TIM_STAT.abort_st 1).wr TIM_EVENT.aborted 1, 1)
  else (c, 0)

/-- TIM_CTRL_ABORT. -/
def timCtrlAbortStep (closing : Bool) (c : Core) : Core := (c.timAbort closing).1

/-- A write of TIM_CTRL (R241). -/
def Core.timCtrlWrite (c : Core) (m : Nat) : Core × Bool :=
  if !c.estRun then (c.timReject 0x1C, true) else
  let e := c.atEnd (bitOf m 1 && c.timState = tsGating)
  let c := e.2.on (bitOf m 1) (fun c => (c.timAbort e.1).1)
  (c.on (bitOf m 0) (fun c => c.timArm.1), false)

/-- TSCLK stops: a gate that runs on it ends with CLOCK (R224). Log entry 43 (DEDUCED). -/
def Core.timClock (c : Core) : Core :=
  let g := c.timGate
  if c.timState = tsGating && (g.dev || g.switched) then c.gateClose 6 else c

/-! ## The meanings of the commands -/

/-- TIMREF_ACTIVITY (R221). -/
def execTimrefActivity (s : State) : Out := onRunCore timrefActivityStep s

/-- TIMREF_COUNT_END (R221). -/
def execTimrefCountEnd (count : BitVec 32) (dur : Nat) (s : State) : Out := onRunCore (timrefCountEndStep count dur) s

/-- TIMREF_GAP (R221). -/
def execTimrefGap (s : State) : Out := onRunCore timrefGapStep s

/-- ARM (R226). -/
def execArm (leaving : Bool) (s : State) : Out := onRunCore (armStep leaving) s

/-- TIMGATE_EDGE (R226). -/
def execTimgateEdge (level : Bool) (s : State) : Out := onRunCore (timgateEdgeStep level) s

/-- TIM_EDGE (R229). -/
def execTimEdge (stop : Bool) (cyc : Nat) (code : BitVec 11) (t : Nat) (sw : Bool) (s : State) : Out :=
  onRunCore (timEdgeStep stop cyc code t sw) s

/-- GATE_LENGTH_EXPIRE (R227). -/
def execGateLengthExpire (s : State) : Out := onRunCore gateLengthExpireStep s

/-- RANGE (R227). -/
def execRange (s : State) : Out := onRunCore rangeStep s

/-- TIM_RESULT (R225). -/
def execTimResult (s : State) : Out := onRunCore timResultStep s

/-- TIM_CTRL_ABORT (R236). -/
def execTimCtrlAbort (closing : Bool) (s : State) : Out := onRunCore (timCtrlAbortStep closing) s

/-- CAL_SLOT (R233). -/
def execCalSlot (s : State) : Out := onRunCore calSlotStep s

/-- CAL_TABLE_DONE (R233). -/
def execCalTableDone (k : Fin 32) (hits : List Nat) (s : State) : Out := onRunCore (calTableDoneStep k hits) s

/-- CAL_NOW (R233). -/
def execCalNow (s : State) : Out := onRunCore calNowStep s

/-- TIM_CAL_DATA_READ (R368). -/
def execTimCalDataRead (s : State) : Out := onRunCore timCalDataReadStep s

end Sys2Proof.Machine
end

