-- ==== Sys2Proof/Machine/Frame.lean ====
section
/-! DEFINITION. Parsing of Ethernet frames (R253, R254, R255, R264) and the correction of a PTP message in place
(R256 to R260). Frames are bytes without FCS. -/

namespace Sys2Proof.Machine

/-- Byte `i` of a frame; 0 beyond its end. -/
def fb (l : List Byte) (i : Nat) : Nat := (l.getD i 0#8).toNat

/-- The number in network order at `[i, i + n)`. -/
def fbe (l : List Byte) (i n : Nat) : Nat := beVal ((List.range n).map (fun k => l.getD (i + k) 0#8))

/-- `l` with the bytes at `i` replaced by `new`, where they lie inside. -/
def fput (l : List Byte) (i : Nat) (new : List Byte) : List Byte := l.take i ++ new.take (l.length - i) ++ l.drop (i + new.length)

/-- A PTP message in a frame: the offset of its header, the encapsulation (0 L2, 1 UDP/IPv4, 2 UDP/IPv6), the offset of its
UDP header, and whether its destination is a PTP multicast address or one of the lane's own. -/
structure PtpAt where
  off : Nat
  enc : Nat
  udp : Nat
  mc : Bool
  own : Bool
deriving DecidableEq, Repr

/-- What the parser makes of a frame (R253, R254). -/
inductive Parsed where
  | other | unparsed | macsec
  | ptp (x : PtpAt)
deriving DecidableEq, Repr

/-- The offset of the Ethertype after at most two tags, and whether a third follows (R253, R254). -/
def etherOff (l : List Byte) : Nat × Bool :=
  let tag := fun (i : Nat) => fbe l i 2 = 0x8100 || fbe l i 2 = 0x88A8
  if !tag 12 then (12, false) else if !tag 16 then (16, false) else (20, tag 20)

/-- The header at `i` is a PTP header whose message fits in the frame (R253). Log entry 50 (PRESUMED). -/
def ptpHeader (l : List Byte) (i : Nat) : Bool :=
  i + 34 ≤ l.length && fb l (i + 1) % 16 = 2 && fb l (i + 1) / 16 ≤ 1 && i + fbe l (i + 2) 2 ≤ l.length

/-- UDP to port 319 or 320. -/
def ptpPort (l : List Byte) (udp : Nat) : Bool := fbe l (udp + 2) 2 = 319 || fbe l (udp + 2) 2 = 320

/-- The UDP header behind IPv6 extension headers, if the chain of at most `n` headers ends there (R254): the options,
routing, mobility, host identity, shim and experimental headers count their length in units of 8 bytes beyond the first,
the authentication header in units of 4 beyond the second, and a fragment header has 8 bytes. -/
def v6Chain (l : List Byte) : Nat → Nat → Nat → Option Nat
  | 0, _, _ => none
  | n + 1, nh, i =>
    if nh = 17 then some i
    else if [0, 43, 60, 135, 139, 140, 253, 254].contains nh then v6Chain l n (fb l i) (i + (fb l (i + 1) + 1) * 8)
    else if nh = 51 then v6Chain l n (fb l i) (i + (fb l (i + 1) + 2) * 4)
    else if nh = 44 then (if fbe l (i + 2) 2 / 8 = 0 then v6Chain l n (fb l i) (i + 8) else none)
    else none

/-- The lane's own addresses (R255, R271). -/
def Core.laneMac (c : Core) (n : Nat) : Nat := c.rd ETH_MAC_HI.mac_hi n * 2 ^ 32 + c.rd ETH_MAC_LO.mac_lo n
def Core.laneIp6 (c : Core) (n : Nat) : Nat :=
  ((c.rd ETH_IP6.ip6 n 0 * 2 ^ 32 + c.rd ETH_IP6.ip6 n 1) * 2 ^ 32 + c.rd ETH_IP6.ip6 n 2) * 2 ^ 32 + c.rd ETH_IP6.ip6 n 3

/-- FF0X::181 and FF02::6B (R255). -/
def v6Mc (a : Nat) : Bool :=
  (a / 2 ^ 116 = 0xFF0 && a % 2 ^ 112 = 0x181) || a = 0xFF02 * 2 ^ 112 + 0x6B

/-- The parser (R253, R254, R255). Log entry 50 (PRESUMED). -/
def Core.parse (c : Core) (n : Nat) (l : List Byte) : Parsed :=
  let e := etherOff l
  let i := e.1
  let ty := fbe l i 2
  let en := fun b => bitOf (c.rd ETH_PTP_CFG.enc n) b
  if e.2 then .other
  else if ty = 0x88E5 then .macsec
  else if ty = 0x88F7 then
    if en 2 && ptpHeader l (i + 2) then
      let d := fbe l 0 6
      .ptp ⟨i + 2, 0, 0, d = 0x011B19000000 || d = 0x0180C200000E, d = c.laneMac n⟩
    else .other
  else if ty = 0x0800 then
    let p := i + 2
    let ihl := fb l p % 16
    let frag := fbe l (p + 6) 2
    if fb l p / 16 ≠ 4 || fb l (p + 9) ≠ 17 then .other
    else if ihl ≠ 5 || frag % 2 ^ 13 ≠ 0 || bitOf frag 13 then
      (if frag % 2 ^ 13 = 0 && 5 ≤ ihl && ptpPort l (p + 4 * ihl) then .unparsed else .other)
    else if ptpPort l (p + 20) && en 1 && ptpHeader l (p + 28) then
      let d := fbe l (p + 16) 4
      .ptp ⟨p + 28, 1, p + 20, d = 0xE0000181 || d = 0xE000006B, d = c.rd ETH_IP4.ip4 n⟩
    else .other
  else if ty = 0x86DD then
    let p := i + 2
    if fb l (p + 6) = 17 then
      if ptpPort l (p + 40) && en 0 && ptpHeader l (p + 48) then
        let d := fbe l (p + 24) 16
        .ptp ⟨p + 48, 2, p + 40, v6Mc d, d = c.laneIp6 n⟩
      else .other
    else match v6Chain l (l.length / 8) (fb l (p + 6)) (p + 40) with
      | some u => if ptpPort l u then .unparsed else .other
      | none => .other
  else .other

/-! ## correctionField (R256 to R260) -/

/-- messageType, and an event message (R253). -/
def ptpType (l : List Byte) (off : Nat) : Nat := fb l off % 16
def ptpCorr (l : List Byte) (off : Nat) : Int := toS 64 (fbe l (off + 8) 8)

/-- A 16-bit add with end-around carry (R259). -/
def ocAdd (a b : Nat) : Nat := let s := a + b; (s % 65536 + s / 65536) % 65536

/-- The compensation bytes of an IPv6 message: their offset, if the message has them (R259). -/
def compAt (l : List Byte) (udp off : Nat) : Option Nat :=
  let ul := fbe l (udp + 4) 2
  let t := udp + ul - 2
  if 10 ≤ ul && ul % 2 = 0 && off + fbe l (off + 2) 2 ≤ t && t + 2 ≤ l.length then some t else none

/-- The value of the compensation bytes after correctionField goes from `old` to `new` (R259). -/
def compNew (x old new : Nat) : Nat :=
  (List.range 4).foldl (fun x k =>
    ocAdd (ocAdd x (bits old (63 - 16 * k) (48 - 16 * k))) (65535 - bits new (63 - 16 * k) (48 - 16 * k))) x

/-- The frame with correctionField at `new`, its UDP checksum treated as R259 says; none where an IPv6 message has no
compensation bytes or `v6` is false. -/
def corrPut (l : List Byte) (x : PtpAt) (new : Nat) (v6 : Bool) : Option (List Byte) :=
  let old := fbe l (x.off + 8) 8
  let put := fput l (x.off + 8) (bytesBE 8 new)
  match x.enc with
  | 0 => some put
  | 1 => some (fput put (x.udp + 6) [0#8, 0#8])
  | _ => if !v6 then none else
    match compAt l x.udp x.off with
    | some t => some (fput put t (bytesBE 2 (compNew (fbe l t 2) old new)))
    | none => none

/-! ## The frames that the part builds (R259 to R261) -/

/-- The one's complement sum of 16-bit words in network order. -/
def ocSum : List Byte → Nat
  | a :: b :: r => ocAdd (a.toNat * 256 + b.toNat) (ocSum r)
  | [a] => a.toNat * 256
  | [] => 0

/-- The checksum of bytes whose own checksum field is 0; 0 is sent as 0xFFFF in UDP. -/
def ocSumOf (l : List Byte) : Nat := 65535 - ocSum l
def udpSum (l : List Byte) : Nat := let s := ocSumOf l; if s = 0 then 65535 else s

/-- The frame of a PTP message to a destination from a lane, with its place in it. The header fields that the spec gives no
value (tag protocol identifiers, service class, identification, hop limit, source port, the first compensation bytes) are
slices of the free value `v` (log entry 4); an IPv6 message carries compensation bytes (R260). Log entries 49 (DEDUCED),
50 (PRESUMED). -/
def Core.buildFrame (c : Core) (n : Nat) (d : Dest) (event : Bool) (b : List Byte) (v : Nat) : List Byte × PtpAt :=
  let tag := fun (k tci : Nat) => if tci = 0 then [] else bytesBE 2 (if bitOf v k then 0x88A8 else 0x8100) ++ bytesBE 2 tci
  let eth := bytesBE 6 d.mac ++ bytesBE 6 (c.laneMac n) ++ tag 0 d.outer ++ tag 1 d.inner
  let port := bytesBE 2 (bits v 17 2) ++ bytesBE 2 (if event then 319 else 320)
  match d.enc with
  | 0 => (eth ++ bytesBE 2 0x88F7 ++ b, ⟨eth.length + 2, 0, 0, false, false⟩)
  | 1 =>
    let head := fun sum => [0x45#8] ++ bytesBE 1 (bits v 25 18) ++ bytesBE 2 (28 + b.length) ++ bytesBE 2 (bits v 41 26) ++
      bytesBE 2 (if bitOf v 42 then 0x4000 else 0) ++ bytesBE 1 (bits v 50 43) ++ [17#8] ++ bytesBE 2 sum ++
      bytesBE 4 (c.rd ETH_IP4.ip4 n) ++ bytesBE 4 d.ip
    let udp := fun sum => port ++ bytesBE 2 (8 + b.length) ++ bytesBE 2 sum ++ b
    let pseudo := bytesBE 4 (c.rd ETH_IP4.ip4 n) ++ bytesBE 4 d.ip ++ [0#8, 17#8] ++ bytesBE 2 (8 + b.length)
    let sum := if bitOf v 51 then udpSum (pseudo ++ udp 0) else 0
    let p := eth.length + 2
    (eth ++ bytesBE 2 0x0800 ++ head (ocSumOf (head 0)) ++ udp sum, ⟨p + 28, 1, p + 20, false, false⟩)
  | _ =>
    let pay := b ++ List.replicate (b.length % 2) 0#8 ++ bytesBE 2 (bits v 67 52)
    let ips := bytesBE 16 (c.laneIp6 n) ++ bytesBE 16 d.ip
    let head := bytesBE 4 (0x60000000 + bits v 95 68) ++ bytesBE 2 (8 + pay.length) ++ [17#8] ++ bytesBE 1 (bits v 103 96) ++ ips
    let udp := fun sum => port ++ bytesBE 2 (8 + pay.length) ++ bytesBE 2 sum ++ pay
    let sum := udpSum (ips ++ bytesBE 4 (8 + pay.length) ++ bytesBE 4 17 ++ udp 0)
    let p := eth.length + 2
    (eth ++ bytesBE 2 0x86DD ++ head ++ udp sum, ⟨p + 48, 2, p + 40, false, false⟩)

/-- The corrected value of a direction's mode: 1 EDGE, 2 SPLIT into the switch (L2M) or out of it (M2L) (R257, R258). Times
in phase units, adjusted by the board delays. Log entry 46 (DEDUCED). -/
def splitM : Int := 2 ^ 63
def corrValue (mode : Nat) (m2l : Bool) (corr tRx tTx : Int) : Int :=
  if mode = 1 then corr + (tTx - tRx)
  else if !m2l then corr - tRx % splitM
  else
    let t := tTx % splitM
    corr + t + (if t < splitM / 4 && corr < -(splitM / 2) then splitM else 0)

/-- A value fits the signed 64-bit field. -/
def corrFits (z : Int) : Bool := decide (-(2 ^ 63 : Int) ≤ z) && decide (z < 2 ^ 63)

end Sys2Proof.Machine
end

