-- ==== Sys2Proof/Machine/PteOps.lean ====
section
/-! DEFINITION. The PTP engine's shared operations (R272 to R278, R288 to R290): PTP messages, domains, announced clock data, the
state decision of the ports, the states of the servos, and sending. Message layouts are those of IEEE 1588-2019 (log entry 50). -/

namespace Sys2Proof.Machine

def Core.pport (c : Core) (p : Nat) : PortU := c.pte.ports.get {} p
def Core.setPport (c : Core) (p : Nat) (x : PortU) : Core := { c with pte := { c.pte with ports := c.pte.ports.set {} p x } }
def Core.sv (c : Core) (s : Nat) : SvU := c.pte.svs.get {} s
def Core.setSv (c : Core) (s : Nat) (x : SvU) : Core := { c with pte := { c.pte with svs := c.pte.svs.set {} s x } }
def Core.slot (c : Core) (k : Nat) : Option Slot := c.pte.slots.get none k

/-- The engine runs and PCLK with it (R294). -/
def Core.pteRun (c : Core) : Bool := c.rdB PTE_STAT.run && c.pclk

/-! ## Domains (R272, R274) -/

/-- The clockIdentity (R277). -/
def Core.clockId (c : Core) : Nat := c.rd PTE_CLOCK_ID_HI.id_hi * 2 ^ 32 + c.rd PTE_CLOCK_ID_LO.id_lo

/-- The profile and the domainNumber of a domain are valid (R272). -/
def Core.domValid (c : Core) (d : Nat) : Bool :=
  let k := c.rd PTE_DOM_CFG.number d
  match c.rd PTE_DOM_CFG.profile d with
  | 0 => k ≤ 127
  | 1 => 24 ≤ k && k ≤ 43
  | 2 => 44 ≤ k && k ≤ 63
  | 3 => k ≤ 127
  | _ => false

def Core.profile (c : Core) (d : Nat) : Nat := c.rd PTE_DOM_CFG.profile d

/-- A domain is enabled (R274) while the engine runs. -/
def Core.domOn (c : Core) (d : Nat) : Bool := c.rdB PTE_STAT.run && c.rdB PTE_DOM_CFG.en d && c.domValid d

/-- PTE_STAT.cfg_bad (R272, R277). -/
def Core.cfgBad (c : Core) : Core :=
  c.wrB PTE_STAT.cfg_bad (c.rdB PTE_CFG.en &&
    (c.clockId = 0 || [0, 1].any (fun d => c.rdB PTE_DOM_CFG.en d && !c.domValid d)))

/-- The domain of a lane (R271, R274). -/
def Core.laneDom (c : Core) (n : Nat) : Option Nat :=
  match c.rd ETH_CFG.domain n with | 1 => some 0 | 2 => some 1 | _ => none

/-- A byte of the image's PTP record; where there is none, no port or servo is mapped (R392, R395). -/
def Core.ptpByte (c : Core) (i : Nat) : Nat :=
  let b := AMap.get [] c.mtl.recs (11 * 65536)
  if b.isEmpty then 0xFF else fieldLE b i 1
/-- A port or servo that the image maps is enabled. -/
def Core.portEn (c : Core) (p : Nat) : Bool := c.rdB PTE_PORT_CFG.en p && c.ptpByte (4 + p) ≠ 0xFF
def Core.svEn (c : Core) (s : Nat) : Bool := c.rdB PTE_SV_CFG.en s && !bitOf (c.ptpByte (8 + s)) 7

def Core.portLane (c : Core) (p : Nat) : Nat := c.rd PTE_PORT_CFG.lane p
def Core.portDom (c : Core) (p : Nat) : Option Nat := c.laneDom (c.portLane p)
def Core.portState (c : Core) (p : Nat) : Nat := c.rd PTE_PORT_STAT.state p
def Core.portId (c : Core) (p : Nat) : Nat := c.clockId * 65536 + p + 1

/-- UNCALIBRATED or SLAVE (R275). -/
def Core.portSlave (c : Core) (p : Nat) : Bool := c.portState p = 8 || c.portState p = 9

/-- The enabled port on a lane. -/
def Core.portOf (c : Core) (n : Nat) : Option Nat :=
  (List.range 4).find? (fun p => c.portEn p && c.portLane p = n)

/-! ## PTP messages -/

/-- A received PTP message: its bytes from the header on, its sender's transport address, the outer VLAN ID, whether it was
sent to a PTP multicast address, and the MAC address it was sent to. -/
structure Msg where
  b : List Byte
  dest : Dest
  vid : Nat
  mc : Bool
  mac : Nat
deriving DecidableEq, Repr

/-- The message of a received frame, if it passes R253. -/
def Core.msgOf (c : Core) (n : Nat) (l : List Byte) : Option Msg :=
  match c.parse n l with
  | .ptp x =>
    let e := (etherOff l).1
    let outer := if e = 12 then 0 else fbe l 14 2
    let inner := if e = 20 then fbe l 18 2 else 0
    let ip := if x.enc = 1 then fbe l (x.udp - 8) 4 else if x.enc = 2 then fbe l (x.udp - 32) 16 else 0
    let port := if x.enc = 0 then 0 else fbe l x.udp 2
    some ⟨(l.drop x.off).take (fbe l (x.off + 2) 2), ⟨fbe l 6 6, outer, inner, x.enc, ip, port⟩, outer % 4096, x.mc, fbe l 0 6⟩
  | _ => none

def Msg.type (m : Msg) : Nat := fb m.b 0 % 16
def Msg.domain (m : Msg) : Nat := fb m.b 4
def Msg.twoStep (m : Msg) : Bool := bitOf (fb m.b 6) 1
def Msg.corr (m : Msg) : Int := toS 64 (fbe m.b 8 8)
def Msg.src (m : Msg) : Nat := fbe m.b 20 10
def Msg.seq (m : Msg) : Nat := fbe m.b 30 2

/-- The 10-byte timestamp at the start of the body, in phase units. -/
def Msg.time (m : Msg) : Nat := fbe m.b 34 6 * secPU + fbe m.b 40 4 * 65536

/-- The portIdentity after the timestamp (Delay_Resp and the peer messages). -/
def Msg.reqId (m : Msg) : Nat := fbe m.b 44 10

/-- A message came by the transport of a profile (R272). -/
def Msg.carried (m : Msg) (profile : Nat) : Bool :=
  match profile with
  | 1 => m.dest.enc = 0 && m.mc
  | 2 => m.dest.enc ≠ 0 && !m.mc
  | 3 => m.dest.enc = 0 && m.mac = 0x0180C200000E
  | _ => true

/-- The message's domain on its lane, if that domain is enabled and the message came by its profile's transport; a
Management message belongs to none (R272, R273). Log entry 51 (DEDUCED). -/
def Core.msgDom (c : Core) (n : Nat) (m : Msg) : Option Nat :=
  match c.laneDom n with
  | some d =>
    if c.domOn d && c.rd PTE_DOM_CFG.number d = m.domain && m.carried (c.profile d) && m.type ≠ 0xD then some d else none
  | none => none

def Core.lane (c : Core) (n : Nat) : LaneU := c.lanes.get {} n
def Core.setLane (c : Core) (n : Nat) (x : LaneU) : Core := { c with lanes := c.lanes.set {} n x }

/-- What the engine hears of a frame of a lane: the receive timestamp that the lane passed with it, nothing where that
item was dropped; a frame of which the lane passed none carries the ball time `t`, from which the board delay is taken
(R251, R255). How far the time master's steps had come at the stamp is kept with it (R293). Log entry 115 (DEDUCED). -/
def Core.heard (c : Core) (n : Nat) (l : List Byte) (t : Nat) : Option Nat × Core :=
  let x := c.lane n
  match x.evq.findIdx? (fun e => e.1 = l) with
  | some i =>
    let e := x.evq.getD i ([], none, 0)
    (e.2.1, { c.setLane n { x with evq := x.evq.eraseIdx i } with pte := { c.pte with rxAt := e.2.2 } })
  | none => (some ((t : Int) - toS 32 (c.rd ETH_RX_DLY_L.dly n)).toNat, { c with pte := { c.pte with rxAt := c.stepDone } })

/-- A received message with its domain and its receive timestamp; otherwise it is discarded and counted (R273). -/
def Core.rxWith (c : Core) (n : Nat) (l : List Byte) (t : Nat) (f : Core → Msg → Nat → Nat → Core) : Core :=
  if c.part.nLane ≤ n || !c.pteRun then c else
  let h := c.heard n l t
  match h.1 with
  | none => h.2
  | some t => match h.2.msgOf n l with
    | none => h.2.bump PTE_DISCARD_CNT.count
    | some m => match h.2.msgDom n m with
      | none => h.2.bump PTE_DISCARD_CNT.count
      | some d => f h.2 m d t

/-- A 10-byte timestamp of a time in phase units. Log entry 50 (PRESUMED). -/
def tsBytes (t : Nat) : List Byte := bytesBE 6 (t / secPU) ++ bytesBE 4 (t % secPU / 65536)

/-- A PTP message: type, domain, the two flag bytes, correction, source port identity, sequenceId, control field,
logMessageInterval and body. -/
def Core.msg (c : Core) (d ty f0 f1 : Nat) (corr : Int) (src seq ctl : Nat) (log : Int) (body : List Byte) : List Byte :=
  bytesLE 1 ((if c.profile d = 3 then 0x10 else 0) + ty) ++ [0x12#8] ++ bytesBE 2 (34 + body.length) ++
    bytesLE 1 (c.rd PTE_DOM_CFG.number d) ++ [0#8] ++ bytesLE 1 f0 ++ bytesLE 1 f1 ++ bytesBE 8 (ofS 64 corr) ++ bytesBE 4 0 ++
    bytesBE 10 src ++ bytesBE 2 seq ++ bytesLE 1 ctl ++ bytesLE 1 (ofS 8 log) ++ body

/-- The messages of the engine on their way to a lane's LTX, first to last. -/
def LaneU.queued (x : LaneU) : List InsFrame := x.ins ++ x.prod

/-- The words of a message on the insertion link: one, and one per 16 bytes. Log entry 115 (DEDUCED). -/
def InsFrame.linkWords (f : InsFrame) : Nat := 1 + (f.bytes.length + 15) / 16

/-- The words that wait at the engine go onto a lane's insertion link while it has credits; a message whose last word
has gone waits for insertion (R44, R46). No item starts while the link's counters wait to be reset (R47). `k` bounds the
messages. -/
def Core.insPump : Nat → Nat → Core → Core
  | 0, _, c => c
  | k + 1, n, c =>
    let x := c.lane n
    let q := c.link (132 + n)
    match x.prod with
    | [] => c
    | f :: rest =>
      let need := f.linkWords - x.prodSent
      let free := linkPool (132 + n) - q.used
      if q.resetPend then c
      else if need ≤ free then
        Core.insPump k n ((c.setLink (132 + n) { q with used := q.used + need }).setLane n
          { x with prod := rest, prodSent := 0, ins := x.ins ++ [f] })
      else (c.setLink (132 + n) { q with used := q.used + free }).setLane n { x with prodSent := x.prodSent + free }

/-- A lane's insertion link goes on. -/
def Core.insGo (c : Core) (n : Nat) : Core := Core.insPump (c.lane n).prod.length n c

/-- A message queued for insertion on a lane (R260, R261); with a clockIdentity of 0 the engine sends nothing (R277).
Log entry 132 (DEDUCED). -/
def Core.send (c : Core) (n : Nat) (dest : Dest) (bytes : List Byte) (event : Bool) (tIns : Nat) : Core :=
  if c.clockId = 0 then c else
  let x := c.lane n
  (c.setLane n { x with prod := x.prod ++ [⟨some dest, bytes, event, tIns⟩] }).insGo n

/-- The timestamp t_ins that the engine places in a message: device time cut to the nanosecond. Log entry 49 (DEDUCED). -/
def Core.tIns (c : Core) : Nat := c.now / 65536 * 65536

/-- The PTP multicast address of an encapsulation, as IEEE 1588 gives it: L2, UDP/IPv4, UDP/IPv6. Log entry 50
(PRESUMED). -/
def mcAddr (enc : Nat) : Dest :=
  match enc with
  | 0 => { mac := 0x011B19000000 }
  | 1 => { mac := 0x01005E000181, enc := 1, ip := 0xE0000181 }
  | _ => { mac := 0x333300000181, enc := 2, ip := 0xFF0E * 2 ^ 112 + 0x181 }

/-- The destination of a port's messages by its domain's profile (R272); where the profile allows several and no rule
chooses, the choice is a constant without a value (log entry 51). -/
def Core.portDest (c : Core) (d p : Nat) : Dest :=
  let k := Config.portChoice p
  match c.profile d with
  | 3 => { mac := 0x0180C200000E }
  | 1 => if k % 2 = 0 then mcAddr 0 else { mac := 0x0180C200000E }
  | _ => mcAddr (k / 2 % 3)

/-- A slave port addresses its parent alone: always in profile 2, and in profile 0 where it so chooses (R272). -/
def Core.portUni (c : Core) (d p : Nat) : Bool := c.profile d = 2 || (c.profile d = 0 && Config.portChoice p / 6 % 2 = 1)

/-- logSyncInterval of a port, held to the range of its profile (R272). Log entry 51 (DEDUCED). -/
def Core.logSync (c : Core) (d p : Nat) : Int :=
  let z := c.rdS PTE_PORT_CFG.log_sync p
  match c.profile d with
  | 0 => max (-7) (min 1 z)
  | 1 => -4
  | _ => max (-7) (min 0 z)

/-! ## The announced clock (R277) -/

/-- The engine's own clockClass, offsetScaledLogVariance and traceability, by the time master's state. -/
def Core.ownClass (c : Core) (d : Nat) : Nat × Nat × Bool :=
  match c.master with
  | none => (c.rd PTE_DOM_CLASS.cls_fr d, 0xFFFF, false)
  | some h =>
    let st := c.rd CH_STAT.state h
    if st = 3 || st = 5 then (c.rd PTE_DOM_CLASS.cls_lock d, 0x4E5D, true)
    else if st = 4 then
      (if c.rd GLC_HO_SEC.sec h < c.rd PTE_DOM_HO.ho_lim d then (c.rd PTE_DOM_CLASS.cls_ho d, 0x4E5D, true)
       else (c.rd PTE_DOM_CLASS.cls_ho_out d, 0xFFFF, false))
    else (c.rd PTE_DOM_CLASS.cls_fr d, 0xFFFF, false)

/-- The engine's own data as an Announce. -/
def Core.ownAnn (c : Core) (d : Nat) : Ann :=
  let k := c.ownClass d
  let fl := c.rd PTE_DOM_TPROP.flags d
  { p1 := c.rd PTE_DOM_PRIO.priority1 d, cls := k.1, acc := c.rd PTE_DOM_PRIO.accuracy d, var := k.2.1,
    p2 := c.rd PTE_DOM_PRIO.priority2 d, gm := c.clockId, steps := 0, tsrc := c.rd PTE_DOM_TPROP.time_source d,
    utc := c.rd PTE_DOM_TPROP.utc_offset d, flags := fl + 8 + (if k.2.2 then 0x30 else 0) }

/-- The port of a domain in SLAVE. -/
def Core.slavePort (c : Core) (d : Nat) : Option Nat := (List.range 4).find? (fun p => c.portDom p = some d && c.portState p = 9)

/-- The parent that a port follows. -/
def Core.parentAnn (c : Core) (p : Nat) : Option Ann :=
  match (c.pport p).parent with
  | some s => (c.pport p).foreign.find? (fun a => a.src = s)
  | none => none

/-- What a domain announces: the parent's grandmaster while a port is SLAVE and the time master is LOCKED or ENSEMBLE,
its own clock otherwise. -/
def Core.annData (c : Core) (d : Nat) : Ann :=
  let ok := match c.master with | some h => c.rd CH_STAT.state h = 3 || c.rd CH_STAT.state h = 5 | none => false
  match (c.slavePort d).bind c.parentAnn with
  | some a => if ok then { a with steps := a.steps + 1 } else c.ownAnn d
  | none => c.ownAnn d

/-- PTE_DOM_STAT follows (R296). -/
def Core.domStat (c : Core) (d : Nat) : Core :=
  let a := c.annData d
  let c := c.wr PTE_DOM_STAT.ann_class a.cls d
  let c := c.wr PTE_DOM_STAT.steps (min 255 a.steps) d
  let sp := c.slavePort d
  let c := c.wr PTE_DOM_STAT.parent_port (sp.getD 15) d
  c.wr PTE_DOM_STAT.gm_class (((sp.bind c.parentAnn).map Ann.cls).getD 255) d

/-- The Announce of a domain. Log entry 50 (PRESUMED). -/
def Core.annMsg (c : Core) (d src seq : Nat) (unicast : Bool) (log : Int) : List Byte :=
  let a := c.annData d
  c.msg d 0xB (if unicast then 4 else 0) a.flags 0 src seq 5 log
    (tsBytes c.tIns ++ bytesBE 2 a.utc ++ [0#8] ++ bytesBE 1 a.p1 ++ bytesBE 1 a.cls ++ bytesBE 1 a.acc ++ bytesBE 2 a.var ++
      bytesBE 1 a.p2 ++ bytesBE 8 a.gm ++ bytesBE 2 a.steps ++ bytesBE 1 a.tsrc)

/-! ## Servos (R278, R290) -/

def vsOff : Nat := 0
def vsNoMaster : Nat := 1
def vsRun : Nat := 2
def vsSuspect : Nat := 3
def vsFrozen : Nat := 4

def Core.svState (c : Core) (s : Nat) : Nat := c.rd PTE_SV_STAT.state s

/-- A SERVO_EVENT record (R295). -/
def Core.svEvent (c : Core) (s new old cause : Nat) (o : Rat) : Core :=
  c.emit 0x41 0 0x210000
    [packWord [(109, 108, s), (107, 107, c.rd PTE_SV_CFG.domain s), (106, 104, new), (103, 101, old), (100, 97, cause),
      (96, 91, c.rd PTE_SV_STAT.path s), (63, 0, ofS 64 (roundR16 o))], stamp96 c.now]

/-- A lane leaves HOLD, or left it and is not yet UP again: the engine goes on from what it kept (R294). -/
def Core.laneResumes (c : Core) (n : Nat) : Bool :=
  c.rd ETH_STAT.state n = 3 || (c.rd ETH_STAT.state n = 1 && c.rd ETH_STAT.cause n = 5)

/-- xchk_ok of every servo follows (R296). -/
def Core.xchkRefresh (c : Core) : Core :=
  c.each (List.range 4) fun c s =>
    let x := c.rd PTE_SV_CFG.xchk s
    c.wrB PTE_SV_STAT.xchk_ok (x < 4 && c.svState x = vsRun) s

/-- The cross-check servo `s` leaves RUN: the servos that learn with it start their average anew (R292). -/
def Core.learnRestart (c : Core) (s : Nat) : Core :=
  c.each ((List.range 4).filter (fun v => c.rd PTE_SV_CFG.xchk v = s)) fun c v => c.setSv v { c.sv v with lSum := 0, lN := 0 }

/-- A servo takes a state with a cause; `o` is that of the event's sample (R290). OFF and NO_MASTER drop what it
collected, and the bases too unless the clocks' stop took the lane away (R294). Log entry 52 (DEDUCED). -/
def Core.svGoto (c : Core) (s new cause : Nat) (o : Rat) : Core :=
  let old := c.svState s
  let c := (c.wr PTE_SV_STAT.cause cause s).wr PTE_SV_STAT.state new s
  let x := c.sv s
  let keep := new = vsNoMaster && c.laneResumes (c.portLane (c.rd PTE_SV_CFG.port s))
  let c := if new = vsOff || new = vsNoMaster then c.setSv s {
      staged := x.staged, o := x.o, m := x.m, mBase := if keep then x.mBase else none, xBase := if keep then x.xBase else none,
      off := if keep then x.off else 0 }
    else c
  let c := c.on (old = vsRun && new ≠ vsRun) (fun c => c.learnRestart s)
  (c.svEvent s new old cause o).xchkRefresh

/-- A servo's states that follow its enable, domain and port (R290). -/
def Core.svEval (c : Core) (s : Nat) : Core :=
  if !c.pclk then c else
  let st := c.svState s
  let o := (c.sv s).o
  if !c.svEn s || !c.domOn (c.rd PTE_SV_CFG.domain s) then
    (if st = vsOff then c else c.svGoto s vsOff 10 o)
  else if st = vsOff then c.svGoto s vsNoMaster 1 o
  else if st ≠ vsNoMaster && !c.portSlave (c.rd PTE_SV_CFG.port s) then c.svGoto s vsNoMaster 3 o
  else c

/-! ## Ports (R275, R276) -/

/-- A port takes a state (R275). -/
def Core.portSet (c : Core) (p st : Nat) : Core :=
  if c.portState p = st then c else
  let x := c.pport p
  let slave := st = 8 || st = 9
  let c := c.wr PTE_PORT_STAT.state st p
  let c := c.setPport p (if slave then { x with nCal := if st = 8 then 0 else x.nCal }
    else { x with parent := none, sync := none, req := none, presp := none, foreign := if st < 4 then [] else x.foreign })
  let c := c.each [0, 1] Core.domStat
  c.each (List.range 4) Core.svEval

/-- Lexicographic order of two equally long lists: `a` comes first. -/
def lexLt : List Nat → List Nat → Bool
  | a :: r, b :: s => a < b || (a = b && lexLt r s)
  | _, _ => false

/-- The comparison key of clock data by profile (R275; IEEE 1588 clause 9.3, the alternate BMCA with local priorities, IEEE
802.1AS). `lp` is the local priority of the port or of the local clock. Log entry 50 (PRESUMED). -/
def annKey (profile lp : Nat) (a : Ann) : List Nat :=
  if profile = 1 || profile = 2 then [a.cls, a.acc, a.var, a.p2, lp, if a.cls ≤ 127 then 0 else a.gm, a.steps, a.src, 0]
  else [a.p1, a.cls, a.acc, a.var, a.p2, a.gm, a.steps, a.src, 0]

/-- The key `a` is better than `b`. Between Announces of one grandmaster the default and the gPTP decision compare the paths
alone (IEEE 1588 clause 9.3.4). Log entry 50 (PRESUMED). -/
def keyLt (profile : Nat) (a b : List Nat) : Bool :=
  if profile ≠ 1 && profile ≠ 2 && a.getD 5 0 = b.getD 5 0 then lexLt (a.drop 6) (b.drop 6) else lexLt a b

/-- The better key `a` is better by topology alone than `b`, received by the port `id`: nothing before the path differs, and
the steps are equal, or one fewer while the receiver's identity is beyond its sender's (IEEE 1588 clause 9.3.4).
Log entry 50 (PRESUMED). -/
def keyTopo (profile : Nat) (a b : List Nat) (id : Nat) : Bool :=
  let same := if profile ≠ 1 && profile ≠ 2 then a.getD 5 0 = b.getD 5 0 else decide (a.take 6 = b.take 6)
  same && (a.getD 6 0 = b.getD 6 0 || (a.getD 6 0 + 1 = b.getD 6 0 && decide (b.getD 7 0 < id)))

/-- The announce interval of a port, phase units. -/
def Core.annSpan (c : Core) (p : Nat) : Rat := (secPU : Rat) * (2 : Rat) ^ (c.rdS PTE_PORT_CFG.log_ann p)

/-- A foreign master is qualified: the port's parent; under 802.1AS one whose Announce is not out of date; else one of
which two Announces came within the last four announce intervals (IEEE 1588 clauses 9.3.2.4 and 9.3.2.5). Log entry 51
(DEDUCED). -/
def Core.annOk (c : Core) (d p : Nat) (a : Ann) : Bool :=
  let within := fun (t : Nat) (k : Nat) => decide ((((c.now : Int) - t : Int) : Rat) ≤ k * c.annSpan p)
  if (c.pport p).parent = some a.src then true
  else if c.profile d = 3 then within a.t0 (let k := c.rd PTE_PORT_CFG.ann_timeout p; if k = 0 then 2 else k)
  else 2 ≤ a.n && within a.t1 4

/-- The best qualified foreign master of a port, with its key. Log entry 51 (DEDUCED). -/
def Core.portBest (c : Core) (d p : Nat) : Option (Ann × List Nat) :=
  let lp := c.rd PTE_PORT_CFG.local_prio p * 16
  (c.pport p).foreign.foldl (fun (b : Option (Ann × List Nat)) (a : Ann) =>
    if !c.annOk d p a then b else
    let k := annKey (c.profile d) lp a
    match b with
    | some x => if keyLt (c.profile d) k x.2 then some (a, k) else b
    | none => some (a, k)) none

/-- A port follows a parent: UNCALIBRATED where the parent is new (R275). -/
def Core.portFollow (c : Core) (p : Nat) (a : Ann) : Core :=
  if c.portSlave p && (c.pport p).parent = some a.src then c else
  let c := c.setPport p { c.pport p with parent := some a.src, sync := none, req := none }
  c.portSet p 8

/-- A port is to be MASTER: at once where the local clock is the best; behind another port's parent of `steps` steps it
waits steps + 2 announce intervals in PRE_MASTER, which 802.1AS does not know (IEEE 1588 clause 9.2.6.11). Log entry 51
(DEDUCED). -/
def Core.portMaster (c : Core) (d p : Nat) (steps : Option Nat) : Core :=
  match steps with
  | none => c.portSet p 6
  | some k =>
    if c.profile d = 3 then c.portSet p 6
    else if c.portState p = 5 || c.portState p = 6 then c
    else (c.setPport p { c.pport p with qual := k + 2 }).portSet p 5

/-- The state decision of one port of a domain (R275): `own` is the local clock's key, `eb` the best key of the domain
with its port. -/
def Core.portDecide (c : Core) (d p : Nat) (own : List Nat) (eb : Option (Nat × Ann × List Nat)) : Core :=
  let mine := c.portBest d p
  let pr := c.profile d
  let best := match eb with | some e => keyLt pr own e.2.2 | none => true
  if c.rdB PTE_PORT_CFG.master_only p then c.portMaster d p none
  else if mine.isNone && c.portState p = 4 then c
  else if pr ≠ 3 && (c.ownAnn d).cls ≤ 127 then
    (if (match mine with | some b => keyLt pr own b.2 | none => true) then c.portMaster d p none else c.portSet p 7)
  else if best then c.portMaster d p none
  else match eb, mine with
    | some e, some b =>
      if e.1 = p then c.portFollow p b.1
      else if keyTopo pr e.2.2 b.2 (c.portId p) then c.portSet p 7
      else c.portMaster d p (some e.2.1.steps)
    | some e, none => c.portMaster d p (some e.2.1.steps)
    | none, _ => c

/-- A port's data set takes part in the state decision: it runs on a lane that is UP. -/
def Core.portLive (c : Core) (d p : Nat) : Bool :=
  c.portDom p = some d && c.portEn p && 4 ≤ c.portState p

/-- The state decision of a domain (R275). Log entry 50 (PRESUMED). -/
def Core.stateDecision (c : Core) (d : Nat) : Core :=
  if !c.domOn d || !c.pclk then c else
  let own := annKey (c.profile d) (c.rd PTE_DOM_PRIO.local_prio d) { c.ownAnn d with src := c.clockId * 65536 }
  let ports := (List.range 4).filter (fun p => c.portLive d p)
  let eb := ports.foldl (fun (b : Option (Nat × Ann × List Nat)) p =>
    if c.rdB PTE_PORT_CFG.master_only p then b else
    match c.portBest d p, b with
    | some x, some y => if keyLt (c.profile d) x.2 y.2.2 then some (p, x) else b
    | some x, none => some (p, x)
    | none, _ => b) none
  (c.each ports (fun c p => c.portDecide d p own eb)).domStat d

/-- INITIALIZING, DISABLED, FAULTY and LISTENING of every port follow the engine, the enable and the lane (R275); with PCLK
stopped the engine keeps its state (R294). Log entry 51 (DEDUCED). -/
def Core.portsEval (c : Core) : Core :=
  if !c.pclk then c else
  let c := c.each (List.range 4) fun c p =>
    let n := c.portLane p
    match c.portDom p with
    | some d =>
      if !c.domOn d then c.portSet p 1
      else if !c.portEn p then c.portSet p 3
      else if c.rd ETH_STAT.state n ≠ 2 then c.portSet p 2
      else if c.portState p < 4 then c.portSet p (if c.rdB PTE_PORT_CFG.master_only p then 6 else 4)
      else if c.rdB PTE_PORT_CFG.master_only p && 7 ≤ c.portState p then c.portSet p 6
      else c
    | none => c.portSet p 1
  c.each (List.range 4) Core.svEval

/-! ## The path table (R289), and the selected slot's status (R296) -/

/-- PTE_SLOT_STAT of the selected slot (R296). -/
def Core.slotStat (c : Core) : Core :=
  let x := c.slot (c.rd PTE_SLOT_CTRL.slot)
  let y := x.getD {}
  let c := c.wrB PTE_SLOT_STAT.active x.isSome
  let c := c.wrB PTE_SLOT_STAT.asym y.asym
  let c := c.wrB PTE_SLOT_STAT.path_known y.pathKnown
  let c := c.wr PTE_SLOT_STAT.domain y.dom
  let c := c.wr PTE_SLOT_STAT.lane y.lane
  c.wr PTE_SLOT_STAT.path y.path


/-- The lowest-numbered entry that matches a lane, a VLAN ID and a mean delay in phase units. -/
def Core.pathLookup (c : Core) (n vid : Nat) (m : Rat) : Option Nat :=
  let ns := roundR16 (m / 65536)
  (List.range 64).find? fun e =>
    c.rdB PTE_PATH_KEY.valid e && c.rd PTE_PATH_KEY.lane e = n &&
      (c.rdB PTE_PATH_KEY.any_vid e || c.rd PTE_PATH_KEY.vid e = vid) &&
      decide ((c.rd PTE_PATH_DMIN.d e : Int) ≤ ns) && decide (ns ≤ (c.rd PTE_PATH_DMAX.d e : Int))

def Core.pathAsym (c : Core) (e : Nat) : Int := toS 32 (c.rd PTE_PATH_ASYM.asym e)
def Core.linkAsym (c : Core) (n : Nat) : Int := toS 32 (c.rd ETH_ASYM.asym n)

end Sys2Proof.Machine
end

