-- ==== Sys2Proof/Machine/Lane.lean ====
section
/-! DEFINITION. Ethernet lanes (R242 to R271): states, frames, ESMC PDUs, insertion and the writes of a lane's registers. -/

namespace Sys2Proof.Machine

def leOff : Nat := 0
def leDown : Nat := 1
def leUp : Nat := 2
def leHold : Nat := 3
def leTest : Nat := 4

def Core.laneState (c : Core) (n : Nat) : Nat := c.rd ETH_STAT.state n

/-- The session on lane 0 is up: carried by the image, the lane UP and a peer named (R348, R352). -/
def Core.ibUp (c : Core) : Bool :=
  c.rdB HLK_IB_CFG.en && c.laneState 0 = leUp && (c.rd HLK_IB_PEER_LO.mac_lo ≠ 0 || c.rd HLK_IB_PEER_HI.mac_hi ≠ 0)

/-- The tenths of a nanosecond that a byte takes on the line: 64 or 66 bits per 8 bytes at 10.3125 Gbaud, 10 bits per
byte at 3.125 and 1.25 Gbaud (R243). -/
def byteTenths (mode : Nat) : Nat := match mode with | 0 => 8 | 1 => 32 | _ => 80

/-- The frame as it stands when its transmitter ends it at `now`: the bytes sent so far and an error character, unless its
FCS has left too (R267). Log entry 114 (DEDUCED). -/
def TxFrame.endAt (mode now : Nat) (f : TxFrame) : TxFrame :=
  let k := (now - f.start) * 10 / (byteTenths mode * 65536)
  if k < f.bytes.length + 4 then { f with bytes := f.bytes.take k, err := true } else f

/-- What entering a state does to the frames of a lane in another: HOLD and OFF end the frames in progress; the buffer is
discarded when forwarding ends, counted for the end of HOLD (R267); the engine's messages in HOLD miss their launch time and
are not sent (R294); a loopback that ends carries nothing back (R265). Log entry 114 (DEDUCED). -/
def LaneU.enter (x : LaneU) (mode now new : Nat) : LaneU :=
  let stop := new = leHold || new = leOff
  let x := if stop then { x with ltx := x.ltx.map (TxFrame.endAt mode now), mtx := x.mtx.map (TxFrame.endAt mode now) } else x
  let x := if new = leHold then { x with holdN := x.buf.length, ins := [], prod := [], prodSent := 0 } else { x with holdN := 0 }
  { x with buf := if new = leUp then x.buf else [], loop := if new = leTest then x.loop else [] }

/-! ## States (R245, R246) -/

/-- A lane takes a state with a cause, with its LANE_EVENT record, indications and faults (R246, R267, R270).
Log entry 46 (DEDUCED). -/
def Core.laneGoto (c : Core) (n new cause : Nat) : Core :=
  let old := c.laneState n
  let c := (c.wr ETH_STAT.cause cause n).wr ETH_STAT.state new n
  let c := c.on (old = leHold && new = leDown) (fun c => c.bump ETH_HOLD_DROP.count n 0 (c.lane n).holdN)
  let c := c.on (old ≠ new) (fun c => c.setLane n ((c.lane n).enter (c.rd ETH_CFG.mode n) c.now new))
  let c := c.on (cause = 7) (fun c => c.wr ETH_STAT.isolated 1 n)
  let c := c.on (new = leUp && old ≠ leUp) (fun c => c.wr ETH_EVENT.up 1 n)
  let c := c.on (old = leUp && new ≠ leUp) (fun c => c.wr ETH_EVENT.down 1 n)
  let c := c.on (new = leHold) (fun c => (c.wr ETH_EVENT.hold 1 n).raise 34 n)
  let c := if new = leOff then
      ((((c.wr ETH_STAT.l_sync 0 n).wr ETH_STAT.m_sync 0 n).wr ETH_STAT.l_an 0 n).wr ETH_STAT.m_an 0 n).wr ETH_STAT.isolated 0 n
    else c
  let c := c.on (old = leUp && new = leDown) (fun c => c.raise 32 n)
  (c.emit 0x38 n (ETH_CFG.en.addr n 0)
    [packWord [(109, 108, n), (107, 105, new), (104, 102, old), (101, 98, cause), (97, 97, c.rd ETH_STAT.l_sync n),
      (96, 96, c.rd ETH_STAT.m_sync n)], stamp96 c.now]).portsEval

/-- The next transition that the conditions ask for, in the order of R246; none where the lane stays. -/
def Core.laneNext (c : Core) (n : Nat) : Option (Nat × Nat) :=
  let st := c.laneState n
  let l := c.rdB ETH_STAT.l_sync n
  let m := c.rdB ETH_STAT.m_sync n
  if !c.rdB ETH_CFG.en n then (if st = leOff then none else some (leOff, 10))
  else if c.rd ETH_CFG.mode n = 3 then (if st = leOff then none else some (leOff, 9))
  else if st = leOff then (if c.pclk && c.estRun then some (leDown, 1) else none)
  else if !c.pclk then (if st = leHold then none else some (leHold, 5))
  else if st = leHold then some (leDown, 5)
  else if c.rd ETH_LOOP.depth n ≠ 0 then (if st = leTest then none else some (leTest, 6))
  else if st = leTest then some (leDown, 6)
  else if bitOf (c.engTargets 3) n && !c.rdB ETH_STAT.isolated n then some (leDown, 7)
  else if st = leUp then
    (if !l then some (leDown, 2) else if !m then some (leDown, 3) else none)
  else if l && m && !c.rdB ETH_STAT.isolated n then some (leUp, 4)
  else none

/-- The transitions of consecutive cycles until the lane rests; at most `k`. -/
def Core.laneSteps : Nat → Core → Nat → Core
  | 0, c, _ => c
  | k + 1, c, n => match c.laneNext n with
    | some (new, cause) => Core.laneSteps k (c.laneGoto n new cause) n
    | none => c

/-- The lane evaluated; an enabled lane with mode 3 shows CFG_INVALID in OFF (R243). -/
def Core.laneEval (c : Core) (n : Nat) : Core :=
  if c.part.nLane ≤ n || c.inRst.contains (6, n) then c else
  let c := Core.laneSteps 4 c n
  if c.laneState n = leOff && c.rdB ETH_CFG.en n && c.rd ETH_CFG.mode n = 3 then c.wr ETH_STAT.cause 9 n else c

/-- The end of an isolation (R246, R268). -/
def Core.laneFree (c : Core) (n : Nat) : Core :=
  if !c.rdB ETH_STAT.isolated n || bitOf (c.engTargets 3) n then c else
  let c := c.wr ETH_STAT.isolated 0 n
  (if c.laneState n = leDown then c.laneGoto n leDown 8 else c).laneEval n

/-- ETH_CTRL.release: no engagement of the collector isolates the lane any longer (R268, R476). -/
def Core.laneRelease (c : Core) (n : Nat) : Core := (c.engDrop 3 n).laneFree n

/-! ## What the transmitters send (R244, R245, R265, R267) -/

/-- What a side's transmitter sends. -/
inductive LaneSends where
  | electricalIdle | idle | localFault | frames | retimed
deriving DecidableEq, Repr

/-- What the transmitter of the line side or of the MAC side sends in the lane's state. -/
def Core.laneSends (c : Core) (n : Nat) (line : Bool) : LaneSends :=
  let r10 := c.rd ETH_CFG.mode n = 0
  match c.laneState n with
  | 1 => if r10 && !c.rdB (if line then ETH_STAT.m_sync else ETH_STAT.l_sync) n then .localFault else .idle
  | 2 => .frames
  | 3 => if !c.rdB RS_STAT.lo_ok then .electricalIdle else if r10 then .localFault else .idle
  | 4 => if c.rdB ETH_LOOP.side n = line then .idle
    else match c.rd ETH_LOOP.depth n with | 1 => .frames | 3 => .retimed | _ => .idle
  | _ => .electricalIdle

/-- The reference of a lane's transmit PLLs: the local oscillator in HOLD (R267), otherwise the root (0) or a bank SYN (its
number and 1) (R244). -/
def Core.laneRef (c : Core) (n : Nat) : Option Nat := if c.laneState n = leHold then none else some (c.rd ETH_CFG.txclk n)

/-! ## Receivers and auto-negotiation (R243, R245) -/

/-- The lane negotiates. -/
def Core.laneAn (c : Core) (n : Nat) : Bool := c.rd ETH_CFG.mode n = 2 && c.rdB ETH_CFG.an_en n

/-- A side's receiver comes into sync, negotiation included, or leaves sync. -/
def Core.sideSync (c : Core) (n : Nat) (line v : Bool) : Core :=
  let an := v && c.laneAn n
  if line then (c.wrB ETH_STAT.l_sync v n).wrB ETH_STAT.l_an an n else (c.wrB ETH_STAT.m_sync v n).wrB ETH_STAT.m_an an n

/-- LANE_SYNC: the receivers of the sides named are in sync. -/
def laneSyncStep (n : Fin 4) (line mac : Bool) (c : Core) : Core :=
  let n := n.val
  if c.part.nLane ≤ n || c.laneState n = leOff then c else
  let c := c.on line (fun c => c.sideSync n true true)
  (c.on mac (fun c => c.sideSync n false true)).laneEval n

/-- LANE_SYNC_LOST: the receiver of a side leaves sync. -/
def laneSyncLostStep (n : Fin 4) (line : Bool) (c : Core) : Core :=
  let n := n.val
  if c.part.nLane ≤ n || c.laneState n = leOff then c else (c.sideSync n line false).laneEval n

/-- Negotiation restarts on a side, which is out of sync until it completes (R243, R245). -/
def Core.anRestart (c : Core) (n : Nat) (line : Bool) : Core := if c.laneAn n then c.sideSync n line false else c

/-- LANE_RELEASE. -/
def laneReleaseStep (n : Fin 4) (c : Core) : Core :=
  c.atReg exHost (ETH_CTRL.release.addr n 0) fun c => c.laneRelease n.val

/-- AN_RESTART (R243). -/
def anRestartStep (n : Fin 4) (c : Core) : Core :=
  c.atReg exHost (ETH_CTRL.an_restart.addr n 0) fun c => ((c.anRestart n.val true).anRestart n.val false).laneEval n.val

/-- PAUSE_BITS_CHANGE: the partner of a side advertises other pause bits; the other side advertises them and negotiates anew
(R243). -/
def pauseBitsChangeStep (n : Fin 4) (line : Bool) (pause : BitVec 2) (c : Core) : Core :=
  let n := n.val
  if c.part.nLane ≤ n || !c.laneAn n then c else
  let x := c.lane n
  let old := if line then x.advM else x.advL
  if old = pause.toNat then c else
  let c := c.setLane n (if line then { x with advM := pause.toNat } else { x with advL := pause.toNat })
  (c.anRestart n (!line)).laneEval n

/-! ## Frames (R247 to R259) -/

/-- A board delay of R251. -/
def Core.dly (c : Core) (f : Fld) (n : Nat) : Int := toS 32 (c.rd f n)

/-- A correction skipped or saturated (R258, R259). Log entry 46 (DEDUCED). -/
def Core.corrSkip (c : Core) (n : Nat) : Core := ((c.bump ETH_SKIP_CNT.count n).wr ETH_EVENT.skip 1 n).raise 35 n

/-- The correction of a recognised message in a direction (R256 to R259). A sum beyond 64 bits in EDGE mode has no stated
value: it is a free value (log entry 4). Log entries 46 (DEDUCED), 47 (DESIGN CHOICE). -/
def Core.correct (c : Core) (n : Nat) (m2l : Bool) (x : PtpAt) (l : List Byte) (tRx tTx : Int) : List Byte × Core :=
  let mode := if m2l then c.rd ETH_PTP_CFG.m2l_mode n else c.rd ETH_PTP_CFG.l2m_mode n
  let ty := ptpType l x.off
  if mode = 0 || mode = 3 || 4 ≤ ty || !bitOf (c.rd ETH_PTP_CFG.types n) ty then (l, c) else
  let z := corrValue mode m2l (ptpCorr l x.off) tRx tTx
  let fits := corrFits z
  let f := c.fresh
  let new := if fits then ofS 64 z else if mode = 1 then f.1 % 2 ^ 64 else satS 64 z
  let c := if !fits && mode = 1 then f.2 else c
  match corrPut l x new (c.rdB ETH_PTP_CFG.v6_comp n) with
  | none => (l, c.corrSkip n)
  | some l2 =>
    let c := c.on (mode = 1) (fun c => c.wr ETH_RES_MAX.res (max (c.rd ETH_RES_MAX.res n) (satU 32 (tTx - tRx))) n)
    (l2, if !fits && mode = 2 then c.corrSkip n else c.bump ETH_CORR_CNT.count n)

/-- An item on a lane's event link (R46, R255): the frame and its receive timestamp go to the engine; without credits
the item is lost (R43, R273). Log entry 115 (DEDUCED). -/
def Core.laneEvent (c : Core) (n words : Nat) (l : List Byte) (t : Nat) : Core :=
  let r := c.dropTake (128 + n) words
  let c := if r.2 then r.1 else (r.1.bump ETH_EVT_DROP.count n).bump PTE_DISCARD_CNT.count
  let x := c.lane n
  c.setLane n { x with evq := x.evq ++ [(l, if r.2 then some t else none, c.stepDone)] }

/-- The bytes that wait in a direction's buffer: inserted frames hold the LTX transmitter alone (R247, R261). -/
def Core.buffered (c : Core) (n : Nat) (m2l : Bool) : Nat :=
  if m2l then (c.lane n).buf.foldl (fun a f => a + f.bytes.length) 0 else 0

/-- A through frame is admitted: the 32 KB buffer, of which rate adaptation leaves `room` free, has space for it (R247). -/
def Core.admits (c : Core) (n : Nat) (m2l : Bool) (room : Nat) : Bool :=
  c.rd ETH_CFG.maxlen n + 64 ≤ min room (32768 - c.buffered n m2l)

/-- A frame that finds no space (R247). -/
def Core.frameDrop (c : Core) (n : Nat) : Core := ((c.bump ETH_DROP_CNT.count n).wr ETH_EVENT.drop 1 n).raise 33 n

/-- A frame goes out on a direction's transmitter. -/
def Core.transmit (c : Core) (n : Nat) (m2l : Bool) (f : TxFrame) : Core :=
  c.setLane n (if m2l then { c.lane n with ltx := some f } else { c.lane n with mtx := some f })

/-- An inserted frame is pending for LTX: the engine's, or on lane 0 a packet of the in-band session (R261). -/
def Core.insPending (c : Core) (n : Nat) : Bool :=
  let x := c.host.ports.get {} 1
  !(c.lane n).ins.isEmpty || (n = 0 && c.ibUp && (!x.notes.isEmpty || x.cur.isSome || !x.r0.isEmpty || !x.rs.isEmpty ||
    (c.rd HLK_CFG.qn_port = 1 && c.host.qn.isSome)))

/-- The M2L frames held behind inserted frames follow where none of these waits any longer (R247, R261). -/
def Core.bufFlow (c : Core) (n : Nat) : Core :=
  let x := c.lane n
  if c.insPending n then c else c.setLane n { x with ltx := x.buf.getLast?.or x.ltx, buf := [] }

/-- A frame forwarded in a direction, its first byte due at `start`: cut at maxlen with an error, its FCS as good as it came
(R248). On LTX it waits in the buffer while inserted frames wait (R261); in TEST both transmitters that it could reach send
idle (R265). -/
def Core.forward (c : Core) (n : Nat) (m2l good : Bool) (l : List Byte) (start : Nat) : Core :=
  let lim := c.rd ETH_CFG.maxlen n
  let long := decide (lim < l.length + 4)
  let tx : TxFrame := ⟨if long then l.take lim else l, good, long, start⟩
  let c := c.on long (fun c => c.bump ETH_LONG_CNT.count n)
  let x := c.lane n
  if c.laneState n = leTest then c
  else if m2l && c.insPending n then c.setLane n { x with buf := x.buf ++ [tx] }
  else (c.on m2l (fun c => c.bufFlow n)).transmit n m2l tx

/-- The directions that carry received frames in TEST: from the side looped, at depth 1 or 2 (R265). -/
def Core.testDir (c : Core) (n : Nat) (m2l : Bool) : Bool :=
  (c.rd ETH_LOOP.depth n = 1 || c.rd ETH_LOOP.depth n = 2) && c.rdB ETH_LOOP.side n = m2l

/-- The receive stamp of a frame: the TDC's stamp of the receive word clock and the delimiter's place in the word, in
bits, at the bit period of the mode in hundredths of a picosecond, truncated to the phase unit (R250). -/
def bitPeriod (mode : Nat) : Nat := match mode with | 0 => 9697 | 1 => 32000 | _ => 80000
def rxStamp (mode word pos : Nat) : Nat := word + pos * bitPeriod mode * 65536 / 100000

/-- A frame reaches the datapath of a direction: in UP any, in TEST the next of those that the looped side sent (R245,
R265). The second value is the lane without that frame in its loop. -/
def Core.reaches (c : Core) (n : Nat) (m2l : Bool) (l : List Byte) : Bool × Core :=
  let x := c.lane n
  if c.laneState n = leUp then (true, c)
  else if c.laneState n = leTest && c.testDir n m2l && x.loop.head? = some l then
    (true, c.setLane n { x with loop := x.loop.tail })
  else (false, c)

/-- A frame is an ESMC PDU: addressed as one and untagged, with the Ethertype, the subtypes and the ITU-OUI (R264). -/
def esmcPdu (l : List Byte) : Bool :=
  fbe l 0 6 = 0x0180C2000002 && fbe l 12 2 = 0x8809 && fb l 14 = 0x0A && fbe l 15 3 = 0x0019A7 && fbe l 18 2 = 1

/-- A frame passes the checks of a valid ESMC PDU, its rate apart (R264). Log entry 48 (PRESUMED). -/
def esmcOk (l : List Byte) (good : Bool) : Bool :=
  good && esmcPdu l && fb l 20 / 16 = 1 && fb l 24 = 1 && fbe l 25 2 = 4

/-- A frame received on LRX with the receive stamp `t`, checked as an ESMC PDU, rate adaptation leaving `room` bytes free and
`tTx` its launch where it is forwarded. Each counts in the 1 s window. A valid one is forwarded where esmc_fwd asks for it and the lane forwards, and goes to the QL logic
and its queue over the ESMC link, where the link has two credits for it (R43, R46, R264, R266). In HOLD it is counted (R267).
Log entry 116 (DEDUCED). -/
def Core.esmcRx (c : Core) (n : Nat) (l : List Byte) (good : Bool) (t room tTx : Nat) : Core :=
  if c.part.nLane ≤ n then c
  else if c.laneState n = leHold then c.bump ETH_HOLD_DROP.count n
  else if c.laneState n ≠ leUp && c.laneState n ≠ leDown then c else
  let c := c.on (!good) (fun c => c.bump ETH_FCS_CNT.count n)
  let x := c.lane n
  let much := x.esmcT.length = 10 && decide (t < x.esmcT.getLastD 0 + secPU)
  let c := c.setLane n { c.lane n with esmcT := (t :: x.esmcT).take 10 }
  if !esmcOk l good || much then c.bump ETH_ESMC_BAD.count n else
  let c := c.bump ETH_ESMC_CNT.count n
  let c := c.on (c.rdB ETH_PTP_CFG.esmc_fwd n && c.laneState n = leUp)
    (fun c => if c.admits n false room then c.forward n false true l tTx else c.frameDrop n)
  let r := c.dropTake (136 + n) 2
  let c := r.1
  if !r.2 then c else
  let ext := fb l 28 = 2 && fbe l 29 2 = 20
  let mixed := ext && bitOf (fb l 40) 0
  let part := ext && bitOf (fb l 40) 1
  let ssm := fb l 27 % 16
  let essm := if ext then fb l 31 else 0xFF
  let eeec := if ext then fb l 41 else 0
  let eec := if ext then fb l 42 else 0
  let c := c.emit 0x39 n (ETH_CFG.en.addr n 0)
    [packWord [(109, 108, n), (107, 107, b2n (bitOf (fb l 20) 3)), (106, 106, b2n ext), (105, 102, ssm), (101, 94, essm),
      (93, 93, b2n mixed), (92, 92, b2n part), (91, 84, eeec), (83, 76, eec)],
     stamp96 ((t : Int) - c.dly ETH_RX_DLY_L.dly n).toNat]
  c.esmcQl n ssm essm ext mixed part eeec eec

/-- ESMC_PDU_RX: a frame received on LRX, with the receive stamp `t` (R264). Log entries 48 (PRESUMED), 116 (DEDUCED). -/
def esmcPduRxStep (n : Fin 4) (l : List Byte) (good : Bool) (t : Nat) (c : Core) : Core := c.esmcRx n l good t 32768 c.now

/-- THROUGH_FRAME: a frame arrives in a direction, with a good or bad FCS; `stamp` is that of the receive word clock and
the bits from the start of the word to the delimiter, `tTx` is the launch at the transmit ball, `room` the bytes that
rate adaptation leaves free in the direction's buffer, `words` the size of its lane-event item (R247 to R259). An ESMC PDU
from LRX goes as R264 says. Log
entries 49 (DEDUCED), 130 (DESIGN CHOICE), 131 (DESIGN CHOICE). -/
def throughFrameStep (n : Fin 4) (m2l : Bool) (l : List Byte) (good : Bool) (stamp : Nat × Nat) (tTx room words : Nat)
    (c : Core) : Core :=
  let n := n.val
  if c.part.nLane ≤ n then c
  else if c.laneState n = leHold then c.bump ETH_HOLD_DROP.count n
  else if !m2l && esmcPdu l && c.laneState n ≠ leTest then c.esmcRx n l good (rxStamp (c.rd ETH_CFG.mode n) stamp.1 stamp.2) room tTx
  else
  let r := c.reaches n m2l l
  let c := r.2
  if !r.1 then c
  else if !c.admits n m2l room then c.frameDrop n
  else
    let c := c.on (!good) (fun c => c.bump ETH_FCS_CNT.count n)
    let rx : Int := (rxStamp (c.rd ETH_CFG.mode n) stamp.1 stamp.2 : Int) - c.dly (if m2l then ETH_RX_DLY_M.dly else ETH_RX_DLY_L.dly) n
    let tx : Int := (tTx : Int) + c.dly (if m2l then ETH_TX_DLY_L.dly else ETH_TX_DLY_M.dly) n
    match c.parse n l with
    | .other => c.forward n m2l good l tTx
    | .unparsed => (c.bump ETH_UNPARSED_CNT.count n).forward n m2l good l tTx
    | .macsec => (c.bump ETH_MACSEC_CNT.count n).forward n m2l good l tTx
    | .ptp x =>
      let port := !m2l && c.rdB ETH_CFG.role n
      let mt := c.rdB ETH_PTP_CFG.mc_term n
      let c := c.on (port && (x.own || x.mc)) (fun c => c.laneEvent n words l rx.toNat)
      if port && (x.own || (x.mc && mt)) then c
      else
        let r := c.correct n m2l x l rx tx
        r.2.forward n m2l good r.1 tTx

/-- A frame leaves on LTX by insertion, whole: in TEST it comes back on the loop, and at depth 2 the pins stay idle
(R265). With no inserted frame waiting any longer, the M2L frames behind it follow (R261). -/
def Core.insertOut (c : Core) (n : Nat) (f : TxFrame) : Core :=
  let x := c.lane n
  let test := c.laneState n = leTest
  let x := if test then { x with loop := x.loop ++ [f.bytes] } else x
  let x := if test && c.rd ETH_LOOP.depth n = 2 then x else { x with ltx := some f }
  (c.setLane n x).bufFlow n

/-- LTX takes inserted frames: in UP, and in TEST looped on the line side before the pins (R245, R265). -/
def Core.inserts (c : Core) (n : Nat) : Bool :=
  c.laneState n = leUp || (c.laneState n = leTest && c.testDir n false)

/-- INSERTED_FRAME: the first waiting message goes out on LTX at ball time `tTx`, in its frame, which the lane treats as
R259 says; `late` says that it launches later than the bound of R58 (R260, R261, R262). Log entries 49 (DEDUCED), 93
(DESIGN CHOICE), 129 (DESIGN CHOICE). -/
def insertedFrameStep (n : Fin 4) (tTx : Nat) (late : Bool) (c : Core) : Core :=
  let n := n.val
  if c.part.nLane ≤ n || !c.inserts n then c else
  match (c.lane n).ins with
  | [] => c
  | f :: rest =>
    let v := c.fresh
    let built := v.2.buildFrame n (f.dest.getD {}) f.event f.bytes v.1
    let z := ptpCorr f.bytes 0 + ((tTx : Int) + c.dly ETH_TX_DLY_L.dly n - f.tIns)
    let put := if f.event then corrPut built.1 built.2 (ofS 64 z) (c.rdB ETH_PTP_CFG.v6_comp n) else some built.1
    let frame := put.getD built.1
    let c := v.2.on put.isNone (fun c => c.corrSkip n)
    let c := c.setLane n { c.lane n with ins := rest, sent := some { f with bytes := (frame.drop built.2.off).take f.bytes.length } }
    let c := c.insertOut n ⟨frame, true, false, tTx⟩
    if f.event && late then (c.bump ETH_LATE_CNT.count n).wr ETH_EVENT.late 1 n else c

/-! ## Register writes (R246, R265, R268, R271) -/

def Core.ethReject (c : Core) (n off : Nat) : Core :=
  c.reject ETH_CFG_REJECT.valid ETH_CFG_REJECT.count ETH_CFG_REJECT.word (off / 4) n

/-- A write of a lane's register row at `off`. -/
def Core.ethRowWrite (c : Core) (n off : Nat) (r : RegRow) (be data : Nat) (k : Nat := 0) : Core × Bool :=
  let w := c.writeRow r (c.rdB ETH_CFG.en n) be data n k
  ((if w.2 then w.1.ethReject n off else w.1).laneEval n, w.2)

/-- A write of ETH_CTRL (R243, R246). -/
def Core.ethCtrlWrite (c : Core) (n m : Nat) : Core :=
  let c := c.on (bitOf m 1) (fun c => c.laneRelease n)
  c.on (bitOf m 0) (fun c => ((c.anRestart n true).anRestart n false).laneEval n)

/-! ## The meanings of the commands -/

/-- THROUGH_FRAME (R247). -/
def execThroughFrame (n : Fin 4) (m2l : Bool) (l : List Byte) (good : Bool) (rx : Nat × Nat) (tTx room words : Nat) (s : State) : Out :=
  onRunCore (throughFrameStep n m2l l good rx tTx room words) s

/-- ESMC_PDU_RX (R264). -/
def execEsmcPduRx (n : Fin 4) (l : List Byte) (good : Bool) (t : Nat) (s : State) : Out := onRunCore (esmcPduRxStep n l good t) s

/-- LANE_SYNC (R246). -/
def execLaneSync (n : Fin 4) (line mac : Bool) (s : State) : Out := onRunCore (laneSyncStep n line mac) s

/-- LANE_SYNC_LOST (R246). -/
def execLaneSyncLost (n : Fin 4) (line : Bool) (s : State) : Out := onRunCore (laneSyncLostStep n line) s

/-- LANE_RELEASE (R246). -/
def execLaneRelease (n : Fin 4) (s : State) : Out := onRunCore (laneReleaseStep n) s

/-- AN_RESTART (R243). -/
def execAnRestart (n : Fin 4) (s : State) : Out := onRunCore (anRestartStep n) s

/-- PAUSE_BITS_CHANGE (R243). -/
def execPauseBitsChange (n : Fin 4) (line : Bool) (pause : BitVec 2) (s : State) : Out :=
  onRunCore (pauseBitsChangeStep n line pause) s

end Sys2Proof.Machine
end

