-- ==== Sys2Proof/Machine/Pte.lean ====
section
/-! DEFINITION. The PTP engine's ports and servos (R273 to R278, R290 to R293): received messages, messages due, the servo update and
its commands, and the engine's start. -/

namespace Sys2Proof.Machine

/-! ## Slave side (R273, R278) -/

/-- A forward or backward delay, its own stamp taken when the time master's steps had come to `a`, goes to every servo of the
port as if the steps were over (R293). Log entry 54 (DEDUCED). -/
def Core.svAdd (c : Core) (p : Nat) (fwd : Bool) (d a : Int) : Core :=
  c.each ((List.range 4).filter (fun s => c.rd PTE_SV_CFG.port s = p && vsNoMaster ≤ c.svState s)) fun c s =>
    let x := c.sv s
    c.setSv s (if fwd then { x with df := x.df ++ [d - c.stepAfter a] } else { x with db := x.db ++ [d + c.stepAfter a] })

/-- SYNC_RX: a Sync from the parent; a two-step one waits for its Follow_Up (R273). -/
def syncRxStep (n : Fin 4) (t : Nat) (l : List Byte) (c : Core) : Core :=
  c.rxWith n.val l t fun c m _ t =>
    match c.portOf n.val with
    | none => c
    | some p =>
      let x := c.pport p
      if !c.portSlave p || m.type ≠ 0 || x.parent ≠ some m.src then c
      else if m.twoStep then c.setPport p { x with vid := m.vid, sync := some (m.seq, t, m.corr), syncAt := c.pte.rxAt }
      else (c.setPport p { x with vid := m.vid, sync := none }).svAdd p true ((t : Int) - m.time - m.corr) c.pte.rxAt

/-- FOLLOW_UP_RX: the Follow_Up of the waiting Sync, within one Sync interval (R273). -/
def followUpRxStep (n : Fin 4) (t : Nat) (l : List Byte) (c : Core) : Core :=
  c.rxWith n.val l t fun c m _ t =>
    match c.portOf n.val with
    | none => c
    | some p =>
      let x := c.pport p
      match x.sync with
      | none => c
      | some (seq, t2, corr) =>
        let span : Rat := (secPU : Rat) * (2 : Rat) ^ (c.logSync ((c.portDom p).getD 0) p)
        if !c.portSlave p || m.type ≠ 8 || x.parent ≠ some m.src || m.seq ≠ seq || decide (span < ((t : Int) - t2 : Int)) then c
        else (c.setPport p { x with sync := none }).svAdd p true ((t2 : Int) - m.time - corr - m.corr) x.syncAt

/-- DELAY_RESP_RX: the parent's answer to the outstanding Delay_Req (R273, R278). -/
def delayRespRxStep (n : Fin 4) (l : List Byte) (c : Core) : Core :=
  c.rxWith n.val l 0 fun c m _ _ =>
    match c.portOf n.val with
    | none => c
    | some p =>
      let x := c.pport p
      match x.req with
      | none => c
      | some (seq, t3) =>
        if !c.portSlave p || m.type ≠ 9 || x.parent ≠ some m.src || m.seq ≠ seq || m.reqId ≠ c.portId p then c
        else (c.setPport p { x with req := none }).svAdd p false ((m.time : Int) - t3 - m.corr) x.reqAt

/-- PDELAY_REQ_RX: under profile 3 a one-step Pdelay_Resp with the turnaround in correctionField (R273). -/
def pdelayReqRxStep (n : Fin 4) (t : Nat) (l : List Byte) (c : Core) : Core :=
  c.rxWith n.val l t fun c m d t =>
    match c.portOf n.val with
    | none => c
    | some p =>
      if c.profile d ≠ 3 || m.type ≠ 2 then c.bump PTE_DISCARD_CNT.count else
      let ti := c.tIns
      c.send n.val (c.portDest d p)
        (c.msg d 3 0 0 (m.corr + ((ti : Int) - t)) (c.portId p) m.seq 5 0x7F (List.replicate 10 0#8 ++ bytesBE 10 m.src)) true ti

/-- A completed peer-delay exchange, `a4` how far the time master's steps had come at t4: meanLinkDelay =
((t4 − t1) · r − (t3 − t2) − corrections) / 2, its device-time intervals as if no step had come (R278, R293).
Log entries 52 (DEDUCED), 54 (DEDUCED). -/
def Core.peerDone (c : Core) (p : Nat) (t1 t2 t3 t4 : Nat) (corr : Int) (two : Bool) (a4 : Int) : Core :=
  let x := c.pport p
  let key : Int := (t3 : Int) + corr
  let r : Rat := match x.pair with
    | some (k0, u0) => if two && u0 < t4 && k0 < key then ((key - k0 : Int) : Rat) / ((t4 : Int) - u0 + (c.stepAfter x.pairAt - c.stepAfter a4) : Int) else x.nrr
    | none => x.nrr
  let mld : Rat := ((((t4 : Int) - t1 + (c.stepAfter x.reqAt - c.stepAfter a4) : Int) : Rat) * r - ((t3 : Int) - t2 : Int) - corr) / 2
  c.setPport p { x with
    req := none, presp := none, pair := if two then some (key, t4) else x.pair, pairAt := if two then a4 else x.pairAt, nrr := r, mld := some mld }

/-- PDELAY_RESP_RX (R273): a one-step response completes the exchange, a two-step one waits for its follow-up. -/
def pdelayRespRxStep (n : Fin 4) (t : Nat) (l : List Byte) (c : Core) : Core :=
  c.rxWith n.val l t fun c m d t =>
    match c.portOf n.val with
    | none => c
    | some p =>
      let x := c.pport p
      match x.req with
      | none => c
      | some (seq, t1) =>
        if c.profile d ≠ 3 || m.type ≠ 3 || m.seq ≠ seq || m.reqId ≠ c.portId p then c
        else if m.twoStep then c.setPport p { x with presp := some (seq, m.time, t, m.corr), prespAt := c.pte.rxAt }
        else c.peerDone p t1 0 0 t m.corr false c.pte.rxAt

/-- PDELAY_RESP_FOLLOW_UP_RX (R273). Log entry 52 (DEDUCED). -/
def pdelayRespFollowUpRxStep (n : Fin 4) (l : List Byte) (c : Core) : Core :=
  c.rxWith n.val l 0 fun c m d _ =>
    match c.portOf n.val with
    | none => c
    | some p =>
      let x := c.pport p
      match x.req, x.presp with
      | some (_, t1), some (seq, t2, t4, corr) =>
        if c.profile d ≠ 3 || m.type ≠ 0xA || m.seq ≠ seq || m.reqId ≠ c.portId p then c
        else c.peerDone p t1 t2 m.time t4 (corr + m.corr) true x.prespAt
      | _, _ => c

/-! ## Announce (R275 to R277) -/

/-- The data of a received Announce. -/
def Msg.ann (m : Msg) : Ann :=
  { src := m.src, dest := m.dest, p1 := fb m.b 47, cls := fb m.b 48, acc := fb m.b 49, var := fbe m.b 50 2, p2 := fb m.b 52,
    gm := fbe m.b 53 8, steps := fbe m.b 61 2, tsrc := fb m.b 63, utc := fbe m.b 44 2, flags := fb m.b 7, n := 1 }

/-- The servos of a domain. -/
def Core.domServos (c : Core) (d : Nat) : List Nat := (List.range 4).filter (fun s => c.rd PTE_SV_CFG.domain s = d)

/-- The clockClass of a domain's master reaches its servos' candidates (R80, R82). -/
def Core.domQl (c : Core) (d cls : Nat) : Core := c.each (c.domServos d) (fun c s => c.announceQl s cls)

/-- ANNOUNCE_RX: the foreign master's data are kept and the domain decides its states; the parent's clockClass is reported
(R82, R275). Announces of this clock, and those that have gone 255 steps, are not qualified. Log entry 123 (DEDUCED). -/
def announceRxStep (n : Fin 4) (l : List Byte) (c : Core) : Core :=
  c.rxWith n.val l 0 fun c m d _ =>
    match c.portOf n.val with
    | none => c
    | some p =>
      let a := m.ann
      if m.type ≠ 0xB || c.portState p < 4 || c.rdB PTE_PORT_CFG.master_only p || a.src / 65536 = c.clockId || 255 ≤ a.steps then c
      else
        let x := c.pport p
        let old := x.foreign.find? (fun b => b.src = a.src)
        let a := { a with
          n := (match old with | some b => min 255 (b.n + 1) | none => 1), t0 := c.now, t1 := (old.map Ann.t0).getD 0 }
        let c := c.setPport p { x with foreign := a :: x.foreign.filter (fun b => b.src ≠ a.src) }
        let c := c.stateDecision d
        if c.portSlave p && (c.pport p).parent = some a.src then c.domQl d a.cls else c

/-- ANNOUNCE_TIMEOUT: no Announce for ann_timeout intervals. A SLAVE or UNCALIBRATED port has lost its parent (R276); a
LISTENING or PASSIVE one decides without the masters it heard. -/
def announceTimeoutStep (p : Fin 4) (c : Core) : Core :=
  let p := p.val
  if !c.pteRun then c else
  match c.portDom p with
  | none => c
  | some d =>
    let st := c.portState p
    if st = 8 || st = 9 then
      let x := c.pport p
      let c := c.setPport p { x with foreign := x.foreign.filter (fun a => some a.src ≠ x.parent), parent := none }
      let c := (c.portSet p 4).stateDecision d
      ((c.wr PTE_EVENT.master_lost 1).raiseInfo 37 d d false).each (c.domServos d) Core.announceLost
    else if st = 4 then (c.setPport p { c.pport p with foreign := [] }).portSet p 6
    else if st = 7 then (c.setPport p { c.pport p with foreign := [] }).stateDecision d
    else c

/-! ## Messages due (R273, R277) -/

/-- PORT_SYNC_DUE: a MASTER port's Sync, with the asymmetry term of R288, at the interval of its profile (R272). Profile
2 is served by unicast alone. -/
def portSyncDueStep (p : Fin 4) (c : Core) : Core :=
  let p := p.val
  if !c.pteRun || c.portState p ≠ 6 then c else
  match c.portDom p with
  | none => c
  | some d =>
    if c.profile d = 2 then c else
    let x := c.pport p
    let n := c.portLane p
    let ti := c.tIns
    (c.setPport p { x with seqSync := (x.seqSync + 1) % 65536 }).send n (c.portDest d p)
      (c.msg d 0 0 0 (c.linkAsym n) (c.portId p) x.seqSync 0 (c.logSync d p) (tsBytes ti)) true ti

/-- An announce interval of a port in PRE_MASTER has passed; the last one makes it MASTER. Log entry 51 (DEDUCED). -/
def Core.qualDown (c : Core) (p : Nat) : Core :=
  if c.portState p ≠ 5 then c else
  let x := c.pport p
  if x.qual ≤ 1 then c.portSet p 6 else c.setPport p { x with qual := x.qual - 1 }

/-- PORT_ANNOUNCE_DUE: an announce interval of a port: a MASTER port sends its Announce (R277). -/
def portAnnounceDueStep (p : Fin 4) (c : Core) : Core :=
  let p := p.val
  if !c.pteRun then c else
  match c.portDom p with
  | none => c
  | some d =>
    let c := (c.stateDecision d).qualDown p
    if c.portState p ≠ 6 || c.profile d = 2 then c else
    let x := c.pport p
    (c.setPport p { x with seqAnn := (x.seqAnn + 1) % 65536 }).send (c.portLane p) (c.portDest d p)
      (c.annMsg d (c.portId p) x.seqAnn false (c.rdS PTE_PORT_CFG.log_ann p)) false 0

/-- Where a slave port's Delay_Req goes: to its parent alone, or where the port's messages go (R272). -/
def Core.reqDest (c : Core) (d p : Nat) : Dest :=
  if c.portUni d p then ((c.parentAnn p).map Ann.dest).getD {} else c.portDest d p

/-- DELAY_REQ_DUE: a slave port's Delay_Req, or under profile 3 a Pdelay_Req on an enabled port (R273). -/
def delayReqDueStep (p : Fin 4) (c : Core) : Core :=
  let p := p.val
  if !c.pteRun then c else
  match c.portDom p with
  | none => c
  | some d =>
    let x := c.pport p
    let n := c.portLane p
    let ti := c.tIns
    let peer := c.profile d = 3
    if peer then
      if c.portState p < 4 then c else
      (c.setPport p { x with seqReq := (x.seqReq + 1) % 65536, req := some (x.seqReq, ti), reqAt := c.stepDone, presp := none }).send n (c.portDest d p)
        (c.msg d 2 0 0 0 (c.portId p) x.seqReq 5 (c.rdS PTE_PORT_CFG.log_delay p) (tsBytes ti ++ List.replicate 10 0#8)) true ti
    else if !c.portSlave p then c
    else
      let uni := c.portUni d p
      let dest := c.reqDest d p
      (c.setPport p { x with seqReq := (x.seqReq + 1) % 65536, req := some (x.seqReq, ti), reqAt := c.stepDone }).send n { dest with port := if dest.enc = 0 then 0 else 319 }
        (c.msg d 1 (if uni then 4 else 0) 0 0 (c.portId p) x.seqReq 1 0x7F (tsBytes ti)) true ti

/-! ## The servos (R278, R290 to R292) -/

/-- The values of a set in ascending order. -/
def insertAsc (x : Int) : List Int → List Int
  | [] => [x]
  | y :: r => if x ≤ y then x :: y :: r else y :: insertAsc x r

def meanI (l : List Int) : Rat := ((l.foldl (· + ·) 0 : Int) : Rat) / (l.length : Rat)

/-- PTE_SV_CFG.sel (R278): the mean, the minimum, or the mean of the lowest eighth; none of an empty set. -/
def svReduce (sel : Nat) (l : List Int) : Option Rat :=
  match l with
  | [] => none
  | a :: r =>
    if sel = 0 then some (meanI l)
    else if sel = 2 then some (meanI ((l.foldr insertAsc []).take (max 1 (l.length / 8))))
    else some ((r.foldl min a : Int) : Rat)

def Core.asymPath (c : Core) (s : Nat) : Int := toS 32 (c.rd PTE_SV_ASYM.asym s)

/-- Confirming samples: 0 acts as 1 (R290, R296). -/
def Core.confirm (c : Core) : Nat := max 1 (c.rd PTE_TRK_CFG.confirm)

/-- x of a sample with the asymmetry that o uses: o − o_ref, or F − m (R290). -/
def SvSample.x (p : SvSample) (a : Rat) : Rat :=
  match p.oref with
  | some r => p.f - p.m - a - r
  | none => p.f - p.m

/-- An exponential mean over 2^tau samples. -/
def expMean (base : Option Rat) (tau : Nat) (v : Rat) : Rat :=
  match base with
  | some b => b + (v - b) / 2 ^ tau
  | none => v

/-- A sample delivered to the PKT candidate (R278); the 16th calibrates a port (R275). Log entry 133 (DEDUCED). -/
def Core.svDeliver (c : Core) (s : Nat) (o : Rat) : Core :=
  let p := c.rd PTE_SV_CFG.port s
  let v := (c.bump PTE_SV_SAMP_CNT.count s).linkVal 2 s
  let c := if v.2 then v.1.pktSample (20 + s) c.now o else v.1
  let x := c.pport p
  let c := c.setPport p { x with nCal := min 16 (x.nCal + 1) }
  if c.portState p = 8 && 16 ≤ x.nCal + 1 then c.portSet p 9 else c

/-- The last o and m in their registers. -/
def Core.svRegs (c : Core) (s : Nat) (o m : Rat) : Core :=
  (c.wrPair PTE_SV_OFFS_LO.o PTE_SV_OFFS_HI.o (roundR16 o) s).wrPair PTE_SV_MPD_LO.m PTE_SV_MPD_HI.m (roundR16 m) s

def meanR (l : List Rat) : Rat := (l.foldl (· + ·) 0) / (l.length : Rat)

/-- The decision after the confirming sample: PATH_ID with the entry found, or FROZEN (R290). -/
def Core.svConfirm (c : Core) (s : Nat) (smp : SvSample) (la : Int) : Core :=
  let x := c.sv s
  let p := c.rd PTE_SV_CFG.port s
  let o := x.o
  let c := (c.wr PTE_EVENT.domain_asym 1).raise 36 s
  match c.pathLookup (c.portLane p) (c.pport p).vid smp.m with
  | none => (c.setSv s { x with aside := [], lSum := 0, lN := 0 }).svGoto s vsFrozen 7 o
  | some e =>
    let c := (c.wr PTE_SV_ASYM.asym (ofS 32 (c.pathAsym e)) s).wr PTE_SV_STAT.path e s
    let a : Rat := ((la + c.pathAsym e : Int) : Rat)
    let o2 := smp.f - smp.m - a
    let c := c.setSv s { x with
      aside := [], mBase := some (meanR (x.aside.map SvSample.m)), xBase := some (meanR (x.aside.map (fun q => q.x a))), off := 0, o := o2 }
    ((c.svGoto s vsRun 6 o).svRegs s o2 smp.m).svDeliver s o2

/-- A formed sample of a servo (R290). m, and an x that is a difference of two servos, are compared with the bases as
the time master's steps moved these (R293). Log entry 52 (DEDUCED). -/
def Core.svSample (c : Core) (s : Nat) (f m : Rat) : Core :=
  let la := c.linkAsym (c.portLane (c.rd PTE_SV_CFG.port s))
  let a : Rat := ((la + c.asymPath s : Int) : Rat)
  let o := f - m - a
  let xc := c.rd PTE_SV_CFG.xchk s
  let xrun := decide (xc < 4) && decide (c.svState xc = vsRun)
  let smp : SvSample := ⟨f, m, if xrun then some (c.sv xc).o else none⟩
  let xv := smp.x a
  let x := { c.sv s with o := o, m := m }
  let mv := m + x.off
  let xj := if smp.oref.isSome then xv + x.off else xv
  let c := (c.setSv s x).svRegs s o m
  let tau := c.rd PTE_TRK_CFG.trk_tau
  let thr : Rat := c.rd PTE_SV_CFG.thr s * 65536
  let off := fun (b : Option Rat) (v : Rat) => match b with | some w => decide (thr < |v - w|) | none => false
  let out := off x.mBase mv || off x.xBase xj
  let good := fun (c : Core) => (c.setSv s { c.sv s with
    aside := [], mBase := some (expMean x.mBase tau mv), xBase := some (expMean x.xBase tau xj) }).svDeliver s o
  match c.svState s with
  | 1 => good (c.svGoto s vsRun 2 o)
  | 2 =>
    if !out then good c else
    let c := (c.setSv s { x with aside := [smp] }).svGoto s vsSuspect 4 o
    if c.confirm ≤ 1 then c.svConfirm s smp la else c
  | 3 =>
    if !out then good ((c.bump PTE_SV_WITHHELD.count s 0 x.aside.length).svGoto s vsRun 5 o) else
    let c := c.setSv s { x with aside := x.aside ++ [smp] }
    if c.confirm ≤ x.aside.length + 1 then c.svConfirm s smp la else c
  | 4 =>
    if c.rdB PTE_SV_CFG.learn s && xrun then
      (if x.lN < 64 then c.setSv s { x with lSum := x.lSum + xj, lN := x.lN + 1 } else c)
    else c.setSv s { x with lSum := 0, lN := 0 }
  | _ => c

/-- SERVO_UPDATE: the end of a servo's update period (R278). -/
def servoUpdateStep (s : Fin 4) (c : Core) : Core :=
  let s := s.val
  if !c.pteRun then c else
  let c := c.svEval s
  let x := c.sv s
  let p := c.rd PTE_SV_CFG.port s
  let c := c.setSv s { x with df := [], db := [] }
  if c.svState s = vsOff || !c.portSlave p then c else
  let sel := c.rd PTE_SV_CFG.sel s
  let peer := c.profile (c.rd PTE_SV_CFG.domain s) = 3
  let f := svReduce sel x.df
  let m := match f with
    | some f => if peer then (c.pport p).mld else (svReduce sel x.db).map (fun b => (f + b) / 2)
    | none => none
  match f, m with
  | some f, some m => c.svSample s f m
  | _, _ => (c.candMiss (20 + s) c.now).setSv s { c.sv s with lSum := x.lSum }

/-- LEARNED: 64 update periods of learning are complete; the asymmetry and a path entry are written (R292). -/
def learnedStep (s : Fin 4) (c : Core) : Core :=
  let s := s.val
  let x := c.sv s
  if !c.pteRun || c.svState s ≠ vsFrozen || x.lN < 64 then c else
  match (List.range 64).find? (fun e => !c.rdB PTE_PATH_KEY.valid e) with
  | none => c.wr PTE_EVENT.table_full 1
  | some e =>
    let p := c.rd PTE_SV_CFG.port s
    let na := c.asymPath s + roundR16 (x.lSum / 64 - x.xBase.getD 0)
    let ns := x.m / 65536
    let c := c.wrS PTE_SV_ASYM.asym na s
    let c := ((c.wr PTE_PATH_KEY.valid 1 e).wr PTE_PATH_KEY.learned 1 e).wr PTE_PATH_KEY.lane (c.portLane p) e
    let c := (c.wr PTE_PATH_KEY.vid (c.pport p).vid e).wr PTE_PATH_KEY.any_vid 0 e
    let c := c.wrU PTE_PATH_DMIN.d (7 * ns / 8).floor e
    let c := c.wrU PTE_PATH_DMAX.d (9 * ns / 8).ceil e
    let c := (c.wrS PTE_PATH_ASYM.asym na e).wr PTE_SV_STAT.path e s
    (c.setSv s { x with mBase := none, xBase := none, off := 0, lSum := 0, lN := 0 }).svGoto s vsRun 9 x.o

/-- SV_ASYM_ACK: the staged asymmetry applies, the bases are reset, a FROZEN servo runs again (R290, R293, R296). A servo in
SUSPECT keeps what it withheld, for the next sample is judged against the new bases. Log entry 52 (DEDUCED). -/
def svAsymAckStep (s : Fin 4) (c : Core) : Core :=
  let s := s.val
  c.atReg exHost (PTE_SV_CTRL.asym_ack.addr s 0) fun c =>
  if !c.pclk then c else
  let x := c.sv s
  let c := match x.staged with | some a => c.wr PTE_SV_ASYM.asym (ofS 32 a) s | none => c
  let c := c.setSv s { x with
    staged := none, mBase := none, xBase := none, off := 0, lSum := 0, lN := 0,
    aside := if c.svState s = vsSuspect then x.aside else [] }
  if c.svState s = vsFrozen then c.svGoto s vsRun 8 x.o else c

/-! ## The engine's start (R417) and register writes (R296) -/

/-- The engine starts with en = 1 while Coping, PCLK and the Vault are ready, and stops with en = 0; every slot is FREE
at its start (R417). -/
def Core.pteEval (c : Core) : Core :=
  let c := c.cfgBad
  let run := c.rdB PTE_STAT.run
  let en := c.rdB PTE_CFG.en && c.part.pte && !c.inRst.contains (7, 0)
  let ready := c.estRun && c.pclk && c.rd VLT_STAT.state = 3
  let c :=
    if en && !run && ready then
      (((({ c with pte := { svs := c.pte.svs.mapVals {} (fun _ (x : SvU) => { staged := x.staged }) } }).wr PTE_STAT.run 1).wr PTE_STAT.used 0).wr PTE_LOAD.load 0).slotStat
    else if !en && run then c.wr PTE_STAT.run 0
    else c
  c.portsEval

/-- PTE_START (R417). Log entry 53 (DEDUCED). -/
def pteStartStep (c : Core) : Core := c.pteEval

def Core.pteReject (c : Core) (off : Nat) : Core :=
  c.reject PTE_CFG_REJECT.valid PTE_CFG_REJECT.count PTE_CFG_REJECT.word (off / 4)

/-- A write of a PTE register row at `off` with its enable (R296). -/
def Core.pteRowWrite (c : Core) (off : Nat) (r : RegRow) (en : Bool) (be data i : Nat) : Core × Bool :=
  let w := c.writeRow r en be data i
  let c := if w.2 then w.1.pteReject off else w.1
  let c := c.pteEval.xchkRefresh
  (c.each [0, 1] Core.stateDecision, w.2)

/-- A write of PTE_SV_ASYM stages a value (R296). -/
def Core.svAsymWrite (c : Core) (s be data : Nat) : Core :=
  let x := c.sv s
  let old := match x.staged with | some a => ofS 32 a | none => c.rd PTE_SV_ASYM.asym s
  c.setSv s { x with staged := some (toS 32 (mergeField PTE_SV_ASYM.asym old be data)) }

/-- A write of PTE_PATH_KEY clears learned (R296). -/
def Core.pathKeyWrite (c : Core) (e be data : Nat) : Core :=
  ((c.writeRow PTE_PATH_KEY.row false be data e).1).wr PTE_PATH_KEY.learned 0 e

/-! ## The meanings of the commands -/

/-- SYNC_RX (R273). -/
def execSyncRx (n : Fin 4) (t : Nat) (l : List Byte) (s : State) : Out := onRunCore (syncRxStep n t l) s

/-- FOLLOW_UP_RX (R273). -/
def execFollowUpRx (n : Fin 4) (t : Nat) (l : List Byte) (s : State) : Out := onRunCore (followUpRxStep n t l) s

/-- DELAY_RESP_RX (R273). -/
def execDelayRespRx (n : Fin 4) (l : List Byte) (s : State) : Out := onRunCore (delayRespRxStep n l) s

/-- PDELAY_REQ_RX (R273). -/
def execPdelayReqRx (n : Fin 4) (t : Nat) (l : List Byte) (s : State) : Out := onRunCore (pdelayReqRxStep n t l) s

/-- PDELAY_RESP_RX (R273). -/
def execPdelayRespRx (n : Fin 4) (t : Nat) (l : List Byte) (s : State) : Out := onRunCore (pdelayRespRxStep n t l) s

/-- ANNOUNCE_RX (R275). -/
def execAnnounceRx (n : Fin 4) (l : List Byte) (s : State) : Out := onRunCore (announceRxStep n l) s

/-- ANNOUNCE_TIMEOUT (R276). -/
def execAnnounceTimeout (p : Fin 4) (s : State) : Out := onRunCore (announceTimeoutStep p) s

/-- SERVO_UPDATE (R278). -/
def execServoUpdate (sv : Fin 4) (s : State) : Out := onRunCore (servoUpdateStep sv) s

/-- LEARNED (R292). -/
def execLearned (sv : Fin 4) (s : State) : Out := onRunCore (learnedStep sv) s

/-- SV_ASYM_ACK (R290). -/
def execSvAsymAck (sv : Fin 4) (s : State) : Out := onRunCore (svAsymAckStep sv) s

/-- PORT_SYNC_DUE (R273). -/
def execPortSyncDue (p : Fin 4) (s : State) : Out := onRunCore (portSyncDueStep p) s

/-- PORT_ANNOUNCE_DUE (R277). -/
def execPortAnnounceDue (p : Fin 4) (s : State) : Out := onRunCore (portAnnounceDueStep p) s

/-- DELAY_REQ_DUE (R273). -/
def execDelayReqDue (p : Fin 4) (s : State) : Out := onRunCore (delayReqDueStep p) s

/-- PTE_START (R417). -/
def execPteStart (s : State) : Out := onRunCore pteStartStep s

/-- PDELAY_RESP_FOLLOW_UP_RX (R273). -/
def execPdelayRespFollowUpRx (n : Fin 4) (l : List Byte) (s : State) : Out := onRunCore (pdelayRespFollowUpRxStep n l) s

end Sys2Proof.Machine
end

