-- ==== Sys2Proof/Machine/Client.lean ====
section
/-! DEFINITION. Client service of the PTP engine (R280 to R289, R293, R294): the client table, unicast negotiation, Delay_Req service
and path tracking. -/

namespace Sys2Proof.Machine

/-- A slot replaced, freed with `none`; PTE_STAT.used, PTE_LOAD and the selected slot's status follow (R296). A new client's
entry is written whole, which clears the poison of its bursts (R321). Log entry 119 (DEDUCED). -/
def Core.setSlot (c : Core) (k : Nat) (x : Option Slot) : Core :=
  let a := (c.region 1).1 + 512 * k
  let fresh := (c.pte.slots.get none k).isNone && x.isSome
  let c := { c with memU := { c.memU with poison := c.memU.poison.filter (fun b => !fresh || b < a || a + 512 ≤ b) } }
  let c := { c with pte := { c.pte with slots := c.pte.slots.set none k x } }
  (c.wr PTE_STAT.used c.pte.slots.length).vaultWrote ((List.range 8).map (fun j => a + 64 * j))

/-- A CLIENT_EVENT record (R295): cause, the message type of the request (3: none), no_slot. -/
def Core.clientEvent (c : Core) (k : Nat) (x : Slot) (active : Bool) (cause ty : Nat) (noSlot : Bool) : Core :=
  c.emit 0x40 0 0x210000
    [packWord [(109, 96, if noSlot then 0 else k), (95, 95, b2n active), (94, 91, cause), (90, 90, x.dom), (89, 88, x.lane),
      (87, 82, x.path), (81, 80, ty), (79, 79, b2n noSlot), (63, 0, ofS 64 (roundR16 (x.base.getD 0)))], stamp96 c.now]

/-! ## Grants (R281, R282, R285) -/

/-- Event messages per second of a Sync or Delay_Resp grant (R282). -/
def rateOf (g : Option (Int × Nat)) : Rat :=
  match g with
  | some x => (2 : Rat) ^ (-x.1)
  | none => 0

/-- The grant of message type 0 Sync, 1 Announce, 2 Delay_Resp. -/
def Slot.grant (x : Slot) (ty : Nat) : Option (Int × Nat) := if ty = 0 then x.gSync else if ty = 1 then x.gAnn else x.gResp

def Slot.setGrant (x : Slot) (ty : Nat) (g : Option (Int × Nat)) : Slot :=
  if ty = 0 then { x with gSync := g } else if ty = 1 then { x with gAnn := g } else { x with gResp := g }

/-- PTE_LOAD at a value (R282). -/
def Core.setLoad (c : Core) (v : Rat) : Core :=
  { c.wr PTE_LOAD.load (roundR16 v).toNat with pte := { c.pte with load := v } }

/-- The event budget of R280. -/
def Part.budget (p : Part) : Nat := p.nSlot * 128

/-- The slot becomes FREE with a cause (R285). -/
def Core.slotFree (c : Core) (k cause : Nat) (x : Slot) : Core :=
  let c := c.setLoad (c.pte.load - rateOf x.gSync - rateOf x.gResp)
  ((c.setSlot k none).clientEvent k x false cause 3 false).slotStat

/-- One grant of a slot ends with a cause; the slot is FREE when all have ended (R282, R285). -/
def Core.grantEnd (c : Core) (k ty cause : Nat) : Core :=
  match c.slot k with
  | none => c
  | some x =>
    if (x.grant ty).isNone then c else
    let y := x.setGrant ty none
    if y.gSync.isNone && y.gResp.isNone && y.gAnn.isNone then c.slotFree k cause x
    else (c.setLoad (c.pte.load - (if ty = 1 then 0 else rateOf (x.grant ty)))).setSlot k (some y)

/-- The client of a message on a domain: its identity and its transport address, the IP address or on L2 the MAC address
(R280). Log entry 53 (DEDUCED). -/
def Core.findSlot (c : Core) (d : Nat) (m : Msg) : Option (Nat × Slot) :=
  (c.pte.slots.findSome? fun e => match e.2 with
    | some x =>
      let addr := x.dest.enc = m.dest.enc && (if x.dest.enc = 0 then x.dest.mac = m.dest.mac else x.dest.ip = m.dest.ip)
      if x.dom = d && x.ident = m.src && addr then some (e.1, x) else none
    | none => none)

/-- The lowest-numbered FREE slot. Log entry 53 (DEDUCED). -/
def Core.freeSlot (c : Core) : Option Nat :=
  (c.pte.slots.foldl (fun (k : Nat) e => if e.1 = k then k + 1 else k) 0 |> fun k => if k < c.part.nSlot then some k else none)

/-- The TLVs of a Signaling message: type and value; `n` bounds their number. -/
def tlvs : Nat → List Byte → List (Nat × List Byte)
  | 0, _ => []
  | n + 1, l =>
    if l.length < 4 then []
    else
      let len := fbe l 2 2
      (fbe l 0 2, (l.drop 4).take len) :: tlvs n (l.drop (4 + len))

def Msg.tlvs (m : Msg) : List (Nat × List Byte) := Machine.tlvs 64 (m.b.drop 44)

/-- The unicast message type of a TLV: 0 Sync, 1 Announce, 2 Delay_Resp. -/
def uniType (v : List Byte) : Option Nat :=
  match fb v 0 / 16 with | 0 => some 0 | 0xB => some 1 | 9 => some 2 | _ => none

/-- A Signaling message to a client, with the TLVs given. -/
def Core.signal (c : Core) (n d : Nat) (dest : Dest) (tgt seq : Nat) (tl : List Byte) : Core :=
  c.send n { dest with port := if dest.enc = 0 then 0 else 320 }
    (c.msg d 0xC 4 0 0 (c.portId ((c.portOf n).getD 0)) seq 5 0x7F (bytesBE 10 tgt ++ tl)) false 0

/-- One request judged in the order of R282; the answer's TLV is the grant, of duration 0 for a denial (R281). -/
def Core.request (c : Core) (n d : Nat) (m : Msg) (ty : Nat) (log : Int) (dur : Nat) (code : Nat) : Core × List Byte :=
  let found := c.findSlot d m
  let tlv := fun (dur : Nat) => bytesBE 2 5 ++ bytesBE 2 8 ++ bytesLE 1 (code * 16) ++ bytesLE 1 (ofS 8 log) ++ bytesBE 4 dur ++
    [0#8] ++ [1#8]
  let low : Int := if ty = 1 then -3 else toS 4 (c.rd PTE_CFG.max_log)
  let k := match found with | some e => some e.1 | none => c.freeSlot
  let old := match found with | some e => rateOf (e.2.grant ty) | none => 0
  let load := if ty = 1 then c.pte.load else c.pte.load - old + (2 : Rat) ^ (-log)
  let deny := fun (cause : Nat) =>
    let x : Slot := match found with | some e => e.2 | none => { dom := d, lane := n }
    let c := c.clientEvent ((found.map Prod.fst).getD 0) x found.isSome cause ty found.isNone
    ((((c.bump PTE_REFUSE_CNT.count).wr PTE_EVENT.refused 1).raiseInfo 38 0
      ((found.map Prod.fst).getD 0xFFFFFFFF) false), tlv 0)
  if log < low then deny 1 else
  match k with
  | none => deny 2
  | some k =>
    if ty ≠ 1 && decide ((c.part.budget : Rat) < load) then deny 3 else
    let lo := c.rd PTE_SRV_CFG.grant_min
    let hi := c.rd PTE_SRV_CFG.grant_max
    let dur := max lo (min hi dur)
    let x : Slot := match found with | some e => e.2 | none => { dom := d, lane := n, ident := m.src }
    let x := ({ x with dest := m.dest, lane := n }).setGrant ty (some (log, c.now + dur * secPU))
    let c := (c.setLoad load).setSlot k (some x)
    let c := if found.isNone then c.clientEvent k x true 0 ty false else c
    (c.slotStat, tlv dur)

/-- Negotiation runs on domains of profile 0 or 2 (R281). -/
def Core.uniDom (c : Core) (d : Nat) : Bool := c.profile d = 0 || c.profile d = 2

/-- REQUEST_UNICAST_TRANSMISSION: the requests of a Signaling message, answered in one (R281, R282). -/
def requestUnicastTransmissionStep (n : Fin 4) (l : List Byte) (c : Core) : Core :=
  let n := n.val
  c.rxWith n l 0 fun c m d _ =>
    if m.type ≠ 0xC || !c.uniDom d then c.bump PTE_DISCARD_CNT.count else
    let r := m.tlvs.foldl (fun (a : Core × List Byte) tv =>
      if tv.1 ≠ 4 then a else
      match uniType tv.2 with
      | none => a
      | some ty =>
        let b := a.1.request n d m ty (toS 8 (fb tv.2 1)) (fbe tv.2 2 4) (fb tv.2 0 / 16)
        (b.1, a.2 ++ b.2)) (c, [])
    if r.2.isEmpty then r.1 else
    let f := r.1.findSlot d m
    let seq := (f.map (fun e => e.2.seqSig)).getD 0
    let c := r.1.signal n d m.dest m.src seq r.2
    match f with
    | some e => c.setSlot e.1 (some { e.2 with seqSig := (seq + 1) % 65536 })
    | none => c

/-- CANCEL_UNICAST_TRANSMISSION: each cancel is acknowledged and its message type stops (R281). -/
def cancelUnicastTransmissionStep (n : Fin 4) (l : List Byte) (c : Core) : Core :=
  let n := n.val
  c.rxWith n l 0 fun c m d _ =>
    if m.type ≠ 0xC || !c.uniDom d then c.bump PTE_DISCARD_CNT.count else
    let f := c.findSlot d m
    let seq := (f.map (fun e => e.2.seqSig)).getD 0
    let r := m.tlvs.foldl (fun (a : Core × List Byte) tv =>
      if tv.1 ≠ 6 then a else
      match uniType tv.2 with
      | none => a
      | some ty =>
        (match f with | some e => a.1.grantEnd e.1 ty 5 | none => a.1,
         a.2 ++ bytesBE 2 7 ++ bytesBE 2 2 ++ bytesLE 1 (fb tv.2 0 / 16 * 16) ++ [0#8])) (c, [])
    if r.2.isEmpty then r.1 else
    let c := r.1.signal n d m.dest m.src seq r.2
    match f with
    | some e => match c.slot e.1 with
      | some x => c.setSlot e.1 (some { x with seqSig := (seq + 1) % 65536 })
      | none => c
    | none => c

/-- A grant whose end has come ends; one renewed in the meantime goes on (R285, R293). Log entry 53 (DEDUCED). -/
def Core.grantCheck (c : Core) (k ty : Nat) : Core :=
  match (c.slot k).bind (fun x => x.grant ty) with
  | some g => if g.2 ≤ c.now then c.grantEnd k ty 4 else c
  | none => c

/-- GRANT_EXPIRE: a grant of a slot has run out (R285). -/
def grantExpireStep (k : Fin 16384) (ty : Fin 3) (c : Core) : Core :=
  if c.pteRun then c.grantCheck k.val ty.val else c

/-- Grants recounted against device time when PCLK restarts (R294). -/
def Core.pteResume (c : Core) : Core :=
  if !c.rdB PTE_STAT.run then c else
  c.each (c.pte.slots.map Prod.fst) fun c k => c.each [0, 1, 2] fun c ty => c.grantCheck k ty

/-! ## Messages to clients (R283, R288) -/

/-- a_slot: a slot has an entry once a lookup has named one (R288, R289). -/
def Core.aSlot (c : Core) (x : Slot) : Int := c.linkAsym x.lane + (if x.pathKnown then c.pathAsym x.path else 0)

/-- The port number that serves a lane. -/
def Core.servePort (c : Core) (n : Nat) : Nat := c.portId ((c.portOf n).getD 0)

/-- CLIENT_SYNC_DUE: the scheduled Sync of a slot (R283, R288). -/
def clientSyncDueStep (k : Fin 16384) (c : Core) : Core :=
  match c.slot k.val with
  | none => c
  | some x =>
    if !c.pteRun || x.gSync.isNone || !c.domOn x.dom then c else
    let ti := c.tIns
    (c.setSlot k.val (some { x with seqSync := (x.seqSync + 1) % 65536, nSync := (x.nSync + 1) % 2 ^ 32 })).send x.lane
      { x.dest with port := if x.dest.enc = 0 then 0 else 319 }
      (c.msg x.dom 0 4 0 (c.aSlot x) (c.servePort x.lane) x.seqSync 0 0x7F (tsBytes ti)) true ti

/-- CLIENT_ANNOUNCE_DUE (R283). -/
def clientAnnounceDueStep (k : Fin 16384) (c : Core) : Core :=
  match c.slot k.val with
  | none => c
  | some x =>
    if !c.pteRun || x.gAnn.isNone || !c.domOn x.dom then c else
    (c.setSlot k.val (some { x with seqAnn := (x.seqAnn + 1) % 65536 })).send x.lane
      { x.dest with port := if x.dest.enc = 0 then 0 else 320 }
      (c.annMsg x.dom (c.servePort x.lane) x.seqAnn true ((x.gAnn.map Prod.fst).getD 0)) false 0

/-! ## Delay_Req service and tracking (R284, R287) -/

/-- A history entry (R286). -/
def Slot.history (x : Slot) (now : Nat) (db : Int) : Slot :=
  { x with
    hist := x.hist.set (0, 0, 0) x.histI (now / secPU % 2 ^ 32, now % secPU / 65536, db), histI := (x.histI + 1) % 16 }

/-- A sample enters the baseline; every 2^tau accepted samples write a history entry (R286, R287). -/
def Slot.accept (x : Slot) (tau now : Nat) (db : Int) : Slot :=
  let x := { x with base := some (expMean x.base tau (db : Rat)), nAcc := x.nAcc + 1 }
  if x.nAcc % 2 ^ tau = 0 then x.history now db else x

/-- A d_b sample of a client (R287). Log entries 53 (DEDUCED), 54 (DEDUCED). -/
def Core.track (c : Core) (k n : Nat) (m : Msg) (t4 : Nat) (x : Slot) : Core :=
  if m.time = 0 then c.setSlot k (some { x with noT3 := true })
  else
    let db : Int := (t4 : Int) - m.time - m.corr - c.stepAfter c.pte.rxAt
    let tau := c.rd PTE_TRK_CFG.trk_tau
    let thr : Rat := c.rd PTE_TRK_CFG.step_thr * 65536
    let x := { x with noT3 := false, lastDb := db }
    let far := match x.base with | some b => decide (thr < |(db : Rat) - b|) | none => false
    if !far then
      let x := x.aside.foldl (fun (x : Slot) v => x.accept tau c.now v) x
      c.setSlot k (some (({ x with aside := [] }).accept tau c.now db))
    else if x.aside.length + 1 < c.confirm then c.setSlot k (some { x with aside := x.aside ++ [db] })
    else
      let base := meanI (x.aside ++ [db])
      let p := c.pathLookup n m.vid base
      let x := ({ x with
        aside := [], base := some base, steps := (x.steps + 1) % 2 ^ 32, asym := p.isNone, pathKnown := x.pathKnown || p.isSome,
        path := p.getD x.path }).history c.now db
      let c := (c.setSlot k (some x)).clientEvent k x true (if p.isSome then 8 else 7) 3 false
      ((c.wr PTE_EVENT.client_asym 1).raiseInfo 39 0 k false).slotStat

/-- A Delay_Resp (R288). -/
def Core.delayResp (c : Core) (n d : Nat) (m : Msg) (dest : Dest) (t4 : Nat) (a log : Int) (uni : Bool) : Core :=
  c.send n { dest with port := if dest.enc = 0 then 0 else 320 }
    (c.msg d 9 (if uni then 4 else 0) 0 (m.corr - (t4 % 65536 : Nat) - a) (c.servePort n) m.seq 3 log (tsBytes t4 ++ bytesBE 10 m.src))
    false 0

/-- DELAY_REQ_RX: answered for a client with a Delay_Resp grant within twice its rate, and tracked; answered by a MASTER
port where it was sent to its multicast address; discarded and counted otherwise (R273, R284, R287). -/
def delayReqRxStep (n : Fin 4) (t : Nat) (l : List Byte) (c : Core) : Core :=
  let n := n.val
  c.rxWith n l t fun c m d t =>
    if m.type ≠ 1 || c.profile d = 3 then c.bump PTE_DISCARD_CNT.count else
    match c.findSlot d m with
    | some (k, x) =>
      let recent := x.reqT.filter (fun u => t < u + secPU)
      let ok := match x.gResp with
        | some g => decide (((recent.length + 1 : Nat) : Rat) ≤ 2 * (2 : Rat) ^ (-g.1)) || recent.isEmpty
        | none => false
      let x := { x with reqT := t :: recent }
      if !ok then (c.setSlot k (some { x with nDisc := (x.nDisc + 1) % 2 ^ 32 })).bump PTE_DISCARD_CNT.count
      else
        let x := { x with nResp := (x.nResp + 1) % 2 ^ 32 }
        let c := (c.setSlot k (some x)).delayResp n d m x.dest t (c.aSlot x) 0x7F true
        if c.rdB PTE_TRK_CFG.trk_en then c.track k n m t x else c
    | none => match c.portOf n with
      | some p =>
        if m.mc && c.portState p = 6 then
          c.delayResp n d m (if c.profile d = 0 then mcAddr m.dest.enc else c.portDest d p) t (c.linkAsym n) (c.rdS PTE_PORT_CFG.log_delay p) false
        else c.bump PTE_DISCARD_CNT.count
      | none => c.bump PTE_DISCARD_CNT.count

/-! ## Host operations on a slot (R285, R287, R296) -/

/-- EVICT: the slot is FREE, and the client receives a cancel for each of its grants. -/
def Core.evict (c : Core) (k : Nat) : Core :=
  match c.slot k with
  | none => c
  | some x =>
    let tl := ([(0, 0), (1, 0xB), (2, 9)].filter (fun e => (x.grant e.1).isSome)).flatMap
      (fun e => bytesBE 2 6 ++ bytesBE 2 2 ++ bytesLE 1 (e.2 * 16) ++ [0#8])
    (c.signal x.lane x.dom x.dest x.ident x.seqSig tl).slotFree k 6 x

/-- ASYM_ACK: asym clears, a_slot is kept (R287). -/
def Core.slotAsymAck (c : Core) (k : Nat) : Core :=
  match c.slot k with
  | none => c
  | some x =>
    if !x.asym then c else
    let y := { x with asym := false }
    ((c.setSlot k (some y)).clientEvent k y true 9 3 false).slotStat

/-- A PTE_SLOT_CTRL write: the slot selected, and with go the operation; a slot beyond the variant's count is refused
and nothing is performed (R296, R363). Log entry 140 (DEDUCED). -/
def Core.slotCtrlWrite (c : Core) (be data : Nat) : Core × Bool :=
  let k := mergeField PTE_SLOT_CTRL.slot (c.rd PTE_SLOT_CTRL.slot) be data
  let op := mergeField PTE_SLOT_CTRL.op (c.rd PTE_SLOT_CTRL.op) be data
  if c.part.nSlot ≤ k then ((c.wr PTE_SLOT_CTRL.op op).pteReject 0x60, true) else
  let c := ((c.wr PTE_SLOT_CTRL.slot k).wr PTE_SLOT_CTRL.op op).slotStat
  if !pulsed PTE_SLOT_CTRL.go be data || !c.pteRun then (c, false)
  else (if op = 1 then c.evict k else if op = 2 then c.slotAsymAck k else c, false)

/-- EVICT: the host names a slot and pulses go. -/
def evictStep (k : BitVec 14) (c : Core) : Core :=
  if !c.part.pte then c else (c.slotCtrlWrite 15 (2 ^ 31 + 2 ^ 16 + k.toNat)).1

/-- ASYM_ACK. -/
def asymAckStep (k : BitVec 14) (c : Core) : Core :=
  c.atReg exHost (PTE_SLOT_CTRL.go.addr 0 0) fun c => (c.slotCtrlWrite 15 (2 ^ 31 + 2 * 2 ^ 16 + k.toNat)).1

/-! ## The client table as the Vault holds it (R286) -/

/-- Seconds remaining of a grant. -/
def leftS (now : Nat) (g : Option (Int × Nat)) : Nat :=
  match g with | some x => min (2 ^ 32 - 1) ((x.2 - now + secPU - 1) / secPU) | none => 0

/-- The 512 bytes of a slot. Log entry 53 (DEDUCED). -/
def Core.slotBytes (c : Core) (k : Nat) : List Byte :=
  match c.slot k with
  | none => List.replicate 512 0#8
  | some x =>
    let lg := fun (g : Option (Int × Nat)) => match g with | some y => ofS 8 y.1 | none => 0x7F
    let fl := b2n x.asym + 2 * b2n x.pathKnown + 4 * b2n (x.dest.enc = 2) + 8 * b2n (x.dest.enc = 0) + 16 * b2n x.noT3
    let ip := if x.dest.enc = 1 then bytesBE 4 x.dest.ip ++ List.replicate 12 0#8 else bytesBE 16 x.dest.ip
    bytesLE 1 1 ++ bytesLE 1 fl ++ bytesLE 1 x.dom ++ bytesLE 1 (x.lane + 4 * x.path) ++ bytesBE 2 x.dest.outer ++ bytesBE 2 x.dest.inner ++
      bytesBE 6 x.dest.mac ++ bytesBE 2 x.dest.port ++ ip ++ bytesBE 10 x.ident ++ List.replicate 6 0#8 ++
      bytesLE 1 (lg x.gSync) ++ bytesLE 1 (lg x.gResp) ++ bytesLE 1 (lg x.gAnn) ++ [0#8] ++
      bytesLE 4 (leftS c.now x.gSync) ++ bytesLE 4 (leftS c.now x.gResp) ++ bytesLE 4 (leftS c.now x.gAnn) ++
      bytesLE 2 x.seqSync ++ bytesLE 2 x.seqAnn ++ List.replicate 4 0#8 ++
      bytesLE 8 (ofS 64 (c.aSlot x)) ++ bytesLE 8 (ofS 64 (roundR16 (x.base.getD 0))) ++ bytesLE 8 (ofS 64 x.lastDb) ++
      bytesLE 4 x.steps ++ bytesLE 4 x.nSync ++ bytesLE 4 x.nResp ++ bytesLE 4 x.nDisc ++
      bytesLE 1 x.histI ++ List.replicate 15 0#8 ++
      ((List.range 16).flatMap fun j =>
        let h := x.hist.get (0, 0, 0) j
        bytesLE 4 h.1 ++ bytesLE 4 h.2.1 ++ bytesLE 8 (ofS 64 h.2.2)) ++ List.replicate 128 0#8

/-! ## The meanings of the commands -/

/-- DELAY_REQ_RX (R284). -/
def execDelayReqRx (n : Fin 4) (t : Nat) (l : List Byte) (s : State) : Out := onRunCore (delayReqRxStep n t l) s

/-- REQUEST_UNICAST_TRANSMISSION (R282). -/
def execRequestUnicastTransmission (n : Fin 4) (l : List Byte) (s : State) : Out :=
  onRunCore (requestUnicastTransmissionStep n l) s

/-- CANCEL_UNICAST_TRANSMISSION (R281). -/
def execCancelUnicastTransmission (n : Fin 4) (l : List Byte) (s : State) : Out := onRunCore (cancelUnicastTransmissionStep n l) s

/-- EVICT (R285). -/
def execEvict (k : BitVec 14) (s : State) : Out := onRunCore (evictStep k) s

/-- ASYM_ACK (R287). -/
def execAsymAck (k : BitVec 14) (s : State) : Out := onRunCore (asymAckStep k) s

/-- GRANT_EXPIRE (R285). -/
def execGrantExpire (k : Fin 16384) (ty : Fin 3) (s : State) : Out := onRunCore (grantExpireStep k ty) s

/-- CLIENT_SYNC_DUE (R283). -/
def execClientSyncDue (k : Fin 16384) (s : State) : Out := onRunCore (clientSyncDueStep k) s

/-- CLIENT_ANNOUNCE_DUE (R283). -/
def execClientAnnounceDue (k : Fin 16384) (s : State) : Out := onRunCore (clientAnnounceDueStep k) s

end Sys2Proof.Machine
end

