-- ==== Sys2Proof/Machine/Queue.lean ====
section
/-! DEFINITION. The credit links (R42 to R47) and the queues: words at the tail, capacity, reading, mark, release, flush,
stale items and placement epochs (R297 to R310). -/

namespace Sys2Proof.Machine

/-! ## The queues -/

def Core.queue (c : Core) (q : Nat) : QueueU := c.queues.get {} q
def Core.setQueue (c : Core) (q : Nat) (x : QueueU) : Core := { c with queues := c.queues.set {} q x }

def QItem.complete (it : QItem) : Bool := it.words.length = it.len
/-- The number of the word after the item's last. -/
def QItem.stop (it : QItem) : Nat := it.pos + it.len

/-! ## The middle (R301, R303) -/

def vltReady : Nat := 3
def vltRefresh : Nat := 4

/-- The memory of the middles is available: the Vault READY or in self-refresh; on the OT-1624-C, Tile memory once the
Course march has passed (R303). Log entry 60 (DEDUCED). -/
def Core.middleOn (c : Core) : Bool :=
  if c.part.vaultMB = 0 then 3 < c.rd STG_STAT.step || c.rd STG_STAT.stage = 3
  else c.rd VLT_STAT.state = vltReady || c.rd VLT_STAT.state = vltRefresh

/-- The item lies in a middle that is not available. Log entry 57 (DEDUCED). -/
def Core.itemHeld (c : Core) (it : QItem) : Bool := it.mid && !c.middleOn

/-- Items that can be read now: their notice is given, and no held item lies before them (R303, R304).
Log entry 57 (DEDUCED). -/
def Core.readable (c : Core) (x : QueueU) (it : QItem) : Bool :=
  it.readable && !(x.items.any (fun h => c.itemHeld h && h.pos ≤ it.pos && x.rp < h.stop))

/-- The words that count against the capacity (R301, R303). -/
def Core.queueUsed (c : Core) (x : QueueU) : Nat :=
  (x.items.filter (fun it => !c.itemHeld it)).foldl (fun a it => a + it.words.length) 0

def Core.queueCap (c : Core) (q : Nat) : Nat := if c.middleOn then 16 + 256 * c.rd QMG_Q_CFG.granules q else 16

/-- The registers that follow from a queue: unread, the fill, the mark, dropping and the notice bit (R305, R307).
Log entry 57 (DEDUCED). -/
def Core.queueRegs (c : Core) (q : Nat) : Core :=
  let x := c.queue q
  let unread := (x.items.filter (fun it => c.readable x it && x.rp < it.stop)).length
  let c := c.wr QMG_Q_STAT.unread unread q
  let c := c.wr QMG_Q_FILL.words (x.items.foldl (fun a it => a + it.words.length) 0) q
  let c := c.wrB QMG_Q_STAT.mark_valid x.mark.isSome q
  let c := c.wrB QMG_Q_STAT.dropping x.torn.isSome q
  c.wrBit QMG_NOTICE.pend (q % 32) (c.rdB QMG_Q_CFG.notice_en q && unread ≠ 0) 0 (q / 32)

/-- A queue changed by `f`, with its registers. -/
def Core.queueUpd (c : Core) (q : Nat) (f : QueueU → QueueU) : Core := (c.setQueue q (f (c.queue q))).queueRegs q

/-- Every queue's registers again: the memory of the middles came or went. -/
def Core.queuesRefresh (c : Core) : Core := c.each (List.range 128) Core.queueRegs

/-- The number of the oldest word of a queue. -/
def QueueU.start (x : QueueU) : Nat := (x.items.head?.map QItem.pos).getD x.nextPos

/-- The words of a queue's middle. -/
def Core.middleLen (c : Core) (q : Nat) : Nat := 256 * c.rd QMG_Q_CFG.granules q

/-- Word number `p` lies in the queue's middle: behind the 8 words of the head, before those of the tail (R301, R302).
Log entry 117 (DEDUCED). -/
def Core.inMiddle (c : Core) (q p : Nat) : Bool :=
  let s := (c.queue q).start + 8
  s ≤ p && p < s + c.middleLen q

/-- The byte address of word number `p` in the ring of a queue's middle. On the OT-1624-C its granules run on through the
QMID banks, whichever banks these are (R384). Log entry 117 (DEDUCED). -/
def Core.middlePlace (c : Core) (q p : Nat) : Nat :=
  let b := c.rd QMG_Q_BASE.base q
  let w := p % c.middleLen q
  if c.part.vaultMB ≠ 0 then b + w * 16 else
  let banks := (List.range 16).filter (fun k => c.memMap.tileUse.getD k 0 = 5)
  let g := banks.idxOf (b / 131072) * 32 + b % 131072 / 4096 + w / 256
  banks.getD (g / 32) 0 * 131072 + g % 32 * 4096 + w % 256 * 16

/-- The spill engine writes the words that reached the middle into its memory: those behind the 8 words of the head, as
far as the middle has room, each at its number's place in the ring of the middle. Each burst that takes a word is
written whole; its other places keep the words that the middle still holds there, and those that nothing has entered are
free values (R301, R302). Log entry 117 (DEDUCED). -/
def Core.spill (c : Core) (q : Nat) : Core :=
  let x := c.queue q
  let n := c.middleLen q
  if n = 0 || !c.middleOn then c else
  let live := x.items.flatMap (fun (it : QItem) => (List.range it.words.length).filterMap (fun j =>
    if c.inMiddle q (it.pos + j) then some (it.pos + j, it.words.getD j 0) else none))
  let out := live.filter (fun e => decide (x.spilled ≤ e.1))
  if out.isEmpty then c else
  let known := x.openB ++ live
  let bursts := (out.map (fun e => e.1 / 4)).eraseDups
  let word := fun (b j : Nat) =>
    match known.find? (fun e => e.1 = 4 * b + j || e.1 + n = 4 * b + j) with
    | some e => e.2
    | none => Config.freeNat (c.free + j) % 2 ^ 128
  let bytes := bursts.flatMap (fun b => (List.range 64).map (fun k =>
    (c.middlePlace q (4 * b) + k, (bytesLE 16 (word b (k / 16))).getD (k % 16) 0#8)))
  let last := out.foldl (fun a e => max a e.1) 0
  let c : Core := Core.setQueue { c with free := c.free + 4 } q { x with
    spilled := max x.spilled (last + 1), openB := (x.openB ++ out).filter (fun e => e.1 / 4 = last / 4 && last % 4 ≠ 3) }
  if c.part.vaultMB = 0 then c.tilePut 3 bytes else (c.memPut 1 bytes).vaultWrote (bytes.map (fun e => e.1 / 64 * 64))

/-- The memory of the middles goes: of a queue with a middle, the complete items with a word in it stay there (R302,
R303). Log entry 57 (DEDUCED). -/
def Core.middleLost (c : Core) : Core :=
  let c : Core := { c with queues := c.queues.mapVals {} (fun q (x : QueueU) =>
    if c.rd QMG_Q_CFG.granules q = 0 then x else
    let s := x.start + 8
    { x with items := x.items.map (fun (it : QItem) =>
      { it with mid := it.mid || (it.complete && decide (s < it.stop) && decide (it.pos < s + c.middleLen q)) }) }) }
  c.queuesRefresh

/-- The memory of the middles comes: reading goes on with the held items (R303). -/
def Core.middleBack (c : Core) : Core :=
  let c : Core := { c with queues := c.queues.mapVals {} (fun _ (x : QueueU) =>
    { x with items := x.items.map (fun (it : QItem) => { it with mid := false }) }) }
  c.queuesRefresh.each (List.range 128) Core.spill

/-! ## Losing items -/

/-- The mark inside freed space, which ends before `stop`, is cleared (R305). Log entry 57 (DEDUCED). -/
def Core.markFreed (c : Core) (q start stop : Nat) : Core :=
  match (c.queue q).mark with
  | some m => if start ≤ m && m < stop then (c.setQueue q { c.queue q with mark := none }).wr QMG_Q_EVENT.mark_lost 1 q else c
  | none => c

/-- The oldest complete item that the queue manager may free goes (R306): the pointer moves past it unless held items come
first. Log entry 57 (DEDUCED). -/
def Core.queueLose (c : Core) (q : Nat) : Core :=
  let x := c.queue q
  match x.items.find? (fun it => it.complete && !c.itemHeld it) with
  | none => c
  | some it =>
    let unreadYet := decide (x.rp < it.stop)
    let held := x.items.any (fun h => c.itemHeld h && h.pos < it.pos && x.rp < h.stop)
    let rp := if unreadYet && !held then it.stop else x.rp
    let c := c.setQueue q { x with items := x.items.filter (fun j => j.pos ≠ it.pos), rp := rp }
    let c := c.markFreed q it.pos it.stop
    if !unreadYet then c else
    let c := (c.bump QMG_Q_LOST.count q).wr QMG_Q_EVENT.lost 1 q
    let c := { c with memU := { c.memU with lost := c.memU.lost + 1 } }
    if (c.queue q).lostSeen then c else
    (c.setQueue q { c.queue q with lostSeen := true }).raise 48 q

/-- Room for one word: the oldest items go until it fits (R306); `n` bounds them. -/
def Core.queueRoom : Nat → Nat → Core → Core
  | 0, _, c => c
  | n + 1, q, c => if c.queueUsed (c.queue q) < c.queueCap q then c else Core.queueRoom n q (c.queueLose q)

/-- MEM_EVENT (R300): memory, event, queue or bank, master, byte address, count. Log entry 58 (DEDUCED). -/
def Core.memEvent (c : Core) (mem event unit master addr count : Nat) : Core :=
  let a := if mem = 0 then 0x220000 else if mem = 1 then 0x230000 else 0x240000
  c.emit 0x03 0 a [packWord [(109, 108, mem), (107, 104, event), (103, 97, unit), (96, 94, master), (63, 32, addr),
    (31, 0, min count (2 ^ 32 - 1))], stamp96 c.now]

/-- Items that hold a corrupt word are discarded whole (R301, R315, R321). Log entries 56 (DEDUCED), 117 (DEDUCED). -/
def Core.queueDiscard (c : Core) (q : Nat) (bad : QItem → Bool) : Core :=
  let x := c.queue q
  let l := x.items.filter bad
  if l.isEmpty then c else
  let rp := l.foldl (fun r it => if it.pos ≤ r && r < it.stop then it.stop else r) x.rp
  let c := c.setQueue q { x with items := x.items.filter (fun it => !bad it), rp := rp }
  let c := c.each l (fun c it => c.markFreed q it.pos it.stop)
  let c := (c.bump QMG_Q_ECC.ue q 0 l.length).wr QMG_Q_EVENT.ecc_ue 1 q
  (c.memEvent 0 0 q 7 0 l.length).queueRegs q

/-! ## The tail (R42 to R44, R299, R302, R306, R307, R309) -/

/-- Words that wait at the producer move onto the link while it has credits (R42, R44). Log entry 56 (DEDUCED). -/
def Core.linkSend (c : Core) (q : Nat) : Core :=
  let x := c.queue q
  let k := c.link q
  let n := min x.wait.length (8 - k.used)
  (c.setQueue q { x with linkQ := x.linkQ ++ x.wait.take n, wait := x.wait.drop n }).setLink q { k with used := k.used + n }

/-- An item waits behind an earlier item of its producer's block that no other queue's link has taken up whole: a block that waits
on a STALL link does nothing else (R44). Log entry 132 (DEDUCED). -/
def Core.heldBack (c : Core) (q i : Nat) (it : Item) : Bool :=
  c.queues.any (fun e => e.1 ≠ q && e.2.wait.any (fun w => w.1 = it.addr)) ||
    (c.outbox.take i).any (fun e => e.addr = it.addr && !rtDrop e.rtype && c.streamQueue e.rtype e.unit ≠ some q)

/-- The merge stage admits the next item to a queue's tail link, or discards it for lack of credits (R43, R299, R307); none
starts while the link's counters wait to be reset (R47), nor while its producer waits on another link (R44).
Log entries 55 (DEDUCED), 132 (DEDUCED). -/
def Core.itemStart (c : Core) (q : Nat) : Core :=
  let x := c.queue q
  if !c.pclk || !x.wait.isEmpty || (c.link q).resetPend then c else
  let mine := fun (it : Item) => (c.streamQueue it.rtype it.unit = some q) &&
    (match x.torn with | some a => it.addr = a | none => true)
  let at_ := fun (i : Nat) => c.outbox.getD i { rtype := 0, unit := 0, addr := 0, body := [] }
  match (List.range c.outbox.length).find? (fun i => mine (at_ i) && !c.heldBack q i (at_ i)) with
  | none => c
  | some i =>
    let it := at_ i
    let c := { c with outbox := c.outbox.eraseIdx i }
    let w := itemWords it.rtype (it.epoch.getD (c.queueEpoch q)) it.body
    if rtDrop it.rtype && decide (8 < (c.link q).used + w.length) then c.bump STG_FAB_DROP.dropped
    else (c.setQueue q { c.queue q with wait := w.map (fun v => (it.addr, v)) }).linkSend q

/-- A word is stored with the check bits that an injection armed for its queue inverts: word `k` of the item in progress
(R485). Log entry 78 (DEDUCED). -/
def Core.wordStored (c : Core) (q k : Nat) : Core :=
  if !c.injArmed 49 q then c else
  let x := c.queue q
  let mark := fun (it : QItem) => if it.words.length = k + 1 && it.pos + it.len = x.nextPos
    then { it with flaw := some (k, c.rd FLT_INJ_CFG.inv) } else it
  c.injFired.setQueue q { x with items := x.items.map mark }

/-- A word enters the tail and the queue's items (R306, R309). -/
def Core.wordIn (c : Core) (q addr w : Nat) : Core :=
  let first := bitOf w 126
  if first then
    let c := c.setQueue q { c.queue q with items := (c.queue q).items.filter QItem.complete }
    let c := Core.queueRoom (c.queue q).items.length q c
    let old := bits w 114 111 ≠ c.queueEpoch q
    let w := if old then setBit w 110 else w
    let c := c.on old (fun c => (c.bump QMG_Q_STALE.count q).wr QMG_Q_EVENT.stale_rx 1 q)
    let x := c.queue q
    let len := bits w 125 123 + 1
    let it : QItem := { pos := x.nextPos, addr := addr, words := [w], len := len }
    let c := c.setQueue q { x with items := x.items ++ [it], nextPos := x.nextPos + len, torn := if x.torn = some addr then none else x.torn }
    let c := c.wordStored q 0
    if len = 1 then { c.bump QMG_Q_WRITTEN.count q with memU := { c.memU with written := c.memU.written + 1 } } else c
  else
    let c := Core.queueRoom (c.queue q).items.length q c
    let x := c.queue q
    let grow := fun (it : QItem) => if it.complete then it else { it with words := it.words ++ [w] }
    let ends := x.items.any (fun it => !it.complete && (grow it).complete)
    let at_ := ((x.items.find? (fun it => !it.complete)).map (fun it => it.words.length)).getD 0
    let c := (c.setQueue q { x with items := x.items.map grow }).wordStored q at_
    if ends then { c.bump QMG_Q_WRITTEN.count q with memU := { c.memU with written := c.memU.written + 1 } } else c

/-- A credit returns to a link's producer; one too many is a link error, told by the second value (R42, R47). -/
def Core.creditBack (c : Core) (k : Nat) : Core × Bool :=
  let x := c.link k
  if x.used = 0 then (c, true) else (c.setLink k { x with used := x.used - 1 }, false)

/-- A link error (R47): FS43 and STG_FAB_ERR; the partial item at the consumer and the item in progress at the producer are
lost; both counters return to the pool when the link is idle. Log entry 56 (DEDUCED). -/
def Core.linkFail (c : Core) (k : Nat) (parity : Bool) : Core :=
  if linkPool k = 0 then c else
  let c := if c.rdB STG_FAB_ERR.valid then c else (c.wr STG_FAB_ERR.valid 1).wr STG_FAB_ERR.link k
  let c := c.bump STG_FAB_ERR.count
  let c := c.wr (if parity then STG_FAB_ERR.parity else STG_FAB_ERR.over_return) 1
  let c := c.setLink k { c.link k with resetPend := true }
  if 132 ≤ k && k < 136 then
    let l := c.lanes.get {} (k - 132)
    if l.prodSent = 0 then c
    else { c.bump STG_FAB_DROP.dropped with lanes := c.lanes.set {} (k - 132) { l with prod := l.prod.tail, prodSent := 0 } }
  else if 128 ≤ k then c else
  let x := c.queue k
  let partialIn := x.items.any (fun it => !it.complete)
  let rest := if partialIn then x.linkQ.dropWhile (fun e => !bitOf e.2 126) else x.linkQ
  let waiting := !x.wait.isEmpty
  let lastStart := (rest.reverse.dropWhile (fun e => !bitOf e.2 126)).drop 1
  let rest2 := if waiting then lastStart.reverse else rest
  let n := b2n partialIn + b2n (waiting && (!partialIn || rest.any (fun e => bitOf e.2 126)))
  let c := c.setQueue k { x with items := x.items.filter QItem.complete, linkQ := rest2, wait := [] }
  (c.bump STG_FAB_DROP.dropped 0 0 n).queueRegs k

/-- A transfer on a link whose counter's parity an injection has inverted is a link error (R47, R485).
Log entry 78 (DEDUCED). -/
def Core.linkCheck (c : Core) (k : Nat) : Core := if c.injArmed 43 k then (c.linkFail k true).injFire 43 k k else c

/-- A credit return that would raise the counter above the pool: a link error (R47). -/
def Core.linkOver (c : Core) (k : Nat) : Core := (c.linkFail k false).raise 43 k

/-- The next word on the link enters the tail, goes on to the head or the middle, and its credit returns. A disabled queue
accepts no word and returns the credit; a word of a torn item is accepted and discarded (R302, R307, R326).
Log entry 56 (DEDUCED). -/
def Core.wordEnter (c : Core) (q : Nat) : Core :=
  let x := c.queue q
  if !c.pclk then c else
  match x.linkQ with
  | [] => c
  | (a, w) :: rest =>
    let c := c.setQueue q { x with linkQ := rest }
    let r := c.creditBack q
    let c := r.1
    let off := !c.rdB QMG_Q_CFG.en q
    let cont := !bitOf w 126
    let orphan := cont && (c.queue q).items.all QItem.complete
    let c :=
      if off then c.setQueue q { c.queue q with items := (c.queue q).items.filter QItem.complete }
      else if cont && (decide ((c.queue q).torn = some a) || orphan) then c
      else c.wordIn q a w
    let c := ((c.linkSend q).queueRegs q).spill q
    (if r.2 then c.linkOver q else c).linkCheck q

/-! ## The FAULT stream (R480, R481) -/

/-- The payload words of a fault record (R481). -/
def FltRec.body (r : FltRec) : List Nat :=
  let ev := match r.event with | .detect => 0 | .escalate => 1 | .ack => 2
  [packWord [(109, 103, r.fs), (102, 100, r.sev), (99, 97, r.action), (96, 95, ev), (94, 94, b2n r.real), (93, 93, b2n r.inj),
    (92, 92, b2n r.shadowed), (91, 91, b2n r.acted), (90, 90, b2n r.tfrost), (89, 82, r.merge), (63, 32, r.info), (31, 0, r.seq)],
   stamp96 r.time, r.mask]

/-- The oldest buffered record goes to the FAULT stream's tail while PCLK runs and none waits there; a stream that the image
leaves without a queue takes none (R480). Log entry 75 (DEDUCED). -/
def Core.fltDrain (c : Core) : Core :=
  if (c.streamQueue 1 0).isNone then (if c.estRun then { c with fltBuf := [] } else c)
  else if !c.pclk || c.outbox.any (fun it => it.rtype = 1) then c else
  match c.fltBuf with
  | [] => c
  | r :: rest => Core.emit { c with fltBuf := rest } 1 0 (FLT_CTRL.ack_all.addr 0 0) r.body

/-! ## Uncorrectable words (R315, R321) -/

/-- Items with a word in the `len` bytes at `a` of the Vault or of Tile memory are discarded as R301 states. -/
def Core.middleHit (c : Core) (a len : Nat) : Core :=
  c.each (List.range 128) (fun c q =>
    let x := c.queue q
    let bad := fun (it : QItem) => (List.range it.words.length).any (fun j =>
      c.inMiddle q (it.pos + j) &&
      (let w := c.middlePlace q (it.pos + j)
       decide (a < w + 16) && decide (w < a + len)))
    if c.middleLen q = 0 || !x.items.any bad then c else (c.queueDiscard q bad).raise 49 q)

/-- The words of the middles in Tile bank `b`, whose contents a test or its failure makes undefined, become free values (R316,
R317). Log entry 117 (DEDUCED). -/
def Core.middleVoid (c : Core) (b : Nat) : Core :=
  if c.memMap.tileUse.getD b 0 ≠ 5 then c else
  c.each (List.range 128) fun c q =>
    c.each (c.queue q).items fun c it =>
      c.each ((List.range it.words.length).filter (fun j =>
        c.inMiddle q (it.pos + j) && c.middlePlace q (it.pos + j) / 131072 = b)) fun c j =>
        let f := c.fresh
        f.2.setQueue q { c.queue q with items := (c.queue q).items.map (fun i =>
          if i.pos = it.pos then { i with words := i.words.set j (f.1 % 2 ^ 128) } else i) }

/-- An uncorrectable burst: rewritten with the poison marker, counted and told; what it holds is lost (R321).
Log entry 59 (DEDUCED). -/
def Core.vaultUncorr (c : Core) (a : Nat) : Core :=
  let a := a / 64 * 64
  if c.memU.poison.contains a then c else
  let c := c.setMemU { c.memU with poison := c.memU.poison ++ [a] }
  let c := ((c.bump VLT_UE_CNT.count).wr VLT_UE_ADDR.addr a).memEvent 2 0 0 7 a 1
  let r := c.region
  let inside := fun k => (r k).1 ≤ a && a < (r k).1 + (r k).2
  if inside 0 then c.middleHit a 64
  else if inside 1 then
    let k := (a - (r 1).1) / 512
    match c.pte.slots.get none k with
    | some x => c.slotFree k 10 x
    | none => c
  else c

/-- An uncorrectable Tile word, met by a master: counted and told, and bad until it is written; a TDC table gives way to the
uniform one, which is built anew at the next slot, and a queue middle loses its items (R315). Log entry 59 (DEDUCED). -/
def Core.tileUncorr (c : Core) (a master : Nat) (tdc : Option Nat) : Core :=
  let a := a / 16 * 16
  let c := c.bump TMC_UE_CNT.count
  let c := c.setMemU { c.memU with badT := c.memU.badT.filter (fun w => w ≠ a / 16) ++ [a / 16] }
  let c := ((c.wr TMC_UE_ADDR.valid 1).wr TMC_UE_ADDR.master master).wr TMC_UE_ADDR.addr a
  let c := c.memEvent 1 0 (a / 131072) master a 1
  let c := match tdc with
    | some k => (c.setTim { c.tim with next := some k }).setTab k { nominal := true }
    | none => c
  if c.memMap.tileUse.getD (a / 131072) 0 = 5 then c.middleHit a 16 else c

/-- The burst at `a` is read: check symbols that were written inverted are corrected and counted (R321, R485). -/
def Core.vaultFlaw (c : Core) (a : Nat) : Core :=
  match c.memU.injV with
  | none => c
  | some v =>
    if v.1 ≠ a / 64 * 64 then c
    else (c.bump VLT_CORR_CNT.count 0 0 v.2).setMemU { c.memU with corrV := c.memU.corrV + v.2, injV := none }

/-- The injection armed for the word of `g` bytes that holds `a` (R485). -/
def Core.injAt (c : Core) (fs a g : Nat) : Bool :=
  c.rdB FLT_INJ_CFG.arm && c.rd FLT_INJ_CFG.src = fs && c.rd FLT_INJ_TGT.tgt / g = a / g

/-- A Tile word read by a master meets check bits that an injection inverted when it was written, or inverts now: the part, and
whether the word is lost (R315, R485). Log entry 78 (DEDUCED). -/
def Core.tileInj (c : Core) (a master : Nat) : Core × Bool :=
  let stored := c.memU.injT.filter (fun v => v.1 = a / 16)
  let inv := match stored with
    | some v => v.2
    | none => if c.injAt 50 a 16 then c.rd FLT_INJ_CFG.inv else 0
  if inv = 0 then (c, false) else
  let c := if stored.isSome then c.setMemU { c.memU with injT := none } else c.injFired
  if 2 ≤ inv then
    ((c.tileUncorr a master none).raiseInfo 50 (a / 131072 + master * 16) (a / 131072 + master * 16) true, true)
  else ((c.bump TMC_CORR_CNT.count).setMemU { c.memU with corrT := c.memU.corrT + 1 }, false)

/-- A master, the host if no other, reads the Tile word that holds `a`: the part, and whether the word is lost (R315). A word
known bad is met again. -/
def Core.tileWord (c : Core) (a : Nat) (master : Nat := 5) : Core × Bool :=
  if c.memU.badT.contains (a / 16) then ((c.tileUncorr a master none).raiseInfo 50 0 (a / 131072 + master * 16) false, true)
  else c.tileInj a master

/-- A Vault burst that is read meets an injected error (R321, R485). Log entry 78 (DEDUCED). -/
def Core.vaultInj (c : Core) (a : Nat) : Core :=
  let c := c.vaultFlaw a
  if c.injAt 52 a 64 && c.rd FLT_INJ_CFG.inv = 3 then (c.vaultUncorr a).injFire 52 0 0 else c

/-- Word number `p` of a queue is read from its middle by the spill engine: an error in it is met (R315, R321, R485). -/
def Core.middleMeet (c : Core) (q p : Nat) : Core :=
  if !c.middleOn || !c.inMiddle q p then c
  else if c.part.vaultMB = 0 then (c.tileWord (c.middlePlace q p) 3).1
  else c.vaultInj (c.middlePlace q p)

/-! ## Reading (R304, R305) -/

/-- The item that a read reaches next. -/
def QueueU.nextItem (x : QueueU) : Option QItem := x.items.find? (fun it => decide (x.rp < it.stop))

/-- The items at the read pointer that hold a word stored with two inverted check bits are discarded (R301, R485), and an error
in the memory of the middle is met where the read reaches it (R315, R321); `n` bounds them. -/
def Core.queueCheck (q : Nat) : Nat → Core → Core
  | 0, c => c
  | n + 1, c => match (c.queue q).nextItem with
    | none => c
    | some it =>
      if !c.readable (c.queue q) it then c
      else if it.flaw.any (fun f => decide (2 ≤ f.2)) then
        Core.queueCheck q n ((c.queueDiscard q (fun j => decide (j.pos = it.pos))).raiseInfo 49 q q true)
      else
        let c := c.middleMeet q (max (c.queue q).rp it.pos)
        if ((c.queue q).nextItem.map QItem.pos) = some it.pos then c else Core.queueCheck q n c

/-- The word at the read pointer, which moves on; a word of zeros where the queue is empty for reading. One stored with one
inverted check bit is corrected and counted (R301, R304, R485). -/
def Core.queueRead (c : Core) (q : Nat) : Nat × Core :=
  let c := Core.queueCheck q (c.queue q).items.length c
  match (c.queue q).nextItem with
  | none => (0, c)
  | some it =>
    if !c.readable (c.queue q) it then (0, c) else
    let at_ := max (c.queue q).rp it.pos
    let flawed := it.flaw.any (fun f => decide (it.pos + f.1 = at_))
    let mend := fun (j : QItem) => if flawed && j.pos = it.pos then { j with flaw := none } else j
    let c := c.on flawed (fun c => c.bump QMG_Q_ECC.corr q)
    (it.words.getD (at_ - it.pos) 0, c.queueUpd q (fun x => { x with rp := at_ + 1, items := x.items.map mend }))

/-- A read of QMG_Q_DATA0 by an executor: the word is latched for it (R304, R361). -/
def Core.queueReadLatch (c : Core) (q ex : Nat) : Nat × Core :=
  let r := c.queueRead q
  let sh := fun (m : AMap Nat) (k : Nat) => m.set 0 (exKey ex (QMG_Q_DATA1.w1.addr q k)) (bits r.1 (32 * k + 63) (32 * k + 32))
  (r.1 % 2 ^ 32, { r.2 with shadow := (List.range 3).foldl sh r.2.shadow })

/-- Mark, rewind, release and flush act on a running queue manager alone (R34, R305, R307). -/
def Core.queueMark (c : Core) (q : Nat) : Core :=
  if !c.pclk then c else
  c.queueUpd q (fun x =>
    { x with mark := some (match x.items.find? (fun it => decide (x.rp < it.stop)) with | some it => it.pos | none => x.rp) })

def Core.queueRewind (c : Core) (q : Nat) : Core :=
  if !c.pclk then c else
  c.queueUpd q (fun x =>
    { x with rp := match x.mark with
      | some m => m
      | none => (x.items.head?.map QItem.pos).getD x.rp })

/-- A release frees the items before the read pointer, and the head takes up the words of the middle that come next (R302,
R305). -/
def Core.queueRelease (c : Core) (q : Nat) : Core :=
  if !c.pclk then c else
  let x := c.queue q
  let gone := fun (it : QItem) => it.complete && decide (it.stop ≤ x.rp)
  let l := x.items.filter gone
  let first := (({ x with items := x.items.filter (fun it => !gone it) } : QueueU).start)
  let c := c.each ((List.range 8).map (first + ·)) (fun c p => c.on (decide (p < x.nextPos)) (fun c => c.middleMeet q p))
  let c := c.setQueue q { c.queue q with items := (c.queue q).items.filter (fun it => !gone it) }
  let c := c.each l (fun c it => c.markFreed q it.pos it.stop)
  (c.queueRegs q).spill q

/-- The queue emptied (R307). -/
def Core.queueEmpty (c : Core) (q : Nat) : Core :=
  let x := c.queue q
  let tornBy := (x.items.find? (fun it => !it.complete)).map QItem.addr
  let c := c.setQueue q { x with items := [], rp := x.nextPos, mark := none, torn := if tornBy.isSome then tornBy else x.torn }
  let c := c.on tornBy.isSome (fun c => (c.bump QMG_Q_TORN.count q).wr QMG_Q_EVENT.torn 1 q)
  c.queueRegs q

/-- A flush (R34, R307). -/
def Core.queueFlush (c : Core) (q : Nat) : Core := if c.pclk then c.queueEmpty q else c

/-- A block reset of a queue: its words flushed, its counters and RC fields cleared (R430). -/
def Core.queueReset (c : Core) (q : Nat) : Core :=
  let c := c.queueEmpty q
  let c := c.setQueue q { c.queue q with lostSeen := false }
  let c := c.each [QMG_Q_EVENT.row, QMG_Q_LOST.row, QMG_Q_TORN.row, QMG_Q_STALE.row, QMG_Q_ECC.row, QMG_Q_WRITTEN.row]
    (fun c r => c.clrRow r q)
  c.queueRegs q

/-! ## Placement epochs (R308, R309) -/

/-- An epoch change at the loader's request: at once, with its stale window, or held by the window that runs. -/
def Core.epochChange (c : Core) (q e : Nat) : Core :=
  if c.rdB QMG_Q_STAT.stale_win q then c.setQueue q { c.queue q with epochHeld := some e }
  else (c.wr QMG_Q_STAT.epoch e q).wr QMG_Q_STAT.stale_win 1 q

/-! ## The commands -/

/-- CREDIT_RETURN: the consumer has freed a unit (R42); the tails and the engine's links stand still with PCLK (R34). -/
def creditReturnStep (link : Fin 256) (c : Core) : Core :=
  if !c.part.hasLink link || (decide (link.val < 136) && !c.pclk) then c else
  let r := c.creditBack link
  let c := if r.2 then c.linkOver link
    else if link.val < 128 then r.1.linkSend link
    else if 132 ≤ link.val && link.val < 136 then r.1.insGo (link.val - 132)
    else r.1
  c.linkCheck link

/-- The counters at the pool size once the link is idle; its producer resumes (R47 steps 3 and 4). The links of the halted blocks
are halted with them (R34). -/
def linkCounterResetStep (link : Fin 256) (c : Core) : Core :=
  let idle := decide (128 ≤ link.val) || (c.queue link).linkQ.isEmpty
  if !(c.link link).resetPend || !idle || (decide (link.val < 136) && !c.pclk) then c else
  let c := c.setLink link {}
  if 132 ≤ link.val && link.val < 136 then c.insGo (link.val - 132) else c

def recordItemStartStep (q : Fin 128) (c : Core) : Core := (c.itemStart q).fltDrain

def queueWordEnterStep (q : Fin 128) (c : Core) : Core := c.wordEnter q

/-- The oldest complete item without a notice becomes readable, unless it or one before it is held in the middle (R302, R303,
R305). Log entry 57 (DEDUCED). -/
def itemReadableStep (q : Fin 128) (c : Core) : Core :=
  let x := c.queue q
  if !c.pclk then c else
  match x.items.find? (fun it => it.complete && !it.readable) with
  | none => c
  | some it => if x.items.any (fun h => c.itemHeld h && decide (h.pos ≤ it.pos)) then c else c.queueUpd q (fun x =>
      { x with items := x.items.map (fun j => if j.pos = it.pos then { j with readable := true } else j) })

/-- A read of QMG_Q_DATA0 as a command: a bus error while PCLK is stopped (R304, R372). -/
def Core.queueTake (c : Core) (ex q : Nat) : Core :=
  let a := QMG_Q_DATA0.w0.addr q 0
  if c.pclk then (c.queueReadLatch q ex).2 else c.busErr ex beUnavailable a

def queueReadStep (q : Fin 128) (ex : Fin 4) (c : Core) : Core :=
  c.heldOr { ex := ex, addr := QMG_Q_DATA0.w0.addr q 0, write := false } fun c => c.queueTake ex q
def markStep (q : Fin 128) (c : Core) : Core := c.queueMark q
def rewindStep (q : Fin 128) (c : Core) : Core := c.queueRewind q
def releaseStep (q : Fin 128) (c : Core) : Core := c.queueRelease q
def flushStep (q : Fin 128) (c : Core) : Core := c.queueFlush q

/-- The stale window ends; a held change takes effect and opens the next one (R309). -/
def staleWinEndStep (q : Fin 128) (c : Core) : Core :=
  if !c.pclk || !c.rdB QMG_Q_STAT.stale_win q then c else
  let c := c.wr QMG_Q_STAT.stale_win 0 q
  match (c.queue q).epochHeld with
  | none => c
  | some e => (c.setQueue q { c.queue q with epochHeld := none }).epochChange q e

/-! ## The meanings of the commands -/

/-- CREDIT_RETURN (R42). -/
def execCreditReturn (link : Fin 256) (s : State) : Out := onRunCore (creditReturnStep link) s

/-- LINK_COUNTER_RESET (R47). -/
def execLinkCounterReset (link : Fin 256) (s : State) : Out := onRunCore (linkCounterResetStep link) s

/-- RECORD_ITEM_START (R299). -/
def execRecordItemStart (q : Fin 128) (s : State) : Out := onRunCore (recordItemStartStep q) s

/-- QUEUE_WORD_ENTER (R302). -/
def execQueueWordEnter (q : Fin 128) (s : State) : Out := onRunCore (queueWordEnterStep q) s

/-- ITEM_READABLE (R305). -/
def execItemReadable (q : Fin 128) (s : State) : Out := onRunCore (itemReadableStep q) s

/-- QUEUE_READ (R304). -/
def execQueueRead (q : Fin 128) (ex : Fin 4) (s : State) : Out := onRunCore (queueReadStep q ex) s

/-- MARK (R305). -/
def execMark (q : Fin 128) (s : State) : Out := onRunCore (markStep q) s

/-- REWIND (R305). -/
def execRewind (q : Fin 128) (s : State) : Out := onRunCore (rewindStep q) s

/-- RELEASE (R305). -/
def execRelease (q : Fin 128) (s : State) : Out := onRunCore (releaseStep q) s

/-- FLUSH (R307). -/
def execFlush (q : Fin 128) (s : State) : Out := onRunCore (flushStep q) s

/-- STALE_WIN_END (R309). -/
def execStaleWinEnd (q : Fin 128) (s : State) : Out := onRunCore (staleWinEndStep q) s

end Sys2Proof.Machine
end

