-- ==== Sys2Proof/Machine/Memory.lean ====
section
/-! DEFINITION. Tile memory and the Vault: telemetry, the march test and its repairs, training, tests, scrub, self-refresh,
and uncorrectable words (R300, R311 to R324). -/

namespace Sys2Proof.Machine

/-! ## Bytes (R311, R319, R427) -/

def Mem.tileByte (m : Mem) (a : Nat) : Byte := (m.tile.get none a).getD (Config.freeByte 0 (m.gens.get 0 (a / 131072)) a)

/-- A byte of Tile memory as a master reads it: a table's bank shows the table (R233). -/
def Dev.tileRead (d : Dev) (a : Nat) : Byte := (d.core.tabByte a).getD (d.mem.tileByte a)

def Mem.vaultByte (m : Mem) (a : Nat) : Byte := (m.vault.get none a).getD (Config.freeByte 1 (m.gens.get 0 16) a)

/-! ## Vault states (R323) -/

def vltOff : Nat := 0
def vltTraining : Nat := 1
def vltTesting : Nat := 2
def vltFailed : Nat := 5

def Core.vaultState (c : Core) : Nat := c.rd VLT_STAT.state

/-- The Vault enters a state: the middles come or go, vault_ready follows READY, the stamp buffer takes up what waits, and
the entry to FAILED raises FS53 (R303, R323, R426). -/
def Core.vaultGoto (c : Core) (new : Nat) : Core :=
  let old := c.vaultState
  let had := old = vltReady || (old = vltRefresh && c.memU.vBack = vltReady)
  let c := c.wr VLT_STAT.state new
  let c := c.on (new ≠ vltRefresh) (fun c => c.wrB STG_STAT.vault_ready (new = vltReady))
  if new = vltReady then
    let c := c.on (old ≠ vltRefresh) (fun c => c.wr STG_EVENT.vault_ready 1)
    c.middleBack.timDrain
  else if had && new ≠ vltRefresh then
    let c := c.middleLost
    if new = vltFailed then c.raise 53 else c
  else if new = vltFailed then c.raise 53
  else c.queuesRefresh

/-- A test begins (R323). -/
def Core.vaultTest (c : Core) (destr loader : Bool) : Core :=
  (c.setMemU { c.memU with vDestr := destr, vLoader := loader, vAbort := false }).vaultGoto vltTesting

/-- The loader's test ends: step 4 of the application follows (R402, R407, R410). Log entries 58 (DEDUCED), 60 (DEDUCED). -/
def Core.loaderTestEnd (c : Core) (res : Nat) : Core :=
  if !c.memU.vLoader then c else
  let c := c.setMemU { c.memU with vLoader := false, vRes := res }
  let c := c.on (res = 2) (fun c => c.wr MTL_EVENT.test_fail 1)
  (c.wr MTL_STAT.state 2).wr MTL_STAT.step 4

/-- An abort of a preserving test (R324, R369). The halted controller carries it out when PCLK returns (R34); until then a second
one finds it under way. Log entry 59 (DEDUCED). -/
def Core.vltAbort (c : Core) (completing : Bool) : Core :=
  if c.vaultState = vltRefresh && c.memU.vBack = vltTesting && !c.memU.vDestr then c.setMemU { c.memU with vAbort := true }
  else if c.vaultState ≠ vltTesting || c.memU.vDestr then c
  else if completing then c.wr VLT_STAT.abort_st 2
  else (((c.wr VLT_STAT.abort_st 1).memEvent 2 5 0 7 0 0).vaultGoto vltReady).loaderTestEnd 3

/-- PCLK stops: self-refresh (R323). Log entry 60 (DEDUCED). -/
def Core.vaultSleep (c : Core) : Core :=
  let s := c.vaultState
  if s = vltReady || s = vltTesting then (c.setMemU { c.memU with vBack := s }).vaultGoto vltRefresh else c

/-- PCLK restarts: the state before, and an abort that waited; a loader's test that waited for READY starts (R323, R324, R407).
Log entries 59 (DEDUCED), 60 (DEDUCED). -/
def Core.vaultWake (c : Core) : Core :=
  if c.vaultState ≠ vltRefresh then c else
  let c := if c.memU.vBack = vltReady then c.vaultGoto vltReady else (c.wr VLT_STAT.state c.memU.vBack).queuesRefresh
  let c := if c.memU.vAbort then (c.setMemU { c.memU with vAbort := false }).vltAbort false else c
  if c.vaultState = vltReady && c.rd MTL_STAT.state = 3 then c.vaultTest false true else c

/-- The Coping stage starts the Vault; the OT-1624-C has none and reads vault_ready (R323, R426). -/
def Core.vaultStart (c : Core) : Core :=
  if c.part.vaultMB = 0 then c.wr STG_STAT.vault_ready 1
  else (c.setMemU { c.memU with vDestr := true }).vaultGoto vltTraining

/-! ## Telemetry (R300) -/

def telemetryStep (c : Core) : Core :=
  let l := (List.range 8).filterMap (fun k =>
    let v := c.rd GLC_TSENS.temp 0 k
    if v = 0x8000 then none else some (toS 16 v))
  let hi := match l with | [] => 0x8000 | v :: r => ofS 16 (r.foldl max v)
  let lo := match l with | [] => 0x8000 | v :: r => ofS 16 (r.foldl min v)
  let u := c.memU
  let sat := fun (n : Nat) => min n (2 ^ 32 - 1)
  let c := c.emit 0x02 0 0x30000 [packWord [(109, 94, hi), (93, 78, lo), (77, 62, c.rd GLC_OSCT.temp)], stamp96 c.now,
    packWord [(125, 96, min u.corrV (2 ^ 30 - 1)), (95, 64, sat u.corrT), (63, 32, sat u.lost), (31, 0, sat u.written)]]
  c.setMemU { u with corrV := 0, corrT := 0, lost := 0, written := 0 }

/-! ## The Tile march (R316 to R318, R425) -/

/-- The next good spare row of a bank (R317). -/
def Core.goodSpare (c : Core) (b : Nat) : Option Nat :=
  (List.range 4).find? (fun s => !bitOf (c.rd TMC_BANK.spares 0 b) s && !bitOf (c.memU.badSpare.get 0 b) s)

/-- A bank found failed: its contents are undefined (R317, R425). Log entry 70 (DEDUCED). -/
def Core.bankFail (c : Core) (b words : Nat) : Core :=
  let use := c.memMap.tileUse.getD b 0
  let c := (c.wr TMC_BANK.failed 1 0 b).wrBit TMC_STAT.failed b true
  let c := c.on (c.rd STG_STAT.stage = 2 && (use = 1 || use = 2 || use = 6)) (fun c => c.wr STG_STAT.degraded 1)
  let c := (({ c with memLost := c.memLost ++ [b] } : Core).tabsLost b).middleVoid b
  (c.memEvent 1 2 b 7 0 words).raise 51 (b + 7 * 16)

/-- The results of one bank: its failing rows (128 to 131 are the spares, tested first) with their failing words.
Log entry 58 (DEDUCED). -/
def Core.bankRepair (c : Core) (b : Nat) (fails : List (Nat × Nat)) : Core :=
  let bad := (fails.filter (fun f => 128 ≤ f.1 && f.1 < 132)).foldl (fun m f => setBit m (f.1 - 128)) (c.memU.badSpare.get 0 b)
  let c := c.setMemU { c.memU with badSpare := c.memU.badSpare.set 0 b bad }
  let r := (fails.filter (fun f => decide (f.1 < 128))).foldl (fun (a : Core × Bool) f =>
    match a.1.goodSpare b with
    | none => (a.1, true)
    | some s =>
      let c := a.1
      let l := (c.memU.rows.get [] b).filter (fun e => e.1 ≠ f.1)
      let c := c.setMemU { c.memU with rows := c.memU.rows.set [] b (l ++ [(f.1, s)]) }
      ((c.wrBit TMC_BANK.spares s true 0 b).memEvent 1 3 b 7 (b * 131072 + f.1 * 1024) 1, a.2)) (c, false)
  if r.2 then r.1.bankFail b (fails.foldl (fun n f => n + f.2) 0) else r.1

/-- The contents of a bank are lost to a destructive test, which leaves no bad word in it (R316). -/
def Core.bankLost (c : Core) (b : Nat) : Core :=
  (Core.tabsLost { c with
    memLost := c.memLost ++ [b], memU := { c.memU with
      badT := c.memU.badT.filter (fun w => w / 8192 ≠ b), injT := c.memU.injT.filter (fun v => v.1 / 8192 ≠ b) } } b).middleVoid b

/-- A test over the banks of a mask ends with the failing rows found: bank, row, failing words; one that was aborted
ends after the bank in progress, which TMC_STAT.bank names, and leaves the banks behind it alone (R318). Log entries 58
(DEDUCED), 59 (DEDUCED). -/
def Core.marchEnd (c : Core) (banks : Nat) (destr aborted : Bool) (fails : List (Nat × Nat × Nat)) : Core :=
  let l := (List.range 16).filter (fun b => bitOf banks b && (!aborted || b ≤ c.rd TMC_STAT.bank))
  let c := c.on destr (fun c => c.each l Core.bankLost)
  let before := c.rd TMC_STAT.failed
  let c := (c.wr TMC_STAT.failed 0).each l (fun c b =>
    c.bankRepair b ((fails.filter (fun f => f.1 = b)).map Prod.snd))
  let found := c.rd TMC_STAT.failed
  let bad := found ≠ 0
  let c := c.wr TMC_STAT.failed (before ||| found)
  let last := (l.getLast?).getD (c.rd TMC_STAT.bank)
  let c := c.wr TMC_STAT.bank last
  if bad then (c.wr TMC_STAT.state 3).on aborted (fun c => c.wr TMC_STAT.abort_st 1)
  else if aborted then ((c.wr TMC_STAT.state 0).wr TMC_STAT.abort_st 1).memEvent 1 5 last 7 0 0
  else (c.wr TMC_STAT.state 2).memEvent 1 1 last 7 0 0

def Core.tmcStart (c : Core) : Core :=
  if c.rd TMC_STAT.state = 1 then c else
  let m := c.rd TMC_CTRL.banks
  let c := c.setMemU { c.memU with tBanks := m, tDestr := !c.rdB TMC_CTRL.mode, tAbort := false }
  let c := c.wr TMC_STAT.state 1
  c.wr TMC_STAT.bank (((List.range 16).find? (fun b => bitOf m b)).getD 0)

/-- The bank of the test in progress, which no command tells: one of the mask's (R327). Log entry 59 (DEDUCED). -/
def Core.marchBank (c : Core) : Nat :=
  let l := (List.range 16).filter (fun b => bitOf c.memU.tBanks b)
  l.getD (Config.viewNat 1 c.free % l.length) (c.rd TMC_STAT.bank)

/-- An abort of the Tile test (R318, R369). Which bank of the mask is in progress then is time's: a free choice among them.
Log entry 59 (DEDUCED). -/
def Core.tmcAbort (c : Core) (completing : Bool) : Core :=
  if c.rd TMC_STAT.state ≠ 1 || c.memU.tAbort then c
  else if completing then c.wr TMC_STAT.abort_st 2
  else
    let l := (List.range 16).filter (fun b => bitOf c.memU.tBanks b)
    let f := c.fresh
    (f.2.setMemU { c.memU with tAbort := true }).wr TMC_STAT.bank (l.getD (f.1 % l.length) (c.rd TMC_STAT.bank))

def tmcStartStep (c : Core) : Core := c.tmcStart
def tmcAbortStep (completing : Bool) (c : Core) : Core := c.tmcAbort completing

/-- TILE_TEST_DONE: the results, and then the accesses that repeated through the test (R316). -/
def tileTestDoneStep (fails : List (Nat × Nat × Nat)) (c : Core) : Core :=
  if c.rd TMC_STAT.state ≠ 1 then c else
  let u := c.memU
  (((c.setMemU { u with tAbort := false }).marchEnd u.tBanks u.tDestr u.tAbort fails).tileRepeat).timTabs

/-! ## The Vault's commands (R322 to R324) -/

def vaultTrainedStep (c : Core) : Core :=
  if c.vaultState ≠ vltTraining || !c.pclk then c else
  let c := c.on c.memU.vDestr (fun c => (c.setMemU { c.memU with poison := [] }))
  let c := c.on c.memU.vDestr (fun c => { c with memLost := c.memLost ++ [16] })
  c.vaultTest c.memU.vDestr false

def trainTimeoutStep (c : Core) : Core :=
  if c.vaultState ≠ vltTraining || !c.pclk then c else (c.memEvent 2 4 0 7 0 0).vaultGoto vltFailed

/-- A test ends with `failing` bursts that hold more than one erroneous symbol (R323). -/
def vaultTestDoneStep (failing : Nat) (c : Core) : Core :=
  if c.vaultState ≠ vltTesting then c else
  let c := (c.wrU VLT_TEST_FAIL.count failing).wrB VLT_STAT.test_fail (failing ≠ 0)
  let c := c.on c.memU.vDestr (fun c => { c with memLost := c.memLost ++ [16] })
  let c := if failing = 0 then (c.memEvent 2 1 0 7 0 0).vaultGoto vltReady else (c.memEvent 2 2 0 7 0 failing).vaultGoto vltFailed
  c.loaderTestEnd (if failing = 0 then 1 else 2)

def Core.vltTestStart (c : Core) : Core := if c.vaultState = vltReady then c.vaultTest false false else c

def Core.vltRetrain (c : Core) : Core :=
  if c.vaultState = vltFailed && c.pclk then (c.setMemU { c.memU with vDestr := false }).vaultGoto vltTraining else c

def vltTestStartStep (c : Core) : Core := c.atReg exHost (VLT_CTRL.test_start.addr 0 0) Core.vltTestStart
def vltAbortStep (completing : Bool) (c : Core) : Core :=
  c.atReg exHost (VLT_CTRL.abort.addr 0 0) fun c => c.vltAbort completing
def retrainStep (c : Core) : Core := c.atReg exHost (VLT_CTRL.retrain.addr 0 0) Core.vltRetrain

/-- The scrub reads the next burst: `corr` symbols corrected and written back, or uncorrectable; `again` marks a write-back
that a foreground write cancelled, so that the burst is read again and not poisoned (R322). -/
def scrubBurstStep (corr : Fin 3) (uncorr again : Bool) (c : Core) : Core :=
  if c.vaultState ≠ vltReady || !c.rdB VLT_CTRL.scrub_en then c else
  let a := c.rd VLT_SCRUB_POS.addr
  let known := c.memU.poison.contains a
  let inj := c.injArmed 52 a && c.rd FLT_INJ_CFG.inv = 3
  if again && (uncorr || inj) then c else
  let c := c.vaultFlaw a
  let c := if (uncorr || inj) && !known then
      let c := c.vaultUncorr a
      if inj then c.injFire 52 0 0 else c.raise 52
    else if known then c
    else (c.bump VLT_CORR_CNT.count 0 0 corr).setMemU { c.memU with corrV := c.memU.corrV + corr }
  if again then c else
  let n := a + 64
  if c.part.vaultMB * 2 ^ 20 ≤ n then (c.wr VLT_SCRUB_POS.addr 0).bumpWrap VLT_SCRUB_PASS.count else c.wr VLT_SCRUB_POS.addr n

/-! ## The meanings of the commands -/

/-- TELEMETRY (R300). -/
def execTelemetry (s : State) : Out := onRunCore telemetryStep s

/-- TMC_START (R316). -/
def execTmcStart (s : State) : Out := onRunCore tmcStartStep s

/-- TMC_ABORT (R318). -/
def execTmcAbort (completing : Bool) (s : State) : Out := onRunCore (tmcAbortStep completing) s

/-- VAULT_TRAINED (R323). -/
def execVaultTrained (s : State) : Out := onRunCore vaultTrainedStep s

/-- TRAIN_TIMEOUT (R323). -/
def execTrainTimeout (s : State) : Out := onRunCore trainTimeoutStep s

/-- VAULT_TEST_DONE (R323). -/
def execVaultTestDone (failing : Nat) (s : State) : Out := onRunCore (vaultTestDoneStep failing) s

/-- VLT_TEST_START (R323). -/
def execVltTestStart (s : State) : Out := onRunCore vltTestStartStep s

/-- VLT_ABORT (R324). -/
def execVltAbort (completing : Bool) (s : State) : Out := onRunCore (vltAbortStep completing) s

/-- RETRAIN (R323). -/
def execRetrain (s : State) : Out := onRunCore retrainStep s

/-- SCRUB_BURST (R322). -/
def execScrubBurst (corr : Fin 3) (uncorr again : Bool) (s : State) : Out := onRunCore (scrubBurstStep corr uncorr again) s

end Sys2Proof.Machine
end

