-- ==== Sys2Proof/Machine/ImageCheck.lean ====
section
/-! DEFINITION. What a Mortar image is and how the loader checks it (R377 to R396): header, sections, records, their ranges,
the units they name, the rules that relate them, and the items that a new structure changes (R404, R405). -/

namespace Sys2Proof.Machine

/-! ## Records and the structure (R381, R395) -/

def stClock : Nat := 1
def stMemory : Nat := 2
def stQueue : Nat := 3
def stStream : Nat := 4
def stFault : Nat := 5
def stCand : Nat := 6
def stChan : Nat := 7
def stSyn : Nat := 8
def stOut : Nat := 9
def stLane : Nat := 10
def stPtp : Nat := 11
def stGlc : Nat := 12
def stSpin : Nat := 13

/-- Bytes of a record and the greatest count of a section type (R381). -/
def secSpec : Nat → Option (Nat × Nat)
  | 1 => some (24, 1)
  | 2 => some (56, 1)
  | 3 => some (8, 128)
  | 4 => some (4, 512)
  | 5 => some (8, 96)
  | 6 => some (4, 24)
  | 7 => some (24, 12)
  | 8 => some (36, 4)
  | 9 => some (4, 24)
  | 10 => some (8, 4)
  | 11 => some (16, 1)
  | 12 => some (8, 1)
  | 13 => some (4, 16)
  | _ => none

/-- The key of a record within its section (R379): (rtype, source) for STREAM, the unit of byte 0 where there is one. -/
def recKey (t : Nat) (b : List Byte) : Nat :=
  if t = stStream then fieldLE b 0 1 * 256 + fieldLE b 1 1
  else if t = stClock || t = stMemory || t = stPtp || t = stGlc then 0
  else fieldLE b 0 1

def itemKey (t k : Nat) : Nat := t * 65536 + k

def byteN (n : Nat) : Byte := BitVec.ofNat 8 n
def zeros (n : Nat) : List Byte := List.replicate n 0#8

/-- The default severities of the sources (R468). Log entry 3 (DESIGN CHOICE). -/
def defaultSev (fs : Nat) : Nat := if fsSpare fs then 0 else FLT_SRC_CFG.sev.reset fs

/-- What an item is that no record gives (R386, R395). Log entry 3 (DESIGN CHOICE). -/
def defaultRec (t k : Nat) : List Byte :=
  if t = stQueue then byteN k :: zeros 7
  else if t = stFault then
    [byteN k, byteN (defaultSev k), byteN (FLT_SRC_CFG.action.reset k), 0#8] ++
      bytesLE 4 (FLT_SRC_MASK.tgt.reset k + FLT_SRC_MASK.self.reset k * 2 ^ 31)
  else if t = stCand then byteN k :: zeros 3
  else if t = stChan then [byteN k, 2#8, 0xFF#8] ++ zeros 21
  else if t = stSyn then [byteN k, 0#8, 0x0F#8, 16#8] ++ zeros 32
  else if t = stOut then byteN k :: zeros 3
  else if t = stLane then byteN k :: zeros 7
  else if t = stPtp then zeros 4 ++ List.replicate 4 0xFF#8 ++ List.replicate 4 0x80#8 ++ zeros 4
  else if t = stGlc then [0#8, 130#8] ++ zeros 6
  else []

/-- A structure: the records that differ from nothing, by item key. -/
abbrev Recs := AMap (List Byte)

/-- An item's record, or its default. -/
def Recs.item (r : Recs) (t k : Nat) : List Byte :=
  let b := AMap.get [] r (itemKey t k)
  if b.isEmpty then defaultRec t k else b

/-- The records of one section type, with their keys. -/
def Recs.sec (r : Recs) (t : Nat) : List (Nat × List Byte) :=
  (r.filter (fun e => e.1 / 65536 = t)).map (fun e => (e.1 % 65536, e.2))

/-! ## The streams of a structure (R385) -/

/-- How many units the sources of a record type number; 1 for a type with source 0. -/
def streamUnits (rt : Nat) : Nat :=
  if rt = 0x10 || rt = 0x11 || rt = 0x12 then 24
  else if rt = 0x18 || rt = 0x1C || rt = 0x20 || rt = 0x21 then 12
  else if rt = 0x38 || rt = 0x39 then 4 else 1

def streamTypes : List Nat := [0x01, 0x02, 0x03, 0x04, 0x10, 0x11, 0x12, 0x18, 0x1C, 0x20, 0x21, 0x28, 0x30, 0x31, 0x38, 0x39,
  0x40, 0x41]

def Recs.streams (r : Recs) : List Stream :=
  (r.sec stStream).map (fun e => ⟨fieldLE e.2 0 1, fieldLE e.2 1 1, fieldLE e.2 2 1⟩)

/-! ## The middles (R384) -/

def Recs.granules (r : Recs) (q : Nat) : Nat := fieldLE (r.item stQueue q) 2 2

/-- The use of a Tile bank (R383). -/
def Recs.tileUse (r : Recs) (b : Nat) : Nat := fieldLE (r.item stMemory 0) (36 + b) 1

/-- The base and size of a Vault region (R383). -/
def Recs.region (r : Recs) (k : Nat) : Nat × Nat :=
  (fieldLE (r.item stMemory 0) (8 * k) 4, fieldLE (r.item stMemory 0) (8 * k + 4) 4)

/-- The byte address of granule `n` of the middles: from the base of the region, or over the QMID banks upward. -/
def Recs.granuleBase (r : Recs) (p : Part) (n : Nat) : Nat :=
  if p.vaultMB ≠ 0 then (r.region 0).1 + 4096 * n
  else
    let banks := (List.range 16).filter (fun b => r.tileUse b = 5)
    (banks.getD (n / 32) 0) * 131072 + n % 32 * 4096

/-- The base of a queue's middle: after those of the queues below it. -/
def Recs.middleBase (r : Recs) (p : Part) (q : Nat) : Nat :=
  r.granuleBase p ((List.range q).foldl (fun a k => a + r.granules k) 0)

/-! ## The outcome of a check (R396) -/

def rcLength : Nat := 1
def rcMagic : Nat := 2
def rcVersion : Nat := 3
def rcHdrCrc : Nat := 4
def rcCrc : Nat := 5
def rcNoKey : Nat := 6
def rcAuth : Nat := 7
def rcPart : Nat := 8
def rcSection : Nat := 9
def rcAbsent : Nat := 10
def rcRange : Nat := 11
def rcConflict : Nat := 12
def rcBase : Nat := 13
def rcLive : Nat := 14
def rcEnabled : Nat := 15
def rcStorePart : Nat := 16

/-- A check that must hold: its reject code and the offset of the failing byte where it does not. -/
abbrev Chk := Bool × Nat × Nat

/-- The first failure of checks in order. Log entry 62 (DESIGN CHOICE). -/
def firstFail (l : List Chk) : Option (Nat × Nat) := (l.find? (fun c => !c.1)).map Prod.snd

/-- The failure of a code at the lowest offset. -/
def minFail (l : List Chk) (code : Nat) : Option (Nat × Nat) :=
  (l.filter (fun c => !c.1 && c.2.1 = code)).foldl (fun a c => match a with
    | none => some c.2
    | some x => if c.2.2 < x.2 then some c.2 else a) none

/-! ## Header and trailer (R377, R378, R380) -/

def imgLen (b : List Byte) : Nat := fieldLE b 8 4
def imgAuth (b : List Byte) : Bool := bitOf (fieldLE b 5 1) 0
def imgPart (b : List Byte) : Bool := bitOf (fieldLE b 5 1) 1
def imgVtest (b : List Byte) : Bool := bitOf (fieldLE b 5 1) 2
/-- Where the trailer begins. -/
def imgEnd (b : List Byte) : Nat := imgLen b - (if imgAuth b then 36 else 4)
/-- The image id (R380). -/
def imgId (b : List Byte) : Nat := fieldLE b (imgEnd b) 4
def imgSeq (b : List Byte) : Nat := fieldLE b 16 4

/-! ## Sections (R379) -/

/-- A section: its offset, type, version, count and length. -/
structure ImgSec where
  off : Nat
  type : Nat
  ver : Nat
  count : Nat
  len : Nat
deriving DecidableEq, Repr

/-- The sections as far as their lengths lead, and whether they end where the trailer begins. -/
def imgSecs (b : List Byte) (stop : Nat) : Nat → Nat → List ImgSec × Bool
  | 0, off => ([], off = stop)
  | fuel + 1, off =>
    if off = stop then ([], true)
    else if stop < off + 8 then ([], false)
    else
      let s : ImgSec := ⟨off, fieldLE b off 1, fieldLE b (off + 1) 1, fieldLE b (off + 2) 2, fieldLE b (off + 4) 4⟩
      if s.len < 8 || stop < off + s.len then ([s], false)
      else
        let r := imgSecs b stop fuel (off + s.len)
        (s :: r.1, r.2)

/-- The records of a section with their offsets. -/
def ImgSec.recs (s : ImgSec) (b : List Byte) : List (Nat × List Byte) :=
  match secSpec s.type with
  | none => []
  | some z => (List.range s.count).map (fun i => (s.off + 8 + i * z.1, (b.drop (s.off + 8 + i * z.1)).take z.1))

/-- The checks of one section: a defined type, its length, and its keys in ascending order. -/
def ImgSec.checks (s : ImgSec) (b : List Byte) (prev : Nat) : List Chk :=
  if 0x80 ≤ s.type then [(s.len = 8 + s.count, rcSection, s.off + 4)] else
  match secSpec s.type with
  | none => [(false, rcSection, s.off)]
  | some z =>
    let ks := (s.recs b).map (fun r => (r.1, recKey s.type r.2))
    [(decide (prev < s.type), rcSection, s.off), (decide (s.count ≤ z.2), rcSection, s.off + 2),
      (s.len = 8 + s.count * z.1, rcSection, s.off + 4)] ++
      (ks.zip (ks.drop 1)).map (fun p => (decide (p.1.2 < p.2.2), rcSection, p.2.1))

/-- The checks of the sections in order (R379). -/
def secChecks (b : List Byte) : Nat → List ImgSec → List Chk
  | _, [] => []
  | prev, s :: r => s.checks b prev ++ secChecks b (if s.type < 0x80 then s.type else prev) r

/-! ## Ranges and units of the records (R382 to R394) -/

def Part.laneOk (p : Part) (n : Nat) : Bool := decide (n < p.nLane)

/-- The units that a block reset's code and index name: how many there are on any variant, and whether one is present
(R430). -/
def unitCount (u : Nat) : Nat :=
  match u with | 0 => 24 | 1 => 12 | 2 => 4 | 3 => 24 | 4 => 8 | 5 => 1 | 6 => 4 | 7 => 1 | 8 => 128 | _ => 0
def Part.unitOk (p : Part) (u i : Nat) : Bool :=
  match u with
  | 0 => p.cand i
  | 1 => decide (i < p.nCh)
  | 2 => decide (i < p.nSyn)
  | 3 => decide (i < p.nOut)
  | 4 => decide (i < 8)
  | 5 => i = 0
  | 6 => decide (i < p.nLane)
  | 7 => i = 0 && p.pte
  | 8 => decide (i < 128)
  | _ => false

/-- The part and variant codes of IDB_PART (R374). -/
def Part.partCode (p : Part) : Nat := match p.variant with | .f1612 => 0x1612 | _ => 0x1624
def Part.variantCode (p : Part) : Nat := match p.variant with | .c1624 => 0x43 | _ => 0x46

/-- The mask bits that an action uses (R474). -/
def actMask (a : Nat) : Nat :=
  match a with | 1 => 0xFFF | 2 => 0xFFFFFF | 3 => 0xF | 4 => 0x1F7F | _ => 0

/-- The checks of an action with its mask (R474, R475): the range ones, then those of absent units. Log entry 67
(DEDUCED). -/
def actChecks (p : Part) (a mask : Nat) : Bool × Bool :=
  let self := bitOf mask 31
  let m := mask % 2 ^ 31
  let m := if a = 4 && self then m >>> 13 <<< 13 else m
  let unused := m &&& (2 ^ 31 - 1 - actMask a) = 0
  let u := bits m 12 8
  let i := bits m 6 0
  let inRange := a ≤ 5 && unused && (a ≠ 4 || self || (u ≤ 8 && decide (i < unitCount u)))
  let kindOf := fun (n : Nat) (ok : Nat → Bool) => (List.range n).all (fun j => !bitOf m j || ok j)
  let present := match a with
    | 1 => kindOf 12 (fun j => decide (j < p.nCh))
    | 2 => kindOf 24 (fun j => decide (j < p.nOut))
    | 3 => kindOf 4 (fun j => decide (j < p.nLane))
    | 4 => self || !(u ≤ 8 && decide (i < unitCount u)) || p.unitOk u i
    | _ => true
  (inRange, present)

/-- The units of an indication (R394): how many on any variant, and the unit code of R430, or 9 for servos and 10 for
none. -/
def spinKind (code : Nat) : Option Nat :=
  if 1 ≤ code && code ≤ 4 then some 0
  else if 8 ≤ code && code ≤ 18 then some 1
  else if code = 24 || code = 40 then some 10
  else if code = 25 then some 2
  else if code = 26 then some 3
  else if code = 27 then some 4
  else if code = 32 || code = 33 then some 6
  else if code = 36 || code = 37 then some 9 else none

/-- The checks of a record: what must hold, its code, the byte within the record (R382 to R394). -/
def recChecks (p : Part) (t : Nat) (b : List Byte) : List Chk :=
  let g := fun i => fieldLE b i 1
  let le := fun i n => fieldLE b i n
  let zero := fun (l : List Nat) => l.map (fun i => ((g i = 0, rcRange, i) : Chk))
  let lt := fun (x y : Nat) => decide (x < y)
  let cV := p.vaultMB = 0
  if t = stClock then
    let m := g 15
    ([(2560000000 ≤ le 0 5 && le 0 5 ≤ 40960000000, rcRange, 0), (31 ≤ le 5 2 && le 5 2 ≤ 500, rcRange, 5),
      (lt (le 8 3) (le 12 3), rcRange, 8), (le 12 3 ≠ 0, rcRange, 12), (m < 12 || m = 0xFF, rcRange, 15),
      (12 ≤ m || m < p.nCh, rcAbsent, 15), (lt (le 16 4) (2 ^ 20), rcRange, 16)] : List Chk) ++ zero [7, 11, 20, 21, 22, 23]
  else if t = stMemory then
    let s := le 32 4
    ([(!cV || le 0 32 = 0, rcAbsent, 0),
      ((List.range 17).any (fun k => s = 2 ^ k) && 1024 ≤ s && s ≤ (if cV then 8192 else 65536), rcRange, 32)] : List Chk) ++
      (List.range 16).map (fun i => ((g (36 + i) ≤ 6, rcRange, 36 + i) : Chk)) ++ zero [52, 53, 54, 55]
  else if t = stQueue then
    ([(g 0 < 128, rcRange, 0), (g 1 ≤ 1, rcRange, 1), (le 2 2 < 2 ^ 15, rcRange, 2)] : List Chk) ++ zero [4, 5, 6, 7]
  else if t = stStream then
    let n := streamUnits (g 0)
    let kindOk := if n = 24 then (g 1 = 0xFF || p.cand (g 1)) else if n = 12 then (g 1 = 0xFF || lt (g 1) p.nCh)
      else if n = 4 then (if g 1 = 0xFF then p.nLane ≠ 0 else lt (g 1) p.nLane) else true
    ([(streamTypes.contains (g 0), rcRange, 0), (g 1 = 0xFF || lt (g 1) n, rcRange, 1),
      (!(lt (g 1) n || g 1 = 0xFF) || kindOk, rcAbsent, 1), (!(g 0 = 0x40 || g 0 = 0x41) || p.pte, rcAbsent, 0),
      (g 2 < 128 || g 2 = 0xFF, rcRange, 2)] : List Chk) ++ zero [3]
  else if t = stFault then
    let a := actChecks p (g 2) (le 4 4)
    ([(g 0 < 96, rcRange, 0), (!p.fsAbsent (g 0), rcAbsent, 0), (g 1 ≤ 4, rcRange, 1), (g 2 ≤ 5, rcRange, 2), (5 < g 2 || a.1, rcRange, 4),
      (a.2, rcAbsent, 4)] : List Chk) ++ zero [3]
  else if t = stCand then
    ([(g 0 < 24, rcRange, 0), (24 ≤ g 0 || p.cand (g 0), rcAbsent, 0), (g 1 ≤ 3, rcRange, 1),
      (g 2 ≤ (if g 1 = 0 then 7 else if g 1 = 3 then 1 else 3), rcRange, 2), (g 1 ≠ 1 || 3 < g 2 || p.laneOk (g 2), rcAbsent, 2),
      (g 1 ≠ 2 || p.pte, rcAbsent, 1)] : List Chk) ++ zero [3]
  else if t = stChan then
    ([(g 0 < 12, rcRange, 0), (12 ≤ g 0 || lt (g 0) p.nCh, rcAbsent, 0), (g 1 ≤ 3, rcRange, 1), (g 2 < 16 || g 2 = 0xFF, rcRange, 2),
      ((List.range 24).all (fun i => !bitOf (le 4 3) i || p.cand i), rcAbsent, 4)] : List Chk) ++ zero [3, 7, 20, 21, 22, 23]
  else if t = stSyn then
    let w := g 3 * 2 ^ 40 + le 4 5
    ([(g 0 < 4, rcRange, 0), (4 ≤ g 0 || lt (g 0) p.nSyn, rcAbsent, 0), (g 1 ≤ 1, rcRange, 1), (g 2 < 12 || g 2 = 0x0F, rcRange, 2),
      (12 ≤ g 2 || lt (g 2) p.nCh, rcAbsent, 2), (152 * 2 ^ 40 ≤ 10 * w && 10 * w ≤ 176 * 2 ^ 40, rcRange, 3)] : List Chk) ++
      (List.range 6).map (fun m =>
        let div := le (12 + 4 * m) 3
        ((div = 0 || (6 ≤ div && lt (g (15 + 4 * m)) (2 * div)), rcRange, 12 + 4 * m) : Chk)) ++ zero [9, 10, 11]
  else if t = stOut then
    ([(g 0 < 24, rcRange, 0), (24 ≤ g 0 || lt (g 0) p.nOut, rcAbsent, 0), (g 1 ≤ 1, rcRange, 1), (g 2 < 32, rcRange, 2),
      (g 2 < 8 || lt ((g 2 - 8) % 12) p.nCh, rcAbsent, 2)] : List Chk) ++ zero [3]
  else if t = stLane then
    let tx := g 3
    ([(g 0 < 4, rcRange, 0), (4 ≤ g 0 || p.laneOk (g 0), rcAbsent, 0), (g 1 ≤ 2, rcRange, 1),
      (g 2 < 16 && g 2 / 4 ≤ 2, rcRange, 2), (tx ≤ 4, rcRange, 3), (tx = 0 || 4 < tx || lt (tx - 1) p.nSyn, rcAbsent, 3),
      (le 4 2 = 0 || (64 ≤ le 4 2 && le 4 2 ≤ 4096), rcRange, 4)] : List Chk) ++ zero [6, 7]
  else if t = stPtp then
    ([(p.pte, rcAbsent, 0)] : List Chk) ++
      (List.range 4).map (fun i => ((g (4 + i) < 4 || g (4 + i) = 0xFF, rcRange, 4 + i) : Chk)) ++
      (List.range 4).map (fun i => ((4 ≤ g (4 + i) || p.laneOk (g (4 + i)), rcAbsent, 4 + i) : Chk)) ++
      (List.range 4).map (fun i => ((bits (g (8 + i)) 6 3 = 0, rcRange, 8 + i) : Chk)) ++ zero [12, 13, 14, 15]
  else if t = stGlc then
    ([(g 0 < 32, rcRange, 0), (130 ≤ g 1 && g 1 ≤ 252, rcRange, 1)] : List Chk) ++ zero [2, 3, 4, 5, 6, 7]
  else if t = stSpin then
    let k := spinKind (g 1)
    let n := match k with | some 9 => 4 | some 10 => 1 | some u => unitCount u | none => 0
    let here := match k with | some 9 => p.pte | some 10 => true | some u => p.unitOk u (g 2) | none => true
    [(g 0 < 16, rcRange, 0), (k.isSome, rcRange, 1), (k.isNone || lt (g 2) n, rcRange, 2), (!lt (g 2) n || here, rcAbsent, 2),
      (g 3 ≤ 1, rcRange, 3)]
  else []

/-! ## Rules that relate fields (R382 to R394, R164, R320) -/

/-- The rules of the MEMORY record (R320, R383). -/
def Recs.memOk (r : Recs) (p : Part) : Bool :=
  let use := fun n => ((List.range 16).filter (fun b => r.tileUse b = n)).length
  let cV := p.vaultMB = 0
  let reg := r.region
  let stamps := fieldLE (r.item stMemory 0) 32 4
  let inside := (List.range 4).all (fun k => (reg k).1 % 64 = 0 && decide ((reg k).2 ≤ (p.regionDefault k).2) &&
    decide ((reg k).1 + (reg k).2 ≤ p.vaultMB * 2 ^ 20))
  let apart := (List.range 4).all (fun i => (List.range 4).all (fun j => i = j || (reg i).2 = 0 || (reg j).2 = 0 ||
    decide ((reg i).1 + (reg i).2 ≤ (reg j).1) || decide ((reg j).1 + (reg j).2 ≤ (reg i).1)))
  let gr := (List.range 128).foldl (fun a q => a + r.granules q) 0
  use 1 = 1 && 1 ≤ use 2 && use 6 = 1 && (if cV then use 3 = 0 && use 4 = 2 && 1 ≤ use 5 && decide (use 5 ≤ 8)
    else 1 ≤ use 3 && use 4 = 0 && use 5 = 0) &&
    (cV || (inside && apart && (reg 3).2 = 1024 && decide (stamps * 32 ≤ (reg 2).2))) &&
    decide (gr * 4096 ≤ (if cV then use 5 * 131072 else (reg 0).2))

/-- The rules that relate fields, each with the item whose record is at fault. -/
def Recs.conflicts (r : Recs) (p : Part) : List (Bool × Nat) :=
  let ck := r.item stClock 0
  let den := fieldLE ck 12 3
  let prod := fieldLE ck 0 5 * (fieldLE ck 5 2 * den + fieldLE ck 8 3)
  let clockOk := ck.isEmpty || (4995000000 * 256 * den ≤ prod && prod ≤ 5005000000 * 256 * den)
  let master := if ck.isEmpty then 0xFF else fieldLE ck 15 1
  let rotor := fun h => bitOf (fieldLE (r.item stChan h) 1 1) 0
  let tach := fun h => fieldLE (r.item stChan h) 2 1
  let steers := fun h => (List.range 4).any (fun s => fieldLE (r.item stSyn s) 2 1 = h)
  let laneB := fun n => fieldLE (r.item stLane n) 2 1
  let ptp := r.item stPtp 0
  let lane := fun i => fieldLE ptp (4 + i) 1
  [(clockOk, itemKey stClock 0), ((r.item stMemory 0).isEmpty || r.memOk p, itemKey stMemory 0)] ++
    (List.range 12).map (fun h =>
      let alone := (List.range h).all (fun j => tach j ≠ tach h)
      let ok := if rotor h then tach h ≠ 0xFF && fieldLE (r.item stChan h) 4 3 = 0 && alone && !steers h && master ≠ h
        else tach h = 0xFF
      (ok, itemKey stChan h)) ++
    (List.range 24).map (fun o =>
      let s := fieldLE (r.item stOut o) 2 1
      (s < 8 || rotor ((s - 8) % 12), itemKey stOut o)) ++
    (List.range 4).map (fun n =>
      (!(bitOf (laneB n) 1 && n ≠ 0) && (laneB n / 4 = 0 || bitOf (laneB n) 0), itemKey stLane n)) ++
    [((List.range 4).all (fun i => lane i = 0xFF || bitOf (laneB (lane i)) 0) &&
      (List.range 4).all (fun s =>
        let v := fieldLE ptp (8 + s) 1
        let l := lane (v % 4)
        bitOf v 7 || (l ≠ 0xFF && laneB l / 4 = bits v 2 2 + 1)), itemKey stPtp 0)] ++
    (r.sec stStream).map (fun e =>
      let q := fieldLE e.2 2 1
      (q = 0xFF || bitOf (fieldLE (r.item stQueue q) 1 1) 0, itemKey stStream e.1))

/-! ## What changes (R404, R405) -/

/-- The keys of the items whose record differs between two structures; a queue whose middle moves changes too. -/
def changedKeys (p : Part) (old new : Recs) : List Nat :=
  let ks := ((old ++ new).map Prod.fst).eraseDups
  let l := ks.filter (fun k => old.item (k / 65536) (k % 65536) ≠ new.item (k / 65536) (k % 65536))
  let moved := (List.range 128).filter (fun q => old.middleBase p q ≠ new.middleBase p q &&
    (old.granules q ≠ 0 || new.granules q ≠ 0) && !l.contains (itemKey stQueue q))
  l ++ moved.map (itemKey stQueue)

def tileKey : Nat := 0x100000
/-- The parts of a changed MEMORY record: regions, stamp-buffer size, Tile bank uses. -/
def memParts (old new : Recs) : Bool × Bool × Bool :=
  let a := old.item stMemory 0
  let b := new.item stMemory 0
  (a.take 32 ≠ b.take 32, (a.drop 32).take 4 ≠ (b.drop 32).take 4, (a.drop 36).take 16 ≠ (b.drop 36).take 16)

/-- The bytes of a changed PTP record that name a domain, a port or a servo. -/
def ptpDiff (old new : Recs) (x n : Nat) : Bool := ((old.item stPtp 0).drop x).take n ≠ ((new.item stPtp 0).drop x).take n

/-- Items that change only at Course (R405). -/
def liveOnly (old new : Recs) (k : Nat) : Bool :=
  k / 65536 = stClock || k / 65536 = stGlc || (k / 65536 = stMemory && (memParts old new).2.2)

/-- The enable that a changed item requires to be 0 reads 1 (R405); at Course the Footing outputs are exempt (R422).
Log entry 63 (DEDUCED). -/
def Core.itemEnabled (c : Core) (old new : Recs) (course : Bool) (k : Nat) : Bool :=
  let t := k / 65536
  let i := k % 65536
  if t = stMemory then
    let m := memParts old new
    let qs := (List.range 128).any (fun q => c.rdB QMG_Q_CFG.en q && old.granules q ≠ 0)
    (m.1 && (c.rdB PTE_CFG.en || c.rdB TIM_CFG.en || (old.region 0 ≠ new.region 0 && qs))) || (m.2.1 && c.rdB TIM_CFG.en)
  else if t = stQueue then c.rdB QMG_Q_CFG.en i
  else if t = stCand then c.rdB REF_CFG.en i
  else if t = stChan then c.rdB CH_CFG.en i
  else if t = stSyn then c.rdB SYN_CFG.en i
  else if t = stOut then c.rdB OUT_CFG.en i && !(course && decide (i < 4))
  else if t = stLane then c.rdB ETH_CFG.en i
  else if t = stPtp then
    (List.range 2).any (fun d => ptpDiff old new (2 * d) 2 && c.rdB PTE_DOM_CFG.en d) ||
      (List.range 4).any (fun p => (ptpDiff old new (4 + p) 1 && c.rdB PTE_PORT_CFG.en p) ||
        (ptpDiff old new (8 + p) 1 && c.rdB PTE_SV_CFG.en p))
  else false

/-! ## The check (R396) -/

/-- What the check of an image yields: the code and the offset of a failure (0: passed), and the structure that results. -/
structure ImgRes where
  code : Nat := 0
  off : Nat := 0
  recs : Recs := []
  changed : List Nat := []
deriving DecidableEq, Repr

/-- The records of an image merged into a structure; in a partial image a STREAM record with queue 0xFF removes the
assignment that it names (R408). -/
def mergeRecs (isPart : Bool) (base : Recs) (l : List (Nat × List Byte)) : Recs :=
  l.foldl (fun r e =>
    let k := itemKey e.1 (recKey e.1 e.2)
    AMap.set [] r k (if isPart && e.1 = stStream && fieldLE e.2 2 1 = 0xFF then [] else e.2)) base

/-- The offset of an item's record in the image; of its section header's start where it gives none.
Log entry 62 (DESIGN CHOICE). -/
def itemOff (l : List (Nat × Nat × List Byte)) (k : Nat) : Nat :=
  match l.find? (fun e => itemKey e.2.1 (recKey e.2.1 e.2.2) = k) with | some e => e.1 | none => 64

/-- The records of an image: each with its offset and its section type. -/
def imgRecs (b : List Byte) : List (Nat × Nat × List Byte) :=
  (imgSecs b (imgEnd b) 9000 64).1.flatMap (fun s => (s.recs b).map (fun e => (e.1, s.type, e.2)))

/-- The checks of R396 in the order of its table, on the bytes of the staging buffer. An image loaded in Footing changes
nothing before Course applies it, so that R405 holds it to the conditions of Course (R400, R422). Log entries 62 (DESIGN
CHOICE), 137 (DEDUCED). -/
def Core.imgCheck (c : Core) (b : List Byte) (key : Option (List Byte)) (course store : Bool) : ImgRes :=
  let len := imgLen b
  let stop := imgEnd b
  let fail := fun (x : Nat × Nat) => ({ code := x.1, off := x.2 } : ImgRes)
  let c1 : List Chk := [(len % 4 = 0 && 68 ≤ len && len ≤ 65536 && decide (64 + (if imgAuth b then 36 else 4) ≤ len), rcLength, 8)]
  match firstFail c1 with
  | some x => fail x
  | none =>
  let secs := imgSecs b stop 9000 64
  let magic := [0x4D, 0x52, 0x54, 0x52]
  let c2 : List Chk := (List.range 4).map (fun i => ((fieldLE b i 1 = magic.getD i 0, rcMagic, i) : Chk)) ++
    ([(fieldLE b 4 1 = 1, rcVersion, 4)] : List Chk) ++ secs.1.map (fun s => ((s.ver = 1, rcVersion, s.off + 1) : Chk)) ++
    ([(crc32c (b.take 60) = fieldLE b 60 4, rcHdrCrc, 60), (crc32c (b.take stop) = imgId b, rcCrc, stop),
      (!imgAuth b || key.isSome, rcNoKey, 5),
      (!imgAuth b || hmac256 (key.getD []) (b.take (stop + 4)) = (b.drop (stop + 4)).take 32, rcAuth, stop + 4),
      (imgAuth b || c.rdTv MTL_CFG.auth_req = 0, rcAuth, 5),
      (c.part.partCode = fieldLE b 12 2, rcPart, 12),
      (fieldLE b 14 1 = 0 || fieldLE b 14 1 = c.part.variantCode, rcPart, 14)] : List Chk)
  match firstFail c2 with
  | some x => fail x
  | none =>
  let isPart := imgPart b
  let has := fun t => secs.1.any (fun s => s.type = t && s.count ≠ 0)
  let c3 : List Chk := secChecks b 0 secs.1 ++
    ([(secs.2, rcSection, ((secs.1.getLast?).map (fun s => s.off)).getD 64), (fieldLE b 6 2 = secs.1.length, rcSection, 6),
      (isPart || (has stClock && has stMemory), rcSection, 64)] : List Chk)
  match firstFail c3 with
  | some x => fail x
  | none =>
  let l := imgRecs b
  let late := course || c.rd STG_STAT.stage = 1
  let hdr : List Chk := [(!imgVtest b || c.part.vaultMB ≠ 0, rcAbsent, 5), (fieldLE b 5 1 < 8, rcRange, 5),
      (fieldLE b 15 1 = 0, rcRange, 15), (isPart || fieldLE b 20 4 = 0, rcRange, 20), (fieldLE b 30 2 = 0, rcRange, 30),
      (fieldLE b 48 12 = 0, rcRange, 48)]
  let c4 := hdr ++ l.flatMap (fun e => (recChecks c.part e.2.1 e.2.2).map (fun k => ((k.1, k.2.1, e.1 + k.2.2) : Chk)))
  match (minFail c4 rcAbsent).or (minFail c4 rcRange) with
  | some x => fail x
  | none =>
  let old := c.mtl.recs
  let new := mergeRecs isPart (if isPart then old else []) (l.map Prod.snd)
  let ch := changedKeys c.part old new
  let c5 : List Chk := (new.conflicts c.part).map (fun k => ((k.1, rcConflict, itemOff l k.2) : Chk)) ++
    ([(!isPart || (!course && fieldLE b 20 4 = c.rd MTL_ID.id), rcBase, 20)] : List Chk) ++
    ch.map (fun k => ((late || !liveOnly old new k, rcLive, itemOff l k) : Chk)) ++
    ch.map (fun k => ((!c.itemEnabled old new late k, rcEnabled, itemOff l k) : Chk)) ++
    [(!(isPart && store), rcStorePart, 5)]
  match firstFail c5 with
  | some x => fail x
  | none => { recs := new, changed := ch }

end Sys2Proof.Machine
end

