-- ==== Sys2Proof/Machine/Root.lean ====
section
/-! DEFINITION. The root synthesiser: its states and lock counts, the clock fallback and the switch-back, and what stops and
restarts with PCLK (R184 to R191, R521). -/

namespace Sys2Proof.Machine

def rsBypass : Nat := 0
def Core.rsState (c : Core) : Nat := c.rd RS_STAT.state

/-! ## Clocks (R187, R188) -/

/-- The least divisor that keeps a source of `f` at or below `lim` (both in one unit). -/
def leastDiv (f lim : Nat) : Nat := max 1 ((f + lim - 1) / lim)

/-- The source and the divisors of CCLK and SCLK (R187, R188): the local oscillator from its measurement or the image's
figure on (R418). -/
def Core.rsClock (c : Core) : Core :=
  if c.rsState = sLocked then c.wr RS_STAT.clk_src 0
  else if !c.rdB RS_STAT.lo_ok || (c.loNom = 0 && c.rd RS_LO_MEAS.khz = 0) then ((c.wr RS_STAT.clk_src 2).wr RS_STAT.k_c 1).wr RS_STAT.k_s 3
  else
    let nom := c.loNom
    let k := if nom ≠ 0 then (leastDiv nom (256 * 156250000), leastDiv nom (256 * 39062500))
      else (leastDiv (1125 * c.rd RS_LO_MEAS.khz) 156250000, leastDiv (1125 * c.rd RS_LO_MEAS.khz) 39062500)
    ((c.wr RS_STAT.clk_src 1).wr RS_STAT.k_c k.1).wr RS_STAT.k_s k.2

/-! ## What stops and restarts with PCLK (R34, R189, R190, R521) -/

/-- Records held while PCLK was stopped go to their queues in order, behind the items that were on their way before; a
CLK_EVENT record takes the device time of its writing (R191, R213, R521). Log entries 38 (DEDUCED), 55 (DEDUCED). -/
def Core.heldFlush (c : Core) : Core :=
  let l := c.held.map (fun (h : Item) =>
    if h.rtype = 0x28 then { h with body := [h.body.getD 0 0, stamp96 c.now] } else h)
  { c with outbox := c.outbox ++ l, held := [] }

/-- PCLK and TSCLK stop. -/
def Core.pclkStop (c : Core) : Core :=
  let c := c.each (List.range 4) (fun c n => if c.synState n = sOff || c.synState n = sUnlocked then c else c.synUnlock n kcRefLost)
  let c := c.palEvalAll.timClock
  let c := c.each (List.range c.part.nLane) Core.laneEval
  let c := c.vaultSleep
  let c := c.each (List.range c.part.nCh) Core.rotEval
  (c.dtSource.outRefreshAll kcRefLost).palLow

/-- PCLK and TSCLK start. -/
def Core.pclkStart (c : Core) : Core :=
  let c := c.dtSource.heldFlush
  let c := c.each (List.range c.part.nSyn) Core.synEval
  let c := c.palEvalAll
  let c := c.each (List.range c.part.nLane) Core.laneEval
  let c := c.vaultWake.pteResume.pteEval.timDrain.timTabs
  let c := c.each (List.range c.part.nCh) Core.rotEval
  (c.outRefreshAll kcReturn).palLow.fltDrain

/-! ## States (R186) -/

/-- RS takes a state with a cause: its record, event bits and counters, the clocks, and what follows.
Log entry 38 (DEDUCED). -/
def Core.rsGoto (c : Core) (new cause : Nat) : Core :=
  let old := c.rsState
  let c := (c.wr RS_STAT.cause cause).wr RS_STAT.state new
  let c := c.setSyn 4 { c.syn 4 with inWin := 0, outWin := 0 }
  let c := c.clkEvent 0 0 new old cause
  let c := c.on (new = sLocked) (fun c => c.wr RS_EVENT.lock 1)
  let c := c.on (old = sLocked) (fun c => (c.wr RS_EVENT.lock_lost 1).bump RS_UNLOCK_CNT.count)
  let c := c.on (old = sAcq && cause = kcRetry) (fun c => (c.wr RS_EVENT.retry 1).bump RS_RETRY_CNT.count)
  let c := c.on (cause = kcLockLost || (old = sAcq && cause = kcRetry)) (fun c => c.raise 24)
  let c := c.rsClock
  if new = sLocked then c.pclkStart else if old = sLocked then c.pclkStop else c

/-- UNLOCKED goes on to CALIBRATING while the local oscillator runs (R186). -/
def Core.rsRetry (c : Core) : Core :=
  if c.rsState = sUnlocked && c.rdB RS_STAT.lo_ok then c.rsGoto sCal kcRetry else c

/-- The Course stage starts RS, or waits for the local oscillator (R186, R421, R423). -/
def Core.rsCourse (c : Core) : Core :=
  if !c.rdB RS_STAT.lo_ok then c.wr STG_STAT.wait 2
  else if c.rsState = rsBypass then (c.wr STG_STAT.wait 0).rsGoto sCal kcStart else c

/-! ## The commands -/

def rsCalDoneStep (c : Core) : Core := if c.rsState = sCal then c.rsGoto sAcq kcCalDone else c

/-- A lock count within its window (R184). -/
def inWindow (count win : Nat) : Bool := 65536 ≤ count + win && count ≤ 65536 + win

/-- The runs of counts in and out of window after one more. Log entry 21 (DEDUCED). -/
def Core.countRun (c : Core) (u : Nat) (ok : Bool) : Core :=
  let x := c.syn u
  c.setSyn u { x with inWin := if ok then min 4 (x.inWin + 1) else 0, outWin := if ok then 0 else min 2 (x.outWin + 1) }

/-- A lock count of a SYN (0 to 3) or of RS (4) ends (R184, R186, R192). Log entries 21 (DEDUCED), 127
(DESIGN CHOICE). -/
def lockCountEndStep (unit : Fin 5) (count : BitVec 32) (c : Core) : Core :=
  let u := unit.val
  let n := count.toNat
  if u = 4 then
    let st := c.rsState
    if st ≠ sAcq && st ≠ sLocked then c else
    let c := (c.wr RS_FCOUNT.count n).countRun 4 (inWindow n (c.rd RS_LOCK_CFG.win))
    if st = sAcq && (c.syn 4).inWin = 4 then ({ c.on (c.rd STG_STAT.wait = 4) (fun c => c.wr STG_STAT.wait 0) with rsTried := false }).rsGoto sLocked kcLock
    else if st = sLocked && (c.syn 4).outWin = 2 then (c.rsGoto sUnlocked kcLockLost).rsRetry
    else c
  else
    let st := c.synState u
    if c.part.nSyn ≤ u || (st ≠ sAcq && st ≠ sLocked) then c else
    let c := (c.wr SYN_FCOUNT.count n u).countRun u (inWindow n (c.rd SYN_LOCK_CFG.win u))
    if st = sAcq && (c.syn u).inWin = 4 then (c.synGoto u sLocked kcLock).retEval u false
    else if st = sLocked && (c.syn u).outWin = 2 then c.synUnlock u kcLockLost
    else c

/-- 10 ms without lock since the entry to ACQUIRING (R186, R192, R423). -/
def acquireTimeoutStep (unit : Fin 5) (c : Core) : Core :=
  let u := unit.val
  if u = 4 then
    if c.rsState ≠ sAcq then c
    else (c.on (c.rd STG_STAT.stage = 2) (fun c => { c with rsTried := true }.wr STG_STAT.wait 4)).rsGoto sCal kcRetry
  else if c.part.nSyn ≤ u || c.synState u ≠ sAcq then c
  else c.synGoto u sCal kcRetry

/-- An RS_CTRL.relock pulse (R186). Log entry 38 (DEDUCED). -/
def Core.rsRelock (c : Core) : Core := if c.rsState = sLocked then (c.rsGoto sUnlocked kcHost).rsRetry else c
def rsRelockStep (c : Core) : Core := c.rsRelock

/-- lo_ok falls (R186, R187, R199, R423). -/
def loLossStep (c : Core) : Core :=
  if !c.rdB RS_STAT.lo_ok then c else
  let c := (c.wr RS_STAT.lo_ok 0).wr RS_EVENT.lo_lost 1
  let st := c.rsState
  let c := if st = sCal || st = sAcq || st = sLocked then c.rsGoto sUnlocked kcLoLost else c.rsClock
  let c := c.on (c.rd STG_STAT.stage = 2 && c.rd STG_STAT.step = 2) (fun c => c.wr STG_STAT.wait 2)
  (c.outRefreshAll kcLoLost).raise 26

/-- lo_ok rises (R186, R187, R418, R423). Where Footing was reported without it, the local oscillator is measured now.
Log entry 113 (DEDUCED). -/
def loRestoredStep (c : Core) : Core :=
  if c.rdB RS_STAT.lo_ok || c.inReset then c else
  let c := (c.wr RS_STAT.lo_ok 1).wr RS_EVENT.lo_back 1
  let c := (c.on (c.footed && c.loNom = 0) (fun c => c.wrU RS_LO_MEAS.khz c.loKhz)).rsClock
  let c := c.on (c.rd STG_STAT.wait = 2) (fun c => c.wr STG_STAT.wait
    (if c.rd STG_STAT.stage = 1 && 4 ≤ c.rd STG_STAT.bootsel then 1 else if c.rsTried then 4 else 0))
  let c := c.rsRetry
  let c := if c.rd STG_STAT.stage = 2 && c.rd STG_STAT.step = 2 then c.rsCourse else c
  c.outRefreshAll kcStart

/-! ## The meanings of the commands -/

/-- RS_CAL_DONE (R186). -/
def execRsCalDone (s : State) : Out := onRunCore rsCalDoneStep s

/-- LOCK_COUNT_END (R184). -/
def execLockCountEnd (unit : Fin 5) (count : BitVec 32) (s : State) : Out := onRunCore (lockCountEndStep unit count) s

/-- ACQUIRE_TIMEOUT (R186). -/
def execAcquireTimeout (unit : Fin 5) (s : State) : Out := onRunCore (acquireTimeoutStep unit) s

/-- RS_RELOCK (R186). -/
def execRsRelock (s : State) : Out := onRunCore rsRelockStep s

/-- LO_LOSS (R187). -/
def execLoLoss (s : State) : Out := onRunCore loLossStep s

/-- LO_RESTORED (R187). -/
def execLoRestored (s : State) : Out := onRunCore loRestoredStep s

end Sys2Proof.Machine
end

