-- ==== Sys2Proof/Machine/Mortar.lean ====
section
/-! DEFINITION. The Mortar loader: loads, application step by step, placement epochs, stores into Firn and aborts (R398 to
R413). -/

namespace Sys2Proof.Machine

def mlIdle : Nat := 0
def mlVerifying : Nat := 1
def mlApplying : Nat := 2
def mlTesting : Nat := 3
def mlStoring : Nat := 4

def Core.mlState (c : Core) : Nat := c.rd MTL_STAT.state
def Core.setMtl (c : Core) (u : MtlU) : Core := { c with mtl := u }

/-- The bytes of the staging buffer. -/
def Mem.stagedBytes (m : Mem) (n : Nat) : List Byte := (List.range n).map (fun i => m.staged.get 0#8 i)

/-- The image in the staging buffer, by the length its header gives. -/
def Mem.image (m : Mem) : List Byte := m.stagedBytes (min 65536 (imgLen (m.stagedBytes 12)))

/-- An IMAGE_EVENT record (R412). -/
def Core.imageEvent (c : Core) (ev reject src : Nat) (isPart auth : Bool) (test id seq : Nat) : Core :=
  let t := if c.rd STG_DT_STAT.src = srcUnset then 0 else c.now
  c.emit 0x04 0 0x40000 [packWord [(109, 107, ev), (106, 102, reject), (101, 100, src), (99, 99, b2n isPart), (98, 98, b2n auth),
    (97, 96, test), (95, 92, c.rd MTL_STAT.epoch), (63, 32, id), (31, 0, seq)], stamp96 t]

/-! ## Held units (R403, R405) -/

/-- The step that changes an item (R403). -/
def keyStep (k : Nat) : Nat :=
  let t := k / 65536
  if t = stClock || t = stMemory || t = stQueue then 2
  else if t = stStream then 4
  else if t = stFault then 5
  else if t = stCand || t = stChan || t = stGlc then 6
  else if t = stSyn || t = stOut then 7
  else if t = stLane || t = stPtp then 8 else 9

/-- The application holds a unit of a section type. -/
def Core.mtlHolds (c : Core) (t k : Nat) : Bool := c.mtl.heldKeys.contains (itemKey t k)

/-- A unit of R430's code is held by a changed MEMORY record: what R405 asks of the regions and of the stamp buffer's size.
Log entry 80 (DEDUCED). -/
def Core.memHolds (c : Core) (u i : Nat) : Bool :=
  c.mtlHolds stMemory 0 && (match c.mtl.app with
    | none => true
    | some a =>
      let m := memParts c.mtl.recs a.recs
      match u with
      | 5 => m.1 || m.2.1
      | 7 => m.1
      | _ => Recs.region c.mtl.recs 0 ≠ Recs.region a.recs 0 && (Recs.granules c.mtl.recs i ≠ 0 || Recs.granules a.recs i ≠ 0))

/-- A domain, port or servo of the PTE is held by a changed PTP record, whose bytes name it. -/
def Core.ptpHolds (c : Core) (x n : Nat) : Bool :=
  c.mtlHolds stPtp 0 && (match c.mtl.app with | none => true | some a => ptpDiff c.mtl.recs a.recs x n)

/-- The application holds a unit of R430's code (R403, R405). Log entry 80 (DEDUCED). -/
def Core.unitHeld (c : Core) (u i : Nat) : Bool :=
  match u with
  | 0 => c.mtlHolds stCand i
  | 1 => c.mtlHolds stChan i
  | 2 => c.mtlHolds stSyn i
  | 3 => c.mtlHolds stOut i
  | 5 => c.memHolds 5 0
  | 6 => c.mtlHolds stLane i
  | 7 => c.mtlHolds stPtp 0 || c.memHolds 7 0
  | 8 => c.mtlHolds stQueue i || c.memHolds 8 i
  | _ => false

/-! ## What a step loads (R403, R409, R422) -/

/-- The registers of the CLOCK record (R382). -/
def Core.loadClock (c : Core) (b : List Byte) : Core :=
  let c := (c.wr RS_LO_NOM_LO.nom_lo (fieldLE b 0 4)).wr RS_LO_NOM_HI.nom_hi (fieldLE b 4 1)
  let c := ((c.wr RS_FB_INT.n_int (fieldLE b 5 2)).wr RS_FB_NUM.num (fieldLE b 8 3)).wr RS_FB_DEN.den (fieldLE b 12 3)
  let m := fieldLE b 15 1
  let c := c.wr STG_DT_STAT.master (if m < 12 then m else 15)
  let c := c.each (List.range 12) (fun c h => c.wrB CH_STAT.master (h = m) h)
  c.each [(STG_BG_SHARE.tvscrub, 16), (STG_BG_SHARE.telem, 12), (STG_BG_SHARE.fscrub, 8), (STG_BG_SHARE.vscrub, 4),
    (STG_BG_SHARE.cal, 0)] (fun c e => c.wr e.1 (bits (fieldLE b 16 4) (e.2 + 3) e.2))

/-- The registers and tables of the MEMORY record (R383). -/
def Core.loadMemory (c : Core) (r : Recs) : Core :=
  let regs := (List.range 4).map r.region
  let b := r.item stMemory 0
  let c := { c with memMap := { regions := regs, bufCap := fieldLE b 32 4, tileUse := (List.range 16).map r.tileUse } }
  c.each (List.range 4) (fun c k => (c.wr VLT_REG_BASE.base (regs.getD k (0, 0)).1 0 k).wr VLT_REG_SIZE.size (regs.getD k (0, 0)).2 0 k)

/-- A field whose record changes is reloaded, and so is one that the host has written, itself or through its staging
field `g`, while its unit was held; any other keeps what the host has written before (R404, R411). Log entry 61
(DEDUCED). -/
def Core.reloadVia (c : Core) (g f : Fld) (old new i k : Nat) : Core :=
  if old = new && !c.mtl.wrote.contains (g.key i k) then c else c.wr f new i k

/-- The same for a field that the host writes itself. Log entries 3 (DESIGN CHOICE), 61 (DEDUCED). -/
def Core.reload (c : Core) (f : Fld) (old new : Nat) (i : Nat := 0) (k : Nat := 0) : Core := c.reloadVia f f old new i k

/-- The same for a field with a shadow copy (R364). Log entry 61 (DEDUCED). -/
def Core.reloadTv (c : Core) (f : Fld) (old new i : Nat) : Core := if old = new then c else c.wrTv f new i

/-- A changed queue: its registers, and its items discarded (R384, R405). -/
def Core.loadQueue (c : Core) (o b : List Byte) (q : Nat) : Core :=
  let c := (c.reload QMG_Q_CFG.en (fieldLE o 1 1 % 2) (fieldLE b 1 1 % 2) q).reload QMG_Q_CFG.granules
    (fieldLE o 2 2) (fieldLE b 2 2) q
  let x := c.queue q
  (c.setQueue q { x with items := [], rp := x.nextPos, mark := none }).queueRegs q

/-- The bases of all middles (R384). Log entry 65 (DEDUCED). -/
def Core.loadBases (c : Core) (r : Recs) : Core :=
  c.each (List.range 128) (fun c q => c.wr QMG_Q_BASE.base (r.middleBase c.part q) q)

/-- The streams take their queues; touched queues take the next epoch, at Course all stay at epoch 0 (R409). -/
def Core.loadStreams (c : Core) (l : List Stream) (course : Bool) : Core :=
  let units := streamTypes.flatMap (fun rt => (List.range (streamUnits rt)).map (fun u => (rt, u)))
  let old := units.map (fun u => c.streamQueue u.1 u.2)
  let c := { c with streams := l }
  let new := units.map (fun u => c.streamQueue u.1 u.2)
  let touched := ((old.zip new).filter (fun p => p.1 ≠ p.2)).flatMap (fun p => p.1.toList ++ p.2.toList)
  let c := c.each (List.range 128) (fun c q =>
    let types := (l.filter (fun s => s.queue = q)).map Stream.rtype
    c.wr QMG_Q_CFG.rtype (types.foldl (fun a t => if a = 0 then t else min a t) 0) q)
  if course || touched.isEmpty then c else
  let c := c.bumpWrap MTL_STAT.epoch
  let e := c.rd MTL_STAT.epoch
  c.each ((List.range 128).filter (fun q => touched.contains q)) (fun c q => c.epochChange q e)

/-- A FAULT record (R386). -/
def Core.loadFault (c : Core) (o b : List Byte) (fs : Nat) : Core :=
  let c := (c.reloadTv FLT_SRC_CFG.sev (fieldLE o 1 1) (fieldLE b 1 1) fs).reloadTv FLT_SRC_CFG.action
    (fieldLE o 2 1) (fieldLE b 2 1) fs
  let m := fieldLE o 4 4
  let n := fieldLE b 4 4
  let c := (c.reloadTv FLT_SRC_MASK.tgt (m % 2 ^ 31) (n % 2 ^ 31) fs).reloadTv FLT_SRC_MASK.self (m / 2 ^ 31) (n / 2 ^ 31) fs
  (c.on (decide (c.sev fs < 3)) (fun c => c.wrBit FLT_GUARD.run (fs % 32) false 0 (fs / 32))).fltRefresh

def Core.loadCand (c : Core) (o b : List Byte) (i : Nat) : Core :=
  ((c.reload REF_QL_CFG.src (fieldLE o 1 1) (fieldLE b 1 1) i).reload REF_QL_CFG.src_idx (fieldLE o 2 1) (fieldLE b 2 1) i).qlSource i

/-- A CHAN record (R388). -/
def Core.loadChan (c : Core) (o b : List Byte) (h : Nat) : Core :=
  let fo := fieldLE o 1 1
  let fl := fieldLE b 1 1
  let c := (c.reload CH_CFG.kind (fo % 2) (fl % 2) h).reload GLC_MDL_CFG.learn_en (fo / 2 % 2) (fl / 2 % 2) h
  let t := fieldLE b 2 1
  let c := { c with tach := c.tach.set 0 h (if t < 16 then t + 1 else 0) }
  let c := c.reload CH_ROUTE.mask (fieldLE o 4 3) (fieldLE b 4 3) h
  c.each (List.range 3) (fun c k => c.reload CH_PRIO.p (fieldLE o (8 + 4 * k) 4) (fieldLE b (8 + 4 * k) 4) h k)

/-- A SYN record (R389), and the channels that steer (CH_STEER); without one f_s is 0 (R182). -/
def Core.loadSyn (c : Core) (o b : List Byte) (s : Nat) : Core :=
  let st := fieldLE b 2 1
  let c := (c.reload SYN_CFG.aux (fieldLE o 1 1 % 2) (fieldLE b 1 1 % 2) s).reload SYN_CFG.steer (fieldLE o 2 1) st s
  let c := c.each (List.range 12) (fun c h => c.wrBit CH_STEER.syn s (h = st) h)
  let e := fieldLE o 4 5
  let f := fieldLE b 4 5
  let c := c.reload SYN_FB_HI.n_int (fieldLE o 3 1) (fieldLE b 3 1) s
  let c := (c.reload SYN_FB_HI.frac_hi (e / 2 ^ 32) (f / 2 ^ 32) s).reload SYN_FB_LO.frac_lo (e % 2 ^ 32) (f % 2 ^ 32) s
  let c := c.each (List.range 6) (fun c m =>
    let d := fieldLE o (12 + 4 * m) 3
    let div := fieldLE b (12 + 4 * m) 3
    let p := fieldLE o (15 + 4 * m) 1
    let ph := fieldLE b (15 + 4 * m) 1
    let c := (c.reload SYN_DIV_STAGE.div d div s m).reload SYN_DIV_STAGE.phase p ph s m
    (c.reloadVia SYN_DIV_STAGE.div SYN_DIV_ACT.div d div s m).reloadVia SYN_DIV_STAGE.phase SYN_DIV_ACT.phase p ph s m)
  let c := c.on (12 ≤ st) (fun c => c.setSyn s { c.syn s with fS := 0, fNext := 0 })
  let c := if (c.syn s).ssc.isSome = c.sscAsked s then c else c.sscApply s
  ((c.synMode s).synEval s).bankRefresh s kcHost

/-- An OUT record (R390); at Course a Footing output that leaves its SYN is disabled first (R422). A PAL-sourced output
has no bit in SYN_STAT.byp; one that becomes sourced from its SYN is in bypass unless the SYN is LOCKED and has returned (R192,
R199, R215). -/
def Core.loadOut (c : Core) (o b : List Byte) (k : Nat) (course : Bool) : Core :=
  let src := fieldLE b 1 1
  let c := if course && decide (k < 4) && src ≠ 0 then c.outEnable k false else c
  let was := c.rdB OUT_CFG.src k
  let c := (c.reload OUT_CFG.src (fieldLE o 1 1) src k).reload OUT_CFG.pal_src (fieldLE o 2 1) (fieldLE b 2 1) k
  let n := k / 6
  let byp := !(c.synState n = sLocked && (c.syn n).returned) || c.rdB OUT_CFG.force_byp k
  let c := c.on (src ≠ 0 || was) (fun c => c.wrBit SYN_STAT.byp (k % 6) (src = 0 && byp) n)
  (c.outRefresh k kcHost).palLow

/-- A LANE record (R391); a change of hlk or seg ends the in-band session (R405). -/
def Core.loadLane (c : Core) (o b : List Byte) (n : Nat) : Core :=
  let fo := fieldLE o 2 1
  let fl := fieldLE b 2 1
  let c := (c.reload ETH_CFG.mode (fieldLE o 1 1) (fieldLE b 1 1) n).reload ETH_CFG.role (fo % 2) (fl % 2) n
  let c := ((c.reload ETH_CFG.hlk (fo / 2 % 2) (fl / 2 % 2) n).reload ETH_CFG.domain (fo / 4 % 4) (fl / 4 % 4) n).reload
    ETH_CFG.txclk (fieldLE o 3 1) (fieldLE b 3 1) n
  if n ≠ 0 then c else
  let seg := if fieldLE b 4 2 = 0 then 256 else fieldLE b 4 2
  let changed := c.rd HLK_IB_CFG.en ≠ fl / 2 % 2 || c.rd HLK_IB_CFG.seg ≠ seg
  let c := (c.wr HLK_IB_CFG.en (fl / 2 % 2)).wr HLK_IB_CFG.seg seg
  (if changed then { c with host := { c.host with ports := c.host.ports.set {} 1 {} } } else c).bufFlow 0

/-- The PTP record (R392). A port without a lane shows lane 0. -/
def Core.loadPtp (c : Core) (o b : List Byte) : Core :=
  let ln := fun (x : Nat) => if x = 0xFF then 0 else x
  let c := c.each (List.range 2) (fun c d =>
    (c.reload PTE_DOM_CFG.profile (fieldLE o (2 * d) 1) (fieldLE b (2 * d) 1) d).reload PTE_DOM_CFG.number
      (fieldLE o (2 * d + 1) 1) (fieldLE b (2 * d + 1) 1) d)
  c.each (List.range 4) (fun c p =>
    let r := fieldLE o (8 + p) 1
    let s := fieldLE b (8 + p) 1
    ((c.reload PTE_PORT_CFG.lane (ln (fieldLE o (4 + p) 1)) (ln (fieldLE b (4 + p) 1)) p).reload PTE_SV_CFG.port
      (r % 4) (s % 4) p).reload PTE_SV_CFG.domain (r / 4 % 2) (s / 4 % 2) p)

/-- One changed item of a step, loaded into the part. Log entry 61 (DEDUCED). -/
def Core.loadItem (c : Core) (a : ApplyRun) (k : Nat) : Core :=
  let t := k / 65536
  let i := k % 65536
  let o := Recs.item c.mtl.recs t i
  let b := Recs.item a.recs t i
  if t = stClock then c.loadClock b
  else if t = stMemory then c.loadMemory a.recs
  else if t = stQueue then c.loadQueue o b i
  else if t = stFault then c.loadFault o b i
  else if t = stCand then c.loadCand o b i
  else if t = stChan then c.loadChan o b i
  else if t = stGlc then (c.wr GLC_AGE_CFG.tally (fieldLE b 0 1)).wr GLC_STORE_CFG.page (fieldLE b 1 1)
  else if t = stSyn then c.loadSyn o b i
  else if t = stOut then c.loadOut o b i a.course
  else if t = stLane then c.loadLane o b i
  else if t = stPtp then c.loadPtp o b
  else c

/-- The items of a step loaded, and the structure in force brought up to them; their units are held no longer.
Log entry 65 (DEDUCED). -/
def Core.loadStep (c : Core) (a : ApplyRun) (n : Nat) : Core :=
  let ks := a.changed.filter (fun k => keyStep k = n)
  let c := c.each ks (fun c k => c.loadItem a k)
  let recs := ks.foldl (fun r k => AMap.set [] r k (AMap.get [] a.recs k)) c.mtl.recs
  let c := c.setMtl { c.mtl with recs := recs, heldKeys := c.mtl.heldKeys.filter (fun k => keyStep k ≠ n) }
  let c := c.on (n = 2 && ks.any (fun k => k / 65536 = stQueue || k / 65536 = stMemory)) (fun c => c.loadBases a.recs)
  c.on (n = 4) (fun c => c.loadStreams (Recs.streams recs) a.course)

/-! ## Stores into Firn (R401) -/

/-- The directory page: the active slot, its sequence, the two ids and the length; nothing of it where it is not valid. -/
def Mem.directory (m : Mem) : Option (Nat × Nat × Nat × Nat) :=
  let p := m.front (128 * 1024) 32
  if fieldLE p 0 1 = 0x44 && fieldLE p 1 1 = 1 && fieldLE p 2 1 ≤ 1 && fieldLE p 28 4 = crc32c (p.take 28) then
    some (fieldLE p 2 1, fieldLE p 8 4, fieldLE p 12 4, fieldLE p 16 4)
  else none

/-- The slot that the directory names; slot 0 where it is not valid (R400). Log entry 66 (DEDUCED). -/
def Mem.activeSlot (m : Mem) : Nat := match m.directory with | some d => d.1 | none => 0

/-- STORING begins: the image goes into the inactive slot, whose pages are to be stored. Log entry 64 (DEDUCED). -/
def Dev.storeBegin (d : Dev) : Dev :=
  let img := d.mem.image
  let slot := 1 - d.mem.activeSlot
  let pages := max 1 ((img.length + 1023) / 1024)
  let c := (d.core.wr MTL_STAT.state mlStoring).frontWrite (slot * 65536) img
  let c := c.storeAsk 2 (slot * 64) (slot * 64 + pages - 1)
  { d with core := c.setMtl { c.mtl with storing := some (slot, img.length, imgId img, imgSeq img) } }

/-- The directory naming the slot just stored (R401). -/
def directoryPage (slot seq id0 id1 len : Nat) : List Byte :=
  let b := [0x44#8, 0x01#8, byteN slot, 0#8] ++ bytesLE 4 seq ++ bytesLE 4 id0 ++ bytesLE 4 id1 ++ bytesLE 4 len ++ zeros 8
  b ++ bytesLE 4 (crc32c b)

/-- The loader takes up the outcome of its store: after the slot the directory is stored, after the directory it is IDLE; a
failure leaves the directory as it was (R401, R402). -/
def Dev.storeOutcome (d : Dev) : Dev :=
  match d.core.mtl.storing, d.core.firnU.done with
  | some s, (k, res) :: rest =>
    if res = 2 then d else
    let c := { d.core with firnU := { d.core.firnU with done := rest } }
    let src := 3
    if res ≠ 0 then
      let c := if k = 3 && c.firnU.dirNew.isNone then c.frontWrite 131072 c.firnU.dirOld else c
      let c := { c with firnU := { c.firnU with dirNew := none } }
      let c := ((c.wr MTL_EVENT.store_fail 1).wr MTL_STAT.state mlIdle).imageEvent 3 0 src false (imgAuth d.mem.image) 0 s.2.2.1 s.2.2.2
      { d with core := (c.setMtl { c.mtl with storing := none }).raise 56 }
    else if k = 2 then
      let ids := match d.mem.directory with | some x => (x.2.1, x.2.2.1) | none => (0, 0)
      let ids := if s.1 = 0 then (s.2.2.1, ids.2) else (ids.1, s.2.2.1)
      let c := { c with firnU := { c.firnU with dirNew := some (directoryPage s.1 s.2.2.2 ids.1 ids.2 s.2.1) } }
      { d with core := c.storeAsk 3 128 128 }
    else
      let c := ((c.wr MTL_EVENT.stored 1).wr MTL_STAT.active_slot s.1).wr MTL_STAT.state mlIdle
      let c := c.imageEvent 2 0 src false (imgAuth d.mem.image) 0 s.2.2.1 s.2.2.2
      { d with core := c.setMtl { c.mtl with storing := none } }
  | _, _ => d

/-- A loader store that the rate limit refused is repeated (R401). -/
def storeRetryStep (c : Core) : Core :=
  match c.mtl.storing, c.firnU.done with
  | some s, (k, 2) :: rest =>
    let c := { c with firnU := { c.firnU with done := rest } }
    let pages := max 1 ((s.2.1 + 1023) / 1024)
    if k = 2 then c.storeAsk 2 (s.1 * 64) (s.1 * 64 + pages - 1) else c.storeAsk 3 128 128
  | _, _ => c

/-! ## Loads (R399, R400, R402) -/

/-- The loader refuses a load pulse unless it is IDLE (R399). Log entry 64 (DEDUCED). -/
def Core.mtlLoad (c : Core) : Core × Bool :=
  if c.mlState ≠ mlIdle then
    (c.reject MTL_CFG_REJECT.valid MTL_CFG_REJECT.count MTL_CFG_REJECT.word 1, false)
  else
    let run : LoadRun := { apply := c.rdB MTL_CTRL.apply, store := c.rdB MTL_CTRL.store }
    ((c.setMtl { c.mtl with load := some run }).wr MTL_STAT.state mlVerifying, true)

def loadStep (c : Core) : Core := c.mtlLoad.1

/-- A Firn slot copied into the staging buffer, and its verification begun (R400). Log entry 63 (DEDUCED). -/
def Dev.slotLoad (d : Dev) (slot : Nat) (second : Bool) : Dev :=
  let c := d.core.setMtl { d.core.mtl with load := some { apply := true, src := slot + 1, course := true, second := second } }
  { core := c.wr MTL_STAT.state mlVerifying,
    mem := { d.mem with staged := AMap.setRange 0#8 [] 0 65536 (fun i => d.mem.firn.get 0#8 (slot * 65536 + i)) } }

/-- No image: FS55, and the Course stage waits (R400, R423). Log entry 66 (DEDUCED). -/
def Core.noImage (c : Core) : Core :=
  let c := (c.setMtl { c.mtl with load := none }).wr MTL_STAT.state mlIdle
  let c := c.imageEvent 6 0 0 false false 0 0 0
  ((c.wr MTL_STAT.src 0).wr STG_STAT.wait 3).raise 55

/-- The directory page and both slots hold nothing (R400). Log entry 66 (DEDUCED). -/
def Mem.firnBlank (m : Mem) : Bool :=
  (m.front (128 * 1024) 32).all (· = 0#8) && (m.front 0 64).all (· = 0#8) && (m.front 65536 64).all (· = 0#8)

/-- Step 1 of Course, which begins in IDLE: the pending image, or the active slot of Firn (R400, R402, R421). Log entry 63
(DEDUCED). -/
def Dev.courseImage (d : Dev) : Dev :=
  if d.core.rdB MTL_STAT.pending then
    let c := d.core.setMtl { d.core.mtl with load := some { apply := true, src := 3, course := true } }
    { d with core := (c.wr MTL_STAT.pending 0).wr MTL_STAT.state mlVerifying }
  else if d.mem.firnBlank then { d with core := d.core.noImage }
  else d.slotLoad d.mem.activeSlot false

/-- The loader in IDLE takes up what has waited for it: Course's image, or the store held from Footing once Course is reported
(R400, R402). Log entry 63 (DEDUCED). -/
def Dev.loaderFree (d : Dev) : Dev :=
  let c := d.core
  if c.mlState ≠ mlIdle then d
  else if c.mtl.courseAsk then Dev.courseImage { d with core := c.setMtl { c.mtl with courseAsk := false } }
  else if c.rdB MTL_STAT.pending_store && c.rd STG_STAT.stage = 3 then Dev.storeBegin { d with core := c.wr MTL_STAT.pending_store 0 }
  else d

/-- A rejection (R396, R412, R413). Log entry 64 (DEDUCED). -/
def Core.imgReject (c : Core) (code off src : Nat) (b : List Byte) : Core :=
  let c := ((c.wr MTL_STAT.reject code).wr MTL_REJ_OFFS.offs off).wr MTL_EVENT.rejected 1
  let c := (c.bump MTL_REJECT_CNT.count).wr MTL_STAT.state mlIdle
  let c := c.setMtl { c.mtl with load := none, app := none, heldKeys := [], wrote := [] }
  (c.imageEvent 0 code src (imgPart b) (imgAuth b) 0 (imgId b) (imgSeq b)).raiseInfo 54 0 code false

/-- The slot just verified is good, or not (MTL_FIRN_STAT). -/
def Core.slotOk (c : Core) (src : Nat) (ok : Bool) : Core :=
  if src = 1 then c.wrB MTL_FIRN_STAT.slot0_ok ok else if src = 2 then c.wrB MTL_FIRN_STAT.slot1_ok ok else c

/-- The verification ends: the image in the staging buffer is rejected, left pending, or passed to application or storing; an
image of the host applied while Course waits for the loader is Course's (R396, R399, R400, R402). Log entry 63 (DEDUCED). -/
def Dev.verifyEnd (d : Dev) : Dev :=
  match d.core.mtl.load with
  | none => d
  | some run =>
    if d.core.mlState ≠ mlVerifying then d else
    let b := d.mem.image
    let c := d.core
    let stage := c.rd STG_STAT.stage
    let course := run.course || (stage = 2 && (c.rd STG_STAT.wait = 3 || c.mtl.courseAsk))
    let r := c.imgCheck b d.mem.key course run.store
    let c := c.slotOk run.src (r.code = 0)
    let c := c.on (r.code = 0 || rcCrc < r.code) (fun c => c.wr MTL_LAST_ID.id (imgId b))
    if r.code ≠ 0 then
      let c := c.imgReject r.code r.off run.src b
      if !run.course then { d with core := c }
      else if run.src = 3 then
        let c := c.wr MTL_STAT.pending_store 0
        (if d.mem.firnBlank then { d with core := c.noImage } else Dev.slotLoad { d with core := c } d.mem.activeSlot false)
      else if !run.second then Dev.slotLoad { d with core := c } (2 - run.src) true
      else { d with core := c.noImage }
    else
      let c := (c.bump MTL_LOAD_CNT.count).wr MTL_STAT.reject 0
      let c := c.setMtl { c.mtl with load := none }
      let c := if run.second then
          (c.wr MTL_EVENT.slot_fallback 1).imageEvent 5 0 run.src (imgPart b) (imgAuth b) 0 (imgId b) (imgSeq b)
        else c
      if stage = 1 && run.apply then
        { d with core := ((c.wr MTL_STAT.pending 1).wrB MTL_STAT.pending_store run.store).wr MTL_STAT.state mlIdle }
      else if run.apply then
        let a : ApplyRun := {
          recs := r.recs, changed := r.changed, id := imgId b, seq := imgSeq b, isPart := imgPart b, auth := imgAuth b
          src := run.src, store := run.store, vtest := imgVtest b, course := course }
        let c := c.on course (fun c => (c.wr STG_STAT.wait 0).on c.mtl.courseAsk (fun c => (c.wr MTL_STAT.pending 0).wr MTL_STAT.pending_store 0))
        let c := c.setMemU { c.memU with vRes := 0 }
        { d with core := ((c.setMtl { c.mtl with app := some a, courseAsk := false }).wr MTL_STAT.step 0).wr MTL_STAT.state mlApplying }
      else if run.store then { d with core := c }.storeBegin
      else { d with core := c.wr MTL_STAT.state mlIdle }

/-- VERIFY_DONE (R396). -/
def verifyDoneStep (d : Dev) : Dev := d.verifyEnd.loaderFree

/-! ## Application (R403 to R407) -/

/-- A step that changes a PCLK block waits while PCLK is stopped, but at Course (R34, R403, R421). -/
def Core.stepWaits (c : Core) (a : ApplyRun) (n : Nat) : Bool :=
  !c.pclk && !a.course && (n = 2 || n = 4 || n = 8) && a.changed.any (fun k => keyStep k = n)

/-- Step 3 begins: the preserving Vault test, or nothing (R407). A Vault in self-refresh from READY starts it at its
return. -/
def Core.stepTest (c : Core) (a : ApplyRun) : Core :=
  let s := c.vaultState
  let c := c.wr MTL_STAT.step 3
  if !a.vtest || a.course then c.wr MTL_STAT.step 4
  else if s = vltReady then (c.wr MTL_STAT.state mlTesting).vaultTest false true
  else if s = vltRefresh && c.memU.vBack = vltReady then c.wr MTL_STAT.state mlTesting
  else c.wr MTL_STAT.step 4

/-- The application ends (step 10): the image in force, its record, and what follows; `us` is how long it took. -/
def Dev.applyEnd (d : Dev) (a : ApplyRun) (us : Nat) : Dev :=
  let c := d.core
  let c := ((c.wr MTL_ID.id a.id).wr MTL_SEQ.seq a.seq).wrB MTL_STAT.partial a.isPart
  let c := ((c.wrB MTL_STAT.auth a.auth).wr MTL_STAT.src a.src).wr MTL_EVENT.applied 1
  let c := ((c.wrU MTL_APPLY_TIME.us us).wr MTL_STAT.step 0).wr MTL_STAT.state mlIdle
  let c := c.imageEvent 1 0 a.src a.isPart a.auth c.memU.vRes a.id a.seq
  let c := c.setMtl { c.mtl with app := none, heldKeys := [], wrote := [] }
  let c := if a.course then (c.wr STG_STAT.step 2).rsCourse else c
  if a.store then Dev.storeBegin { d with core := c } else { d with core := c }

/-- The step in progress completes, and the next one starts; the first of these commands starts step 1, which checks the
enables again and takes the holds (R403, R405, R411). Log entry 65 (DEDUCED). -/
def Dev.applyStep (d : Dev) (us : Nat) : Dev :=
  match d.core.mtl.app with
  | none => d
  | some a =>
    let c := d.core
    let n := c.rd MTL_STAT.step
    if c.mlState ≠ mlApplying || c.stepWaits a n then d
    else if n = 0 then
      match a.changed.find? (fun k => c.itemEnabled c.mtl.recs a.recs a.course k) with
      | some k =>
        let c := c.imgReject rcEnabled (itemOff (imgRecs d.mem.image) k) a.src d.mem.image
        { d with core := c.on a.course Core.noImage }
      | none => { d with core := (c.setMtl { c.mtl with heldKeys := a.changed, wrote := [] }).wr MTL_STAT.step 1 }
    else if n = 1 then { d with core := c.wr MTL_STAT.step 2 }
    else if n = 2 then { d with core := (c.loadStep a 2).stepTest a }
    else if n = 10 then d.applyEnd a us
    else { d with core := (c.loadStep a n).wr MTL_STAT.step (n + 1) }

/-! ## Abort (R410) -/

/-- An MTL_CTRL.abort pulse; `fixed` where it falls in the cycle in which the verification's result is fixed.
Log entry 64 (DEDUCED). -/
def Core.mtlAbort (c : Core) (fixed : Bool) (b : List Byte) : Core :=
  let st := c.mlState
  if st = mlVerifying && !fixed then
    let src := (c.mtl.load.map LoadRun.src).getD 3
    let course := (c.mtl.load.map LoadRun.course).getD false
    let c := (((c.wr MTL_STAT.abort_st 1).wr MTL_STAT.reject 0).wr MTL_EVENT.rejected 1).bump MTL_REJECT_CNT.count
    let c := ((c.setMtl { c.mtl with load := none }).wr MTL_STAT.state mlIdle).imageEvent 4 0 src (imgPart b) (imgAuth b) 0 (imgId b) (imgSeq b)
    (c.raiseInfo 54 0 0 false).on course Core.noImage
  else if st = mlTesting then
    let c := c.wr MTL_STAT.abort_st 1
    if c.memU.vLoader then c.vltAbort false else ((c.setMemU { c.memU with vRes := 3 }).wr MTL_STAT.state mlApplying).wr MTL_STAT.step 4
  else if st = mlIdle then c
  else c.wr MTL_STAT.abort_st 2

/-- The abort, and what the loader then takes up. -/
def Dev.loaderAbort (d : Dev) (fixed : Bool) : Dev := Dev.loaderFree { d with core := d.core.mtlAbort fixed d.mem.image }

def mtlAbortStep (fixed : Bool) (d : Dev) : Dev := d.loaderAbort fixed

/-- SLOT_STORED (R401). Log entry 66 (DEDUCED). -/
def slotStoredStep (d : Dev) : Dev := d.storeOutcome.loaderFree

/-! ## The meanings of the commands -/

/-- LOAD (R399). -/
def execLoad (s : State) : Out := onRunCore loadStep s

/-- SLOT_STORED (R401). -/
def execSlotStored (s : State) : Out := onRun slotStoredStep s

/-- STORE_RETRY (R401). -/
def execStoreRetry (s : State) : Out := onRunCore storeRetryStep s

end Sys2Proof.Machine
end

