-- ==== Sys2Proof/Machine/Stage.lean ====
section
/-! DEFINITION. The staged start, the resets and power-fail (R415 to R439). -/

namespace Sys2Proof.Machine

/-- A refusal in STG_CFG_REJECT for the register at `off`. -/
def Core.stgReject (c : Core) (off : Nat) : Core :=
  c.reject STG_CFG_REJECT.valid STG_CFG_REJECT.count STG_CFG_REJECT.word (off / 4)

/-! ## Footing (R418 to R420) -/

/-- The divider of a Footing output, as BOOTSEL gives it; 0 for Off (R419). -/
def footDiv (boot o : Nat) : Nat :=
  match boot % 4 with
  | 1 => 1
  | 2 => if o < 2 then 1 else 2
  | 3 => if o < 2 then 2 else 4
  | _ => 0

/-- The "pin" values of OUT0 to OUT3 (R216, R419): LVCMOS and LO with a divider, LVDS and MUTE when off. -/
def Core.footOuts (c : Core) (boot : Nat) : Core :=
  c.each (List.range 4) fun c o =>
    let d := footDiv boot o
    let on := d ≠ 0
    let c := (c.wrB OUT_CFG.en on o).wr OUT_CFG.std (if on then 4 else 0) o
    (c.wr OUT_CFG.byp_src (if on then 1 else 0) o).wr OUT_BYP.byp_div d o

/-- Course begins: step 1, with the pending image or the one in Firn, once the loader is IDLE (R402, R420, R421).
Log entries 63 (DEDUCED), 68 (DEDUCED). -/
def Dev.courseStart (d : Dev) : Dev :=
  let c := ((d.core.wr STG_STAT.stage 2).wr STG_STAT.step 1).wr STG_STAT.wait 0
  Dev.loaderFree { d with core := { c.setMtl { c.mtl with courseAsk := true } with courseHeld := false } }

/-- The cause recorded at the release: the later of the causes still in force then. RESET_N low, the power-fail condition and
power-up last until the release; a HOST or FAULT reset is a moment (R438). Log entry 135 (DEDUCED). -/
def Core.causeLast (c : Core) : Core :=
  let last := (c.rstOpen.filter (· ≤ 2)).getLast?
  { c with rstOpen := [] }.on last.isSome (fun c => c.wr STG_RST_CAUSE.cause (last.getD 0))

/-- The class of a VDD_OUT of `mv` millivolts: 1.8 V, 2.5 V or 3.3 V (R494). Log entry 136 (DESIGN CHOICE). -/
def voutClass (mv : Nat) : Nat := if mv < 2100 then 0 else if mv ≤ 2900 then 1 else 2

/-- The supplies at the release: power-good, and each bank's VDD_OUT classed from its voltage; no command carries that
voltage: a free value (R494, R496). Log entry 136 (DESIGN CHOICE). -/
def Core.supplyClass (c : Core) : Core :=
  { c with supply := {} }.each (List.range (c.part.nOut / 6)) fun c _ =>
    let f := c.fresh
    { f.2 with supply := { c.supply with cls := c.supply.cls ++ [voutClass f.1] } }

/-- A main rail has fallen (R434, R496). Log entry 136 (DESIGN CHOICE). -/
def Core.supplyFail (c : Core) : Core := { c with supply := { c.supply with low := true } }

/-- RESET_RELEASE: the last cause of the internal reset ends. A Firn store that still runs keeps the part in reset (R418,
R431, R433). Log entry 68 (DEDUCED). -/
def resetReleaseStep (boot : BitVec 3) (d : Dev) : Dev :=
  if !d.core.inReset then d
  else if d.core.firnU.run.isSome then { d with core := d.core.wr STG_STAT.store_busy 1 }
  else
    let d := Dev.recall { d with core := { d.core.causeLast.supplyClass with inReset := false } }
    let c := ((d.core.wr STG_STAT.store_busy 0).wr STG_STAT.bootsel boot.toNat).frostMirror
    let c := c.keyRegs d.mem.policy d.mem.key
    let c := c.wrTv MTL_CFG.auth_req (b2n d.mem.policy)
    let c := ((c.wr MTL_STAT.active_slot d.mem.activeSlot).clkEvent 0 0 0 0 kcStart).rsClock
    let c := (c.footOuts boot.toNat).outRefreshAll kcStart
    let cause := c.rd STG_RST_CAUSE.cause
    let c := if cause = 0 then c else (c.wr STG_EVENT.restart 1).raiseInfo 57 0 cause false
    { d with core := c.tallyUpkeep }

/-- FOOTING_REPORTED: RS_LO_MEAS reads `khz`, the clocks move to the local oscillator where it runs, and Footing is reported
after `us` (R418, R420); Course starts where it is automatic or asked for. Log entries 68 (DEDUCED), 113 (DEDUCED). -/
def footingReportedStep (khz us : Nat) (d : Dev) : Dev :=
  let c := d.core
  if c.rd STG_STAT.stage ≠ 1 || c.footed then d else
  let lo := c.rdB RS_STAT.lo_ok
  let c := c.on lo (fun c => c.wrU RS_LO_MEAS.khz khz)
  let c := (({ c with footed := true, loKhz := khz } : Core).wrU STG_T_FOOTING.us us).rsClock
  let c := c.each c.lostPages (fun c p => c.raise 62 p)
  let c := { c with firnU := { c.firnU with lost := false } }
  let c := (c.wr STG_STAT.wait (if lo then 1 else 2)).outRefreshAll kcStart
  let d := { d with core := c }
  if c.rd STG_STAT.bootsel < 4 || c.courseHeld then d.courseStart else d

/-- An STG_CTRL.course pulse (R420, R438); the second value tells a refusal. -/
def Dev.coursePulse (d : Dev) : Dev × Bool :=
  let c := d.core
  if c.rd STG_STAT.stage = 1 && 4 ≤ c.rd STG_STAT.bootsel && !c.courseHeld then
    (if c.footed then d.courseStart else { d with core := { c with courseHeld := true } }, false)
  else ({ d with core := c.stgReject 4 }, true)

def coursePulseStep (d : Dev) : Dev := d.coursePulse.1

/-! ## Course and Coping (R421 to R426) -/

/-- DEVICE_TIME_LOAD: at the Frost tick that brings the subsecond to `sub`, once RS is locked; Course goes on to the march
(R39, R421). -/
def deviceTimeLoadStep (sub : BitVec 15) (c : Core) : Core :=
  if c.rd STG_STAT.stage ≠ 2 || c.rd STG_STAT.step ≠ 2 || !c.pclk then c else (c.dtLoad sub.toNat).wr STG_STAT.step 3

/-- COURSE_MARCH_DONE: the repair map is rebuilt from the failing rows found (R317, R421, R425). Log entry 70 (DEDUCED). -/
def courseMarchDoneStep (fails : List (Nat × Nat × Nat)) (c : Core) : Core :=
  if c.rd STG_STAT.stage ≠ 2 || c.rd STG_STAT.step ≠ 3 then c else
  let c := c.setMemU { c.memU with rows := [], badSpare := [] }
  let c := c.each (List.range 16) (fun c b => (c.wr TMC_BANK.spares 0 0 b).wr TMC_BANK.failed 0 0 b)
  let c := ((c.wr TMC_STAT.failed 0).marchEnd 0xFFFF true false fails).wr STG_STAT.step 4
  c.on (c.part.vaultMB = 0) Core.middleBack

/-- COURSE_CAL_DONE: the tables of Course are complete, and Glacier restoration runs (R154, R233, R421). -/
def courseCalDoneStep (d : Dev) : Dev :=
  if d.core.rd STG_STAT.stage ≠ 2 || d.core.rd STG_STAT.step ≠ 4 then d else
  Dev.glcRestoreAll { d with core := d.core.tabsCourseEnd.wr STG_STAT.step 5 }

/-- COURSE_REPORTED after `us`: Coping begins; the blocks of R417 start, the Vault starts its training, and a store held
from Footing begins once the loader is IDLE (R400, R402, R415, R417, R426). Course that waits is not reported (R423). -/
def courseReportedStep (us : Nat) (d : Dev) : Dev :=
  let c := d.core
  if c.rd STG_STAT.stage ≠ 2 || c.rd STG_STAT.step ≠ 5 || c.rd STG_STAT.wait ≠ 0 then d else
  let c := ((c.wr STG_STAT.stage 3).wr STG_STAT.step 0).wr STG_STAT.wait 0
  let c := ({ c with estRun := true, firnU := { c.firnU with cold := false } }.wrU STG_T_COURSE.us us).wr STG_EVENT.course_done 1
  let c := c.each (List.range 24) (fun c i => c.candEval i)
  let c := c.each (List.range c.part.nCh) Core.chEval
  let c := (c.each (List.range c.part.nSyn) Core.synEval).outRefreshAll kcStart
  let c := c.palEvalAll.timEval
  let c := (c.each (List.range c.part.nLane) Core.laneEval).vaultStart
  let c := c.pteEval.vholdCheck
  Dev.loaderFree { d with core := c }

/-- COURSE_WAIT: a wait of Course has lasted 100 ms, the first time (R423). -/
def courseWaitStep (c : Core) : Core :=
  if c.rd STG_STAT.stage ≠ 2 || c.rd STG_STAT.wait = 0 || c.courseWaited then c else
  ({ c with courseWaited := true }.wr STG_EVENT.course_wait 1).raiseInfo 58 0 (c.rd STG_STAT.wait) false

/-! ## Device resets (R427, R428, R431 to R433) -/

/-- The register store after a device reset: the Frost registers stay (R427). -/
def Core.frostRegs (c : Core) : AMap Nat :=
  (rowsFRSW.flatMap RegRow.flds).foldl (fun m f => m.set 0 (f.key 0 0) (c.regs.get 0 (f.key 0 0))) []

/-- A device reset with its cause and fault source: every register at its reset value but STG_RST_CAUSE; items, packets
and responses discarded; Tile memory, the Vault and the staging buffer lose their contents; the Firn front with its
dirty marks, a store in progress, a tally increment in progress and Frost, with the seconds it latched, stay, and so
does the test port but at power-on; the core's window of the trim begins anew (R427, R431, R432, R433, R454, R459). -/
def Dev.deviceReset (d : Dev) (cause fs : Nat) : Dev :=
  let o := d.core
  let u := o.firnU
  let n : Core := {}
  let c : Core := { n with
    part := o.part, regs := o.frostRegs, free := o.free
    frost := { o.frost with win := none, err := none, stepped := false }
    tap := if cause = 0 then {} else o.tap
    supply := { o.supply with low := o.supply.low || cause = 0 }
    rstOpen := (if o.inReset && cause ≠ 0 then o.rstOpen else []) ++ [cause]
    firnU := { u with waiting := [], asked := [], done := [], dirNew := none, tq := if u.tGo then u.tq.take 1 else [] } }
  let cnt := if cause = 0 then 0 else min 65535 (o.rd STG_RST_CAUSE.count + 1)
  let c := ((c.wr STG_RST_CAUSE.cause cause).wr STG_RST_CAUSE.fs (if cause = 4 then fs else 0x7F)).wr STG_RST_CAUSE.count cnt
  let c := ({ c with memLost := List.range 17 } : Core).frostMirror
  { core := c, mem := { d.mem with staged := [] } }

def resetNAssertStep (d : Dev) : Dev := d.deviceReset 2 0

/-- A HOST reset is requested: it takes effect 1 µs later; a wrong key is refused (R427, R428, R438). -/
def Core.hostReset (c : Core) (key : Nat) : Core × Bool :=
  if key ≠ 0xD1E5 then (c.stgReject 8, true)
  else ({ c with rstReq := some (c.rstReq.getD (3, 0x7F)) }, false)

def hostResetStep (key : BitVec 16) (c : Core) : Core := (c.hostReset key.toNat).1

/-- DEVICE_RESET: the reset that the host or a fault action has requested takes place (R427, R428, R484).
Log entry 77 (DEDUCED). -/
def deviceResetStep (d : Dev) : Dev :=
  match d.core.rstReq with
  | none => d
  | some r => d.deviceReset r.1 r.2

def powerOnResetStep (d : Dev) : Dev := d.deviceReset 0 0

/-- The power-fail sequence: the reset, and a store of the dirty pages on hold-up energy; the page in progress
completes, and the tally increment in progress completes before the next one (R434, R435, R454). -/
def Dev.powerFail (d : Dev) : Dev :=
  let d := d.deviceReset 1 0
  let c := d.core.supplyFail
  let u := c.firnU
  let run := u.run.map (fun (x : StoreRun) => { x with req := ⟨6, 0, 255⟩, next := 0, abort := false, skip := x.page })
  let c := { c with firnU := { u with run := run } }
  { d with core := if run.isSome then c else c.storeAsk 6 0 255 }

def powerFailStep (d : Dev) : Dev := d.powerFail

/-- AUX_WARNING: AUXCMP trips (R434). Log entry 68 (DEDUCED). -/
def auxWarningStep (c : Core) : Core :=
  if c.rdTv STG_PF_CFG.aux_en = 0 then c else
  let c := (c.wr STG_STAT.aux_low 1).wr STG_EVENT.aux_low 1
  (c.storeAsk 6 0 255).raise 59

/-- AUX_DELAY_EXPIRE: AUXCMP is still low pf_delay after the trip (R434). -/
def auxDelayExpireStep (d : Dev) : Dev :=
  let c := d.core
  if c.rdB STG_STAT.aux_low && c.rdTv STG_PF_CFG.aux_en = 1 && c.rdTv STG_PF_CFG.aux_rst = 1 then d.powerFail else d

/-- VHOLD_LOW: VHOLD falls below 3.0 V (R436). -/
def vholdLowStep (c : Core) : Core := ((c.wrBit FRS_W_CMP_STAT.levels 3 false).frostMirror).on (!c.inReset) Core.vholdCheck

/-! ## Block resets (R430, R438, R482) -/

/-- Every RC field of some register rows at its reset value. -/
def Core.clrRcRows (c : Core) (rows : List RegRow) (i : Nat) : Core :=
  c.each rows (fun c r => c.each (List.range r.cnt) (fun c k =>
    c.each (r.flds.filter (fun f => f.acc = .rc)) (fun c f => c.clr f i k)))

/-- A channel's engagement by the collector ends (R430, R476). -/
def Core.holdDrop (c : Core) (h : Nat) : Core := (c.engDrop 1 h).wr CH_STAT.flt_hold 0 h

/-- What a block reset does to its unit (R430). Log entries 41 (DEDUCED), 45 (DEDUCED), 69 (DEDUCED). -/
def Core.unitReset (c : Core) (u i : Nat) : Core :=
  match u with
  | 0 => ((c.setCand i { c.cand i with inReset := true, tod := none, epochDue := true }).candEval i).clrRcRows rowsREF i
  | 1 =>
    let c := (c.holdDrop i).clrRcRows rowsCH i
    let c := if c.chState i = chDisabled then c else c.chGoto i chDisabled hcDisable 31
    c.rotEval i
  | 2 =>
    let c := if c.synState i = sOff then c else c.synGoto i sOff kcBlockReset
    ((c.setSyn i { fS := (c.syn i).fS, fNext := (c.syn i).fNext }).synPend i).clrRcRows rowsSYN i |>.clrRow SYN_FCOUNT.row i
  | 3 => (c.outRefresh i kcBlockReset).clrRcRows rowsOUT i
  | 4 =>
    let c := if c.paState i = paOff then c else c.paGoto i paOff kcBlockReset
    (c.setPa i {}).clrRcRows rowsPA i
  | 5 =>
    let c := (c.setTim { c.tim with gate := none, fifo := [], passRun := 0, failRun := 0 }).each
      [TIM_STAT.state, TIM_STAT.tb_state, TIM_STAT.tb_used, TIM_STAT.cfg_bad, TIM_STAT.meas] (fun c f => c.clr f)
    ((c.clrRow TIM_BUF_STAT.row).timTabs).clrRcRows rowsTIM 0
  | 6 =>
    let c := if c.laneState i = leOff then c else c.laneGoto i leOff 10
    ({ c with lanes := c.lanes.set {} i {}, links := ((c.links.set {} (128 + i) {}).set {} (132 + i) {}).set {} (136 + i) {} } : Core).clrRcRows rowsETH i
  | 7 =>
    let c : Core := { c with pte := {} }
    let c := ((c.wr PTE_STAT.run 0).wr PTE_STAT.used 0).wr PTE_LOAD.load 0
    let c := c.each (List.range 4) (fun c k => (c.wr PTE_SV_STAT.state 0 k).wr PTE_PORT_STAT.state 1 k)
    let c := c.each (List.range 4) (fun c k => (c.clrRcRows rowsPTESV k).clrRcRows rowsPTEPORT k)
    let c := (c.each (List.range 2) (fun c k => c.clrRcRows rowsPTEDOM k)).clrRcRows rowsPTE 0
    (c.slotStat.each (List.range 2) Core.domStat).xchkRefresh
  | _ => c.queueReset i

/-- A block reset begins: the unit's reset and its quiet window; one that is already in reset is reset once (R438). -/
def Core.blkBegin (c : Core) (u i : Nat) : Core :=
  if c.inRst.contains (u, i) then c else
  let c := { c with inRst := c.inRst ++ [(u, i)], quiet := if c.quiet.contains (u, i) then c.quiet else c.quiet ++ [(u, i)] }
  c.unitReset u i

/-- A block reset of a present unit; the Mortar loader's hold postpones it (R405, R438). Log entry 69 (DEDUCED). -/
def Core.blkReset (c : Core) (u i : Nat) : Core :=
  if c.unitHeld u i then c.setMtl { c.mtl with later := c.mtl.later ++ [(u, i)] } else c.blkBegin u i

/-- STG_BLK_RST.go: a unit that is absent, or of a number from 9, is refused (R430). The second value tells a refusal. -/
def Core.blkGo (c : Core) (u i : Nat) : Core × Bool :=
  if c.part.unitOk u i then (c.blkReset u i, false) else (c.stgReject 0x18, true)

def blockResetStep (unit : Fin 32) (index : Fin 128) (c : Core) : Core := (c.blkGo unit.val index.val).1

/-- BLOCK_RESET_DONE: the unit restarts according to its enable (R430). -/
def blockResetDoneStep (unit : Fin 9) (index : Fin 128) (c : Core) : Core :=
  let u := unit.val
  let i := index.val
  if !c.inRst.contains (u, i) then c else
  let c := { c with inRst := c.inRst.filter (fun e => e ≠ (u, i)) }
  match u with
  | 0 => (c.setCand i { c.cand i with inReset := false }).candEval i
  | 1 => c.chEval i
  | 2 => c.synEval i
  | 3 => c.outRefresh i kcBlockReset
  | 4 => c.palEval i
  | 5 => c.timEval
  | 6 => c.laneEval i
  | 7 => c.pteEval
  | _ => c

/-- APPLY_STEP_DONE: the step, then the block resets that waited for it (R403, R405). Log entry 63 (DEDUCED). -/
def applyStepDoneStep (us : Nat) (d : Dev) : Dev :=
  let d := d.applyStep us
  let c := d.core
  let ready := c.mtl.later.filter (fun e => !c.unitHeld e.1 e.2)
  let c := c.setMtl { c.mtl with later := c.mtl.later.filter (fun e => c.unitHeld e.1 e.2) }
  Dev.loaderFree { d with core := c.each ready (fun c e => c.blkBegin e.1 e.2) }

/-! ## The meanings of the commands -/

/-- DEVICE_TIME_LOAD (R39). -/
def execDeviceTimeLoad (sub : BitVec 15) (s : State) : Out := onRunCore (deviceTimeLoadStep sub) s

/-- APPLY_STEP_DONE (R403). -/
def execApplyStepDone (us : Nat) (s : State) : Out := onRun (applyStepDoneStep us) s

/-- RESET_RELEASE (R418). -/
def execResetRelease (boot : BitVec 3) (s : State) : Out := onDev (resetReleaseStep boot) s

/-- FOOTING_REPORTED (R418). -/
def execFootingReported (khz us : Nat) (s : State) : Out := onRun (footingReportedStep khz us) s

/-- COURSE_PULSE (R420). -/
def execCoursePulse (s : State) : Out := onRun coursePulseStep s

/-- COURSE_MARCH_DONE (R421). -/
def execCourseMarchDone (fails : List (Nat × Nat × Nat)) (s : State) : Out := onRunCore (courseMarchDoneStep fails) s

/-- COURSE_CAL_DONE (R421). -/
def execCourseCalDone (s : State) : Out := onRun courseCalDoneStep s

/-- COURSE_REPORTED (R415). -/
def execCourseReported (us : Nat) (s : State) : Out := onRun (courseReportedStep us) s

/-- COURSE_WAIT (R423). -/
def execCourseWait (s : State) : Out := onRunCore courseWaitStep s

/-- RESET_N_ASSERT (R428). -/
def execResetNAssert (s : State) : Out := onDev resetNAssertStep s

/-- HOST_RESET (R428). -/
def execHostReset (key : BitVec 16) (s : State) : Out := onRunCore (hostResetStep key) s

/-- DEVICE_RESET (R427). -/
def execDeviceReset (s : State) : Out := onDev deviceResetStep s

/-- POWER_ON_RESET (R427). -/
def execPowerOnReset (s : State) : Out := onDev powerOnResetStep s

/-- BLOCK_RESET (R430). -/
def execBlockReset (unit : Fin 32) (index : Fin 128) (s : State) : Out := onRunCore (blockResetStep unit index) s

/-- BLOCK_RESET_DONE (R430). -/
def execBlockResetDone (unit : Fin 9) (index : Fin 128) (s : State) : Out := onRunCore (blockResetDoneStep unit index) s

/-- POWER_FAIL (R435). -/
def execPowerFail (s : State) : Out := onDev powerFailStep s

/-- AUX_WARNING (R434). -/
def execAuxWarning (s : State) : Out := onRunCore auxWarningStep s

/-- AUX_DELAY_EXPIRE (R434). -/
def execAuxDelayExpire (s : State) : Out := onRun auxDelayExpireStep s

/-- VHOLD_LOW (R436). -/
def execVholdLow (s : State) : Out := onCore vholdLowStep s

end Sys2Proof.Machine
end

