-- ==== Sys2Proof/Machine/Fault.lean ====
section
/-! DEFINITION. The fault collector (R470 to R489): acknowledgement, engagement and release, the actions, records and the
notifications they send, guard timers, the watchdog, injection, and the meanings of its commands. -/

namespace Sys2Proof.Machine

/-! ## Engagement (R474 to R476) -/

/-- The channels, outputs and lanes that the targets of an engagement name, taken or freed as the engagements now stand.
Log entry 73 (DEDUCED). -/
def Core.engFollow (c : Core) (kind targets : Nat) : Core :=
  let c := c.engRefresh
  match kind with
  | 1 => c.each ((List.range c.part.nCh).filter (fun h => bitOf targets h)) fun c h =>
      let v := bitOf (c.engTargets 1) h
      if c.rdB CH_STAT.flt_hold h = v then c else c.fltHold h v
  | 2 => c.outRefreshAll kcNone
  | 3 => c.each ((List.range c.part.nLane).filter (fun n => bitOf targets n)) fun c n =>
      if bitOf (c.engTargets 3) n then c.laneEval n else c.laneFree n
  | _ => c

/-- The unit that SELF adds for an action (R475): a mask of targets for holds, mutes and isolations. -/
def Core.selfMask (c : Core) (fs action u : Nat) : Nat :=
  let mask := fun (n : Nat) (p : Nat → Bool) => (List.range n).foldl (fun a j => if p j then setBit a j else a) 0
  let cand := fs ≤ 6
  let chan := (8 ≤ fs && fs ≤ 14) || (16 ≤ fs && fs ≤ 23)
  if action = 1 then
    if cand then mask c.part.nCh (fun h => c.rd CH_STAT.active h = u ||
        (List.range 4).any (fun m => bitOf (c.rd GLC_ENS_STAT.in_use h) m && c.ensCand h m = u))
    else if chan then mask c.part.nCh (fun h => h = u) else 0
  else if action = 2 then
    if chan then mask c.part.nOut (fun o => bitOf (c.rd CH_STEER.syn u) (o / 6))
    else if fs = 25 then mask c.part.nOut (fun o => o / 6 = u)
    else if fs = 27 then mask c.part.nOut (fun o => c.rdB OUT_CFG.src o && c.rd OUT_CFG.pal_src o = u)
    else 0
  else if action = 3 then (if 32 ≤ fs && fs ≤ 35 then mask c.part.nLane (fun n => n = u) else 0)
  else 0

/-- The block that SELF resets (R475): unit code and index. -/
def selfBlock (fs u : Nat) : Option (Nat × Nat) :=
  if fs ≤ 6 then some (0, u)
  else if (8 ≤ fs && fs ≤ 14) || (16 ≤ fs && fs ≤ 23) then some (1, u)
  else if fs = 25 then some (2, u)
  else if fs = 27 then some (4, u)
  else if 32 ≤ fs && fs ≤ 35 then some (6, u)
  else if fs = 48 || fs = 49 then some (8, u)
  else none

/-- An action issued for a source and the units it names; a RESET_DEVICE that has been issued supersedes it (R474 to R476, R484,
R488). `units` holds the unit of each hit as
acknowledged, with the unit that the record names. Log entries 73 (DEDUCED), 77 (DEDUCED). -/
def Core.issueAct (c : Core) (a : FltAct) : Core :=
  if a.action = 0 || 5 < a.action || c.resetIssued then c else
  let self := bitOf a.mask 31
  let m := a.mask % 2 ^ 31
  if a.action = 5 then
    { c.wr FLT_EVENT.act 1 with resetIssued := true, rstReq := some (4, a.fs) }
  else if a.action = 4 then
    let l := if self then a.units.filterMap (selfBlock a.fs) else [(bits m 12 8, bits m 6 0)]
    c.each l fun c e => if c.part.unitOk e.1 e.2 then (c.wr FLT_EVENT.act 1).blkReset e.1 e.2 else c
  else
    c.each a.units fun c u =>
      let ack := fsUnit a.fs u
      if !c.unacked a.fs ack then c else
      let t := m ||| (if self then c.selfMask a.fs a.action u else 0)
      if t = 0 then c else
      let e : Engaged := ⟨a.fs, ack, a.action, t⟩
      let c := c.wr FLT_EVENT.act 1
      Core.engFollow { c with engaged := if c.engaged.contains e then c.engaged else c.engaged ++ [e] } a.action t

/-! ## Acknowledgement (R471, R473, R476 to R478) -/

/-- The pairs of a source acknowledged: marks, escalations and engagements end, and a guard timer whose source has no
unacknowledged unit left stops. -/
def Core.ackUnits (c : Core) (fs : Nat) (units : List Nat) : Core :=
  let c := if fsTracked fs then c.each units (fun c u => c.wrBit FLT_SRC_UNIT.units u false fs) else c
  let left := if fsTracked fs then decide (c.rd FLT_SRC_UNIT.units fs ≠ 0) else false
  let c := c.wrBit FLT_UNACK.unack (fs % 32) left 0 (fs / 32)
  let c := c.on (!left) (fun c => c.wrBit FLT_GUARD.run (fs % 32) false 0 (fs / 32))
  let mine := fun (f u : Nat) => f = fs && units.contains u
  let gone := c.engaged.filter (fun (e : Engaged) => mine e.fs e.unit)
  let c : Core := {
    c with
    engaged := c.engaged.filter (fun (e : Engaged) => !mine e.fs e.unit),
    esc := c.esc.filter (fun e => !mine e.1 e.2),
    hitUnits := c.hitUnits.filter (fun e => e.1 ≠ fs) }
  let c := c.each gone (fun c e => c.engFollow e.kind e.targets)
  c.fltRefresh

/-- An acknowledgement of a source for one unit or for all (255): the pairs it clears, with one ACK record where it
clears any, which carries the severity of the hit (R478, R481); a source that is not tracked by unit is acknowledged whole. Log entries 74 (DEDUCED), 76 (DEDUCED).
-/
def Core.ackNow (c : Core) (fs unit : Nat) : Core :=
  let all := c.unackedUnits fs
  let l := if unit = 255 || !fsTracked fs then all else all.filter (fun u => u = unit)
  if l.isEmpty then c else
  let sev := (c.hits.get (0, 0) (32 * fs + l.headD 0)).1
  let c := c.newRec fs sev (c.rdTv FLT_SRC_CFG.action fs) .ack false false false false unit false [] []
  c.ackUnits fs l

/-- An acknowledgement that arrives: it waits while a record of one of its pairs is being built (R488).
Log entry 74 (DEDUCED). -/
def Core.ack (c : Core) (fs unit : Nat) : Core :=
  if 96 ≤ fs then c else
  let hit := fun (e : Nat × Nat) => e.1 = fs && (unit = 255 || !fsTracked fs || e.2 = unit)
  if c.building.any (fun r => r.pairs.any hit) then { c with ackWait := c.ackWait ++ [(fs, unit)] } else c.ackNow fs unit

/-- Every pair acknowledged (R478). -/
def Core.ackAll (c : Core) : Core := c.each (List.range 96) (fun c fs => c.ack fs 255)

/-- Every fault mute released without acknowledgement (R476). -/
def Core.unmute (c : Core) : Core :=
  Core.engFollow { c with engaged := c.engaged.filter (fun (e : Engaged) => e.kind ≠ 2) } 2 (2 ^ 24 - 1)

/-! ## Records (R479 to R481) -/

/-- Room for 16 pending fault notifications of a port; one beyond is dropped (R345). -/
def Core.noteTo (c : Core) (p : Nat) (payload : List Byte) : Core :=
  let x := c.host.ports.get {} p
  let full := decide (16 ≤ x.waits)
  let y := if full then { x with drops := min 255 (x.drops + 1) } else { x with notes := x.notes ++ [payload] }
  let c := c.on full (fun c => c.bump HLK_NOTIFY_DROP.count)
  { c with host := { c.host with ports := c.host.ports.set {} p y } }

/-- The notification of a record, its 48 bytes as payload (R344, R345, R481). Log entry 75 (DEDUCED). -/
def Core.notify (c : Core) (r : FltRec) : Core :=
  let ep := match c.streamQueue 1 0 with | some q => c.queueEpoch q | none => 0
  let payload := (itemWords 1 ep r.body).flatMap (bytesLE 16)
  let c := c.noteTo 0 payload
  c.on (c.rdB HLK_CFG.ib_notify && c.ibUp) (fun c => c.noteTo 1 payload)

/-- A closed record enters the buffer of 32, or merges into the newest record there (R480). Log entry 75 (DEDUCED). -/
def Core.bufferRec (c : Core) (r : FltRec) : Core :=
  if c.fltBuf.length < 32 then { c with fltBuf := c.fltBuf ++ [r] } else
  let c := (c.wr FLT_EVENT.buf_full 1).bump FLT_LOST.count
  match c.fltBuf.getLast? with
  | some n => { c with fltBuf := c.fltBuf.dropLast ++ [n.merged r.fs n.sev n.action r.real r.inj false r.acted [] []] }
  | none => c

/-- The record that was begun first closes: it is buffered and notified, acknowledgements that waited for it apply, and its
actions are issued, of which a RESET_DEVICE supersedes all others (R476, R479, R480, R488). -/
def Core.recClose (c : Core) : Core :=
  match c.building with
  | [] => c
  | r :: rest =>
    let c := Core.bufferRec { c with building := rest } r
    let c := (c.on r.notify (fun c => c.notify r)).fltDrain
    let waits := c.ackWait
    let c := Core.each { c with ackWait := [] } waits (fun c e => c.ack e.1 e.2)
    c.each (if r.acts.any (fun a => a.action = 5) then r.acts.filter (fun a => a.action = 5) else r.acts) Core.issueAct

/-- The guard timer of a source expires. The record carries the severity in force at the hit that started the timer, and its info:
the lowest unit where several wait (R468, R477, R481). Log entry 76 (DEDUCED). -/
def Core.guardExpire (c : Core) (fs : Nat) : Core :=
  let units := c.unackedUnits fs
  let c := c.wrBit FLT_GUARD.run (fs % 32) false 0 (fs / 32)
  let action := c.rdTv FLT_SRC_CFG.action fs
  let mask := c.rdTv FLT_SRC_MASK.tgt fs ||| (c.rdTv FLT_SRC_MASK.self fs) <<< 31
  let acts := if fs = 48 || fs = 49 then (c.hitUnits.filter (fun e => e.1 = fs)).map Prod.snd else units
  let hit := c.hits.get (0, 0) (4096 + fs)
  let info := if fsTracked fs || fs = 48 || fs = 49 then acts.headD 0 else hit.2
  let c := c.wr FLT_EVENT.escalated 1
  let c := c.newRec fs hit.1 action .escalate false false false true info true [⟨fs, acts, action, mask⟩]
    (units.map (fun u => (fs, u)))
  Core.fltRefresh { c with esc := units.foldl (fun l u => if l.contains (fs, u) then l else l ++ [(fs, u)]) c.esc }

/-! ## Configuration (R474, R477, R485, R487) -/

/-- A refusal in FLT_CFG_REJECT: the source, or 255 for another register. -/
def Core.fltReject (c : Core) (w : Nat) : Core :=
  c.reject FLT_CFG_REJECT.valid FLT_CFG_REJECT.count FLT_CFG_REJECT.word w

/-- A write of FLT_SRC_CFGn, or of FLT_SRC_MASKn where `mask`: refused where the pair that it would leave breaks R474 or the
severity is none of R471. The severity of a source that the variant lacks ignores writes (R7). Log entry 67 (DEDUCED). -/
def Core.srcCfgWrite (c : Core) (n : Nat) (mask : Bool) (data : Nat) : Core × Bool :=
  let action := if mask then c.rdTv FLT_SRC_CFG.action n else bits data 6 4
  let m := if mask then data else c.rdTv FLT_SRC_MASK.tgt n ||| (c.rdTv FLT_SRC_MASK.self n) <<< 31
  let ok := actChecks c.part action m
  let sev := bits data 2 0
  let sev := if c.part.fsAbsent n then c.rdTv FLT_SRC_CFG.sev n else sev
  if !ok.1 || !ok.2 || (!mask && 4 < sev) then (c.fltReject n, true)
  else if mask then ((c.wrTv FLT_SRC_MASK.tgt data n).wrTv FLT_SRC_MASK.self (bits data 31 31) n, false)
  else
    let c := ((c.wrTv FLT_SRC_CFG.guard (bits data 27 8) n).wrTv FLT_SRC_CFG.action (bits data 6 4) n).wrTv FLT_SRC_CFG.sev sev n
    ((c.on (sev < 3) (fun c => c.wrBit FLT_GUARD.run (n % 32) false 0 (n / 32))).fltRefresh, false)

/-- An injection's source, target and count lie in the table of R485. -/
def Core.injOk (c : Core) (fs inv tgt : Nat) : Bool :=
  let p := c.part
  let tv := fun (a : Nat) => match p.decodeWord a with
    | .reg r => a % 4 = 0 && r.row.flds.any (fun f => f.acc = .rwTv || f.acc = .rweTv)
    | _ => false
  let reg := fun (a : Nat) => match p.decodeWord a with | .reg _ => a % 4 = 0 | _ => false
  match fs with
  | 6 => p.cand tgt && inv = 1
  | 14 => decide (tgt < p.nCh) && inv = 1
  | 43 => p.hasLink tgt && inv = 1
  | 46 => tv tgt && inv = 1
  | 49 => decide (tgt < 128) && (inv = 1 || inv = 2)
  | 50 => decide (tgt < 2 ^ 21) && (inv = 1 || inv = 2)
  | 52 => decide (tgt < p.vaultMB * 2 ^ 20) && tgt % 64 = 0 && inv ≠ 0
  | 68 | 71 => tgt = 0 && inv = 1
  | 70 => p.fsUnitOk 70 tgt && inv = 1
  | 72 => reg tgt && inv = 1
  | _ => false

/-- FS46 arms by inverting the first copy of the register, all its TV fields (R485). Log entry 78 (DEDUCED). -/
def Core.injTv (c : Core) (a : Nat) : Core :=
  match c.part.decodeWord a with
  | .reg r => c.each (r.row.flds.filter (fun f => f.acc = .rwTv || f.acc = .rweTv)) fun c f =>
      let x := 2 ^ f.width - 1
      { c.wr f (Nat.xor (c.rd f r.i r.k) x) r.i r.k with
        tvB := c.tvB.set 0 (f.key r.i r.k) (Nat.xor (c.tvB.get 0 (f.key r.i r.k)) x),
        tvC := c.tvC.set 0 (f.key r.i r.k) (Nat.xor (c.tvC.get 0 (f.key r.i r.k)) x) }
  | _ => c

/-- An injection is armed: the TV copy is inverted at once, and the collector's and the device time's checks, which never
pause, meet theirs (R485). -/
def Core.injArmNow (c : Core) : Core :=
  match c.rd FLT_INJ_CFG.src with
  | 46 => c.injTv (c.rd FLT_INJ_TGT.tgt)
  | 68 => c.injFire 68 0 0
  | 71 => c.injFire 71 0 0
  | _ => c

/-- A write of FLT_INJ_CFG: a new configuration outside the table is not armed, and the other fields are written (R363,
R485). Log entry 78 (DEDUCED). -/
def Core.injCfgWrite (c : Core) (be data : Nat) : Core × Bool :=
  let g := fun (f : Fld) => mergeField f (c.rd f) be data
  let l := [FLT_INJ_CFG.arm, FLT_INJ_CFG.src, FLT_INJ_CFG.inv]
  let arm := g FLT_INJ_CFG.arm = 1
  let new := arm && l.any (fun f => decide (g f ≠ c.rd f))
  let bad := new && !c.injOk (g FLT_INJ_CFG.src) (g FLT_INJ_CFG.inv) (c.rd FLT_INJ_TGT.tgt)
  let y := (c.writeRow FLT_INJ_CFG.row false be data).1
  if bad then ((y.each l (fun y f => y.wr f (c.rd f))).fltReject 255, true)
  else if new then (y.injArmNow, false) else (y, false)

/-- A write of FLT_INJ_TGT while an injection is armed: a target outside the table is refused (R485).
Log entry 78 (DEDUCED). -/
def Core.injTgtWrite (c : Core) (be data : Nat) : Core × Bool :=
  let t := mergeField FLT_INJ_TGT.tgt (c.rd FLT_INJ_TGT.tgt) be data
  if !c.rdB FLT_INJ_CFG.arm || t = c.rd FLT_INJ_TGT.tgt then (c.wr FLT_INJ_TGT.tgt t, false)
  else if c.injOk (c.rd FLT_INJ_CFG.src) (c.rd FLT_INJ_CFG.inv) t then ((c.wr FLT_INJ_TGT.tgt t).injArmNow, false)
  else (c.fltReject 255, true)

/-- A write of FLT_WDOG_KICK: a key other than 0xA11E is refused (R487). -/
def Core.wdogKick (c : Core) (key : Nat) : Core × Bool := if key = 0xA11E then (c, false) else (c.fltReject 255, true)

/-- A write of FLT_ACK: a source from 96 is refused, and nothing is acknowledged then (R363, R478, R489).
Log entry 140 (DEDUCED). -/
def Core.fltAckWrite (c : Core) (be data : Nat) : Core × Bool :=
  let src := mergeField FLT_ACK.src (c.rd FLT_ACK.src) be data
  let old := c.rd FLT_ACK.src
  let c := (c.writeRow FLT_ACK.row false be data).1
  if 96 ≤ src then ((c.wr FLT_ACK.src old).fltReject 255, true) else
  (c.on (pulsed FLT_ACK.go be data) (fun c => c.ack src (c.rd FLT_ACK.unit)), false)

/-! ## The commands -/

/-- Where a checker looks: the target that the injection of R485 names for a source. -/
def injTarget (fs info addr : Nat) : Nat :=
  if fs = 50 || fs = 52 then addr else if fs = 68 || fs = 71 then 0 else info

/-- What a detector's hit does beside raising its source: the parity restart of an estimator (R468), the latency
counters (R55), the policy counter (R54), a link error (R47), a discarded item (R301), an uncorrectable error (R315,
R321) and a value lost on its link (R468). `aux` is the latency in CCLK cycles, or for a Tile error one more than the
TDC whose calibration table it meets (0: none). Log entries 89 (DEDUCED), 133 (DEDUCED). -/
def Core.hitEffect (c : Core) (fs info addr aux : Nat) : Core :=
  let most := fun (c : Core) (f : Fld) => if c.rd f < aux then c.wrU f aux else c
  match fs with
  | 6 => if c.part.cand info then c.setCand info { c.cand info with restart := true, parity := true } else c
  | 40 => most (c.bump HLK_C0_LATE.count) HLK_C0_MAX.cycles
  | 41 => most (c.bump HLK_NOTIFY_LATE.count) HLK_NOTIFY_MAX.cycles
  | 42 => c.bump HLK_POLICY_CNT.count
  | 43 => c.linkFail info true
  | 49 => if info < 128 then c.queueDiscard info (fun j => decide (j.pos ≤ addr ∧ addr < j.stop)) else c
  | 50 => c.tileUncorr addr (bits info 6 4) (if aux = 0 then none else some (aux - 1))
  | 52 => c.vaultUncorr addr
  | 70 => { c with linkBad := c.linkBad.filter (fun x => x ≠ info) ++ [info] }
  | _ => c

/-- A register of a unit that the variant has lies at a word address. -/
def Part.hasWord (p : Part) (a : Nat) : Bool := match p.decodeWord a with | .reg _ => true | _ => false

/-- FAULT_HIT: a detector asserts a source with its info; the injection armed for that source and location makes it an
injected hit (R470, R485). A source or a unit that the variant lacks asserts nothing (R7). Log entries 89 (DEDUCED), 91
(DESIGN CHOICE). -/
def faultHitStep (fs : Fin 96) (info addr : BitVec 32) (aux : BitVec 16) (c : Core) : Core :=
  let n := fs.val
  let i := info.toNat
  if c.part.fsAbsent n || !c.part.fsUnitOk n i || (n = 72 && !c.part.hasWord i) then c else
  let inj := c.injArmed n (injTarget n i addr.toNat)
  let c := c.hitEffect n i addr.toNat aux.toNat
  if inj then c.injFire n i i else c.raiseInfo n i i false

/-- LINK_ERROR with the injection of FS43 (R47, R485). -/
def linkErrorStep (link : Fin 256) (parity : Bool) (c : Core) : Core :=
  if !c.part.hasLink link then c else
  let inj := parity && c.injArmed 43 link
  let c := c.linkFail link parity
  if inj then c.injFire 43 link link else c.raise 43 link

/-- RECORD_CLOSE. Log entry 74 (DEDUCED). -/
def recordCloseStep (c : Core) : Core := c.recClose

/-- GUARD_EXPIRE: the timer of a source that runs. -/
def guardExpireStep (fs : Fin 96) (c : Core) : Core :=
  if bitOf (c.rd FLT_GUARD.run 0 (fs / 32)) (fs % 32) then c.guardExpire fs else c

/-- FLT_ACK: go with a source and a unit. -/
def fltAckStep (src : BitVec 7) (unit : BitVec 8) (c : Core) : Core :=
  (c.fltAckWrite 15 (2 ^ 31 + unit.toNat * 256 + src.toNat)).1

def ackAllStep (c : Core) : Core := c.ackAll
def unmuteStep (c : Core) : Core := c.unmute

/-- FLT_SRC_CFG_WRITE: the configuration word, or the mask word where `mask`. -/
def fltSrcCfgWriteStep (n : Fin 96) (mask : Bool) (data : BitVec 32) (c : Core) : Core := (c.srcCfgWrite n mask data.toNat).1

/-- INJ_ARM: a write of FLT_INJ_CFG. -/
def injArmStep (be : BitVec 4) (data : BitVec 32) (c : Core) : Core :=
  if be = 0 then c.busErr exHost beByteEnable (FLT_INJ_CFG.arm.addr 0 0) else (c.injCfgWrite be.toNat data.toNat).1

/-- WDOG_KICK. The watchdog's time runs outside this model: HOST_WDOG marks its expiry. -/
def wdogKickStep (key : BitVec 16) (c : Core) : Core := (c.wdogKick key.toNat).1

/-- HOST_WDOG: the watchdog expires while it is enabled (R487). Log entry 79 (DEDUCED). -/
def hostWdogStep (c : Core) : Core := if c.rdTv FLT_WDOG_CFG.en = 1 then c.raise 69 else c

/-- QUIET_WINDOW_END: the window of a unit whose reset has completed closes (R482). -/
def quietWindowEndStep (unit : Fin 9) (index : Fin 128) (c : Core) : Core :=
  let e := (unit.val, index.val)
  if c.inRst.contains e then c else { c with quiet := c.quiet.filter (fun x => x ≠ e) }

/-- ALIVE_TOGGLE (R473): 500 µs of SCLK time have passed since its last change or since it was freed.
Log entry 79 (DEDUCED). -/
def aliveToggleStep (c : Core) : Core := if c.rdB FLT_STAT.alive_run then { c with alive := !c.alive } else c

/-! ## The meanings of the commands -/

/-- LINK_ERROR (R47). -/
def execLinkError (link : Fin 256) (parity : Bool) (s : State) : Out := onRunCore (linkErrorStep link parity) s

/-- FAULT_HIT (R470). -/
def execFaultHit (fs : Fin 96) (info addr : BitVec 32) (aux : BitVec 16) (s : State) : Out :=
  onRunCore (faultHitStep fs info addr aux) s

/-- RECORD_CLOSE (R479). -/
def execRecordClose (s : State) : Out := onRunCore recordCloseStep s

/-- GUARD_EXPIRE (R477). -/
def execGuardExpire (fs : Fin 96) (s : State) : Out := onRunCore (guardExpireStep fs) s

/-- FLT_ACK (R478). -/
def execFltAck (src : BitVec 7) (unit : BitVec 8) (s : State) : Out := onRunCore (fltAckStep src unit) s

/-- ACK_ALL (R478). -/
def execAckAll (s : State) : Out := onRunCore ackAllStep s

/-- UNMUTE (R476). -/
def execUnmute (s : State) : Out := onRunCore unmuteStep s

/-- FLT_SRC_CFG_WRITE (R474). -/
def execFltSrcCfgWrite (n : Fin 96) (mask : Bool) (data : BitVec 32) (s : State) : Out :=
  onRunCore (fltSrcCfgWriteStep n mask data) s

/-- INJ_ARM (R485). -/
def execInjArm (be : BitVec 4) (data : BitVec 32) (s : State) : Out := onRunCore (injArmStep be data) s

/-- WDOG_KICK (R487). -/
def execWdogKick (key : BitVec 16) (s : State) : Out := onRunCore (wdogKickStep key) s

/-- HOST_WDOG (R487). -/
def execHostWdog (s : State) : Out := onRunCore hostWdogStep s

/-- QUIET_WINDOW_END (R482). -/
def execQuietWindowEnd (unit : Fin 9) (index : Fin 128) (s : State) : Out := onRunCore (quietWindowEndStep unit index) s

/-- ALIVE_TOGGLE (R473). -/
def execAliveToggle (s : State) : Out := onRunCore aliveToggleStep s

end Sys2Proof.Machine
end

