-- ==== Sys2Proof/Machine/RegModel.lean ====
section
/-! DEFINITION. The register model (R353 to R376): bus errors, what a read returns and clears, the shadows of latching groups, the
write of every register by its block's rules, the bit-alias region, the indirect windows and the TV scrub. -/

namespace Sys2Proof.Machine

/-- What an address names with a byte-enable: the register, and the bit of an alias; or the first cause of R354. -/
inductive Access where
  | reg (r : RegRef) (bit : Option Nat)
  | bad (cause : Nat)
deriving DecidableEq, Repr

/-- The checks of R354 that depend on the address and the byte-enables, in order. Log entry 81 (DEDUCED). -/
def Part.access (p : Part) (a be : Nat) : Access :=
  let w := a / 4 * 4
  if aliasAddr w then
    let t := aliasOf w
    match p.decodeWord t.1 with
    | .reserved => .bad beReserved
    | .absent => .bad beAbsent
    | .reg r =>
      if a % 4 ≠ 0 then .bad beUnaligned
      else if !be.testBit 0 then .bad beByteEnable
      else if r.wholeWord || r.hasRc then .bad beAlias
      else .reg r (some t.2)
  else
    match p.decodeWord w with
    | .reserved => .bad beReserved
    | .absent => .bad beAbsent
    | .reg r =>
      if a % 4 ≠ 0 then .bad beUnaligned
      else if be % 16 = 0 || (r.wholeWord && be % 16 ≠ 15) then .bad beByteEnable
      else .reg r none

/-! ## What a register reads (R20, R374) -/

/-- The mask of the numbers below `n` that satisfy `p`. -/
def maskOf (n : Nat) (p : Nat → Bool) : Nat := (List.range n).foldl (fun a j => if p j then setBit a j else a) 0

/-- The identification registers (R374). Log entry 1 (DESIGN CHOICE). -/
def Part.idWord (p : Part) (off : Nat) : Nat :=
  match off with
  | 0x00 => 0x4D44 * 65536 + 8
  | 0x04 => p.partCode * 65536 + p.variantCode * 256
  | 0x08 => p.letter * 256 + p.digit
  | 0x0C => maskOf 24 p.cand
  | 0x10 => maskOf p.nSyn (fun _ => true) * 65536 + maskOf p.nCh (fun _ => true)
  | 0x14 => maskOf p.nSyn (fun _ => true) * 2 ^ 24 + maskOf p.nOut (fun _ => true)
  | 0x18 => p.nSlot * 65536 + b2n (p.nLane ≠ 0) * 32 + b2n p.pte * 16 + maskOf p.nLane (fun _ => true)
  | 0x1C => p.vaultMB * 2 ^ 24 + (if p.vaultMB = 0 then 1 else p.vaultMB * 3 / 4) * 65536 + 0x10 * 256 + 0x40
  | _ => 0x80 * 2 ^ 24 + 0x08 * 65536 + p.nTdc * 256 + 0x1F

/-- The notifications pending on a port (R345, R352). -/
def Core.nPend (c : Core) (p : Nat) : Nat := (c.host.ports.get {} p).waits

/-- FRN_PAGE_STAT of the selected page (R465). -/
def Core.pageStat (c : Core) (p : Nat) : Nat :=
  let x := c.page p
  packWord [(31, 31, b2n x.dirty), (30, 30, b2n (pageProt p)), (29, 28, x.recalled), (27, 27, b2n x.aOk), (26, 26, b2n x.bOk),
    (25, 25, b2n x.aWeak), (24, 24, b2n x.bWeak), (23, 23, x.last), (6, 0, x.tokens)]

/-- The word that a register holds: the stored fields, and those that are views of other state (R37, R92, R134, R296, R352,
R374, R451, R465). Log entries 83 (DEDUCED), 90 (DEDUCED). -/
def Core.liveWord (c : Core) (r : RegRef) : Nat :=
  let w := c.rowWord r.row r.i r.k
  match r.id, r.row.off with
  | .idb, off => if off ≤ 0x20 then c.part.idWord off else w
  | .fltSrc, 0x00 => if c.part.fsAbsent r.i then w - w % 8 else w
  | .stg, 0x800 => bits (stamp96 c.now) 15 0
  | .stg, 0x804 => bits (stamp96 c.now) 47 16
  | .stg, 0x808 => bits (stamp96 c.now) 79 48
  | .stg, 0x80C => bits (stamp96 c.now) 95 80
  | .hlk, 0x04 => w ||| place 16 16 (b2n (c.nPend 0 ≠ 0)) ||| place 15 11 (c.nPend 0)
  | .hlk, 0x4C => w ||| place 16 16 (b2n (c.nPend 0 ≠ 0)) ||| place 15 11 (c.nPend 1) ||| place 10 10 (b2n c.ibUp)
  | .ref, 0x00 => if 20 ≤ r.i then w ||| place 9 9 1 else w
  | .ref, 0x04 => if 16 ≤ r.i then c.candPrediv r.i else w
  | .ref, 0x08 => if 16 ≤ r.i then (if r.i < 20 then c.candNom r.i % 2 ^ 32 else 0) else w
  | .ref, 0x0C => if 16 ≤ r.i then (if r.i < 20 then c.candNom r.i / 2 ^ 32 else 0) else w
  | .glc, 0x20 => if r.k ≠ 0 && !c.glcTerm r.i (r.k - 1) then 0 else w
  | .glc, 0x24 => if r.k ≠ 0 && !c.glcTerm r.i (r.k - 1) then 0 else w
  | .vlt, 0x40 => if c.memMap.regions.isEmpty then (c.region r.k).1 else w
  | .vlt, 0x44 => if c.memMap.regions.isEmpty then (c.region r.k).2 else w
  | .vlt, 0x04 => w ||| place VLT_STAT.size.hi VLT_STAT.size.lo c.part.vaultMB
  | .tmc, 0x04 => if c.rd TMC_STAT.state = 1 && !c.memU.tAbort then w - w / 65536 % 16 * 65536 + place 19 16 c.marchBank else w
  | .tmc, 0x14 => let m := Config.viewNat 2 c.free
    place 31 16 (min 65535 (w / 65536 + m / 256)) ||| place 15 8 (min 255 (w / 256 % 256 + m % 256)) ||| place 7 0 w
  | .tmc, off => if 0x400 ≤ off then min (2 ^ 32 - 1) (w + Config.viewNat 2 (c.free + r.k)) else w
  | .rot, 0x40 => if bitOf w 22 && c.rotLeft r.i = 0 then clrBit w 22 else w
  | .rot, 0x60 => ofS 32 (roundR16 (c.rotLeft r.i * 2 ^ 32))
  | .frn, 0x14 => c.pageStat (c.rd FRN_PAGE_SEL.page)
  | .frn, 0x18 => (c.page (c.rd FRN_PAGE_SEL.page)).seq
  | .frn, 0x20 => (c.tally (c.rd FRN_TALLY_SEL.tally)).value % 2 ^ 32
  | .frn, 0x24 =>
    let x := c.tally (c.rd FRN_TALLY_SEL.tally)
    place 30 30 (b2n (c.firnU.tGo && c.firnU.tq.head? = some (c.rd FRN_TALLY_SEL.tally))) ||| place 29 29 (b2n x.failed) ||| place 28 28 (b2n x.upkept)
  | .pteDom, 0x20 => if c.domOn r.i && c.pclk then (c.domStat r.i).rowWord r.row r.i r.k else w
  | .frn, 0x30 => 0
  | .frn, 0x50 => 0
  | .ind, 0x0C => place 31 31 (b2n (c.inds.get {} r.i).acc.isSome)
  | _, _ => w

/-! ## Reads (R356, R360, R361) -/

/-- The row holds an L field. -/
def RegRow.isL (r : RegRow) : Bool := r.flds.any (fun f => f.acc = .lRo || f.acc = .lRw || f.acc = .lRwe)
/-- The row holds an H field. -/
def RegRow.isH (r : RegRow) : Bool := r.flds.any (fun f => f.acc = .hRo || f.acc = .hRw || f.acc = .hRwe)

/-- A read of an L register copies the H words that follow it into the executor's shadow (R361); at most `n` of them. -/
def Core.latchFrom (c : Core) (ex : Nat) : Nat → Nat → Core
  | 0, _ => c
  | n + 1, a => match c.part.decodeWord a with
    | .reg r =>
      if r.row.isH then
        Core.latchFrom { c with shadow := c.shadow.set 0 (exKey ex a) (c.liveWord r) } ex n (a + 4)
      else c
    | _ => c

/-- How a read ends. -/
inductive BusRead where
  | ok (word : Nat) | bus (cause : Nat) | wait
deriving DecidableEq, Repr

/-- What a read of a register clears beside its RC fields: the loss already reported of a queue (R306). -/
def Core.readHook (c : Core) (r : RegRef) : Core :=
  if r.id = .qmgQ && r.row.off = 0x14 then c.setQueue r.i { c.queue r.i with lostSeen := false } else c

/-- An access to a window's data port begins; it waits until the target completes it (R372). A burst whose window is taken
tries again at its end. -/
def Core.indStart (c : Core) (n ex : Nat) (write : Bool) (data : Nat) (solo : Bool := false) : Core :=
  let x := c.inds.get {} n
  if x.acc.isSome then c else
  let a : IndAcc := {
    ex := ex, write := write, data := data % 2 ^ 32, space := c.rd IND_CFG.space n, addr := c.rd IND_ADDR.addr n * 4,
    inc := c.rdB IND_CFG.inc n, solo := solo }
  { c with inds := c.inds.set {} n { x with acc := some a } }

/-- An access that comes outside a burst; it waits behind the one that the window has (R372). -/
def Core.indAsk (c : Core) (n ex : Nat) (write : Bool) (data : Nat) : Core :=
  let x := c.inds.get {} n
  if x.acc.isSome then { c with inds := c.inds.set {} n { x with more := x.more ++ [(ex, write, data % 2 ^ 32)] } }
  else c.indStart n ex write data true

/-- A read of a register by an executor (R356, R360, R361). -/
def Core.readReg (c : Core) (ex : Nat) (r : RegRef) (be : Nat) : BusRead × Core :=
  let a := r.addr
  if r.dataPort then
    match r.id with
    | .qmgQ =>
      if r.row.off ≠ 0x30 then (.ok (c.shadow.get 0 (exKey ex a)), c)
      else if !c.pclk then (.bus beUnavailable, c)
      else let x := c.queueReadLatch r.i ex; (.ok x.1, x.2)
    | .tim => let x := c.calDataRead; (.ok x.1, x.2)
    | _ => (.wait, c.indStart r.i ex false 0)
  else
    let c := c.on (r.id = .frs && r.row.off = 0x10) Core.frostFlow
    let w := if r.row.isH then c.shadow.get 0 (exKey ex a) else c.liveWord r
    let c := if r.row.isL then c.latchFrom ex 3 (a + 4) else c
    (.ok (w &&& beMask be), (c.clearRc r.row r.i r.k).readHook r)

/-! ## Writes: refusals (R363, R405) -/

/-- A refusal recorded in the CFG_REJECT of the register's block. -/
def Core.blkReject (c : Core) (r : RegRef) : Core :=
  let off := r.row.off + r.k * r.row.step
  match r.id with
  | .flt | .fltCnt | .fltUnit => c.fltReject 255
  | .fltSrc => c.fltReject r.i
  | .stg => c.stgReject off
  | .mtl => c.reject MTL_CFG_REJECT.valid MTL_CFG_REJECT.count MTL_CFG_REJECT.word (off / 4)
  | .ref => c.reject REF_CFG_REJECT.valid REF_CFG_REJECT.count REF_CFG_REJECT.word (off / 4) r.i
  | .ch => c.chReject r.i off
  | .glc => c.reject GLC_CFG_REJECT.valid GLC_CFG_REJECT.count GLC_CFG_REJECT.word (off / 4) r.i
  | .syn => c.synReject r.i off
  | .out => c.outReject r.i off
  | .pa => c.paReject r.i off
  | .rot => c.reject PAL_ROT_CFG_REJECT.valid PAL_ROT_CFG_REJECT.count PAL_ROT_CFG_REJECT.word (off / 4) r.i
  | .tim => c.timReject off
  | .eth => c.ethReject r.i off
  | .pte | .pteDom | .ptePort | .pteSv | .ptePath => c.pteReject (r.addr - 0x210000)
  | .qmgQ =>
    let c := if c.rdB QMG_CFG_REJECT.valid then c else (c.wr QMG_CFG_REJECT.queue r.i).wr QMG_CFG_REJECT.globl 0
    c.reject QMG_CFG_REJECT.valid QMG_CFG_REJECT.count QMG_CFG_REJECT.word (off / 4)
  | .ind => c.reject IND_CFG_REJECT.valid IND_CFG_REJECT.count IND_CFG_REJECT.word ((r.i * 0x20 + off) / 4)
  | .frn => c.reject FRN_CFG_REJECT.valid FRN_CFG_REJECT.count FRN_CFG_REJECT.word (off / 4)
  | .frs => c.reject FRS_CFG_REJECT.valid FRS_CFG_REJECT.count FRS_CFG_REJECT.word (off / 4)
  | .idb | .hlk | .glcG | .rs | .qmgG | .tmc | .vlt | .indG => c

/-- The image application holds the block of a register that carries the block's enable in bit 31 (R405).
Log entry 80 (DEDUCED). -/
def Core.enHeld (c : Core) (r : RegRef) : Bool :=
  r.row.off = 0 && (match r.id with
    | .ref => c.mtlHolds stCand r.i
    | .ch => c.mtlHolds stChan r.i
    | .syn => c.mtlHolds stSyn r.i
    | .out => c.mtlHolds stOut r.i
    | .eth => c.mtlHolds stLane r.i
    | .qmgQ => c.unitHeld 8 r.i
    | .tim => c.memHolds 5 0
    | .pte => c.memHolds 7 0
    | .pteDom => c.ptpHolds (2 * r.i) 2
    | .ptePort => c.ptpHolds (4 + r.i) 1
    | .pteSv => c.ptpHolds (8 + r.i) 1
    | _ => false)

/-- A write that would set the enable of a held block (R405). Log entry 80 (DEDUCED). -/
def Core.heldWrite (c : Core) (r : RegRef) (be data : Nat) : Bool :=
  c.enHeld r && be.testBit 3 && bitOf data 31 && !bitOf (c.rowWord r.row r.i r.k) 31

/-! ## Writes by block -/

/-- A plain write of a register's fields. -/
def Core.plain (c : Core) (r : RegRef) (be data : Nat) : Core := (c.writeRow r.row false be data r.i r.k).1

/-- A write of REF_CFG, after which the rotors that use the pin pair follow (R88, R92). -/
def Core.refCfgRotor (c : Core) (i be data : Nat) : Core × Bool :=
  let x := c.refCfgWrite i be data
  (x.1.each (List.range c.part.nCh) Core.rotEval, x.2)

/-- A write of a candidate's register (R92). -/
def Core.refWrite (c : Core) (ex : Nat) (r : RegRef) (be data : Nat) : Core × Bool :=
  let i := r.i
  let en := c.rdB REF_CFG.en i
  match r.row.off with
  | 0x00 => c.refCfgRotor i be data
  | 0x04 =>
    if 16 ≤ i then (c, false) else
    let x := c.writeRow r.row en be data i
    ((if x.2 then x.1.blkReject r else x.1).candEval i, x.2)
  | 0x08 => if 16 ≤ i then (c, false) else (c.stage ex r.addr data, false)
  | 0x0C =>
    if 16 ≤ i then (c, false) else
    let x := c.commitPair REF_NOM_LO.nom_lo REF_NOM_HI.nom_hi true en ex data i
    ((if x.2 then x.1.blkReject r else x.1).candEval i, x.2)
  | 0x14 =>
    let c := c.plain r be data
    ((if 20 ≤ i then c.wr REF_QUAL_CFG.pw_en 0 i else c).candEval i, false)
  | 0x34 =>
    let c := (c.plain r be data).candEval i
    (if pulsed REF_CTRL.requal be data then requalStep (Fin.ofNat 24 i) c else c, false)
  | 0x2C => ((c.plain r be data).qlSource i, false)
  | 0x30 => ((c.plain r be data).pairsClear, false)
  | _ => ((c.plain r be data).candEval i, false)

/-- A write of a channel's register. -/
def Core.chWrite (c : Core) (ex : Nat) (r : RegRef) (be data : Nat) : Core × Bool :=
  let h := r.i
  match r.row.off with
  | 0x00 => c.chCfgWrite h be data
  | 0x04 => c.chSelWrite h be data
  | 0x30 => (c.stage ex r.addr data, false)
  | 0x34 => c.commitPair CH_TOFFS_LO.toffs_lo CH_TOFFS_HI.toffs_hi false false ex data h
  | 0x38 => c.chCtrlWrite h be data
  | 0x3C => (c.stage ex r.addr data, false)
  | 0x40 => c.chPstepHi h ex data
  | _ => (c.plain r be data, false)

/-- What follows a host write of a model's settings (R135, R143, R147). -/
def Core.glcFollow (c : Core) (h : Nat) : Core := (((c.glcPred h).glcTempOk h).glcHoValid h).hoChanged h

/-- A write of a Glacier slice's register (R146, R154, R155, R163). Log entries 72 (DEDUCED), 80 (DEDUCED). -/
def Core.glcWrite (c : Core) (ex : Nat) (r : RegRef) (be data : Nat) : Core × Bool :=
  let h := r.i
  let en := c.rdB GLC_MDL_CFG.learn_en h || !c.glcReady
  let rej := fun (x : Core × Bool) => ((if x.2 then x.1.blkReject r else x.1.glcFollow h), x.2)
  match r.row.off with
  | 0x00 => c.glcMdlCfgWrite h be data
  | 0x0C =>
    let f := Fin.ofNat 12 h
    let bad := pulsed GLC_MDL_CTRL.declare be data && c.rdB GLC_MDL_CFG.learn_en h
    let c := c.on (pulsed GLC_MDL_CTRL.clear be data) (clearStep f false)
    let c := c.on (pulsed GLC_MDL_CTRL.declare be data) (declareStep f false)
    (c.on (pulsed GLC_MDL_CTRL.store be data) (glcMdlStoreStep f), bad)
  | 0x14 =>
    let x := c.writeRow r.row en be data h
    ((if x.2 then x.1.blkReject r else x.1), x.2)
  | 0x58 => rej (c.writeRow r.row en be data h)
  | 0x20 => (c.stage ex r.addr data, false)
  | 0x24 => rej (c.commitPair GLC_C_LO.c_lo GLC_C_HI.c_hi true en ex data h r.k)
  | 0x60 => (c.stage ex r.addr data, false)
  | 0x64 => rej (c.commitPair GLC_ORIGIN_LO.org_lo GLC_ORIGIN_HI.org_hi true en ex data h)
  | 0x80 => c.ensMemWrite h be data
  | _ => ((c.plain r be data).glcHoValid h, false)

/-- A write of a rotor slice's register (R165, R178). -/
def Core.rotWrite (c : Core) (r : RegRef) (be data : Nat) : Core × Bool :=
  if r.row.off = 0x28 then (c.on (pulsed PAL_ROT_CTRL.resync be data) (hostResyncStep (Fin.ofNat 12 r.i)), false) else
  let x := c.writeRow r.row (c.rdB CH_CFG.en r.i) be data r.i
  (((if x.2 then x.1.blkReject r else x.1).rotEval r.i).rotClamp r.i, x.2)

/-- A write of a synthesiser's register. -/
def Core.synWrite (c : Core) (ex : Nat) (r : RegRef) (be data : Nat) : Core × Bool :=
  let n := r.i
  match r.row.off with
  | 0x00 => (c.synCfgWrite n be data, false)
  | 0x04 => (c.stage ex r.addr data, false)
  | 0x08 => c.synFbWrite n ex data
  | 0x10 => c.synStageWrite n r.k be data
  | 0x40 => c.synCtrlWrite n (data &&& beMask be)
  | 0x44 => c.synSscWrite n be data
  | 0x48 => (c.synDitherWrite n be data, false)
  | _ => (c.plain r be data, false)

/-- A write of an aligner's register. -/
def Core.paWrite (c : Core) (ex : Nat) (r : RegRef) (be data : Nat) : Core × Bool :=
  match r.row.off with
  | 0x00 => c.paCfgWrite r.i be data
  | 0x0C => (c.stage ex r.addr data, false)
  | 0x10 => c.paOffsWrite r.i ex data
  | off => c.paRowWrite r.i off r.row be data

/-- A write of a TIM register. -/
def Core.timWrite (c : Core) (ex : Nat) (r : RegRef) (be data : Nat) : Core × Bool :=
  match r.row.off with
  | 0x10 => (c.stage ex r.addr data, false)
  | 0x14 =>
    let x := c.commitPair TIM_NOM_LO.nom_lo TIM_NOM_HI.nom_hi true (c.rdB TIM_CFG.en) ex data
    ((if x.2 then x.1.timReject 0x14 else x.1).timEval, x.2)
  | 0x18 => (c.timRefCfgWrite be data, false)
  | 0x1C => c.timCtrlWrite (data &&& beMask be)
  | 0x80 => c.calSelWrite be data
  | 0x8C => ((c.plain r be data).calRegs, false)
  | 0x94 => (c.on (pulsed TIM_CAL_CTRL.now be data) calNowStep, false)
  | off => c.timRowWrite off r.row be data

/-- A write of a lane's register. -/
def Core.ethWrite (c : Core) (r : RegRef) (be data : Nat) : Core × Bool :=
  if r.row.off = 0x3C then (c.ethCtrlWrite r.i (data &&& beMask be), false) else c.ethRowWrite r.i r.row.off r.row be data r.k

/-- A write of an engine register (R296). -/
def Core.pteWrite (c : Core) (r : RegRef) (be data : Nat) : Core × Bool :=
  let off := r.addr - 0x210000
  match r.id, r.row.off with
  | .pte, 0x60 => c.slotCtrlWrite be data
  | .pte, _ => c.pteRowWrite off r.row (c.rdB PTE_CFG.en) be data r.i
  | .pteDom, _ => c.pteRowWrite off r.row (c.rdB PTE_DOM_CFG.en r.i) be data r.i
  | .ptePort, _ => c.pteRowWrite off r.row (c.rdB PTE_PORT_CFG.en r.i) be data r.i
  | .pteSv, 0x04 => (c.on (pulsed PTE_SV_CTRL.asym_ack be data) (svAsymAckStep (Fin.ofNat 4 r.i)), false)
  | .pteSv, 0x08 => (c.svAsymWrite r.i be data, false)
  | .pteSv, _ => c.pteRowWrite off r.row (c.rdB PTE_SV_CFG.en r.i) be data r.i
  | _, 0x00 => (c.pathKeyWrite r.i be data, false)
  | _, _ => (c.plain r be data, false)

/-- A write of a queue's register: its controls act in the order release, rewind, mark and flush (R305, R307, R339).
Log entry 72 (DEDUCED). -/
def Core.qmgWrite (c : Core) (r : RegRef) (be data : Nat) : Core :=
  let q := r.i
  match r.row.off with
  | 0x00 => (c.plain r be data).queueRegs q
  | 0x10 =>
    let c := c.on (pulsed QMG_Q_CTRL.release be data) (fun c => c.queueRelease q)
    let c := c.on (pulsed QMG_Q_CTRL.rewind be data) (fun c => c.queueRewind q)
    let c := c.on (pulsed QMG_Q_CTRL.mark be data) (fun c => c.queueMark q)
    c.on (pulsed QMG_Q_CTRL.flush be data) (fun c => c.queueFlush q)
  | _ => c

/-- A write of the bits `m` of an indirect window's CFG or ADDR: an invalid space keeps its value; while an access of
the window waits it takes effect afterwards (R363, R371, R373). -/
def Core.indWriteM (c : Core) (r : RegRef) (m data : Nat) : Core × Bool :=
  let n := r.i
  let x := c.inds.get {} n
  let into := fun (old m v : Nat) => old ^^^ ((old ^^^ v) &&& m)
  match r.row.off with
  | 0x00 =>
    let old := match x.cfgNew with | some v => v | none => c.rd IND_CFG.space n * 16 + c.rd IND_CFG.inc n
    let v := into old m data % 128
    let sp := bits v 6 4
    let bad := 4 ≤ sp || (sp = 2 && c.part.vaultMB = 0)
    let sp := if bad then bits old 6 4 else sp
    let c := if x.acc.isSome then { c with inds := c.inds.set {} n { x with cfgNew := some (sp * 16 + v % 2) } }
      else (c.wr IND_CFG.space sp n).wr IND_CFG.inc (v % 2) n
    (if bad then c.blkReject r else c, bad)
  | 0x04 =>
    let m := bits m 31 2
    let v := bits data 31 2
    if x.acc.isSome then
      let y := x.addrNew.getD (0, 0)
      ({ c with inds := c.inds.set {} n { x with addrNew := some (y.1 ||| m, into y.2 m v) } }, false)
    else (c.wr IND_ADDR.addr (into (c.rd IND_ADDR.addr n) m v) n, false)
  | _ => (c, false)

/-- A write of an indirect window's CFG or ADDR under byte-enables. Log entry 82 (DEDUCED). -/
def Core.indWrite (c : Core) (r : RegRef) (be data : Nat) : Core × Bool := c.indWriteM r (beMask be) data

/-- A write of a Tile or Vault test register. -/
def Core.memCtlWrite (c : Core) (r : RegRef) (be data : Nat) : Core :=
  let c := c.plain r be data
  if r.row.off ≠ 0 then c else
  if r.id = .tmc then
    let c := c.on (pulsed TMC_CTRL.abort be data) (fun c => let e := c.atEnd (c.rd TMC_STAT.state = 1); e.2.tmcAbort e.1)
    c.on (pulsed TMC_CTRL.start be data) (fun c => c.tmcStart)
  else
    let c := c.on (pulsed VLT_CTRL.abort be data) (fun c => let e := c.atEnd (c.vaultState = vltTesting); e.2.vltAbort e.1)
    let c := c.on (pulsed VLT_CTRL.retrain be data) (fun c => c.vltRetrain)
    c.on (pulsed VLT_CTRL.test_start be data) (fun c => c.vltTestStart)

/-- A write of FRN_KEY_CTRL: refused as a whole where R452 says so, else provision, policy and zeroise. -/
def Dev.keyCtrlWrite (d : Dev) (be data : Nat) : Dev × Bool :=
  let c := d.core
  let confirm := BitVec.ofNat 16 (bits (data &&& beMask be) 15 0)
  let prov := pulsed FRN_KEY_CTRL.provision be data
  let pol := pulsed FRN_KEY_CTRL.policy be data
  let zero := pulsed FRN_KEY_CTRL.zeroise be data
  let set := c.rdB FRN_KEY_STAT.key_set
  if confirm.toNat ≠ 0x4B59 || (prov && set) || (pol && !set) || (zero && c.rdB FRN_KEY_STAT.policy) then
    ({ d with core := c.keyRefuse }, true)
  else
    let d := if prov then { d with core := provisionStep confirm c } else d
    let d := if pol then policyStep confirm d else d
    (if zero then { d with core := zeroiseStep confirm d.core } else d, false)

/-- A write of a Firn register; FRN_KEY_CTRL apart. Log entry 72 (DEDUCED). -/
def Core.frnWrite (c : Core) (r : RegRef) (be data : Nat) : Core :=
  let c := c.plain r be data
  match r.row.off with
  | 0x04 =>
    let c := c.on (pulsed FRN_STORE_CTRL.abort be data) (fun c => let e := c.atEnd c.firnU.run.isSome; (e.2.storeAbort e.1).1)
    c.on (pulsed FRN_STORE_CTRL.go be data)
      (fun c => c.storeAsk 0 (c.rd FRN_STORE_CTRL.first) (c.rd FRN_STORE_CTRL.last))
  | 0x24 => c.on (pulsed FRN_TALLY_CTRL.inc be data) (fun c => c.tallyInc (c.rd FRN_TALLY_SEL.tally))
  | _ => c

/-- A write of a register of the collector. -/
def Core.fltWrite (c : Core) (r : RegRef) (be data : Nat) : Core × Bool :=
  match r.id, r.row.off with
  | .flt, 0x00 =>
    let c := c.on (pulsed FLT_CTRL.unmute be data) Core.unmute
    (c.on (pulsed FLT_CTRL.ack_all be data) Core.ackAll, false)
  | .flt, 0x04 => c.fltAckWrite be data
  | .flt, 0x14 => if be % 4 = 0 then (c, false) else c.wdogKick (bits (data &&& beMask be) 15 0)
  | .flt, 0x18 => c.injCfgWrite be data
  | .flt, 0x1C => c.injTgtWrite be data
  | .fltSrc, 0x00 => c.srcCfgWrite r.i false data
  | .fltSrc, 0x04 => c.srcCfgWrite r.i true data
  | _, _ => (c.plain r be data, false)

/-- A write of an STG register; the second value tells a refusal. -/
def Dev.stgWrite (d : Dev) (ex : Nat) (r : RegRef) (be data : Nat) : Dev × Bool :=
  let c := d.core
  let lift := fun (x : Core × Bool) => (({ d with core := x.1 } : Dev), x.2)
  match r.row.off with
  | 0x04 => if pulsed STG_CTRL.course be data then d.coursePulse else (d, false)
  | 0x08 => if bitOf data 0 then lift (c.hostReset (bits data 31 16)) else (d, false)
  | 0x18 =>
    let c := c.plain r be data
    if pulsed STG_BLK_RST.go be data then lift (c.blkGo (c.rd STG_BLK_RST.unit) (c.rd STG_BLK_RST.index)) else lift (c, false)
  | 0x824 => lift (c.stage ex r.addr data, false)
  | 0x828 => lift (c.dtSetCommit ex (bits data 15 0) false, false)
  | _ => lift (c.plain r be data, false)

/-- How a write ends. -/
inductive BusWrite where
  | ok | locked | bus (cause : Nat)
  /-- The executor waits: an indirect window (0 to 3), or the loader's verification (4). -/
  | wait (on : Nat)
deriving DecidableEq, Repr

/-- A write of a Mortar register: auth_req does not return to 0 (R398); an abort precedes a load (R399, R410).
Log entry 72 (DEDUCED). -/
def Dev.mtlWrite (d : Dev) (r : RegRef) (be data : Nat) : Dev × BusWrite :=
  let c := d.core
  match r.row.off with
  | 0x00 =>
    let c := if c.rdTv MTL_CFG.auth_req = 1 then c else c.plain r be data
    ({ d with core := c }, .ok)
  | 0x04 =>
    let c := c.plain r be data
    let d := { d with core := c }
    let d := if pulsed MTL_CTRL.abort be data then
        let e := c.atEnd (c.mlState = mlVerifying)
        Dev.loaderAbort { d with core := e.2 } e.1
      else d
    let c := d.core
    if pulsed MTL_CTRL.load be data then
      let x := c.mtlLoad
      ({ d with core := x.1 }, if x.2 then .wait 4 else .locked)
    else ({ d with core := c }, .ok)
  | _ => ({ d with core := c.plain r be data }, .ok)

/-- A write of a register by an executor, by its block's rule. -/
def Dev.writeFree (d : Dev) (ex : Nat) (r : RegRef) (be data : Nat) : Dev × BusWrite :=
  let c := d.core
  let fin := fun (x : Core × Bool) => (({ d with core := x.1 } : Dev), if x.2 then BusWrite.locked else .ok)
  let finD := fun (x : Dev × Bool) => (x.1, if x.2 then BusWrite.locked else .ok)
  match r.id with
  | .idb | .fltCnt | .fltUnit | .qmgG | .indG => (d, .ok)
  | .hlk => fin ((c.plain r be data).bufFlow 0, false)
  | .flt | .fltSrc => fin (c.fltWrite r be data)
  | .stg => finD (d.stgWrite ex r be data)
  | .mtl => d.mtlWrite r be data
  | .ref => fin (c.refWrite ex r be data)
  | .ch => fin (c.chWrite ex r be data)
  | .glc => fin (c.glcWrite ex r be data)
  | .glcG => fin (c.on (r.row.off = 0x34 && pulsed GLC_AGE_CTRL.new_osc be data) newOscStep |>.plain r be data, false)
  | .rs =>
    fin (if r.row.off = 0x18 then c.on (pulsed RS_CTRL.relock be data) rsRelockStep else c.plain r be data, false)
  | .syn => fin (c.synWrite ex r be data)
  | .out =>
    if r.row.off = 0 then fin (c.outCfgWrite r.i be data) else fin ((c.plain r be data).outRefresh r.i kcHost, false)
  | .pa => fin (c.paWrite ex r be data)
  | .rot => fin (c.rotWrite r be data)
  | .tim => fin (c.timWrite ex r be data)
  | .eth => fin (c.ethWrite r be data)
  | .pte | .pteDom | .ptePort | .pteSv | .ptePath => fin (c.pteWrite r be data)
  | .qmgQ => fin (c.qmgWrite r be data, false)
  | .tmc | .vlt => fin (c.memCtlWrite r be data, false)
  | .frn => if r.row.off = 0x50 then finD (d.keyCtrlWrite be data) else fin (c.frnWrite r be data, false)
  | .frs => fin (c.plain r be data, false)
  | .ind =>
    if r.row.off = 0x08 then ({ d with core := c.indStart r.i ex true data }, .wait r.i) else fin (c.indWrite r be data)

/-- The image application holds the unit of a register. -/
def Core.regHeld (c : Core) (r : RegRef) : Bool :=
  match r.id with
  | .ref => c.unitHeld 0 r.i
  | .ch | .glc => c.unitHeld 1 r.i
  | .syn => c.unitHeld 2 r.i
  | .out => c.unitHeld 3 r.i
  | .tim => c.unitHeld 5 0
  | .eth => c.unitHeld 6 r.i
  | .pte | .pteDom | .ptePort | .pteSv => c.unitHeld 7 0
  | .qmgQ => c.unitHeld 8 r.i
  | _ => false

/-- The fields that a write of a held unit's register reaches are noted for the unit's step; a pair's are written by the
write of its H word (R362, R411). -/
def Core.heldNote (c : Core) (r : RegRef) (be : Nat) : Core :=
  if !c.regHeld r then c else
  let l := r.row.flds.filter (fun f => bits (beMask be) f.hi f.lo ≠ 0 && f.acc ≠ .lRwe)
  let l := if r.id = .syn && r.row.off = SYN_FB_HI.frac_hi.off then l ++ [SYN_FB_LO.frac_lo] else l
  c.setMtl { c.mtl with wrote := c.mtl.wrote ++ l.map (fun f => f.key r.i r.k) }

/-- A write of a register by an executor. An enable that the image application holds is refused, and the rest of the word is
written (R363, R405). -/
def Dev.writeReg (d : Dev) (ex : Nat) (r : RegRef) (be data : Nat) : Dev × BusWrite :=
  let d := { d with core := d.core.heldNote r be }
  if !d.core.heldWrite r be data then d.writeFree ex r be data else
  let x := d.writeFree ex r be (clrBit data 31)
  match x.2 with
  | .ok => ({ x.1 with core := x.1.core.blkReject r }, .locked)
  | _ => x

/-! ## Accesses by address (R354 to R358, R365) -/

/-- A read of an address by an executor. A waiting access has begun, or waits for the one before it. -/
def Core.busRead (c : Core) (ex a be : Nat) : BusRead × Core :=
  match c.part.access a be with
  | .bad k => (.bus k, c.busErr ex k a)
  | .reg r none =>
    let x := c.readReg ex r be
    match x.1 with
    | .bus k => (.bus k, c.busErr ex k a)
    | _ => x
  | .reg r (some b) => (.ok (b2n (bitOf (c.liveWord r) b)), c)

/-- The write through an alias: bit `b` alone takes the data's bit 0; a 0 for a pulse, and any value for a reserved bit, do
nothing (R365). Log entry 81 (DEDUCED). -/
def Dev.aliasWrite (d : Dev) (ex : Nat) (r : RegRef) (b data : Nat) : Dev × BusWrite :=
  match r.row.flds.find? (fun f => f.lo ≤ b && b ≤ f.hi) with
  | none => (d, .ok)
  | some f =>
    if f.acc = .wp && !bitOf data 0 then (d, .ok)
    else if r.id = .ind then
      let x := d.core.indWriteM r (2 ^ b) (data % 2 * 2 ^ b)
      ({ d with core := x.1 }, if x.2 then .locked else .ok)
    else d.writeReg ex r (2 ^ (b / 8)) (putBit (d.core.rowWord r.row r.i r.k) b (bitOf data 0))

/-- A write of an address by an executor. -/
def Dev.busWrite (d : Dev) (ex a be data : Nat) : Dev × BusWrite :=
  let err := fun (k : Nat) => (({ d with core := d.core.busErr ex k a } : Dev), BusWrite.bus k)
  match d.core.part.access a be with
  | .bad k => err k
  | .reg r none => d.writeReg ex r be data
  | .reg r (some b) => d.aliasWrite ex r b data

/-! ## Hardware updates that a host write overrides (R367, R368) -/

/-- A hardware update of the register at an address is lost (R368). Log entry 82 (DEDUCED). -/
def Core.hwLost (c : Core) (addr : Nat) : Core :=
  let c := if c.rdB IDB_HW_OVERRIDE.valid then c else c.wr IDB_HW_OVERRIDE.word (addr / 4)
  (c.wr IDB_HW_OVERRIDE.valid 1).bump IDB_HW_OVERRIDE.count

/-- The registers whose control fields hardware may change: IND_ADDRn, TIM_CAL_IDX and the PTE_PATH entries (R368).
Log entry 82 (DEDUCED). -/
def RegRef.hwMayChange (r : RegRef) : Bool :=
  match r.id with
  | .ind => r.row.off = IND_ADDR.addr.off
  | .tim => r.row.off = TIM_CAL_IDX.entry.off
  | .ptePath => true
  | _ => false

/-! ## The indirect windows (R371 to R373) -/

/-- The Vault serves the host: READY, or under a preserving test, with PCLK running (R323, R372). Log entry 82 (DEDUCED). -/
def Core.vaultServes (c : Core) : Bool :=
  c.pclk && (c.vaultState = vltReady || (c.vaultState = vltTesting && !c.memU.vDestr))

/-- A byte of the Vault as the host reads it: the client table as the engine holds it, 0 in a poisoned burst (R286,
R321). -/
def Dev.vaultRead (d : Dev) (a : Nat) : Byte :=
  let c := d.core
  let r := c.region 1
  if c.memU.poison.contains (a / 64 * 64) then 0#8
  else if r.1 ≤ a && a < r.1 + r.2 then
    (if (a - r.1) / 512 < c.part.nSlot then (c.slotBytes ((a - r.1) / 512)).getD ((a - r.1) % 512) 0#8 else d.mem.vaultByte a)
  else d.mem.vaultByte a

/-- A Vault address lies in the client table or the stamp buffer (R371). -/
def Core.vaultOpenAt (c : Core) (a : Nat) : Bool :=
  [1, 2].any fun k => let r := c.region k; r.1 ≤ a && a < r.1 + r.2

/-- The host writes bytes of Tile memory, by address: those of a calibration table change it (R233, R340). A word of which it
writes a part is read, and written whole; where it is lost the rest of it is 0 (R311, R315). -/
def Core.hostTile (c : Core) (l : List (Nat × Byte)) : Core :=
  let words := (l.map (fun e => e.1 / 16)).eraseDups
  let r := (words.filter (fun w => decide ((l.filter (fun e => e.1 / 16 = w)).length < 16))).foldl
    (fun (s : Core × List (Nat × Byte)) w =>
      let y := s.1.tileWord (16 * w)
      (y.1, if y.2 then s.2 ++ (List.range 16).map (fun j => (16 * w + j, 0#8)) else s.2)) (c, [])
  ((r.1.tabPut (r.2 ++ l)).tileWrote words).memPut 0 (r.2 ++ l)

/-- A read of a Frost register: FRS_W_SUB latches the seconds in Frost, FRS_W_ALARM_LO the high word in the executor's
shadow, FRS_W_WAKE_STAT clears (R361, R458, R461). Log entry 72 (DEDUCED). -/
def Core.frostRead (c : Core) (ex a : Nat) (r : RegRow) : Nat × Core :=
  match a with
  | 0x00 =>
    let c := c.frostFlow
    let sec := c.rd FRS_W_SEC_LO.sec_lo + c.rd FRS_W_SEC_HI.sec_hi * 2 ^ 32
    (c.rowWord r, { c with frost := { c.frost with latch := sec } })
  | 0x04 => (c.frost.latch % 2 ^ 32, c)
  | 0x08 => (c.frost.latch / 2 ^ 32, c)
  | 0x44 =>
    (c.rowWord r, { c with shadow := c.shadow.set 0 (exKey ex (FRS_W_ALARM_HI.al_hi.addr 0 0)) (c.rd FRS_W_ALARM_HI.al_hi) })
  | 0x48 => (c.shadow.get 0 (exKey ex (FRS_W_ALARM_HI.al_hi.addr 0 0)), c)
  | _ => (c.rowWord r, c.clearRc r)

/-- A write of a Frost register (R458 to R461). -/
def Core.frostWrite (c : Core) (ex a : Nat) (r : RegRow) (data : Nat) : Core :=
  if a = 0x18 then frostTimeCommitStep (BitVec.ofNat 16 data) c
  else if a = 0x44 then c.stage ex (FRS_W_ALARM_LO.al_lo.addr 0 0) data
  else if a = 0x48 then (c.commitPair FRS_W_ALARM_LO.al_lo FRS_W_ALARM_HI.al_hi false false ex data).1
  else ((c.writeRow r false 15 data).1).frostMirror

/-- What the target answers: the word, an uncorrectable error and a lost write; or why it cannot (R372). -/
inductive IndAns where
  | ok (word : Nat) (ue coll : Bool)
  | bad (why : Nat)
deriving DecidableEq, Repr

/-- The target performs a window's access (R371, R372). `coll` says that a Tile write meets WR_COLL, `late` that Frost
has not answered within 1 ms. Log entry 82 (DEDUCED). -/
def Dev.indDo (d : Dev) (x : IndAcc) (coll late : Bool) : Dev × IndAns :=
  let c := d.core
  let a := x.addr
  let word := fun (f : Nat → Byte) => leVal ((List.range 4).map (fun j => f (a + j)))
  match x.space with
  | 0 =>
    if 2 ^ 21 ≤ a then (d, .bad 1)
    else if x.write then
      if x.lost then (d, .ok 0 false true)
      else if coll then ({ d with core := c.portCount (portMeet true true) }, .ok 0 false true)
      else ({ d with core := c.hostTile ((List.range 4).map (fun j => (a + j, BitVec.ofNat 8 (x.data >>> (8 * j))))) },
        .ok 0 false false)
    else
      let y := c.tileWord a
      ({ d with core := y.1 }, .ok (if y.2 then 0 else word d.tileRead) y.2 false)
  | 1 =>
    if 2 ^ 18 ≤ a then (d, .bad 1)
    else if x.write then
      if pageProt (a / 1024) then (d, .bad 2)
      else ({ d with core := c.frontWrite a (bytesLE 4 x.data) }, .ok 0 false false)
    else
      let p := a / 1024
      (d, .ok (if p = 129 || 254 ≤ p then 0 else word (fun b => d.mem.firn.get 0#8 b)) false false)
  | 2 =>
    if !c.vaultOpenAt a then (d, .bad 1)
    else if x.write then (d, .bad 2)
    else if !c.vaultServes then (d, .bad 3)
    else
      let d := { d with core := c.vaultInj a }
      (d, .ok (word d.vaultRead) (d.core.memU.poison.contains (a / 64 * 64)) false)
  | _ =>
    if 0x400 ≤ a then (d, .bad 1)
    else if late then (d, .bad 3)
    else match rowAt rowsFRSW a with
      | none => (d, .bad 2)
      | some (r, _) =>
        if x.write then ({ d with core := c.frostWrite x.ex a r x.data }, .ok 0 false false)
        else let y := c.frostRead x.ex a r; ({ d with core := y.2 }, .ok y.1 false false)

/-- The access of window `n` completes: its effect, IND_ERR, the increment, and then writes of the window that waited;
the bits that a host write of the address took prevail over the increment, which is recorded as lost; the next access
that waits begins (R367, R368, R372, R373). A Tile access to a bank under a destructive test receives BUSY and waits on;
each repeat is a meeting with a write or a read of port 0 (R314, R316). The answer is the executor's, the direction and
what the target said. Log entries 82 (DEDUCED), 95 (DEDUCED). -/
def Dev.indEnd (d : Dev) (n busy : Nat) (coll late : Bool) : Dev × Option (IndAcc × IndAns) :=
  let w := d.core.inds.get {} n
  match w.acc with
  | none => (d, none)
  | some x =>
    if x.space = 0 && d.core.bankBusy (x.addr / 131072) then
      ({ d with core := d.core.bump TMC_COLL.busy 0 0 (busy + 1) }, none)
    else
    let y := d.indDo x coll late
    let tile := x.space = 0
    let c := y.1.core.on tile (fun c => c.portCount (portMeet (!x.write) x.write) busy)
    let c := c.on tile (fun c => c.rowBusy (x.addr / 131072))
    let c := { c with inds := c.inds.set {} n { more := w.more.drop 1 } }
    let c := match y.2 with
      | .ok _ ue cl =>
        let c := c.on ue (fun c => c.wr IND_ERR.ue 1 n)
        let c := c.on cl (fun c => c.wr IND_ERR.wr_coll 1 n)
        if !x.inc then c
        else
          let c := c.wr IND_ADDR.addr (c.rd IND_ADDR.addr n + 1) n
          c.on w.addrNew.isSome (fun c => c.hwLost (IND_ADDR.addr.addr n 0))
      | .bad why => (c.wr IND_ERR.unavail why n).busErr x.ex beUnavailable (IND_DATA.data.addr n 0)
    let c := match w.addrNew with
      | some v => let a := c.rd IND_ADDR.addr n; c.wr IND_ADDR.addr (a ^^^ ((a ^^^ v.2) &&& v.1)) n
      | none => c
    let c := match w.cfgNew with | some v => (c.wr IND_CFG.space (v / 16) n).wr IND_CFG.inc v n | none => c
    let c := match w.more with | e :: _ => c.indStart n e.1 e.2.1 e.2.2 true | [] => c
    ({ y.1 with core := c }, some (x, y.2))

/-! ## The TV scrub (R364) -/

/-- The scrub visits the TV fields of a register: a copy that differs from the majority is rewritten, counted and told.
Log entry 78 (DEDUCED). -/
def Core.tvVisit (c : Core) (r : RegRef) : Core :=
  let bad := fun (c : Core) (f : Fld) =>
    let v := c.rdTv f r.i r.k
    let key := f.key r.i r.k
    b2n (c.rd f r.i r.k ≠ v) + b2n (Nat.xor (c.rd f r.i r.k) (c.tvB.get 0 key) ≠ v) + b2n (Nat.xor (c.rd f r.i r.k) (c.tvC.get 0 key) ≠ v)
  let l := r.row.flds.filter (fun f => (f.acc = .rwTv || f.acc = .rweTv) && bad c f ≠ 0)
  let inj := c.injArmed 46 r.addr && !l.isEmpty
  (c.on inj Core.injFired).each l fun c f =>
    ((c.wrTv f (c.rdTv f r.i r.k) r.i r.k).bump IDB_TV_CORR.count 0 0 (bad c f)).raiseInfo 46 0 0 inj

/-! ## The commands -/

/-- A register of a block, by its offset. -/
def regOf (id : BlkId) (i off : Nat) : Option RegRef :=
  match blks.find? (fun b => b.id = id) with
  | none => none
  | some b => match rowAt b.rows off with
    | some (r, k) => some ⟨id, i, r, k⟩
    | none => none

/-- A write of a block's register as a command; a bus error where the variant lacks the register, or the byte-enables are none
or too few (R4, R354). Log entry 148 (DESIGN CHOICE). -/
def Dev.poke (d : Dev) (ex : Nat) (id : BlkId) (i off be data : Nat) : Dev :=
  match regOf id i off with
  | none => d
  | some r =>
    match d.core.part.access r.addr be with
    | .bad e => { d with core := d.core.busErr ex e r.addr }
    | .reg r _ => (d.writeReg ex r be data).1

/-- An executor makes an access, or keeps it while it waits for a window (R372). A hardware update of a control field in the
same cycle, which has come before it, is lost (R367, R368). Log entry 82 (DEDUCED). -/
def Dev.busTake (d : Dev) (x : BusAcc) : Dev :=
  if d.core.indWaits x.ex then { d with core := { d.core with exHeld := d.core.exHeld ++ [x] } }
  else match d.core.part.access x.addr x.be with
  | .reg r none =>
    if r.id = .ind && r.row.off = 0x08 then { d with core := d.core.indAsk r.i x.ex x.write x.data }
    else if !x.write then { d with core := d.core.queueTake x.ex r.i }
    else
      let e := (d.busWrite x.ex x.addr x.be x.data).1
      if x.hw && r.hwMayChange then { e with core := e.core.hwLost r.addr } else e
  | _ => (d.busWrite x.ex x.addr x.be x.data).1

/-- REGISTER_WRITE: executor `ex` writes `data` to a byte address under byte-enables (R356 to R363). -/
def registerWriteStep (ex : Fin 4) (addr : BitVec 32) (be : BitVec 4) (data : BitVec 32) (hw : Bool) (d : Dev) : Dev :=
  d.busTake { ex := ex, addr := addr.toNat, be := be.toNat, data := data.toNat, hw := hw }

/-- BIT_ALIAS_WRITE: an address of the alias region (R365, R366). -/
def bitAliasWriteStep (ex : Fin 4) (addr : BitVec 32) (be : BitVec 4) (data : BitVec 32) (d : Dev) : Dev :=
  if aliasAddr addr.toNat then d.busTake { ex := ex, addr := addr.toNat, be := be.toNat, data := data.toNat } else d

/-- IND_DATA_ACCESS: executor `ex` reads or writes IND_DATAn (R372). -/
def indDataAccessStep (n ex : Fin 4) (write : Bool) (data : BitVec 32) (d : Dev) : Dev :=
  d.busTake { ex := ex, addr := IND_DATA.data.addr n 0, data := data.toNat, write := write }

/-- TV_SCRUB_VISIT: the scrub, and the parity sweep with it, reach the register at a word address (R364, R468, R485). -/
def tvScrubVisitStep (addr : BitVec 32) (c : Core) : Core :=
  match c.part.decodeWord (addr.toNat / 4 * 4) with
  | .reg r =>
    let c := c.tvVisit r
    if c.injArmed 72 r.addr then c.injFire 72 0 r.addr else c
  | _ => c

/-! ## The meanings of the commands -/

/-- REF_CFG_WRITE (R73). -/
def execRefCfgWrite (i : Fin 24) (be : BitVec 4) (data : BitVec 32) (s : State) : Out :=
  onRun (fun d => d.poke exHost .ref i 0x0 be.toNat data.toNat) s

/-- CH_CFG_WRITE (R102). -/
def execChCfgWrite (h : Fin 12) (be : BitVec 4) (data : BitVec 32) (s : State) : Out :=
  onRun (fun d => d.poke exHost .ch h 0x0 be.toNat data.toNat) s

/-- CH_SEL_CFG_WRITE (R109). -/
def execChSelCfgWrite (h : Fin 12) (be : BitVec 4) (data : BitVec 32) (s : State) : Out :=
  onRun (fun d => d.poke exHost .ch h 0x4 be.toNat data.toNat) s

/-- GLC_MDL_CFG_WRITE (R135). -/
def execGlcMdlCfgWrite (h : Fin 12) (be : BitVec 4) (data : BitVec 32) (s : State) : Out :=
  onRun (fun d => d.poke exHost .glc h 0x0 be.toNat data.toNat) s

/-- GLC_ENS_MEM_WRITE (R155). -/
def execGlcEnsMemWrite (h : Fin 12) (be : BitVec 4) (data : BitVec 32) (s : State) : Out :=
  onRun (fun d => d.poke exHost .glc h 0x80 be.toNat data.toNat) s

/-- SYN_CFG_WRITE (R192). -/
def execSynCfgWrite (n : Fin 4) (be : BitVec 4) (data : BitVec 32) (s : State) : Out :=
  onRun (fun d => d.poke exHost .syn n 0x0 be.toNat data.toNat) s

/-- OUT_CFG_WRITE (R203). -/
def execOutCfgWrite (o : Fin 24) (be : BitVec 4) (data : BitVec 32) (s : State) : Out :=
  onRun (fun d => d.poke exHost .out o 0x0 be.toNat data.toNat) s

/-- PAL_PA_CFG_WRITE (R209). -/
def execPalPaCfgWrite (a : Fin 8) (be : BitVec 4) (data : BitVec 32) (s : State) : Out :=
  onRun (fun d => d.poke exHost .pa a 0x0 be.toNat data.toNat) s

/-- TIM_CFG_WRITE (R225). -/
def execTimCfgWrite (be : BitVec 4) (data : BitVec 32) (s : State) : Out :=
  onRun (fun d => d.poke exHost .tim 0 0x0 be.toNat data.toNat) s

/-- ETH_LOOP_WRITE (R265). -/
def execEthLoopWrite (n : Fin 4) (be : BitVec 4) (data : BitVec 32) (s : State) : Out :=
  onRun (fun d => d.poke exHost .eth n 0x38 be.toNat data.toNat) s

/-- ETH_CFG_WRITE (R246). -/
def execEthCfgWrite (n : Fin 4) (be : BitVec 4) (data : BitVec 32) (s : State) : Out :=
  onRun (fun d => d.poke exHost .eth n 0x0 be.toNat data.toNat) s

/-- IND_DATA_ACCESS (R372). -/
def execIndDataAccess (n ex : Fin 4) (write : Bool) (data : BitVec 32) (s : State) : Out :=
  onRun (indDataAccessStep n ex write data) s

/-- TV_SCRUB_VISIT (R364). -/
def execTvScrubVisit (addr : BitVec 32) (s : State) : Out := onRunCore (tvScrubVisitStep addr) s

end Sys2Proof.Machine
end

