-- ==== Sys2Proof/Machine/HostLink.lean ====
section
/-! DEFINITION. The Veline host link (R329 to R351): packets, credits, the executors, the opcodes with their status codes, the
response streams of the two ports, the in-band session, and the meanings of its commands. -/

namespace Sys2Proof.Machine

/-! ## Status codes (R338) -/

def hsOk : Nat := 0
def hsBusErr : Nat := 1
def hsCfgLock : Nat := 2
def hsCrcErr : Nat := 3
def hsNoCredit : Nat := 4
def hsAlreadyDone : Nat := 5
def hsAbsent : Nat := 6
def hsBadImage : Nat := 7
def hsBadCmd : Nat := 8
def hsNotReady : Nat := 9
def hsNoop : Nat := 10

/-! ## Ports, packets and credits (R334, R335, R341) -/

def Core.port (c : Core) (p : Nat) : Port := c.host.ports.get {} p
def Core.setPort (c : Core) (p : Nat) (x : Port) : Core := { c with host := { c.host with ports := c.host.ports.set {} p x } }

/-- The free credits of a class: port 0 in HLK_STAT, port 1 in HLK_IB_STAT. -/
def creditFld (p cls : Nat) : Fld :=
  if p = 0 then [HLK_STAT.c0_free, HLK_STAT.c1_free, HLK_STAT.c2_free, HLK_STAT.c3_free].getD cls HLK_STAT.c0_free
  else [HLK_IB_STAT.c0_free, HLK_IB_STAT.c1_free, HLK_IB_STAT.c2_free, HLK_IB_STAT.c3_free].getD cls HLK_IB_STAT.c0_free

/-- The pool of a class (R341). -/
def creditPool (cls : Nat) : Nat := [8, 16, 4, 4].getD cls 4

/-- Credits returned to a class, never beyond its pool. -/
def Core.creditAdd (c : Core) (p cls n : Nat) : Core :=
  c.wr (creditFld p cls) (min (creditPool cls) (c.rd (creditFld p cls) + n))

/-- Every pool of a port full. -/
def Core.creditFull (c : Core) (p : Nat) : Core := c.each (List.range 4) (fun c k => c.wr (creditFld p k) (creditPool k))

/-- The bytes of a packet: header, payload and trailer. -/
def packet (kind cls op tag status credits : Nat) (more c0 : Bool) (payload : List Byte) : List Byte :=
  let l := bytesLE 1 (kind * 64 + cls * 16 + 1) ++ bytesLE 1 op ++ bytesLE 2 tag ++
    bytesLE 2 (payload.length + b2n more * 2 ^ 13 + b2n c0 * 2 ^ 14) ++ bytesLE 1 status ++ bytesLE 1 credits ++ payload
  l ++ bytesLE 4 (crc32c l)

/-- A response queued behind those that completed before it: class 0 apart (R343). -/
def Core.respQueue (c : Core) (p cls : Nat) (b : List Byte) : Core :=
  let x := c.port p
  c.setPort p (if cls = 0 then { x with r0 := x.r0 ++ [b] } else { x with rs := x.rs ++ [b] })

/-- The response of an executed packet, which returns its credit (R341, R54). -/
def Core.respond (c : Core) (p : Nat) (k : Pkt) (status : Nat) (payload : List Byte) : Core :=
  let cls := if k.c0 then 1 else k.cls
  c.respQueue p cls (packet 1 cls k.op k.tag status 1 false k.c0 payload)

/-! ## Class-0 opcodes (R126, R337) -/

/-- Byte `i` of a payload. -/
def Pkt.b (k : Pkt) (i : Nat) : Nat := fieldLE k.body i 1
/-- The little-endian number of `n` bytes at `i`. -/
def Pkt.n (k : Pkt) (i n : Nat) : Nat := fieldLE k.body i n
/-- The payload's length. -/
def Pkt.len (k : Pkt) : Nat := k.body.length

/-- The opcodes allowed in class 0 (R54). -/
def class0Op (op : Nat) : Bool := 1 ≤ op && op ≤ 6

/-- What a packet answers: a status with its payload. -/
abbrev Resp := Nat × List Byte

/-- A channel named by a command: BADCMD where no variant has it, ABSENT where this one lacks it (R337).
Log entry 84 (DEDUCED). -/
def Core.chanStatus (c : Core) (h : Nat) : Nat := if 12 ≤ h then hsBadCmd else if c.part.nCh ≤ h then hsAbsent else hsOk

def lockSt (x : Core × Bool) : Core × Resp := (x.1, (if x.2 then hsCfgLock else hsOk, []))

/-- PHASE_STEP: as CH_PSTEP_LO and then CH_PSTEP_HI written (R121, R125, R126, R179). Log entry 84 (DEDUCED). -/
def Core.opPhaseStep (c : Core) (k : Pkt) : Core × Resp :=
  if k.len ≠ 8 || 1 < k.b 1 || c.chanStatus (k.b 0) = hsBadCmd then (c, (hsBadCmd, []))
  else if c.chanStatus (k.b 0) ≠ hsOk then (c, (hsAbsent, []))
  else lockSt (c.chPstepPut (k.b 0) (k.n 2 4) (k.n 6 2) (k.b 1))

/-- FORCE_HOLDOVER. Log entry 84 (DEDUCED). -/
def Core.opForceHo (c : Core) (k : Pkt) : Core × Resp :=
  let h := k.b 0
  if k.len ≠ 4 || 1 < k.b 1 || k.n 2 2 ≠ 0 || c.chanStatus h = hsBadCmd then (c, (hsBadCmd, []))
  else if c.chanStatus h ≠ hsOk then (c, (hsAbsent, []))
  else if !c.rdB CH_CFG.en h then lockSt (c.chRefuse h 0x38, true)
  else lockSt (c.forceHo h (k.b 1 = 1), false)

/-- MANUAL_SELECT (R112). Log entry 84 (DEDUCED). -/
def Core.opManual (c : Core) (k : Pkt) : Core × Resp :=
  let h := k.b 0
  if k.len ≠ 4 || 31 < k.b 1 || k.n 2 2 ≠ 0 || c.chanStatus h = hsBadCmd then (c, (hsBadCmd, []))
  else if c.chanStatus h ≠ hsOk then (c, (hsAbsent, []))
  else if !c.rdB CH_CFG.en h then lockSt (c.chRefuse h 4, true)
  else lockSt (c.chManual h (k.b 1))

/-- MUTE_OUTPUT; an output that the image application holds is not enabled (R337, R405). Log entry 80 (DEDUCED). -/
def Core.opMute (c : Core) (k : Pkt) : Core × Resp :=
  let m := k.n 0 4
  if k.len ≠ 8 || 1 < k.b 4 || k.n 5 3 ≠ 0 || 2 ^ 24 ≤ m then (c, (hsBadCmd, []))
  else if 2 ^ c.part.nOut ≤ m then (c, (hsAbsent, []))
  else
    let en := k.b 4 = 0
    let l := (List.range 24).filter (fun o => bitOf m o)
    let held := fun (c : Core) (o : Nat) => en && c.mtlHolds stOut o && !c.rdB OUT_CFG.en o
    lockSt (c.each l (fun c o => if held c o then c.outReject o 0 else c.outEnable o en), l.any (held c))

/-- READ_STATUS: an enabled channel's status, or one to four registers sampled together, each named address read once (R125,
R337, R358). Log entries 81 (DEDUCED), 84 (DEDUCED). -/
def Core.opStatus (c : Core) (ex : Nat) (k : Pkt) : Core × Resp :=
  if k.len < 4 || k.n 2 2 ≠ 0 || 1 < k.b 0 then (c, (hsBadCmd, []))
  else if k.b 0 = 0 then
    let h := k.b 1
    if k.len ≠ 4 || c.chanStatus h = hsBadCmd then (c, (hsBadCmd, []))
    else if c.chanStatus h ≠ hsOk then (c, (hsAbsent, []))
    else if !c.rdB CH_CFG.en h then (c, (hsCfgLock, []))
    else
      let x := c.chan h
      let pool : Int := if c.rdB CH_CFG.kind h then 0 else clampI (-(2 ^ 63)) (2 ^ 63 - 1) (roundR16 ((x.passPool + x.hostPool : Rat) / 2 ^ 32))
      (c, (hsOk, bytesLE 4 (c.rowWord CH_STAT.row h) ++ bytesLE 4 (c.rowWord CH_PHERR.row h) ++ bytesLE 8 (ofS 64 pool)))
  else
    let n := k.b 1
    if n = 0 || 4 < n || k.len ≠ 4 + 4 * n then (c, (hsBadCmd, []))
    else
      let addrs := (List.range n).map (fun j => k.n (4 + 4 * j) 4)
      let bad := fun (a : Nat) => match c.part.access a 15 with
        | .bad e => some e
        | .reg r none => if r.dataPort then some beDataPort else none
        | .reg _ (some _) => none
      match addrs.find? (fun a => (bad a).isSome) with
      | some a =>
        let e := (bad a).getD 0
        if e = beAbsent then (c, (hsAbsent, [])) else (c.busErr ex e a, (hsBusErr, []))
      | none =>
        let read := fun (s : Core × List (Nat × Nat)) (a : Nat) =>
          if s.2.any (fun e => e.1 = a) then s
          else match s.1.busRead ex a 15 with
            | (.ok w, c) => (c, s.2 ++ [(a, w)])
            | (_, c) => (c, s.2 ++ [(a, 0)])
        let s := addrs.foldl read (c, [])
        let val := fun (a : Nat) => match s.2.find? (fun e => e.1 = a) with | some e => e.2 | none => 0
        (s.1, (hsOk, addrs.flatMap (fun a => bytesLE 4 (val a))))

/-- ACK_FAULT (R478); a source or a unit that the variant lacks is ABSENT (R6). -/
def Core.opAck (c : Core) (k : Pkt) : Core × Resp :=
  if k.len ≠ 4 || 95 < k.b 0 || k.n 2 2 ≠ 0 then (c, (hsBadCmd, []))
  else if c.part.fsAbsent (k.b 0) || (fsTracked (k.b 0) && k.b 1 ≠ 255 && !c.part.fsUnitOk (k.b 0) (k.b 1)) then (c, (hsAbsent, []))
  else (c.ack (k.b 0) (k.b 1), (hsOk, []))

/-! ## Aborts, bulk data and drains (R337, R339, R340) -/

/-- The status of an abort's outcome: 0 unchanged, 1 ABORTED, 2 ALREADY_DONE, 3 refused. -/
def abortSt (n : Nat) : Nat := if n = 1 then hsOk else if n = 2 then hsAlreadyDone else if n = 3 then hsCfgLock else hsNoop

/-- ABORT (R337, R369). Log entry 139 (DESIGN CHOICE). -/
def Dev.opAbort (d : Dev) (k : Pkt) : Dev × Resp :=
  let c := d.core
  let t := k.b 0
  let i := k.b 1
  let fin := fun (c : Core) (st : Nat) => (({ d with core := c } : Dev), ((st, []) : Resp))
  if k.len ≠ 4 || 5 < t || k.n 2 2 ≠ 0 || (t ≠ 0 && i ≠ 0) then fin c hsBadCmd
  else match t with
  | 0 =>
    if c.chanStatus i ≠ hsOk then fin c (c.chanStatus i)
    else if !c.rdB CH_CFG.en i then fin (c.wr CH_EVENT.cmd_refused 1 i) hsNoop
    else let e := c.atEnd (c.chan i).emptied; let x := e.2.poolAbort i e.1; fin x.1 (abortSt x.2)
  | 1 => let e := c.atEnd (c.timState = tsGating); let x := e.2.timAbort e.1; fin x.1 (abortSt x.2)
  | 2 =>
    let run := c.rd TMC_STAT.state = 1 && !c.memU.tAbort
    let e := c.atEnd run
    fin (e.2.tmcAbort e.1) (abortSt (if !run then 0 else if e.1 then 2 else 1))
  | 3 =>
    if c.part.vaultMB = 0 then fin c hsAbsent
    else
      let testing := c.vaultState = vltTesting || (c.vaultState = vltRefresh && c.memU.vBack = vltTesting)
      let run := testing && !c.memU.vDestr && !c.memU.vAbort
      let e := c.atEnd (run && c.vaultState = vltTesting)
      fin (e.2.vltAbort e.1) (abortSt (if !run then 0 else if e.1 then 2 else 1))
  | 4 =>
    let st := c.mlState
    let e := c.atEnd (st = mlVerifying)
    (Dev.loaderAbort { d with core := e.2 } e.1, (abortSt (if st = mlIdle then 0 else if (st = mlVerifying && !e.1) || st = mlTesting then 1 else 2), []))
  | _ => let e := c.atEnd c.firnU.run.isSome; let x := e.2.storeAbort e.1; fin x.1 (abortSt x.2)

/-- A bulk transfer's form is wrong: its length, a reserved byte, or a target beyond the table (R336, R337, R340). -/
def Pkt.bulkBad (k : Pkt) : Bool :=
  let t := k.b 0
  let n := k.n 1 2
  if k.op = 0x20 then k.len < 12 || k.n 1 3 ≠ 0 || k.len % 4 ≠ 0 || 4096 < k.len || 4 < t
  else k.len ≠ 8 || k.b 3 ≠ 0 || n < 4 || 4096 < n || n % 4 ≠ 0 || 4 < t || (t = 4 && k.n 4 4 % 32 ≠ 0)

/-- The bytes that a bulk transfer moves, from its offset. -/
def Pkt.bulkLen (k : Pkt) : Nat := if k.op = 0x20 then k.len - 8 else k.n 1 2

/-- The memory words that `n` bytes from `off` lie in, `g` bytes each, by their addresses. -/
def wordsOf (g off n : Nat) : List Nat := (List.range ((off + n - 1) / g + 1 - off / g)).map (fun j => (off / g + j) * g)

/-- The bytes that a read of the stamp buffer returns: those asked for, or the complete records of them (R340). -/
def Core.stampBytes (c : Core) (off n : Nat) : Nat :=
  let held := c.rd TIM_BUF_STAT.count * 32
  if off + n ≤ held then n else (held - off) / 32 * 32

/-- The memory that a bulk transfer reads or writes: Tile words (0) and Vault bursts (1), by their addresses (R340). -/
def Core.bulkWords (c : Core) (k : Pkt) : List (Nat × Nat) :=
  let off := k.n 4 4
  let n := k.bulkLen
  match k.b 0 with
  | 2 => (wordsOf 64 off n).map (fun a => (1, a))
  | 3 => if 2 ^ 21 < off + n then [] else (wordsOf 16 off n).map (fun a => (0, a))
  | 4 =>
    if k.op = 0x20 then [] else
    (List.range ((c.stampBytes off n + 31) / 32)).flatMap fun j =>
      let a := c.bufAddr (off / 32 + j)
      if a.1 = 0 then [(0, a.2), (0, a.2 + 16)] else [(1, a.2 / 64 * 64)]
  | _ => []

/-- The Tile banks of a bulk transfer. -/
def Core.bulkBanks (c : Core) (k : Pkt) : List Nat :=
  (((c.bulkWords k).filter (fun w => w.1 = 0)).map (fun w => w.2 / 131072)).eraseDups

/-- The host reads memory words one after the other: the part, and the Tile words whose contents are lost (R315, R321). -/
def Core.hostPass (c : Core) (l : List (Nat × Nat)) : Core × List Nat :=
  l.foldl (fun s w =>
    if w.1 = 0 then let y := s.1.tileWord w.2; (y.1, if y.2 then s.2 ++ [w.2] else s.2) else (s.1.vaultInj w.2, s.2)) (c, [])

/-- A byte of Tile memory (0) or of the Vault (1) as the host reads it: 0 in a Tile word that is lost. -/
def Dev.hostByte (d : Dev) (lost : List Nat) (m a : Nat) : Byte :=
  if m = 0 then (if lost.contains (a / 16 * 16) then 0#8 else d.tileRead a) else d.vaultRead a

/-- A bulk transfer writes bytes of Tile memory. A word in a bank that the image gives to hardware may meet a write of port 0 in the
same cycle, which no command tells: a free choice. Its write is lost then, and counted (R314). Log entry 90 (DEDUCED). -/
def Core.bulkTile (c : Core) (l : List (Nat × Byte)) : Core :=
  let words := (l.map (fun e => e.1 / 16)).eraseDups.filter (fun w => c.memMap.tileUse.getD (w / 8192) 0 ≠ 0)
  let r := words.foldl (fun (s : Core × List Nat) w =>
    let f := s.1.fresh
    if f.1 % 2 = 1 then (f.2.portCount (portMeet true true), s.2 ++ [w]) else (f.2, s.2)) (c, [])
  r.1.hostTile (l.filter (fun e => !r.2.contains (e.1 / 16)))

/-- BULK_WRITE (R340). Log entry 85 (DEDUCED). -/
def Dev.opBulkWrite (d : Dev) (k : Pkt) : Dev × Resp :=
  let c := d.core
  let data := k.body.drop 8
  let n := data.length
  let off := k.n 4 4
  let st := fun (s : Nat) => (d, ((s, []) : Resp))
  let done := fun (e : Dev) => (e, ((hsOk, bytesLE 4 n) : Resp))
  if k.bulkBad then st hsBadCmd
  else match k.b 0 with
  | 0 =>
    if c.mlState ≠ mlIdle then st hsNotReady
    else if 65536 < off + n then st hsBusErr
    else done { d with mem := { d.mem with staged := AMap.setRange 0#8 d.mem.staged off n (fun a => data.getD (a - off) 0#8) } }
  | 1 =>
    if 2 ^ 18 < off + n || pageProt (off / 1024) || pageProt ((off + n - 1) / 1024) then st hsBusErr
    else done { d with core := c.frontWrite off data }
  | 3 =>
    if 2 ^ 21 < off + n then st hsBusErr
    else
      let c := c.each (c.bulkBanks k) Core.rowBusy
      done { d with core := c.bulkTile ((List.range n).map (fun j => (off + j, data.getD j 0#8))) }
  | 2 => if c.part.vaultMB = 0 then st hsAbsent else st hsBusErr
  | _ => st hsBusErr

/-- BULK_READ (R340). Log entry 85 (DEDUCED). -/
def Dev.opBulkRead (d : Dev) (k : Pkt) : Dev × Resp :=
  let c := d.core
  let n := k.n 1 2
  let off := k.n 4 4
  let st := fun (s : Nat) => (d, ((s, []) : Resp))
  let pass := fun (_ : Unit) => (c.each (c.bulkBanks k) Core.rowBusy).hostPass (c.bulkWords k)
  if k.bulkBad then st hsBadCmd
  else match k.b 0 with
  | 1 =>
    if 2 ^ 18 < off + n then st hsBusErr
    else (d, (hsOk, (List.range n).map (fun j =>
      let p := (off + j) / 1024
      if p = 129 || 254 ≤ p then 0#8 else d.mem.firn.get 0#8 (off + j))))
  | 2 =>
    if c.part.vaultMB = 0 then st hsAbsent
    else if !c.pclk || c.vaultState ≠ vltReady then st hsNotReady
    else if c.part.vaultMB * 2 ^ 20 < off + n then st hsBusErr
    else
      let d := { d with core := (pass ()).1 }
      (d, (hsOk, (List.range n).map (fun j => d.hostByte [] 1 (off + j))))
  | 3 =>
    if 2 ^ 21 < off + n then st hsBusErr
    else
      let x := pass ()
      ({ d with core := x.1 }, (hsOk, (List.range n).map (fun j => d.hostByte x.2 0 (off + j))))
  | 4 =>
    if c.part.vaultMB ≠ 0 && !c.vaultServes then st hsNotReady
    else
      let m := c.stampBytes off n
      let x := pass ()
      let d := { d with core := x.1 }
      let bytes := (List.range m).map (fun j =>
        let a := c.bufAddr ((off + j) / 32)
        d.hostByte x.2 a.1 (a.2 + (off + j) % 32))
      (d, (if m = n then hsOk else hsBusErr, bytes))
  | _ => st hsBusErr

/-- Whole items read until the limit or an empty queue; `n` bounds the items. -/
def Core.drainItems (q : Nat) : Nat → Nat → Core → List Nat → Core × List Nat
  | 0, _, c, acc => (c, acc)
  | n + 1, left, c, acc =>
    let c := Core.queueCheck q (c.queue q).items.length c
    let x := c.queue q
    match x.nextItem with
    | none => (c, acc)
    | some it =>
      let w := it.stop - max x.rp it.pos
      if !c.readable x it || left < w then (c, acc)
      else
        let s := (List.range w).foldl (fun (s : Core × List Nat) _ => let y := s.1.queueRead q; (y.2, s.2 ++ [y.1])) (c, acc)
        Core.drainItems q n (left - w) s.1 s.2

/-- QUEUE_DRAIN (R339). Log entry 85 (DEDUCED). -/
def Core.opDrain (c : Core) (k : Pkt) : Core × Resp :=
  let q := k.b 0
  let fl := k.b 1
  let n := k.n 2 2
  if k.len ≠ 4 || 127 < q || 7 < fl || n = 0 || 256 < n then (c, (hsBadCmd, []))
  else if !c.rdB QMG_Q_CFG.en q || !c.streams.any (fun s => s.queue = q) then (c, (hsAbsent, []))
  else if !c.pclk then (c, (hsNotReady, []))
  else
    let c := c.on (bitOf fl 0) (fun c => c.queueRelease q)
    let c := c.on (bitOf fl 1) (fun c => c.queueRewind q)
    let c := c.on (bitOf fl 2) (fun c => c.queueMark q)
    let x := Core.drainItems q 256 n c []
    (x.1, (hsOk, x.2.flatMap (bytesLE 16)))

/-! ## Register bursts (R337, R358, R372, R399) -/

def Burst.write (b : Burst) : Bool := b.pkt.op = 0x11
def Burst.count (b : Burst) : Nat := b.pkt.n 6 2
def Burst.addr (b : Burst) : Nat := if bitOf (b.pkt.b 5) 0 then b.pkt.n 0 4 else (b.pkt.n 0 4 + 4 * b.idx) % 2 ^ 32
/-- The burst past a word done. Log entry 86 (DEDUCED). -/
def Burst.next (b : Burst) : Burst := { b with idx := b.idx + 1 }

/-- The response of a burst that has ended. -/
def Burst.resp (b : Burst) (status : Nat) : Resp :=
  (status, if b.write then bytesLE 2 b.idx ++ [0#8, 0#8] else b.acc.flatMap (bytesLE 4))

/-- The words of a burst, one after the other, until it ends or waits; `n` bounds them (R358). Log entry 86 (DEDUCED). -/
def Dev.burstRun (ex : Nat) : Nat → Dev → Burst → Dev × Burst × Option Resp
  | 0, d, b => (d, b, some (b.resp b.status))
  | n + 1, d, b =>
    if b.count ≤ b.idx then (d, b, some (b.resp b.status)) else
    let be := b.pkt.b 4 % 16
    if b.write then
      let x := d.busWrite ex b.addr be (b.pkt.n (8 + 4 * b.idx) 4)
      match x.2 with
      | .ok => Dev.burstRun ex n x.1 b.next
      | .locked => Dev.burstRun ex n x.1 { b.next with status := if b.status = hsOk then hsCfgLock else b.status }
      | .bus _ => (x.1, b, some (b.resp hsBusErr))
      | .wait w => (x.1, { b with wait := w }, none)
    else
      let x := d.core.busRead ex b.addr be
      let d := { d with core := x.2 }
      match x.1 with
      | .ok w => Dev.burstRun ex n d { b.next with acc := b.acc ++ [w] }
      | .bus _ => (d, b, some (b.resp hsBusErr))
      | .wait => (d, { b with wait := b.addr / 0x20 % 4 }, none)

/-- A burst goes on at its port: its response, or the port waits with it. Log entry 86 (DEDUCED). -/
def Dev.burstGo (d : Dev) (p : Nat) (b : Burst) : Dev :=
  let x := Dev.burstRun (2 + p) 1024 d b
  let c := x.1.core
  match x.2.2 with
  | none => { x.1 with core := c.setPort p { c.port p with burst := some x.2.1 } }
  | some r =>
    let c := c.setPort p { c.port p with burst := none }
    { x.1 with core := if b.drop then c else c.respond p b.pkt r.1 r.2 }

/-! ## Bulk transfers of a busy bank (R314, R316) -/

/-- What a bulk transfer does and answers. -/
def Dev.opBulk (d : Dev) (k : Pkt) : Dev × Resp := if k.op = 0x20 then d.opBulkWrite k else d.opBulkRead k

/-- A bulk transfer executes, or its executor waits at a bank under a destructive test, repeating its access; how often is
timing: a free value counts it (R314, R316). Log entry 90 (DEDUCED). -/
def Dev.bulkGo (d : Dev) (p : Nat) (k : Pkt) (drop : Bool) : Dev :=
  let c := d.core
  if !k.bulkBad && (c.bulkBanks k).any c.bankBusy then
    let f := c.fresh
    let c := f.2.bump TMC_COLL.busy 0 0 (1 + f.1)
    { d with core := c.setPort p { c.port p with burst := some { pkt := k, wait := 5, drop := drop } } }
  else
    let x := d.opBulk k
    let c := x.1.core.setPort p { x.1.core.port p with burst := none }
    { x.1 with core := if drop then c else c.respond p k x.2.1 x.2.2 }

/-! ## Execution (R336, R342) -/

/-- A packet executed at its port: its response, or a burst that may wait. -/
def Dev.exec1 (p : Nat) (k : Pkt) (d : Dev) : Dev :=
  let ex := if k.cls = 0 && !k.c0 then p else 2 + p
  let c := d.core
  let fin := fun (x : Core × Resp) => ({ d with core := x.1.respond p k x.2.1 x.2.2 } : Dev)
  let finD := fun (x : Dev × Resp) => ({ x.1 with core := x.1.core.respond p k x.2.1 x.2.2 } : Dev)
  let badBurst := fun (most : Nat) => 15 < k.b 4 || 1 < k.b 5 || k.n 6 2 = 0 || most < k.n 6 2
  if k.bad then fin (c, (hsBadCmd, []))
  else match k.op with
  | 0x01 => fin (c.opPhaseStep k)
  | 0x02 => fin (c.opForceHo k)
  | 0x03 => fin (c.opManual k)
  | 0x04 => fin (c.opMute k)
  | 0x05 => fin (c.opStatus ex k)
  | 0x06 => fin (c.opAck k)
  | 0x10 => if k.len ≠ 8 || badBurst 1024 then fin (c, (hsBadCmd, [])) else d.burstGo p { pkt := k }
  | 0x11 =>
    if k.len < 8 || badBurst 1022 || k.len ≠ 8 + 4 * k.n 6 2 then fin (c, (hsBadCmd, [])) else d.burstGo p { pkt := k }
  | 0x13 => finD (d.opAbort k)
  | 0x20 | 0x21 => d.bulkGo p k false
  | 0x22 => fin (c.opDrain k)
  | 0x30 => fin (c, (hsOk, k.body))
  | _ => fin (c, (hsBadCmd, []))

/-- The class in which a waiting packet stands. -/
def Pkt.order (k : Pkt) : Nat := if k.c0 then 1 else k.cls

/-- The next packet of the executor of classes 1 to 3, and the count of packets that a waiting class-3 packet has let pass
(R342). -/
def Core.nextPkt (c : Core) (p : Nat) : Option (Nat × Nat) :=
  let x := c.port p
  let first := fun (n : Nat) => x.rx.findIdx? (fun k => k.order = n)
  let share := max 1 (c.rd HLK_CFG.c3_share)
  match first 3 with
  | none => ((first 1).or (first 2)).map (fun i => (i, 0))
  | some j =>
    match (first 1).or (first 2) with
    | none => some (j, 0)
    | some i => if 16 - share ≤ x.c3run then some (j, 0) else some (i, x.c3run + 1)

/-- The executor takes packets until none waits or one of them waits itself, or an access to a window does (R372); at most
`n`. -/
def Dev.pump (p : Nat) : Nat → Dev → Dev
  | 0, d => d
  | n + 1, d =>
    let x := d.core.port p
    if x.burst.isSome || d.core.indWaits (2 + p) then d else
    match d.core.nextPkt p with
    | none => d
    | some (i, run) =>
      let k := x.rx.getD i { cls := 1, op := 0 }
      let d := { d with core := d.core.setPort p { x with rx := x.rx.eraseIdx i, c3run := run } }
      Dev.pump p n (d.act (Dev.exec1 p k))

/-- The executor of a port goes on. Log entry 95 (DEDUCED). -/
def Dev.pumpAll (d : Dev) (p : Nat) : Dev := Dev.pump p ((d.core.port p).rx.length + 1) d

/-- The loads that a port waits for have ended with a status (R399). Log entry 95 (DEDUCED). -/
def Dev.loadDone (d : Dev) (status : Nat) : Dev :=
  [0, 1].foldl (fun (d : Dev) p =>
    match (d.core.port p).burst with
    | some b =>
      if b.wait = 4 && d.core.mtl.load.all LoadRun.course then
        (d.act (fun d => d.burstGo p { b.next with status := if status = hsOk then b.status else status })).pumpAll p
      else d
    | none => d) d

/-- The bulk transfers that wait for a Tile bank execute where no test holds the bank any longer (R316).
Log entry 90 (DEDUCED). -/
def Dev.bulkDone (d : Dev) : Dev :=
  [0, 1].foldl (fun (d : Dev) p =>
    match (d.core.port p).burst with
    | some b => if b.wait = 5 then (d.act (fun d => d.bulkGo p b.pkt b.drop)).pumpAll p else d
    | none => d) d

/-- A command packet at a port: credit, CRC, and then execution at once for class 0, or in class order (R54, R336, R342). -/
def Dev.arrive (d : Dev) (p : Nat) (k : Pkt) (crcOk : Bool) (ver : Nat) : Dev :=
  let c := d.core
  let free := c.rd (creditFld p k.cls)
  if free = 0 then
    let c := c.bump HLK_NOCREDIT_CNT.count
    let c := if k.cls = 0 then (c.bump HLK_POLICY_CNT.count).raise 42 else c
    { d with core := c.respQueue p k.cls (packet 1 k.cls k.op k.tag hsNoCredit 0 false false []) }
  else
    let c := c.wr (creditFld p k.cls) (free - 1)
    if !crcOk then
      let c := (c.bump HLK_CRC_CNT.count).raiseInfo 45 p p false
      let hdr := bytesLE 1 (64 + k.cls * 16 + ver) ++ bytesLE 1 k.op ++ bytesLE 2 k.tag ++ [0#8, 0#8] ++ bytesLE 1 hsCrcErr ++ [1#8]
      { d with core := c.respQueue p k.cls (hdr ++ bytesLE 4 (crc32c hdr)) }
    else if k.cls = 0 && class0Op k.op then ({ d with core := c } : Dev).act (Dev.exec1 p k)
    else
      let moved := k.cls = 0
      let c := if moved then (c.bump HLK_POLICY_CNT.count).raise 42 else c
      let x := c.port p
      { d with core := c.setPort p { x with rx := x.rx ++ [{ k with c0 := moved }] } }

/-- What stands at a packet boundary of a received stream (R336). -/
inductive Framed where
  | fill | lost | cut
  | pkt (k : Pkt) (crcOk : Bool) (size : Nat)
deriving DecidableEq, Repr

/-- The header at the start of `l` judged. -/
def framed (l : List Byte) : Framed :=
  let b0 := fieldLE l 0 1
  let w := fieldLE l 4 2
  let len := w % 2 ^ 13
  if b0 = 0xFF then .fill
  else if b0 / 64 ≠ 0 || b0 % 16 ≠ 1 then .lost
  else if l.length < 6 then .cut
  else if 4096 < len || bitOf w 13 then .lost
  else if l.length < 12 + len then .cut
  else
    let body := (l.drop 8).take len
    .pkt { cls := b0 / 16 % 4, op := fieldLE l 1 1, tag := fieldLE l 2 2, body := body,
           bad := bitOf w 14 || bitOf w 15 || fieldLE l 6 2 ≠ 0 }
      (fieldLE l (8 + len) 4 = crc32c (l.take (8 + len))) (12 + len)

/-- The packets of a received stream, one after the other; `now` says that each executes as it arrives (R336); `n`
bounds the steps. Log entry 87 (DEDUCED). -/
def Dev.receive (p : Nat) (now : Bool) : Nat → Dev → List Byte → Dev
  | 0, d, _ => d
  | n + 1, d, l =>
    if l.isEmpty then d else
    match framed l with
    | .fill => Dev.receive p now n d (l.drop 1)
    | .lost => { d with core := d.core.bump HLK_FRAME_ERR.count }
    | .cut => { d with core := d.core.bump HLK_FRAME_ERR.count }
    | .pkt k ok size =>
      let d := d.arrive p k ok 1
      Dev.receive p now n (if now then d.pumpAll p else d) (l.drop size)

/-- A RESYNC of a port (R341). Log entry 87 (DEDUCED). -/
def Core.resync (c : Core) (p : Nat) : Core :=
  let x := c.port p
  let b := x.burst.map (fun (b : Burst) => { b with drop := true })
  (((c.setPort p { x with rx := [], r0 := [], rs := [], burst := b }).creditFull p).bump HLK_RESYNC_CNT.count).bufFlow 0

/-! ## The response stream (R330 to R333, R343 to R346) -/

/-- A notification's packet, a fault's (class 0, opcode 0x80) or the queue notice's (class 3, 0x81), with the drops
since the notification before it (R334, R344, R345). Log entries 87 (DEDUCED), 88 (DEDUCED). -/
def Core.noteOut (c : Core) (p cls op : Nat) (payload : List Byte) : Core × List Byte :=
  let x := c.port p
  (c.setPort p { x with noteTag := (x.noteTag + 1) % 65536, drops := 0 }, packet 2 cls op x.noteTag x.drops 0 false false payload)

/-- Every pending notification takes its place in the stream of port 0 (R346). Log entry 87 (DEDUCED). -/
def Core.notesPlace (c : Core) : Core :=
  let x := c.port 0
  c.setPort 0 { x with notes := [], ins := x.ins ++ x.notes }

/-- The next placed notification starts to be driven: its packet is made then, with the drops so far (R345). -/
def Core.noteStart (c : Core) : Core :=
  let x := c.port 0
  match x.insCur, x.ins with
  | none, n :: rest =>
    let y := (c.setPort 0 { x with ins := rest }).noteOut 0 0 0x80 n
    y.1.setPort 0 { y.1.port 0 with insCur := some (y.2, 0) }
  | _, _ => c

/-- A pending queue notice ends; a new one is built where a bit has risen since (R344). -/
def Core.noticeEnd (c : Core) : Core :=
  let again := c.host.qnRise && c.rdB HLK_CFG.qn_en
  { c with host := { c.host with qn := if again then some (c.noticeWords.flatMap (bytesLE 4)) else none, qnRise := false } }

/-- The credits that a response's byte 7 returns, once it has been driven or sent (R341). Log entry 88 (DEDUCED). -/
def Core.creditOut (c : Core) (p : Nat) (b : List Byte) : Core :=
  if fieldLE b 0 1 / 64 ≠ 1 then c
  else c.creditAdd p (if bitOf (fieldLE b 4 2) 14 then 0 else fieldLE b 0 1 / 16 % 4) (fieldLE b 7 1)

/-- At a packet boundary of port 0: notifications, class-0 responses, a queue notice, and then the other responses
(R343, R344, R346). -/
def Core.boundary (c : Core) : Core :=
  let x := c.port 0
  if !x.notes.isEmpty then c.notesPlace else
  match x.r0 with
  | b :: rest => c.setPort 0 { x with cur := some (b, 0), r0 := rest }
  | [] =>
    match c.host.qn with
    | some q =>
      if c.rd HLK_CFG.qn_port = 0 then
        let y := c.noteOut 0 3 0x81 q
        y.1.setPort 0 { y.1.port 0 with cur := some (y.2, 0) }
      else match x.rs with
        | b :: rest => c.setPort 0 { x with cur := some (b, 0), rs := rest }
        | [] => c
    | none => match x.rs with
      | b :: rest => c.setPort 0 { x with cur := some (b, 0), rs := rest }
      | [] => c

/-- One byte driven on HIO0 to HIO3 (R343, R346): a notification whose place is decided, the response in transfer, or fill.
Log entry 87 (DEDUCED). -/
def Core.driveByte (c : Core) : Core × Byte :=
  let idle := (c.port 0).ins.isEmpty && (c.port 0).insCur.isNone && (c.port 0).cur.isNone
  let c := (if idle then c.boundary else c).noteStart
  let x := c.port 0
  match x.insCur with
  | some (b, off) =>
    (c.setPort 0 { x with insCur := if b.length ≤ off + 1 then none else some (b, off + 1) }, b.getD off 0xFF#8)
  | none =>
    match x.cur with
    | none => (c, 0xFF#8)
    | some (b, off) =>
      let v := b.getD off 0xFF#8
      let c := c.setPort 0 { x with cur := if b.length ≤ off + 1 then none else some (b, off + 1) }
      let c := if off = 7 then c.creditOut 0 b else c
      let c := if b.length ≤ off + 1 && fieldLE b 0 2 = 0x81B1 then c.noticeEnd else c
      let c := if off + 1 < b.length && (off + 1) % 32 = 0 && !x.notes.isEmpty then c.notesPlace else c
      (c, v)

/-- `n` bytes driven. -/
def Core.driveBytes : Nat → Core → List Byte → Core × List Byte
  | 0, c, acc => (c, acc)
  | n + 1, c, acc => let y := c.driveByte; Core.driveBytes n y.1 (acc ++ [y.2])

/-- The bytes of the STATUS transaction (R332). Log entry 88 (DEDUCED). -/
def Core.statusBytes (c : Core) : List Byte :=
  let x := c.port 0
  let len := fun (l : List (List Byte)) => l.foldl (fun a b => a + b.length) 0
  let cur := match x.cur with | some (b, off) => b.length - off | none => 0
  let qn := match c.host.qn with
    | some q => if c.rd HLK_CFG.qn_port = 0 && !(x.cur.any (fun e => fieldLE e.1 0 2 = 0x81B1)) then q.length + 12 else 0
    | none => 0
  let note := match x.insCur with | some (b, off) => b.length - off | none => 0
  let noted := x.ins ++ x.notes
  let ready := cur + len x.r0 + len x.rs + qn + note + len noted + 12 * noted.length
  let resp := x.cur.any (fun e => fieldLE e.1 0 1 / 64 = 1)
  let fl := b2n (resp || !x.r0.isEmpty || !x.rs.isEmpty) + 2 * b2n (c.nPend 0 ≠ 0) +
    4 * b2n (c.noticeWords.any (fun w => w ≠ 0)) + 8 * b2n (c.rd STG_STAT.stage = 1)
  [1#8] ++ (List.range 4).map (fun k => BitVec.ofNat 8 (c.rd (creditFld 0 k))) ++ bytesLE 1 fl ++ bytesLE 2 (min 65535 ready)

/-! ## The in-band session (R348, R349) -/

/-- ETH0_MAC and the peer address. -/
def Core.mac0 (c : Core) : Nat := c.rd ETH_MAC_HI.mac_hi * 2 ^ 32 + c.rd ETH_MAC_LO.mac_lo
def Core.ibPeer (c : Core) : Nat := c.rd HLK_IB_PEER_HI.mac_hi * 2 ^ 32 + c.rd HLK_IB_PEER_LO.mac_lo

/-- A session frame's payload: a resync, and then its packets (R336, R341, R348). -/
def Dev.ibPayload (d : Dev) (l : List Byte) : Dev :=
  let n := fieldLE l 6 2
  let err := fun (d : Dev) => ({ d with core := d.core.bump HLK_FRAME_ERR.count } : Dev)
  if fieldLE l 2 1 ≠ 1 || l.length < 8 + n then err d else
  let d := if bitOf (fieldLE l 3 1) 0 then { d with core := d.core.resync 1 } else d
  let part := (l.drop 8).take n
  ((Dev.receive 1 false (n + 1) d part).pumpAll 1).loadDone hsBadImage

/-- The next packet that port 1 sends: a notification, a class-0 response, which is shorter than any segment limit, the
response in transfer by segments, a queue notice and the rest (R343, R349). Log entry 83 (DEDUCED). -/
def Core.ibNext (c : Core) : Core × Option (List Byte) :=
  let x := c.port 1
  let seg := let s := c.rd HLK_IB_CFG.seg; if s = 0 then 256 else s
  let cut := fun (c : Core) (b : List Byte) (off : Nat) =>
    let pay := (b.drop 8).take (b.length - 12)
    let w := fieldLE b 4 2
    let last := pay.length ≤ off + seg
    let pkt := packet (fieldLE b 0 1 / 64) (fieldLE b 0 1 / 16 % 4) (fieldLE b 1 1) (fieldLE b 2 2) (fieldLE b 6 1)
      (if last then fieldLE b 7 1 else 0) (!last) (last && bitOf w 14) ((pay.drop off).take seg)
    let c := c.setPort 1 { c.port 1 with cur := if last then none else some (b, off + seg) }
    ((if last then c.creditOut 1 b else c), some (if off = 0 && last then b else pkt))
  match x.notes with
  | n :: rest =>
    let y := (c.setPort 1 { x with notes := rest }).noteOut 1 0 0x80 n
    (y.1, some y.2)
  | [] =>
    match x.r0 with
    | b :: rest => ((c.setPort 1 { x with r0 := rest }).creditOut 1 b, some b)
    | [] =>
      match x.cur with
      | some (b, off) => cut c b off
      | none =>
        match (if c.rd HLK_CFG.qn_port = 1 then c.host.qn else none) with
        | some q => let y := c.noteOut 1 3 0x81 q; (y.1.noticeEnd, some y.2)
        | none => match x.rs with
          | b :: rest => cut (c.setPort 1 { x with rs := rest }) b 0
          | [] => (c, none)

/-- A session frame with the next packet goes out on lane 0, its first byte at `start` (R261, R348). Log entries 83
(DEDUCED), 93 (DESIGN CHOICE). -/
def Core.ibSend (c : Core) (start : Nat) : Core :=
  if !c.ibUp then c else
  let y := c.ibNext
  match y.2 with
  | none => y.1
  | some b =>
    let c := y.1
    let x := c.port 1
    let pay := [0x56#8, 0x4C#8, 1#8, 0#8] ++ bytesLE 2 x.frameSeq ++ bytesLE 2 b.length ++ b
    let pay := pay ++ List.replicate (46 - pay.length) 0#8
    let frame := bytesBE 6 c.ibPeer ++ bytesBE 6 c.mac0 ++ bytesBE 2 0x88B5 ++ pay
    let c := c.setPort 1 { x with frameSeq := (x.frameSeq + 1) % 65536 }
    ((c.setLane 0 { c.lane 0 with sent := some { bytes := frame } }).insertOut 0 ⟨frame, true, false, start⟩).bump HLK_IB_TX_CNT.count

/-! ## The commands: transactions and frames -/

/-- A command of the host link: each packet of it is whole by itself; nothing happens while the internal reset is held.
Log entries 9 (DEDUCED), 91 (DESIGN CHOICE). -/
def onHost (f : Dev → Dev) (s : State) : Out := .next { s with dev := if s.dev.core.inReset then s.dev else f s.dev }

/-- SEND: the bytes that the host drives after the transaction code (R330, R336); a load that a packet ends completes with
BADIMAGE (R410). -/
def sendStep (bytes : List Byte) (d : Dev) : Dev := (Dev.receive 0 true (bytes.length + 1) d bytes).loadDone hsBadImage

/-- RECEIVE: `n` bytes of the response stream are clocked out (R331). -/
def receiveStep (n : BitVec 16) (d : Dev) : Dev :=
  let y := Core.driveBytes n.toNat d.core []
  { d with core := { y.1 with host := { y.1.host with driven := y.2, after := none } } }

/-- STATUS: its 8 bytes, and then 0xFF until HCS_N rises (R330, R332). -/
def statusStep (d : Dev) : Dev :=
  { d with core := { d.core with host := { d.core.host with driven := d.core.statusBytes, after := some 0xFF#8 } } }

/-- RESYNC at HCS_N rising (R341). -/
def resyncStep (d : Dev) : Dev := { d with core := d.core.resync 0 }

/-- INVALID_TRANSACTION_CODE: a code other than those of R330 is counted. -/
def invalidTransactionCodeStep (code : BitVec 8) (d : Dev) : Dev :=
  if 1 ≤ code.toNat && code.toNat ≤ 4 then d else { d with core := d.core.bump HLK_FRAME_ERR.count }

/-- INBAND_FRAME: a frame received with a good FCS on ETH0_LRX; one that is no session frame is forwarded where the buffer
admits it (R247, R348). In HOLD it is counted (R267). -/
def inbandFrameStep (l : List Byte) (d : Dev) : Dev :=
  let c := d.core
  if c.part.nLane = 0 then d
  else if c.laneState 0 = leHold then { d with core := c.bump ETH_HOLD_DROP.count 0 }
  else if c.laneState 0 ≠ leUp then d else
  let o := etherOff l
  let pay := l.drop (o.1 + 2)
  let mine := c.rdB HLK_IB_CFG.en && fbe l 0 6 = c.mac0 && fbe l o.1 2 = 0x88B5 && fbe pay 0 2 = 0x564C
  if !mine then { d with core := if c.admits 0 false 32768 then c.forward 0 false true l c.now else c.frameDrop 0 }
  else if fbe l 6 6 ≠ c.ibPeer then { d with core := c.bump HLK_IB_DROP.count }
  else ({ d with core := c.bump HLK_IB_RX_CNT.count } : Dev).ibPayload pay

/-- INSERTED_FRAME on lane 0 where no engine frame waits: the in-band session's next frame (R261). -/
def insertedStep (n : Fin 4) (tTx : Nat) (late : Bool) (d : Dev) : Dev :=
  if n.val = 0 && (d.core.lane 0).ins.isEmpty && d.core.part.nLane ≠ 0 then { d with core := d.core.ibSend tTx }
  else d.act (fun d => { d with core := insertedFrameStep n tTx late d.core })

/-! ## The commands: one good packet of an opcode -/

/-- A whole good packet with an opcode arrives at a port; port 1 has the session up. -/
def hostPacket (port : Fin 2) (cls : Fin 4) (tag : BitVec 16) (op : Nat) (body : List Byte) (d : Dev) : Dev :=
  if port.val = 1 && !d.core.ibUp then d
  else (d.arrive port { cls := cls, op := op, tag := tag.toNat, body := body } true 1).pumpAll port

def phaseStepStep (port : Fin 2) (cls : Fin 4) (tag : BitVec 16) (ch : BitVec 8) (slew : Bool) (delta : BitVec 48) (d : Dev) : Dev :=
  hostPacket port cls tag 0x01 (bytesLE 1 ch.toNat ++ bytesLE 1 (b2n slew) ++ bytesLE 6 delta.toNat) d

def forceHoldoverStep (port : Fin 2) (cls : Fin 4) (tag : BitVec 16) (ch : BitVec 8) (v : Bool) (d : Dev) : Dev :=
  hostPacket port cls tag 0x02 (bytesLE 1 ch.toNat ++ bytesLE 1 (b2n v) ++ [0#8, 0#8]) d

def manualSelectStep (port : Fin 2) (cls : Fin 4) (tag : BitVec 16) (ch cand : BitVec 8) (d : Dev) : Dev :=
  hostPacket port cls tag 0x03 (bytesLE 1 ch.toNat ++ bytesLE 1 cand.toNat ++ [0#8, 0#8]) d

def muteOutputStep (port : Fin 2) (cls : Fin 4) (tag : BitVec 16) (mask : BitVec 32) (mute : Bool) (d : Dev) : Dev :=
  hostPacket port cls tag 0x04 (bytesLE 4 mask.toNat ++ bytesLE 1 (b2n mute) ++ [0#8, 0#8, 0#8]) d

/-- READ_STATUS of a channel, or of the registers at `addrs` where there are any. -/
def readStatusStep (port : Fin 2) (cls : Fin 4) (tag : BitVec 16) (ch : BitVec 8) (addrs : List (BitVec 32)) (d : Dev) : Dev :=
  hostPacket port cls tag 0x05
    (if addrs.isEmpty then [0#8, ch, 0#8, 0#8]
     else [1#8] ++ bytesLE 1 addrs.length ++ [0#8, 0#8] ++ addrs.flatMap (fun a => bytesLE 4 a.toNat)) d

def ackFaultStep (port : Fin 2) (cls : Fin 4) (tag : BitVec 16) (fs unit : BitVec 8) (d : Dev) : Dev :=
  hostPacket port cls tag 0x06 [fs, unit, 0#8, 0#8] d

def regReadStep (port : Fin 2) (cls : Fin 4) (tag : BitVec 16) (addr : BitVec 32) (be : BitVec 4) (fixed : Bool) (count : BitVec 16)
    (d : Dev) : Dev :=
  hostPacket port cls tag 0x10 (bytesLE 4 addr.toNat ++ bytesLE 1 be.toNat ++ bytesLE 1 (b2n fixed) ++ bytesLE 2 count.toNat) d

/-- REG_WRITE; a load that it ends completes with BADIMAGE (R410). -/
def regWriteStep (port : Fin 2) (cls : Fin 4) (tag : BitVec 16) (addr : BitVec 32) (be : BitVec 4) (fixed : Bool)
    (words : List (BitVec 32)) (d : Dev) : Dev :=
  (hostPacket port cls tag 0x11 (bytesLE 4 addr.toNat ++ bytesLE 1 be.toNat ++ bytesLE 1 (b2n fixed) ++ bytesLE 2 words.length ++
    words.flatMap (fun w => bytesLE 4 w.toNat)) d).loadDone hsBadImage

/-- ABORT; a load that it ends completes with BADIMAGE (R410). -/
def abortStep (port : Fin 2) (cls : Fin 4) (tag : BitVec 16) (target index : BitVec 8) (d : Dev) : Dev :=
  (hostPacket port cls tag 0x13 [target, index, 0#8, 0#8] d).loadDone hsBadImage

def bulkWriteStep (port : Fin 2) (cls : Fin 4) (tag : BitVec 16) (target : BitVec 8) (off : BitVec 32) (data : List Byte) (d : Dev) : Dev :=
  hostPacket port cls tag 0x20 ([target, 0#8, 0#8, 0#8] ++ bytesLE 4 off.toNat ++ data) d

def bulkReadStep (port : Fin 2) (cls : Fin 4) (tag : BitVec 16) (target : BitVec 8) (len : BitVec 16) (off : BitVec 32) (d : Dev) : Dev :=
  hostPacket port cls tag 0x21 ([target] ++ bytesLE 2 len.toNat ++ [0#8] ++ bytesLE 4 off.toNat) d

def queueDrainStep (port : Fin 2) (cls : Fin 4) (tag : BitVec 16) (queue : BitVec 8) (rel rew mark : Bool) (limit : BitVec 16) (d : Dev) : Dev :=
  hostPacket port cls tag 0x22 ([queue] ++ bytesLE 1 (b2n rel + 2 * b2n rew + 4 * b2n mark) ++ bytesLE 2 limit.toNat) d

def echoStep (port : Fin 2) (cls : Fin 4) (tag : BitVec 16) (payload : List Byte) (d : Dev) : Dev := hostPacket port cls tag 0x30 payload d

/-! ## The commands that let a waiting executor go on (R372, R399, R410) -/

/-- The accesses that their executors have kept are made, in their order (R372). Log entries 82 (DEDUCED), 95 (DEDUCED). -/
def Dev.heldRelease (d : Dev) : Dev :=
  d.core.exHeld.foldl (fun d x => d.act (fun d => d.busTake x)) { d with core := { d.core with exHeld := [] } }

/-- IND_ACCESS_DONE: the target of window `n` completes the access that waits, after `busy` repeats. The executor that began
it goes on with the answer; others that wait for the window try again (R372, R373). Log entry 90 (DEDUCED). -/
def indAccessDoneStep (n : Fin 4) (busy : Nat) (coll late : Bool) (d : Dev) : Dev :=
  let run := fun (d : Dev) =>
    let y := d.indEnd n busy coll late
    [0, 1].foldl (fun (d : Dev) p =>
      match (d.core.port p).burst with
      | some b =>
        if b.wait ≠ n.val then d else
        match y.2 with
        | some (x, ans) =>
          if x.ex ≠ 2 + p || x.solo then d.burstGo p b else
          match ans with
          | .bad _ =>
            let c := d.core.setPort p { d.core.port p with burst := none }
            { d with core := if b.drop then c else c.respond p b.pkt hsBusErr (b.resp hsBusErr).2 }
          | .ok w _ _ => d.burstGo p (if b.write then b.next else { b.next with acc := b.acc ++ [w] })
        | none => d
      | none => d) y.1
  let d := (d.act run).heldRelease
  ((d.pumpAll 0).pumpAll 1).loadDone hsBadImage

/-- VERIFY_DONE, and the response of the load (R396, R399). -/
def verifyStep (d : Dev) : Dev :=
  let d := d.act verifyDoneStep
  let code := d.core.rd MTL_STAT.reject
  (d.loadDone (if code = 0 then hsOk else if code = rcAbsent then hsAbsent else hsBadImage)).loadDone hsBadImage

/-- MTL_ABORT, and the response of a load that it ends (R410). -/
def mtlAbortHostStep (fixed : Bool) (d : Dev) : Dev := (d.act (mtlAbortStep fixed)).loadDone hsBadImage

/-- A write of an executor as a command, and the response of a load that a write of the loader's registers ends (R410). -/
def Dev.busCmd (d : Dev) (addr be : Nat) (f : Dev → Dev) : Dev :=
  let e := d.act f
  match d.core.part.access addr be with
  | .reg r _ => if r.id = .mtl then e.loadDone hsBadImage else e
  | .bad _ => e

/-- TILE_TEST_DONE, and then the bulk transfers that waited for one of its banks (R316). -/
def tileTestHostStep (fails : List (Nat × Nat × Nat)) (d : Dev) : Dev :=
  (d.act (fun d => { d with core := tileTestDoneStep fails d.core })).bulkDone.loadDone hsBadImage

/-! ## The meanings of the commands -/

/-- REGISTER_WRITE (R363). -/
def execRegisterWrite (ex : Fin 4) (addr : BitVec 32) (be : BitVec 4) (data : BitVec 32 × Bool) (s : State) : Out :=
  onHost (fun d => d.busCmd addr.toNat be.toNat (registerWriteStep ex addr be data.1 data.2)) s

/-- BIT_ALIAS_WRITE (R365). -/
def execBitAliasWrite (ex : Fin 4) (addr : BitVec 32) (be : BitVec 4) (data : BitVec 32) (s : State) : Out :=
  onHost (fun d => d.busCmd addr.toNat be.toNat (bitAliasWriteStep ex addr be data)) s

/-- TILE_TEST_DONE (R316). -/
def execTileTestDone (fails : List (Nat × Nat × Nat)) (s : State) : Out := onHost (tileTestHostStep fails) s

/-- INSERTED_FRAME (R261). -/
def execInsertedFrame (n : Fin 4) (tTx : Nat) (late : Bool) (s : State) : Out := onHost (insertedStep n tTx late) s

/-- SEND (R330). -/
def execSend (bytes : List Byte) (s : State) : Out := onHost (sendStep bytes) s

/-- RECEIVE (R331). -/
def execReceive (n : BitVec 16) (s : State) : Out := onHost (receiveStep n) s

/-- STATUS (R332). -/
def execStatus (s : State) : Out := onHost statusStep s

/-- RESYNC (R341). -/
def execResync (s : State) : Out := onHost resyncStep s

/-- INVALID_TRANSACTION_CODE (R330). -/
def execInvalidTransactionCode (code : BitVec 8) (s : State) : Out := onHost (invalidTransactionCodeStep code) s

/-- INBAND_FRAME (R348). -/
def execInbandFrame (l : List Byte) (s : State) : Out := onHost (inbandFrameStep l) s

/-- PHASE_STEP (R126). -/
def execPhaseStep (port : Fin 2) (cls : Fin 4) (tag : BitVec 16) (ch : BitVec 8) (slew : Bool) (delta : BitVec 48) (s : State) : Out :=
  onHost (phaseStepStep port cls tag ch slew delta) s

/-- FORCE_HOLDOVER (R126). -/
def execForceHoldover (port : Fin 2) (cls : Fin 4) (tag : BitVec 16) (ch : BitVec 8) (v : Bool) (s : State) : Out :=
  onHost (forceHoldoverStep port cls tag ch v) s

/-- MANUAL_SELECT (R126). -/
def execManualSelect (port : Fin 2) (cls : Fin 4) (tag : BitVec 16) (ch cand : BitVec 8) (s : State) : Out :=
  onHost (manualSelectStep port cls tag ch cand) s

/-- MUTE_OUTPUT (R337). -/
def execMuteOutput (port : Fin 2) (cls : Fin 4) (tag : BitVec 16) (mask : BitVec 32) (mute : Bool) (s : State) : Out :=
  onHost (muteOutputStep port cls tag mask mute) s

/-- READ_STATUS (R337). -/
def execReadStatus (port : Fin 2) (cls : Fin 4) (tag : BitVec 16) (ch : BitVec 8) (addrs : List Word) (s : State) : Out :=
  onHost (readStatusStep port cls tag ch addrs) s

/-- ACK_FAULT (R478). -/
def execAckFault (port : Fin 2) (cls : Fin 4) (tag : BitVec 16) (fs unit : BitVec 8) (s : State) : Out :=
  onHost (ackFaultStep port cls tag fs unit) s

/-- REG_READ (R358). -/
def execRegRead (port : Fin 2) (cls : Fin 4) (tag : BitVec 16) (addr : BitVec 32) (be : BitVec 4) (fixed : Bool) (count : BitVec 16) (s : State) : Out :=
  onHost (regReadStep port cls tag addr be fixed count) s

/-- REG_WRITE (R358). -/
def execRegWrite (port : Fin 2) (cls : Fin 4) (tag : BitVec 16) (addr : BitVec 32) (be : BitVec 4) (fixed : Bool) (words : List Word) (s : State) : Out :=
  onHost (regWriteStep port cls tag addr be fixed words) s

/-- ABORT (R337). -/
def execAbort (port : Fin 2) (cls : Fin 4) (tag : BitVec 16) (target index : BitVec 8) (s : State) : Out :=
  onHost (abortStep port cls tag target index) s

/-- BULK_WRITE (R340). -/
def execBulkWrite (port : Fin 2) (cls : Fin 4) (tag : BitVec 16) (target : BitVec 8) (off : BitVec 32) (data : List Byte) (s : State) : Out :=
  onHost (bulkWriteStep port cls tag target off data) s

/-- BULK_READ (R340). -/
def execBulkRead (port : Fin 2) (cls : Fin 4) (tag : BitVec 16) (target : BitVec 8) (len : BitVec 16) (off : BitVec 32) (s : State) : Out :=
  onHost (bulkReadStep port cls tag target len off) s

/-- QUEUE_DRAIN (R339). -/
def execQueueDrain (port : Fin 2) (cls : Fin 4) (tag : BitVec 16) (queue : BitVec 8) (rel rew mark : Bool) (limit : BitVec 16) (s : State) : Out :=
  onHost (queueDrainStep port cls tag queue rel rew mark limit) s

/-- ECHO (R337). -/
def execEcho (port : Fin 2) (cls : Fin 4) (tag : BitVec 16) (payload : List Byte) (s : State) : Out :=
  onHost (echoStep port cls tag payload) s

/-- IND_ACCESS_DONE (R372). -/
def execIndAccessDone (n : Fin 4) (busy : Nat) (coll late : Bool) (s : State) : Out :=
  onHost (indAccessDoneStep n busy coll late) s

/-- MTL_ABORT (R410). -/
def execMtlAbort (fixed : Bool) (s : State) : Out := onHost (mtlAbortHostStep fixed) s

/-- VERIFY_DONE (R396). -/
def execVerifyDone (s : State) : Out := onHost verifyStep s

end Sys2Proof.Machine
end

