-- ==== Sys2Proof/Machine/Dispatch.lean ====
section
/-! DEFINITION. The dispatch of a command to its meaning, one arm per constructor. -/

namespace Sys2Proof.Machine

open Sys2Proof

def exec (i : Instr) (s : State) : Host.Outcome State Fault Refusal :=
  match i with
  | .dtSetCommit ex hi rollover => Sys2Proof.Machine.execDtSetCommit ex hi rollover s
  | .wholeSecondChange => Sys2Proof.Machine.execWholeSecondChange s
  | .nanosecondRollover => Sys2Proof.Machine.execNanosecondRollover s
  | .deviceTimeLoad sub => Sys2Proof.Machine.execDeviceTimeLoad sub s
  | .creditReturn link => Sys2Proof.Machine.execCreditReturn link s
  | .linkError link parity => Sys2Proof.Machine.execLinkError link parity s
  | .linkCounterReset link => Sys2Proof.Machine.execLinkCounterReset link s
  | .bgStarved activity => Sys2Proof.Machine.execBgStarved activity s
  | .refStamp cand t high => Sys2Proof.Machine.execRefStamp cand t high s
  | .activityFailure cand => Sys2Proof.Machine.execActivityFailure cand s
  | .gateEnd cand => Sys2Proof.Machine.execGateEnd cand s
  | .qualTimeExpire cand => Sys2Proof.Machine.execQualTimeExpire cand s
  | .wtrExpire cand => Sys2Proof.Machine.execWtrExpire cand s
  | .requal cand => Sys2Proof.Machine.execRequal cand s
  | .forceDisq cand v => Sys2Proof.Machine.execForceDisq cand v s
  | .refCfgWrite cand be data => Sys2Proof.Machine.execRefCfgWrite cand be data s
  | .esmcQlTimeout lane => Sys2Proof.Machine.execEsmcQlTimeout lane s
  | .todFrameRx pin bytes => Sys2Proof.Machine.execTodFrameRx pin bytes s
  | .todTimeout cand => Sys2Proof.Machine.execTodTimeout cand s
  | .todRawGroup pin t bytes => Sys2Proof.Machine.execTodRawGroup pin t bytes s
  | .disagreeCompare => Sys2Proof.Machine.execDisagreeCompare s
  | .loopUpdate h => Sys2Proof.Machine.execLoopUpdate h s
  | .chCfgWrite h be data => Sys2Proof.Machine.execChCfgWrite h be data s
  | .chSelCfgWrite h be data => Sys2Proof.Machine.execChSelCfgWrite h be data s
  | .chPstepCommit h ex data => Sys2Proof.Machine.execChPstepCommit h ex data s
  | .forceFr h v => Sys2Proof.Machine.execForceFr h v s
  | .forceHo h v => Sys2Proof.Machine.execForceHo h v s
  | .hoRelease h => Sys2Proof.Machine.execHoRelease h s
  | .poolAbort h emptied => Sys2Proof.Machine.execPoolAbort h emptied s
  | .glcSample h => Sys2Proof.Machine.execGlcSample h s
  | .clear h atSample => Sys2Proof.Machine.execClear h atSample s
  | .declare h atSample => Sys2Proof.Machine.execDeclare h atSample s
  | .glcMdlStore h => Sys2Proof.Machine.execGlcMdlStore h s
  | .newOsc => Sys2Proof.Machine.execNewOsc s
  | .glcMdlCfgWrite h be data => Sys2Proof.Machine.execGlcMdlCfgWrite h be data s
  | .dayRollover => Sys2Proof.Machine.execDayRollover s
  | .storeInterval => Sys2Proof.Machine.execStoreInterval s
  | .tempInvalid h => Sys2Proof.Machine.execTempInvalid h s
  | .hostTempExpire => Sys2Proof.Machine.execHostTempExpire s
  | .sensorReading k v => Sys2Proof.Machine.execSensorReading k v s
  | .adevSample h => Sys2Proof.Machine.execAdevSample h s
  | .readmit h m => Sys2Proof.Machine.execReadmit h m s
  | .glcEnsMemWrite h be data => Sys2Proof.Machine.execGlcEnsMemWrite h be data s
  | .tachEdge h t => Sys2Proof.Machine.execTachEdge h t s
  | .indexEdge h => Sys2Proof.Machine.execIndexEdge h s
  | .tachLate h t => Sys2Proof.Machine.execTachLate h t s
  | .stopTimeout h => Sys2Proof.Machine.execStopTimeout h s
  | .coastEnd h => Sys2Proof.Machine.execCoastEnd h s
  | .flywheelCrossing h t => Sys2Proof.Machine.execFlywheelCrossing h t s
  | .hostResync h => Sys2Proof.Machine.execHostResync h s
  | .rsCalDone => Sys2Proof.Machine.execRsCalDone s
  | .lockCountEnd unit count => Sys2Proof.Machine.execLockCountEnd unit count s
  | .acquireTimeout unit => Sys2Proof.Machine.execAcquireTimeout unit s
  | .rsRelock => Sys2Proof.Machine.execRsRelock s
  | .loLoss => Sys2Proof.Machine.execLoLoss s
  | .loRestored => Sys2Proof.Machine.execLoRestored s
  | .synCalDone n band => Sys2Proof.Machine.execSynCalDone n band s
  | .synRelock n => Sys2Proof.Machine.execSynRelock n s
  | .synCfgWrite n be data => Sys2Proof.Machine.execSynCfgWrite n be data s
  | .commit n => Sys2Proof.Machine.execCommit n s
  | .commitLoad n => Sys2Proof.Machine.execCommitLoad n s
  | .ret n => Sys2Proof.Machine.execRet n s
  | .return_ n diff => Sys2Proof.Machine.execReturn n diff s
  | .outCfgWrite o be data => Sys2Proof.Machine.execOutCfgWrite o be data s
  | .paEdgeLatch a => Sys2Proof.Machine.execPaEdgeLatch a s
  | .paEdge a => Sys2Proof.Machine.execPaEdge a s
  | .companionStamp pin t => Sys2Proof.Machine.execCompanionStamp pin t s
  | .companionTimeout a => Sys2Proof.Machine.execCompanionTimeout a s
  | .todoutFrame a => Sys2Proof.Machine.execTodoutFrame a s
  | .palPaCfgWrite a be data => Sys2Proof.Machine.execPalPaCfgWrite a be data s
  | .timrefActivity => Sys2Proof.Machine.execTimrefActivity s
  | .timrefCountEnd count dur => Sys2Proof.Machine.execTimrefCountEnd count dur s
  | .timrefGap => Sys2Proof.Machine.execTimrefGap s
  | .timCfgWrite be data => Sys2Proof.Machine.execTimCfgWrite be data s
  | .arm leaving => Sys2Proof.Machine.execArm leaving s
  | .timgateEdge level => Sys2Proof.Machine.execTimgateEdge level s
  | .timEdge stop cyc code t sw => Sys2Proof.Machine.execTimEdge stop cyc code t sw s
  | .gateLengthExpire => Sys2Proof.Machine.execGateLengthExpire s
  | .range => Sys2Proof.Machine.execRange s
  | .timResult => Sys2Proof.Machine.execTimResult s
  | .timCtrlAbort closing => Sys2Proof.Machine.execTimCtrlAbort closing s
  | .calSlot => Sys2Proof.Machine.execCalSlot s
  | .calTableDone k hits => Sys2Proof.Machine.execCalTableDone k hits s
  | .calNow => Sys2Proof.Machine.execCalNow s
  | .timCalDataRead => Sys2Proof.Machine.execTimCalDataRead s
  | .throughFrame n m2l l good rx tTx room words => Sys2Proof.Machine.execThroughFrame n m2l l good rx tTx room words s
  | .esmcPduRx n l good t => Sys2Proof.Machine.execEsmcPduRx n l good t s
  | .insertedFrame n tTx late => Sys2Proof.Machine.execInsertedFrame n tTx late s
  | .laneSync n line mac => Sys2Proof.Machine.execLaneSync n line mac s
  | .laneSyncLost n line => Sys2Proof.Machine.execLaneSyncLost n line s
  | .laneRelease n => Sys2Proof.Machine.execLaneRelease n s
  | .anRestart n => Sys2Proof.Machine.execAnRestart n s
  | .ethLoopWrite n be data => Sys2Proof.Machine.execEthLoopWrite n be data s
  | .ethCfgWrite n be data => Sys2Proof.Machine.execEthCfgWrite n be data s
  | .syncRx n t l => Sys2Proof.Machine.execSyncRx n t l s
  | .followUpRx n t l => Sys2Proof.Machine.execFollowUpRx n t l s
  | .delayReqRx n t l => Sys2Proof.Machine.execDelayReqRx n t l s
  | .delayRespRx n l => Sys2Proof.Machine.execDelayRespRx n l s
  | .pdelayReqRx n t l => Sys2Proof.Machine.execPdelayReqRx n t l s
  | .pdelayRespRx n t l => Sys2Proof.Machine.execPdelayRespRx n t l s
  | .announceRx n l => Sys2Proof.Machine.execAnnounceRx n l s
  | .requestUnicastTransmission n l => Sys2Proof.Machine.execRequestUnicastTransmission n l s
  | .cancelUnicastTransmission n l => Sys2Proof.Machine.execCancelUnicastTransmission n l s
  | .announceTimeout p => Sys2Proof.Machine.execAnnounceTimeout p s
  | .servoUpdate sv => Sys2Proof.Machine.execServoUpdate sv s
  | .learned sv => Sys2Proof.Machine.execLearned sv s
  | .svAsymAck sv => Sys2Proof.Machine.execSvAsymAck sv s
  | .evict k => Sys2Proof.Machine.execEvict k s
  | .asymAck k => Sys2Proof.Machine.execAsymAck k s
  | .grantExpire k ty => Sys2Proof.Machine.execGrantExpire k ty s
  | .clientSyncDue k => Sys2Proof.Machine.execClientSyncDue k s
  | .clientAnnounceDue k => Sys2Proof.Machine.execClientAnnounceDue k s
  | .portSyncDue p => Sys2Proof.Machine.execPortSyncDue p s
  | .portAnnounceDue p => Sys2Proof.Machine.execPortAnnounceDue p s
  | .delayReqDue p => Sys2Proof.Machine.execDelayReqDue p s
  | .pteStart => Sys2Proof.Machine.execPteStart s
  | .recordItemStart q => Sys2Proof.Machine.execRecordItemStart q s
  | .queueWordEnter q => Sys2Proof.Machine.execQueueWordEnter q s
  | .itemReadable q => Sys2Proof.Machine.execItemReadable q s
  | .queueRead q ex => Sys2Proof.Machine.execQueueRead q ex s
  | .mark q => Sys2Proof.Machine.execMark q s
  | .rewind q => Sys2Proof.Machine.execRewind q s
  | .release q => Sys2Proof.Machine.execRelease q s
  | .flush q => Sys2Proof.Machine.execFlush q s
  | .staleWinEnd q => Sys2Proof.Machine.execStaleWinEnd q s
  | .telemetry => Sys2Proof.Machine.execTelemetry s
  | .tmcStart => Sys2Proof.Machine.execTmcStart s
  | .tmcAbort completing => Sys2Proof.Machine.execTmcAbort completing s
  | .tileTestDone fails => Sys2Proof.Machine.execTileTestDone fails s
  | .vaultTrained => Sys2Proof.Machine.execVaultTrained s
  | .trainTimeout => Sys2Proof.Machine.execTrainTimeout s
  | .vaultTestDone failing => Sys2Proof.Machine.execVaultTestDone failing s
  | .vltTestStart => Sys2Proof.Machine.execVltTestStart s
  | .vltAbort completing => Sys2Proof.Machine.execVltAbort completing s
  | .retrain => Sys2Proof.Machine.execRetrain s
  | .scrubBurst corr uncorr again => Sys2Proof.Machine.execScrubBurst corr uncorr again s
  | .send bytes => Sys2Proof.Machine.execSend bytes s
  | .receive n => Sys2Proof.Machine.execReceive n s
  | .status => Sys2Proof.Machine.execStatus s
  | .resync => Sys2Proof.Machine.execResync s
  | .invalidTransactionCode code => Sys2Proof.Machine.execInvalidTransactionCode code s
  | .inbandFrame l => Sys2Proof.Machine.execInbandFrame l s
  | .phaseStep port cls tag ch slew delta => Sys2Proof.Machine.execPhaseStep port cls tag ch slew delta s
  | .forceHoldover port cls tag ch v => Sys2Proof.Machine.execForceHoldover port cls tag ch v s
  | .manualSelect port cls tag ch cand => Sys2Proof.Machine.execManualSelect port cls tag ch cand s
  | .muteOutput port cls tag mask mute => Sys2Proof.Machine.execMuteOutput port cls tag mask mute s
  | .readStatus port cls tag ch addrs => Sys2Proof.Machine.execReadStatus port cls tag ch addrs s
  | .ackFault port cls tag fs unit => Sys2Proof.Machine.execAckFault port cls tag fs unit s
  | .regRead port cls tag addr be fixed count => Sys2Proof.Machine.execRegRead port cls tag addr be fixed count s
  | .regWrite port cls tag addr be fixed words => Sys2Proof.Machine.execRegWrite port cls tag addr be fixed words s
  | .abort port cls tag target index => Sys2Proof.Machine.execAbort port cls tag target index s
  | .bulkWrite port cls tag target off data => Sys2Proof.Machine.execBulkWrite port cls tag target off data s
  | .bulkRead port cls tag target len off => Sys2Proof.Machine.execBulkRead port cls tag target len off s
  | .queueDrain port cls tag queue rel rew mark limit => Sys2Proof.Machine.execQueueDrain port cls tag queue rel rew mark limit s
  | .echo port cls tag payload => Sys2Proof.Machine.execEcho port cls tag payload s
  | .registerWrite ex addr be data => Sys2Proof.Machine.execRegisterWrite ex addr be data s
  | .bitAliasWrite ex addr be data => Sys2Proof.Machine.execBitAliasWrite ex addr be data s
  | .indDataAccess n ex write data => Sys2Proof.Machine.execIndDataAccess n ex write data s
  | .indAccessDone n busy coll late => Sys2Proof.Machine.execIndAccessDone n busy coll late s
  | .tvScrubVisit addr => Sys2Proof.Machine.execTvScrubVisit addr s
  | .load => Sys2Proof.Machine.execLoad s
  | .mtlAbort fixed => Sys2Proof.Machine.execMtlAbort fixed s
  | .verifyDone => Sys2Proof.Machine.execVerifyDone s
  | .applyStepDone us => Sys2Proof.Machine.execApplyStepDone us s
  | .slotStored => Sys2Proof.Machine.execSlotStored s
  | .storeRetry => Sys2Proof.Machine.execStoreRetry s
  | .resetRelease boot => Sys2Proof.Machine.execResetRelease boot s
  | .footingReported khz us => Sys2Proof.Machine.execFootingReported khz us s
  | .coursePulse => Sys2Proof.Machine.execCoursePulse s
  | .courseMarchDone fails => Sys2Proof.Machine.execCourseMarchDone fails s
  | .courseCalDone => Sys2Proof.Machine.execCourseCalDone s
  | .courseReported us => Sys2Proof.Machine.execCourseReported us s
  | .courseWait => Sys2Proof.Machine.execCourseWait s
  | .resetNAssert => Sys2Proof.Machine.execResetNAssert s
  | .hostReset key => Sys2Proof.Machine.execHostReset key s
  | .deviceReset => Sys2Proof.Machine.execDeviceReset s
  | .powerOnReset => Sys2Proof.Machine.execPowerOnReset s
  | .blockReset unit index => Sys2Proof.Machine.execBlockReset unit index s
  | .blockResetDone unit index => Sys2Proof.Machine.execBlockResetDone unit index s
  | .powerFail => Sys2Proof.Machine.execPowerFail s
  | .auxWarning => Sys2Proof.Machine.execAuxWarning s
  | .auxDelayExpire => Sys2Proof.Machine.execAuxDelayExpire s
  | .vholdLow => Sys2Proof.Machine.execVholdLow s
  | .frnStoreGo first last => Sys2Proof.Machine.execFrnStoreGo first last s
  | .frnStoreAbort completing => Sys2Proof.Machine.execFrnStoreAbort completing s
  | .pageStored fail => Sys2Proof.Machine.execPageStored fail s
  | .tokenAccrual => Sys2Proof.Machine.execTokenAccrual s
  | .refreshRead page b weak crcBad => Sys2Proof.Machine.execRefreshRead page b weak crcBad s
  | .provision confirm => Sys2Proof.Machine.execProvision confirm s
  | .policy confirm => Sys2Proof.Machine.execPolicy confirm s
  | .zeroise confirm => Sys2Proof.Machine.execZeroise confirm s
  | .tallyInc k => Sys2Proof.Machine.execTallyInc k s
  | .tallyIncDone k => Sys2Proof.Machine.execTallyIncDone k s
  | .frostSecond => Sys2Proof.Machine.execFrostSecond s
  | .xtalFail => Sys2Proof.Machine.execXtalFail s
  | .xtalRestart => Sys2Proof.Machine.execXtalRestart s
  | .frostPor => Sys2Proof.Machine.execFrostPor s
  | .coreLost => Sys2Proof.Machine.execCoreLost s
  | .frostTimeCommit hi => Sys2Proof.Machine.execFrostTimeCommit hi s
  | .frostTimeLoad => Sys2Proof.Machine.execFrostTimeLoad s
  | .frostSync sub => Sys2Proof.Machine.execFrostSync sub s
  | .trimWindow => Sys2Proof.Machine.execTrimWindow s
  | .comparatorSample k v => Sys2Proof.Machine.execComparatorSample k v s
  | .faultHit fs info addr aux => Sys2Proof.Machine.execFaultHit fs info addr aux s
  | .recordClose => Sys2Proof.Machine.execRecordClose s
  | .guardExpire fs => Sys2Proof.Machine.execGuardExpire fs s
  | .fltAck src unit => Sys2Proof.Machine.execFltAck src unit s
  | .ackAll => Sys2Proof.Machine.execAckAll s
  | .unmute => Sys2Proof.Machine.execUnmute s
  | .fltSrcCfgWrite n mask data => Sys2Proof.Machine.execFltSrcCfgWrite n mask data s
  | .injArm be data => Sys2Proof.Machine.execInjArm be data s
  | .wdogKick key => Sys2Proof.Machine.execWdogKick key s
  | .hostWdog => Sys2Proof.Machine.execHostWdog s
  | .quietWindowEnd unit index => Sys2Proof.Machine.execQuietWindowEnd unit index s
  | .aliveToggle => Sys2Proof.Machine.execAliveToggle s
  | .angleClockEdge h t => Sys2Proof.Machine.execAngleClockEdge h t s
  | .phaseQuantum n => Sys2Proof.Machine.execPhaseQuantum n s
  | .todLabelTimeout cand => Sys2Proof.Machine.execTodLabelTimeout cand s
  | .pdelayRespFollowUpRx n l => Sys2Proof.Machine.execPdelayRespFollowUpRx n l s
  | .pauseBitsChange n line pause => Sys2Proof.Machine.execPauseBitsChange n line pause s

end Sys2Proof.Machine
end

