-- ==== Sys2Proof/Safety.lean ====
section
/-! DEFINITION. What claims are stated in: the canonical form of the memories, what a command answers, and a step that does not
stop. -/

namespace Sys2Proof

/-! ## What a command may change -/

/-- The blocks that a command may write, by their 64 KB page (R353; 0x10000: the Frost registers), beside those that any
command's end may write (`Core.outside`); 0x101 stands for the counter of free values, 0x102 for the items that wait for
their link or for an epoch, and 0x103 for latched and staged words. None where no bound is claimed: the host's packets
and its writes by address, resets, the end of a Tile test, which lets waiting packets run, and the steps of a start and
of an image load. -/
def Instr.blocks : Instr → Option (List Nat)
  | .dtSetCommit .. => some [3, 0x27]
  | .hostReset .. | .aliveToggle => some [3]
  | .bgStarved .. => some [2, 3]
  | .wholeSecondChange | .nanosecondRollover => some [3, 0x10, 0x11, 0x12, 0x15, 0x20, 0x21, 0x101]
  | .deviceTimeLoad .. => some [3, 0x12, 0x26, 0x10000]
  | .creditReturn .. | .linkError .. => some [2, 3, 0x20, 0x22]
  | .linkCounterReset .. => some [0x20, 0x22]
  | .pageStored .. | .refreshRead .. | .guardExpire .. | .fltSrcCfgWrite .. | .wdogKick .. | .hostWdog
    | .quietWindowEnd .. => some [2]
  | .refStamp .. => some [2, 0x10, 0x14, 0x15, 0x22, 0x102]
  | .activityFailure .. | .gateEnd .. | .qualTimeExpire .. | .wtrExpire .. | .esmcQlTimeout .. | .todTimeout .. => some [2, 0x10, 0x14, 0x15, 0x102]
  | .refCfgWrite .. => some [0, 2, 4, 0x10, 0x11, 0x14, 0x15, 0x102]
  | .requal .. | .forceDisq .. => some [0, 2, 0x10, 0x14, 0x15, 0x102]
  | .todFrameRx .. => some [2, 0x10, 0x22]
  | .todRawGroup .. => some [0x22, 0x102]
  | .disagreeCompare | .todLabelTimeout .. => some [2, 0x10]
  | .loopUpdate .. => some [2, 3, 0x10, 0x11, 0x12, 0x13, 0x15, 0x21, 0x22, 0x102]
  | .chCfgWrite .. | .glcMdlCfgWrite .. => some [0, 2, 3, 4, 0x11, 0x12, 0x15, 0x102]
  | .chSelCfgWrite .. => some [0, 2, 4, 0x11]
  | .chPstepCommit .. => some [0, 2, 0x11, 0x27]
  | .forceFr .. | .forceHo .. | .hoRelease .. | .clear .. | .declare ..
    => some [0, 2, 3, 0x11, 0x12, 0x15, 0x102]
  | .newOsc => some [2, 3, 0x11, 0x12, 0x15, 0x102]
  | .poolAbort .. => some [0, 2, 0x11]
  | .glcSample .. => some [2, 3, 0x11, 0x12, 0x15, 0x101, 0x102]
  | .glcMdlStore .. => some [0, 2, 0x12]
  | .dayRollover | .storeInterval | .hostTempExpire | .sensorReading .. | .tallyIncDone ..
    => some [0x12]
  | .tempInvalid .. => some [2, 0x12]
  | .adevSample .. | .readmit .. => some [2, 0x11, 0x12, 0x102]
  | .glcEnsMemWrite .. => some [0, 2, 4, 0x12]
  | .tachEdge .. => some [2, 0x10, 0x11, 0x15, 0x102]
  | .indexEdge .. | .paEdge .. | .todoutFrame .. | .angleClockEdge .. => some [0x15]
  | .tachLate .. | .stopTimeout .. | .coastEnd .. => some [2, 0x11, 0x15, 0x102]
  | .hostResync .. => some [0, 2, 0x11, 0x15, 0x102]
  | .flywheelCrossing .. => some [0x15, 0x102]
  | .rsCalDone | .lockCountEnd .. | .acquireTimeout .. | .rsRelock | .loLoss | .loRestored
    => some [2, 3, 0x11, 0x12, 0x13, 0x14, 0x15, 0x16, 0x20, 0x21, 0x22, 0x23, 0x24, 0x27, 0x101, 0x102]
  | .synCalDone .. => some [2, 0x13, 0x14, 0x15, 0x102]
  | .synRelock .. => some [0, 2, 0x13, 0x14, 0x15, 0x102]
  | .synCfgWrite .. | .outCfgWrite .. => some [0, 2, 4, 0x13, 0x14, 0x15, 0x102]
  | .commit .. | .ret .. => some [0, 2, 0x13, 0x14, 0x15, 0x102]
  | .commitLoad .. | .return_ .. => some [0x13, 0x14, 0x15, 0x102]
  | .paEdgeLatch .. | .companionStamp .. | .companionTimeout .. => some [2, 0x14, 0x15, 0x102]
  | .palPaCfgWrite .. => some [0, 2, 4, 0x14, 0x15, 0x102]
  | .timrefActivity | .calSlot | .calNow | .timCalDataRead => some [0x16]
  | .timrefCountEnd .. | .timrefGap | .calTableDone .. => some [2, 0x16, 0x23, 0x24, 0x27, 0x101]
  | .timCfgWrite .. => some [0, 2, 4, 0x16, 0x23, 0x24, 0x27, 0x101]
  | .arm .. | .timgateEdge .. | .gateLengthExpire | .range | .timCtrlAbort .. => some [2, 0x16, 0x23, 0x24, 0x27, 0x101]
  | .timEdge .. => some [2, 0x16, 0x23, 0x24, 0x27, 0x101, 0x102]
  | .timResult => some [2, 0x16, 0x23, 0x24, 0x27, 0x101, 0x102]
  | .throughFrame .. => some [2, 0x10, 0x14, 0x15, 0x20, 0x21, 0x22, 0x101, 0x102]
  | .esmcPduRx .. => some [2, 0x10, 0x14, 0x15, 0x20, 0x22, 0x102]
  | .insertedFrame .. => some [1, 2, 0x20, 0x101]
  | .laneSync .. | .laneSyncLost .. | .pauseBitsChange ..
    => some [2, 0x20, 0x21, 0x102]
  | .laneRelease .. | .anRestart .. => some [0, 2, 0x20, 0x21, 0x102]
  | .ethLoopWrite .. | .ethCfgWrite .. => some [0, 2, 4, 0x20, 0x21, 0x102]
  | .syncRx .. | .followUpRx .. | .delayRespRx .. | .pdelayRespRx .. | .pdelayRespFollowUpRx .. => some [0x20, 0x21]
  | .delayReqRx .. | .requestUnicastTransmission .. | .cancelUnicastTransmission ..
    => some [2, 0x20, 0x21, 0x22, 0x24, 0x102]
  | .evict .. | .asymAck .. => some [0, 2, 0x20, 0x21, 0x22, 0x24, 0x102]
  | .pdelayReqRx .. | .portSyncDue .. | .delayReqDue .. => some [0x20, 0x21, 0x22]
  | .announceRx .. => some [2, 0x10, 0x14, 0x15, 0x20, 0x21, 0x102]
  | .announceTimeout .. => some [2, 0x10, 0x14, 0x15, 0x21, 0x102]
  | .servoUpdate .. => some [2, 0x10, 0x14, 0x15, 0x21, 0x22, 0x102]
  | .learned .. | .pteStart => some [0x21, 0x102]
  | .svAsymAck .. => some [0, 2, 0x21, 0x102]
  | .grantExpire .. => some [2, 0x21, 0x24, 0x102]
  | .clientSyncDue .. | .clientAnnounceDue .. => some [2, 0x20, 0x21, 0x22, 0x24]
  | .portAnnounceDue .. => some [0x20, 0x21, 0x22, 0x102]
  | .recordItemStart .. => some [2, 0x22, 0x102]
  | .queueWordEnter .. => some [2, 3, 0x20, 0x22, 0x23, 0x24, 0x27, 0x101]
  | .itemReadable .. | .mark .. | .rewind .. | .flush .. | .staleWinEnd .. => some [0x22]
  | .queueRead .. => some [0, 2, 0x21, 0x22, 0x23, 0x24, 0x27, 0x102, 0x103]
  | .release .. => some [2, 0x21, 0x22, 0x23, 0x24, 0x27, 0x101, 0x102]
  | .telemetry => some [0x24, 0x102]
  | .tmcStart => some [0x23, 0x24]
  | .tmcAbort .. => some [0x23, 0x24, 0x101]
  | .vaultTrained => some [2, 3, 0x16, 0x22, 0x23, 0x24, 0x27, 0x101]
  | .vltTestStart | .retrain => some [0, 2, 3, 0x16, 0x22, 0x23, 0x24, 0x27, 0x101]
  | .trainTimeout | .courseMarchDone .. => some [2, 3, 0x16, 0x22, 0x23, 0x24, 0x27, 0x101, 0x102]
  | .vaultTestDone .. => some [2, 3, 4, 0x16, 0x22, 0x23, 0x24, 0x27, 0x101, 0x102]
  | .vltAbort .. => some [0, 2, 3, 4, 0x16, 0x22, 0x23, 0x24, 0x27, 0x101, 0x102]
  | .scrubBurst .. => some [2, 0x21, 0x22, 0x24, 0x102]
  | .receive .. | .status | .invalidTransactionCode .. => some [1]
  | .resync => some [1, 0x20]
  | .indDataAccess .. => some [0x27]
  | .tvScrubVisit .. => some [0, 2, 3, 4]
  | .load | .policy .. => some [4]
  | .slotStored => some [2, 4, 0x102]
  | .storeRetry | .frnStoreGo .. | .frnStoreAbort .. | .tokenAccrual | .provision .. | .zeroise .. | .tallyInc ..
    => some []
  | .footingReported .. => some [2, 3, 4, 0x13, 0x14, 0x15, 0x102]
  | .coursePulse => some [2, 3, 4, 0x102]
  | .courseCalDone => some [2, 3, 0x11, 0x12, 0x16, 0x102]
  | .courseWait | .auxWarning => some [2, 3]
  | .blockReset ..
    => some [2, 3, 4, 0x10, 0x11, 0x12, 0x13, 0x14, 0x15, 0x16, 0x20, 0x21, 0x22, 0x23, 0x24, 0x27, 0x101, 0x102]
  | .blockResetDone .. => some [2, 3, 0x10, 0x11, 0x12, 0x13, 0x14, 0x15, 0x16, 0x20, 0x21, 0x23, 0x24, 0x27, 0x101, 0x102]
  | .vholdLow | .comparatorSample .. => some [2, 3, 0x26, 0x10000]
  | .frostSecond | .xtalRestart | .frostTimeLoad | .frostSync .. | .trimWindow => some [3, 0x26, 0x10000]
  | .xtalFail => some [2, 3, 0x26, 0x101, 0x10000]
  | .frostPor => some [2, 3, 0x26, 0x103, 0x10000]
  | .coreLost => some [3, 0x101, 0x10000]
  | .frostTimeCommit .. => some [0x26, 0x10000]
  | .faultHit .. => some [1, 2, 3, 0x10, 0x16, 0x20, 0x21, 0x22, 0x23, 0x24, 0x102]
  | .recordClose
    => some [1, 2, 3, 4, 0x10, 0x11, 0x12, 0x13, 0x14, 0x15, 0x16, 0x20, 0x21, 0x22, 0x23, 0x24, 0x27, 0x101, 0x102]
  | .fltAck .. | .ackAll | .unmute => some [2, 3, 0x11, 0x12, 0x13, 0x14, 0x15, 0x20, 0x21, 0x102]
  | .injArm .. => some [0, 2, 3, 4]
  | .phaseQuantum .. => some [0x13]
  | _ => none

/-- The command writes no byte of any memory and gives the store engine no work: it is none of the commands that may. -/
def Instr.keepsMemory : Instr → Bool
  | .refCfgWrite .. | .loopUpdate .. | .chCfgWrite .. | .chSelCfgWrite .. | .forceFr .. | .forceHo .. | .hoRelease ..
    | .glcSample .. | .clear .. | .declare .. | .glcMdlStore .. | .newOsc | .glcMdlCfgWrite .. | .storeInterval
    | .glcEnsMemWrite .. | .rsCalDone | .lockCountEnd .. | .acquireTimeout .. | .rsRelock | .loLoss | .loRestored
    | .synCfgWrite .. | .outCfgWrite .. | .palPaCfgWrite .. | .timCfgWrite .. | .timEdge .. | .ethLoopWrite ..
    | .ethCfgWrite .. | .queueWordEnter .. | .release .. | .tileTestDone .. | .vaultTrained | .trainTimeout
    | .vaultTestDone .. | .vltTestStart | .vltAbort .. | .retrain | .send .. | .inbandFrame .. | .phaseStep ..
    | .forceHoldover .. | .manualSelect .. | .muteOutput .. | .readStatus .. | .ackFault .. | .regRead .. | .regWrite ..
    | .abort .. | .bulkWrite .. | .bulkRead .. | .queueDrain .. | .echo .. | .registerWrite .. | .bitAliasWrite ..
    | .indAccessDone .. | .mtlAbort .. | .verifyDone | .applyStepDone .. | .slotStored | .storeRetry | .resetRelease ..
    | .footingReported .. | .coursePulse | .courseMarchDone .. | .courseCalDone | .courseReported .. | .resetNAssert
    | .deviceReset | .powerOnReset | .blockReset .. | .blockResetDone .. | .powerFail | .auxWarning | .auxDelayExpire
    | .frnStoreGo .. | .frnStoreAbort .. | .pageStored .. | .refreshRead .. | .provision .. | .policy .. | .zeroise ..
    | .tallyIncDone .. | .coreLost | .recordClose | .fltAck .. | .ackAll | .unmute => false
  | _ => true

/-- The commands that the host's packets carry, those of the packets' own transport, and those that may let a waiting
packet run. -/
def Instr.fromHost : Instr → Bool
  | .insertedFrame .. | .send .. | .receive .. | .status .. | .resync .. | .invalidTransactionCode .. | .inbandFrame ..
    | .phaseStep .. | .forceHoldover .. | .manualSelect .. | .muteOutput .. | .readStatus .. | .ackFault .. | .regRead ..
    | .regWrite .. | .abort .. | .bulkWrite .. | .bulkRead .. | .queueDrain .. | .echo .. | .indAccessDone .. | .mtlAbort ..
    | .verifyDone .. | .registerWrite .. | .bitAliasWrite .. | .tileTestDone .. => true
  | _ => false

/-- The commands that act whatever the internal reset does: the resets themselves, a Firn store that has begun, and Frost
(R418, R427, R433). Log entry 9 (DEDUCED). -/
def Instr.pastReset : Instr → Bool
  | .resetRelease .. | .resetNAssert .. | .deviceReset .. | .powerOnReset .. | .powerFail .. | .vholdLow .. | .pageStored ..
    | .tokenAccrual .. | .tallyIncDone .. | .frostSecond .. | .xtalFail .. | .xtalRestart .. | .frostPor .. | .coreLost ..
    | .frostTimeLoad .. | .trimWindow .. | .comparatorSample .. => true
  | _ => false

/-- The commands that may write a channel's model or the age record into the Firn front (R153). -/
def Instr.storesModel : Instr → Bool
  | .loopUpdate .. | .forceFr .. | .forceHo .. | .hoRelease .. | .glcSample .. | .clear .. | .declare .. | .glcMdlStore ..
    | .newOsc .. | .storeInterval .. | .courseCalDone .. | .blockReset .. | .blockResetDone .. | .recordClose .. | .fltAck ..
    | .ackAll .. | .unmute .. => true
  | _ => false

/-- The commands that give the store engine work, or take it away, and write nothing into the front (R444, R447, R449). -/
def Instr.worksStore : Instr → Bool
  | .frnStoreGo .. | .refreshRead .. | .auxWarning .. => true
  | _ => false

/-- The commands that may move stamps of the interval meter into the stamp buffer (R231). -/
def Instr.storesStamps : Instr → Bool
  | .timEdge .. | .rsCalDone .. | .lockCountEnd .. | .acquireTimeout .. | .rsRelock .. | .loLoss .. | .loRestored ..
    | .trainTimeout .. | .vltTestStart .. | .vltAbort .. | .retrain .. => true
  | _ => false

/-- The commands that may move words of a queue into its middle (R302). -/
def Instr.storesMiddles : Instr → Bool
  | .queueWordEnter .. | .release .. | .rsCalDone .. | .lockCountEnd .. | .acquireTimeout .. | .rsRelock .. | .loLoss ..
    | .loRestored .. | .trainTimeout .. | .vltTestStart .. | .vltAbort .. | .retrain .. => true
  | _ => false

end Sys2Proof

namespace Sys2Proof.Machine

open Sys2Proof

/-- Every memory of the part is in its canonical form: keys rising, and no entry equal to what an unlisted address reads
as. -/
def Memory.wf (m : Mem) : Bool :=
  m.tile.wf none && m.vault.wf none && m.gens.wf 0 && m.firn.wf 0#8 && m.shadowA.wf 0#8 && m.shadowB.wf 0#8 &&
    m.pbuf.wf 0#8 && m.staged.wf 0#8

/-- The internal reset is not held, so that the blocks run (R418, R427). -/
abbrev Running (s : State) : Prop := s.dev.core.inReset = false

/-- The outcome is a next state that satisfies `P`. -/
def Answers (o : Host.Outcome State Fault Refusal) (P : State → Prop) : Prop := ∃ t, o = .next t ∧ P t

/-- The engine takes the frame `l` received on lane `n`, named by the command with the time `tm`: it hears the frame
with the receive timestamp `tr` (R251, R255), as the message `m` of the enabled domain `d`, for the port `p` on that
lane (R273, R274). -/
abbrev PtpTaken (c : Core) (n : Nat) (l : List Byte) (tm tr : Nat) (m : Msg) (d p : Nat) : Prop :=
  n < c.part.nLane ∧ c.pteRun = true ∧ (c.heard n l tm).1 = some tr ∧ c.msgOf n l = some m ∧ c.msgDom n m = some d ∧
    c.portOf n = some p

/-- Port `p` of the host link has a credit of class `cls`, nothing waits or runs at it, its executor waits for no window, and
port 1 has its session up (R341, R348, R372). -/
abbrev PortFree (c : Core) (p cls : Nat) : Prop :=
  (p = 1 → c.ibUp = true) ∧ (c.port p).rx = [] ∧ (c.port p).burst = none ∧ c.rd (creditFld p cls) ≠ 0 ∧
    (cls ≠ 0 → c.indWaits (2 + p) = false)

/-- The responses of class 0, or of the other classes, that wait at a port (R343). -/
def Core.waiting (c : Core) (p cls : Nat) : List (List Byte) := if cls = 0 then (c.port p).r0 else (c.port p).rs

/-- From `c` to `t` port `p` has taken one credit of class `cls` and queued one response behind those that waited. -/
abbrev Replied (c t : Core) (p cls op tag st : Nat) (payload : List Byte) : Prop :=
  t.waiting p cls = c.waiting p cls ++ [packet 1 cls op tag st 1 false false payload] ∧
    t.rd (creditFld p cls) = c.rd (creditFld p cls) - 1

/-- Nothing is in flight, as between two commands: no byte waits to land in a memory, no memory waits to be forgotten,
no store request waits to be judged, and the store engine has a page under way, waits for a tally increment that has
begun, or has no request in progress and none waiting (R444, R445, R463). -/
def Core.atRest (c : Core) : Bool :=
  c.firnOut.isEmpty && c.memOut.isEmpty && c.memLost.isEmpty && c.firnU.asked.isEmpty &&
    (match c.firnU.run with
      | none => c.firnU.waiting.isEmpty
      | some x => x.page.isSome || c.firnU.tGo)

/-- The address lies in one of the blocks, in Firn's, or is one of the five words that any command may write: the three
store marks and the two counters of items discarded. -/
def inBlocks (b : List Nat) (a : Nat) : Bool :=
  b.contains (a / 65536) || a / 65536 = 0x25 || a = GLC_STORE_STAT.dirty.addr 0 0 || a = MTL_STAT.store_deferred.addr 0 0 ||
    a = STG_STAT.store_busy.addr 0 0 || a = STG_FAB_DROP.dropped.addr 0 0 || a = TIM_DEAD_CNT.count.addr 0 0

/-- What lies outside some blocks: the state with the registers of those blocks and of Firn at reset, and with the
hidden state of those blocks erased, and always that of Firn with what waits to land in a memory. The host link's goes
with the block of the link or that of the queues, whose notices it sends. -/
def Core.outside (b : List Nat) (c : Core) : Core :=
  let reg := fun (m : AMap Nat) => m.filter (fun e => !inBlocks b (e.1 / 32))
  let c : Core := { c with
      regs := reg c.regs, tvB := reg c.tvB, tvC := reg c.tvC, firnU := {}, firnOut := [], memOut := [], memLost := [] }
  let c : Core := if b.contains 1 || b.contains 0x22 then { c with host := {} } else c
  let c : Core := if b.contains 0x101 then { c with free := 0 } else c
  let c : Core := if b.contains 0x102 then { c with outbox := [], held := [] } else c
  let c : Core := if b.contains 0x103 then { c with shadow := [], staging := [] } else c
  let c : Core := if b.contains 2 then { c with
      building := [], fltBuf := [], fltSeq := 0, esc := [], hitUnits := [], hits := [], ackWait := [], engaged := [], quiet := [],
      resetIssued := false } else c
  let c : Core := if b.contains 3 then { c with
      dt := 0, dtk := 0, setPend := none, setSkip := false, yMaster := 0, dSlices := [], dShift := [], dGroup := 0, stepped := 0,
      loKhz := 0, dtLocked := false,
      inReset := false, inRst := [], alive := false, footed := false, vholdTold := false, courseHeld := false,
      courseWaited := false, rsTried := false, rstReq := none, rstOpen := [], supply := {} } else c
  let c : Core := if b.contains 4 then { c with mtl := {}, memMap := {}, streams := [], tach := [], estRun := false } else c
  let c : Core := if b.contains 0x10 then { c with cands := [], pairs := [] } else c
  let c : Core := if b.contains 0x11 then { c with chans := [] } else c
  let c : Core := if b.contains 0x12 then { c with glcs := [], tSum := [], secInDay := 0, secDone := none, ageBase := 0, glcReady := false } else c
  let c : Core := if b.contains 0x13 then { c with syns := [] } else c
  let c : Core := if b.contains 0x15 then { c with rots := [], pal := {} } else c
  let c : Core := if b.contains 0x16 then { c with tim := {} } else c
  let c : Core := if b.contains 0x20 then { c with lanes := [] } else c
  let c : Core := if b.contains 0x21 then { c with pte := {} } else c
  let c : Core := if b.contains 0x22 then { c with queues := [], links := [], linkBad := [] } else c
  let c : Core := if b.contains 0x24 then { c with memU := {} } else c
  let c : Core := if b.contains 0x26 then { c with frost := {} } else c
  if b.contains 0x27 then { c with inds := [], exHeld := [] } else c

/-- Byte `a` of memory `m` (0 Tile memory, 1 the Vault) lies in none of the next `n` places of the stamp buffer. -/
def Core.outsideStamps (c : Core) (m a n : Nat) : Prop :=
  ∀ i < n, (c.bufAddr (c.rd TIM_BUF_STAT.count + i)).1 = m →
    a < (c.bufAddr (c.rd TIM_BUF_STAT.count + i)).2 ∨ (c.bufAddr (c.rd TIM_BUF_STAT.count + i)).2 + 32 ≤ a

/-- Byte `a` of memory `m` (0 Tile memory, 1 the Vault) lies in no queue's middle (R301, R384). -/
def Core.outsideMiddles (c : Core) (m a : Nat) : Prop :=
  ∀ q < 128, c.rd QMG_Q_CFG.granules q ≠ 0 → m = (if c.part.vaultMB = 0 then 0 else 1) →
    a < c.rd QMG_Q_BASE.base q ∨ c.rd QMG_Q_BASE.base q + 4096 * c.rd QMG_Q_CFG.granules q ≤ a

/-- Byte `a` of memory `m` is none that the command's stamps and middle words may be written to (R231, R302). -/
def Core.beyondStores (c : Core) (i : Instr) (m a : Nat) : Prop :=
  (i.storesStamps = true → c.outsideStamps m a (c.tim.fifo.length + 1)) ∧ (i.storesMiddles = true → c.outsideMiddles m a)

/-- No error waits in the middle of queue `q`: it has none, or no Tile word is known bad or was written with inverted check bits,
and no injection is armed (R315, R321, R485). -/
abbrev Core.middleSound (c : Core) (q : Nat) : Prop :=
  c.middleLen q = 0 ∨ (c.memU.badT = [] ∧ c.memU.injT = none ∧ c.rd FLT_INJ_CFG.arm = 0)

/-- A queue after the controls that a drain selects, in R339's order: R305 on the words held. -/
def QueueU.controlled (x : QueueU) (rel rew mark : Bool) : QueueU :=
  let freed := fun (it : QItem) => rel && it.complete && decide (it.stop ≤ x.rp)
  let left := x.items.filter (fun it => !freed it)
  let kept := x.mark.filter (fun m => !x.items.any (fun it => freed it && decide (it.pos ≤ m ∧ m < it.stop)))
  let rp := if rew then kept.getD ((left.head?.map QItem.pos).getD x.rp) else x.rp
  let start := ((left.find? (fun it => decide (rp < it.stop))).map QItem.pos).getD rp
  { x with items := left, rp := rp, mark := if mark then some start else kept }

/-- The words that a drain returns from a read pointer `rp`, at most `left` of them, and where it leaves the pointer:
each item is read whole from the pointer on, or not at all (R304, R339). -/
def drainWords : Nat → Nat → List QItem → List Nat × Nat
  | rp, _, [] => ([], rp)
  | rp, left, it :: rest =>
    if it.stop ≤ rp then drainWords rp left rest else
    let w := it.words.drop (rp - it.pos)
    if left < w.length then ([], rp) else
    let y := drainWords it.stop (left - w.length) rest
    (w ++ y.1, y.2)

/-- The link of ToD pin `pin` has the credits of an item of `bytes`: one word and one per 15 bytes (R43, R46). -/
def Core.todRoom (c : Core) (pin : Nat) (bytes : List Byte) : Bool :=
  !(c.link (140 + pin)).resetPend && decide ((c.link (140 + pin)).used + 1 + (bytes.length + 14) / 15 ≤ linkPool (140 + pin))

/-- A write would change an RWE field of a register (R363). -/
def Core.changesRwe (c : Core) (r : RegRow) (be data : Nat) (i : Nat := 0) : Bool :=
  r.flds.any (fun f => f.acc = .rwe && decide (mergeField f (c.rd f i) be data ≠ c.rd f i))

/-- From `c` to `t` a register has been written while its enable was 1 (R363): its RWE fields are as they were, the other writable
ones from the data. -/
abbrev LockedWrite (c t : Core) (r : RegRow) (be data i : Nat) : Prop :=
  ∀ f ∈ r.flds, (f.acc = .rwe → t.rd f i = c.rd f i) ∧ (f.acc = .rw → t.rd f i = mergeField f (c.rd f i) be data)

/-- Nothing waits for the Mortar loader to be IDLE: Course does not, and no store is held (R400, R402). -/
abbrev NoneAsked (c : Core) : Prop := c.mtl.courseAsk = false ∧ c.rd MTL_STAT.pending_store = 0

/-- No packet waits and no burst runs at either port of the host link. -/
abbrev PortsIdle (c : Core) : Prop :=
  (c.port 0).rx = [] ∧ (c.port 1).rx = [] ∧ (c.port 0).burst = none ∧ (c.port 1).burst = none

/-- The enable of every unit reads 0. -/
abbrev Core.UnitsOff (c : Core) : Prop :=
  (∀ i < 24, c.rd REF_CFG.en i = 0) ∧ (∀ h < 12, c.rd CH_CFG.en h = 0) ∧ (∀ n < 4, c.rd SYN_CFG.en n = 0) ∧
  (∀ o < 24, c.rd OUT_CFG.en o = 0) ∧ (∀ a < 8, c.rd PAL_PA_CFG.en a = 0) ∧ c.rd TIM_CFG.en = 0 ∧
  (∀ n < 4, c.rd ETH_CFG.en n = 0) ∧ c.rd PTE_CFG.en = 0 ∧ (∀ q < 128, c.rd QMG_Q_CFG.en q = 0)

/-- Tile memory and the Vault are unchanged. -/
abbrev SameTiles (m n : Mem) : Prop := n.tile = m.tile ∧ n.vault = m.vault ∧ n.gens = m.gens

/-- The Firn front and the Mortar staging buffer are unchanged. -/
abbrev SameFront (m n : Mem) : Prop := n.firn = m.firn ∧ n.staged = m.staged

/-! ## CRC-32C by its polynomial (R335) -/

/-- One bit of a message taken into the remainder, most significant coefficient first, modulo 0x1EDC6F41. -/
def crcBit (r : BitVec 32) (b : Bool) : BitVec 32 := (r <<< 1) ^^^ (if r.msb != b then 0x1EDC6F41#32 else 0#32)

/-- The bits of a byte in reflected order, least significant first. -/
def byteBits (b : Byte) : List Bool := (List.range 8).map b.getLsbD

/-- CRC-32C as R335 defines it: reflected input and output, initial value and final XOR all ones. -/
def crcByRule (l : List Byte) : Nat :=
  (((l.flatMap byteBits).foldl crcBit (BitVec.allOnes 32)).reverse ^^^ BitVec.allOnes 32).toNat

/-! ## Accesses by address (R354 to R361) -/

/-- The page that an access by address reaches, by the register that an alias address names (R353, R365). -/
def busPage (a : Nat) : Nat := (if aliasAddr a then (aliasOf a).1 else a) / 65536

/-- The blocks that a write by address to a page may write, as `Instr.blocks` counts them; none where no bound is claimed: the
fault collector's page, the staged start's and the Mortar loader's. -/
def pageBlocks (p : Nat) : Option (List Nat) :=
  match p with
  | 2 | 3 | 4 => none
  | 1 => some [0, 1, 2, 4, 0x20, 0x27, 0x101, 0x102, 0x103]
  | 0x10 => some [0, 2, 4, 0x10, 0x11, 0x14, 0x15, 0x27, 0x102, 0x103]
  | 0x11 | 0x12 => some [0, 2, 3, 4, 0x11, 0x12, 0x15, 0x27, 0x102, 0x103]
  | 0x13 => some [0, 2, 3, 4, 0x11, 0x12, 0x13, 0x14, 0x15, 0x16, 0x20, 0x21, 0x22, 0x23, 0x24, 0x27, 0x101, 0x102, 0x103]
  | 0x14 => some [0, 2, 4, 0x13, 0x14, 0x15, 0x27, 0x102, 0x103]
  | 0x15 => some [0, 2, 4, 0x11, 0x14, 0x15, 0x27, 0x102, 0x103]
  | 0x16 => some [0, 2, 4, 0x16, 0x23, 0x24, 0x27, 0x101, 0x102, 0x103]
  | 0x20 => some [0, 2, 4, 0x20, 0x21, 0x27, 0x102, 0x103]
  | 0x21 => some [0, 2, 4, 0x10, 0x14, 0x15, 0x20, 0x21, 0x22, 0x24, 0x27, 0x102, 0x103]
  | 0x22 => some [0, 2, 4, 0x21, 0x22, 0x23, 0x24, 0x27, 0x101, 0x102, 0x103]
  | 0x23 => some [0, 2, 4, 0x23, 0x24, 0x27, 0x101, 0x102, 0x103]
  | 0x24 => some [0, 2, 3, 4, 0x16, 0x22, 0x23, 0x24, 0x27, 0x101, 0x102, 0x103]
  | 0x25 => some [0, 2, 4, 0x27, 0x101, 0x102, 0x103]
  | 0x26 => some [0, 2, 3, 4, 0x26, 0x27, 0x102, 0x103, 0x10000]
  | _ => some [0, 2, 4, 0x27, 0x102, 0x103]

/-- The register is one of those whose RW fields a write only stores: no rule of its block hangs on the write. -/
def RegRef.storesOnly (r : RegRef) : Bool :=
  match r.id with
  | .rs => r.row.off ≠ 0x18
  | .out => r.row.off ≠ 0
  | .glcG => r.row.off ≠ 0x34
  | _ => false

/-- The word of the register is stored: it is no data port and no shadow, reading it does not move it, and no word of it is latched
with it. -/
def RegRef.readsPlain (r : RegRef) : Bool :=
  !r.dataPort && !r.row.isH && !r.row.isL && r.id ≠ .hlk

/-! ## Copies of a TV field (R364) -/

/-- The three copies of a TV field. -/
def Core.tvCopies (c : Core) (f : Fld) (i k : Nat) : List Nat :=
  let a := c.rd f i k
  [a, Nat.xor a (c.tvB.get 0 (f.key i k)), Nat.xor a (c.tvC.get 0 (f.key i k))]

/-- A run that stops nowhere: every command of the queue in turn answers a next state. -/
def Safe (s : State) : Prop := ∃ t, step s = .next t

end Sys2Proof.Machine
end

