-- ==== Sys2Proof/Certificates/Slice0/Obligations.lean ====
section
/-! DEFINITION. The statements about the model, for the provers. Each says in its docstring which rules of the spec it rests
on; a choice of the model's own is named with its log entry. -/

open Sys2Proof Sys2Proof.Machine

/-- A step takes the command at the front of the queue and runs it on the state with the queue's rest; with no command
waiting it lets one clock period pass for device time and the modulators of the synthesisers (MODEL'S CHOICE, log entry 7). -/
def Obligations.StepTakesFront : Prop :=
  (∀ (s : State) (i : Instr) (rest : List Instr), s.pending = i :: rest → step s = exec i { s with pending := rest }) ∧
  (∀ s : State, s.pending = [] → step s = onCore Core.clockPeriod s)

/-- No command stops the part: each answers a next state, from every state, and leaves the waiting commands as they are. -/
def Obligations.EveryCommandAnswers : Prop :=
  ∀ (i : Instr) (s : State), Answers (exec i s) (fun t => t.pending = s.pending)

/-- Every memory of the part stays in its canonical form through every step. -/
def Obligations.MemoryFormKept : Prop :=
  ∀ s t : State, Memory.wf s.dev.mem = true → step s = .next t → Memory.wf t.dev.mem = true

/-- Nothing is in flight in a state between two commands: no byte waits to land in the Firn front, Tile memory or the Vault,
no store request waits to be judged, and the store engine rests only with a page under way, while a tally increment that has begun
completes, or with nothing to do. -/
def Obligations.NothingInFlightKept : Prop :=
  ∀ s t : State, s.dev.core.atRest = true → step s = .next t → t.dev.core.atRest = true

/-- The state after reset: both invariants hold, no command waits, the internal reset is held (R427), and the registers below have
the values that their tables give for the entry to Footing (R21).
The model's own choices and readings here: log entries 1 (DESIGN CHOICE), 2 (DESIGN CHOICE), 3 (DESIGN CHOICE). -/
def Obligations.StateAfterReset : Prop :=
  Memory.wf State.reset.dev.mem = true ∧ State.reset.dev.core.atRest = true ∧ State.reset.pending = [] ∧
  State.reset.dev.core.inReset = true ∧
  State.reset.dev.core.rd STG_STAT.stage = 1 ∧ State.reset.dev.core.rd STG_DT_STAT.master = 0xF ∧
  State.reset.dev.core.rd STG_DT_STAT.src = 0 ∧ State.reset.dev.core.rd STG_DT_STAT.set_pending = 0 ∧
  (∀ i : Fin 10, State.reset.dev.core.rd REF_ACC_LIM.lim i.val = 0x4D2CE ∧ State.reset.dev.core.rd REF_QUAL_CFG.wtr i.val = 300) ∧
  (∀ h : Fin 16, State.reset.dev.core.rd CH_STAT.state h.val = 0 ∧ State.reset.dev.core.rd CH_STAT.active h.val = 0x1F ∧
    State.reset.dev.core.rd CH_BW.bw h.val = 0x100000 ∧ State.reset.dev.core.rd GLC_TEMP.t h.val = 0x8000) ∧
  (∀ h : Fin 12, State.reset.dev.core.rd PAL_ROT_CFG.teeth h.val = 60) ∧
  (∀ n : Fin 4, State.reset.dev.core.rd SYN_LOCK_CFG.win n.val = 4 ∧ State.reset.dev.core.rd ETH_CFG.maxlen n.val = 0x2400 ∧
    State.reset.dev.core.rd PTE_PORT_STAT.state n.val = 1) ∧
  (∀ o : Fin 24, State.reset.dev.core.rd OUT_CFG.p_en o.val = 1) ∧
  (∀ a : Fin 8, State.reset.dev.core.rd PAL_PA_PERIOD.period a.val = 1000000000) ∧
  State.reset.dev.core.rd TIM_GATE_LEN.len = 1000000 ∧ State.reset.dev.core.rd TIM_STAT.state = 0 ∧
  (∀ q : Fin 128, State.reset.dev.core.rd QMG_Q_CFG.notice_en q.val = 1 ∧ State.reset.dev.core.rd QMG_Q_STAT.unread q.val = 0) ∧
  State.reset.dev.core.rd TMC_CTRL.banks = 0xFFFF ∧ State.reset.dev.core.rd VLT_CTRL.scrub_en = 1 ∧
  State.reset.dev.core.rd HLK_STAT.c0_free = 8 ∧ State.reset.dev.core.rd HLK_STAT.c1_free = 16 ∧
  State.reset.dev.core.rd MTL_STAT.state = 0 ∧ State.reset.dev.core.rd FRN_CFG.refresh_en = 1 ∧
  State.reset.dev.core.rd FRS_W_STAT.core_lost = 1 ∧ State.reset.dev.core.rdTv FLT_WDOG_CFG.period = 1000 ∧
  (∀ k : Fin 96, State.reset.dev.core.rdTv FLT_SRC_CFG.guard k.val = 0x2710)

/-- R418 and R427: while the internal reset is held, the host's packets do nothing at all, and a command of a block changes nothing
outside Firn's block with its hidden state, the three store marks, STG_FAB_DROP and TIM_DEAD_CNT, and no memory where nothing is in
flight.
The model's own choices and readings here: log entry 9 (DEDUCED). -/
def Obligations.HeldInReset : Prop :=
  (∀ (i : Instr) (s : State), i.fromHost = true → s.dev.core.inReset = true → exec i s = .next s) ∧
  (∀ (i : Instr) (s : State), i.fromHost = false → i.pastReset = false → s.dev.core.inReset = true →
    Answers (exec i s) fun t => t.dev.core.outside [] = s.dev.core.outside [] ∧ t.dev.core.inReset = true) ∧
  (∀ (i : Instr) (s : State), i.pastReset = false → s.dev.core.inReset = true → s.dev.core.atRest = true →
    Answers (exec i s) fun t => t.dev.mem = s.dev.mem)

/-- What a command that raises no fault may change (`Instr.blocks`, `Core.outside`): the registers and hidden state of its own blocks;
Firn's block with its hidden state and what waits to land in a memory; and the five words that any command may write. The host
link's queues are its own only where its blocks name the link or the queues, the items that wait (code 0x102), the latched and
staged words (0x103) and the counter of free values (0x101) only where they name the code. -/
def Obligations.BlockFrame : Prop :=
  ∀ (i : Instr) (s : State) (b : List Nat), i.blocks = some b → 2 ∉ b →
    Answers (exec i s) fun t => t.dev.core.outside b = s.dev.core.outside b

/-- What a command that may raise a fault may change: the same, with the fault collector's registers and hidden state among its
blocks (a fault record opens there, and leaves it only when it closes). -/
def Obligations.FaultingBlockFrame : Prop :=
  ∀ (i : Instr) (s : State) (b : List Nat), i.blocks = some b → 2 ∈ b →
    Answers (exec i s) fun t => t.dev.core.outside b = s.dev.core.outside b

/-- What a write by address may change (`pageBlocks`, `Core.outside`): the blocks of the page that it reaches, those of bus errors
and refusals, the executor's staged words and what it keeps while it waits; R353 gives each block its page. -/
def Obligations.AddressFrame : Prop :=
  ∀ (i : Instr) (s : State) (ex : Fin 4) (addr : BitVec 32) (be : BitVec 4) (data : BitVec 32) (hw : Bool) (b : List Nat),
    i = .registerWrite ex addr be (data, hw) ∨ i = .bitAliasWrite ex addr be data → pageBlocks (busPage addr.toNat) = some b →
    Answers (exec i s) fun t => t.dev.core.outside b = s.dev.core.outside b

/-- What a command does to the memories, from a state with nothing in flight: most touch no byte; of those that store, each
clause names the bytes that may change.
The model's own choices and readings here: log entry 6 (DESIGN CHOICE). -/
def Obligations.MemoryFrame : Prop :=
  (∀ (i : Instr) (s : State), i.keepsMemory = true → s.dev.core.atRest = true →
    Answers (exec i s) fun t => t.dev.mem = s.dev.mem) ∧
  (∀ (i : Instr) (s : State), i ≠ .pageStored false → i ≠ .pageStored true →
    Answers (exec i s) fun t => t.dev.mem.shadowA = s.dev.mem.shadowA ∧ t.dev.mem.shadowB = s.dev.mem.shadowB) ∧
  (∀ (i : Instr) (s : State) (a : Nat), i.storesModel = true → s.dev.core.atRest = true →
    a / 1024 ≠ s.dev.core.rd GLC_STORE_CFG.page → a / 1024 ≠ s.dev.core.rd GLC_STORE_CFG.page + 1 →
    Answers (exec i s) fun t => SameTiles s.dev.mem t.dev.mem ∧ t.dev.mem.staged = s.dev.mem.staged ∧
      t.dev.mem.firn.get 0#8 a = s.dev.mem.firn.get 0#8 a) ∧
  (∀ (i : Instr) (s : State), i.worksStore = true → s.dev.core.atRest = true →
    Answers (exec i s) fun t => SameTiles s.dev.mem t.dev.mem ∧ SameFront s.dev.mem t.dev.mem) ∧
  (∀ (i : Instr) (s : State) (k : Fin 32) (b : Bool) (a : Nat), i = .storeRetry ∨ i = .frnStoreAbort b ∨ i = .tallyIncDone k → s.dev.core.atRest = true →
    a / 1024 ≠ 128 ∨ s.dev.core.firnU.dirNew = none →
    Answers (exec i s) fun t => SameTiles s.dev.mem t.dev.mem ∧ t.dev.mem.staged = s.dev.mem.staged ∧
      t.dev.mem.firn.get 0#8 a = s.dev.mem.firn.get 0#8 a) ∧
  (∀ (s : State) (fail : Bool) (x : StoreRun) (p a : Nat), s.dev.core.atRest = true → s.dev.core.firnU.run = some x →
    x.page = some p → a / 1024 ≠ p →
    Answers (exec (.pageStored fail) s) fun t => SameTiles s.dev.mem t.dev.mem ∧ t.dev.mem.staged = s.dev.mem.staged ∧
      (a / 1024 ≠ 128 ∨ s.dev.core.firnU.dirNew = none → t.dev.mem.firn.get 0#8 a = s.dev.mem.firn.get 0#8 a) ∧
      t.dev.mem.shadowA.get 0#8 a = s.dev.mem.shadowA.get 0#8 a ∧
      t.dev.mem.shadowB.get 0#8 a = s.dev.mem.shadowB.get 0#8 a) ∧
  (∀ (i : Instr) (s : State) (a : Nat), i.storesStamps = true ∨ i.storesMiddles = true → s.dev.core.atRest = true →
    Answers (exec i s) fun t => SameFront s.dev.mem t.dev.mem ∧ t.dev.mem.gens = s.dev.mem.gens ∧
      (s.dev.core.beyondStores i 0 a → t.dev.mem.tile.get none a = s.dev.mem.tile.get none a) ∧
      (s.dev.core.beyondStores i 1 a → t.dev.mem.vault.get none a = s.dev.mem.vault.get none a)) ∧
  (∀ (s : State) (p : Fin 2) (cls : Fin 4) (tag : BitVec 16) (tgt : BitVec 8) (off : BitVec 32) (data : List Byte) (a : Nat),
    s.dev.core.atRest = true → PortsIdle s.dev.core → (a < off.toNat ∨ off.toNat + data.length ≤ a) →
    Answers (exec (.bulkWrite p cls tag tgt off data) s) fun t =>
      t.dev.mem.staged.get 0#8 a = s.dev.mem.staged.get 0#8 a ∧ t.dev.mem.firn.get 0#8 a = s.dev.mem.firn.get 0#8 a ∧
      t.dev.mem.tile.get none a = s.dev.mem.tile.get none a ∧ t.dev.mem.vault = s.dev.mem.vault ∧
      t.dev.mem.gens = s.dev.mem.gens) ∧
  (∀ (s : State) (n : Fin 4) (busy : Nat) (wr late : Bool) (x : IndAcc) (a : Nat), s.dev.core.atRest = true →
    PortsIdle s.dev.core → s.dev.core.exHeld = [] → s.dev.core.inds.get {} n.val = { acc := some x } → (a < x.addr ∨ x.addr + 4 ≤ a) →
    Answers (exec (.indAccessDone n busy wr late) s) fun t =>
      t.dev.mem.firn.get 0#8 a = s.dev.mem.firn.get 0#8 a ∧ t.dev.mem.tile.get none a = s.dev.mem.tile.get none a ∧
      t.dev.mem.vault = s.dev.mem.vault ∧ t.dev.mem.gens = s.dev.mem.gens ∧ t.dev.mem.staged = s.dev.mem.staged) ∧
  (∀ (s : State) (fails : List (Nat × Nat × Nat)) (a : Nat), s.dev.core.atRest = true → PortsIdle s.dev.core →
    bitOf s.dev.core.memU.tBanks (a / 131072) = false →
    (s.dev.core.memU.tWait.all fun w => w.2.all fun b => decide (b.1 ≠ a)) = true →
    Answers (exec (.tileTestDone fails) s) fun t => SameFront s.dev.mem t.dev.mem ∧ t.dev.mem.vault = s.dev.mem.vault ∧
      t.dev.mem.tile.get none a = s.dev.mem.tile.get none a) ∧
  (∀ (i : Instr) (s : State) (confirm : BitVec 16) (a : Nat), s.dev.core.atRest = true → a / 1024 ≠ 129 →
    i = .provision confirm ∨ i = .policy confirm ∨ i = .zeroise confirm →
    Answers (exec i s) fun t => SameTiles s.dev.mem t.dev.mem ∧ t.dev.mem.staged = s.dev.mem.staged ∧
      t.dev.mem.firn.get 0#8 a = s.dev.mem.firn.get 0#8 a) ∧
  (∀ (s : State) (a : Nat), s.dev.core.atRest = true → NoneAsked s.dev.core → a / 1024 ≠ 128 →
    Answers (exec .slotStored s) fun t => SameTiles s.dev.mem t.dev.mem ∧ t.dev.mem.staged = s.dev.mem.staged ∧
      t.dev.mem.firn.get 0#8 a = s.dev.mem.firn.get 0#8 a) ∧
  (∀ (s : State) (fails : List (Nat × Nat × Nat)), s.dev.core.atRest = true →
    Answers (exec (.courseMarchDone fails) s) fun t => SameFront s.dev.mem t.dev.mem ∧ t.dev.mem.vault = s.dev.mem.vault) ∧
  (∀ (s : State), s.dev.core.atRest = true →
    Answers (exec .vaultTrained s) fun t => SameFront s.dev.mem t.dev.mem ∧ (t.dev.mem.vault = s.dev.mem.vault ∨
      t.dev.mem.vault = []))

/-- R335: the trailer of every packet is the CRC-32C of its header and payload, least significant byte first. -/
def Obligations.PacketTrailer : Prop :=
  (∀ l : List Byte, crc32c l = crcByRule l) ∧
  (∀ (kind cls op tag st credits : Nat) (more c0 : Bool) (payload : List Byte),
    ∃ hdr : List Byte, hdr.length = 8 ∧
      packet kind cls op tag st credits more c0 payload = hdr ++ payload ++ bytesLE 4 (crcByRule (hdr ++ payload))) ∧
  crcByRule ("123456789".toList.map fun ch => BitVec.ofNat 8 ch.toNat) = 0xE3069283

/-- R364: a TV field is held in three copies; a read is their bitwise majority, and a write stores the value in all three. -/
def Obligations.TvCopies : Prop :=
  (∀ (c : Core) (f : Fld) (i k b : Nat), (c.tvCopies f i k).length = 3 ∧
    (c.rdTv f i k).testBit b = decide (2 ≤ ((c.tvCopies f i k).filter (fun x => x.testBit b)).length)) ∧
  (∀ (c : Core) (f : Fld) (v i k : Nat), (c.wrTv f v i k).tvCopies f i k = List.replicate 3 (v % 2 ^ f.width)) ∧
  (∀ (c : Core) (f : Fld) (v i k : Nat), (c.wrTv f v i k).rdTv f i k = v % 2 ^ f.width)

/-- R39 and R41: a commit of a whole second waits for a rollover, and device time takes it there; a rollover carries device
time to the start of the next second; the load takes Frost time at the subsecond tick, with 2,000,000,000 phase units a tick. -/
def Obligations.DeviceTimeLabels : Prop :=
  (∀ (s : State) (ex : Fin 4) (hi : BitVec 16) (cycle : Bool), Running s → s.dev.core.indWaits ex.val = false →
    Answers (exec (.dtSetCommit ex hi cycle) s) fun t =>
      t.dev.core.setPend = some (s.dev.core.staged ex.val (STG_DT_SET_LO.set_lo.addr 0 0) + hi.toNat * 2 ^ 32) ∧
      t.dev.core.rd STG_DT_STAT.set_pending = 1 ∧ t.dev.core.setSkip = cycle ∧ t.dev.core.dt = s.dev.core.dt) ∧
  (∀ s : State, Running s → s.dev.core.rd STG_DT_STAT.src ≠ srcUnset → s.dev.core.setPend = none →
    Answers (exec .nanosecondRollover s) fun t => t.dev.core.dt = (s.dev.core.sec + 1) * secDt) ∧
  (∀ (s : State) (v : Nat), Running s → s.dev.core.rd STG_DT_STAT.src ≠ srcUnset → s.dev.core.setPend = some v →
    Answers (exec .wholeSecondChange s) fun t =>
      t.dev.core.dt = v * secDt ∧ t.dev.core.setPend = none ∧ t.dev.core.rd STG_DT_STAT.set_pending = 0) ∧
  (∀ (s : State) (sub : BitVec 15), Running s → s.dev.core.rd STG_STAT.stage = 2 → s.dev.core.rd STG_STAT.step = 2 →
    s.dev.core.pclk = true →
    Answers (exec (.deviceTimeLoad sub) s) fun t =>
      t.dev.core.dt = ((s.dev.core.rd FRS_W_SEC_LO.sec_lo + s.dev.core.rd FRS_W_SEC_HI.sec_hi * 2 ^ 32) * secPU +
        sub.toNat * 2000000000) * 2 ^ 32 ∧
      t.dev.core.rd STG_STAT.step = 3 ∧ t.dev.core.rd STG_DT_STAT.src ≠ srcUnset)

/-- R42 and R47: a returned credit raises the producer's counter by one; one too many, or a parity error, is a link error, which
STG_FAB_ERR records and counts, raises FS43 and asks for the counters' reset; the reset takes them back to the pool. R51: an activity
that has not completed its period sets its starvation bit and raises FS44.
The model's own choices and readings here: log entry 115 (DEDUCED). -/
def Obligations.CreditLinks : Prop :=
  (∀ (s : State) (k : Fin 256) (u : Nat), Running s → s.dev.core.part.hasLink k.val = true →
    (k.val < 136 → s.dev.core.pclk = true) → (s.dev.core.link k.val).used = u + 1 →
    (s.dev.core.queue k.val).wait = [] → (132 ≤ k.val → (s.dev.core.lane (k.val - 132)).prod = []) →
    Answers (exec (.creditReturn k) s) fun t =>
      (t.dev.core.link k.val).used = u ∧
      t.dev.core.rd STG_FAB_ERR.count = s.dev.core.rd STG_FAB_ERR.count) ∧
  (∀ (s : State) (k : Fin 256), Running s → s.dev.core.part.hasLink k.val = true →
    (k.val < 136 → s.dev.core.pclk = true) → (s.dev.core.link k.val).used = 0 →
    Answers (exec (.creditReturn k) s) fun t =>
      t.dev.core.rd STG_FAB_ERR.over_return = 1 ∧ t.dev.core.rd STG_FAB_ERR.valid = 1 ∧
      (t.dev.core.link k.val).resetPend = true) ∧
  (∀ (s : State) (k : Fin 256) (i : Instr) (parity : Bool), s.dev.core.part.hasLink k.val = false →
    i = .creditReturn k ∨ i = .linkError k parity →
    Answers (exec i s) fun t => t.dev.core.outside [] = s.dev.core.outside []) ∧
  (∀ (s : State) (k : Fin 256) (parity : Bool), Running s → s.dev.core.part.hasLink k.val = true →
    Answers (exec (.linkError k parity) s) fun t =>
      t.dev.core.rd STG_FAB_ERR.valid = 1 ∧ t.dev.core.rd STG_FAB_ERR.count = min 255 (s.dev.core.rd STG_FAB_ERR.count + 1) ∧
      (parity = true → t.dev.core.rd STG_FAB_ERR.parity = 1) ∧
      (parity = false → t.dev.core.rd STG_FAB_ERR.over_return = 1) ∧
      (t.dev.core.link k.val).resetPend = true ∧ bitOf (t.dev.core.rd FLT_RAW.hit 0 1) 11 = true) ∧
  (∀ (s : State) (k : Fin 256), Running s → (s.dev.core.link k.val).resetPend = true → (k.val < 136 → s.dev.core.pclk = true) →
    (128 ≤ k.val ∨ (s.dev.core.queue k.val).linkQ = []) → (132 ≤ k.val → (s.dev.core.lane (k.val - 132)).prod = []) →
    Answers (exec (.linkCounterReset k) s) fun t => t.dev.core.link k.val = {}) ∧
  (∀ (s : State) (a : Fin 5), Running s →
    Answers (exec (.bgStarved a) s) fun t =>
      t.dev.core.rd (starveFld a.val) = 1 ∧ bitOf (t.dev.core.rd FLT_RAW.hit 0 1) 12 = true ∧
      t.dev.core.dt = s.dev.core.dt)

/-- R73, R102, R192, R203, R209, R225, R246, R265 and R363: a full-word write of a configuration register of a unit whose enable
is 0 and that no image application holds takes every writable field from the data. -/
def Obligations.ConfigurationWrites : Prop :=
  (∀ (s : State) (i : Fin 24) (data : BitVec 32), Running s → i.val < 16 → s.dev.core.rd REF_CFG.en i.val = 0 →
    s.dev.core.mtl.heldKeys = [] →
    Answers (exec (.refCfgWrite i 15 data) s) fun t =>
      t.dev.core.rd REF_CFG.en i.val = bits data.toNat 31 31 ∧ t.dev.core.rd REF_CFG.recMode i.val = bits data.toNat 11 10 ∧
      t.dev.core.rd REF_CFG.ctype i.val = bits data.toNat 9 9 ∧ t.dev.core.rd REF_CFG.leg i.val = bits data.toNat 8 8 ∧
      t.dev.core.rd REF_CFG.term i.val = bits data.toNat 7 6 ∧ t.dev.core.rd REF_CFG.edge i.val = bits data.toNat 4 4 ∧
      t.dev.core.rd REF_CFG.mode i.val = bits data.toNat 2 0) ∧
  (∀ (s : State) (h : Fin 12) (data : BitVec 32), Running s → h.val < s.dev.core.part.nCh →
    s.dev.core.rd CH_CFG.en h.val = 0 → s.dev.core.mtl.heldKeys = [] → s.dev.core.rd CH_STEER.syn h.val = 0 →
    s.dev.core.isMaster h.val = false →
    Answers (exec (.chCfgWrite h 15 data) s) fun t =>
      t.dev.core.rd CH_CFG.en h.val = bits data.toNat 31 31 ∧ t.dev.core.rd CH_CFG.kind h.val = bits data.toNat 30 30 ∧
      t.dev.core.rd CH_CFG.ctype h.val = bits data.toNat 29 29 ∧ t.dev.core.rd CH_CFG.policy h.val = bits data.toNat 28 28 ∧
      t.dev.core.rd CH_CFG.ens_en h.val = bits data.toNat 27 27) ∧
  (∀ (s : State) (n : Fin 4) (data : BitVec 32), Running s → n.val < s.dev.core.part.nSyn →
    s.dev.core.rd SYN_CFG.en n.val = 0 → s.dev.core.mtl.heldKeys = [] →
    Answers (exec (.synCfgWrite n 15 data) s) fun t =>
      t.dev.core.rd SYN_CFG.en n.val = bits data.toNat 31 31 ∧ t.dev.core.rd SYN_CFG.auto_ret n.val = bits data.toNat 29 29 ∧
      t.dev.core.rd SYN_CFG.sec_align n.val = bits data.toNat 28 28) ∧
  (∀ (s : State) (o : Fin 24) (data : BitVec 32), Running s → o.val < s.dev.core.part.nOut →
    s.dev.core.rd OUT_CFG.en o.val = 0 → s.dev.core.mtl.heldKeys = [] → bits data.toNat 30 28 < 5 →
    (bits data.toNat 30 28 = 3 → s.dev.core.bankLow (o.val / 6) = false) →
    Answers (exec (.outCfgWrite o 15 data) s) fun t =>
      t.dev.core.rd OUT_CFG.en o.val = bits data.toNat 31 31 ∧ t.dev.core.rd OUT_CFG.std o.val = bits data.toNat 30 28 ∧
      t.dev.core.rd OUT_CFG.p_en o.val = bits data.toNat 27 27 ∧ t.dev.core.rd OUT_CFG.n_en o.val = bits data.toNat 26 26 ∧
      t.dev.core.rd OUT_CFG.n_inv o.val = bits data.toNat 25 25 ∧ t.dev.core.rd OUT_CFG.drive o.val = bits data.toNat 24 23 ∧
      t.dev.core.rd OUT_CFG.hiz o.val = bits data.toNat 22 22 ∧ t.dev.core.rd OUT_CFG.byp_src o.val = bits data.toNat 21 20 ∧
      t.dev.core.rd OUT_CFG.force_byp o.val = bits data.toNat 19 19) ∧
  (∀ (s : State) (a : Fin 8) (data : BitVec 32), Running s → s.dev.core.rd PAL_PA_CFG.en a.val = 0 →
    s.dev.core.todHolder 0 = none → s.dev.core.todHolder 1 = none →
    Answers (exec (.palPaCfgWrite a 15 data) s) fun t =>
      t.dev.core.rd PAL_PA_CFG.en a.val = bits data.toNat 31 31 ∧ t.dev.core.rd PAL_PA_CFG.mode a.val = bits data.toNat 30 29 ∧
      t.dev.core.rd PAL_PA_CFG.src a.val = bits data.toNat 28 24 ∧ t.dev.core.rd PAL_PA_CFG.pol a.val = bits data.toNat 23 23 ∧
      t.dev.core.rd PAL_PA_CFG.tod_en a.val = bits data.toNat 22 22 ∧
      t.dev.core.rd PAL_PA_CFG.tod_pin a.val = bits data.toNat 21 21 ∧
      t.dev.core.rd PAL_PA_CFG.baud a.val = bits data.toNat 20 18 ∧
      (bits data.toNat 22 22 = 1 → t.dev.core.todHolder (bits data.toNat 21 21) = some a.val)) ∧
  (∀ (s : State) (data : BitVec 32), Running s → s.dev.core.estRun = true → s.dev.core.rd TIM_CFG.en = 0 →
    s.dev.core.mtl.heldKeys = [] →
    Answers (exec (.timCfgWrite 15 data) s) fun t =>
      t.dev.core.rd TIM_CFG.en = bits data.toNat 31 31 ∧ t.dev.core.rd TIM_CFG.mode = bits data.toNat 30 29 ∧
      t.dev.core.rd TIM_CFG.tbase = bits data.toNat 28 28 ∧ t.dev.core.rd TIM_CFG.gate_src = bits data.toNat 27 26 ∧
      t.dev.core.rd TIM_CFG.gate_pol = bits data.toNat 25 25 ∧ t.dev.core.rd TIM_CFG.rep = bits data.toNat 24 24 ∧
      t.dev.core.rd TIM_CFG.stamp_q = bits data.toNat 23 23 ∧ t.dev.core.rd TIM_CFG.cal_hold = bits data.toNat 22 22 ∧
      t.dev.core.rd TIM_CFG.start_edge = bits data.toNat 21 21 ∧ t.dev.core.rd TIM_CFG.stop_edge = bits data.toNat 20 20) ∧
  (∀ (s : State) (n : Fin 4) (data : BitVec 32), Running s → n.val < s.dev.core.part.nLane →
    s.dev.core.rd ETH_CFG.en n.val = 0 → s.dev.core.mtl.heldKeys = [] →
    Answers (exec (.ethCfgWrite n 15 data) s) fun t =>
      t.dev.core.rd ETH_CFG.en n.val = bits data.toNat 31 31 ∧ t.dev.core.rd ETH_CFG.mode n.val = bits data.toNat 30 29 ∧
      t.dev.core.rd ETH_CFG.an_en n.val = bits data.toNat 28 28 ∧
      t.dev.core.rd ETH_CFG.maxlen n.val = bits data.toNat 13 0) ∧
  (∀ (s : State) (n : Fin 4) (data : BitVec 32), Running s → n.val < s.dev.core.part.nLane →
    Answers (exec (.ethLoopWrite n 15 data) s) fun t =>
      t.dev.core.rd ETH_LOOP.side n.val = bits data.toNat 8 8 ∧ t.dev.core.rd ETH_LOOP.depth n.val = bits data.toNat 1 0)

/-- R363: while the enable reads 1 a write that would change any RWE field leaves every RWE field of the register as it was, writes
its other writable fields, and is recorded in the block's CFG_REJECT; a write of the values that the RWE fields hold writes the
register and is no refusal. -/
def Obligations.EnableLock : Prop :=
  (∀ (s : State) (i : Fin 24) (be : BitVec 4) (data : BitVec 32), Running s →
    s.dev.core.part.absentAt (REF_CFG.en.addr i.val 0) = false → be ≠ 0 → s.dev.core.rd REF_CFG.en i.val = 1 →
    Answers (exec (.refCfgWrite i be data) s) fun t =>
      LockedWrite s.dev.core t.dev.core REF_CFG.row be.toNat data.toNat i.val ∧
      t.dev.core.rd REF_CFG_REJECT.valid i.val =
        if i.val < 16 ∧ s.dev.core.changesRwe REF_CFG.row be.toNat data.toNat i.val = true then 1
        else s.dev.core.rd REF_CFG_REJECT.valid i.val) ∧
  (∀ (s : State) (h : Fin 12) (be : BitVec 4) (data : BitVec 32), Running s → h.val < s.dev.core.part.nCh → be ≠ 0 →
    s.dev.core.rd CH_CFG.en h.val = 1 →
    Answers (exec (.chCfgWrite h be data) s) fun t =>
      LockedWrite s.dev.core t.dev.core CH_CFG.row be.toNat data.toNat h.val ∧
      t.dev.core.rd CH_CFG_REJECT.valid h.val = if s.dev.core.changesRwe CH_CFG.row be.toNat data.toNat h.val then 1
        else s.dev.core.rd CH_CFG_REJECT.valid h.val) ∧
  (∀ (s : State) (h : Fin 12) (be : BitVec 4) (data : BitVec 32), Running s → h.val < s.dev.core.part.nCh → be ≠ 0 →
    s.dev.core.rd GLC_MDL_CFG.learn_en h.val = 1 →
    Answers (exec (.glcMdlCfgWrite h be data) s) fun t =>
      LockedWrite s.dev.core t.dev.core GLC_MDL_CFG.row be.toNat data.toNat h.val ∧
      t.dev.core.rd GLC_CFG_REJECT.valid h.val = if s.dev.core.changesRwe GLC_MDL_CFG.row be.toNat data.toNat h.val then 1
        else s.dev.core.rd GLC_CFG_REJECT.valid h.val) ∧
  (∀ (s : State) (o : Fin 24) (be : BitVec 4) (data : BitVec 32), Running s → o.val < s.dev.core.part.nOut → be ≠ 0 →
    s.dev.core.rd OUT_CFG.en o.val = 1 →
    (s.dev.core.changesRwe OUT_CFG.row be.toNat data.toNat o.val = true ∨ s.dev.core.rd OUT_CFG.std o.val < 5 ∧
      (s.dev.core.rd OUT_CFG.std o.val = 3 → s.dev.core.bankLow (o.val / 6) = false)) →
    Answers (exec (.outCfgWrite o be data) s) fun t =>
      LockedWrite s.dev.core t.dev.core OUT_CFG.row be.toNat data.toNat o.val ∧
      t.dev.core.rd OUT_CFG_REJECT.valid o.val = if s.dev.core.changesRwe OUT_CFG.row be.toNat data.toNat o.val then 1
        else s.dev.core.rd OUT_CFG_REJECT.valid o.val) ∧
  (∀ (s : State) (a : Fin 8) (be : BitVec 4) (data : BitVec 32), Running s → be ≠ 0 → s.dev.core.rd PAL_PA_CFG.en a.val = 1 →
    (s.dev.core.changesRwe PAL_PA_CFG.row be.toNat data.toNat a.val = true ∨ s.dev.core.rd PAL_PA_CFG.tod_en a.val = 0) →
    Answers (exec (.palPaCfgWrite a be data) s) fun t =>
      LockedWrite s.dev.core t.dev.core PAL_PA_CFG.row be.toNat data.toNat a.val ∧
      t.dev.core.rd PAL_PA_CFG_REJECT.valid a.val = if s.dev.core.changesRwe PAL_PA_CFG.row be.toNat data.toNat a.val then 1
        else s.dev.core.rd PAL_PA_CFG_REJECT.valid a.val) ∧
  (∀ (s : State) (be : BitVec 4) (data : BitVec 32), Running s → s.dev.core.estRun = true → be ≠ 0 →
    s.dev.core.rd TIM_CFG.en = 1 →
    Answers (exec (.timCfgWrite be data) s) fun t =>
      LockedWrite s.dev.core t.dev.core TIM_CFG.row be.toNat data.toNat 0 ∧
      t.dev.core.rd TIM_CFG_REJECT.valid = if s.dev.core.changesRwe TIM_CFG.row be.toNat data.toNat then 1
        else s.dev.core.rd TIM_CFG_REJECT.valid) ∧
  (∀ (s : State) (n : Fin 4) (be : BitVec 4) (data : BitVec 32), Running s → n.val < s.dev.core.part.nLane → be ≠ 0 →
    s.dev.core.rd ETH_CFG.en n.val = 1 →
    Answers (exec (.ethCfgWrite n be data) s) fun t =>
      LockedWrite s.dev.core t.dev.core ETH_CFG.row be.toNat data.toNat n.val ∧
      t.dev.core.rd ETH_CFG_REJECT.valid n.val = if s.dev.core.changesRwe ETH_CFG.row be.toNat data.toNat n.val then 1
        else s.dev.core.rd ETH_CFG_REJECT.valid n.val)

/-- R34, R304, R305 and R307: what the host does to a queue. A read gives the word at the read pointer, wherever in its item that
lies, and moves the pointer on by one word; of an empty queue it gives zeros and moves nothing. Mark, rewind, release and flush as
R305 and R307 say. Release and the read of a word are stated where no error waits in the queue's middle (`Core.middleSound`). -/
def Obligations.QueueCommands : Prop :=
  (∀ (s : State) (q : Fin 128), Running s → s.dev.core.pclk = true →
    (s.dev.core.queue q.val).items.all (fun it => decide (it.stop ≤ (s.dev.core.queue q.val).rp)) = true →
    Answers (exec (.mark q) s) fun t =>
      (t.dev.core.queue q.val).mark = some (s.dev.core.queue q.val).rp ∧ t.dev.core.rd QMG_Q_STAT.mark_valid q.val = 1 ∧
      (t.dev.core.queue q.val).items = (s.dev.core.queue q.val).items) ∧
  (∀ (s : State) (q : Fin 128) (before after : List QItem) (it : QItem), Running s → s.dev.core.pclk = true →
    (s.dev.core.queue q.val).items = before ++ it :: after →
    before.all (fun j => decide (j.stop ≤ (s.dev.core.queue q.val).rp)) = true → (s.dev.core.queue q.val).rp < it.stop →
    Answers (exec (.mark q) s) fun t =>
      (t.dev.core.queue q.val).mark = some it.pos ∧ t.dev.core.rd QMG_Q_STAT.mark_valid q.val = 1 ∧
      (t.dev.core.queue q.val).rp = (s.dev.core.queue q.val).rp ∧
      (t.dev.core.queue q.val).items = (s.dev.core.queue q.val).items) ∧
  (∀ (s : State) (q : Fin 128) (m : Nat), Running s → s.dev.core.pclk = true → (s.dev.core.queue q.val).mark = some m →
    Answers (exec (.rewind q) s) fun t =>
      (t.dev.core.queue q.val).rp = m ∧ (t.dev.core.queue q.val).items = (s.dev.core.queue q.val).items) ∧
  (∀ (s : State) (q : Fin 128) (it : QItem) (rest : List QItem), Running s → s.dev.core.pclk = true →
    (s.dev.core.queue q.val).mark = none →
    (s.dev.core.queue q.val).items = it :: rest →
    Answers (exec (.rewind q) s) fun t => (t.dev.core.queue q.val).rp = it.pos) ∧
  (∀ (s : State) (q : Fin 128), Running s → s.dev.core.pclk = true → s.dev.core.middleSound q.val →
    Answers (exec (.release q) s) fun t =>
      (t.dev.core.queue q.val).items =
        (s.dev.core.queue q.val).items.filter (fun it => !(it.complete && decide (it.stop ≤ (s.dev.core.queue q.val).rp))) ∧
      (t.dev.core.queue q.val).rp = (s.dev.core.queue q.val).rp) ∧
  (∀ (s : State) (q : Fin 128) (m : Nat), Running s → s.dev.core.pclk = true → s.dev.core.middleSound q.val →
    (s.dev.core.queue q.val).mark = some m →
    (s.dev.core.queue q.val).items.any (fun it =>
      it.complete && decide (it.stop ≤ (s.dev.core.queue q.val).rp ∧ it.pos ≤ m ∧ m < it.stop)) = true →
    Answers (exec (.release q) s) fun t =>
      (t.dev.core.queue q.val).mark = none ∧ t.dev.core.rd QMG_Q_STAT.mark_valid q.val = 0 ∧
      t.dev.core.rd QMG_Q_EVENT.mark_lost q.val = 1) ∧
  (∀ (s : State) (q : Fin 128) (m : Nat), Running s → s.dev.core.pclk = true → s.dev.core.middleSound q.val →
    (s.dev.core.queue q.val).mark = some m →
    (s.dev.core.queue q.val).items.any (fun it =>
      it.complete && decide (it.stop ≤ (s.dev.core.queue q.val).rp ∧ it.pos ≤ m ∧ m < it.stop)) = false →
    Answers (exec (.release q) s) fun t =>
      (t.dev.core.queue q.val).mark = some m ∧ t.dev.core.rd QMG_Q_STAT.mark_valid q.val = 1 ∧
      t.dev.core.rd QMG_Q_EVENT.mark_lost q.val = s.dev.core.rd QMG_Q_EVENT.mark_lost q.val) ∧
  (∀ (s : State) (q : Fin 128), Running s → s.dev.core.pclk = true →
    Answers (exec (.flush q) s) fun t =>
      (t.dev.core.queue q.val).items = [] ∧ (t.dev.core.queue q.val).mark = none ∧
      (t.dev.core.queue q.val).rp = (s.dev.core.queue q.val).nextPos ∧ t.dev.core.rd QMG_Q_STAT.unread q.val = 0) ∧
  (∀ (s : State) (q : Fin 128) (ex : Fin 4) (before after : List QItem) (it : QItem), Running s → s.dev.core.pclk = true →
    s.dev.core.indWaits ex.val = false →
    (s.dev.core.queue q.val).items = before ++ it :: after →
    before.all (fun j => decide (j.stop ≤ (s.dev.core.queue q.val).rp)) = true → (s.dev.core.queue q.val).rp < it.stop →
    it.flaw = none → s.dev.core.middleSound q.val → s.dev.core.readable (s.dev.core.queue q.val) it = true →
    Answers (exec (.queueRead q ex) s) fun t =>
      (t.dev.core.queue q.val).rp = max (s.dev.core.queue q.val).rp it.pos + 1 ∧
      (t.dev.core.queue q.val).items = (s.dev.core.queue q.val).items ∧
      (∀ k < 3, t.dev.core.shadow.get 0 (exKey ex.val (QMG_Q_DATA1.w1.addr q.val k)) =
        bits (it.words.getD (max (s.dev.core.queue q.val).rp it.pos - it.pos) 0) (32 * k + 63) (32 * k + 32))) ∧
  (∀ (s : State) (q : Fin 128) (ex : Fin 4), Running s → s.dev.core.pclk = true → s.dev.core.indWaits ex.val = false →
    (s.dev.core.queue q.val).nextItem.all (fun it => !s.dev.core.readable (s.dev.core.queue q.val) it) = true →
    Answers (exec (.queueRead q ex) s) fun t =>
      t.dev.core.queue q.val = s.dev.core.queue q.val ∧
      (∀ k < 3, t.dev.core.shadow.get 0 (exKey ex.val (QMG_Q_DATA1.w1.addr q.val k)) = 0)) ∧
  (∀ (s : State) (q : Fin 128) (ex : Fin 4), Running s → s.dev.core.pclk = false → s.dev.core.indWaits ex.val = false →
    Answers (exec (.queueRead q ex) s) fun t =>
      t.dev.core.queue q.val = s.dev.core.queue q.val ∧ t.dev.core.shadow = s.dev.core.shadow ∧
      t.dev.core.rd IDB_BUSERR_STAT.count = min (2 ^ IDB_BUSERR_STAT.count.width - 1) (s.dev.core.rd IDB_BUSERR_STAT.count + 1) ∧
      bitOf (t.dev.core.rd FLT_RAW.hit 0 1) 15 = true) ∧
  (∀ (s : State) (q : Fin 128) (i : Instr), s.dev.core.pclk = false →
    i = .mark q ∨ i = .rewind q ∨ i = .release q ∨ i = .flush q ∨ i = .queueWordEnter q ∨
      i = .itemReadable q ∨ i = .staleWinEnd q →
    Answers (exec i s) fun t => t.dev.core.outside [] = s.dev.core.outside [])

/-- R299, R302, R305 and R309: items start, enter the tail word by word, become readable once complete, and the stale window
ends.
The model's own choices and readings here: log entries 56 (DEDUCED), 57 (DEDUCED). -/
def Obligations.QueueTail : Prop :=
  (∀ (s : State) (q : Fin 128) (it : Item) (rest : List Item), Running s → s.dev.core.pclk = true →
    (s.dev.core.queue q.val).wait = [] → (s.dev.core.queue q.val).torn = none → (s.dev.core.link q.val).used = 0 →
    (s.dev.core.link q.val).resetPend = false →
    s.dev.core.heldBack q.val 0 it = false →
    s.dev.core.outbox = it :: rest → s.dev.core.streamQueue it.rtype it.unit = some q.val → rtDrop it.rtype = false →
    Answers (exec (.recordItemStart q) s) fun t =>
      (t.dev.core.queue q.val).linkQ = (s.dev.core.queue q.val).linkQ ++
        ((itemWords it.rtype (it.epoch.getD (s.dev.core.queueEpoch q.val)) it.body).map (fun v => (it.addr, v))).take 8 ∧
      (t.dev.core.queue q.val).wait =
        ((itemWords it.rtype (it.epoch.getD (s.dev.core.queueEpoch q.val)) it.body).map (fun v => (it.addr, v))).drop 8) ∧
  (∀ (s : State) (q : Fin 128) (a w : Nat) (rest : List (Nat × Nat)), Running s → s.dev.core.pclk = true →
    (s.dev.core.queue q.val).linkQ = (a, w) :: rest → s.dev.core.rd QMG_Q_CFG.en q.val = 1 → bitOf w 126 = true →
    (s.dev.core.queue q.val).items = [] → (s.dev.core.link q.val).used ≠ 0 →
    Answers (exec (.queueWordEnter q) s) fun t =>
      (t.dev.core.queue q.val).items.map (fun it => (it.pos, it.addr, it.len, it.words.map (fun v => v % 2 ^ 110))) =
        [((s.dev.core.queue q.val).nextPos, a, bits w 125 123 + 1, [w % 2 ^ 110])] ∧
      (t.dev.core.queue q.val).rp = (s.dev.core.queue q.val).rp) ∧
  (∀ (s : State) (q : Fin 128) (a w : Nat) (rest : List (Nat × Nat)), Running s → s.dev.core.pclk = true →
    (s.dev.core.queue q.val).linkQ = (a, w) :: rest → s.dev.core.rd QMG_Q_CFG.en q.val = 0 →
    Answers (exec (.queueWordEnter q) s) fun t =>
      (t.dev.core.queue q.val).items = (s.dev.core.queue q.val).items.filter QItem.complete) ∧
  (∀ (s : State) (q : Fin 128) (it : QItem), Running s → s.dev.core.pclk = true →
    (s.dev.core.queue q.val).items.any s.dev.core.itemHeld = false →
    (s.dev.core.queue q.val).items.find? (fun it => it.complete && !it.readable) = some it →
    Answers (exec (.itemReadable q) s) fun t =>
      (t.dev.core.queue q.val).items = (s.dev.core.queue q.val).items.map
        (fun j => if j.pos = it.pos then { j with readable := true } else j)) ∧
  (∀ (s : State) (q : Fin 128), Running s → s.dev.core.pclk = true → s.dev.core.rd QMG_Q_STAT.stale_win q.val = 1 →
    (s.dev.core.queue q.val).epochHeld = none →
    Answers (exec (.staleWinEnd q) s) fun t =>
      t.dev.core.rd QMG_Q_STAT.stale_win q.val = 0 ∧
      t.dev.core.rd QMG_Q_STAT.epoch q.val = s.dev.core.rd QMG_Q_STAT.epoch q.val) ∧
  (∀ (s : State) (q : Fin 128) (e : Nat), Running s → s.dev.core.pclk = true → s.dev.core.rd QMG_Q_STAT.stale_win q.val = 1 →
    (s.dev.core.queue q.val).epochHeld = some e →
    Answers (exec (.staleWinEnd q) s) fun t =>
      t.dev.core.rd QMG_Q_STAT.stale_win q.val = 1 ∧ t.dev.core.rd QMG_Q_STAT.epoch q.val = e % 16) ∧
  (∀ (s : State) (q : Fin 128) (it : Item) (rest : List Item), Running s → s.dev.core.pclk = true →
    s.dev.core.fltBuf = [] → (s.dev.core.queue q.val).wait = [] → (s.dev.core.queue q.val).torn = none →
    (s.dev.core.link q.val).resetPend = false →
    s.dev.core.heldBack q.val 0 it = false →
    s.dev.core.outbox = it :: rest → s.dev.core.streamQueue it.rtype it.unit = some q.val → rtDrop it.rtype = true →
    8 < (s.dev.core.link q.val).used +
      (itemWords it.rtype (it.epoch.getD (s.dev.core.queueEpoch q.val)) it.body).length →
    Answers (exec (.recordItemStart q) s) fun t =>
      t.dev.core.outbox = rest ∧ (t.dev.core.queue q.val).linkQ = (s.dev.core.queue q.val).linkQ ∧
      (t.dev.core.queue q.val).wait = [] ∧
      t.dev.core.rd STG_FAB_DROP.dropped = min (2 ^ STG_FAB_DROP.dropped.width - 1) (s.dev.core.rd STG_FAB_DROP.dropped + 1)) ∧
  (∀ (s : State) (q : Fin 128) (it : Item) (rest : List Item), Running s → s.dev.core.pclk = true →
    s.dev.core.fltBuf = [] → (s.dev.core.queue q.val).wait = [] → (s.dev.core.queue q.val).torn = none →
    (s.dev.core.link q.val).resetPend = false →
    s.dev.core.heldBack q.val 0 it = false →
    s.dev.core.outbox = it :: rest → s.dev.core.streamQueue it.rtype it.unit = some q.val → rtDrop it.rtype = true →
    (s.dev.core.link q.val).used + (itemWords it.rtype (it.epoch.getD (s.dev.core.queueEpoch q.val)) it.body).length ≤ 8 →
    Answers (exec (.recordItemStart q) s) fun t =>
      t.dev.core.outbox = rest ∧ (t.dev.core.queue q.val).wait = [] ∧
      (t.dev.core.queue q.val).linkQ = (s.dev.core.queue q.val).linkQ ++
        (itemWords it.rtype (it.epoch.getD (s.dev.core.queueEpoch q.val)) it.body).map (fun v => (it.addr, v)) ∧
      t.dev.core.rd STG_FAB_DROP.dropped = s.dev.core.rd STG_FAB_DROP.dropped)

/-- R73, R75: the changes of a candidate's state that the timers, the host and a failure of activity bring about.
The model's own choices and readings here: log entries 13 (DEDUCED), 96 (DESIGN CHOICE), 97 (DESIGN CHOICE). -/
def Obligations.CandidateStates : Prop :=
  (∀ (s : State) (i : Fin 24), Running s → s.dev.core.part.cand i.val = true → s.dev.core.candDisabled i.val = none →
    candRunning (s.dev.core.candState i.val) = true →
    Answers (exec (.activityFailure i) s) fun t =>
      t.dev.core.candState i.val = csNoSignal ∧ t.dev.core.rd REF_STATE.cause i.val = ccNoActivity ∧
      t.dev.core.rd REF_EVENT.no_signal i.val = 1 ∧ bitOf (t.dev.core.rd FLT_RAW.hit 0 0) 0 = true) ∧
  (∀ (s : State) (i : Fin 24), Running s → s.dev.core.part.cand i.val = true → s.dev.core.candState i.val = csObserving →
    s.dev.core.candDisabled i.val = none → s.dev.core.candFailing i.val = none → (s.dev.core.cand i.val).passed = true →
    (s.dev.core.cand i.val).freqBad = false →
    Answers (exec (.qualTimeExpire i) s) fun t =>
      t.dev.core.candState i.val = csQualified ∧ t.dev.core.rd REF_EVENT.qualified i.val = 1) ∧
  (∀ (s : State) (i : Fin 24), Running s → s.dev.core.part.cand i.val = true → s.dev.core.candState i.val = csDisqualified →
    s.dev.core.candDisabled i.val = none → s.dev.core.candFailing i.val = none →
    Answers (exec (.wtrExpire i) s) fun t => t.dev.core.candState i.val = csObserving) ∧
  (∀ (s : State) (i : Fin 24), Running s → s.dev.core.part.cand i.val = true → s.dev.core.candState i.val = csDisqualified →
    s.dev.core.candDisabled i.val = none → s.dev.core.candFailing i.val = none →
    Answers (exec (.requal i) s) fun t => t.dev.core.candState i.val = csObserving) ∧
  (∀ (s : State) (i : Fin 24), Running s → s.dev.core.part.cand i.val = true → s.dev.core.candState i.val = csObserving →
    s.dev.core.candDisabled i.val = none → s.dev.core.candFailing i.val = none → (s.dev.core.cand i.val).passed = true →
    (s.dev.core.cand i.val).freqBad = false →
    Answers (exec (.requal i) s) fun t => t.dev.core.candState i.val = csQualified) ∧
  (∀ (s : State) (i : Fin 24), Running s → s.dev.core.part.cand i.val = true → s.dev.core.candDisabled i.val = none →
    candRunning (s.dev.core.candState i.val) = true →
    Answers (exec (.forceDisq i true) s) fun t =>
      t.dev.core.candState i.val = csDisqualified ∧ t.dev.core.rd REF_STATE.cause i.val = ccForced ∧
      t.dev.core.rd REF_CTRL.force_disq i.val = 1) ∧
  (∀ (s : State) (i : Fin 24), Running s → s.dev.core.part.cand i.val = true →
    Answers (exec (.forceDisq i false) s) fun t => t.dev.core.rd REF_CTRL.force_disq i.val = 0)

/-- R63, R66 and R77: a stamp closer than 320 ns to the one kept is an overrun and is counted; any other is kept. The end of a
gate shows y_q and takes the gate.
The model's own choices and readings here: log entries 11 (DEDUCED), 14 (DEDUCED), 98 (DESIGN CHOICE), 100 (DESIGN CHOICE). -/
def Obligations.StampsAndGates : Prop :=
  (∀ (s : State) (i : Fin 24) (t high l : Nat), Running s → i.val < 20 → s.dev.core.part.cand i.val = true →
    s.dev.core.candState i.val ≠ csDisabled → s.dev.core.rckClock i.val = true → (s.dev.core.cand i.val).last = some l →
    0 ≤ (s.dev.core.cand i.val).since t → (s.dev.core.cand i.val).since t < 320 * 65536 →
    Answers (exec (.refStamp i t high) s) fun u =>
      u.dev.core.rd REF_EVENT.overrun i.val = 1 ∧
      u.dev.core.rd REF_MISS_CNT.count i.val =
        min (2 ^ REF_MISS_CNT.count.width - 1) ((s.dev.core.missAll t).rd REF_MISS_CNT.count i.val + 1)) ∧
  (∀ (s : State) (i : Fin 24) (t high : Nat), Running s → i.val < 20 → s.dev.core.part.cand i.val = true →
    s.dev.core.candState i.val ≠ csDisabled → s.dev.core.candDisabled i.val = none → s.dev.core.rckClock i.val = true →
    (s.dev.core.cand i.val).last = none →
    Answers (exec (.refStamp i t high) s) fun u => (u.dev.core.cand i.val).last = some t) ∧
  (∀ (s : State) (i : Fin 24) (n t : Nat) (d : Rat), Running s → candRunning (s.dev.core.candState i.val) = true →
    (s.dev.core.cand i.val).gateDone = some (n, d, t) →
    Answers (exec (.gateEnd i) s) fun u =>
      (u.dev.core.cand i.val).gateDone = none ∧
      u.dev.core.rd REF_YQ.value i.val = satS REF_YQ.value.width
        (roundR16 (-d * 2 ^ 36 / ((n : Rat) * s.dev.core.candPeriod i.val)))) ∧
  (∀ (s : State) (a b : Fin 24), Running s → a.val < b.val → s.dev.core.compared a.val b.val = true →
    s.dev.core.pairDisagrees a.val b.val = true → s.dev.core.pairs.get {} (pairKey a.val b.val) = { run := 3, marked := false } →
    Answers (exec .disagreeCompare s) fun t =>
      t.dev.core.disagree a.val b.val = true ∧ bitOf (t.dev.core.rd REF_DISAGREE.mask a.val) b.val = true ∧
      bitOf (t.dev.core.rd REF_DISAGREE.mask b.val) a.val = true ∧ t.dev.core.rd REF_EVENT.disagree_set a.val = 1)

/-- R81 and R83: the quality level of a candidate whose source has been silent is rank 15; a time-of-day frame that passes its
checks waits for a stamp, and one that has waited too long is rejected.
The model's own choices and readings here: log entries 19 (DEDUCED), 99 (DESIGN CHOICE), 115 (DEDUCED). -/
def Obligations.QualityLevels : Prop :=
  (∀ (s : State) (lane : Fin 4) (i : Fin 24), Running s → s.dev.core.part.cand i.val = true →
    s.dev.core.rd REF_QL_CFG.src i.val = 1 → s.dev.core.rd REF_QL_CFG.src_idx i.val = lane.val →
    Answers (exec (.esmcQlTimeout lane) s) fun t => t.dev.core.rd REF_QL_STAT.rank i.val = 15) ∧
  (∀ (s : State) (i : Fin 24), Running s → s.dev.core.part.cand i.val = true →
    s.dev.core.rd REF_QL_CFG.src i.val = 3 → s.dev.core.rd REF_QL_CFG.tod_raw i.val = 0 →
    Answers (exec (.todTimeout i) s) fun t =>
      t.dev.core.rd REF_QL_STAT.rank i.val = 15 ∧ t.dev.core.rd REF_STATE.tod_ok i.val = 0) ∧
  (∀ (s : State) (pin : Fin 2) (i : Fin 24) (bytes : List Byte), Running s →
    s.dev.core.part.cand i.val = true → s.dev.core.rd REF_QL_CFG.src i.val = 3 →
    s.dev.core.rd REF_QL_CFG.src_idx i.val = pin.val → s.dev.core.rd REF_QL_CFG.tod_raw i.val = 0 →
    s.dev.core.todRoom pin.val bytes = true → fieldLE bytes 0 2 = 0x5AA5 → (todParse bytes).isSome = true →
    Answers (exec (.todFrameRx pin bytes) s) fun t => (t.dev.core.cand i.val).tod = todParse bytes) ∧
  (∀ (s : State) (pin : Fin 2) (i : Fin 24) (bytes : List Byte), Running s →
    s.dev.core.part.cand i.val = true → s.dev.core.rd REF_QL_CFG.src i.val = 3 →
    s.dev.core.rd REF_QL_CFG.src_idx i.val = pin.val → s.dev.core.rd REF_QL_CFG.tod_raw i.val = 0 →
    s.dev.core.todRoom pin.val bytes = true → fieldLE bytes 0 2 = 0x5AA5 → todParse bytes = none →
    Answers (exec (.todFrameRx pin bytes) s) fun t =>
      t.dev.core.rd REF_EVENT.tod_error i.val = 1 ∧ bitOf (t.dev.core.rd FLT_RAW.hit 0 0) 5 = true) ∧
  (∀ (s : State) (i : Fin 24) (f : TodFrame), Running s → (s.dev.core.cand i.val).tod = some f →
    Answers (exec (.todLabelTimeout i) s) fun t =>
      (t.dev.core.cand i.val).tod = none ∧ t.dev.core.rd REF_EVENT.tod_error i.val = 1) ∧
  (∀ (s : State) (pin : Fin 2) (i : Fin 24) (t : Nat) (b : Byte) (bytes : List Byte) (q : Nat), Running s →
    s.dev.core.pclk = true → s.dev.core.part.cand i.val = true → s.dev.core.rd REF_QL_CFG.src i.val = 3 →
    s.dev.core.rd REF_QL_CFG.src_idx i.val = pin.val → s.dev.core.rd REF_QL_CFG.tod_raw i.val = 1 →
    s.dev.core.todRoom pin.val ((b :: bytes).take 105) = true → s.dev.core.streamQueue 0x12 i.val = some q →
    Answers (exec (.todRawGroup pin t (b :: bytes)) s) fun u =>
      u.dev.core.outbox.any (fun it => it.rtype = 0x12 && it.unit = i.val) = true)

/-- R102, R103, R125 and R126: the host's forces on an enabled channel.
The model's own choices and readings here: log entries 22 (DEDUCED), 23 (DEDUCED), 101 (DESIGN CHOICE). -/
def Obligations.ChannelForces : Prop :=
  (∀ (s : State) (h : Fin 12), Running s → h.val < s.dev.core.part.nCh → s.dev.core.rd CH_CFG.en h.val = 1 →
    s.dev.core.inRst.contains (1, h.val) = false →
    (chRunning (s.dev.core.chState h.val) = true ∨ s.dev.core.chState h.val = chHoldover) →
    Answers (exec (.forceFr h true) s) fun t =>
      t.dev.core.chState h.val = chFreerun ∧ t.dev.core.rd CH_STAT.active h.val = 31 ∧
      t.dev.core.rd CH_CTRL.force_fr h.val = 1 ∧ t.dev.core.rd CH_EVENT.freerun h.val = 1) ∧
  (∀ (s : State) (h : Fin 12), Running s → h.val < s.dev.core.part.nCh → s.dev.core.rd CH_CFG.en h.val = 1 →
    s.dev.core.inRst.contains (1, h.val) = false → s.dev.core.rd CH_CTRL.force_fr h.val = 0 →
    s.dev.core.rd CH_STAT.ho_valid h.val = 1 → chRunning (s.dev.core.chState h.val) = true →
    Answers (exec (.forceHo h true) s) fun t =>
      t.dev.core.chState h.val = chHoldover ∧ t.dev.core.rd CH_STAT.active h.val = 31 ∧
      t.dev.core.rd CH_CTRL.force_ho h.val = 1 ∧ bitOf (t.dev.core.rd FLT_RAW.hit 0 0) 9 = true) ∧
  (∀ (s : State) (h : Fin 12), Running s → h.val < s.dev.core.part.nCh → s.dev.core.rd CH_CFG.en h.val = 1 →
    s.dev.core.inRst.contains (1, h.val) = false → s.dev.core.rd CH_CTRL.force_fr h.val = 0 →
    s.dev.core.rd CH_STAT.ho_valid h.val = 0 → chRunning (s.dev.core.chState h.val) = true →
    Answers (exec (.forceHo h true) s) fun t =>
      t.dev.core.chState h.val = s.dev.core.chState h.val ∧ t.dev.core.rd CH_CTRL.force_ho h.val = 1 ∧
      t.dev.core.rd CH_EVENT.cmd_refused h.val = 1) ∧
  (∀ (s : State) (h : Fin 12), Running s → h.val < s.dev.core.part.nCh → s.dev.core.rd CH_CFG.en h.val = 1 →
    Answers (exec (.hoRelease h) s) fun t => t.dev.core.rd CH_STAT.flt_hold h.val = 0) ∧
  (∀ (s : State) (h : Fin 12) (v : Bool), Running s → h.val < s.dev.core.part.nCh → s.dev.core.rd CH_CFG.en h.val = 0 →
    Answers (exec (.forceFr h v) s) fun t =>
      t.dev.core.rd CH_EVENT.cmd_refused h.val = 1 ∧ t.dev.core.rd CH_CFG_REJECT.valid h.val = 1 ∧
      t.dev.core.chState h.val = s.dev.core.chState h.val ∧
      t.dev.core.rd CH_CTRL.force_fr h.val = s.dev.core.rd CH_CTRL.force_fr h.val) ∧
  (∀ (s : State) (h : Fin 12) (v b : Bool) (i : Instr), Running s → h.val < s.dev.core.part.nCh → s.dev.core.rd CH_CFG.en h.val = 0 →
    i = .forceHo h v ∨ i = .hoRelease h ∨ i = .poolAbort h b →
    Answers (exec i s) fun t =>
      t.dev.core.rd CH_EVENT.cmd_refused h.val = 1 ∧ t.dev.core.rd CH_CFG_REJECT.valid h.val = 1 ∧
      t.dev.core.chan h.val = s.dev.core.chan h.val ∧ t.dev.core.rd CH_CTRL.force_ho h.val = s.dev.core.rd CH_CTRL.force_ho h.val ∧
      (∀ f ∈ CH_STAT.row.flds, t.dev.core.rd f h.val = s.dev.core.rd f h.val)) ∧
  (∀ (s : State) (h : Fin 12) (ex : Fin 4) (data : BitVec 32), Running s → h.val < s.dev.core.part.nCh →
    s.dev.core.rd CH_CFG.en h.val = 0 → s.dev.core.indWaits ex.val = false →
    Answers (exec (.chPstepCommit h ex data) s) fun t =>
      t.dev.core.rd CH_EVENT.cmd_refused h.val = 1 ∧ t.dev.core.rd CH_CFG_REJECT.valid h.val = 1 ∧
      t.dev.core.chan h.val = s.dev.core.chan h.val)

/-- R112, R117, R121, R122, R124: the host's selection, its phase adjustments and their abort.
The model's own choices and readings here: log entry 26 (DESIGN CHOICE). -/
def Obligations.ChannelAdjustments : Prop :=
  (∀ (s : State) (h : Fin 12) (ex : Fin 4) (data : BitVec 32), Running s → h.val < s.dev.core.part.nCh →
    s.dev.core.rd CH_CFG.en h.val = 1 → s.dev.core.rd CH_CFG.kind h.val = 0 → s.dev.core.chState h.val ≠ chDisabled →
    s.dev.core.indWaits ex.val = false →
    Answers (exec (.chPstepCommit h ex data) s) fun t =>
      (t.dev.core.chan h.val).hostPool = clampI (-poolMax) poolMax ((s.dev.core.chan h.val).hostPool +
        toS 48 (s.dev.core.staged ex.val (CH_PSTEP_LO.amt_lo.addr h.val 0) + bits data.toNat 15 0 * 2 ^ 32) * 2 ^ 32) ∧
      (t.dev.core.chan h.val).hostStep = !bitOf data.toNat 31) ∧
  (∀ (s : State) (h : Fin 12) (emptied : Bool), Running s → h.val < s.dev.core.part.nCh → s.dev.core.rd CH_CFG.en h.val = 1 →
    ((s.dev.core.chan h.val).passPool ≠ 0 ∨ (s.dev.core.chan h.val).hostPool ≠ 0) →
    Answers (exec (.poolAbort h emptied) s) fun t =>
      (t.dev.core.chan h.val).passPool = 0 ∧ (t.dev.core.chan h.val).hostPool = 0 ∧
      t.dev.core.rd CH_STAT.slewing h.val = 0 ∧ t.dev.core.rd CH_STAT.abort_st h.val = 1) ∧
  (∀ (s : State) (h : Fin 12), Running s → h.val < s.dev.core.part.nCh → s.dev.core.rd CH_CFG.en h.val = 1 →
    (s.dev.core.chan h.val).passPool = 0 → (s.dev.core.chan h.val).hostPool = 0 →
    Answers (exec (.poolAbort h true) s) fun t => t.dev.core.rd CH_STAT.abort_st h.val = 2) ∧
  (∀ (s : State) (h : Fin 12) (be : BitVec 4) (data : BitVec 32), Running s → h.val < s.dev.core.part.nCh →
    be.toNat.testBit 0 = true → s.dev.core.manOk h.val (bits data.toNat 4 0) = true →
    Answers (exec (.chSelCfgWrite h be data) s) fun t => t.dev.core.rd CH_SEL_CFG.manual h.val = bits data.toNat 4 0) ∧
  (∀ (s : State) (h : Fin 12) (be : BitVec 4) (data : BitVec 32), Running s → h.val < s.dev.core.part.nCh →
    be.toNat.testBit 0 = true → s.dev.core.manOk h.val (bits data.toNat 4 0) = false →
    Answers (exec (.chSelCfgWrite h be data) s) fun t =>
      t.dev.core.rd CH_SEL_CFG.manual h.val = s.dev.core.rd CH_SEL_CFG.manual h.val ∧
      t.dev.core.rd CH_EVENT.cmd_refused h.val = 1 ∧ t.dev.core.rd CH_CFG_REJECT.valid h.val = 1)

/-- R96, R101, R102 and R106: an update of a FREERUN or HOLDOVER channel acquires the candidate that R109 names; a running
channel without a usable candidate goes to HOLDOVER where that is valid, else to FREERUN.
The model's own choices and readings here: log entries 23 (DEDUCED), 24 (DEDUCED), 107 (DEDUCED). -/
def Obligations.LoopTransitions : Prop :=
  (∀ (s : State) (h : Fin 12) (b : Nat), Running s → h.val < s.dev.core.part.nCh → s.dev.core.rd CH_CFG.en h.val = 1 →
    s.dev.core.inRst.contains (1, h.val) = false → s.dev.core.chForced h.val = false →
    (s.dev.core.chState h.val = chFreerun ∨ s.dev.core.chState h.val = chHoldover) →
    s.dev.core.chFirst h.val = some b → (s.dev.core.cand b).restart = false →
    Answers (exec (.loopUpdate h) s) fun t =>
      t.dev.core.chState h.val = chAcquiring ∧ t.dev.core.rd CH_STAT.active h.val = b) ∧
  (∀ (s : State) (h : Fin 12), Running s → h.val < s.dev.core.part.nCh → s.dev.core.rd CH_CFG.en h.val = 1 →
    s.dev.core.inRst.contains (1, h.val) = false → s.dev.core.chForced h.val = false →
    (s.dev.core.chState h.val = chAcquiring ∨ s.dev.core.chState h.val = chLocked) → s.dev.core.chUsables h.val = [] →
    s.dev.core.rd CH_STAT.ho_valid h.val = 1 →
    Answers (exec (.loopUpdate h) s) fun t => t.dev.core.chState h.val = chHoldover) ∧
  (∀ (s : State) (h : Fin 12), Running s → h.val < s.dev.core.part.nCh → s.dev.core.rd CH_CFG.en h.val = 1 →
    s.dev.core.inRst.contains (1, h.val) = false → s.dev.core.chForced h.val = false →
    (s.dev.core.chState h.val = chAcquiring ∨ s.dev.core.chState h.val = chLocked) → s.dev.core.chUsables h.val = [] →
    s.dev.core.rd CH_STAT.ho_valid h.val = 0 →
    Answers (exec (.loopUpdate h) s) fun t =>
      t.dev.core.chState h.val = chFreerun ∧ bitOf (t.dev.core.rd FLT_RAW.hit 0 0) 13 = true)

/-- R141: a second that one of the checks rules out is skipped, with its cause, and counted; an accepted one is counted as a
sample.
The model's own choices and readings here: log entries 31 (DEDUCED), 32 (DEDUCED). -/
def Obligations.GlacierSamples : Prop :=
  (∀ (s : State) (h : Fin 12) (r : SecRun) (k : Nat), Running s → (s.dev.core.glc h.val).done = some r →
    s.dev.core.glcSkip h.val r = some k →
    Answers (exec (.glcSample h) s) fun t =>
      t.dev.core.rd GLC_MDL_STAT.skip h.val = k % 8 ∧ (t.dev.core.glc h.val).done = none ∧
      t.dev.core.rd GLC_NSAMP.nsamp h.val = s.dev.core.rd GLC_NSAMP.nsamp h.val) ∧
  (∀ (s : State) (h : Fin 12) (r : SecRun), Running s → (s.dev.core.glc h.val).done = some r →
    s.dev.core.glcSkip h.val r = none →
    Answers (exec (.glcSample h) s) fun t =>
      (t.dev.core.glc h.val).done = none ∧
      t.dev.core.rd GLC_NSAMP.nsamp h.val = min (2 ^ GLC_NSAMP.nsamp.width - 1) (s.dev.core.rd GLC_NSAMP.nsamp h.val + 1) ∧
      t.dev.core.rd GLC_MDL_STAT.state h.val ≠ gsEmpty)

/-- R135, R139, R140, R145, R146, R153 and R154: clearing, declaring and storing a model, a new oscillator, the day and the storage
interval.
The model's own choices and readings here: log entries 32 (DEDUCED), 106 (DESIGN CHOICE). -/
def Obligations.GlacierModels : Prop :=
  (∀ (s : State) (h : Fin 12) (b : Bool), Running s → h.val < s.dev.core.part.nCh → s.dev.core.glcReady = true →
    Answers (exec (.clear h b) s) fun t =>
      t.dev.core.rd GLC_MDL_STAT.state h.val = gsEmpty ∧ t.dev.core.rd GLC_MDL_STAT.cause h.val = gcCleared ∧
      t.dev.core.rd GLC_NSAMP.nsamp h.val = 0 ∧ t.dev.core.rd GLC_T0.t0 h.val = 0x8000 ∧
      t.dev.core.rd GLC_MDL_STAT.held h.val = 0x3F ∧ t.dev.core.rd GLC_MDL_STAT.ho_valid h.val = 0) ∧
  (∀ (s : State) (h : Fin 12) (b : Bool), Running s → h.val < s.dev.core.part.nCh →
    s.dev.core.rd GLC_MDL_CFG.learn_en h.val = 0 → s.dev.core.glcReady = true →
    Answers (exec (.declare h b) s) fun t =>
      t.dev.core.rd GLC_MDL_STAT.state h.val = gsValid ∧ t.dev.core.rd GLC_MDL_STAT.cause h.val = gcDeclared ∧
      t.dev.core.rd GLC_MDL_STAT.host_prov h.val = 1 ∧ t.dev.core.rd GLC_MDL_STAT.bias_ok h.val = 0) ∧
  (∀ (s : State) (h : Fin 12) (b : Bool), Running s → h.val < s.dev.core.part.nCh →
    s.dev.core.rd GLC_MDL_CFG.learn_en h.val = 1 →
    Answers (exec (.declare h b) s) fun t =>
      t.dev.core.rd GLC_MDL_STAT.state h.val = s.dev.core.rd GLC_MDL_STAT.state h.val ∧
      t.dev.core.rd GLC_CFG_REJECT.valid h.val = 1) ∧
  (∀ (s : State) (h : Fin 12), Running s → h.val < s.dev.core.part.nCh → s.dev.core.glcReady = true →
    Answers (exec .newOsc s) fun t =>
      t.dev.core.rd GLC_MDL_STAT.state h.val = gsEmpty ∧ t.dev.core.rd GLC_MDL_STAT.cause h.val = gcNewOsc ∧
      t.dev.core.secInDay = 0 ∧ t.dev.core.ageBase = (s.dev.core.tally (s.dev.core.rd GLC_AGE_CFG.tally)).value) ∧
  (∀ (s : State) (h : Fin 12) (b : Bool) (i : Instr), Running s → h.val < s.dev.core.part.nCh → s.dev.core.glcReady = false →
    i = .clear h b ∨ i = .declare h b ∧ s.dev.core.rd GLC_MDL_CFG.learn_en h.val = 0 →
    Answers (exec i s) fun t => t.dev.core.outside [] = s.dev.core.outside []) ∧
  (∀ s : State, Running s → 86400 ≤ s.dev.core.secInDay →
    (s.dev.core.tally (s.dev.core.rd GLC_AGE_CFG.tally)).failed = false →
    Answers (exec .dayRollover s) fun t =>
      t.dev.core.secInDay = 0 ∧ (t.dev.core.firnU.tq = s.dev.core.firnU.tq ++ [s.dev.core.rd GLC_AGE_CFG.tally])) ∧
  (∀ (s : State) (h : Fin 12) (data : BitVec 32), Running s → h.val < s.dev.core.part.nCh →
    s.dev.core.rd GLC_MDL_CFG.learn_en h.val = 0 → s.dev.core.glcReady = true →
    Answers (exec (.glcMdlCfgWrite h 15 data) s) fun t =>
      t.dev.core.rd GLC_MDL_CFG.learn_en h.val = bits data.toNat 31 31 ∧
      t.dev.core.rd GLC_MDL_CFG.cold_ho h.val = bits data.toNat 30 30 ∧
      t.dev.core.rd GLC_MDL_CFG.terms h.val = bits data.toNat 29 24 ∧
      t.dev.core.rd GLC_MDL_CFG.tsrc h.val = bits data.toNat 19 16 ∧
      t.dev.core.rd GLC_MDL_CFG.lag_tau h.val = bits data.toNat 15 0)

/-- R153: a record is written whole into the Firn front, at its address, and nothing else of the front changes.
The model's own choices and readings here: log entry 32 (DEDUCED). -/
def Obligations.GlacierRecords : Prop :=
  (∀ (s : State) (h : Fin 12), Running s → h.val < s.dev.core.part.nCh → s.dev.core.firnOut = [] →
    Answers (exec (.glcMdlStore h) s) fun t =>
      (∀ k : Fin 128, t.dev.mem.firn.get 0#8 (s.dev.core.glcRecAddr h.val + k.val) = (s.dev.core.glcRecord h.val).getD k.val 0#8) ∧
      (∀ a : Nat, (a < s.dev.core.glcRecAddr h.val ∨ s.dev.core.glcRecAddr h.val + (s.dev.core.glcRecord h.val).length ≤ a) →
        t.dev.mem.firn.get 0#8 a = s.dev.mem.firn.get 0#8 a) ∧
      t.dev.core.rd GLC_STORE_STAT.writes = if 2 ≤ s.dev.core.rd STG_STAT.stage then
          (s.dev.core.rd GLC_STORE_STAT.writes + 1) % 2 ^ GLC_STORE_STAT.writes.width
        else s.dev.core.rd GLC_STORE_STAT.writes) ∧
  (∀ s : State, Running s → s.dev.core.firnOut = [] → s.dev.core.rd GLC_STORE_CFG.int_ ≠ 0 →
    s.dev.core.glcReady = true →
    Answers (exec .storeInterval s) fun t =>
      ∀ k : Fin 32, t.dev.mem.firn.get 0#8 ((s.dev.core.rd GLC_STORE_CFG.page + 1) * 1024 + 512 + k.val) =
        s.dev.core.ageRecord.getD k.val 0#8)

/-- R136, R137 and R149: temperatures.
The model's own choices and readings here: log entries 21 (DEDUCED), 102 (DESIGN CHOICE). -/
def Obligations.Temperatures : Prop :=
  (∀ s : State, Running s →
    Answers (exec .hostTempExpire s) fun t => t.dev.core.rd GLC_HOST_TEMP.temp = 0x8000) ∧
  (∀ (s : State) (h : Fin 12), Running s → h.val < s.dev.core.part.nCh → s.dev.core.glcTempTerm h.val = true →
    (s.dev.core.glc h.val).tNow = false →
    Answers (exec (.tempInvalid h) s) fun t =>
      t.dev.core.rd GLC_MDL_STAT.temp_ok h.val = 0 ∧ bitOf (t.dev.core.rd FLT_RAW.hit 0 0) 17 = true) ∧
  (∀ (s : State) (k : Fin 9) (v : BitVec 16), Running s → k.val < 8 → v.toNat ≠ 0x8000 →
    Answers (exec (.sensorReading k v) s) fun t =>
      t.dev.core.rd GLC_TSENS.temp 0 k.val = v.toNat ∧
      t.dev.core.tSum.get (0, 0) k.val =
        ((s.dev.core.tSum.get (0, 0) k.val).1 + toS 16 v.toNat, (s.dev.core.tSum.get (0, 0) k.val).2 + 1)) ∧
  (∀ (s : State) (v : BitVec 16), Running s → s.dev.core.oscTemp (v.toNat % 4096) = none →
    Answers (exec (.sensorReading 8 v) s) fun t =>
      t.dev.core.rd GLC_OSCT.code = v.toNat % 4096 ∧ t.dev.core.rd GLC_OSCT.temp = 0x8000)

/-- R155, R156 and R158: the ensemble's members. -/
def Obligations.EnsembleMembers : Prop :=
  (∀ (s : State) (h : Fin 12) (data : BitVec 32), Running s → h.val < s.dev.core.part.nCh →
    s.dev.core.manOk h.val (bits data.toNat 4 0) = true → s.dev.core.manOk h.val (bits data.toNat 12 8) = true →
    s.dev.core.manOk h.val (bits data.toNat 20 16) = true → s.dev.core.manOk h.val (bits data.toNat 28 24) = true →
    Answers (exec (.glcEnsMemWrite h 15 data) s) fun t =>
      t.dev.core.rd GLC_ENS_MEM.m0 h.val = bits data.toNat 4 0 ∧ t.dev.core.rd GLC_ENS_MEM.m1 h.val = bits data.toNat 12 8 ∧
      t.dev.core.rd GLC_ENS_MEM.m2 h.val = bits data.toNat 20 16 ∧ t.dev.core.rd GLC_ENS_MEM.m3 h.val = bits data.toNat 28 24) ∧
  (∀ (s : State) (h : Fin 12) (data : BitVec 32), Running s → h.val < s.dev.core.part.nCh →
    s.dev.core.manOk h.val (bits data.toNat 4 0) = false →
    Answers (exec (.glcEnsMemWrite h 15 data) s) fun t =>
      t.dev.core.rd GLC_ENS_MEM.m0 h.val = s.dev.core.rd GLC_ENS_MEM.m0 h.val ∧
      t.dev.core.rd GLC_ENS_MEM.m1 h.val = s.dev.core.rd GLC_ENS_MEM.m1 h.val ∧
      t.dev.core.rd GLC_ENS_MEM.m2 h.val = s.dev.core.rd GLC_ENS_MEM.m2 h.val ∧
      t.dev.core.rd GLC_ENS_MEM.m3 h.val = s.dev.core.rd GLC_ENS_MEM.m3 h.val ∧
      t.dev.core.rd GLC_CFG_REJECT.valid h.val = 1) ∧
  (∀ (s : State) (h : Fin 12), Running s → h.val < s.dev.core.part.nCh → s.dev.core.rd CH_CFG.en h.val = 1 →
    Answers (exec (.adevSample h) s) fun t => t.dev.core.rd GLC_ENS_STAT.tau_used h.val = s.dev.core.tauCode h.val % 32) ∧
  (∀ (s : State) (h : Fin 12) (m : Fin 4), Running s → ((s.dev.core.glc h.val).members.getD m.val {}).rejected = true →
    m.val < (s.dev.core.glc h.val).members.length → s.dev.core.chState h.val ≠ chEnsemble →
    s.dev.core.chUsable h.val (s.dev.core.ensCand h.val m.val) = true →
    s.dev.core.ensDev h.val m.val (s.dev.core.chan h.val).lastW ≤
      ((s.dev.core.rd GLC_ENS_CFG.out_lim h.val * 1024 : Nat) : Rat) / 2 * 2 ^ 32 →
    Answers (exec (.readmit h m) s) fun t => ((t.dev.core.glc h.val).members.getD m.val {}).rejected = false)

/-- R168, R170 and R173: the changes of a rotor's state.
The model's own choices and readings here: log entries 35 (DEDUCED), 108 (DEDUCED). -/
def Obligations.RotorStates : Prop :=
  (∀ (s : State) (h : Fin 12) (t : Nat), Running s → s.dev.core.rotState h.val = rsStopped →
    (s.dev.core.rot h.val).lastStamp.all (fun l => decide (l + 320 * 65536 ≤ t)) = true →
    s.dev.core.rd CH_CTRL.force_fr h.val = 0 → s.dev.core.pclk = true →
    Answers (exec (.tachEdge h t) s) fun u =>
      u.dev.core.rotState h.val = rsSyncing ∧ u.dev.core.rd PAL_ROT_STAT.cause h.val = rcFirstTooth ∧
      (u.dev.core.rot h.val).tPrev = some t) ∧
  (∀ (s : State) (h : Fin 12) (t : Nat), Running s → h.val < s.dev.core.part.nCh → s.dev.core.rotState h.val = rsTracking →
    s.dev.core.rotLate h.val t = true →
    Answers (exec (.tachLate h t) s) fun u =>
      u.dev.core.rotState h.val = rsCoasting ∧ u.dev.core.rd PAL_ROT_STAT.cause h.val = rcTachLate ∧
      u.dev.core.rd PAL_ROT_STAT.fly h.val = 1 ∧ u.dev.core.rd PAL_ROT_EVENT.tach_late h.val = 1 ∧
      bitOf (u.dev.core.rd FLT_RAW.hit 0 0) 20 = true) ∧
  (∀ (s : State) (h : Fin 12), Running s →
    (s.dev.core.rotState h.val = rsSyncing ∨
      ((s.dev.core.rotState h.val = rsCoasting ∨ s.dev.core.rotState h.val = rsTracking) ∧
        s.dev.core.rotMayStop h.val = true)) →
    Answers (exec (.stopTimeout h) s) fun u =>
      u.dev.core.rotState h.val = rsStopped ∧ u.dev.core.rd PAL_ROT_STAT.cause h.val = rcStop ∧
      u.dev.core.rd PAL_ROT_EVENT.stopped h.val = 1 ∧ u.dev.core.rd PAL_ROT_STAT.sync h.val = 0) ∧
  (∀ (s : State) (h : Fin 12), Running s → s.dev.core.rotState h.val = rsCoasting → s.dev.core.rotHeld h.val = false →
    Answers (exec (.coastEnd h) s) fun u =>
      u.dev.core.rotState h.val = rsStopped ∧ u.dev.core.rd PAL_ROT_STAT.cause h.val = rcCoastEnd) ∧
  (∀ (s : State) (h : Fin 12), Running s → h.val < s.dev.core.part.nCh → s.dev.core.rotState h.val = rsTracking →
    Answers (exec (.hostResync h) s) fun u =>
      u.dev.core.rotState h.val = rsSyncing ∧ u.dev.core.rd PAL_ROT_STAT.cause h.val = rcHostResync ∧
      u.dev.core.rd PAL_ROT_STAT.sync h.val = 0 ∧ u.dev.core.rd PAL_ROT_STAT.fly h.val = 1)

/-- R63, R171, R173, R175 and R177: teeth too close, index edges, crossings of the flywheel and edges of the angle clock.
The model's own choices and readings here: log entries 35 (DEDUCED), 108 (DEDUCED), 109 (DEDUCED). -/
def Obligations.RotorEdges : Prop :=
  (∀ (s : State) (h : Fin 12) (t l p : Nat), Running s → s.dev.core.rotState h.val ≠ rsOff →
    (s.dev.core.rot h.val).lastStamp = some l → l ≤ t → t - l < 320 * 65536 → s.dev.core.tachPin h.val = some p →
    Answers (exec (.tachEdge h t) s) fun u =>
      u.dev.core.rd REF_EVENT.overrun p = 1 ∧
      u.dev.core.rd REF_MISS_CNT.count p = min (2 ^ REF_MISS_CNT.count.width - 1) (s.dev.core.rd REF_MISS_CNT.count p + 1) ∧
      u.dev.core.rot h.val = s.dev.core.rot h.val) ∧
  (∀ (s : State) (h : Fin 12), Running s → s.dev.core.rotState h.val = rsSyncing → s.dev.core.rd PAL_ROT_CFG.zref h.val = 1 →
    Answers (exec (.indexEdge h) s) fun u =>
      (u.dev.core.rot h.val).sinceIndex = some 0 ∧
      (u.dev.core.rot h.val).armed = decide ((s.dev.core.rot h.val).sinceIndex =
        some (s.dev.core.rd PAL_ROT_CFG.teeth h.val - s.dev.core.rd PAL_ROT_CFG.missing h.val))) ∧
  (∀ (s : State) (h : Fin 12) (t : Nat), Running s → s.dev.core.rotState h.val = rsCoasting →
    s.dev.core.rd PAL_ROT_STAT.fly h.val = 1 → s.dev.core.rd PAL_ROT_STAT.dir h.val = 0 →
    Answers (exec (.flywheelCrossing h t) s) fun u =>
      u.dev.core.rd PAL_ROT_REVCNT.count h.val = (s.dev.core.rd PAL_ROT_REVCNT.count h.val + 1) % 2 ^ 32 ∧
      (u.dev.core.rot h.val).edges = ((s.dev.core.rot h.val).edgeAng.filter (fun q => decide ((s.dev.core.rot h.val).zero +
        roundR16 (s.dev.core.rotGamma h.val t - (s.dev.core.rot h.val).zero) ≤ q))).length) ∧
  (∀ (s : State) (h : Fin 12) (t : Nat), Running s → s.dev.core.rotState h.val = rsTracking →
    s.dev.core.rd PAL_ROT_STAT.fly h.val = 0 →
    (s.dev.core.rd PAL_ROT_AC.ppr h.val : Rat) * |(s.dev.core.rot h.val).w| ≤ 62500000 →
    (s.dev.core.rot h.val).edgeFrom ≤ s.dev.core.rotEdgeAng h.val t →
    Answers (exec (.angleClockEdge h t) s) fun u =>
      (u.dev.core.rot h.val).edges = (s.dev.core.rot h.val).edges + 1 ∧
      (u.dev.core.rot h.val).edgeAng = s.dev.core.rotEdgeAng h.val t :: (s.dev.core.rot h.val).edgeAng ∧
      (u.dev.core.rot h.val).lastEdge = some (s.dev.core.rotEdgeDue h.val t) ∧
      u.dev.core.rd PAL_ROT_STAT.ac_over h.val = 0) ∧
  (∀ (s : State) (h : Fin 12) (t : Nat) (l : Rat), Running s → s.dev.core.rotState h.val = rsTracking →
    s.dev.core.rd PAL_ROT_STAT.fly h.val = 0 →
    62500000 < (s.dev.core.rd PAL_ROT_AC.ppr h.val : Rat) * |(s.dev.core.rot h.val).w| →
    (s.dev.core.rot h.val).edgeFrom ≤ s.dev.core.rotEdgeAng h.val t → (s.dev.core.rot h.val).lastEdge = some l → s.dev.core.rotEdgeDue h.val t - l < 16 * 65536 →
    Answers (exec (.angleClockEdge h t) s) fun u =>
      (u.dev.core.rot h.val).edges = (s.dev.core.rot h.val).edges ∧ u.dev.core.rd PAL_ROT_STAT.ac_over h.val = 1 ∧
      u.dev.core.rd PAL_ROT_EVENT.ac_omit h.val = 1) ∧
  (∀ (s : State) (h : Fin 12) (t : Nat), Running s → s.dev.core.rotState h.val = rsTracking →
    (s.dev.core.rot h.val).fStart = true → s.dev.core.rotEdgeAng h.val t < (s.dev.core.rot h.val).edgeFrom →
    Answers (exec (.angleClockEdge h t) s) fun u => u.dev.core.rot h.val = s.dev.core.rot h.val)

/-- R184, R186 and R187: the changes of the root synthesiser's state.
The model's own choices and readings here: log entries 38 (DEDUCED), 113 (DEDUCED). -/
def Obligations.RootStates : Prop :=
  (∀ s : State, Running s → s.dev.core.rsState = sCal →
    Answers (exec .rsCalDone s) fun t => t.dev.core.rsState = sAcq ∧ t.dev.core.rd RS_STAT.cause = kcCalDone) ∧
  (∀ (s : State) (count : BitVec 32), Running s → s.dev.core.rsState = sAcq → (s.dev.core.syn 4).inWin = 3 →
    inWindow count.toNat (s.dev.core.rd RS_LOCK_CFG.win) = true →
    Answers (exec (.lockCountEnd 4 count) s) fun t =>
      t.dev.core.rsState = sLocked ∧ t.dev.core.rd RS_FCOUNT.count = count.toNat ∧ t.dev.core.rd RS_EVENT.lock = 1) ∧
  (∀ (s : State) (count : BitVec 32), Running s → s.dev.core.rsState = sAcq →
    inWindow count.toNat (s.dev.core.rd RS_LOCK_CFG.win) = false →
    Answers (exec (.lockCountEnd 4 count) s) fun t =>
      t.dev.core.rsState = sAcq ∧ (t.dev.core.syn 4).inWin = 0) ∧
  (∀ s : State, Running s → s.dev.core.rsState = sAcq →
    Answers (exec (.acquireTimeout 4) s) fun t =>
      t.dev.core.rsState = sCal ∧ t.dev.core.rd RS_EVENT.retry = 1 ∧ bitOf (t.dev.core.rd FLT_RAW.hit 0 0) 24 = true ∧
      t.dev.core.rd RS_RETRY_CNT.count = min (2 ^ RS_RETRY_CNT.count.width - 1) (s.dev.core.rd RS_RETRY_CNT.count + 1)) ∧
  (∀ s : State, Running s → s.dev.core.rsState = sLocked → s.dev.core.rd RS_STAT.lo_ok = 1 →
    Answers (exec .rsRelock s) fun t =>
      t.dev.core.rsState = sCal ∧ t.dev.core.rd RS_EVENT.lock_lost = 1 ∧
      t.dev.core.rd RS_UNLOCK_CNT.count = min (2 ^ RS_UNLOCK_CNT.count.width - 1) (s.dev.core.rd RS_UNLOCK_CNT.count + 1)) ∧
  (∀ s : State, Running s → s.dev.core.rd RS_STAT.lo_ok = 1 →
    (s.dev.core.rsState = sCal ∨ s.dev.core.rsState = sAcq ∨ s.dev.core.rsState = sLocked) →
    Answers (exec .loLoss s) fun t =>
      t.dev.core.rsState = sUnlocked ∧ t.dev.core.rd RS_STAT.cause = kcLoLost ∧ t.dev.core.rd RS_STAT.lo_ok = 0 ∧
      t.dev.core.rd RS_EVENT.lo_lost = 1 ∧ bitOf (t.dev.core.rd FLT_RAW.hit 0 0) 26 = true) ∧
  (∀ s : State, Running s → s.dev.core.rd RS_STAT.lo_ok = 0 → s.dev.core.rsState = sUnlocked →
    Answers (exec .loRestored s) fun t =>
      t.dev.core.rsState = sCal ∧ t.dev.core.rd RS_STAT.lo_ok = 1 ∧ t.dev.core.rd RS_EVENT.lo_back = 1)

/-- R184, R192, R193, R195, R196 and R200: the changes of an output synthesiser's state, its commits and its return.
The model's own choices and readings here: log entries 39 (DEDUCED), 40 (DEDUCED), 41 (DEDUCED), 111 (DESIGN CHOICE). -/
def Obligations.SynthesiserStates : Prop :=
  (∀ (s : State) (n : Fin 4) (band : BitVec 8), Running s → n.val < s.dev.core.part.nSyn → s.dev.core.synState n.val = sCal →
    Answers (exec (.synCalDone n band) s) fun t =>
      t.dev.core.synState n.val = sAcq ∧
      t.dev.core.rd SYN_STAT.vco_band n.val = band.toNat % 2 ^ SYN_STAT.vco_band.width) ∧
  (∀ (s : State) (n : Fin 4) (count : BitVec 32), Running s → n.val < s.dev.core.part.nSyn →
    s.dev.core.synState n.val = sAcq → (s.dev.core.syn n.val).inWin = 3 →
    inWindow count.toNat (s.dev.core.rd SYN_LOCK_CFG.win n.val) = true →
    Answers (exec (.lockCountEnd n.castSucc count) s) fun t =>
      t.dev.core.synState n.val = sLocked ∧ t.dev.core.rd SYN_FCOUNT.count n.val = count.toNat ∧
      t.dev.core.rd SYN_EVENT.lock n.val = 1) ∧
  (∀ (s : State) (n : Fin 4), Running s → n.val < s.dev.core.part.nSyn → s.dev.core.synState n.val = sAcq →
    Answers (exec (.acquireTimeout n.castSucc) s) fun t => t.dev.core.synState n.val = sCal) ∧
  (∀ (s : State) (n : Fin 4), Running s → n.val < s.dev.core.part.nSyn → s.dev.core.synState n.val = sLocked →
    s.dev.core.rd SYN_CFG.en n.val = 1 → s.dev.core.rsLocked = true → s.dev.core.inRst = [] →
    Answers (exec (.synRelock n) s) fun t =>
      t.dev.core.synState n.val = sCal ∧ (t.dev.core.syn n.val).returned = false ∧
      t.dev.core.rd SYN_EVENT.lock_lost n.val = 1) ∧
  (∀ (s : State) (n : Fin 4), Running s → n.val < s.dev.core.part.nSyn → s.dev.core.rd SYN_STAT.commit_pend n.val = 1 →
    Answers (exec (.commit n) s) fun t =>
      t.dev.core.rd SYN_EVENT.commit_refused n.val = 1 ∧ t.dev.core.rd SYN_STAT.commit_pend n.val = 1) ∧
  (∀ (s : State) (n : Fin 4) (m : Fin 6), Running s → n.val < s.dev.core.part.nSyn →
    s.dev.core.rd SYN_STAT.commit_pend n.val = 0 → (List.range 6).all (fun m => s.dev.core.stageOk n.val m) = true →
    s.dev.core.synState n.val ≠ sLocked →
    Answers (exec (.commit n) s) fun t =>
      t.dev.core.rd SYN_DIV_ACT.div n.val m.val = s.dev.core.rd SYN_DIV_STAGE.div n.val m.val ∧
      t.dev.core.rd SYN_DIV_ACT.phase n.val m.val = s.dev.core.rd SYN_DIV_STAGE.phase n.val m.val ∧
      t.dev.core.rd SYN_EVENT.commit_done n.val = 1) ∧
  (∀ (s : State) (n : Fin 4), Running s → n.val < s.dev.core.part.nSyn →
    s.dev.core.rd SYN_STAT.commit_pend n.val = 0 → (List.range 6).all (fun m => s.dev.core.stageOk n.val m) = true →
    s.dev.core.synState n.val = sLocked → (s.dev.core.syn n.val).returned = true →
    Answers (exec (.commit n) s) fun t => t.dev.core.rd SYN_STAT.commit_pend n.val = 1) ∧
  (∀ (s : State) (n : Fin 4) (m : Fin 6), Running s → n.val < s.dev.core.part.nSyn →
    s.dev.core.rd SYN_STAT.commit_pend n.val = 1 →
    Answers (exec (.commitLoad n) s) fun t =>
      t.dev.core.rd SYN_DIV_ACT.div n.val m.val = s.dev.core.rd SYN_DIV_STAGE.div n.val m.val ∧
      t.dev.core.rd SYN_STAT.commit_pend n.val = 0 ∧ t.dev.core.rd SYN_EVENT.commit_done n.val = 1) ∧
  (∀ (s : State) (n : Fin 4), Running s → n.val < s.dev.core.part.nSyn → s.dev.core.synState n.val = sLocked →
    (s.dev.core.syn n.val).returned = false → (s.dev.core.syn n.val).retPend = false →
    Answers (exec (.ret n) s) fun t => (t.dev.core.syn n.val).retPend = true) ∧
  (∀ (s : State) (n : Fin 4) (m : Fin 6) (diff : Int), Running s → n.val < s.dev.core.part.nSyn →
    (s.dev.core.syn n.val).retPend = true → s.dev.core.rd OUT_CFG.force_byp (6 * n.val + m.val) = 0 →
    Answers (exec (.return_ n diff) s) fun t =>
      (t.dev.core.syn n.val).returned = true ∧ (t.dev.core.syn n.val).retPend = false ∧
      bitOf (t.dev.core.rd SYN_STAT.byp n.val) m.val = false ∧ t.dev.core.rd SYN_EVENT.returned n.val = 1) ∧
  (∀ (s : State) (n : Fin 4), Running s → n.val < s.dev.core.part.nSyn → s.dev.core.synState n.val = sLocked →
    Answers (exec (.phaseQuantum n) s) fun t =>
      (t.dev.core.syn n.val).phase = (s.dev.core.syn n.val).phase -
        (clampI (-(s.dev.core.quota n.val : Int)) (s.dev.core.quota n.val) (s.dev.core.syn n.val).quanta : Rat) * quantum)

/-- R83, R205 to R209: the edges of an aligner, its companion's stamps and its time-of-day frames.
The model's own choices and readings here: log entry 42 (DEDUCED). -/
def Obligations.AlignerEdges : Prop :=
  (∀ (s : State) (a : Fin 8) (t f : Int), Running s →
    (s.dev.core.paState a.val = paRun ∨ s.dev.core.paState a.val = paHold) → (s.dev.core.pa a.val).trail = none →
    s.dev.core.paTarget a.val = some (t, f) →
    Answers (exec (.paEdgeLatch a) s) fun u =>
      (u.dev.core.pa a.val).edges = (s.dev.core.pa a.val).edges ++ [(((s.dev.core.paLimit a.val t).1 : Rat), true)] ∧
      (u.dev.core.pa a.val).pos = some (s.dev.core.paLimit a.val t).1 ∧
      (u.dev.core.pa a.val).trail = some (s.dev.core.paLimit a.val t).1 ∧
      u.dev.core.paState a.val = s.dev.core.paState a.val) ∧
  (∀ (s : State) (a : Fin 8) (l : Int), Running s →
    (s.dev.core.paState a.val = paWait ∨ s.dev.core.paState a.val = paRun ∨ s.dev.core.paState a.val = paHold) →
    (s.dev.core.pa a.val).trail = some l →
    Answers (exec (.paEdgeLatch a) s) fun u =>
      (u.dev.core.pa a.val).edges = (s.dev.core.pa a.val).edges ++ [((l : Rat) + s.dev.core.paWidth a.val, false)] ∧
      (u.dev.core.pa a.val).trail = none ∧ (u.dev.core.pa a.val).pos = (s.dev.core.pa a.val).pos) ∧
  (∀ (s : State) (a : Fin 8) (t f : Int), Running s → s.dev.core.paState a.val = paWait →
    (s.dev.core.pa a.val).trail = none → s.dev.core.paTarget a.val = some (t, f) →
    Answers (exec (.paEdgeLatch a) s) fun u =>
      u.dev.core.paState a.val = paRun ∧ u.dev.core.rd PAL_PA_EVENT.run a.val = 1) ∧
  (∀ (s : State) (a : Fin 8) (e : Rat) (r : List (Rat × Bool)), Running s → (s.dev.core.pa a.val).edges = (e, true) :: r →
    Answers (exec (.paEdge a) s) fun u =>
      (u.dev.core.pa a.val).edges = r ∧ (u.dev.core.pa a.val).high = true ∧
      u.dev.core.rd PAL_PA_EDGE_NS.ns a.val = ((roundR16 ((roundR16 ((e + (s.dev.core.pa a.val).carry) / edgeUnit) : Rat) *
        edgeUnit)).toNat % secPU) / 65536) ∧
  (∀ (s : State) (a : Fin 8) (e : Rat) (r : List (Rat × Bool)), Running s → (s.dev.core.pa a.val).edges = (e, false) :: r →
    Answers (exec (.paEdge a) s) fun u => (u.dev.core.pa a.val).edges = r ∧ (u.dev.core.pa a.val).high = false) ∧
  (∀ (s : State) (pin : Fin 16) (t : Nat) (a : Fin 8), Running s → s.dev.core.rd REF_CFG.mode pin.val = 2 →
    s.dev.core.rd PAL_PA_CFG.mode a.val = 2 → s.dev.core.rd PAL_PA_CFG.src a.val = pin.val →
    s.dev.core.paState a.val ≠ paOff →
    Answers (exec (.companionStamp pin t) s) fun u =>
      (u.dev.core.pa a.val).ts = some (s.dev.core.tsGrid t) ∧ u.dev.core.paState a.val ≠ paHold) ∧
  (∀ (s : State) (a : Fin 8), Running s → s.dev.core.paState a.val = paRun → s.dev.core.rd PAL_PA_CFG.mode a.val = 2 →
    Answers (exec (.companionTimeout a) s) fun u =>
      u.dev.core.paState a.val = paHold ∧ u.dev.core.rd PAL_PA_STAT.cause a.val = kcCandLost ∧
      bitOf (u.dev.core.rd FLT_RAW.hit 0 0) 27 = true) ∧
  (∀ (s : State) (a : Fin 8) (sec : Nat), Running s → (s.dev.core.pa a.val).tod = some sec → s.dev.core.paState a.val = paRun →
    s.dev.core.rd PAL_PA_CFG.tod_en a.val = 1 → s.dev.core.todHolder (s.dev.core.rd PAL_PA_CFG.tod_pin a.val) = some a.val →
    Answers (exec (.todoutFrame a) s) fun u =>
      u.dev.core.rd PAL_PA_EVENT.tod_sent a.val = 1 ∧ (u.dev.core.pa a.val).tod = none ∧
      u.dev.core.pal.sent.get [] (s.dev.core.rd PAL_PA_CFG.tod_pin a.val) =
        todFrame sec (s.dev.core.rd PAL_PA_TOD.cclass a.val) (s.dev.core.rd PAL_PA_TOD.flags a.val)
          (s.dev.core.rd PAL_PA_TOD.utc_offset a.val))

/-- R222, R225, R226, R227, R236 and R237: the gate of the interval meter opens, closes and is aborted.
The model's own choices and readings here: log entry 43 (DEDUCED). -/
def Obligations.GateStates : Prop :=
  (∀ (s : State), Running s → s.dev.core.estRun = true → s.dev.core.timState = tsReady →
    s.dev.core.rd TIM_CFG.gate_src = 2 → s.dev.core.pclk = true →
    Answers (exec (.arm false) s) fun t =>
      t.dev.core.timState = tsGating ∧ t.dev.core.rd TIM_BUF_STAT.count = 0 ∧
      t.dev.core.rd TIM_STAT.meas = (s.dev.core.rd TIM_STAT.meas + 1) % 2 ^ 16) ∧
  (∀ (s : State), Running s → s.dev.core.estRun = true → s.dev.core.timState ≠ tsReady →
    Answers (exec (.arm false) s) fun t =>
      t.dev.core.rd TIM_EVENT.arm_ignored = 1 ∧ t.dev.core.timState = s.dev.core.timState) ∧
  (∀ (s : State) (level : Bool), Running s → s.dev.core.timState = tsReady → s.dev.core.rd TIM_CFG.gate_src = 0 →
    s.dev.core.pclk = true → s.dev.core.tim.gatePin ≠ level → level ≠ s.dev.core.rdB TIM_CFG.gate_pol →
    Answers (exec (.timgateEdge level) s) fun t => t.dev.core.timState = tsGating ∧ t.dev.core.tim.gatePin = level) ∧
  (∀ (s : State) (level : Bool), Running s → s.dev.core.timState = tsGating → s.dev.core.rd TIM_CFG.gate_src = 0 →
    s.dev.core.tim.gatePin ≠ level → level = s.dev.core.rdB TIM_CFG.gate_pol →
    Answers (exec (.timgateEdge level) s) fun t =>
      t.dev.core.timState = tsFinishing ∧ t.dev.core.rd TIM_STAT.endCode = 1) ∧
  (∀ (s : State), Running s → s.dev.core.timState = tsGating → s.dev.core.rd TIM_CFG.gate_src ≠ 0 →
    s.dev.core.rd TIM_GATE_LEN.len ≠ 0 →
    Answers (exec .gateLengthExpire s) fun t =>
      t.dev.core.timState = tsFinishing ∧ t.dev.core.rd TIM_STAT.endCode = 1) ∧
  (∀ (s : State), Running s → s.dev.core.timState = tsGating →
    Answers (exec .range s) fun t => t.dev.core.timState = tsFinishing ∧ t.dev.core.rd TIM_STAT.endCode = 4) ∧
  (∀ (s : State), Running s → s.dev.core.timState = tsGating → s.dev.core.estRun = true →
    Answers (exec (.timCtrlAbort false) s) fun t =>
      t.dev.core.timState = tsFinishing ∧ t.dev.core.rd TIM_STAT.endCode = 5 ∧ t.dev.core.rd TIM_STAT.abort_st = 1 ∧
      t.dev.core.rd TIM_EVENT.aborted = 1) ∧
  (∀ (s : State) (b : Bool), Running s → s.dev.core.timState = tsFinishing → s.dev.core.estRun = true →
    Answers (exec (.timCtrlAbort b) s) fun t =>
      t.dev.core.timState = tsFinishing ∧ t.dev.core.rd TIM_STAT.abort_st =
        (if s.dev.core.timGate.aborted then s.dev.core.rd TIM_STAT.abort_st else 2)) ∧
  (∀ (s : State), Running s → s.dev.core.timState = tsFinishing → s.dev.core.rd TIM_CFG.gate_src ≠ 0 →
    Answers (exec .timResult s) fun t =>
      t.dev.core.timState = tsReady ∧ t.dev.core.tim.gate = none ∧ t.dev.core.rd TIM_EVENT.result = 1)

/-- R221, R228, R229, R230, R233 and R368: edges, the reference multiplier and the calibration of the interval meter.
The model's own choices and readings here: log entries 44 (DEDUCED), 45 (DEDUCED). -/
def Obligations.MeterEdges : Prop :=
  (∀ (s : State) (cyc t : Nat) (code : BitVec 11) (sw : Bool), Running s → s.dev.core.timState = tsReady →
    Answers (exec (.timEdge true cyc code t sw) s) fun u =>
      u.dev.core.rd TIM_EARLY_CNT.count = min (2 ^ TIM_EARLY_CNT.count.width - 1) (s.dev.core.rd TIM_EARLY_CNT.count + 1)) ∧
  (∀ (s : State) (cyc t : Nat) (code : BitVec 11), Running s → s.dev.core.timState = tsGating →
    s.dev.core.rd TIM_CFG.mode = 0 → s.dev.core.tim.gate = some {} →
    Answers (exec (.timEdge false cyc code t false) s) fun u =>
      (u.dev.core.tim.gate.bind Gate.pairA) = some ⟨cyc, (s.dev.core.tdcTab 20).fine code.toNat, s.dev.core.tsGrid t⟩ ∧
      u.dev.core.timState = tsGating) ∧
  (∀ (s : State), Running s → s.dev.core.rd TIM_REF_CFG.use = 1 → s.dev.core.rd TIM_STAT.tb_state = 0 →
    Answers (exec .timrefActivity s) fun u => u.dev.core.rd TIM_STAT.tb_state = 1) ∧
  (∀ (s : State) (count : BitVec 32) (dur : Nat), Running s → s.dev.core.rd TIM_STAT.tb_state = 1 →
    s.dev.core.tim.passRun = 3 → ((count.toNat : Int) - 65536).natAbs ≤ s.dev.core.rd TIM_REF_CFG.win →
    timrefNear dur = true →
    Answers (exec (.timrefCountEnd count dur) s) fun u =>
      u.dev.core.rd TIM_STAT.tb_state = 2 ∧ u.dev.core.rd TIM_EVENT.tb_locked = 1) ∧
  (∀ (s : State), Running s → s.dev.core.rd TIM_STAT.tb_state = 2 →
    Answers (exec .timrefGap s) fun u =>
      u.dev.core.rd TIM_STAT.tb_state = 0 ∧ u.dev.core.rd TIM_EVENT.tb_lost = 1 ∧
      bitOf (u.dev.core.rd FLT_RAW.hit 0 0) 28 = true) ∧
  (∀ (s : State), Running s →
    Answers (exec .calNow s) fun u => u.dev.core.tim.next = some (s.dev.core.rd TIM_CAL_SEL.tdc)) ∧
  (∀ (s : State) (k : Nat), Running s → s.dev.core.tim.next = some k → s.dev.core.tim.wait = [] →
    Answers (exec .calSlot s) fun u => u.dev.core.tim.cur = some k ∧ u.dev.core.tim.next = none) ∧
  (∀ (s : State), Running s → s.dev.core.tim.next = none → s.dev.core.tim.wait = [] →
    Answers (exec .calSlot s) fun u => u.dev.core.tim.slot = (s.dev.core.tim.slot + 1) % 32) ∧
  (∀ (s : State) (k : Fin 32) (hits : List Nat), Running s → s.dev.core.part.tdc k.val = true → s.dev.core.courseCal = true →
    s.dev.core.pclk = true → tabOf hits (2 ^ 20 * 99) = none →
    Answers (exec (.calTableDone k hits) s) fun u =>
      (u.dev.core.tdcTab k.val).nominal = true ∧ bitOf (u.dev.core.rd FLT_RAW.hit 0 0) 29 = true) ∧
  (∀ (s : State) (k : Fin 32) (hits : List Nat), Running s → s.dev.core.part.tdc k.val = true → s.dev.core.courseCal = true →
    s.dev.core.pclk = true → s.dev.core.tabsBusy = false → s.dev.core.badUse 1 = false →
    (tabOf hits (2 ^ 20 * 99)).isSome = true →
    Answers (exec (.calTableDone k hits) s) fun u => u.dev.core.tdcTab k.val = 
        { widths := (tabOf hits (2 ^ 20 * 99)).getD [], span := ((tabOf hits (2 ^ 20 * 99)).getD []).length, measured := true }) ∧
  (∀ (s : State), Running s →
    Answers (exec .timCalDataRead s) fun u =>
      u.dev.core.rd TIM_CAL_IDX.entry = (s.dev.core.rd TIM_CAL_IDX.entry + 1) % 2048)

/-- R243, R245, R246 and R268: the states of a lane follow its receivers, and isolation and negotiation.
The model's own choices and readings here: log entries 46 (DEDUCED), 114 (DEDUCED). -/
def Obligations.LaneStates : Prop :=
  (∀ (s : State) (n : Fin 4), Running s → n.val < s.dev.core.part.nLane → s.dev.core.pclk = true →
    s.dev.core.rd ETH_CFG.en n.val = 1 → s.dev.core.rd ETH_CFG.mode n.val ≠ 3 → s.dev.core.rd ETH_LOOP.depth n.val = 0 →
    s.dev.core.inRst = [] → s.dev.core.engaged = [] → s.dev.core.rd ETH_STAT.isolated n.val = 0 →
    s.dev.core.laneState n.val = leDown →
    Answers (exec (.laneSync n true true) s) fun t =>
      t.dev.core.laneState n.val = leUp ∧ t.dev.core.rd ETH_STAT.l_sync n.val = 1 ∧ t.dev.core.rd ETH_STAT.m_sync n.val = 1 ∧
      t.dev.core.rd ETH_EVENT.up n.val = 1) ∧
  (∀ (s : State) (n : Fin 4) (line : Bool), Running s → n.val < s.dev.core.part.nLane → s.dev.core.pclk = true →
    s.dev.core.rd ETH_CFG.en n.val = 1 → s.dev.core.rd ETH_CFG.mode n.val ≠ 3 → s.dev.core.rd ETH_LOOP.depth n.val = 0 →
    s.dev.core.inRst = [] → s.dev.core.engaged = [] → s.dev.core.laneState n.val = leUp →
    Answers (exec (.laneSyncLost n line) s) fun t =>
      t.dev.core.laneState n.val = leDown ∧ t.dev.core.rd ETH_EVENT.down n.val = 1 ∧
      bitOf (t.dev.core.rd FLT_RAW.hit 0 1) 0 = true) ∧
  (∀ (s : State) (n : Fin 4), Running s → n.val < s.dev.core.part.nLane →
    Answers (exec (.laneRelease n) s) fun t => t.dev.core.rd ETH_STAT.isolated n.val = 0) ∧
  (∀ (s : State) (n : Fin 4), Running s → n.val < s.dev.core.part.nLane → s.dev.core.laneAn n.val = true →
    Answers (exec (.anRestart n) s) fun t =>
      t.dev.core.rd ETH_STAT.l_sync n.val = 0 ∧ t.dev.core.rd ETH_STAT.m_sync n.val = 0) ∧
  (∀ (s : State) (n : Fin 4) (pause : BitVec 2), Running s → n.val < s.dev.core.part.nLane → s.dev.core.laneAn n.val = true →
    (s.dev.core.lane n.val).advM ≠ pause.toNat →
    Answers (exec (.pauseBitsChange n true pause) s) fun t =>
      (t.dev.core.lane n.val).advM = pause.toNat ∧ t.dev.core.rd ETH_STAT.m_sync n.val = 0) ∧
  (∀ (s : State) (n : Fin 4) (pause : BitVec 2), Running s → n.val < s.dev.core.part.nLane → s.dev.core.laneAn n.val = true →
    (s.dev.core.lane n.val).advL ≠ pause.toNat →
    Answers (exec (.pauseBitsChange n false pause) s) fun t =>
      (t.dev.core.lane n.val).advL = pause.toNat ∧ t.dev.core.rd ETH_STAT.l_sync n.val = 0)

/-- R247, R248, R249, R260, R261, R262 and R264: frames through a lane.
The model's own choices and readings here: log entries 46 (DEDUCED), 48 (PRESUMED), 49 (DEDUCED), 115 (DEDUCED), 116 (DEDUCED). -/
def Obligations.LaneFrames : Prop :=
  (∀ (s : State) (n : Fin 4) (l : List Byte) (good : Bool) (word pos tTx room words : Nat), Running s →
    n.val < s.dev.core.part.nLane → s.dev.core.laneState n.val = leUp →
    s.dev.core.insPending n.val = false → s.dev.core.admits n.val true room = true →
    l.length + 4 ≤ s.dev.core.rd ETH_CFG.maxlen n.val → s.dev.core.parse n.val l = .other →
    Answers (exec (.throughFrame n true l good (word, pos) tTx room words) s) fun t =>
      (t.dev.core.lane n.val).ltx = some ⟨l, good, false, tTx⟩ ∧ (t.dev.core.lane n.val).mtx = (s.dev.core.lane n.val).mtx) ∧
  (∀ (s : State) (n : Fin 4) (l : List Byte) (good : Bool) (word pos tTx room words : Nat), Running s →
    n.val < s.dev.core.part.nLane → s.dev.core.laneState n.val = leUp →
    s.dev.core.rd ETH_CFG.maxlen n.val + 64 ≤ min room 32768 → l.length + 4 ≤ s.dev.core.rd ETH_CFG.maxlen n.val →
    esmcPdu l = false → s.dev.core.parse n.val l = .other →
    Answers (exec (.throughFrame n false l good (word, pos) tTx room words) s) fun t =>
      (t.dev.core.lane n.val).mtx = some ⟨l, good, false, tTx⟩ ∧ (t.dev.core.lane n.val).ltx = (s.dev.core.lane n.val).ltx) ∧
  (∀ (s : State) (n : Fin 4) (l : List Byte) (good : Bool) (word pos tTx room words : Nat), Running s →
    n.val < s.dev.core.part.nLane → s.dev.core.laneState n.val = leUp →
    s.dev.core.insPending n.val = true → s.dev.core.admits n.val true room = true →
    l.length + 4 ≤ s.dev.core.rd ETH_CFG.maxlen n.val → s.dev.core.parse n.val l = .other →
    Answers (exec (.throughFrame n true l good (word, pos) tTx room words) s) fun t =>
      (t.dev.core.lane n.val).buf = (s.dev.core.lane n.val).buf ++ [⟨l, good, false, tTx⟩] ∧
      (t.dev.core.lane n.val).ltx = (s.dev.core.lane n.val).ltx) ∧
  (∀ (s : State) (n : Fin 4) (m2l : Bool) (l : List Byte) (good : Bool) (word pos tTx room words : Nat), Running s →
    n.val < s.dev.core.part.nLane → s.dev.core.laneState n.val = leUp →
    room < s.dev.core.rd ETH_CFG.maxlen n.val + 64 → (m2l = true ∨ esmcPdu l = false) →
    Answers (exec (.throughFrame n m2l l good (word, pos) tTx room words) s) fun t =>
      t.dev.core.lane n.val = s.dev.core.lane n.val ∧ t.dev.core.rd ETH_EVENT.drop n.val = 1 ∧
      bitOf (t.dev.core.rd FLT_RAW.hit 0 1) 1 = true) ∧
  (∀ (s : State) (n : Fin 4) (f : InsFrame) (rest : List InsFrame) (tTx : Nat), Running s →
    n.val < s.dev.core.part.nLane → s.dev.core.laneState n.val = leUp → (s.dev.core.lane n.val).ins = f :: rest →
    Answers (exec (.insertedFrame n tTx false) s) fun t =>
      (t.dev.core.lane n.val).ins = rest ∧
      (f.event = false → (t.dev.core.lane n.val).sent = some f) ∧
      (f.event = true → (f.dest.getD {}).enc ≤ 1 → 34 ≤ f.bytes.length →
        (t.dev.core.lane n.val).sent = some { f with bytes := fput f.bytes 8 (bytesBE 8 (ofS 64
          (ptpCorr f.bytes 0 + ((tTx : Int) + s.dev.core.dly ETH_TX_DLY_L.dly n.val - f.tIns)))) }) ∧
      (rest = [] → (s.dev.core.lane n.val).buf = [] → s.dev.core.rd HLK_IB_CFG.en = 0 → (t.dev.core.lane n.val).ltx.map TxFrame.start = some tTx)) ∧
  (∀ (s : State) (n : Fin 4) (l : List Byte) (good : Bool) (tm : Nat), Running s → n.val < s.dev.core.part.nLane →
    s.dev.core.laneState n.val = leUp ∨ s.dev.core.laneState n.val = leDown → esmcOk l good = false →
    Answers (exec (.esmcPduRx n l good tm) s) fun t =>
      t.dev.core.rd ETH_ESMC_BAD.count n.val = min (2 ^ ETH_ESMC_BAD.count.width - 1) (s.dev.core.rd ETH_ESMC_BAD.count n.val + 1) ∧
      t.dev.core.rd ETH_ESMC_CNT.count n.val = s.dev.core.rd ETH_ESMC_CNT.count n.val ∧
      (t.dev.core.lane n.val).mtx = (s.dev.core.lane n.val).mtx) ∧
  (∀ (s : State) (n : Fin 4) (l : List Byte) (good : Bool) (word pos tTx room words : Nat), Running s →
    n.val < s.dev.core.part.nLane → s.dev.core.laneState n.val = leUp → esmcPdu l = true → esmcOk l good = false →
    Answers (exec (.throughFrame n false l good (word, pos) tTx room words) s) fun t =>
      t.dev.core.rd ETH_ESMC_BAD.count n.val = min (2 ^ ETH_ESMC_BAD.count.width - 1) (s.dev.core.rd ETH_ESMC_BAD.count n.val + 1) ∧
      (t.dev.core.lane n.val).mtx = (s.dev.core.lane n.val).mtx) ∧
  (∀ (s : State) (n : Fin 4) (l : List Byte) (tm : Nat), Running s → n.val < s.dev.core.part.nLane →
    s.dev.core.laneState n.val = leUp ∨ s.dev.core.laneState n.val = leDown → (s.dev.core.lane n.val).esmcT = [] → esmcOk l true = true →
    Answers (exec (.esmcPduRx n l true tm) s) fun t =>
      t.dev.core.rd ETH_ESMC_CNT.count n.val = min (2 ^ ETH_ESMC_CNT.count.width - 1) (s.dev.core.rd ETH_ESMC_CNT.count n.val + 1))

/-- R251, R255, R272, R273 and R278: what an engine port takes from the messages of its master and of its peer. A forward or backward delay reaches
every servo of the port that is not OFF.
The model's own choices and readings here: log entries 50 (PRESUMED), 51 (DEDUCED), 52 (DEDUCED), 115 (DEDUCED). -/
def Obligations.PtpMessages : Prop :=
  (∀ (s : State) (n : Fin 4) (tr : Nat) (tm : Nat) (l : List Byte) (m : Msg) (d p : Nat) (sv : Fin 4), Running s →
    PtpTaken s.dev.core n.val l tm tr m d p → m.type = 0 → s.dev.core.portSlave p = true → (s.dev.core.pport p).parent = some m.src →
    m.twoStep = false → s.dev.core.rd PTE_SV_CFG.port sv.val = p → 1 ≤ s.dev.core.svState sv.val →
    Answers (exec (.syncRx n tm l) s) fun t =>
      (t.dev.core.sv sv.val).df = (s.dev.core.sv sv.val).df ++ [(tr : Int) - m.time - m.corr -
        s.dev.core.stepAfter (s.dev.core.heard n.val l tm).2.pte.rxAt] ∧
      (t.dev.core.pport p).vid = m.vid ∧ (t.dev.core.pport p).sync = none) ∧
  (∀ (s : State) (n : Fin 4) (tr : Nat) (tm : Nat) (l : List Byte) (m : Msg) (d p : Nat), Running s →
    PtpTaken s.dev.core n.val l tm tr m d p → m.type = 0 → s.dev.core.portSlave p = true → (s.dev.core.pport p).parent = some m.src →
    m.twoStep = true →
    Answers (exec (.syncRx n tm l) s) fun t =>
      (t.dev.core.pport p).sync = some (m.seq, tr, m.corr) ∧
      (t.dev.core.pport p).syncAt = (s.dev.core.heard n.val l tm).2.pte.rxAt ∧ (∀ sv < 4, t.dev.core.sv sv = s.dev.core.sv sv)) ∧
  (∀ (s : State) (n : Fin 4) (tm : Nat) (l : List Byte) (m : Msg), Running s → n.val < s.dev.core.part.nLane →
    s.dev.core.pteRun = true → (s.dev.core.heard n.val l tm).1.isSome = true → s.dev.core.msgOf n.val l = some m →
    s.dev.core.msgDom n.val m = none →
    Answers (exec (.syncRx n tm l) s) fun t =>
      t.dev.core.rd PTE_DISCARD_CNT.count = min (2 ^ PTE_DISCARD_CNT.count.width - 1) (s.dev.core.rd PTE_DISCARD_CNT.count + 1) ∧
      (∀ p < 4, t.dev.core.pport p = s.dev.core.pport p)) ∧
  (∀ (s : State) (n : Fin 4) (tm : Nat) (l : List Byte), Running s → n.val < s.dev.core.part.nLane →
    s.dev.core.pteRun = true → (s.dev.core.heard n.val l tm).1 = none →
    Answers (exec (.syncRx n tm l) s) fun t =>
      t.dev.core.rd PTE_DISCARD_CNT.count = s.dev.core.rd PTE_DISCARD_CNT.count ∧
      (∀ p < 4, t.dev.core.pport p = s.dev.core.pport p)) ∧
  (∀ (s : State) (n : Fin 4) (tr : Nat) (tm t2 : Nat) (corr : Int) (l : List Byte) (m : Msg) (d p : Nat) (sv : Fin 4), Running s →
    PtpTaken s.dev.core n.val l tm tr m d p → m.type = 8 → s.dev.core.portSlave p = true → (s.dev.core.pport p).parent = some m.src →
    (s.dev.core.pport p).sync = some (m.seq, t2, corr) →
    (((tr : Int) - t2 : Int) : Rat) ≤ (secPU : Rat) * (2 : Rat) ^ (s.dev.core.logSync d p) →
    s.dev.core.rd PTE_SV_CFG.port sv.val = p → 1 ≤ s.dev.core.svState sv.val →
    Answers (exec (.followUpRx n tm l) s) fun t =>
      (t.dev.core.pport p).sync = none ∧
      (t.dev.core.sv sv.val).df = (s.dev.core.sv sv.val).df ++ [(t2 : Int) - m.time - corr - m.corr -
        s.dev.core.stepAfter (s.dev.core.pport p).syncAt]) ∧
  (∀ (s : State) (n : Fin 4) (tr : Nat) (t3 : Nat) (l : List Byte) (m : Msg) (d p : Nat) (sv : Fin 4), Running s →
    PtpTaken s.dev.core n.val l 0 tr m d p → m.type = 9 → s.dev.core.portSlave p = true →
    (s.dev.core.pport p).parent = some m.src → (s.dev.core.pport p).req = some (m.seq, t3) → m.reqId = s.dev.core.portId p →
    s.dev.core.rd PTE_SV_CFG.port sv.val = p → 1 ≤ s.dev.core.svState sv.val →
    Answers (exec (.delayRespRx n l) s) fun t =>
      (t.dev.core.pport p).req = none ∧
      (t.dev.core.sv sv.val).db = (s.dev.core.sv sv.val).db ++ [(m.time : Int) - t3 - m.corr +
        s.dev.core.stepAfter (s.dev.core.pport p).reqAt]) ∧
  (∀ (s : State) (n : Fin 4) (tr : Nat) (tm : Nat) (l : List Byte) (m : Msg) (d p : Nat), Running s →
    PtpTaken s.dev.core n.val l tm tr m d p → m.type = 2 → s.dev.core.profile d = 3 → s.dev.core.clockId ≠ 0 →
    Answers (exec (.pdelayReqRx n tm l) s) fun t =>
      (t.dev.core.lane n.val).queued = (s.dev.core.lane n.val).queued ++ [⟨some (s.dev.core.portDest d p),
        s.dev.core.msg d 3 0 0 (m.corr + ((s.dev.core.tIns : Int) - tr)) (s.dev.core.portId p) m.seq 5 0x7F
          (List.replicate 10 0#8 ++ bytesBE 10 m.src), true, s.dev.core.tIns⟩]) ∧
  (∀ (s : State) (n : Fin 4) (tr : Nat) (tm t1 : Nat) (l : List Byte) (m : Msg) (d p : Nat), Running s →
    PtpTaken s.dev.core n.val l tm tr m d p → m.type = 3 → s.dev.core.profile d = 3 → m.twoStep = false →
    (s.dev.core.pport p).req = some (m.seq, t1) → m.reqId = s.dev.core.portId p →
    Answers (exec (.pdelayRespRx n tm l) s) fun t =>
      (t.dev.core.pport p).req = none ∧
      (t.dev.core.pport p).mld = some (((((tr : Int) - t1 + (s.dev.core.stepAfter (s.dev.core.pport p).reqAt -
        s.dev.core.stepAfter (s.dev.core.heard n.val l tm).2.pte.rxAt) : Int) : Rat) * (s.dev.core.pport p).nrr - m.corr) / 2)) ∧
  (∀ (s : State) (n : Fin 4) (tr : Nat) (tm t1 : Nat) (l : List Byte) (m : Msg) (d p : Nat), Running s →
    PtpTaken s.dev.core n.val l tm tr m d p → m.type = 3 → s.dev.core.profile d = 3 → m.twoStep = true →
    (s.dev.core.pport p).req = some (m.seq, t1) → m.reqId = s.dev.core.portId p →
    Answers (exec (.pdelayRespRx n tm l) s) fun t =>
      (t.dev.core.pport p).presp = some (m.seq, m.time, tr, m.corr) ∧
      (t.dev.core.pport p).prespAt = (s.dev.core.heard n.val l tm).2.pte.rxAt ∧ (t.dev.core.pport p).req = (s.dev.core.pport p).req) ∧
  (∀ (s : State) (n : Fin 4) (tr : Nat) (q t1 t2 t4 : Nat) (corr : Int) (l : List Byte) (m : Msg) (d p : Nat), Running s →
    PtpTaken s.dev.core n.val l 0 tr m d p → m.type = 0xA → s.dev.core.profile d = 3 →
    (s.dev.core.pport p).req = some (q, t1) → (s.dev.core.pport p).presp = some (m.seq, t2, t4, corr) →
    m.reqId = s.dev.core.portId p → (s.dev.core.pport p).pair = none →
    Answers (exec (.pdelayRespFollowUpRx n l) s) fun t =>
      (t.dev.core.pport p).mld = some (((((t4 : Int) - t1 + (s.dev.core.stepAfter (s.dev.core.pport p).reqAt -
        s.dev.core.stepAfter (s.dev.core.pport p).prespAt) : Int) : Rat) * (s.dev.core.pport p).nrr - ((m.time : Int) - t2 : Int) -
        (corr + m.corr : Int)) / 2) ∧
      (t.dev.core.pport p).pair = some ((m.time : Int) + (corr + m.corr), t4) ∧ (t.dev.core.pport p).req = none)

/-- R273, R275, R276, R277 and R288: Announces, the loss of a master, and the messages that a port sends.
The model's own choices and readings here: log entries 50 (PRESUMED), 51 (DEDUCED). -/
def Obligations.PortsAndAnnounces : Prop :=
  (∀ (s : State) (n : Fin 4) (tr : Nat) (l : List Byte) (m : Msg) (d p : Nat), Running s → PtpTaken s.dev.core n.val l 0 tr m d p →
    m.type = 0xB → 4 ≤ s.dev.core.portState p → s.dev.core.rd PTE_PORT_CFG.master_only p = 0 →
    m.src / 65536 ≠ s.dev.core.clockId → m.ann.steps < 255 →
    Answers (exec (.announceRx n l) s) fun t =>
      (t.dev.core.pport p).foreign = { m.ann with
        n := match (s.dev.core.pport p).foreign.find? (fun a => a.src = m.src) with
          | some a => min 255 (a.n + 1)
          | none => 1
        t0 := s.dev.core.now
        t1 := (((s.dev.core.pport p).foreign.find? (fun a => a.src = m.src)).map Ann.t0).getD 0 } :: (s.dev.core.pport p).foreign.filter (fun a => a.src ≠ m.src)) ∧
  (∀ (s : State) (p : Fin 4) (d : Nat), Running s → s.dev.core.pteRun = true → s.dev.core.portDom p.val = some d →
    s.dev.core.portSlave p.val = true →
    Answers (exec (.announceTimeout p) s) fun t =>
      t.dev.core.rd PTE_EVENT.master_lost = 1 ∧ bitOf (t.dev.core.rd FLT_RAW.hit 0 1) 5 = true ∧
      (t.dev.core.pport p.val).foreign.all (fun a => (s.dev.core.pport p.val).foreign.contains a) = true) ∧
  (∀ (s : State) (p : Fin 4) (d : Nat), Running s → s.dev.core.pteRun = true → s.dev.core.portDom p.val = some d →
    s.dev.core.domOn d = true → s.dev.core.portEn p.val = true → s.dev.core.laneState (s.dev.core.portLane p.val) = leUp →
    s.dev.core.portState p.val = 4 →
    Answers (exec (.announceTimeout p) s) fun t =>
      t.dev.core.portState p.val = 6 ∧ (t.dev.core.pport p.val).foreign = []) ∧
  (∀ (s : State) (p : Fin 4) (d : Nat), Running s → s.dev.core.pteRun = true → s.dev.core.portState p.val = 6 →
    s.dev.core.portDom p.val = some d → s.dev.core.profile d ≠ 2 → s.dev.core.clockId ≠ 0 →
    Answers (exec (.portSyncDue p) s) fun t =>
      (t.dev.core.lane (s.dev.core.portLane p.val)).queued = (s.dev.core.lane (s.dev.core.portLane p.val)).queued ++
        [⟨some (s.dev.core.portDest d p.val), s.dev.core.msg d 0 0 0 (s.dev.core.linkAsym (s.dev.core.portLane p.val))
          (s.dev.core.portId p.val) (s.dev.core.pport p.val).seqSync 0 (s.dev.core.logSync d p.val)
          (tsBytes s.dev.core.tIns), true, s.dev.core.tIns⟩]) ∧
  (∀ (s : State) (p : Fin 4) (d : Nat), Running s → s.dev.core.pteRun = true → s.dev.core.portState p.val = 6 →
    s.dev.core.portDom p.val = some d → s.dev.core.profile d ≠ 2 → s.dev.core.clockId ≠ 0 →
    (s.dev.core.pport p.val).foreign = [] →
    Answers (exec (.portAnnounceDue p) s) fun t =>
      ((t.dev.core.lane (s.dev.core.portLane p.val)).queued.drop (s.dev.core.lane (s.dev.core.portLane p.val)).queued.length).map
          (fun f => (f.dest, f.event, f.bytes.length)) = [(some (s.dev.core.portDest d p.val), false, 64)] ∧
      (t.dev.core.lane (s.dev.core.portLane p.val)).queued.take (s.dev.core.lane (s.dev.core.portLane p.val)).queued.length =
        (s.dev.core.lane (s.dev.core.portLane p.val)).queued) ∧
  (∀ (s : State) (p : Fin 4) (d : Nat), Running s → s.dev.core.pteRun = true → s.dev.core.portSlave p.val = true →
    s.dev.core.portDom p.val = some d → s.dev.core.profile d ≠ 3 → s.dev.core.clockId ≠ 0 →
    Answers (exec (.delayReqDue p) s) fun t =>
      (t.dev.core.lane (s.dev.core.portLane p.val)).queued = (s.dev.core.lane (s.dev.core.portLane p.val)).queued ++
        [⟨some { s.dev.core.reqDest d p.val with port := if (s.dev.core.reqDest d p.val).enc = 0 then 0 else 319 },
          s.dev.core.msg d 1 (if s.dev.core.portUni d p.val then 4 else 0) 0 0 (s.dev.core.portId p.val)
            (s.dev.core.pport p.val).seqReq 1 0x7F
          (tsBytes s.dev.core.tIns), true, s.dev.core.tIns⟩]) ∧
  (∀ (s : State) (p : Fin 4) (d : Nat), Running s → s.dev.core.pteRun = true → 4 ≤ s.dev.core.portState p.val →
    s.dev.core.portDom p.val = some d → s.dev.core.profile d = 3 → s.dev.core.clockId ≠ 0 →
    Answers (exec (.delayReqDue p) s) fun t =>
      (t.dev.core.lane (s.dev.core.portLane p.val)).queued = (s.dev.core.lane (s.dev.core.portLane p.val)).queued ++
        [⟨some (s.dev.core.portDest d p.val), s.dev.core.msg d 2 0 0 0 (s.dev.core.portId p.val) (s.dev.core.pport p.val).seqReq 5
          (s.dev.core.rdS PTE_PORT_CFG.log_delay p.val) (tsBytes s.dev.core.tIns ++ List.replicate 10 0#8), true,
          s.dev.core.tIns⟩]) ∧
  (∀ s : State, Running s → s.dev.core.rd PTE_CFG.en = 1 → s.dev.core.rd PTE_STAT.run = 0 → s.dev.core.part.pte = true →
    s.dev.core.inRst = [] → s.dev.core.estRun = true → s.dev.core.pclk = true → s.dev.core.rd VLT_STAT.state = 3 →
    Answers (exec .pteStart s) fun t =>
      t.dev.core.rd PTE_STAT.run = 1 ∧ t.dev.core.rd PTE_STAT.used = 0 ∧ t.dev.core.rd PTE_LOAD.load = 0 ∧
      t.dev.core.pte.slots = [])

/-- R278, R290, R292, R293 and R296: the update of a servo, what it learns, and the host's acknowledgement.
The model's own choices and readings here: log entries 52 (DEDUCED), 54 (DEDUCED). -/
def Obligations.ServoUpdates : Prop :=
  (∀ (s : State) (sv : Fin 4) (f b : Int), Running s → s.dev.core.pteRun = true → s.dev.core.svEn sv.val = true →
    s.dev.core.domOn (s.dev.core.rd PTE_SV_CFG.domain sv.val) = true →
    s.dev.core.profile (s.dev.core.rd PTE_SV_CFG.domain sv.val) ≠ 3 →
    s.dev.core.portSlave (s.dev.core.rd PTE_SV_CFG.port sv.val) = true → s.dev.core.svState sv.val = vsNoMaster →
    s.dev.core.rd PTE_SV_CFG.sel sv.val = 1 → (s.dev.core.sv sv.val).df = [f] → (s.dev.core.sv sv.val).db = [b] →
    Answers (exec (.servoUpdate sv) s) fun t =>
      t.dev.core.svState sv.val = vsRun ∧ (t.dev.core.sv sv.val).df = [] ∧ (t.dev.core.sv sv.val).db = [] ∧
      (t.dev.core.sv sv.val).o = (f : Rat) - ((f : Rat) + b) / 2 -
        (s.dev.core.linkAsym (s.dev.core.portLane (s.dev.core.rd PTE_SV_CFG.port sv.val)) + s.dev.core.asymPath sv.val : Int) ∧
      t.dev.core.rd PTE_SV_SAMP_CNT.count sv.val = min (2 ^ PTE_SV_SAMP_CNT.count.width - 1)
        (s.dev.core.rd PTE_SV_SAMP_CNT.count sv.val + 1)) ∧
  (∀ (s : State) (sv : Fin 4), Running s → s.dev.core.pteRun = true → s.dev.core.svEn sv.val = true →
    s.dev.core.domOn (s.dev.core.rd PTE_SV_CFG.domain sv.val) = true →
    s.dev.core.portSlave (s.dev.core.rd PTE_SV_CFG.port sv.val) = true → 1 ≤ s.dev.core.svState sv.val →
    (s.dev.core.sv sv.val).df = [] →
    Answers (exec (.servoUpdate sv) s) fun t =>
      t.dev.core.svState sv.val = s.dev.core.svState sv.val ∧ (t.dev.core.sv sv.val).db = [] ∧
      t.dev.core.rd PTE_SV_SAMP_CNT.count sv.val = s.dev.core.rd PTE_SV_SAMP_CNT.count sv.val) ∧
  (∀ (s : State) (sv : Fin 4) (e : Nat), Running s → s.dev.core.pteRun = true → s.dev.core.svEn sv.val = true →
    s.dev.core.domOn (s.dev.core.rd PTE_SV_CFG.domain sv.val) = true →
    s.dev.core.portSlave (s.dev.core.rd PTE_SV_CFG.port sv.val) = true → s.dev.core.svState sv.val = vsFrozen →
    (s.dev.core.sv sv.val).lN = 64 → (List.range 64).find? (fun e => !s.dev.core.rdB PTE_PATH_KEY.valid e) = some e →
    Answers (exec (.learned sv) s) fun t =>
      t.dev.core.svState sv.val = vsRun ∧ t.dev.core.rd PTE_PATH_KEY.valid e = 1 ∧ t.dev.core.rd PTE_PATH_KEY.learned e = 1 ∧
      t.dev.core.rd PTE_SV_STAT.path sv.val = e ∧
      t.dev.core.rd PTE_PATH_ASYM.asym e = t.dev.core.rd PTE_SV_ASYM.asym sv.val ∧
      t.dev.core.rdS PTE_SV_ASYM.asym sv.val = max (-2147483648) (min 2147483647 (s.dev.core.asymPath sv.val +
        roundR16 ((s.dev.core.sv sv.val).lSum / 64 - (s.dev.core.sv sv.val).xBase.getD 0)))) ∧
  (∀ (s : State) (sv : Fin 4), Running s → s.dev.core.pteRun = true → s.dev.core.svState sv.val = vsFrozen →
    (s.dev.core.sv sv.val).lN = 64 → (List.range 64).all (fun e => s.dev.core.rdB PTE_PATH_KEY.valid e) = true →
    Answers (exec (.learned sv) s) fun t =>
      t.dev.core.rd PTE_EVENT.table_full = 1 ∧ t.dev.core.sv sv.val = s.dev.core.sv sv.val) ∧
  (∀ (s : State) (sv : Fin 4) (a : Int), Running s → s.dev.core.part.nLane ≠ 0 → s.dev.core.pclk = true →
    (s.dev.core.sv sv.val).staged = some a → s.dev.core.svState sv.val = vsFrozen →
    Answers (exec (.svAsymAck sv) s) fun t =>
      t.dev.core.rd PTE_SV_ASYM.asym sv.val = ofS 32 a ∧ (t.dev.core.sv sv.val).staged = none ∧
      (t.dev.core.sv sv.val).mBase = none ∧ (t.dev.core.sv sv.val).xBase = none ∧ t.dev.core.svState sv.val = vsRun) ∧
  (∀ (s : State) (sv : Fin 4), Running s → s.dev.core.part.nLane ≠ 0 → s.dev.core.pclk = true → (s.dev.core.sv sv.val).staged = none →
    s.dev.core.svState sv.val ≠ vsFrozen →
    Answers (exec (.svAsymAck sv) s) fun t =>
      t.dev.core.rd PTE_SV_ASYM.asym sv.val = s.dev.core.rd PTE_SV_ASYM.asym sv.val ∧
      (t.dev.core.sv sv.val).mBase = none ∧ t.dev.core.svState sv.val = s.dev.core.svState sv.val)

/-- R281, R282 and R285: unicast negotiation. A request within the limits takes a slot and is granted, one below the interval limit
is refused and counted with FS38; a cancel of a client's only grant frees its slot, and so does the end of its only grant.
The model's own choices and readings here: log entries 50 (PRESUMED), 53 (DEDUCED). -/
def Obligations.UnicastNegotiation : Prop :=
  (∀ (s : State) (n : Fin 4) (tr : Nat) (l : List Byte) (m : Msg) (d p : Nat) (v : List Byte) (ty k : Nat), Running s →
    PtpTaken s.dev.core n.val l 0 tr m d p → m.type = 0xC → s.dev.core.uniDom d = true → m.tlvs = [(4, v)] → uniType v = some ty →
    s.dev.core.findSlot d m = none → s.dev.core.freeSlot = some k → ty ≠ 1 →
    toS 4 (s.dev.core.rd PTE_CFG.max_log) ≤ toS 8 (fb v 1) →
    s.dev.core.pte.load + (2 : Rat) ^ (-toS 8 (fb v 1)) ≤ (s.dev.core.part.budget : Rat) → s.dev.core.clockId ≠ 0 →
    Answers (exec (.requestUnicastTransmission n l) s) fun t =>
      (t.dev.core.slot k).map (fun x => (x.ident, x.dest, x.dom, x.lane, x.grant ty)) = some (m.src, m.dest, d, n.val,
        some (toS 8 (fb v 1), s.dev.core.now + max (s.dev.core.rd PTE_SRV_CFG.grant_min)
          (min (s.dev.core.rd PTE_SRV_CFG.grant_max) (fbe v 2 4)) * secPU)) ∧
      (t.dev.core.lane n.val).queued.length = (s.dev.core.lane n.val).queued.length + 1 ∧
      t.dev.core.pte.load = s.dev.core.pte.load + (2 : Rat) ^ (-toS 8 (fb v 1)) ∧
      t.dev.core.rd PTE_REFUSE_CNT.count = s.dev.core.rd PTE_REFUSE_CNT.count) ∧
  (∀ (s : State) (n : Fin 4) (tr : Nat) (l : List Byte) (m : Msg) (d p : Nat) (v : List Byte) (ty : Nat), Running s →
    PtpTaken s.dev.core n.val l 0 tr m d p → m.type = 0xC → s.dev.core.uniDom d = true → m.tlvs = [(4, v)] → uniType v = some ty →
    ty ≠ 1 → toS 8 (fb v 1) < toS 4 (s.dev.core.rd PTE_CFG.max_log) →
    Answers (exec (.requestUnicastTransmission n l) s) fun t =>
      t.dev.core.rd PTE_REFUSE_CNT.count = min (2 ^ PTE_REFUSE_CNT.count.width - 1) (s.dev.core.rd PTE_REFUSE_CNT.count + 1) ∧
      t.dev.core.rd PTE_EVENT.refused = 1 ∧ bitOf (t.dev.core.rd FLT_RAW.hit 0 1) 6 = true ∧
      t.dev.core.pte.load = s.dev.core.pte.load ∧ t.dev.core.rd PTE_STAT.used = s.dev.core.rd PTE_STAT.used) ∧
  (∀ (s : State) (n : Fin 4) (tr : Nat) (l : List Byte) (m : Msg) (d p : Nat) (v : List Byte) (k : Nat) (x : Slot), Running s →
    PtpTaken s.dev.core n.val l 0 tr m d p → m.type = 0xC → s.dev.core.uniDom d = true → m.tlvs = [(6, v)] → uniType v = some 0 →
    s.dev.core.findSlot d m = some (k, x) → s.dev.core.slot k = some x → x.gSync.isSome = true → x.gResp = none → x.gAnn = none →
    s.dev.core.clockId ≠ 0 →
    Answers (exec (.cancelUnicastTransmission n l) s) fun t =>
      t.dev.core.slot k = none ∧ t.dev.core.pte.load = s.dev.core.pte.load - rateOf x.gSync ∧
      (t.dev.core.lane n.val).queued.length = (s.dev.core.lane n.val).queued.length + 1) ∧
  (∀ (s : State) (k : Fin 16384) (x : Slot) (g : Int × Nat), Running s → s.dev.core.pteRun = true →
    s.dev.core.slot k.val = some x → x.gSync = some g → g.2 ≤ s.dev.core.now → x.gResp = none → x.gAnn = none →
    Answers (exec (.grantExpire k 0) s) fun t =>
      t.dev.core.slot k.val = none ∧ t.dev.core.pte.load = s.dev.core.pte.load - rateOf x.gSync ∧
      t.dev.core.slot (k.val + 1) = s.dev.core.slot (k.val + 1)) ∧
  (∀ (s : State) (k : Fin 16384) (x : Slot) (g : Int × Nat), Running s → s.dev.core.pteRun = true →
    s.dev.core.slot k.val = some x → x.gResp = some g → g.2 ≤ s.dev.core.now → x.gSync.isSome = true →
    Answers (exec (.grantExpire k 2) s) fun t =>
      t.dev.core.slot k.val = some { x with gResp := none } ∧ t.dev.core.pte.load = s.dev.core.pte.load - rateOf x.gResp) ∧
  (∀ (s : State) (k : Fin 16384) (ty : Fin 3) (x : Slot) (g : Int × Nat), Running s → s.dev.core.pteRun = true →
    s.dev.core.slot k.val = some x → x.grant ty.val = some g → s.dev.core.now < g.2 →
    Answers (exec (.grantExpire k ty) s) fun t =>
      t.dev.core.slot k.val = some x ∧ t.dev.core.pte.load = s.dev.core.pte.load)

/-- R273, R283, R284, R285, R287 and R288: what a client receives, and the host's operations on its slot.
The model's own choices and readings here: log entries 50 (PRESUMED), 53 (DEDUCED). -/
def Obligations.ClientService : Prop :=
  (∀ (s : State) (k : Fin 16384) (x : Slot), Running s → s.dev.core.pteRun = true → s.dev.core.slot k.val = some x →
    x.gSync.isSome = true → s.dev.core.domOn x.dom = true → s.dev.core.clockId ≠ 0 →
    Answers (exec (.clientSyncDue k) s) fun t =>
      (t.dev.core.lane x.lane).queued = (s.dev.core.lane x.lane).queued ++
        [⟨some { x.dest with port := if x.dest.enc = 0 then 0 else 319 },
          s.dev.core.msg x.dom 0 4 0 (s.dev.core.aSlot x) (s.dev.core.servePort x.lane) x.seqSync 0 0x7F (tsBytes s.dev.core.tIns),
          true, s.dev.core.tIns⟩] ∧
      t.dev.core.slot k.val = some { x with seqSync := (x.seqSync + 1) % 65536, nSync := (x.nSync + 1) % 2 ^ 32 }) ∧
  (∀ (s : State) (k : Fin 16384) (x : Slot), Running s → s.dev.core.pteRun = true → s.dev.core.slot k.val = some x →
    x.gAnn.isSome = true → s.dev.core.domOn x.dom = true → s.dev.core.clockId ≠ 0 →
    Answers (exec (.clientAnnounceDue k) s) fun t =>
      (t.dev.core.lane x.lane).queued = (s.dev.core.lane x.lane).queued ++
        [⟨some { x.dest with port := if x.dest.enc = 0 then 0 else 320 },
          s.dev.core.annMsg x.dom (s.dev.core.servePort x.lane) x.seqAnn true ((x.gAnn.map Prod.fst).getD 0), false, 0⟩] ∧
      t.dev.core.slot k.val = some { x with seqAnn := (x.seqAnn + 1) % 65536 }) ∧
  (∀ (s : State) (n : Fin 4) (tr : Nat) (tm : Nat) (l : List Byte) (m : Msg) (d p : Nat), Running s → PtpTaken s.dev.core n.val l tm tr m d p →
    m.type = 1 → s.dev.core.profile d ≠ 3 → s.dev.core.findSlot d m = none → m.mc = true → s.dev.core.portState p = 6 →
    s.dev.core.clockId ≠ 0 →
    Answers (exec (.delayReqRx n tm l) s) fun t =>
      (t.dev.core.lane n.val).queued = (s.dev.core.lane n.val).queued ++
        [⟨some { (if s.dev.core.profile d = 0 then mcAddr m.dest.enc else s.dev.core.portDest d p) with
            port := if (if s.dev.core.profile d = 0 then mcAddr m.dest.enc else s.dev.core.portDest d p).enc = 0 then 0 else 320 },
          s.dev.core.msg d 9 0 0 (m.corr - (tr % 65536 : Nat) - s.dev.core.linkAsym n.val) (s.dev.core.servePort n.val) m.seq 3
            (s.dev.core.rdS PTE_PORT_CFG.log_delay p) (tsBytes tr ++ bytesBE 10 m.src), false, 0⟩]) ∧
  (∀ (s : State) (n : Fin 4) (tr : Nat) (tm : Nat) (l : List Byte) (m : Msg) (d p : Nat), Running s → PtpTaken s.dev.core n.val l tm tr m d p →
    m.type = 1 → s.dev.core.findSlot d m = none → (m.mc = false ∨ s.dev.core.portState p ≠ 6) →
    Answers (exec (.delayReqRx n tm l) s) fun t =>
      (t.dev.core.lane n.val).queued = (s.dev.core.lane n.val).queued ∧
      t.dev.core.rd PTE_DISCARD_CNT.count = min (2 ^ PTE_DISCARD_CNT.count.width - 1)
        (s.dev.core.rd PTE_DISCARD_CNT.count + 1)) ∧
  (∀ (s : State) (n : Fin 4) (tr : Nat) (tm : Nat) (l : List Byte) (m : Msg) (d p k : Nat) (x : Slot), Running s →
    PtpTaken s.dev.core n.val l tm tr m d p → m.type = 1 → s.dev.core.profile d ≠ 3 → s.dev.core.findSlot d m = some (k, x) →
    s.dev.core.slot k = some x → x.gResp = none →
    Answers (exec (.delayReqRx n tm l) s) fun t =>
      (t.dev.core.slot k).map Slot.nDisc = some ((x.nDisc + 1) % 2 ^ 32) ∧ (t.dev.core.slot k).map Slot.nResp = some x.nResp ∧
      t.dev.core.rd PTE_DISCARD_CNT.count = min (2 ^ PTE_DISCARD_CNT.count.width - 1)
        (s.dev.core.rd PTE_DISCARD_CNT.count + 1)) ∧
  (∀ (s : State) (k : BitVec 14) (x : Slot), Running s → k.toNat < s.dev.core.part.nSlot → s.dev.core.pteRun = true →
    s.dev.core.part.pte = true → s.dev.core.slot k.toNat = some x →
    Answers (exec (.evict k) s) fun t =>
      t.dev.core.slot k.toNat = none ∧ t.dev.core.pte.load = s.dev.core.pte.load - rateOf x.gSync - rateOf x.gResp ∧
      t.dev.core.rd PTE_SLOT_STAT.active = 0) ∧
  (∀ (s : State) (k : BitVec 14) (x : Slot), Running s → k.toNat < s.dev.core.part.nSlot → s.dev.core.pteRun = true →
    s.dev.core.part.pte = true → s.dev.core.slot k.toNat = some x → x.asym = true →
    Answers (exec (.asymAck k) s) fun t =>
      t.dev.core.slot k.toNat = some { x with asym := false } ∧ t.dev.core.rd PTE_SLOT_STAT.asym = 0 ∧
      t.dev.core.rd PTE_SLOT_STAT.active = 1)

/-- R300, R316, R317 and R318: the telemetry record, and the test of Tile memory with its repairs and its abort.
The model's own choices and readings here: log entries 58 (DEDUCED), 59 (DEDUCED). -/
def Obligations.TileTests : Prop :=
  (∀ (s : State), Running s → s.dev.core.pclk = true → (s.dev.core.streamQueue 2 0).isSome = true →
    Answers (exec .telemetry s) fun t =>
      t.dev.core.memU.corrV = 0 ∧ t.dev.core.memU.corrT = 0 ∧ t.dev.core.memU.lost = 0 ∧ t.dev.core.memU.written = 0 ∧
      t.dev.core.outbox.any (fun it => decide (it.rtype = 2) && decide (it.body.length = 3)) = true) ∧
  (∀ (s : State), Running s → s.dev.core.rd TMC_STAT.state ≠ 1 →
    Answers (exec .tmcStart s) fun t =>
      t.dev.core.rd TMC_STAT.state = 1 ∧ t.dev.core.memU.tBanks = s.dev.core.rd TMC_CTRL.banks ∧
      t.dev.core.memU.tDestr = !s.dev.core.rdB TMC_CTRL.mode ∧ t.dev.core.memU.tAbort = false) ∧
  (∀ (s : State) (a : Nat) (fails : List (Nat × Nat × Nat)), Running s → s.dev.core.rd TMC_STAT.state = 1 →
    s.dev.core.memU.tDestr = true → s.dev.core.memU.tAbort = false → a < 2 ^ 21 →
    bitOf s.dev.core.memU.tBanks (a / 131072) = true → s.dev.core.memOut = [] → PortsIdle s.dev.core →
    (s.dev.core.memU.tWait.all fun w => w.2.all fun b => decide (b.1 ≠ a)) = true →
    Answers (exec (.tileTestDone fails) s) fun t => t.dev.mem.tile.get none a = none) ∧
  (∀ (s : State) (a : Nat) (fails : List (Nat × Nat × Nat)), Running s → s.dev.core.rd TMC_STAT.state = 1 →
    s.dev.core.memU.tAbort = true → s.dev.core.rd TMC_STAT.bank < a / 131072 →
    s.dev.core.memOut = [] → s.dev.core.memLost = [] → PortsIdle s.dev.core →
    (s.dev.core.memU.tWait.all fun w => w.2.all fun b => decide (b.1 ≠ a)) = true →
    Answers (exec (.tileTestDone fails) s) fun t => t.dev.mem.tile.get none a = s.dev.mem.tile.get none a) ∧
  (∀ (s : State), Running s → s.dev.core.rd TMC_STAT.state = 1 → s.dev.core.memU.tDestr = false →
    s.dev.core.memOut = [] → s.dev.core.memLost = [] → PortsIdle s.dev.core →
    s.dev.core.memU.tWait = [] →
    Answers (exec (.tileTestDone []) s) fun t => t.dev.mem.tile = s.dev.mem.tile) ∧
  (∀ (s : State), Running s → s.dev.core.rd TMC_STAT.state = 1 → s.dev.core.memU.tAbort = false →
    Answers (exec (.tmcAbort false) s) fun t =>
      t.dev.core.rd TMC_STAT.state = 1 ∧ t.dev.core.memU.tAbort = true ∧
      t.dev.core.rd TMC_STAT.abort_st = s.dev.core.rd TMC_STAT.abort_st) ∧
  (∀ (s : State), Running s → s.dev.core.rd TMC_STAT.state = 1 → s.dev.core.memU.tAbort = false →
    Answers (exec (.tmcAbort true) s) fun t =>
      t.dev.core.rd TMC_STAT.abort_st = 2 ∧ t.dev.core.rd TMC_STAT.state = 1) ∧
  (∀ (s : State), Running s → s.dev.core.rd TMC_STAT.state = 1 → s.dev.core.memU.tAbort = false →
    Answers (exec (.tileTestDone []) s) fun t =>
      t.dev.core.rd TMC_STAT.state = 2 ∧ t.dev.core.rd TMC_STAT.failed = s.dev.core.rd TMC_STAT.failed) ∧
  (∀ (s : State), Running s → s.dev.core.rd TMC_STAT.state = 1 → s.dev.core.memU.tAbort = true →
    Answers (exec (.tileTestDone []) s) fun t =>
      t.dev.core.rd TMC_STAT.state = 0 ∧ t.dev.core.rd TMC_STAT.abort_st = 1) ∧
  (∀ (s : State) (b : Fin 16) (row words k : Nat), Running s → s.dev.core.rd TMC_STAT.state = 1 → s.dev.core.memU.tAbort = false →
    bitOf s.dev.core.memU.tBanks b.val = true → row < 128 → s.dev.core.goodSpare b.val = some k →
    Answers (exec (.tileTestDone [(b.val, row, words)]) s) fun t =>
      t.dev.core.rd TMC_STAT.state = 2 ∧
      t.dev.core.rd TMC_BANK.spares 0 b.val = putBit (s.dev.core.rd TMC_BANK.spares 0 b.val) k true ∧
      t.dev.core.rd TMC_BANK.failed 0 b.val = s.dev.core.rd TMC_BANK.failed 0 b.val) ∧
  (∀ (s : State) (b : Fin 16) (row words : Nat), Running s → s.dev.core.rd TMC_STAT.state = 1 →
    (s.dev.core.memU.tAbort = true → b.val ≤ s.dev.core.rd TMC_STAT.bank) → bitOf s.dev.core.memU.tBanks b.val = true → row < 128 → s.dev.core.goodSpare b.val = none →
    bitOf (s.dev.core.rd TMC_STAT.failed) b.val = false →
    Answers (exec (.tileTestDone [(b.val, row, words)]) s) fun t =>
      t.dev.core.rd TMC_STAT.state = 3 ∧ t.dev.core.rd TMC_BANK.failed 0 b.val = 1 ∧
      bitOf (t.dev.core.rd TMC_STAT.failed) b.val = true ∧ bitOf (t.dev.core.rd FLT_RAW.hit 0 1) 19 = true)

/-- R321, R322, R323 and R324: the states of the Vault, its tests and its scrub.
The model's own choices and readings here: log entries 59 (DEDUCED), 60 (DEDUCED). -/
def Obligations.VaultStates : Prop :=
  (∀ (s : State), Running s → s.dev.core.pclk = true → s.dev.core.vaultState = vltTraining →
    Answers (exec .vaultTrained s) fun t => t.dev.core.vaultState = vltTesting ∧ t.dev.core.rd STG_STAT.vault_ready = 0) ∧
  (∀ (s : State), Running s → s.dev.core.pclk = true → s.dev.core.part.vaultMB ≠ 0 → s.dev.core.vaultState = vltTraining →
    Answers (exec .trainTimeout s) fun t =>
      t.dev.core.vaultState = vltFailed ∧ t.dev.core.rd STG_STAT.vault_ready = 0 ∧
      bitOf (t.dev.core.rd FLT_RAW.hit 0 1) 21 = true) ∧
  (∀ (s : State), Running s → s.dev.core.vaultState = vltTesting →
    Answers (exec (.vaultTestDone 0) s) fun t =>
      t.dev.core.vaultState = vltReady ∧ t.dev.core.rd STG_STAT.vault_ready = 1 ∧ t.dev.core.rd VLT_STAT.test_fail = 0 ∧
      t.dev.core.rd VLT_TEST_FAIL.count = 0) ∧
  (∀ (s : State) (n : Nat), Running s → s.dev.core.part.vaultMB ≠ 0 → s.dev.core.vaultState = vltTesting →
    Answers (exec (.vaultTestDone (n + 1)) s) fun t =>
      t.dev.core.vaultState = vltFailed ∧ t.dev.core.rd STG_STAT.vault_ready = 0 ∧ t.dev.core.rd VLT_STAT.test_fail = 1 ∧
      t.dev.core.rd VLT_TEST_FAIL.count = min (n + 1) (2 ^ 32 - 1) ∧ bitOf (t.dev.core.rd FLT_RAW.hit 0 1) 21 = true) ∧
  (∀ (s : State), Running s → s.dev.core.part.vaultMB ≠ 0 → s.dev.core.vaultState = vltReady →
    Answers (exec .vltTestStart s) fun t =>
      t.dev.core.vaultState = vltTesting ∧ t.dev.core.memU.vDestr = false ∧ t.dev.core.rd STG_STAT.vault_ready = 0) ∧
  (∀ (s : State), Running s → s.dev.core.part.vaultMB ≠ 0 → s.dev.core.vaultState = vltTesting → s.dev.core.memU.vDestr = false →
    Answers (exec (.vltAbort false) s) fun t =>
      t.dev.core.vaultState = vltReady ∧ t.dev.core.rd VLT_STAT.abort_st = 1) ∧
  (∀ (s : State), Running s → s.dev.core.part.vaultMB ≠ 0 → s.dev.core.vaultState = vltTesting → s.dev.core.memU.vDestr = false →
    Answers (exec (.vltAbort true) s) fun t =>
      t.dev.core.vaultState = vltTesting ∧ t.dev.core.rd VLT_STAT.abort_st = 2) ∧
  (∀ (s : State) (b : Bool), Running s → s.dev.core.part.vaultMB ≠ 0 → s.dev.core.vaultState = vltTesting → s.dev.core.memU.vDestr = true →
    Answers (exec (.vltAbort b) s) fun t =>
      t.dev.core.vaultState = vltTesting ∧ t.dev.core.rd VLT_STAT.abort_st = s.dev.core.rd VLT_STAT.abort_st) ∧
  (∀ (s : State), Running s → s.dev.core.part.vaultMB ≠ 0 → s.dev.core.pclk = true → s.dev.core.vaultState = vltFailed →
    Answers (exec .retrain s) fun t => t.dev.core.vaultState = vltTraining ∧ t.dev.core.memU.vDestr = false) ∧
  (∀ (s : State) (i : Instr) (b : Bool), Running s → s.dev.core.part.vaultMB = 0 → i = .vltTestStart ∨ i = .vltAbort b ∨ i = .retrain →
    Answers (exec i s) fun t =>
      t.dev.core.vaultState = s.dev.core.vaultState ∧
      t.dev.core.rd IDB_BUSERR_STAT.count = min (2 ^ IDB_BUSERR_STAT.count.width - 1) (s.dev.core.rd IDB_BUSERR_STAT.count + 1) ∧
      bitOf (t.dev.core.rd FLT_RAW.hit 0 1) 15 = true) ∧
  (∀ (s : State) (i : Instr), s.dev.core.pclk = false →
    i = .vaultTrained ∨ i = .trainTimeout ∨ (i = .retrain ∧ s.dev.core.part.vaultMB ≠ 0) →
    Answers (exec i s) fun t => t.dev.core.outside [] = s.dev.core.outside []) ∧
  (∀ (s : State), Running s → s.dev.core.vaultState ≠ vltFailed →
    Answers (exec .retrain s) fun t => t.dev.core.vaultState = s.dev.core.vaultState) ∧
  (∀ (s : State) (corr : Fin 3), Running s → s.dev.core.vaultState = vltReady → s.dev.core.rd VLT_CTRL.scrub_en = 1 →
    s.dev.core.memU.poison = [] → s.dev.core.memU.injV = none →
    s.dev.core.injArmed 52 (s.dev.core.rd VLT_SCRUB_POS.addr) = false →
    Answers (exec (.scrubBurst corr false false) s) fun t =>
      t.dev.core.rd VLT_CORR_CNT.count = min (2 ^ 32 - 1) (s.dev.core.rd VLT_CORR_CNT.count + corr.val) ∧
      t.dev.core.rd VLT_SCRUB_POS.addr =
        (if s.dev.core.part.vaultMB * 2 ^ 20 ≤ s.dev.core.rd VLT_SCRUB_POS.addr + 64 then 0
         else (s.dev.core.rd VLT_SCRUB_POS.addr + 64) % 2 ^ 32) ∧
      t.dev.core.rd VLT_SCRUB_PASS.count =
        (if s.dev.core.part.vaultMB * 2 ^ 20 ≤ s.dev.core.rd VLT_SCRUB_POS.addr + 64
         then (s.dev.core.rd VLT_SCRUB_PASS.count + 1) % 2 ^ 32 else s.dev.core.rd VLT_SCRUB_PASS.count)) ∧
  (∀ (s : State) (corr : Fin 3), Running s → s.dev.core.part.vaultMB ≠ 0 → s.dev.core.vaultState = vltReady → s.dev.core.rd VLT_CTRL.scrub_en = 1 →
    s.dev.core.memU.poison = [] →
    Answers (exec (.scrubBurst corr true false) s) fun t =>
      t.dev.core.rd VLT_UE_CNT.count = min (2 ^ 32 - 1) (s.dev.core.rd VLT_UE_CNT.count + 1) ∧
      t.dev.core.rd VLT_UE_ADDR.addr = s.dev.core.rd VLT_SCRUB_POS.addr / 64 * 64 ∧
      t.dev.core.memU.poison = [s.dev.core.rd VLT_SCRUB_POS.addr / 64 * 64] ∧
      t.dev.core.rd VLT_SCRUB_POS.addr =
        (if s.dev.core.part.vaultMB * 2 ^ 20 ≤ s.dev.core.rd VLT_SCRUB_POS.addr + 64 then 0
         else (s.dev.core.rd VLT_SCRUB_POS.addr + 64) % 2 ^ 32) ∧
      bitOf (t.dev.core.rd FLT_RAW.hit 0 1) 20 = true) ∧
  (∀ (s : State) (corr : Fin 3), Running s →
    Answers (exec (.scrubBurst corr true true) s) fun t =>
      t.dev.core.memU.poison = s.dev.core.memU.poison ∧
      t.dev.core.rd VLT_SCRUB_POS.addr = s.dev.core.rd VLT_SCRUB_POS.addr ∧
      t.dev.core.rd VLT_UE_CNT.count = s.dev.core.rd VLT_UE_CNT.count)

/-- R330, R331, R332, R336, R341 and R348: the transactions of the link.
The model's own choices and readings here: log entries 83 (DEDUCED), 87 (DEDUCED). -/
def Obligations.LinkTransactions : Prop :=
  (∀ (s : State) (l : List Byte), Running s → l.all (fun b => decide (b = 0xFF#8)) = true →
    Answers (exec (.send l) s) fun t => t.dev = s.dev) ∧
  (∀ (s : State) (b : Byte) (rest : List Byte), Running s → b ≠ 0xFF#8 → (64 ≤ b.toNat ∨ b.toNat % 16 ≠ 1) →
    Answers (exec (.send (b :: rest)) s) fun t =>
      t.dev.core.rd HLK_FRAME_ERR.count = min (2 ^ HLK_FRAME_ERR.count.width - 1) (s.dev.core.rd HLK_FRAME_ERR.count + 1) ∧
      t.dev.core.port 0 = s.dev.core.port 0) ∧
  (∀ (s : State) (cls : Fin 4) (tag : BitVec 16) (body : List Byte), Running s → body.length ≤ 4096 →
    Answers (exec (.send (packet 0 cls.val 0x30 tag.toNat 0 0 false false body)) s) fun t =>
      Answers (exec (.echo 0 cls tag body) s) fun u => t = u) ∧
  (∀ (s : State) (cls : Fin 4) (tag : BitVec 16) (body : List Byte), Running s → body.length ≤ 4096 →
    s.dev.core.rd (creditFld 0 cls.val) = 0 → (s.dev.core.port 0).rx = [] →
    Answers (exec (.send (packet 0 cls.val 0x30 tag.toNat 0 0 false false body)) s) fun t =>
      t.dev.core.waiting 0 cls.val = s.dev.core.waiting 0 cls.val ++ [packet 1 cls.val 0x30 tag.toNat hsNoCredit 0 false false []] ∧
      t.dev.core.rd HLK_NOCREDIT_CNT.count = min (2 ^ HLK_NOCREDIT_CNT.count.width - 1)
        (s.dev.core.rd HLK_NOCREDIT_CNT.count + 1) ∧ t.dev.core.rd (creditFld 0 cls.val) = 0) ∧
  (∀ (s : State) (n : BitVec 16), Running s →
    Answers (exec (.receive n) s) fun t => t.dev.core.host.driven.length = n.toNat ∧ t.dev.core.dt = s.dev.core.dt) ∧
  (∀ (s : State) (b : List Byte) (x y : Byte) (rest : List Byte), Running s → (s.dev.core.port 0).ins = [] → (s.dev.core.port 0).insCur = none →
    (s.dev.core.port 0).cur = some (b, 0) → b = x :: y :: rest →
    Answers (exec (.receive 1) s) fun t =>
      t.dev.core.host.driven = [x] ∧ (t.dev.core.port 0).cur = some (b, 1) ∧ (t.dev.core.port 0).rs = (s.dev.core.port 0).rs) ∧
  (∀ (s : State), Running s →
    Answers (exec .status s) fun t =>
      t.dev.core.host.driven = s.dev.core.statusBytes ∧ t.dev.core.host.after = some 0xFF#8 ∧ t.dev.core.host.ports = s.dev.core.host.ports ∧
      t.dev.core.regs = s.dev.core.regs) ∧
  (∀ (s : State), Running s →
    Answers (exec .resync s) fun t =>
      (t.dev.core.port 0).rx = [] ∧ (t.dev.core.port 0).r0 = [] ∧ (t.dev.core.port 0).rs = [] ∧
      (t.dev.core.port 0).notes = (s.dev.core.port 0).notes ∧ t.dev.core.port 1 = s.dev.core.port 1 ∧
      (∀ cls < 4, t.dev.core.rd (creditFld 0 cls) = creditPool cls) ∧
      t.dev.core.rd HLK_RESYNC_CNT.count = min (2 ^ HLK_RESYNC_CNT.count.width - 1) (s.dev.core.rd HLK_RESYNC_CNT.count + 1)) ∧
  (∀ (s : State) (code : BitVec 8), Running s → (code.toNat = 0 ∨ 4 < code.toNat) →
    Answers (exec (.invalidTransactionCode code) s) fun t =>
      t.dev.core.rd HLK_FRAME_ERR.count = min (2 ^ HLK_FRAME_ERR.count.width - 1) (s.dev.core.rd HLK_FRAME_ERR.count + 1) ∧
      t.dev.core.port 0 = s.dev.core.port 0) ∧
  (∀ (s : State) (l : List Byte), Running s → s.dev.core.part.nLane ≠ 0 → s.dev.core.laneState 0 = leUp →
    s.dev.core.rd HLK_IB_CFG.en = 1 → fbe l 0 6 = s.dev.core.mac0 → fbe l (etherOff l).1 2 = 0x88B5 →
    fbe (l.drop ((etherOff l).1 + 2)) 0 2 = 0x564C → fbe l 6 6 ≠ s.dev.core.ibPeer →
    Answers (exec (.inbandFrame l) s) fun t =>
      t.dev.core.rd HLK_IB_DROP.count = min (2 ^ HLK_IB_DROP.count.width - 1) (s.dev.core.rd HLK_IB_DROP.count + 1) ∧
      t.dev.core.rd HLK_IB_RX_CNT.count = s.dev.core.rd HLK_IB_RX_CNT.count) ∧
  (∀ (s : State) (l : List Byte), Running s → s.dev.core.part.nLane ≠ 0 → s.dev.core.laneState 0 = leUp →
    s.dev.core.rd HLK_IB_CFG.en = 1 → fbe l 0 6 = s.dev.core.mac0 → fbe l (etherOff l).1 2 = 0x88B5 →
    fbe (l.drop ((etherOff l).1 + 2)) 0 2 = 0x564C → fbe l 6 6 = s.dev.core.ibPeer →
    fieldLE (l.drop ((etherOff l).1 + 2)) 2 2 = 1 → fieldLE (l.drop ((etherOff l).1 + 2)) 6 2 = 0 →
    8 ≤ (l.drop ((etherOff l).1 + 2)).length → (s.dev.core.port 1).rx = [] →
    Answers (exec (.inbandFrame l) s) fun t =>
      t.dev.core.rd HLK_IB_RX_CNT.count = min (2 ^ HLK_IB_RX_CNT.count.width - 1) (s.dev.core.rd HLK_IB_RX_CNT.count + 1) ∧
      t.dev.core.rd HLK_FRAME_ERR.count = s.dev.core.rd HLK_FRAME_ERR.count ∧ t.dev.core.port 1 = s.dev.core.port 1)

/-- R336: the bytes of a command packet are taken for that packet, whatever follows them. -/
def Obligations.PacketsDecode : Prop :=
  ∀ (cls : Fin 4) (op : BitVec 8) (tag : BitVec 16) (body rest : List Byte), body.length ≤ 4096 →
    framed (packet 0 cls.val op.toNat tag.toNat 0 0 false false body ++ rest) =
      .pkt { cls := cls.val, op := op.toNat, tag := tag.toNat, body := body } true (12 + body.length)

/-- R112, R121, R124, R126 and R337: the class-0 commands. Each is answered once, behind the responses that wait, and takes one
credit, which its response returns.
The model's own choices and readings here: log entries 84 (DEDUCED), 88 (DEDUCED). -/
def Obligations.ClassZeroCommands : Prop :=
  (∀ (s : State) (p : Fin 2) (cls : Fin 4) (tag : BitVec 16) (ch : BitVec 8) (slew : Bool) (delta : BitVec 48), Running s →
    PortFree s.dev.core p.val cls.val → ch.toNat < s.dev.core.part.nCh → s.dev.core.rd CH_CFG.en ch.toNat = 1 →
    s.dev.core.rd CH_CFG.kind ch.toNat = 0 → s.dev.core.chState ch.toNat ≠ chDisabled →
    Answers (exec (.phaseStep p cls tag ch slew delta) s) fun t =>
      Replied s.dev.core t.dev.core p.val cls.val 1 tag.toNat hsOk [] ∧
      (t.dev.core.chan ch.toNat).hostPool = clampI (-poolMax) poolMax ((s.dev.core.chan ch.toNat).hostPool +
        toS 48 delta.toNat * 2 ^ 32) ∧
      (t.dev.core.chan ch.toNat).hostStep = !slew) ∧
  (∀ (s : State) (p : Fin 2) (cls : Fin 4) (tag : BitVec 16) (ch : BitVec 8) (v : Bool), Running s →
    PortFree s.dev.core p.val cls.val → ch.toNat < s.dev.core.part.nCh → s.dev.core.rd CH_CFG.en ch.toNat = 1 →
    Answers (exec (.forceHoldover p cls tag ch v) s) fun t =>
      Replied s.dev.core t.dev.core p.val cls.val 2 tag.toNat hsOk [] ∧ t.dev.core.rd CH_CTRL.force_ho ch.toNat = b2n v) ∧
  (∀ (s : State) (p : Fin 2) (cls : Fin 4) (tag : BitVec 16) (ch : BitVec 8) (v : Bool), Running s →
    PortFree s.dev.core p.val cls.val → ch.toNat < s.dev.core.part.nCh → s.dev.core.rd CH_CFG.en ch.toNat = 0 →
    Answers (exec (.forceHoldover p cls tag ch v) s) fun t =>
      Replied s.dev.core t.dev.core p.val cls.val 2 tag.toNat hsCfgLock [] ∧
      t.dev.core.rd CH_EVENT.cmd_refused ch.toNat = 1 ∧
      t.dev.core.rd CH_CTRL.force_ho ch.toNat = s.dev.core.rd CH_CTRL.force_ho ch.toNat) ∧
  (∀ (s : State) (p : Fin 2) (cls : Fin 4) (tag : BitVec 16) (ch cand : BitVec 8), Running s →
    PortFree s.dev.core p.val cls.val → ch.toNat < s.dev.core.part.nCh → s.dev.core.rd CH_CFG.en ch.toNat = 1 →
    s.dev.core.manOk ch.toNat cand.toNat = true →
    Answers (exec (.manualSelect p cls tag ch cand) s) fun t =>
      Replied s.dev.core t.dev.core p.val cls.val 3 tag.toNat hsOk [] ∧
      t.dev.core.rd CH_SEL_CFG.manual ch.toNat = cand.toNat) ∧
  (∀ (s : State) (p : Fin 2) (cls : Fin 4) (tag : BitVec 16) (ch cand : BitVec 8), Running s →
    PortFree s.dev.core p.val cls.val → (31 < cand.toNat ∨ 12 ≤ ch.toNat) →
    Answers (exec (.manualSelect p cls tag ch cand) s) fun t =>
      Replied s.dev.core t.dev.core p.val cls.val 3 tag.toNat hsBadCmd []) ∧
  (∀ (s : State) (p : Fin 2) (cls : Fin 4) (tag : BitVec 16) (mask : BitVec 32) (o : Fin 24), Running s →
    PortFree s.dev.core p.val cls.val → mask.toNat < 2 ^ s.dev.core.part.nOut →
    Answers (exec (.muteOutput p cls tag mask true) s) fun t =>
      Replied s.dev.core t.dev.core p.val cls.val 4 tag.toNat hsOk [] ∧
      t.dev.core.rd OUT_CFG.en o.val = if bitOf mask.toNat o.val then 0 else s.dev.core.rd OUT_CFG.en o.val) ∧
  (∀ (s : State) (p : Fin 2) (cls : Fin 4) (tag : BitVec 16) (mask : BitVec 32) (o : Fin 24), Running s →
    PortFree s.dev.core p.val cls.val → mask.toNat < 2 ^ s.dev.core.part.nOut → s.dev.core.mtl.heldKeys = [] →
    Answers (exec (.muteOutput p cls tag mask false) s) fun t =>
      Replied s.dev.core t.dev.core p.val cls.val 4 tag.toNat hsOk [] ∧
      t.dev.core.rd OUT_CFG.en o.val = if bitOf mask.toNat o.val then 1 else s.dev.core.rd OUT_CFG.en o.val) ∧
  (∀ (s : State) (p : Fin 2) (cls : Fin 4) (tag : BitVec 16) (ch : BitVec 8), Running s →
    PortFree s.dev.core p.val cls.val → ch.toNat < s.dev.core.part.nCh → s.dev.core.rd CH_CFG.en ch.toNat = 1 →
    s.dev.core.rd CH_CFG.kind ch.toNat = 1 →
    Answers (exec (.readStatus p cls tag ch []) s) fun t =>
      Replied s.dev.core t.dev.core p.val cls.val 5 tag.toNat hsOk
        (bytesLE 4 (s.dev.core.rowWord CH_STAT.row ch.toNat) ++ bytesLE 4 (s.dev.core.rowWord CH_PHERR.row ch.toNat) ++ bytesLE 8 0)) ∧
  (∀ (s : State) (p : Fin 2) (cls : Fin 4) (tag : BitVec 16) (ch : BitVec 8), Running s →
    PortFree s.dev.core p.val cls.val → ch.toNat < s.dev.core.part.nCh → s.dev.core.rd CH_CFG.en ch.toNat = 0 →
    Answers (exec (.readStatus p cls tag ch []) s) fun t =>
      Replied s.dev.core t.dev.core p.val cls.val 5 tag.toNat hsCfgLock []) ∧
  (∀ (s : State) (p : Fin 2) (cls : Fin 4) (tag : BitVec 16) (fs unit : BitVec 8), Running s →
    PortFree s.dev.core p.val cls.val → 95 < fs.toNat →
    Answers (exec (.ackFault p cls tag fs unit) s) fun t =>
      Replied s.dev.core t.dev.core p.val cls.val 6 tag.toNat hsBadCmd [] ∧
      (∀ w < 3, t.dev.core.rd FLT_UNACK.unack 0 w = s.dev.core.rd FLT_UNACK.unack 0 w)) ∧
  (∀ (s : State) (p : Fin 2) (cls : Fin 4) (tag : BitVec 16) (fs unit : BitVec 8), Running s →
    PortFree s.dev.core p.val cls.val → fs.toNat ≤ 95 → s.dev.core.part.fsAbsent fs.toNat = false →
    (fsTracked fs.toNat = false ∨ unit.toNat = 255 ∨ s.dev.core.part.fsUnitOk fs.toNat unit.toNat = true) →
    s.dev.core.building = [] →
    Answers (exec (.ackFault p cls tag fs unit) s) fun t =>
      Replied s.dev.core t.dev.core p.val cls.val 6 tag.toNat hsOk [] ∧ t.dev.core.unacked fs.toNat unit.toNat = false) ∧
  (∀ (s : State) (p : Fin 2) (cls : Fin 4) (tag : BitVec 16) (fs unit : BitVec 8), Running s →
    PortFree s.dev.core p.val cls.val → fs.toNat ≤ 95 → s.dev.core.part.fsAbsent fs.toNat = true →
    Answers (exec (.ackFault p cls tag fs unit) s) fun t =>
      Replied s.dev.core t.dev.core p.val cls.val 6 tag.toNat hsAbsent [])

/-- R54, R337, R338, R339, R340 and R342: the commands of classes 1 to 3.
The model's own choices and readings here: log entries 85 (DEDUCED), 86 (DEDUCED). -/
def Obligations.HostTransfers : Prop :=
  (∀ (s : State) (p : Fin 2) (cls : Fin 4) (tag : BitVec 16) (body : List Byte), Running s → PortFree s.dev.core p.val cls.val →
    cls.val ≠ 0 →
    Answers (exec (.echo p cls tag body) s) fun t => Replied s.dev.core t.dev.core p.val cls.val 0x30 tag.toNat hsOk body) ∧
  (∀ (s : State) (p : Fin 2) (tag : BitVec 16) (body : List Byte), Running s → PortFree s.dev.core p.val 0 →
    Answers (exec (.echo p 0 tag body) s) fun t =>
      t.dev.core.waiting p.val 1 = s.dev.core.waiting p.val 1 ++ [packet 1 1 0x30 tag.toNat hsOk 1 false true body] ∧
      t.dev.core.rd HLK_POLICY_CNT.count = min (2 ^ HLK_POLICY_CNT.count.width - 1) (s.dev.core.rd HLK_POLICY_CNT.count + 1) ∧
      bitOf (t.dev.core.rd FLT_RAW.hit 0 1) 10 = true) ∧
  (∀ (s : State) (p : Fin 2) (cls : Fin 4) (tag : BitVec 16) (k : Fin 9) (be : BitVec 4), Running s →
    PortFree s.dev.core p.val cls.val → cls.val ≠ 0 → be ≠ 0 →
    Answers (exec (.regRead p cls tag (BitVec.ofNat 32 (4 * k.val)) be false 1) s) fun t =>
      Replied s.dev.core t.dev.core p.val cls.val 0x10 tag.toNat hsOk
        (bytesLE 4 (s.dev.core.part.idWord (4 * k.val) &&& beMask be.toNat))) ∧
  (∀ (s : State) (p : Fin 2) (cls : Fin 4) (tag : BitVec 16) (addr : BitVec 32) (be : BitVec 4) (r : RegRef), Running s →
    PortFree s.dev.core p.val cls.val → cls.val ≠ 0 → s.dev.core.part.access addr.toNat be.toNat = .reg r none →
    r.readsPlain = true → (r.id = .frs → r.row.off ≠ 0x10) →
    Answers (exec (.regRead p cls tag addr be false 1) s) fun t =>
      Replied s.dev.core t.dev.core p.val cls.val 0x10 tag.toNat hsOk (bytesLE 4 (s.dev.core.liveWord r &&& beMask be.toNat)) ∧
      (∀ f ∈ r.row.flds, (f.acc = .rc → t.dev.core.rd f r.i r.k = 0) ∧
        (f.acc = .rw ∨ f.acc = .ro → t.dev.core.rd f r.i r.k = s.dev.core.rd f r.i r.k))) ∧
  (∀ (s : State) (p : Fin 2) (cls : Fin 4) (tag : BitVec 16) (addr : BitVec 32) (be : BitVec 4) (r u : RegRef), Running s →
    PortFree s.dev.core p.val cls.val → cls.val ≠ 0 → s.dev.core.part.access addr.toNat be.toNat = .reg r none →
    r.row.isL = true → r.dataPort = false → (r.id = .frs → r.row.off ≠ 0x10) →
    s.dev.core.part.decodeWord (r.addr + 4) = .reg u → u.row.isH = true →
    Answers (exec (.regRead p cls tag addr be false 1) s) fun t =>
      Replied s.dev.core t.dev.core p.val cls.val 0x10 tag.toNat hsOk (bytesLE 4 (s.dev.core.liveWord r &&& beMask be.toNat)) ∧
      t.dev.core.shadow.get 0 (exKey (2 + p.val) (r.addr + 4)) = s.dev.core.liveWord u ∧
      (∀ ex : Fin 4, ex.val ≠ 2 + p.val → ∀ a : Nat, a < 2 ^ 32 →
        t.dev.core.shadow.get 0 (exKey ex.val a) = s.dev.core.shadow.get 0 (exKey ex.val a))) ∧
  (∀ (s : State) (p : Fin 2) (cls : Fin 4) (tag : BitVec 16) (addr : BitVec 32) (be : BitVec 4) (r : RegRef), Running s →
    PortFree s.dev.core p.val cls.val → cls.val ≠ 0 → s.dev.core.part.access addr.toNat be.toNat = .reg r none →
    r.row.isH = true → r.dataPort = false →
    Answers (exec (.regRead p cls tag addr be false 1) s) fun t =>
      Replied s.dev.core t.dev.core p.val cls.val 0x10 tag.toNat hsOk
        (bytesLE 4 (s.dev.core.shadow.get 0 (exKey (2 + p.val) r.addr) &&& beMask be.toNat)) ∧
      t.dev.core.shadow = s.dev.core.shadow) ∧
  (∀ (s : State) (p : Fin 2) (cls : Fin 4) (tag : BitVec 16) (addr : BitVec 32) (be : BitVec 4) (w : BitVec 32) (r : RegRef),
    Running s → PortFree s.dev.core p.val cls.val → cls.val ≠ 0 →
    s.dev.core.part.access addr.toNat be.toNat = .reg r none → r.storesOnly = true →
    Answers (exec (.regWrite p cls tag addr be false [w]) s) fun t =>
      Replied s.dev.core t.dev.core p.val cls.val 0x11 tag.toNat hsOk [1#8, 0#8, 0#8, 0#8] ∧
      (∀ f ∈ r.row.flds, f.acc = .rw → t.dev.core.rd f r.i r.k = mergeField f (s.dev.core.rd f r.i r.k) be.toNat w.toNat)) ∧
  (∀ (s : State) (p : Fin 2) (cls : Fin 4) (tag : BitVec 16) (addr : BitVec 32) (be : BitVec 4) (e : Nat), Running s →
    PortFree s.dev.core p.val cls.val → cls.val ≠ 0 → s.dev.core.part.access addr.toNat be.toNat = .bad e →
    Answers (exec (.regRead p cls tag addr be false 1) s) fun t =>
      Replied s.dev.core t.dev.core p.val cls.val 0x10 tag.toNat hsBusErr [] ∧
      t.dev.core.rd IDB_BUSERR_STAT.count = min (2 ^ IDB_BUSERR_STAT.count.width - 1) (s.dev.core.rd IDB_BUSERR_STAT.count + 1)) ∧
  (∀ (s : State) (p : Fin 2) (cls : Fin 4) (tag : BitVec 16) (be : BitVec 4) (w : BitVec 32), Running s →
    PortFree s.dev.core p.val cls.val → cls.val ≠ 0 → be ≠ 0 →
    Answers (exec (.regWrite p cls tag 0x10000 be false [w]) s) fun t =>
      Replied s.dev.core t.dev.core p.val cls.val 0x11 tag.toNat hsOk [1#8, 0#8, 0#8, 0#8] ∧
      t.dev.core.rd HLK_CFG.c3_share = mergeField HLK_CFG.c3_share (s.dev.core.rd HLK_CFG.c3_share) be.toNat w.toNat ∧
      t.dev.core.rd HLK_CFG.qn_en = mergeField HLK_CFG.qn_en (s.dev.core.rd HLK_CFG.qn_en) be.toNat w.toNat) ∧
  (∀ (s : State) (p : Fin 2) (cls : Fin 4) (tag : BitVec 16) (addr : BitVec 32) (be : BitVec 4) (w : BitVec 32) (e : Nat),
    Running s → PortFree s.dev.core p.val cls.val → cls.val ≠ 0 → s.dev.core.part.access addr.toNat be.toNat = .bad e →
    Answers (exec (.regWrite p cls tag addr be false [w]) s) fun t =>
      Replied s.dev.core t.dev.core p.val cls.val 0x11 tag.toNat hsBusErr [0#8, 0#8, 0#8, 0#8]) ∧
  (∀ (s : State) (p : Fin 2) (cls : Fin 4) (tag : BitVec 16), Running s → PortFree s.dev.core p.val cls.val → cls.val ≠ 0 →
    s.dev.core.rd TMC_STAT.state = 1 → s.dev.core.memU.tAbort = false →
    Answers (exec (.abort p cls tag 2 0) s) fun t =>
      Replied s.dev.core t.dev.core p.val cls.val 0x13 tag.toNat hsOk [] ∧ t.dev.core.memU.tAbort = true) ∧
  (∀ (s : State) (p : Fin 2) (cls : Fin 4) (tag : BitVec 16), Running s → PortFree s.dev.core p.val cls.val → cls.val ≠ 0 →
    s.dev.core.rd TMC_STAT.state ≠ 1 →
    Answers (exec (.abort p cls tag 2 0) s) fun t =>
      Replied s.dev.core t.dev.core p.val cls.val 0x13 tag.toNat hsNoop []) ∧
  (∀ (s : State) (p : Fin 2) (cls : Fin 4) (tag : BitVec 16) (off : BitVec 32) (data : List Byte) (j : Nat), Running s →
    PortFree s.dev.core p.val cls.val → cls.val ≠ 0 → s.dev.core.mlState = mlIdle → data.length % 4 = 0 → 4 ≤ data.length →
    data.length ≤ 4088 → off.toNat + data.length ≤ 65536 → j < data.length →
    Answers (exec (.bulkWrite p cls tag 0 off data) s) fun t =>
      Replied s.dev.core t.dev.core p.val cls.val 0x20 tag.toNat hsOk (bytesLE 4 data.length) ∧
      t.dev.mem.staged.get 0#8 (off.toNat + j) = data.getD j 0#8) ∧
  (∀ (s : State) (p : Fin 2) (cls : Fin 4) (tag : BitVec 16) (len : BitVec 16) (off : BitVec 32), Running s →
    PortFree s.dev.core p.val cls.val → cls.val ≠ 0 → len.toNat % 4 = 0 → 4 ≤ len.toNat → len.toNat ≤ 4096 →
    off.toNat + len.toNat ≤ 129 * 1024 →
    Answers (exec (.bulkRead p cls tag 1 len off) s) fun t =>
      Replied s.dev.core t.dev.core p.val cls.val 0x21 tag.toNat hsOk
        ((List.range len.toNat).map (fun j => s.dev.mem.firn.get 0#8 (off.toNat + j)))) ∧
  (∀ (s : State) (p : Fin 2) (cls : Fin 4) (tag : BitVec 16) (q : BitVec 8) (limit : BitVec 16), Running s →
    PortFree s.dev.core p.val cls.val → cls.val ≠ 0 → q.toNat ≤ 127 → 1 ≤ limit.toNat → limit.toNat ≤ 256 →
    s.dev.core.rd QMG_Q_CFG.en q.toNat = 0 →
    Answers (exec (.queueDrain p cls tag q false false false limit) s) fun t =>
      Replied s.dev.core t.dev.core p.val cls.val 0x22 tag.toNat hsAbsent []) ∧
  (∀ (s : State) (p : Fin 2) (cls : Fin 4) (tag : BitVec 16) (q : BitVec 8) (limit : BitVec 16), Running s →
    PortFree s.dev.core p.val cls.val → cls.val ≠ 0 → q.toNat ≤ 127 → 1 ≤ limit.toNat → limit.toNat ≤ 256 →
    s.dev.core.rd QMG_Q_CFG.en q.toNat = 1 → s.dev.core.streams.any (fun x => decide (x.queue = q.toNat)) = true →
    s.dev.core.pclk = true → (s.dev.core.queue q.toNat).items = [] →
    Answers (exec (.queueDrain p cls tag q false false false limit) s) fun t =>
      Replied s.dev.core t.dev.core p.val cls.val 0x22 tag.toNat hsOk [] ∧ (t.dev.core.queue q.toNat).items = []) ∧
  (∀ (s : State) (p : Fin 2) (cls : Fin 4) (tag : BitVec 16) (q : BitVec 8) (rel rew mark : Bool) (limit : BitVec 16), Running s →
    PortFree s.dev.core p.val cls.val → cls.val ≠ 0 → q.toNat ≤ 127 → 1 ≤ limit.toNat → limit.toNat ≤ 256 →
    s.dev.core.rd QMG_Q_CFG.en q.toNat = 1 → s.dev.core.streams.any (fun x => decide (x.queue = q.toNat)) = true →
    s.dev.core.pclk = true → (s.dev.core.queue q.toNat).items.all (fun it => it.readable && it.complete &&
      it.flaw.isNone && decide (0 < it.len) && !s.dev.core.itemHeld it) = true → s.dev.core.middleSound q.toNat →
    Answers (exec (.queueDrain p cls tag q rel rew mark limit) s) fun t =>
      let x := (s.dev.core.queue q.toNat).controlled rel rew mark
      let y := drainWords x.rp limit.toNat x.items
      Replied s.dev.core t.dev.core p.val cls.val 0x22 tag.toNat hsOk (y.1.flatMap (bytesLE 16)) ∧
      (t.dev.core.queue q.toNat).items = x.items ∧ (t.dev.core.queue q.toNat).rp = y.2 ∧
      (t.dev.core.queue q.toNat).mark = x.mark) ∧
  (∀ (s : State) (p : Fin 2) (cls : Fin 4) (tag : BitVec 16) (q : BitVec 8) (limit : BitVec 16), Running s →
    PortFree s.dev.core p.val cls.val → cls.val ≠ 0 → q.toNat ≤ 127 → 1 ≤ limit.toNat → limit.toNat ≤ 256 →
    s.dev.core.rd QMG_Q_CFG.en q.toNat = 1 → s.dev.core.streams.any (fun x => decide (x.queue = q.toNat)) = true →
    s.dev.core.pclk = true →
    (s.dev.core.queue q.toNat).nextItem.all (fun it => !s.dev.core.readable (s.dev.core.queue q.toNat) it) = true →
    Answers (exec (.queueDrain p cls tag q false false false limit) s) fun t =>
      Replied s.dev.core t.dev.core p.val cls.val 0x22 tag.toNat hsOk [] ∧
      t.dev.core.queue q.toNat = s.dev.core.queue q.toNat) ∧
  (∀ (s : State) (p : Fin 2) (cls : Fin 4) (tag : BitVec 16) (off : BitVec 32) (data : List Byte) (j : Nat), Running s →
    PortFree s.dev.core p.val cls.val → cls.val ≠ 0 → data.length % 4 = 0 → 4 ≤ data.length → data.length ≤ 4088 →
    off.toNat + data.length ≤ 2 ^ 21 → j < data.length → (List.range 16).all (fun b => !s.dev.core.bankBusy b) = true →
    Answers (exec (.bulkWrite p cls tag 3 off data) s) fun t =>
      Replied s.dev.core t.dev.core p.val cls.val 0x20 tag.toNat hsOk (bytesLE 4 data.length) ∧
      t.dev.mem.tile.get none (off.toNat + j) = some (data.getD j 0#8)) ∧
  (∀ (s : State) (p : Fin 2) (cls : Fin 4) (tag : BitVec 16) (off : BitVec 32) (data : List Byte), Running s →
    PortFree s.dev.core p.val cls.val → cls.val ≠ 0 → data.length % 4 = 0 → 4 ≤ data.length → data.length ≤ 4088 →
    off.toNat + data.length ≤ 2 ^ 21 → s.dev.core.bankBusy (off.toNat / 131072) = true → s.dev.core.memOut = [] →
    s.dev.core.memLost = [] →
    Answers (exec (.bulkWrite p cls tag 3 off data) s) fun t =>
      (t.dev.core.port p.val).burst.isSome = true ∧ t.dev.core.waiting p.val cls.val = s.dev.core.waiting p.val cls.val ∧
      s.dev.core.rd TMC_COLL.busy ≤ t.dev.core.rd TMC_COLL.busy ∧ t.dev.mem.tile = s.dev.mem.tile)

/-- R354, R355, R356, R364, R365, R371, R372 and R373: register accesses, the alias region, the indirect windows and the scrub of
the triplicated fields.
The model's own choices and readings here: log entries 81 (DEDUCED), 82 (DEDUCED), 95 (DEDUCED). -/
def Obligations.RegisterAccesses : Prop :=
  (∀ (s : State) (ex : Fin 4) (be : BitVec 4) (data : BitVec 32) (hw : Bool), Running s → s.dev.core.indWaits ex.val = false → be ≠ 0 →
    Answers (exec (.registerWrite ex 0x10000 be (data, hw)) s) fun t =>
      t.dev.core.rd HLK_CFG.qn_en = mergeField HLK_CFG.qn_en (s.dev.core.rd HLK_CFG.qn_en) be.toNat data.toNat ∧
      t.dev.core.rd HLK_CFG.qn_port = mergeField HLK_CFG.qn_port (s.dev.core.rd HLK_CFG.qn_port) be.toNat data.toNat ∧
      t.dev.core.rd HLK_CFG.ib_notify = mergeField HLK_CFG.ib_notify (s.dev.core.rd HLK_CFG.ib_notify) be.toNat data.toNat ∧
      t.dev.core.rd HLK_CFG.c3_share = mergeField HLK_CFG.c3_share (s.dev.core.rd HLK_CFG.c3_share) be.toNat data.toNat ∧
      t.dev.core.rd IDB_BUSERR_STAT.count = s.dev.core.rd IDB_BUSERR_STAT.count) ∧
  (∀ (s : State) (ex : Fin 4) (addr : BitVec 32) (be : BitVec 4) (data : BitVec 32) (hw : Bool) (r : RegRef), Running s →
    s.dev.core.indWaits ex.val = false → s.dev.core.part.access addr.toNat be.toNat = .reg r none → r.storesOnly = true →
    Answers (exec (.registerWrite ex addr be (data, hw)) s) fun t =>
      ∀ f ∈ r.row.flds, f.acc = .rw → t.dev.core.rd f r.i r.k = mergeField f (s.dev.core.rd f r.i r.k) be.toNat data.toNat) ∧
  (∀ (s : State) (ex : Fin 4) (addr : BitVec 32) (be : BitVec 4) (data : BitVec 32) (hw : Bool), Running s →
    s.dev.core.indWaits ex.val = true →
    Answers (exec (.registerWrite ex addr be (data, hw)) s) fun t =>
      t.dev.core.exHeld = s.dev.core.exHeld ++ [⟨ex.val, addr.toNat, be.toNat, data.toNat, true, hw⟩] ∧
      t.dev.core.outside [0x27] = s.dev.core.outside [0x27]) ∧
  (∀ (s : State) (ex : Fin 4) (addr : BitVec 32) (be : BitVec 4) (data : BitVec 32) (hw : Bool) (e : Nat), Running s →
    s.dev.core.indWaits ex.val = false →
    s.dev.core.part.access addr.toNat be.toNat = .bad e → s.dev.core.rd IDB_BUSERR_STAT.valid = 0 →
    Answers (exec (.registerWrite ex addr be (data, hw)) s) fun t =>
      t.dev.core.rd IDB_BUSERR_STAT.valid = 1 ∧ t.dev.core.rd IDB_BUSERR_STAT.cause = e ∧
      t.dev.core.rd IDB_BUSERR_STAT.source = exSource ex.val ∧ t.dev.core.rd IDB_BUSERR_ADDR.addr = addr.toNat ∧
      t.dev.core.rd IDB_BUSERR_STAT.count = min (2 ^ IDB_BUSERR_STAT.count.width - 1) (s.dev.core.rd IDB_BUSERR_STAT.count + 1) ∧
      bitOf (t.dev.core.rd FLT_RAW.hit 0 1) 15 = true) ∧
  (∀ (s : State) (ex : Fin 4) (addr : BitVec 32) (be : BitVec 4) (data : BitVec 32) (hw : Bool) (e : Nat), Running s →
    s.dev.core.indWaits ex.val = false →
    s.dev.core.part.access addr.toNat be.toNat = .bad e → s.dev.core.rd IDB_BUSERR_STAT.valid = 1 →
    Answers (exec (.registerWrite ex addr be (data, hw)) s) fun t =>
      t.dev.core.rd IDB_BUSERR_STAT.cause = s.dev.core.rd IDB_BUSERR_STAT.cause ∧
      t.dev.core.rd IDB_BUSERR_ADDR.addr = s.dev.core.rd IDB_BUSERR_ADDR.addr ∧
      t.dev.core.rd IDB_BUSERR_STAT.count = min (2 ^ IDB_BUSERR_STAT.count.width - 1)
        (s.dev.core.rd IDB_BUSERR_STAT.count + 1)) ∧
  (∀ (s : State) (ex : Fin 4) (b : Fin 4) (be : BitVec 4) (data : BitVec 32), Running s → s.dev.core.indWaits ex.val = false →
    be.toNat.testBit 0 = true →
    Answers (exec (.bitAliasWrite ex (BitVec.ofNat 32 (0x40000000 + 0x10000 * 32 + (20 + b.val) * 4)) be data) s) fun t =>
      t.dev.core.rd HLK_CFG.c3_share = putBit (s.dev.core.rd HLK_CFG.c3_share) b.val (bitOf data.toNat 0) ∧
      t.dev.core.rd HLK_CFG.ib_notify = s.dev.core.rd HLK_CFG.ib_notify ∧
      t.dev.core.rd HLK_CFG.qn_en = s.dev.core.rd HLK_CFG.qn_en) ∧
  (∀ (s : State) (n ex : Fin 4) (write : Bool) (data : BitVec 32), Running s → s.dev.core.indWaits ex.val = false →
    (s.dev.core.inds.get {} n.val).acc = none →
    Answers (exec (.indDataAccess n ex write data) s) fun t =>
      (t.dev.core.inds.get {} n.val).acc = some ⟨ex.val, write, data.toNat,
        s.dev.core.rd IND_CFG.space n.val, s.dev.core.rd IND_ADDR.addr n.val * 4, s.dev.core.rdB IND_CFG.inc n.val, false, true⟩) ∧
  (∀ (s : State) (n ex : Fin 4) (write : Bool) (data : BitVec 32), Running s → s.dev.core.indWaits ex.val = false →
    (s.dev.core.inds.get {} n.val).acc.isSome = true →
    Answers (exec (.indDataAccess n ex write data) s) fun t =>
      (t.dev.core.inds.get {} n.val).acc = (s.dev.core.inds.get {} n.val).acc ∧
      (t.dev.core.inds.get {} n.val).more = (s.dev.core.inds.get {} n.val).more ++ [(ex.val, write, data.toNat)]) ∧
  (∀ (s : State) (n : Fin 4) (busy : Nat) (coll late : Bool) (x : IndAcc), Running s → PortsIdle s.dev.core → s.dev.core.exHeld = [] →
    (s.dev.core.inds.get {} n.val).acc = some x → x.space = 0 → s.dev.core.bankBusy (x.addr / 131072) = true →
    Answers (exec (.indAccessDone n busy coll late) s) fun t =>
      t.dev.core.inds.get {} n.val = s.dev.core.inds.get {} n.val ∧
      t.dev.core.rd TMC_COLL.busy = min (2 ^ TMC_COLL.busy.width - 1) (s.dev.core.rd TMC_COLL.busy + busy + 1)) ∧
  (∀ (s : State) (n : Fin 4) (busy : Nat) (late : Bool) (x : IndAcc), Running s → PortsIdle s.dev.core → s.dev.core.exHeld = [] →
    s.dev.core.inds.get {} n.val = { acc := some x } → x.space = 0 → x.write = true → x.addr + 4 ≤ 2 ^ 21 →
    s.dev.core.bankBusy (x.addr / 131072) = false → s.dev.core.memOut = [] → s.dev.core.memLost = [] →
    Answers (exec (.indAccessDone n busy true late) s) fun t =>
      t.dev.core.rd IND_ERR.wr_coll n.val = 1 ∧ (t.dev.core.inds.get {} n.val).acc = none ∧ t.dev.mem.tile = s.dev.mem.tile) ∧
  (∀ (s : State) (n : Fin 4) (busy : Nat) (x : IndAcc) (j : Fin 4), Running s → s.dev.core.inds.get {} n.val = { acc := some x } →
    x.space = 0 → x.write = true → x.lost = false → x.addr + 4 ≤ 2 ^ 21 → s.dev.core.bankBusy (x.addr / 131072) = false →
    s.dev.core.memOut = [] → s.dev.core.memLost = [] → PortsIdle s.dev.core → s.dev.core.exHeld = [] →
    Answers (exec (.indAccessDone n busy false false) s) fun t =>
      t.dev.mem.tileByte (x.addr + j.val) = BitVec.ofNat 8 (x.data >>> (8 * j.val)) ∧
      (t.dev.core.inds.get {} n.val).acc = none ∧
      t.dev.core.rd IND_ADDR.addr n.val = if x.inc then (s.dev.core.rd IND_ADDR.addr n.val + 1) % 2 ^ IND_ADDR.addr.width
        else s.dev.core.rd IND_ADDR.addr n.val) ∧
  (∀ (s : State) (n : Fin 4) (busy : Nat) (late : Bool) (x : IndAcc), Running s →
    s.dev.core.inds.get {} n.val = { acc := some x } → x.space = 0 → 2 ^ 21 ≤ x.addr →
    s.dev.core.bankBusy (x.addr / 131072) = false → PortsIdle s.dev.core → s.dev.core.exHeld = [] →
    Answers (exec (.indAccessDone n busy false late) s) fun t =>
      t.dev.core.rd IND_ERR.unavail n.val = 1 ∧ (t.dev.core.inds.get {} n.val).acc = none ∧
      t.dev.core.rd IND_ADDR.addr n.val = s.dev.core.rd IND_ADDR.addr n.val ∧
      t.dev.core.rd IDB_BUSERR_STAT.count = min (2 ^ IDB_BUSERR_STAT.count.width - 1)
        (s.dev.core.rd IDB_BUSERR_STAT.count + 1)) ∧
  (∀ (s : State) (k : Fin 96), Running s → s.dev.core.tvB.get 0 (FLT_SRC_CFG.sev.key k.val 0) ≠ 0 →
    s.dev.core.tvC.get 0 (FLT_SRC_CFG.sev.key k.val 0) = 0 →
    (FLT_SRC_CFG.row.flds.all fun f => decide (f = FLT_SRC_CFG.sev) || (decide (s.dev.core.tvB.get 0 (f.key k.val 0) = 0) &&
      decide (s.dev.core.tvC.get 0 (f.key k.val 0) = 0))) = true → s.dev.core.rd FLT_INJ_CFG.arm = 0 →
    Answers (exec (.tvScrubVisit (BitVec.ofNat 32 (FLT_SRC_CFG.sev.addr k.val 0))) s) fun t =>
      t.dev.core.rd FLT_SRC_CFG.sev k.val = s.dev.core.rdTv FLT_SRC_CFG.sev k.val ∧
      t.dev.core.rdTv FLT_SRC_CFG.sev k.val = s.dev.core.rdTv FLT_SRC_CFG.sev k.val ∧
      t.dev.core.tvB.get 0 (FLT_SRC_CFG.sev.key k.val 0) = 0 ∧
      t.dev.core.rd IDB_TV_CORR.count = min (2 ^ IDB_TV_CORR.count.width - 1) (s.dev.core.rd IDB_TV_CORR.count + 1) ∧
      bitOf (t.dev.core.rd FLT_RAW.hit 0 1) 14 = true) ∧
  (∀ (s : State) (k : Fin 96), Running s →
    (FLT_SRC_CFG.row.flds.all fun f => decide (s.dev.core.tvB.get 0 (f.key k.val 0) = 0) &&
      decide (s.dev.core.tvC.get 0 (f.key k.val 0) = 0)) = true →
    Answers (exec (.tvScrubVisit (BitVec.ofNat 32 (FLT_SRC_CFG.sev.addr k.val 0))) s) fun t =>
      t.dev.core.rd IDB_TV_CORR.count = s.dev.core.rd IDB_TV_CORR.count ∧
      t.dev.core.rd FLT_SRC_CFG.sev k.val = s.dev.core.rd FLT_SRC_CFG.sev k.val)

/-- R396, R399, R401, R402, R403 and R410: the states of the Mortar loader.
The model's own choices and readings here: log entries 63 (DEDUCED), 64 (DEDUCED). -/
def Obligations.LoaderStates : Prop :=
  (∀ (s : State), Running s → s.dev.core.mlState = mlIdle →
    Answers (exec .load s) fun t =>
      t.dev.core.mlState = mlVerifying ∧
      t.dev.core.mtl.load = some { apply := s.dev.core.rdB MTL_CTRL.apply, store := s.dev.core.rdB MTL_CTRL.store }) ∧
  (∀ (s : State), Running s → s.dev.core.mlState ≠ mlIdle →
    Answers (exec .load s) fun t =>
      t.dev.core.mlState = s.dev.core.mlState ∧ t.dev.core.mtl.load = s.dev.core.mtl.load ∧
      t.dev.core.rd MTL_CFG_REJECT.valid = 1) ∧
  (∀ (s : State) (run : LoadRun), Running s → s.dev.core.mlState = mlVerifying → s.dev.core.mtl.load = some run →
    run.course = false → NoneAsked s.dev.core → (s.dev.core.port 0).burst = none → (s.dev.core.port 1).burst = none →
    Answers (exec (.mtlAbort false) s) fun t =>
      t.dev.core.mlState = mlIdle ∧ t.dev.core.mtl.load = none ∧ t.dev.core.rd MTL_STAT.abort_st = 1 ∧
      t.dev.core.rd MTL_EVENT.rejected = 1 ∧ t.dev.core.rd MTL_STAT.reject = 0 ∧
      bitOf (t.dev.core.rd FLT_RAW.hit 0 1) 22 = true) ∧
  (∀ (s : State) (fixed : Bool), Running s → s.dev.core.mlState = mlApplying → (s.dev.core.port 0).burst = none →
    (s.dev.core.port 1).burst = none →
    Answers (exec (.mtlAbort fixed) s) fun t =>
      t.dev.core.mlState = mlApplying ∧ t.dev.core.rd MTL_STAT.abort_st = 2) ∧
  (∀ (s : State) (fixed : Bool), Running s → s.dev.core.mlState = mlIdle → NoneAsked s.dev.core → (s.dev.core.port 0).burst = none →
    (s.dev.core.port 1).burst = none →
    Answers (exec (.mtlAbort fixed) s) fun t =>
      t.dev.core.mlState = mlIdle ∧ t.dev.core.rd MTL_STAT.abort_st = s.dev.core.rd MTL_STAT.abort_st) ∧
  (∀ (s : State) (run : LoadRun), Running s → s.dev.core.mlState = mlVerifying → s.dev.core.mtl.load = some run →
    run.course = false → s.dev.core.rd STG_STAT.stage = 3 → NoneAsked s.dev.core →
    (s.dev.core.imgCheck s.dev.mem.image s.dev.mem.key false run.store).code ≠ 0 →
    (s.dev.core.imgCheck s.dev.mem.image s.dev.mem.key false run.store).code < 16 →
    (s.dev.core.port 0).burst = none → (s.dev.core.port 1).burst = none →
    Answers (exec .verifyDone s) fun t =>
      t.dev.core.mlState = mlIdle ∧ t.dev.core.mtl.load = none ∧ t.dev.core.rd MTL_EVENT.rejected = 1 ∧
      t.dev.core.rd MTL_STAT.reject = (s.dev.core.imgCheck s.dev.mem.image s.dev.mem.key false run.store).code ∧
      t.dev.core.rd MTL_REJECT_CNT.count = min (2 ^ MTL_REJECT_CNT.count.width - 1) (s.dev.core.rd MTL_REJECT_CNT.count + 1) ∧
      bitOf (t.dev.core.rd FLT_RAW.hit 0 1) 22 = true) ∧
  (∀ (s : State) (run : LoadRun), Running s → s.dev.core.mlState = mlVerifying → s.dev.core.mtl.load = some run →
    run.course = false → run.apply = true → run.second = false → s.dev.core.rd STG_STAT.stage = 3 →
    (s.dev.core.imgCheck s.dev.mem.image s.dev.mem.key false run.store).code = 0 →
    (s.dev.core.port 0).burst = none → (s.dev.core.port 1).burst = none →
    Answers (exec .verifyDone s) fun t =>
      t.dev.core.mlState = mlApplying ∧ t.dev.core.rd MTL_STAT.step = 0 ∧ t.dev.core.mtl.load = none ∧
      t.dev.core.mtl.app.map ApplyRun.changed =
        some (s.dev.core.imgCheck s.dev.mem.image s.dev.mem.key false run.store).changed ∧
      t.dev.core.mtl.heldKeys = s.dev.core.mtl.heldKeys ∧
      t.dev.core.rd MTL_STAT.reject = 0) ∧
  (∀ (s : State) (a : ApplyRun) (us : Nat), Running s → s.dev.core.mtl.app = some a → s.dev.core.mlState = mlApplying →
    s.dev.core.rd MTL_STAT.step = 0 → s.dev.core.mtl.later = [] →
    a.changed.any (fun k => s.dev.core.itemEnabled s.dev.core.mtl.recs a.recs a.course k) = false →
    Answers (exec (.applyStepDone us) s) fun t =>
      t.dev.core.rd MTL_STAT.step = 1 ∧ t.dev.core.mtl.heldKeys = a.changed ∧ t.dev.core.mtl.recs = s.dev.core.mtl.recs) ∧
  (∀ (s : State) (a : ApplyRun) (us : Nat), Running s → s.dev.core.mtl.app = some a → s.dev.core.mlState = mlApplying →
    s.dev.core.rd MTL_STAT.step = 1 → s.dev.core.mtl.later = [] →
    Answers (exec (.applyStepDone us) s) fun t =>
      t.dev.core.rd MTL_STAT.step = 2 ∧ t.dev.core.mtl.heldKeys = s.dev.core.mtl.heldKeys ∧ t.dev.core.mtl.recs = s.dev.core.mtl.recs) ∧
  (∀ (s : State) (a : ApplyRun) (us : Nat), Running s → s.dev.core.mtl.app = some a → s.dev.core.mlState = mlApplying →
    s.dev.core.rd MTL_STAT.step = 0 → s.dev.core.mtl.later = [] → a.course = false → NoneAsked s.dev.core →
    a.changed.any (fun k => s.dev.core.itemEnabled s.dev.core.mtl.recs a.recs a.course k) = true →
    Answers (exec (.applyStepDone us) s) fun t =>
      t.dev.core.mlState = mlIdle ∧ t.dev.core.mtl.app = none ∧ t.dev.core.rd MTL_STAT.reject = rcEnabled ∧
      t.dev.core.mtl.recs = s.dev.core.mtl.recs) ∧
  (∀ (s : State) (a : ApplyRun) (us : Nat), Running s → s.dev.core.mtl.app = some a → s.dev.core.mlState = mlApplying →
    s.dev.core.rd MTL_STAT.step = 10 → s.dev.core.mtl.later = [] → a.course = false → a.store = false →
    NoneAsked s.dev.core →
    Answers (exec (.applyStepDone us) s) fun t =>
      t.dev.core.mlState = mlIdle ∧ t.dev.core.mtl.app = none ∧ t.dev.core.mtl.heldKeys = [] ∧
      t.dev.core.rd MTL_ID.id = a.id % 2 ^ 32 ∧ t.dev.core.rd MTL_SEQ.seq = a.seq % 2 ^ 32 ∧ t.dev.core.rd MTL_EVENT.applied = 1 ∧
      t.dev.core.rd MTL_STAT.partial = b2n a.isPart ∧ t.dev.core.rd MTL_STAT.auth = b2n a.auth)

/-- R400, R401 and R402: the stores of an image into Firn.
The model's own choices and readings here: log entries 64 (DEDUCED), 66 (DEDUCED). -/
def Obligations.ImageStores : Prop :=
  (∀ (s : State) (slot len id seq j : Nat) (rest : List (Nat × Nat)), Running s →
    s.dev.core.mtl.storing = some (slot, len, id, seq) → s.dev.core.firnU.done = (2, 0) :: rest → s.dev.core.mlState = mlStoring →
    s.dev.core.firnOut = [] →
    s.dev.core.firnU.waiting = [] → s.dev.core.firnU.asked = [] → s.dev.core.firnU.run = none → s.dev.core.firnU.tGo = false →
    s.dev.core.firnU.tq = [] → (s.dev.core.page 128).tokens ≠ 0 → s.dev.mem.directory = none → j < 32 →
    Answers (exec .slotStored s) fun t =>
      t.dev.mem.firn.get 0#8 (128 * 1024 + j) = (directoryPage slot seq (if slot = 0 then id else 0)
        (if slot = 0 then 0 else id) len).getD j 0#8 ∧
      t.dev.core.mlState = s.dev.core.mlState ∧ t.dev.core.mtl.storing = s.dev.core.mtl.storing) ∧
  (∀ (s : State) (slot len id seq a p : Nat) (rest : List (Nat × Nat)) (x : StoreRun), Running s →
    s.dev.core.mtl.storing = some (slot, len, id, seq) → s.dev.core.firnU.done = (2, 0) :: rest → s.dev.core.mlState = mlStoring →
    s.dev.core.firnOut = [] →
    s.dev.core.firnU.run = some x → x.page = some p → s.dev.mem.directory = none →
    Answers (exec .slotStored s) fun t =>
      t.dev.core.firnU.dirNew =
        some (directoryPage slot seq (if slot = 0 then id else 0) (if slot = 0 then 0 else id) len) ∧
      t.dev.mem.firn.get 0#8 a = s.dev.mem.firn.get 0#8 a) ∧
  (∀ (s : State) (slot len id seq : Nat) (rest : List (Nat × Nat)), Running s →
    s.dev.core.mtl.storing = some (slot, len, id, seq) → s.dev.core.firnU.done = (3, 0) :: rest → NoneAsked s.dev.core →
    Answers (exec .slotStored s) fun t =>
      t.dev.core.rd MTL_EVENT.stored = 1 ∧ t.dev.core.rd MTL_STAT.active_slot = slot % 2 ^ MTL_STAT.active_slot.width ∧
      t.dev.core.mlState = mlIdle ∧ t.dev.core.mtl.storing = none) ∧
  (∀ (s : State) (slot len id seq k : Nat) (rest : List (Nat × Nat)), Running s →
    s.dev.core.mtl.storing = some (slot, len, id, seq) → s.dev.core.firnU.done = (k, 1) :: rest → NoneAsked s.dev.core →
    Answers (exec .slotStored s) fun t =>
      t.dev.core.rd MTL_EVENT.store_fail = 1 ∧ t.dev.core.rd MTL_STAT.active_slot = s.dev.core.rd MTL_STAT.active_slot ∧
      t.dev.core.mlState = mlIdle ∧ t.dev.core.mtl.storing = none ∧ bitOf (t.dev.core.rd FLT_RAW.hit 0 1) 24 = true) ∧
  (∀ (s : State) (slot len id seq p : Nat) (rest : List (Nat × Nat)) (ps : List Nat), Running s →
    s.dev.core.mtl.storing = some (slot, len, id, seq) → s.dev.core.firnU.done = (3, 2) :: rest →
    s.dev.core.firnOut = [] → s.dev.core.firnU.waiting = [] → s.dev.core.firnU.asked = [] → s.dev.core.firnU.run = none →
    s.dev.core.firnU.tGo = false → s.dev.core.firnU.tq = [] → s.dev.core.dirtyPages 128 128 = p :: ps → (s.dev.core.page 128).tokens ≠ 0 →
    Answers (exec .storeRetry s) fun t =>
      t.dev.core.firnU.run.map (fun x => (x.req, x.page)) = some (⟨3, 128, 128⟩, some 128) ∧ t.dev.core.firnU.done = rest)

/-- R415, R418, R419, R420, R421, R423 and R426: the stages of the start.
The model's own choices and readings here: log entry 68 (DEDUCED). -/
def Obligations.StagedStart : Prop :=
  (∀ (s : State) (boot : BitVec 3) (o : Fin 4), s.dev.core.inReset = true → s.dev.core.firnU.run = none →
    Answers (exec (.resetRelease boot) s) fun t =>
      t.dev.core.inReset = false ∧ t.dev.core.rd STG_STAT.bootsel = boot.toNat ∧ t.dev.core.rd STG_STAT.store_busy = 0 ∧
      t.dev.core.rd OUT_CFG.en o.val = b2n (footDiv boot.toNat o.val ≠ 0) ∧
      t.dev.core.rd OUT_BYP.byp_div o.val = footDiv boot.toNat o.val) ∧
  (∀ (s : State) (boot : BitVec 3) (x : StoreRun) (p : Nat), s.dev.core.inReset = true → s.dev.core.firnU.run = some x →
    x.page = some p →
    Answers (exec (.resetRelease boot) s) fun t => t.dev.core.inReset = true ∧ t.dev.core.rd STG_STAT.store_busy = 1) ∧
  (∀ (s : State) (khz us : Nat), Running s → s.dev.core.rd STG_STAT.stage = 1 → s.dev.core.footed = false →
    s.dev.core.rd RS_STAT.lo_ok = 1 → 4 ≤ s.dev.core.rd STG_STAT.bootsel → s.dev.core.courseHeld = false →
    Answers (exec (.footingReported khz us) s) fun t =>
      t.dev.core.footed = true ∧ t.dev.core.rd STG_STAT.stage = 1 ∧ t.dev.core.rd STG_STAT.wait = 1 ∧
      t.dev.core.rd STG_T_FOOTING.us = min us (2 ^ STG_T_FOOTING.us.width - 1) ∧
      t.dev.core.rd RS_LO_MEAS.khz = min khz (2 ^ RS_LO_MEAS.khz.width - 1)) ∧
  (∀ (s : State) (khz us : Nat), Running s → s.dev.core.rd STG_STAT.stage = 1 → s.dev.core.footed = false →
    s.dev.core.rd STG_STAT.bootsel < 4 →
    Answers (exec (.footingReported khz us) s) fun t => t.dev.core.footed = true ∧ t.dev.core.rd STG_STAT.stage = 2) ∧
  (∀ (s : State), Running s → s.dev.core.rd STG_STAT.stage = 1 → 4 ≤ s.dev.core.rd STG_STAT.bootsel →
    s.dev.core.courseHeld = false → s.dev.core.footed = true →
    Answers (exec .coursePulse s) fun t => t.dev.core.rd STG_STAT.stage = 2 ∧ t.dev.core.rd STG_STAT.step = 1) ∧
  (∀ (s : State), Running s → s.dev.core.rd STG_STAT.stage = 1 → 4 ≤ s.dev.core.rd STG_STAT.bootsel →
    s.dev.core.courseHeld = false → s.dev.core.footed = false →
    Answers (exec .coursePulse s) fun t => t.dev.core.rd STG_STAT.stage = 1 ∧ t.dev.core.courseHeld = true) ∧
  (∀ (s : State), Running s → (s.dev.core.rd STG_STAT.stage ≠ 1 ∨ s.dev.core.rd STG_STAT.bootsel < 4) →
    Answers (exec .coursePulse s) fun t =>
      t.dev.core.rd STG_STAT.stage = s.dev.core.rd STG_STAT.stage ∧ t.dev.core.rd STG_CFG_REJECT.valid = 1 ∧
      (s.dev.core.rd STG_CFG_REJECT.valid = 0 → t.dev.core.rd STG_CFG_REJECT.word = 1)) ∧
  (∀ (s : State), Running s → s.dev.core.rd STG_STAT.stage = 2 → s.dev.core.rd STG_STAT.step = 3 → s.dev.core.memOut = [] →
    Answers (exec (.courseMarchDone []) s) fun t =>
      t.dev.core.rd STG_STAT.step = 4 ∧ t.dev.core.rd TMC_STAT.failed = 0 ∧ t.dev.core.rd TMC_STAT.state = 2 ∧
      (∀ b < 16, t.dev.core.rd TMC_BANK.spares 0 b = 0) ∧
      ((s.dev.core.part.vaultMB ≠ 0 ∨ s.dev.core.queues = []) → t.dev.mem.tile.all (fun e => decide (2 ^ 21 ≤ e.1)) = true)) ∧
  (∀ (s : State), Running s → s.dev.core.rd STG_STAT.stage = 2 → s.dev.core.rd STG_STAT.step = 4 →
    Answers (exec .courseCalDone s) fun t => t.dev.core.rd STG_STAT.step = 5 ∧ t.dev.core.glcReady = true) ∧
  (∀ (s : State) (us : Nat), Running s → s.dev.core.rd STG_STAT.stage = 2 → s.dev.core.rd STG_STAT.step = 5 →
    s.dev.core.rd STG_STAT.wait = 0 →
    Answers (exec (.courseReported us) s) fun t =>
      t.dev.core.rd STG_STAT.stage = 3 ∧ t.dev.core.rd STG_STAT.step = 0 ∧ t.dev.core.rd STG_STAT.wait = 0 ∧
      t.dev.core.estRun = true ∧ t.dev.core.rd STG_EVENT.course_done = 1 ∧
      t.dev.core.rd STG_T_COURSE.us = min us (2 ^ STG_T_COURSE.us.width - 1) ∧
      (s.dev.core.part.vaultMB ≠ 0 → t.dev.core.vaultState = vltTraining)) ∧
  (∀ (s : State), Running s → s.dev.core.rd STG_STAT.stage = 2 → s.dev.core.rd STG_STAT.wait ≠ 0 →
    s.dev.core.courseWaited = false →
    Answers (exec .courseWait s) fun t =>
      t.dev.core.courseWaited = true ∧ t.dev.core.rd STG_EVENT.course_wait = 1 ∧
      bitOf (t.dev.core.rd FLT_RAW.hit 0 1) 26 = true ∧ t.dev.core.rd STG_STAT.wait = s.dev.core.rd STG_STAT.wait)

/-- R427, R428, R431, R432, R434, R435 and R436: the device resets and the power warnings. A reset leaves every block off, discards
what waits, empties the staging buffer and keeps the Firn front.
The model's own choices and readings here: log entries 2 (DESIGN CHOICE), 6 (DESIGN CHOICE), 68 (DEDUCED). -/
def Obligations.DeviceResets : Prop :=
  (∀ (s : State) (q : Fin 128),
    Answers (exec .resetNAssert s) fun t =>
      t.dev.core.inReset = true ∧ t.dev.core.rd STG_RST_CAUSE.cause = 2 ∧ t.dev.core.rd STG_RST_CAUSE.fs = 0x7F ∧
      t.dev.core.rd STG_RST_CAUSE.count = min 65535 (s.dev.core.rd STG_RST_CAUSE.count + 1) ∧
      t.dev.core.UnitsOff ∧ (t.dev.core.queue q.val).items = [] ∧ t.dev.core.outbox = [] ∧
      t.dev.mem.staged = [] ∧ t.dev.mem.firn = s.dev.mem.firn) ∧
  (∀ (s : State),
    Answers (exec .powerOnReset s) fun t =>
      t.dev.core.inReset = true ∧ t.dev.core.rd STG_RST_CAUSE.cause = 0 ∧ t.dev.core.rd STG_RST_CAUSE.count = 0 ∧
      t.dev.core.mlState = mlIdle ∧ t.dev.mem.staged = []) ∧
  (∀ (s : State) (key : BitVec 16), Running s → key ≠ 0xD1E5#16 →
    Answers (exec (.hostReset key) s) fun t =>
      t.dev.core.rstReq = s.dev.core.rstReq ∧ t.dev.core.rd STG_CFG_REJECT.valid = 1) ∧
  (∀ (s : State), Running s → s.dev.core.rstReq = none →
    Answers (exec (.hostReset 0xD1E5#16) s) fun t => t.dev.core.rstReq = some (3, 0x7F) ∧ t.dev.core.inReset = false) ∧
  (∀ (s : State) (cause fs : Nat) (q : Fin 128), s.dev.core.rstReq = some (cause, fs) →
    Answers (exec .deviceReset s) fun t =>
      t.dev.core.UnitsOff ∧ (t.dev.core.queue q.val).items = [] ∧ t.dev.core.outbox = [] ∧ t.dev.mem.staged = [] ∧
      t.dev.mem.firn = s.dev.mem.firn ∧ t.dev.core.rd STG_RST_CAUSE.fs = (if cause = 4 then fs % 128 else 0x7F) ∧
      t.dev.core.rd STG_RST_CAUSE.count = (if cause = 0 then 0 else min 65535 (s.dev.core.rd STG_RST_CAUSE.count + 1)) ∧
      t.dev.core.inReset = true ∧ t.dev.core.rd STG_RST_CAUSE.cause = cause % 8 ∧ t.dev.core.rstReq = none) ∧
  (∀ (s : State), s.dev.core.rstReq = none →
    Answers (exec .deviceReset s) fun t => t.dev.core.inReset = s.dev.core.inReset) ∧
  (∀ (s : State),
    Answers (exec .powerFail s) fun t =>
      t.dev.core.inReset = true ∧ t.dev.core.rd STG_RST_CAUSE.cause = 1 ∧ t.dev.mem.staged = [] ∧
      t.dev.core.firnU.waiting.all (fun r => decide (r.kind = 6)) = true) ∧
  (∀ (s : State), Running s → s.dev.core.rdTv STG_PF_CFG.aux_en = 1 → s.dev.core.rd STG_STAT.aux_low = 0 →
    Answers (exec .auxWarning s) fun t =>
      t.dev.core.rd STG_STAT.aux_low = 1 ∧ t.dev.core.rd STG_EVENT.aux_low = 1 ∧
      bitOf (t.dev.core.rd FLT_RAW.hit 0 1) 27 = true ∧ t.dev.core.inReset = false) ∧
  (∀ (s : State), Running s → s.dev.core.rdTv STG_PF_CFG.aux_en = 0 →
    Answers (exec .auxWarning s) fun t => t.dev.core.rd STG_STAT.aux_low = s.dev.core.rd STG_STAT.aux_low) ∧
  (∀ (s : State), Running s → s.dev.core.rd STG_STAT.aux_low = 1 → s.dev.core.rdTv STG_PF_CFG.aux_en = 1 →
    s.dev.core.rdTv STG_PF_CFG.aux_rst = 1 →
    Answers (exec .auxDelayExpire s) fun t => t.dev.core.inReset = true ∧ t.dev.core.rd STG_RST_CAUSE.cause = 1) ∧
  (∀ (s : State), Running s → s.dev.core.rd STG_STAT.stage = 3 → s.dev.core.vholdTold = false →
    Answers (exec .vholdLow s) fun t =>
      t.dev.core.rd STG_EVENT.vhold_low = 1 ∧ t.dev.core.rd STG_STAT.vhold_ok = 0 ∧ t.dev.core.vholdTold = true ∧
      bitOf (t.dev.core.rd FLT_RAW.hit 0 1) 28 = true) ∧
  (∀ (s : State), s.dev.core.vholdTold = true →
    Answers (exec .vholdLow s) fun t =>
      t.dev.core.rd STG_EVENT.vhold_low = s.dev.core.rd STG_EVENT.vhold_low ∧ t.dev.core.rd STG_STAT.vhold_ok = 0)

/-- R405, R430 and R438: a block reset begins at once, unless the loader holds the unit, and ends with the unit following its
enable.
The model's own choices and readings here: log entries 41 (DEDUCED), 69 (DEDUCED). -/
def Obligations.BlockResets : Prop :=
  (∀ (s : State) (unit : Fin 32) (index : Fin 128), Running s → s.dev.core.part.unitOk unit.val index.val = true →
    s.dev.core.mtl.heldKeys = [] →
    Answers (exec (.blockReset unit index) s) fun t => t.dev.core.inRst.contains (unit.val, index.val) = true) ∧
  (∀ (s : State) (unit : Fin 32) (index : Fin 128), Running s → s.dev.core.part.unitOk unit.val index.val = false →
    Answers (exec (.blockReset unit index) s) fun t =>
      t.dev.core.inRst = s.dev.core.inRst ∧ t.dev.core.rd STG_CFG_REJECT.valid = 1) ∧
  (∀ (s : State) (unit : Fin 32) (index : Fin 128), Running s → s.dev.core.part.unitOk unit.val index.val = true →
    s.dev.core.unitHeld unit.val index.val = true →
    Answers (exec (.blockReset unit index) s) fun t =>
      t.dev.core.inRst = s.dev.core.inRst ∧ t.dev.core.mtl.later = s.dev.core.mtl.later ++ [(unit.val, index.val)]) ∧
  (∀ (s : State) (h : Fin 12), Running s → h.val < s.dev.core.part.nCh → s.dev.core.mtl.heldKeys = [] →
    s.dev.core.inRst = [] →
    Answers (exec (.blockReset 1 (Fin.ofNat 128 h.val)) s) fun t => t.dev.core.chState h.val = chDisabled) ∧
  (∀ (s : State) (unit : Fin 9) (index : Fin 128), Running s → s.dev.core.inRst.contains (unit.val, index.val) = true →
    Answers (exec (.blockResetDone unit index) s) fun t => t.dev.core.inRst.contains (unit.val, index.val) = false) ∧
  (∀ (s : State) (unit : Fin 9) (index : Fin 128), Running s → s.dev.core.inRst.contains (unit.val, index.val) = false →
    Answers (exec (.blockResetDone unit index) s) fun t => t.dev.core.inRst = s.dev.core.inRst ∧ t.dev.core.chans = s.dev.core.chans)

/-- R443 to R447 and R449: stores of Firn pages. A store takes the least dirty page of its range into the page buffer, programs the
copy that was not written last, and uses a token.
The model's own choices and readings here: log entries 33 (DEDUCED), 94 (DEDUCED). -/
def Obligations.FirnStores : Prop :=
  (∀ (s : State) (first last : BitVec 8) (p : Nat) (ps : List Nat), Running s → s.dev.core.firnOut = [] →
    s.dev.core.firnU.waiting = [] → s.dev.core.firnU.asked = [] → s.dev.core.firnU.run = none →
    s.dev.core.firnU.tq = [] → s.dev.core.firnU.tGo = false → s.dev.core.dirtyPages first.toNat last.toNat = p :: ps →
    (p :: ps).any (fun j => decide ((s.dev.core.page j).tokens = 0)) = false →
    Answers (exec (.frnStoreGo first last) s) fun t =>
      t.dev.core.firnU.run.map (fun x => (x.req, x.page)) = some (⟨0, first.toNat, last.toNat⟩, some p) ∧
      (t.dev.core.page p).dirty = false ∧
      (∀ k : Fin 1024, t.dev.mem.pbuf.get 0#8 k.val = s.dev.mem.firn.get 0#8 (1024 * p + k.val)) ∧
      t.dev.core.rd FRN_STAT.state = 1) ∧
  (∀ (s : State) (first last : BitVec 8), Running s → s.dev.core.firnOut = [] → s.dev.core.firnU.waiting.length = 4 →
    s.dev.core.firnU.asked = [] →
    Answers (exec (.frnStoreGo first last) s) fun t =>
      t.dev.core.rd FRN_EVENT.deferred = 1 ∧
      t.dev.core.rd FRN_DEFER_CNT.count = min (2 ^ FRN_DEFER_CNT.count.width - 1) (s.dev.core.rd FRN_DEFER_CNT.count + 1)) ∧
  (∀ (s : State) (first last : BitVec 8) (p : Nat), Running s → s.dev.core.firnOut = [] → s.dev.core.firnU.asked = [] →
    p ∈ s.dev.core.dirtyPages first.toNat last.toNat → (s.dev.core.page p).tokens = 0 →
    Answers (exec (.frnStoreGo first last) s) fun t =>
      t.dev.core.rd FRN_EVENT.deferred = 1 ∧
      t.dev.core.rd FRN_DEFER_CNT.count = min (2 ^ FRN_DEFER_CNT.count.width - 1) (s.dev.core.rd FRN_DEFER_CNT.count + 1)) ∧
  (∀ (s : State) (x : StoreRun) (p : Nat), Running s → s.dev.core.firnU.run = some x → x.page = some p → x.req.kind ≤ 3 →
    x.abort = false → s.dev.core.firnU.asked = [] →
    Answers (exec (.frnStoreAbort false) s) fun t =>
      t.dev.core.firnU.run = some { x with abort := true } ∧ t.dev.core.rd FRN_STAT.abort_st = 1 ∧
      t.dev.core.firnU.waiting = s.dev.core.firnU.waiting) ∧
  (∀ (s : State) (x : StoreRun) (p : Nat) (fail : Bool), Running s → s.dev.core.firnU.run = some x → x.page = some p →
    x.abort = true → s.dev.core.firnU.waiting = [] → s.dev.core.firnU.asked = [] → s.dev.core.firnU.tq = [] →
    s.dev.core.firnU.tGo = false →
    Answers (exec (.pageStored fail) s) fun t => t.dev.core.firnU.run = none) ∧
  (∀ (s : State) (x : StoreRun) (p : Nat), Running s → s.dev.core.firnU.run = some x → x.page = some p → x.req.kind ≤ 3 →
    x.abort = false →
    Answers (exec (.frnStoreAbort true) s) fun t =>
      t.dev.core.firnU.run = some x ∧ t.dev.core.rd FRN_STAT.abort_st = 2) ∧
  (∀ (s : State) (x : StoreRun) (p j : Nat), s.dev.core.firnU.run = some x → x.page = some p →
    (s.dev.core.page p).last = 1 → j < 1024 →
    Answers (exec (.pageStored false) s) fun t =>
      t.dev.mem.shadowA.get 0#8 (1024 * p + j) = s.dev.mem.pbuf.get 0#8 j ∧ (t.dev.core.page p).aOk = true ∧
      (t.dev.core.page p).seqA = ((s.dev.core.page p).seq + 1) % 2 ^ 32 ∧ (t.dev.core.page p).last = 0 ∧
      (t.dev.core.page p).tokens = (s.dev.core.page p).tokens - 1 ∧ t.dev.mem.shadowB = s.dev.mem.shadowB ∧ t.dev.copyOk p false = true) ∧
  (∀ (s : State) (x : StoreRun) (p j : Nat), s.dev.core.firnU.run = some x → x.page = some p →
    (s.dev.core.page p).last = 0 → j < 1024 →
    Answers (exec (.pageStored false) s) fun t =>
      t.dev.mem.shadowB.get 0#8 (1024 * p + j) = s.dev.mem.pbuf.get 0#8 j ∧ (t.dev.core.page p).bOk = true ∧
      (t.dev.core.page p).seqB = ((s.dev.core.page p).seq + 1) % 2 ^ 32 ∧ (t.dev.core.page p).last = 1 ∧
      t.dev.mem.shadowA = s.dev.mem.shadowA ∧ t.dev.copyOk p true = true) ∧
  (∀ (s : State) (x : StoreRun) (p : Nat), s.dev.core.firnU.run = some x → x.page = some p →
    Answers (exec (.pageStored true) s) fun t =>
      t.dev.core.rd FRN_EVENT.store_fail = 1 ∧ bitOf (t.dev.core.rd FLT_RAW.hit 0 1) 29 = true ∧
      (t.dev.core.page p).tokens = (s.dev.core.page p).tokens) ∧
  (∀ (s : State) (p : Fin 256),
    Answers (exec .tokenAccrual s) fun t =>
      (t.dev.core.page p.val).tokens = min 64 ((s.dev.core.page p.val).tokens + 1) ∧
      (t.dev.core.page p.val).seq = (s.dev.core.page p.val).seq) ∧
  (∀ (s : State) (p : Fin 256) (weak crcBad : Bool), Running s → s.dev.core.rd FRN_CFG.refresh_en = 1 →
    s.dev.core.firnU.cold = false → (s.dev.core.page p.val).aBlank = false →
    Answers (exec (.refreshRead p false weak crcBad) s) fun t =>
      (t.dev.core.page p.val).aWeak = weak ∧
      (t.dev.core.page p.val).aOk = (!crcBad && (s.dev.core.page p.val).crcA.isSome) ∧
      (t.dev.core.page p.val).bOk = (s.dev.core.page p.val).bOk ∧
      (crcBad = true → t.dev.core.rd FRN_EVENT.copy_bad = 1 ∧ bitOf (t.dev.core.rd FLT_RAW.hit 0 1) 31 = true)) ∧
  (∀ (s : State) (p : Fin 256) (weak crcBad : Bool), Running s → s.dev.core.rd FRN_CFG.refresh_en = 1 →
    s.dev.core.firnU.cold = false → (s.dev.core.page p.val).bBlank = false →
    Answers (exec (.refreshRead p true weak crcBad) s) fun t =>
      (t.dev.core.page p.val).bWeak = weak ∧
      (t.dev.core.page p.val).bOk = (!crcBad && (s.dev.core.page p.val).crcB.isSome) ∧
      (t.dev.core.page p.val).aOk = (s.dev.core.page p.val).aOk) ∧
  (∀ (s : State) (p : Fin 256) (b weak crcBad : Bool), s.dev.core.firnU.cold = true → s.dev.core.firnU.asked = [] →
    Answers (exec (.refreshRead p b weak crcBad) s) fun t =>
      t.dev.core.outside [] = s.dev.core.outside [] ∧ (s.dev.core.firnOut = [] → (t.dev.core.page p.val).aOk =
        (s.dev.core.page p.val).aOk ∧ (t.dev.core.page p.val).bOk = (s.dev.core.page p.val).bOk))

/-- R451, R452, R453, R454 and R463: the key page and the tally counters; and, R444 to R447 and R449, the store engine that
serves them.
The model's own choices and readings here: log entry 71 (DESIGN CHOICE). -/
def Obligations.KeysAndTallies : Prop :=
  (∀ (s : State) (j : Nat), Running s → s.dev.core.firnOut = [] → s.dev.core.rd FRN_KEY_STAT.key_set = 0 → j < 1024 →
    Answers (exec (.provision 0x4B59#16) s) fun t =>
      t.dev.core.rd FRN_KEY_STAT.key_set = 1 ∧ (∀ k < 8, t.dev.core.rd FRN_KEY_W.key 0 k = 0) ∧
      t.dev.mem.firn.get 0#8 (keyPageBase + j) = (keyPage (s.dev.core.rdB FRN_KEY_STAT.policy)
        (some ((List.range 8).flatMap (fun k => bytesBE 4 (s.dev.core.rd FRN_KEY_W.key 0 k))))).getD j 0#8 ∧
      t.dev.core.rd FRN_KEY_STAT.policy = s.dev.core.rd FRN_KEY_STAT.policy) ∧
  (∀ (s : State) (confirm : BitVec 16), Running s → (confirm ≠ 0x4B59#16 ∨ s.dev.core.rd FRN_KEY_STAT.key_set = 1) →
    Answers (exec (.provision confirm) s) fun t =>
      t.dev.core.rd FRN_KEY_STAT.key_set = s.dev.core.rd FRN_KEY_STAT.key_set ∧ t.dev.core.rd FRN_CFG_REJECT.valid = 1 ∧
      t.dev.core.rd FRN_KEY_W.key 0 0 = s.dev.core.rd FRN_KEY_W.key 0 0) ∧
  (∀ (s : State), Running s → s.dev.core.rd FRN_KEY_STAT.key_set = 1 →
    Answers (exec (.policy 0x4B59#16) s) fun t =>
      t.dev.core.rd FRN_KEY_STAT.policy = 1 ∧ t.dev.core.rdTv MTL_CFG.auth_req = 1) ∧
  (∀ (s : State), Running s → s.dev.core.rd FRN_KEY_STAT.key_set = 0 →
    Answers (exec (.policy 0x4B59#16) s) fun t =>
      t.dev.core.rd FRN_KEY_STAT.policy = s.dev.core.rd FRN_KEY_STAT.policy ∧ t.dev.core.rd FRN_CFG_REJECT.valid = 1) ∧
  (∀ (s : State), Running s → s.dev.core.rd FRN_KEY_STAT.policy = 0 →
    Answers (exec (.zeroise 0x4B59#16) s) fun t =>
      t.dev.core.rd FRN_KEY_STAT.key_set = 0 ∧ t.dev.core.rd FRN_KEY_KCV.kcv = 0) ∧
  (∀ (s : State), Running s → s.dev.core.rd FRN_KEY_STAT.policy = 1 →
    Answers (exec (.zeroise 0x4B59#16) s) fun t =>
      t.dev.core.rd FRN_KEY_STAT.key_set = s.dev.core.rd FRN_KEY_STAT.key_set ∧ t.dev.core.rd FRN_CFG_REJECT.valid = 1) ∧
  (∀ (s : State) (k : Fin 32), Running s → (s.dev.core.tally k.val).failed = false →
    Answers (exec (.tallyInc k) s) fun t =>
      t.dev.core.firnU.tq = s.dev.core.firnU.tq ++ [k.val] ∧
      (t.dev.core.tally k.val).value = (s.dev.core.tally k.val).value) ∧
  (∀ (s : State) (k : Fin 32), Running s → (s.dev.core.tally k.val).failed = true →
    Answers (exec (.tallyInc k) s) fun t =>
      t.dev.core.firnU.tq = s.dev.core.firnU.tq ∧ (t.dev.core.tally k.val).value = 0xFFFFFFFF) ∧
  (∀ (s : State) (k : Fin 32) (h : Nat) (rest : List Nat), (s.dev.core.tally k.val).failed = false → (s.dev.core.tally k.val).ha = some h →
    (s.dev.core.tally k.val).hb = some h → (s.dev.core.tally k.val).cells ≤ 16 → 
    s.dev.core.firnU.tq = k.val :: rest → s.dev.core.firnU.tGo = true →
    Answers (exec (.tallyIncDone k) s) fun t =>
      (t.dev.core.tally k.val).value = (s.dev.core.tally k.val).value + 1 ∧ t.dev.core.firnU.tq = rest) ∧
  (∀ (s : State) (k : Fin 32), s.dev.core.firnU.tGo = false ∨ s.dev.core.firnU.tq.head? ≠ some k.val →
    Answers (exec (.tallyIncDone k) s) fun t => t.dev.core.firnU.tallies = s.dev.core.firnU.tallies) ∧
  (∀ (s : State) (first last : BitVec 8), Running s → s.dev.core.firnOut = [] → s.dev.core.firnU.asked = [] →
    s.dev.core.firnU.run = none → s.dev.core.firnU.waiting = [] → s.dev.core.firnU.tq = [] → s.dev.core.firnU.tGo = false →
    s.dev.core.dirtyPages first.toNat last.toNat = [] →
    Answers (exec (.frnStoreGo first last) s) fun t =>
      t.dev.core.firnU.run = none ∧ t.dev.core.rd FRN_EVENT.store_done = 1 ∧
      t.dev.core.rd FRN_STORE_CTRL.first = first.toNat ∧ t.dev.core.rd FRN_STORE_CTRL.last = last.toNat ∧
      t.dev.core.rd FRN_DEFER_CNT.count = s.dev.core.rd FRN_DEFER_CNT.count) ∧
  (∀ (s : State) (x : StoreRun) (p : Nat) (late : Bool), Running s → s.dev.core.firnU.run = some x → x.page = some p →
    x.req.kind ≤ 3 → x.abort = false →
    Answers (exec (.frnStoreAbort late) s) fun t =>
      t.dev.core.rd FRN_STAT.abort_st = (if late then 2 else 1) ∧
      t.dev.core.firnU.run.map StoreRun.abort = some (!late)) ∧
  (∀ (s : State) (x : StoreRun) (p : Nat), Running s → s.dev.core.firnU.run = some x → x.page = some p →
    Answers (exec (.pageStored false) s) fun t =>
      t.dev.core.rd FRN_STORE_CNT.count = min (2 ^ FRN_STORE_CNT.count.width - 1) (s.dev.core.rd FRN_STORE_CNT.count + 1) ∧
      (t.dev.core.page p).tokens = (s.dev.core.page p).tokens - 1) ∧
  (∀ (s : State) (p : Fin 256), Running s →
    Answers (exec .tokenAccrual s) fun t =>
      (t.dev.core.page p.val).tokens = min 64 ((s.dev.core.page p.val).tokens + 1)) ∧
  (∀ (s : State) (p : Fin 256) (b crcBad : Bool), Running s → s.dev.core.rd FRN_CFG.refresh_en = 1 →
    s.dev.core.firnU.cold = false → (s.dev.core.page p.val).aBlank = false → (s.dev.core.page p.val).bBlank = false →
    (s.dev.core.page p.val).dirty = true → s.dev.core.firnU.asked = [] →
    Answers (exec (.refreshRead p b true crcBad) s) fun t =>
      (if b then (t.dev.core.page p.val).bWeak else (t.dev.core.page p.val).aWeak) = true ∧
      (t.dev.core.page p.val).dirty = true ∧ t.dev.core.firnU.waiting.length ≤ s.dev.core.firnU.waiting.length)

/-- R456 to R461: the Frost domain.
The model's own choices and readings here: log entry 72 (DEDUCED). -/
def Obligations.FrostDomain : Prop :=
  (∀ (s : State), s.dev.core.rd FRS_W_STAT.xtal_ok = 1 → s.dev.core.frost.commit = none →
    Answers (exec .frostSecond s) fun t =>
      t.dev.core.rd FRS_W_SEC_LO.sec_lo + t.dev.core.rd FRS_W_SEC_HI.sec_hi * 2 ^ 32 =
        (s.dev.core.rd FRS_W_SEC_LO.sec_lo + s.dev.core.rd FRS_W_SEC_HI.sec_hi * 2 ^ 32 + 1) % 2 ^ 48 ∧
      t.dev.core.rd FRS_W_SUB.sub = 0 ∧
      (t.dev.core.rd FRS_W_SEC_LO.sec_lo = s.dev.core.rd FRS_W_ALARM_LO.al_lo →
        t.dev.core.rd FRS_W_SEC_HI.sec_hi = s.dev.core.rd FRS_W_ALARM_HI.al_hi →
        bitOf (t.dev.core.rd FRS_W_WAKE_STAT.ev) 4 = true)) ∧
  (∀ (s : State), s.dev.core.rd FRS_W_STAT.xtal_ok = 0 →
    Answers (exec .frostSecond s) fun t =>
      t.dev.core.rd FRS_W_SEC_LO.sec_lo = s.dev.core.rd FRS_W_SEC_LO.sec_lo ∧
      t.dev.core.rd FRS_W_SUB.sub = s.dev.core.rd FRS_W_SUB.sub) ∧
  (∀ (s : State),
    Answers (exec .xtalFail s) fun t =>
      t.dev.core.rd FRS_W_STAT.xtal_ok = 0 ∧ t.dev.core.rd FRS_W_STAT.time_valid = 0 ∧ t.dev.core.rd FRS_STAT.xtal_ok = 0 ∧
      (Running s → t.dev.core.rd FRS_EVENT.xtal_fail = 1 ∧ bitOf (t.dev.core.rd FLT_RAW.hit 0 2) 1 = true)) ∧
  (∀ (s : State),
    Answers (exec .xtalRestart s) fun t =>
      t.dev.core.rd FRS_W_STAT.xtal_ok = 1 ∧ t.dev.core.rd FRS_W_STAT.time_valid = s.dev.core.rd FRS_W_STAT.time_valid ∧
      t.dev.core.rd FRS_W_SEC_LO.sec_lo = s.dev.core.rd FRS_W_SEC_LO.sec_lo) ∧
  (∀ (s : State),
    Answers (exec .frostPor s) fun t =>
      t.dev.core.rd FRS_W_STAT.frost_por = 1 ∧ t.dev.core.rd FRS_W_STAT.time_valid = 0 ∧ t.dev.core.rd FRS_W_SEC_LO.sec_lo = 0 ∧
      t.dev.core.rd FRS_W_SEC_HI.sec_hi = 0 ∧ t.dev.core.frost = {} ∧
      (∀ ex < 4, t.dev.core.shadow.get 0 (exKey ex (FRS_W_ALARM_HI.al_hi.addr 0 0)) = 0)) ∧
  (∀ (s : State),
    Answers (exec .coreLost s) fun t =>
      t.dev.core.inReset = true ∧ t.dev.core.rd FRS_W_STAT.core_lost = 1 ∧ t.dev.core.firnU.run = none ∧
      t.dev.core.firnU.waiting = []) ∧
  (∀ (s : State) (hi : BitVec 16), Running s →
    Answers (exec (.frostTimeCommit hi) s) fun t =>
      t.dev.core.rd FRS_W_SET_SEC_HI.sec_hi = hi.toNat ∧ t.dev.core.frost.commit =
        some (s.dev.core.rd FRS_W_SET_SEC_LO.sec_lo + hi.toNat * 2 ^ 32, s.dev.core.rd FRS_W_SET_SUB.sub) ∧
      t.dev.core.rd FRS_W_SEC_HI.sec_hi = s.dev.core.rd FRS_W_SEC_HI.sec_hi) ∧
  (∀ (s : State) (sec sub : Nat) (i : Instr), s.dev.core.frost.commit = some (sec, sub) → s.dev.core.rd FRS_W_STAT.xtal_ok = 1 →
    sec < 2 ^ 48 → sub < 2 ^ 15 → i = .frostTimeLoad ∨ i = .frostSecond →
    Answers (exec i s) fun t =>
      t.dev.core.rd FRS_W_SEC_LO.sec_lo + t.dev.core.rd FRS_W_SEC_HI.sec_hi * 2 ^ 32 = sec ∧
      t.dev.core.rd FRS_W_SUB.sub = sub ∧ t.dev.core.rd FRS_W_STAT.time_valid = 1 ∧
      t.dev.core.frost.commit = none ∧ t.dev.core.rd FRS_EVENT.time_set = 1) ∧
  (∀ (s : State) (sub : BitVec 15), Running s → s.dev.core.rd FRS_SYNC_CFG.en = 1 → s.dev.core.rd FRS_W_STAT.xtal_ok = 1 →
    (s.dev.core.rd STG_DT_STAT.src = srcSteered ∨ s.dev.core.rd STG_DT_STAT.src = srcHoldover) → s.dev.core.frost.commit = none →
    s.dev.core.frost.held = false →
    (((s.dev.core.rd FRS_W_SEC_LO.sec_lo + s.dev.core.rd FRS_W_SEC_HI.sec_hi * 2 ^ 32) * secPU + sub.toNat * 2000000000 : Int) -
      s.dev.core.now).natAbs ≤ max 1 (s.dev.core.rd FRS_SYNC_CFG.tol) * 2000000000 →
    Answers (exec (.frostSync sub) s) fun t =>
      t.dev.core.rd FRS_W_SUB.sub = sub.toNat ∧ t.dev.core.rd FRS_W_SEC_LO.sec_lo = s.dev.core.rd FRS_W_SEC_LO.sec_lo ∧
      t.dev.core.rd FRS_EVENT.sync_step = s.dev.core.rd FRS_EVENT.sync_step) ∧
  (∀ (s : State) (sub : BitVec 15), Running s → s.dev.core.rd FRS_SYNC_CFG.en = 1 → s.dev.core.rd FRS_W_STAT.xtal_ok = 1 →
    (s.dev.core.rd STG_DT_STAT.src = srcSteered ∨ s.dev.core.rd STG_DT_STAT.src = srcHoldover) → s.dev.core.frost.commit = none →
    s.dev.core.frost.held = false →
    max 1 (s.dev.core.rd FRS_SYNC_CFG.tol) * 2000000000 <
      (((s.dev.core.rd FRS_W_SEC_LO.sec_lo + s.dev.core.rd FRS_W_SEC_HI.sec_hi * 2 ^ 32) * secPU + sub.toNat * 2000000000 : Int) -
      s.dev.core.now).natAbs →
    Answers (exec (.frostSync sub) s) fun t =>
      t.dev.core.rd FRS_EVENT.sync_step = 1 ∧ t.dev.core.rd FRS_W_STAT.time_valid = 1 ∧ t.dev.core.frost.stepped = true) ∧
  (∀ (s : State), (s.dev.core.frost.win = none ∨ s.dev.core.frost.err = none ∨ s.dev.core.frost.stepped = true) →
    Answers (exec .trimWindow s) fun t =>
      t.dev.core.frost.win = s.dev.core.frost.err ∧ t.dev.core.frost.err = none ∧ t.dev.core.frost.stepped = false ∧
      t.dev.core.rd FRS_W_TRIM.trim = s.dev.core.rd FRS_W_TRIM.trim) ∧
  (∀ (s : State) (e0 e1 : Int), s.dev.core.frost.win = some e0 → s.dev.core.frost.err = some e1 →
    s.dev.core.rd FRS_SYNC_CFG.auto_trim = 1 → s.dev.core.rd FRS_SYNC_CFG.en = 1 → s.dev.core.rd FRS_W_STAT.xtal_ok = 1 →
    (s.dev.core.rd STG_DT_STAT.src = srcSteered ∨ s.dev.core.rd STG_DT_STAT.src = srcHoldover) →
    s.dev.core.frost.stepped = false →
    Answers (exec .trimWindow s) fun t =>
      t.dev.core.rd FRS_W_TRIM.trim = satS FRS_W_TRIM.trim.width (s.dev.core.rdS FRS_W_TRIM.trim -
        roundR16 (((e1 - e0 : Int) : Rat) * 2 / 1953125)) ∧
      t.dev.core.rd FRS_EVENT.trim_set = 1 ∧ t.dev.core.frost.win = some e1) ∧
  (∀ (s : State) (k : Fin 4) (v : Int), s.dev.core.cmpThr k.val ≤ v → 50 * v < 51 * s.dev.core.cmpThr k.val →
    Answers (exec (.comparatorSample k.castSucc v) s) fun t =>
      t.dev.core.rd FRS_W_CMP_STAT.levels = s.dev.core.rd FRS_W_CMP_STAT.levels) ∧
  (∀ (s : State) (k : Fin 5) (v : Int), (if k.val = 4 then s.dev.core.cmpThr 4 < v else 51 * s.dev.core.cmpThr k.val ≤ 50 * v - 50) →
    Answers (exec (.comparatorSample k v) s) fun t => bitOf (t.dev.core.rd FRS_W_CMP_STAT.levels) (4 - k.val) = true) ∧
  (∀ (s : State) (k : Fin 5) (v : Int), (if k.val = 4 then v ≤ s.dev.core.cmpThr 4 - 20 else v < s.dev.core.cmpThr k.val) →
    Answers (exec (.comparatorSample k v) s) fun t => bitOf (t.dev.core.rd FRS_W_CMP_STAT.levels) (4 - k.val) = false) ∧
  (∀ (s : State) (v : Int), Running s → bitOf (s.dev.core.rd FRS_W_CMP_STAT.levels) 0 = false → s.dev.core.cmpThr 4 < v →
    Answers (exec (.comparatorSample 4 v) s) fun t =>
      bitOf (t.dev.core.rd FRS_W_WAKE_STAT.ev) 2 = true ∧ bitOf (t.dev.core.rd FLT_RAW.hit 0 2) 3 = true ∧
      t.dev.core.rd FRS_STAT.temp_high = 1) ∧
  (∀ (s : State) (v : Int), Running s → bitOf (s.dev.core.rd FRS_W_CMP_STAT.levels) 2 = true → v < s.dev.core.cmpThr 2 →
    Answers (exec (.comparatorSample 2 v) s) fun t =>
      bitOf (t.dev.core.rd FRS_W_WAKE_STAT.ev) 3 = true ∧ bitOf (t.dev.core.rd FLT_RAW.hit 0 2) 2 = true ∧
      t.dev.core.rd FRS_STAT.vfrost_ok = 0)

/-- R470, R471, R473, R476 to R479, R482, R485, R487 and R488: hits, records, guard timers and acknowledgement.
The model's own choices and readings here: log entries 74 (DEDUCED), 76 (DEDUCED). -/
def Obligations.FaultRecords : Prop :=
  (∀ (s : State) (fs : Fin 96) (info addr : BitVec 32) (aux : BitVec 16), Running s → fsSpare fs.val = false →
    s.dev.core.part.fsAbsent fs.val = false → s.dev.core.part.fsUnitOk fs.val info.toNat = true →
    (fs.val = 72 → s.dev.core.part.hasWord info.toNat = true) →
    Answers (exec (.faultHit fs info addr aux) s) fun t =>
      bitOf (t.dev.core.rd FLT_RAW.hit 0 (fs.val / 32)) (fs.val % 32) = true) ∧
  (∀ (s : State) (fs : Fin 96) (info addr : BitVec 32) (aux : BitVec 16), Running s → fsSpare fs.val = false →
    s.dev.core.part.fsAbsent fs.val = false → s.dev.core.part.fsUnitOk fs.val info.toNat = true →
    (fs.val = 72 → s.dev.core.part.hasWord info.toNat = true) → fs.val ∉ [6, 40, 41, 42, 43, 49, 50, 52] →
    s.dev.core.rd FLT_INJ_CFG.arm = 0 → s.dev.core.rdTv FLT_SRC_CFG.sev fs.val = 3 →
    s.dev.core.shadowed fs.val info.toNat = false → s.dev.core.building = [] → fsTracked fs.val = false →
    Answers (exec (.faultHit fs info addr aux) s) fun t =>
      t.dev.core.building.map (fun r => (r.fs, r.sev, r.info, r.seq, r.real, r.inj)) =
        [(fs.val, 3, info.toNat, s.dev.core.fltSeq, true, false)] ∧
      t.dev.core.unacked fs.val 0 = true ∧ t.dev.core.rd FLT_STAT.fault_low = 1 ∧
      bitOf (t.dev.core.rd FLT_GUARD.run 0 (fs.val / 32)) (fs.val % 32) = true ∧
      t.dev.core.rd FLT_SRC_CNT.count fs.val = min (2 ^ FLT_SRC_CNT.count.width - 1) (s.dev.core.rd FLT_SRC_CNT.count fs.val + 1)) ∧
  (∀ (s : State) (fs : Fin 96) (info addr : BitVec 32) (aux : BitVec 16), Running s → fsSpare fs.val = true →
    Answers (exec (.faultHit fs info addr aux) s) fun t =>
      (∀ w < 3, t.dev.core.rd FLT_RAW.hit 0 w = s.dev.core.rd FLT_RAW.hit 0 w) ∧ t.dev.core.building = s.dev.core.building) ∧
  (∀ (s : State) (r : FltRec) (rest : List FltRec), Running s → s.dev.core.building = r :: rest → r.acts = [] →
    s.dev.core.ackWait = [] → s.dev.core.estRun = false → s.dev.core.fltBuf.length < 32 →
    Answers (exec .recordClose s) fun t => t.dev.core.building = rest ∧ t.dev.core.fltSeq = s.dev.core.fltSeq) ∧
  (∀ (s : State) (r : FltRec) (rest : List FltRec), Running s → s.dev.core.building = r :: rest → r.acts = [] →
    s.dev.core.ackWait = [] → r.notify = true → (s.dev.core.port 0).notes = [] → (s.dev.core.port 0).ins = [] →
    (s.dev.core.port 0).insCur = none →
    Answers (exec .recordClose s) fun t => (t.dev.core.port 0).notes.length = 1 ∧ t.dev.core.building = rest) ∧
  (∀ (s : State), Running s → s.dev.core.building = [] →
    Answers (exec .recordClose s) fun t => t.dev.core.building = [] ∧ t.dev.core.fltBuf = s.dev.core.fltBuf) ∧
  (∀ (s : State) (fs : Fin 96), Running s → bitOf (s.dev.core.rd FLT_GUARD.run 0 (fs.val / 32)) (fs.val % 32) = true →
    Answers (exec (.guardExpire fs) s) fun t =>
      bitOf (t.dev.core.rd FLT_GUARD.run 0 (fs.val / 32)) (fs.val % 32) = false ∧ t.dev.core.rd FLT_EVENT.escalated = 1 ∧
      (t.dev.core.building.drop s.dev.core.building.length).map (fun r => (r.fs, r.event, r.seq)) =
        [(fs.val, .escalate, s.dev.core.fltSeq)] ∧
      (s.dev.core.unackedUnits fs.val).all (fun u => t.dev.core.esc.contains (fs.val, u)) = true) ∧
  (∀ (s : State) (fs : Fin 96), Running s → bitOf (s.dev.core.rd FLT_GUARD.run 0 (fs.val / 32)) (fs.val % 32) = false →
    Answers (exec (.guardExpire fs) s) fun t => t.dev.core.building = s.dev.core.building ∧ t.dev.core.esc = s.dev.core.esc) ∧
  (∀ (s : State) (src : BitVec 7) (unit : BitVec 8), Running s → src.toNat < 96 → s.dev.core.building = [] →
    Answers (exec (.fltAck src unit) s) fun t =>
      t.dev.core.unacked src.toNat unit.toNat = false ∧ t.dev.core.rd FLT_ACK.src = src.toNat) ∧
  (∀ (s : State) (src : BitVec 7) (unit : BitVec 8), Running s → 96 ≤ src.toNat →
    Answers (exec (.fltAck src unit) s) fun t =>
      t.dev.core.rd FLT_CFG_REJECT.valid = 1 ∧ t.dev.core.building = s.dev.core.building ∧
      t.dev.core.engaged = s.dev.core.engaged) ∧
  (∀ (s : State), Running s → s.dev.core.building = [] →
    Answers (exec .ackAll s) fun t => (List.range 96).all (fun fs => (t.dev.core.unackedUnits fs).isEmpty) = true) ∧
  (∀ (s : State), Running s →
    Answers (exec .unmute s) fun t =>
      t.dev.core.rd FLT_MUTE_STAT.out = 0 ∧ t.dev.core.engaged = s.dev.core.engaged.filter (fun e => decide (e.kind ≠ 2))) ∧
  (∀ (s : State) (n : Fin 96) (data : BitVec 32), Running s → s.dev.core.part.fsAbsent n.val = false →
    bits data.toNat 2 0 ≤ 4 → actChecks s.dev.core.part (bits data.toNat 6 4)
      (s.dev.core.rdTv FLT_SRC_MASK.tgt n.val ||| (s.dev.core.rdTv FLT_SRC_MASK.self n.val) <<< 31) = (true, true) →
    Answers (exec (.fltSrcCfgWrite n false data) s) fun t =>
      t.dev.core.sev n.val = bits data.toNat 2 0 ∧
      (bits data.toNat 2 0 < 3 → bitOf (t.dev.core.rd FLT_GUARD.run 0 (n.val / 32)) (n.val % 32) = false)) ∧
  (∀ (s : State) (data : BitVec 32), Running s → bits data.toNat FLT_INJ_CFG.arm.hi FLT_INJ_CFG.arm.lo = 1 →
    bits data.toNat FLT_INJ_CFG.src.hi FLT_INJ_CFG.src.lo ≠ 46 →
    s.dev.core.injOk (bits data.toNat FLT_INJ_CFG.src.hi FLT_INJ_CFG.src.lo)
      (bits data.toNat FLT_INJ_CFG.inv.hi FLT_INJ_CFG.inv.lo) (s.dev.core.rd FLT_INJ_TGT.tgt) = true →
    Answers (exec (.injArm 15 data) s) fun t =>
      t.dev.core.rd FLT_INJ_CFG.arm = 1 ∧
      t.dev.core.rd FLT_INJ_CFG.src = bits data.toNat FLT_INJ_CFG.src.hi FLT_INJ_CFG.src.lo ∧
      t.dev.core.rd FLT_CFG_REJECT.count = s.dev.core.rd FLT_CFG_REJECT.count) ∧
  (∀ (s : State), Running s →
    Answers (exec (.wdogKick 0xA11E#16) s) fun t =>
      t.dev.core.rd FLT_CFG_REJECT.count = s.dev.core.rd FLT_CFG_REJECT.count ∧ t.dev.core.building = s.dev.core.building) ∧
  (∀ (s : State), Running s → s.dev.core.rdTv FLT_WDOG_CFG.en = 1 →
    Answers (exec .hostWdog s) fun t =>
      bitOf (t.dev.core.rd FLT_RAW.hit 0 2) 5 = true ∧
      t.dev.core.rd FLT_SRC_CNT.count 69 = min (2 ^ FLT_SRC_CNT.count.width - 1) (s.dev.core.rd FLT_SRC_CNT.count 69 + 1)) ∧
  (∀ (s : State) (unit : Fin 9) (index : Fin 128), Running s → s.dev.core.inRst.contains (unit.val, index.val) = false →
    Answers (exec (.quietWindowEnd unit index) s) fun t => t.dev.core.quiet.contains (unit.val, index.val) = false) ∧
  (∀ (s : State), Running s → s.dev.core.rd FLT_STAT.alive_run = 1 →
    Answers (exec .aliveToggle s) fun t => t.dev.core.alive = !s.dev.core.alive ∧ t.dev.core.esc = s.dev.core.esc)

/-- R473, R474, R482, R485, R487 and R489: configuration, injection, the watchdog and the quiet windows.
The model's own choices and readings here: log entries 67 (DEDUCED), 78 (DEDUCED), 79 (DEDUCED), 80 (DEDUCED). -/
def Obligations.FaultControls : Prop :=
  (∀ (s : State) (n : Fin 96) (data : BitVec 32), Running s → s.dev.core.part.fsAbsent n.val = false → bits data.toNat 2 0 ≤ 4 →
    actChecks s.dev.core.part (bits data.toNat 6 4)
      (s.dev.core.rdTv FLT_SRC_MASK.tgt n.val ||| (s.dev.core.rdTv FLT_SRC_MASK.self n.val) <<< 31) = (true, true) →
    Answers (exec (.fltSrcCfgWrite n false data) s) fun t =>
      t.dev.core.rdTv FLT_SRC_CFG.sev n.val = bits data.toNat 2 0 ∧ t.dev.core.rdTv FLT_SRC_CFG.action n.val = bits data.toNat 6 4 ∧
      t.dev.core.rdTv FLT_SRC_CFG.guard n.val = bits data.toNat 27 8) ∧
  (∀ (s : State) (n : Fin 96) (data : BitVec 32), Running s → s.dev.core.part.fsAbsent n.val = false → 4 < bits data.toNat 2 0 →
    s.dev.core.rd FLT_CFG_REJECT.valid = 0 →
    Answers (exec (.fltSrcCfgWrite n false data) s) fun t =>
      t.dev.core.rdTv FLT_SRC_CFG.sev n.val = s.dev.core.rdTv FLT_SRC_CFG.sev n.val ∧
      t.dev.core.rdTv FLT_SRC_CFG.action n.val = s.dev.core.rdTv FLT_SRC_CFG.action n.val ∧
      t.dev.core.rdTv FLT_SRC_CFG.guard n.val = s.dev.core.rdTv FLT_SRC_CFG.guard n.val ∧
      t.dev.core.rdTv FLT_SRC_MASK.tgt n.val = s.dev.core.rdTv FLT_SRC_MASK.tgt n.val ∧
      t.dev.core.rd FLT_CFG_REJECT.valid = 1 ∧ t.dev.core.rd FLT_CFG_REJECT.word = n.val) ∧
  (∀ (s : State) (n : Fin 96) (data : BitVec 32), Running s →
    actChecks s.dev.core.part (s.dev.core.rdTv FLT_SRC_CFG.action n.val) data.toNat = (true, true) →
    Answers (exec (.fltSrcCfgWrite n true data) s) fun t =>
      t.dev.core.rdTv FLT_SRC_MASK.tgt n.val = data.toNat % 2 ^ FLT_SRC_MASK.tgt.width ∧
      t.dev.core.rdTv FLT_SRC_MASK.self n.val = bits data.toNat 31 31) ∧
  (∀ (s : State) (data : BitVec 32), Running s → bits data.toNat FLT_INJ_CFG.arm.hi FLT_INJ_CFG.arm.lo = 0 →
    Answers (exec (.injArm 15 data) s) fun t =>
      t.dev.core.rd FLT_INJ_CFG.arm = 0 ∧
      t.dev.core.rd FLT_INJ_CFG.src = bits data.toNat FLT_INJ_CFG.src.hi FLT_INJ_CFG.src.lo ∧
      t.dev.core.rd FLT_INJ_CFG.inv = bits data.toNat FLT_INJ_CFG.inv.hi FLT_INJ_CFG.inv.lo) ∧
  (∀ (s : State) (data : BitVec 32), Running s → bits data.toNat FLT_INJ_CFG.arm.hi FLT_INJ_CFG.arm.lo = 1 →
    s.dev.core.injOk (bits data.toNat FLT_INJ_CFG.src.hi FLT_INJ_CFG.src.lo)
      (bits data.toNat FLT_INJ_CFG.inv.hi FLT_INJ_CFG.inv.lo) (s.dev.core.rd FLT_INJ_TGT.tgt) = false →
    Answers (exec (.injArm 15 data) s) fun t =>
      t.dev.core.rd FLT_CFG_REJECT.valid = 1 ∧ t.dev.core.rd FLT_INJ_CFG.arm = s.dev.core.rd FLT_INJ_CFG.arm ∧
      t.dev.core.rd FLT_INJ_CFG.src = s.dev.core.rd FLT_INJ_CFG.src) ∧
  (∀ (s : State), Running s →
    Answers (exec (.wdogKick 0xA11E#16) s) fun t =>
      t.dev.core.rd FLT_CFG_REJECT.valid = s.dev.core.rd FLT_CFG_REJECT.valid ∧
      t.dev.core.rd FLT_CFG_REJECT.count = s.dev.core.rd FLT_CFG_REJECT.count) ∧
  (∀ (s : State) (key : BitVec 16), Running s → key ≠ 0xA11E#16 →
    Answers (exec (.wdogKick key) s) fun t =>
      t.dev.core.rd FLT_CFG_REJECT.valid = 1 ∧
      t.dev.core.rd FLT_CFG_REJECT.count = min (2 ^ FLT_CFG_REJECT.count.width - 1) (s.dev.core.rd FLT_CFG_REJECT.count + 1)) ∧
  (∀ (s : State), Running s → s.dev.core.rdTv FLT_WDOG_CFG.en = 1 →
    Answers (exec .hostWdog s) fun t => bitOf (t.dev.core.rd FLT_RAW.hit 0 2) 5 = true) ∧
  (∀ (s : State), Running s → s.dev.core.rdTv FLT_WDOG_CFG.en = 0 →
    Answers (exec .hostWdog s) fun t =>
      t.dev.core.rd FLT_RAW.hit 0 2 = s.dev.core.rd FLT_RAW.hit 0 2 ∧ t.dev.core.building = s.dev.core.building) ∧
  (∀ (s : State) (unit : Fin 9) (index : Fin 128), Running s → s.dev.core.inRst.contains (unit.val, index.val) = false →
    Answers (exec (.quietWindowEnd unit index) s) fun t =>
      t.dev.core.quiet = s.dev.core.quiet.filter (fun e => decide (e ≠ (unit.val, index.val)))) ∧
  (∀ (s : State) (unit : Fin 9) (index : Fin 128), Running s → s.dev.core.inRst.contains (unit.val, index.val) = true →
    Answers (exec (.quietWindowEnd unit index) s) fun t => t.dev.core.quiet = s.dev.core.quiet) ∧
  (∀ (s : State), Running s → s.dev.core.rd FLT_STAT.alive_run = 1 →
    Answers (exec .aliveToggle s) fun t => t.dev.core.alive = !s.dev.core.alive) ∧
  (∀ (s : State), Running s → s.dev.core.rd FLT_STAT.alive_run = 0 →
    Answers (exec .aliveToggle s) fun t => t.dev.core.alive = s.dev.core.alive)
end

