-- ==== Sys2Proof/Laws/Sparse.lean ====
section
/-! SUPPORT. The laws of sparse maps: a read after a write, and the canonical form kept by every operation. -/

namespace Sys2Proof.Machine

variable {α : Type}

theorem AMap.get_ins_same (d : α) (m : AMap α) (k : Nat) (v : α) : (AMap.ins m k v).get d k = v := by
  induction m with
  | nil => simp [AMap.ins, AMap.get]
  | cons a r ih =>
    obtain ⟨j, w⟩ := a
    by_cases h1 : j < k
    · simp [AMap.ins, h1, AMap.get, Nat.ne_of_lt h1, ih]
    · by_cases h2 : j = k <;> simp [AMap.ins, h1, h2, AMap.get]

theorem AMap.get_ins_ne (d : α) (m : AMap α) {k q : Nat} (v : α) (h : q ≠ k) : (AMap.ins m k v).get d q = m.get d q := by
  induction m with
  | nil => simp [AMap.ins, AMap.get, h.symm]
  | cons a r ih =>
    obtain ⟨j, w⟩ := a
    by_cases h1 : j < k
    · simp only [AMap.ins, h1, if_true, AMap.get, ih]
    · by_cases h2 : j = k
      · subst h2; simp [AMap.ins, AMap.get, h.symm]
      · simp [AMap.ins, h1, h2, AMap.get, h.symm]

theorem AMap.get_filter_same (d : α) (m : AMap α) (k : Nat) : AMap.get d (m.filter (fun e => decide (e.1 ≠ k))) k = d := by
  induction m with
  | nil => simp [AMap.get]
  | cons a r ih =>
    obtain ⟨j, w⟩ := a
    by_cases h : j = k
    · simpa [List.filter, h] using ih
    · simpa [List.filter, h, AMap.get] using ih

theorem AMap.get_filter_ne (d : α) (m : AMap α) {k q : Nat} (h : q ≠ k) :
    AMap.get d (m.filter (fun e => decide (e.1 ≠ k))) q = m.get d q := by
  induction m with
  | nil => simp
  | cons a r ih =>
    obtain ⟨j, w⟩ := a
    by_cases h1 : j = k
    · subst h1; simpa [List.filter, AMap.get, h.symm] using ih
    · simp only [List.filter, ne_eq, h1, not_false_eq_true, decide_true, AMap.get] at ih ⊢
      rw [ih]

/-- A read of the key written gives the value written. -/
@[simp] theorem AMap.get_set_same [DecidableEq α] (d : α) (m : AMap α) (k : Nat) (v : α) : (m.set d k v).get d k = v := by
  by_cases h : v = d
  · subst h; simpa [AMap.set] using AMap.get_filter_same v m k
  · simpa [AMap.set, h] using AMap.get_ins_same d m k v

/-- A write leaves every other key alone. -/
theorem AMap.get_set_ne [DecidableEq α] (d : α) (m : AMap α) {k q : Nat} (v : α) (h : q ≠ k) :
    (m.set d k v).get d q = m.get d q := by
  by_cases hv : v = d
  · subst hv; simpa [AMap.set] using AMap.get_filter_ne v m h
  · simpa [AMap.set, hv] using AMap.get_ins_ne d m v h

/-- A read after a write, at any key. -/
theorem AMap.get_set [DecidableEq α] (d : α) (m : AMap α) (k q : Nat) (v : α) :
    (m.set d k v).get d q = if q = k then v else m.get d q := by
  by_cases h : q = k
  · subst h; simp
  · simp [h, AMap.get_set_ne d m v h]

/-! ## The canonical form -/

/-- Every key of a map is greater than `b`, they rise, and no value is `d`. -/
def AMap.Good (d : α) : Nat → AMap α → Prop
  | _, [] => True
  | b, (j, v) :: r => b < j ∧ v ≠ d ∧ AMap.Good d j r

theorem AMap.wfAbove_iff [DecidableEq α] (d : α) (b : Nat) (m : AMap α) : AMap.wfAbove d b m = true ↔ AMap.Good d b m := by
  induction m generalizing b with
  | nil => simp [AMap.wfAbove, AMap.Good]
  | cons a r ih => obtain ⟨j, v⟩ := a; simp [AMap.wfAbove, AMap.Good, ih, and_assoc]

theorem AMap.Good.weaken {d : α} {a b : Nat} {m : AMap α} (h : AMap.Good d b m) (hab : a ≤ b) : AMap.Good d a m := by
  cases m with
  | nil => trivial
  | cons e r => obtain ⟨j, v⟩ := e; exact ⟨lt_of_le_of_lt hab h.1, h.2⟩

theorem AMap.Good.filter {d : α} {b : Nat} {m : AMap α} (h : AMap.Good d b m) (p : Nat × α → Bool) :
    AMap.Good d b (m.filter p) := by
  induction m generalizing b with
  | nil => trivial
  | cons e r ih =>
    obtain ⟨j, v⟩ := e
    by_cases hp : p (j, v) = true
    · simp only [List.filter, hp]; exact ⟨h.1, h.2.1, ih h.2.2⟩
    · have hp' : p (j, v) = false := by simpa using hp
      simp only [List.filter, hp']
      exact (ih h.2.2).weaken (le_of_lt h.1)

theorem AMap.Good.ins {d : α} {b : Nat} {m : AMap α} (h : AMap.Good d b m) {k : Nat} {v : α} (hk : b < k) (hv : v ≠ d) :
    AMap.Good d b (AMap.ins m k v) := by
  induction m generalizing b with
  | nil => exact ⟨hk, hv, trivial⟩
  | cons e r ih =>
    obtain ⟨j, w⟩ := e
    by_cases h1 : j < k
    · simp only [AMap.ins, h1, if_true]; exact ⟨h.1, h.2.1, ih h.2.2 h1⟩
    · by_cases h2 : j = k
      · subst h2; simpa [AMap.ins] using ⟨hk, hv, h.2.2⟩
      · simp only [AMap.ins, h1, h2, if_false]; exact ⟨hk, hv, by omega, h.2⟩

/-- A map is canonical when no entry lists the default and the keys rise. -/
theorem AMap.wf_cons [DecidableEq α] (d : α) (j : Nat) (v : α) (r : AMap α) :
    AMap.wf d ((j, v) :: r) = true ↔ v ≠ d ∧ AMap.Good d j r := by simp [AMap.wf, AMap.wfAbove_iff]

theorem AMap.wf_filter [DecidableEq α] (d : α) {m : AMap α} (h : m.wf d = true) (p : Nat × α → Bool) :
    AMap.wf d (m.filter p) = true := by
  induction m with
  | nil => rfl
  | cons e r ih =>
    obtain ⟨j, v⟩ := e
    have h' := (AMap.wf_cons d j v r).1 h
    by_cases hp : p (j, v) = true
    · simp only [List.filter, hp]; exact (AMap.wf_cons d j v _).2 ⟨h'.1, h'.2.filter p⟩
    · have hp' : p (j, v) = false := by simpa using hp
      simp only [List.filter, hp']
      have g := h'.2.filter p
      revert g
      cases List.filter p r with
      | nil => intro; rfl
      | cons e2 r2 => obtain ⟨j2, v2⟩ := e2; intro g; exact (AMap.wf_cons d j2 v2 r2).2 g.2

theorem AMap.wf_ins [DecidableEq α] (d : α) {m : AMap α} (h : m.wf d = true) (k : Nat) {v : α} (hv : v ≠ d) :
    (AMap.ins m k v).wf d = true := by
  cases m with
  | nil => exact (AMap.wf_cons d k v []).2 ⟨hv, trivial⟩
  | cons e r =>
    obtain ⟨j, w⟩ := e
    have h' := (AMap.wf_cons d j w r).1 h
    by_cases h1 : j < k
    · simp only [AMap.ins, h1, if_true]; exact (AMap.wf_cons d j w _).2 ⟨h'.1, h'.2.ins h1 hv⟩
    · by_cases h2 : j = k
      · subst h2; simp only [AMap.ins, lt_irrefl, if_false, if_true]; exact (AMap.wf_cons d j v r).2 ⟨hv, h'.2⟩
      · simp only [AMap.ins, h1, h2, if_false]; exact (AMap.wf_cons d k v _).2 ⟨hv, by omega, h'⟩

/-- Every write keeps the canonical form. -/
theorem AMap.wf_set [DecidableEq α] (d : α) {m : AMap α} (h : m.wf d = true) (k : Nat) (v : α) : (m.set d k v).wf d = true := by
  by_cases hv : v = d
  · subst hv; simpa [AMap.set] using AMap.wf_filter v h _
  · simpa [AMap.set, hv] using AMap.wf_ins d h k hv

theorem AMap.wf_nil [DecidableEq α] (d : α) : AMap.wf d ([] : AMap α) = true := rfl

/-- So does a write of a range of keys. -/
theorem AMap.wf_setRange [DecidableEq α] (d : α) {m : AMap α} (h : m.wf d = true) (start n : Nat) (f : Nat → α) :
    (AMap.setRange d m start n f).wf d = true := by
  induction n with
  | zero => exact h
  | succ n ih => exact AMap.wf_set d ih _ _

/-- Reads of a range that has been written. -/
theorem AMap.get_setRange [DecidableEq α] (d : α) (m : AMap α) (start n : Nat) (f : Nat → α) (k : Nat) :
    (AMap.setRange d m start n f).get d k = if start ≤ k ∧ k < start + n then f k else m.get d k := by
  induction n with
  | zero =>
    have : ¬ (start ≤ k ∧ k < start + 0) := by omega
    simp only [AMap.setRange, this, if_false]
  | succ n ih =>
    simp only [AMap.setRange, AMap.get_set, ih]
    by_cases h : k = start + n
    · subst h; simp
    · simp only [h, if_false]; congr 1; apply propext; omega

/-- Two canonical maps that read alike everywhere are the same data: the form is canonical. -/
theorem AMap.get_of_good {d : α} {b q : Nat} {m : AMap α} (h : AMap.Good d b m) (hq : q ≤ b) : m.get d q = d := by
  induction m generalizing b with
  | nil => rfl
  | cons e r ih =>
    obtain ⟨j, v⟩ := e
    have : j ≠ q := by have := h.1; omega
    simp only [AMap.get, this, if_false]
    exact ih h.2.2 (by have := h.1; omega)

end Sys2Proof.Machine
end

