-- ==== Sys2Proof/Laws/State.lean ====
section
/-! SUPPORT. One lemma per field and update of the part's state, true by definition: no later proof unfolds a record update. -/

namespace Sys2Proof.Machine

variable (c : Core)

@[simp] theorem Core.wr_rots (f : Fld) (v i k : Nat) : (c.wr f v i k).rots = c.rots := rfl
@[simp] theorem Core.wr_tach (f : Fld) (v i k : Nat) : (c.wr f v i k).tach = c.tach := rfl
@[simp] theorem Core.wr_chans (f : Fld) (v i k : Nat) : (c.wr f v i k).chans = c.chans := rfl
@[simp] theorem Core.wr_glcs (f : Fld) (v i k : Nat) : (c.wr f v i k).glcs = c.glcs := rfl
@[simp] theorem Core.wr_tSum (f : Fld) (v i k : Nat) : (c.wr f v i k).tSum = c.tSum := rfl
@[simp] theorem Core.wr_secInDay (f : Fld) (v i k : Nat) : (c.wr f v i k).secInDay = c.secInDay := rfl
@[simp] theorem Core.wr_ageBase (f : Fld) (v i k : Nat) : (c.wr f v i k).ageBase = c.ageBase := rfl
@[simp] theorem Core.wr_glcReady (f : Fld) (v i k : Nat) : (c.wr f v i k).glcReady = c.glcReady := rfl
@[simp] theorem Core.wr_syns (f : Fld) (v i k : Nat) : (c.wr f v i k).syns = c.syns := rfl
@[simp] theorem Core.wr_firnU (f : Fld) (v i k : Nat) : (c.wr f v i k).firnU = c.firnU := rfl
@[simp] theorem Core.wr_firnOut (f : Fld) (v i k : Nat) : (c.wr f v i k).firnOut = c.firnOut := rfl
@[simp] theorem Core.wr_inReset (f : Fld) (v i k : Nat) : (c.wr f v i k).inReset = c.inReset := rfl
@[simp] theorem Core.wr_frost (f : Fld) (v i k : Nat) : (c.wr f v i k).frost = c.frost := rfl
@[simp] theorem Core.wr_pal (f : Fld) (v i k : Nat) : (c.wr f v i k).pal = c.pal := rfl
@[simp] theorem Core.wr_inRst (f : Fld) (v i k : Nat) : (c.wr f v i k).inRst = c.inRst := rfl
@[simp] theorem Core.wr_tim (f : Fld) (v i k : Nat) : (c.wr f v i k).tim = c.tim := rfl
@[simp] theorem Core.wr_memMap (f : Fld) (v i k : Nat) : (c.wr f v i k).memMap = c.memMap := rfl
@[simp] theorem Core.wr_memOut (f : Fld) (v i k : Nat) : (c.wr f v i k).memOut = c.memOut := rfl
@[simp] theorem Core.wr_lanes (f : Fld) (v i k : Nat) : (c.wr f v i k).lanes = c.lanes := rfl
@[simp] theorem Core.wr_part (f : Fld) (v i k : Nat) : (c.wr f v i k).part = c.part := rfl
@[simp] theorem Core.wr_tvB (f : Fld) (v i k : Nat) : (c.wr f v i k).tvB = c.tvB := rfl
@[simp] theorem Core.wr_tvC (f : Fld) (v i k : Nat) : (c.wr f v i k).tvC = c.tvC := rfl
@[simp] theorem Core.wr_shadow (f : Fld) (v i k : Nat) : (c.wr f v i k).shadow = c.shadow := rfl
@[simp] theorem Core.wr_staging (f : Fld) (v i k : Nat) : (c.wr f v i k).staging = c.staging := rfl
@[simp] theorem Core.wr_dt (f : Fld) (v i k : Nat) : (c.wr f v i k).dt = c.dt := rfl
@[simp] theorem Core.wr_dtk (f : Fld) (v i k : Nat) : (c.wr f v i k).dtk = c.dtk := rfl
@[simp] theorem Core.wr_linkBad (f : Fld) (v i k : Nat) : (c.wr f v i k).linkBad = c.linkBad := rfl
@[simp] theorem Core.wr_rstOpen (f : Fld) (v i k : Nat) : (c.wr f v i k).rstOpen = c.rstOpen := rfl
@[simp] theorem Core.wr_supply (f : Fld) (v i k : Nat) : (c.wr f v i k).supply = c.supply := rfl
@[simp] theorem Core.wr_setPend (f : Fld) (v i k : Nat) : (c.wr f v i k).setPend = c.setPend := rfl
@[simp] theorem Core.wr_setSkip (f : Fld) (v i k : Nat) : (c.wr f v i k).setSkip = c.setSkip := rfl
@[simp] theorem Core.wr_yMaster (f : Fld) (v i k : Nat) : (c.wr f v i k).yMaster = c.yMaster := rfl
@[simp] theorem Core.wr_secDone (f : Fld) (v i k : Nat) : (c.wr f v i k).secDone = c.secDone := rfl
@[simp] theorem Core.wr_loKhz (f : Fld) (v i k : Nat) : (c.wr f v i k).loKhz = c.loKhz := rfl
@[simp] theorem Core.wr_dShift (f : Fld) (v i k : Nat) : (c.wr f v i k).dShift = c.dShift := rfl
@[simp] theorem Core.wr_stepped (f : Fld) (v i k : Nat) : (c.wr f v i k).stepped = c.stepped := rfl
@[simp] theorem Core.wr_tap (f : Fld) (v i k : Nat) : (c.wr f v i k).tap = c.tap := rfl
@[simp] theorem Core.wr_dSlices (f : Fld) (v i k : Nat) : (c.wr f v i k).dSlices = c.dSlices := rfl
@[simp] theorem Core.wr_dGroup (f : Fld) (v i k : Nat) : (c.wr f v i k).dGroup = c.dGroup := rfl
@[simp] theorem Core.wr_dtLocked (f : Fld) (v i k : Nat) : (c.wr f v i k).dtLocked = c.dtLocked := rfl
@[simp] theorem Core.wr_free (f : Fld) (v i k : Nat) : (c.wr f v i k).free = c.free := rfl
@[simp] theorem Core.wr_links (f : Fld) (v i k : Nat) : (c.wr f v i k).links = c.links := rfl
@[simp] theorem Core.wr_outbox (f : Fld) (v i k : Nat) : (c.wr f v i k).outbox = c.outbox := rfl
@[simp] theorem Core.wr_held (f : Fld) (v i k : Nat) : (c.wr f v i k).held = c.held := rfl
@[simp] theorem Core.wr_streams (f : Fld) (v i k : Nat) : (c.wr f v i k).streams = c.streams := rfl
@[simp] theorem Core.wr_estRun (f : Fld) (v i k : Nat) : (c.wr f v i k).estRun = c.estRun := rfl
@[simp] theorem Core.wr_cands (f : Fld) (v i k : Nat) : (c.wr f v i k).cands = c.cands := rfl
@[simp] theorem Core.wr_pairs (f : Fld) (v i k : Nat) : (c.wr f v i k).pairs = c.pairs := rfl
@[simp] theorem Core.wr_building (f : Fld) (v i k : Nat) : (c.wr f v i k).building = c.building := rfl
@[simp] theorem Core.wr_fltBuf (f : Fld) (v i k : Nat) : (c.wr f v i k).fltBuf = c.fltBuf := rfl
@[simp] theorem Core.wr_fltSeq (f : Fld) (v i k : Nat) : (c.wr f v i k).fltSeq = c.fltSeq := rfl
@[simp] theorem Core.wr_esc (f : Fld) (v i k : Nat) : (c.wr f v i k).esc = c.esc := rfl
@[simp] theorem Core.wr_engaged (f : Fld) (v i k : Nat) : (c.wr f v i k).engaged = c.engaged := rfl
@[simp] theorem Core.wr_ackWait (f : Fld) (v i k : Nat) : (c.wr f v i k).ackWait = c.ackWait := rfl
@[simp] theorem Core.wr_hitUnits (f : Fld) (v i k : Nat) : (c.wr f v i k).hitUnits = c.hitUnits := rfl
@[simp] theorem Core.wr_hits (f : Fld) (v i k : Nat) : (c.wr f v i k).hits = c.hits := rfl
@[simp] theorem Core.wr_exHeld (f : Fld) (v i k : Nat) : (c.wr f v i k).exHeld = c.exHeld := rfl
@[simp] theorem Core.wr_quiet (f : Fld) (v i k : Nat) : (c.wr f v i k).quiet = c.quiet := rfl
@[simp] theorem Core.wr_resetIssued (f : Fld) (v i k : Nat) : (c.wr f v i k).resetIssued = c.resetIssued := rfl
@[simp] theorem Core.wr_pte (f : Fld) (v i k : Nat) : (c.wr f v i k).pte = c.pte := rfl
@[simp] theorem Core.wr_queues (f : Fld) (v i k : Nat) : (c.wr f v i k).queues = c.queues := rfl
@[simp] theorem Core.wr_memU (f : Fld) (v i k : Nat) : (c.wr f v i k).memU = c.memU := rfl
@[simp] theorem Core.wr_memLost (f : Fld) (v i k : Nat) : (c.wr f v i k).memLost = c.memLost := rfl
@[simp] theorem Core.wr_mtl (f : Fld) (v i k : Nat) : (c.wr f v i k).mtl = c.mtl := rfl
@[simp] theorem Core.wr_host (f : Fld) (v i k : Nat) : (c.wr f v i k).host = c.host := rfl
@[simp] theorem Core.wr_inds (f : Fld) (v i k : Nat) : (c.wr f v i k).inds = c.inds := rfl
@[simp] theorem Core.wr_alive (f : Fld) (v i k : Nat) : (c.wr f v i k).alive = c.alive := rfl
@[simp] theorem Core.wr_footed (f : Fld) (v i k : Nat) : (c.wr f v i k).footed = c.footed := rfl
@[simp] theorem Core.wr_vholdTold (f : Fld) (v i k : Nat) : (c.wr f v i k).vholdTold = c.vholdTold := rfl
@[simp] theorem Core.wr_courseHeld (f : Fld) (v i k : Nat) : (c.wr f v i k).courseHeld = c.courseHeld := rfl
@[simp] theorem Core.wr_courseWaited (f : Fld) (v i k : Nat) : (c.wr f v i k).courseWaited = c.courseWaited := rfl
@[simp] theorem Core.wr_rsTried (f : Fld) (v i k : Nat) : (c.wr f v i k).rsTried = c.rsTried := rfl
@[simp] theorem Core.wr_rstReq (f : Fld) (v i k : Nat) : (c.wr f v i k).rstReq = c.rstReq := rfl

@[simp] theorem Core.setCand_rots (i : Nat) (x : Cand) : (c.setCand i x).rots = c.rots := rfl
@[simp] theorem Core.setCand_tach (i : Nat) (x : Cand) : (c.setCand i x).tach = c.tach := rfl
@[simp] theorem Core.setCand_chans (i : Nat) (x : Cand) : (c.setCand i x).chans = c.chans := rfl
@[simp] theorem Core.setCand_glcs (i : Nat) (x : Cand) : (c.setCand i x).glcs = c.glcs := rfl
@[simp] theorem Core.setCand_tSum (i : Nat) (x : Cand) : (c.setCand i x).tSum = c.tSum := rfl
@[simp] theorem Core.setCand_secInDay (i : Nat) (x : Cand) : (c.setCand i x).secInDay = c.secInDay := rfl
@[simp] theorem Core.setCand_ageBase (i : Nat) (x : Cand) : (c.setCand i x).ageBase = c.ageBase := rfl
@[simp] theorem Core.setCand_glcReady (i : Nat) (x : Cand) : (c.setCand i x).glcReady = c.glcReady := rfl
@[simp] theorem Core.setCand_syns (i : Nat) (x : Cand) : (c.setCand i x).syns = c.syns := rfl
@[simp] theorem Core.setCand_firnU (i : Nat) (x : Cand) : (c.setCand i x).firnU = c.firnU := rfl
@[simp] theorem Core.setCand_firnOut (i : Nat) (x : Cand) : (c.setCand i x).firnOut = c.firnOut := rfl
@[simp] theorem Core.setCand_inReset (i : Nat) (x : Cand) : (c.setCand i x).inReset = c.inReset := rfl
@[simp] theorem Core.setCand_frost (i : Nat) (x : Cand) : (c.setCand i x).frost = c.frost := rfl
@[simp] theorem Core.setCand_pal (i : Nat) (x : Cand) : (c.setCand i x).pal = c.pal := rfl
@[simp] theorem Core.setCand_inRst (i : Nat) (x : Cand) : (c.setCand i x).inRst = c.inRst := rfl
@[simp] theorem Core.setCand_tim (i : Nat) (x : Cand) : (c.setCand i x).tim = c.tim := rfl
@[simp] theorem Core.setCand_memMap (i : Nat) (x : Cand) : (c.setCand i x).memMap = c.memMap := rfl
@[simp] theorem Core.setCand_memOut (i : Nat) (x : Cand) : (c.setCand i x).memOut = c.memOut := rfl
@[simp] theorem Core.setCand_lanes (i : Nat) (x : Cand) : (c.setCand i x).lanes = c.lanes := rfl
@[simp] theorem Core.setCand_part (i : Nat) (x : Cand) : (c.setCand i x).part = c.part := rfl
@[simp] theorem Core.setCand_regs (i : Nat) (x : Cand) : (c.setCand i x).regs = c.regs := rfl
@[simp] theorem Core.setCand_tvB (i : Nat) (x : Cand) : (c.setCand i x).tvB = c.tvB := rfl
@[simp] theorem Core.setCand_tvC (i : Nat) (x : Cand) : (c.setCand i x).tvC = c.tvC := rfl
@[simp] theorem Core.setCand_shadow (i : Nat) (x : Cand) : (c.setCand i x).shadow = c.shadow := rfl
@[simp] theorem Core.setCand_staging (i : Nat) (x : Cand) : (c.setCand i x).staging = c.staging := rfl
@[simp] theorem Core.setCand_dt (i : Nat) (x : Cand) : (c.setCand i x).dt = c.dt := rfl
@[simp] theorem Core.setCand_dtk (i : Nat) (x : Cand) : (c.setCand i x).dtk = c.dtk := rfl
@[simp] theorem Core.setCand_linkBad (i : Nat) (x : Cand) : (c.setCand i x).linkBad = c.linkBad := rfl
@[simp] theorem Core.setCand_rstOpen (i : Nat) (x : Cand) : (c.setCand i x).rstOpen = c.rstOpen := rfl
@[simp] theorem Core.setCand_supply (i : Nat) (x : Cand) : (c.setCand i x).supply = c.supply := rfl
@[simp] theorem Core.setCand_setPend (i : Nat) (x : Cand) : (c.setCand i x).setPend = c.setPend := rfl
@[simp] theorem Core.setCand_setSkip (i : Nat) (x : Cand) : (c.setCand i x).setSkip = c.setSkip := rfl
@[simp] theorem Core.setCand_yMaster (i : Nat) (x : Cand) : (c.setCand i x).yMaster = c.yMaster := rfl
@[simp] theorem Core.setCand_secDone (i : Nat) (x : Cand) : (c.setCand i x).secDone = c.secDone := rfl
@[simp] theorem Core.setCand_loKhz (i : Nat) (x : Cand) : (c.setCand i x).loKhz = c.loKhz := rfl
@[simp] theorem Core.setCand_dShift (i : Nat) (x : Cand) : (c.setCand i x).dShift = c.dShift := rfl
@[simp] theorem Core.setCand_stepped (i : Nat) (x : Cand) : (c.setCand i x).stepped = c.stepped := rfl
@[simp] theorem Core.setCand_tap (i : Nat) (x : Cand) : (c.setCand i x).tap = c.tap := rfl
@[simp] theorem Core.setCand_dSlices (i : Nat) (x : Cand) : (c.setCand i x).dSlices = c.dSlices := rfl
@[simp] theorem Core.setCand_dGroup (i : Nat) (x : Cand) : (c.setCand i x).dGroup = c.dGroup := rfl
@[simp] theorem Core.setCand_dtLocked (i : Nat) (x : Cand) : (c.setCand i x).dtLocked = c.dtLocked := rfl
@[simp] theorem Core.setCand_free (i : Nat) (x : Cand) : (c.setCand i x).free = c.free := rfl
@[simp] theorem Core.setCand_links (i : Nat) (x : Cand) : (c.setCand i x).links = c.links := rfl
@[simp] theorem Core.setCand_outbox (i : Nat) (x : Cand) : (c.setCand i x).outbox = c.outbox := rfl
@[simp] theorem Core.setCand_held (i : Nat) (x : Cand) : (c.setCand i x).held = c.held := rfl
@[simp] theorem Core.setCand_streams (i : Nat) (x : Cand) : (c.setCand i x).streams = c.streams := rfl
@[simp] theorem Core.setCand_estRun (i : Nat) (x : Cand) : (c.setCand i x).estRun = c.estRun := rfl
@[simp] theorem Core.setCand_pairs (i : Nat) (x : Cand) : (c.setCand i x).pairs = c.pairs := rfl
@[simp] theorem Core.setCand_building (i : Nat) (x : Cand) : (c.setCand i x).building = c.building := rfl
@[simp] theorem Core.setCand_fltBuf (i : Nat) (x : Cand) : (c.setCand i x).fltBuf = c.fltBuf := rfl
@[simp] theorem Core.setCand_fltSeq (i : Nat) (x : Cand) : (c.setCand i x).fltSeq = c.fltSeq := rfl
@[simp] theorem Core.setCand_esc (i : Nat) (x : Cand) : (c.setCand i x).esc = c.esc := rfl
@[simp] theorem Core.setCand_engaged (i : Nat) (x : Cand) : (c.setCand i x).engaged = c.engaged := rfl
@[simp] theorem Core.setCand_ackWait (i : Nat) (x : Cand) : (c.setCand i x).ackWait = c.ackWait := rfl
@[simp] theorem Core.setCand_hitUnits (i : Nat) (x : Cand) : (c.setCand i x).hitUnits = c.hitUnits := rfl
@[simp] theorem Core.setCand_hits (i : Nat) (x : Cand) : (c.setCand i x).hits = c.hits := rfl
@[simp] theorem Core.setCand_exHeld (i : Nat) (x : Cand) : (c.setCand i x).exHeld = c.exHeld := rfl
@[simp] theorem Core.setCand_quiet (i : Nat) (x : Cand) : (c.setCand i x).quiet = c.quiet := rfl
@[simp] theorem Core.setCand_resetIssued (i : Nat) (x : Cand) : (c.setCand i x).resetIssued = c.resetIssued := rfl
@[simp] theorem Core.setCand_pte (i : Nat) (x : Cand) : (c.setCand i x).pte = c.pte := rfl
@[simp] theorem Core.setCand_queues (i : Nat) (x : Cand) : (c.setCand i x).queues = c.queues := rfl
@[simp] theorem Core.setCand_memU (i : Nat) (x : Cand) : (c.setCand i x).memU = c.memU := rfl
@[simp] theorem Core.setCand_memLost (i : Nat) (x : Cand) : (c.setCand i x).memLost = c.memLost := rfl
@[simp] theorem Core.setCand_mtl (i : Nat) (x : Cand) : (c.setCand i x).mtl = c.mtl := rfl
@[simp] theorem Core.setCand_host (i : Nat) (x : Cand) : (c.setCand i x).host = c.host := rfl
@[simp] theorem Core.setCand_inds (i : Nat) (x : Cand) : (c.setCand i x).inds = c.inds := rfl
@[simp] theorem Core.setCand_alive (i : Nat) (x : Cand) : (c.setCand i x).alive = c.alive := rfl
@[simp] theorem Core.setCand_footed (i : Nat) (x : Cand) : (c.setCand i x).footed = c.footed := rfl
@[simp] theorem Core.setCand_vholdTold (i : Nat) (x : Cand) : (c.setCand i x).vholdTold = c.vholdTold := rfl
@[simp] theorem Core.setCand_courseHeld (i : Nat) (x : Cand) : (c.setCand i x).courseHeld = c.courseHeld := rfl
@[simp] theorem Core.setCand_courseWaited (i : Nat) (x : Cand) : (c.setCand i x).courseWaited = c.courseWaited := rfl
@[simp] theorem Core.setCand_rsTried (i : Nat) (x : Cand) : (c.setCand i x).rsTried = c.rsTried := rfl
@[simp] theorem Core.setCand_rstReq (i : Nat) (x : Cand) : (c.setCand i x).rstReq = c.rstReq := rfl
@[simp] theorem Core.setCand_rd (i : Nat) (x : Cand) (f : Fld) (j l : Nat) : (c.setCand i x).rd f j l = c.rd f j l := rfl
@[simp] theorem Core.setCand_rdB (i : Nat) (x : Cand) (f : Fld) (j l : Nat) : (c.setCand i x).rdB f j l = c.rdB f j l := rfl
@[simp] theorem Core.setCand_rdS (i : Nat) (x : Cand) (f : Fld) (j l : Nat) : (c.setCand i x).rdS f j l = c.rdS f j l := rfl
@[simp] theorem Core.setCand_rdTv (i : Nat) (x : Cand) (f : Fld) (j l : Nat) : (c.setCand i x).rdTv f j l = c.rdTv f j l := rfl

@[simp] theorem Core.setRot_tach (h : Nat) (x : Rot) : (c.setRot h x).tach = c.tach := rfl
@[simp] theorem Core.setRot_chans (h : Nat) (x : Rot) : (c.setRot h x).chans = c.chans := rfl
@[simp] theorem Core.setRot_glcs (h : Nat) (x : Rot) : (c.setRot h x).glcs = c.glcs := rfl
@[simp] theorem Core.setRot_tSum (h : Nat) (x : Rot) : (c.setRot h x).tSum = c.tSum := rfl
@[simp] theorem Core.setRot_secInDay (h : Nat) (x : Rot) : (c.setRot h x).secInDay = c.secInDay := rfl
@[simp] theorem Core.setRot_ageBase (h : Nat) (x : Rot) : (c.setRot h x).ageBase = c.ageBase := rfl
@[simp] theorem Core.setRot_glcReady (h : Nat) (x : Rot) : (c.setRot h x).glcReady = c.glcReady := rfl
@[simp] theorem Core.setRot_syns (h : Nat) (x : Rot) : (c.setRot h x).syns = c.syns := rfl
@[simp] theorem Core.setRot_firnU (h : Nat) (x : Rot) : (c.setRot h x).firnU = c.firnU := rfl
@[simp] theorem Core.setRot_firnOut (h : Nat) (x : Rot) : (c.setRot h x).firnOut = c.firnOut := rfl
@[simp] theorem Core.setRot_inReset (h : Nat) (x : Rot) : (c.setRot h x).inReset = c.inReset := rfl
@[simp] theorem Core.setRot_frost (h : Nat) (x : Rot) : (c.setRot h x).frost = c.frost := rfl
@[simp] theorem Core.setRot_pal (h : Nat) (x : Rot) : (c.setRot h x).pal = c.pal := rfl
@[simp] theorem Core.setRot_inRst (h : Nat) (x : Rot) : (c.setRot h x).inRst = c.inRst := rfl
@[simp] theorem Core.setRot_tim (h : Nat) (x : Rot) : (c.setRot h x).tim = c.tim := rfl
@[simp] theorem Core.setRot_memMap (h : Nat) (x : Rot) : (c.setRot h x).memMap = c.memMap := rfl
@[simp] theorem Core.setRot_memOut (h : Nat) (x : Rot) : (c.setRot h x).memOut = c.memOut := rfl
@[simp] theorem Core.setRot_lanes (h : Nat) (x : Rot) : (c.setRot h x).lanes = c.lanes := rfl
@[simp] theorem Core.setRot_part (h : Nat) (x : Rot) : (c.setRot h x).part = c.part := rfl
@[simp] theorem Core.setRot_regs (h : Nat) (x : Rot) : (c.setRot h x).regs = c.regs := rfl
@[simp] theorem Core.setRot_tvB (h : Nat) (x : Rot) : (c.setRot h x).tvB = c.tvB := rfl
@[simp] theorem Core.setRot_tvC (h : Nat) (x : Rot) : (c.setRot h x).tvC = c.tvC := rfl
@[simp] theorem Core.setRot_shadow (h : Nat) (x : Rot) : (c.setRot h x).shadow = c.shadow := rfl
@[simp] theorem Core.setRot_staging (h : Nat) (x : Rot) : (c.setRot h x).staging = c.staging := rfl
@[simp] theorem Core.setRot_dt (h : Nat) (x : Rot) : (c.setRot h x).dt = c.dt := rfl
@[simp] theorem Core.setRot_dtk (h : Nat) (x : Rot) : (c.setRot h x).dtk = c.dtk := rfl
@[simp] theorem Core.setRot_linkBad (h : Nat) (x : Rot) : (c.setRot h x).linkBad = c.linkBad := rfl
@[simp] theorem Core.setRot_rstOpen (h : Nat) (x : Rot) : (c.setRot h x).rstOpen = c.rstOpen := rfl
@[simp] theorem Core.setRot_supply (h : Nat) (x : Rot) : (c.setRot h x).supply = c.supply := rfl
@[simp] theorem Core.setRot_setPend (h : Nat) (x : Rot) : (c.setRot h x).setPend = c.setPend := rfl
@[simp] theorem Core.setRot_setSkip (h : Nat) (x : Rot) : (c.setRot h x).setSkip = c.setSkip := rfl
@[simp] theorem Core.setRot_yMaster (h : Nat) (x : Rot) : (c.setRot h x).yMaster = c.yMaster := rfl
@[simp] theorem Core.setRot_secDone (h : Nat) (x : Rot) : (c.setRot h x).secDone = c.secDone := rfl
@[simp] theorem Core.setRot_loKhz (h : Nat) (x : Rot) : (c.setRot h x).loKhz = c.loKhz := rfl
@[simp] theorem Core.setRot_dShift (h : Nat) (x : Rot) : (c.setRot h x).dShift = c.dShift := rfl
@[simp] theorem Core.setRot_stepped (h : Nat) (x : Rot) : (c.setRot h x).stepped = c.stepped := rfl
@[simp] theorem Core.setRot_tap (h : Nat) (x : Rot) : (c.setRot h x).tap = c.tap := rfl
@[simp] theorem Core.setRot_dSlices (h : Nat) (x : Rot) : (c.setRot h x).dSlices = c.dSlices := rfl
@[simp] theorem Core.setRot_dGroup (h : Nat) (x : Rot) : (c.setRot h x).dGroup = c.dGroup := rfl
@[simp] theorem Core.setRot_dtLocked (h : Nat) (x : Rot) : (c.setRot h x).dtLocked = c.dtLocked := rfl
@[simp] theorem Core.setRot_free (h : Nat) (x : Rot) : (c.setRot h x).free = c.free := rfl
@[simp] theorem Core.setRot_links (h : Nat) (x : Rot) : (c.setRot h x).links = c.links := rfl
@[simp] theorem Core.setRot_outbox (h : Nat) (x : Rot) : (c.setRot h x).outbox = c.outbox := rfl
@[simp] theorem Core.setRot_held (h : Nat) (x : Rot) : (c.setRot h x).held = c.held := rfl
@[simp] theorem Core.setRot_streams (h : Nat) (x : Rot) : (c.setRot h x).streams = c.streams := rfl
@[simp] theorem Core.setRot_estRun (h : Nat) (x : Rot) : (c.setRot h x).estRun = c.estRun := rfl
@[simp] theorem Core.setRot_cands (h : Nat) (x : Rot) : (c.setRot h x).cands = c.cands := rfl
@[simp] theorem Core.setRot_pairs (h : Nat) (x : Rot) : (c.setRot h x).pairs = c.pairs := rfl
@[simp] theorem Core.setRot_building (h : Nat) (x : Rot) : (c.setRot h x).building = c.building := rfl
@[simp] theorem Core.setRot_fltBuf (h : Nat) (x : Rot) : (c.setRot h x).fltBuf = c.fltBuf := rfl
@[simp] theorem Core.setRot_fltSeq (h : Nat) (x : Rot) : (c.setRot h x).fltSeq = c.fltSeq := rfl
@[simp] theorem Core.setRot_esc (h : Nat) (x : Rot) : (c.setRot h x).esc = c.esc := rfl
@[simp] theorem Core.setRot_engaged (h : Nat) (x : Rot) : (c.setRot h x).engaged = c.engaged := rfl
@[simp] theorem Core.setRot_ackWait (h : Nat) (x : Rot) : (c.setRot h x).ackWait = c.ackWait := rfl
@[simp] theorem Core.setRot_hitUnits (h : Nat) (x : Rot) : (c.setRot h x).hitUnits = c.hitUnits := rfl
@[simp] theorem Core.setRot_hits (h : Nat) (x : Rot) : (c.setRot h x).hits = c.hits := rfl
@[simp] theorem Core.setRot_exHeld (h : Nat) (x : Rot) : (c.setRot h x).exHeld = c.exHeld := rfl
@[simp] theorem Core.setRot_quiet (h : Nat) (x : Rot) : (c.setRot h x).quiet = c.quiet := rfl
@[simp] theorem Core.setRot_resetIssued (h : Nat) (x : Rot) : (c.setRot h x).resetIssued = c.resetIssued := rfl
@[simp] theorem Core.setRot_pte (h : Nat) (x : Rot) : (c.setRot h x).pte = c.pte := rfl
@[simp] theorem Core.setRot_queues (h : Nat) (x : Rot) : (c.setRot h x).queues = c.queues := rfl
@[simp] theorem Core.setRot_memU (h : Nat) (x : Rot) : (c.setRot h x).memU = c.memU := rfl
@[simp] theorem Core.setRot_memLost (h : Nat) (x : Rot) : (c.setRot h x).memLost = c.memLost := rfl
@[simp] theorem Core.setRot_mtl (h : Nat) (x : Rot) : (c.setRot h x).mtl = c.mtl := rfl
@[simp] theorem Core.setRot_host (h : Nat) (x : Rot) : (c.setRot h x).host = c.host := rfl
@[simp] theorem Core.setRot_inds (h : Nat) (x : Rot) : (c.setRot h x).inds = c.inds := rfl
@[simp] theorem Core.setRot_alive (h : Nat) (x : Rot) : (c.setRot h x).alive = c.alive := rfl
@[simp] theorem Core.setRot_footed (h : Nat) (x : Rot) : (c.setRot h x).footed = c.footed := rfl
@[simp] theorem Core.setRot_vholdTold (h : Nat) (x : Rot) : (c.setRot h x).vholdTold = c.vholdTold := rfl
@[simp] theorem Core.setRot_courseHeld (h : Nat) (x : Rot) : (c.setRot h x).courseHeld = c.courseHeld := rfl
@[simp] theorem Core.setRot_courseWaited (h : Nat) (x : Rot) : (c.setRot h x).courseWaited = c.courseWaited := rfl
@[simp] theorem Core.setRot_rsTried (h : Nat) (x : Rot) : (c.setRot h x).rsTried = c.rsTried := rfl
@[simp] theorem Core.setRot_rstReq (h : Nat) (x : Rot) : (c.setRot h x).rstReq = c.rstReq := rfl
@[simp] theorem Core.setRot_rd (h : Nat) (x : Rot) (f : Fld) (j l : Nat) : (c.setRot h x).rd f j l = c.rd f j l := rfl
@[simp] theorem Core.setRot_rdB (h : Nat) (x : Rot) (f : Fld) (j l : Nat) : (c.setRot h x).rdB f j l = c.rdB f j l := rfl
@[simp] theorem Core.setRot_rdS (h : Nat) (x : Rot) (f : Fld) (j l : Nat) : (c.setRot h x).rdS f j l = c.rdS f j l := rfl
@[simp] theorem Core.setRot_rdTv (h : Nat) (x : Rot) (f : Fld) (j l : Nat) : (c.setRot h x).rdTv f j l = c.rdTv f j l := rfl

@[simp] theorem Core.setChan_rots (h : Nat) (x : Chan) : (c.setChan h x).rots = c.rots := rfl
@[simp] theorem Core.setChan_tach (h : Nat) (x : Chan) : (c.setChan h x).tach = c.tach := rfl
@[simp] theorem Core.setChan_glcs (h : Nat) (x : Chan) : (c.setChan h x).glcs = c.glcs := rfl
@[simp] theorem Core.setChan_tSum (h : Nat) (x : Chan) : (c.setChan h x).tSum = c.tSum := rfl
@[simp] theorem Core.setChan_secInDay (h : Nat) (x : Chan) : (c.setChan h x).secInDay = c.secInDay := rfl
@[simp] theorem Core.setChan_ageBase (h : Nat) (x : Chan) : (c.setChan h x).ageBase = c.ageBase := rfl
@[simp] theorem Core.setChan_glcReady (h : Nat) (x : Chan) : (c.setChan h x).glcReady = c.glcReady := rfl
@[simp] theorem Core.setChan_syns (h : Nat) (x : Chan) : (c.setChan h x).syns = c.syns := rfl
@[simp] theorem Core.setChan_firnU (h : Nat) (x : Chan) : (c.setChan h x).firnU = c.firnU := rfl
@[simp] theorem Core.setChan_firnOut (h : Nat) (x : Chan) : (c.setChan h x).firnOut = c.firnOut := rfl
@[simp] theorem Core.setChan_inReset (h : Nat) (x : Chan) : (c.setChan h x).inReset = c.inReset := rfl
@[simp] theorem Core.setChan_frost (h : Nat) (x : Chan) : (c.setChan h x).frost = c.frost := rfl
@[simp] theorem Core.setChan_pal (h : Nat) (x : Chan) : (c.setChan h x).pal = c.pal := rfl
@[simp] theorem Core.setChan_inRst (h : Nat) (x : Chan) : (c.setChan h x).inRst = c.inRst := rfl
@[simp] theorem Core.setChan_tim (h : Nat) (x : Chan) : (c.setChan h x).tim = c.tim := rfl
@[simp] theorem Core.setChan_memMap (h : Nat) (x : Chan) : (c.setChan h x).memMap = c.memMap := rfl
@[simp] theorem Core.setChan_memOut (h : Nat) (x : Chan) : (c.setChan h x).memOut = c.memOut := rfl
@[simp] theorem Core.setChan_lanes (h : Nat) (x : Chan) : (c.setChan h x).lanes = c.lanes := rfl
@[simp] theorem Core.setChan_part (h : Nat) (x : Chan) : (c.setChan h x).part = c.part := rfl
@[simp] theorem Core.setChan_regs (h : Nat) (x : Chan) : (c.setChan h x).regs = c.regs := rfl
@[simp] theorem Core.setChan_tvB (h : Nat) (x : Chan) : (c.setChan h x).tvB = c.tvB := rfl
@[simp] theorem Core.setChan_tvC (h : Nat) (x : Chan) : (c.setChan h x).tvC = c.tvC := rfl
@[simp] theorem Core.setChan_shadow (h : Nat) (x : Chan) : (c.setChan h x).shadow = c.shadow := rfl
@[simp] theorem Core.setChan_staging (h : Nat) (x : Chan) : (c.setChan h x).staging = c.staging := rfl
@[simp] theorem Core.setChan_dt (h : Nat) (x : Chan) : (c.setChan h x).dt = c.dt := rfl
@[simp] theorem Core.setChan_dtk (h : Nat) (x : Chan) : (c.setChan h x).dtk = c.dtk := rfl
@[simp] theorem Core.setChan_linkBad (h : Nat) (x : Chan) : (c.setChan h x).linkBad = c.linkBad := rfl
@[simp] theorem Core.setChan_rstOpen (h : Nat) (x : Chan) : (c.setChan h x).rstOpen = c.rstOpen := rfl
@[simp] theorem Core.setChan_supply (h : Nat) (x : Chan) : (c.setChan h x).supply = c.supply := rfl
@[simp] theorem Core.setChan_setPend (h : Nat) (x : Chan) : (c.setChan h x).setPend = c.setPend := rfl
@[simp] theorem Core.setChan_setSkip (h : Nat) (x : Chan) : (c.setChan h x).setSkip = c.setSkip := rfl
@[simp] theorem Core.setChan_yMaster (h : Nat) (x : Chan) : (c.setChan h x).yMaster = c.yMaster := rfl
@[simp] theorem Core.setChan_secDone (h : Nat) (x : Chan) : (c.setChan h x).secDone = c.secDone := rfl
@[simp] theorem Core.setChan_loKhz (h : Nat) (x : Chan) : (c.setChan h x).loKhz = c.loKhz := rfl
@[simp] theorem Core.setChan_dShift (h : Nat) (x : Chan) : (c.setChan h x).dShift = c.dShift := rfl
@[simp] theorem Core.setChan_stepped (h : Nat) (x : Chan) : (c.setChan h x).stepped = c.stepped := rfl
@[simp] theorem Core.setChan_tap (h : Nat) (x : Chan) : (c.setChan h x).tap = c.tap := rfl
@[simp] theorem Core.setChan_dSlices (h : Nat) (x : Chan) : (c.setChan h x).dSlices = c.dSlices := rfl
@[simp] theorem Core.setChan_dGroup (h : Nat) (x : Chan) : (c.setChan h x).dGroup = c.dGroup := rfl
@[simp] theorem Core.setChan_dtLocked (h : Nat) (x : Chan) : (c.setChan h x).dtLocked = c.dtLocked := rfl
@[simp] theorem Core.setChan_free (h : Nat) (x : Chan) : (c.setChan h x).free = c.free := rfl
@[simp] theorem Core.setChan_links (h : Nat) (x : Chan) : (c.setChan h x).links = c.links := rfl
@[simp] theorem Core.setChan_outbox (h : Nat) (x : Chan) : (c.setChan h x).outbox = c.outbox := rfl
@[simp] theorem Core.setChan_held (h : Nat) (x : Chan) : (c.setChan h x).held = c.held := rfl
@[simp] theorem Core.setChan_streams (h : Nat) (x : Chan) : (c.setChan h x).streams = c.streams := rfl
@[simp] theorem Core.setChan_estRun (h : Nat) (x : Chan) : (c.setChan h x).estRun = c.estRun := rfl
@[simp] theorem Core.setChan_cands (h : Nat) (x : Chan) : (c.setChan h x).cands = c.cands := rfl
@[simp] theorem Core.setChan_pairs (h : Nat) (x : Chan) : (c.setChan h x).pairs = c.pairs := rfl
@[simp] theorem Core.setChan_building (h : Nat) (x : Chan) : (c.setChan h x).building = c.building := rfl
@[simp] theorem Core.setChan_fltBuf (h : Nat) (x : Chan) : (c.setChan h x).fltBuf = c.fltBuf := rfl
@[simp] theorem Core.setChan_fltSeq (h : Nat) (x : Chan) : (c.setChan h x).fltSeq = c.fltSeq := rfl
@[simp] theorem Core.setChan_esc (h : Nat) (x : Chan) : (c.setChan h x).esc = c.esc := rfl
@[simp] theorem Core.setChan_engaged (h : Nat) (x : Chan) : (c.setChan h x).engaged = c.engaged := rfl
@[simp] theorem Core.setChan_ackWait (h : Nat) (x : Chan) : (c.setChan h x).ackWait = c.ackWait := rfl
@[simp] theorem Core.setChan_hitUnits (h : Nat) (x : Chan) : (c.setChan h x).hitUnits = c.hitUnits := rfl
@[simp] theorem Core.setChan_hits (h : Nat) (x : Chan) : (c.setChan h x).hits = c.hits := rfl
@[simp] theorem Core.setChan_exHeld (h : Nat) (x : Chan) : (c.setChan h x).exHeld = c.exHeld := rfl
@[simp] theorem Core.setChan_quiet (h : Nat) (x : Chan) : (c.setChan h x).quiet = c.quiet := rfl
@[simp] theorem Core.setChan_resetIssued (h : Nat) (x : Chan) : (c.setChan h x).resetIssued = c.resetIssued := rfl
@[simp] theorem Core.setChan_pte (h : Nat) (x : Chan) : (c.setChan h x).pte = c.pte := rfl
@[simp] theorem Core.setChan_queues (h : Nat) (x : Chan) : (c.setChan h x).queues = c.queues := rfl
@[simp] theorem Core.setChan_memU (h : Nat) (x : Chan) : (c.setChan h x).memU = c.memU := rfl
@[simp] theorem Core.setChan_memLost (h : Nat) (x : Chan) : (c.setChan h x).memLost = c.memLost := rfl
@[simp] theorem Core.setChan_mtl (h : Nat) (x : Chan) : (c.setChan h x).mtl = c.mtl := rfl
@[simp] theorem Core.setChan_host (h : Nat) (x : Chan) : (c.setChan h x).host = c.host := rfl
@[simp] theorem Core.setChan_inds (h : Nat) (x : Chan) : (c.setChan h x).inds = c.inds := rfl
@[simp] theorem Core.setChan_alive (h : Nat) (x : Chan) : (c.setChan h x).alive = c.alive := rfl
@[simp] theorem Core.setChan_footed (h : Nat) (x : Chan) : (c.setChan h x).footed = c.footed := rfl
@[simp] theorem Core.setChan_vholdTold (h : Nat) (x : Chan) : (c.setChan h x).vholdTold = c.vholdTold := rfl
@[simp] theorem Core.setChan_courseHeld (h : Nat) (x : Chan) : (c.setChan h x).courseHeld = c.courseHeld := rfl
@[simp] theorem Core.setChan_courseWaited (h : Nat) (x : Chan) : (c.setChan h x).courseWaited = c.courseWaited := rfl
@[simp] theorem Core.setChan_rsTried (h : Nat) (x : Chan) : (c.setChan h x).rsTried = c.rsTried := rfl
@[simp] theorem Core.setChan_rstReq (h : Nat) (x : Chan) : (c.setChan h x).rstReq = c.rstReq := rfl
@[simp] theorem Core.setChan_rd (h : Nat) (x : Chan) (f : Fld) (j l : Nat) : (c.setChan h x).rd f j l = c.rd f j l := rfl
@[simp] theorem Core.setChan_rdB (h : Nat) (x : Chan) (f : Fld) (j l : Nat) : (c.setChan h x).rdB f j l = c.rdB f j l := rfl
@[simp] theorem Core.setChan_rdS (h : Nat) (x : Chan) (f : Fld) (j l : Nat) : (c.setChan h x).rdS f j l = c.rdS f j l := rfl
@[simp] theorem Core.setChan_rdTv (h : Nat) (x : Chan) (f : Fld) (j l : Nat) : (c.setChan h x).rdTv f j l = c.rdTv f j l := rfl

@[simp] theorem Core.setGlc_rots (h : Nat) (x : Glc) : (c.setGlc h x).rots = c.rots := rfl
@[simp] theorem Core.setGlc_tach (h : Nat) (x : Glc) : (c.setGlc h x).tach = c.tach := rfl
@[simp] theorem Core.setGlc_chans (h : Nat) (x : Glc) : (c.setGlc h x).chans = c.chans := rfl
@[simp] theorem Core.setGlc_tSum (h : Nat) (x : Glc) : (c.setGlc h x).tSum = c.tSum := rfl
@[simp] theorem Core.setGlc_secInDay (h : Nat) (x : Glc) : (c.setGlc h x).secInDay = c.secInDay := rfl
@[simp] theorem Core.setGlc_ageBase (h : Nat) (x : Glc) : (c.setGlc h x).ageBase = c.ageBase := rfl
@[simp] theorem Core.setGlc_glcReady (h : Nat) (x : Glc) : (c.setGlc h x).glcReady = c.glcReady := rfl
@[simp] theorem Core.setGlc_syns (h : Nat) (x : Glc) : (c.setGlc h x).syns = c.syns := rfl
@[simp] theorem Core.setGlc_firnU (h : Nat) (x : Glc) : (c.setGlc h x).firnU = c.firnU := rfl
@[simp] theorem Core.setGlc_firnOut (h : Nat) (x : Glc) : (c.setGlc h x).firnOut = c.firnOut := rfl
@[simp] theorem Core.setGlc_inReset (h : Nat) (x : Glc) : (c.setGlc h x).inReset = c.inReset := rfl
@[simp] theorem Core.setGlc_frost (h : Nat) (x : Glc) : (c.setGlc h x).frost = c.frost := rfl
@[simp] theorem Core.setGlc_pal (h : Nat) (x : Glc) : (c.setGlc h x).pal = c.pal := rfl
@[simp] theorem Core.setGlc_inRst (h : Nat) (x : Glc) : (c.setGlc h x).inRst = c.inRst := rfl
@[simp] theorem Core.setGlc_tim (h : Nat) (x : Glc) : (c.setGlc h x).tim = c.tim := rfl
@[simp] theorem Core.setGlc_memMap (h : Nat) (x : Glc) : (c.setGlc h x).memMap = c.memMap := rfl
@[simp] theorem Core.setGlc_memOut (h : Nat) (x : Glc) : (c.setGlc h x).memOut = c.memOut := rfl
@[simp] theorem Core.setGlc_lanes (h : Nat) (x : Glc) : (c.setGlc h x).lanes = c.lanes := rfl
@[simp] theorem Core.setGlc_part (h : Nat) (x : Glc) : (c.setGlc h x).part = c.part := rfl
@[simp] theorem Core.setGlc_regs (h : Nat) (x : Glc) : (c.setGlc h x).regs = c.regs := rfl
@[simp] theorem Core.setGlc_tvB (h : Nat) (x : Glc) : (c.setGlc h x).tvB = c.tvB := rfl
@[simp] theorem Core.setGlc_tvC (h : Nat) (x : Glc) : (c.setGlc h x).tvC = c.tvC := rfl
@[simp] theorem Core.setGlc_shadow (h : Nat) (x : Glc) : (c.setGlc h x).shadow = c.shadow := rfl
@[simp] theorem Core.setGlc_staging (h : Nat) (x : Glc) : (c.setGlc h x).staging = c.staging := rfl
@[simp] theorem Core.setGlc_dt (h : Nat) (x : Glc) : (c.setGlc h x).dt = c.dt := rfl
@[simp] theorem Core.setGlc_dtk (h : Nat) (x : Glc) : (c.setGlc h x).dtk = c.dtk := rfl
@[simp] theorem Core.setGlc_linkBad (h : Nat) (x : Glc) : (c.setGlc h x).linkBad = c.linkBad := rfl
@[simp] theorem Core.setGlc_rstOpen (h : Nat) (x : Glc) : (c.setGlc h x).rstOpen = c.rstOpen := rfl
@[simp] theorem Core.setGlc_supply (h : Nat) (x : Glc) : (c.setGlc h x).supply = c.supply := rfl
@[simp] theorem Core.setGlc_setPend (h : Nat) (x : Glc) : (c.setGlc h x).setPend = c.setPend := rfl
@[simp] theorem Core.setGlc_setSkip (h : Nat) (x : Glc) : (c.setGlc h x).setSkip = c.setSkip := rfl
@[simp] theorem Core.setGlc_yMaster (h : Nat) (x : Glc) : (c.setGlc h x).yMaster = c.yMaster := rfl
@[simp] theorem Core.setGlc_secDone (h : Nat) (x : Glc) : (c.setGlc h x).secDone = c.secDone := rfl
@[simp] theorem Core.setGlc_loKhz (h : Nat) (x : Glc) : (c.setGlc h x).loKhz = c.loKhz := rfl
@[simp] theorem Core.setGlc_dShift (h : Nat) (x : Glc) : (c.setGlc h x).dShift = c.dShift := rfl
@[simp] theorem Core.setGlc_stepped (h : Nat) (x : Glc) : (c.setGlc h x).stepped = c.stepped := rfl
@[simp] theorem Core.setGlc_tap (h : Nat) (x : Glc) : (c.setGlc h x).tap = c.tap := rfl
@[simp] theorem Core.setGlc_dSlices (h : Nat) (x : Glc) : (c.setGlc h x).dSlices = c.dSlices := rfl
@[simp] theorem Core.setGlc_dGroup (h : Nat) (x : Glc) : (c.setGlc h x).dGroup = c.dGroup := rfl
@[simp] theorem Core.setGlc_dtLocked (h : Nat) (x : Glc) : (c.setGlc h x).dtLocked = c.dtLocked := rfl
@[simp] theorem Core.setGlc_free (h : Nat) (x : Glc) : (c.setGlc h x).free = c.free := rfl
@[simp] theorem Core.setGlc_links (h : Nat) (x : Glc) : (c.setGlc h x).links = c.links := rfl
@[simp] theorem Core.setGlc_outbox (h : Nat) (x : Glc) : (c.setGlc h x).outbox = c.outbox := rfl
@[simp] theorem Core.setGlc_held (h : Nat) (x : Glc) : (c.setGlc h x).held = c.held := rfl
@[simp] theorem Core.setGlc_streams (h : Nat) (x : Glc) : (c.setGlc h x).streams = c.streams := rfl
@[simp] theorem Core.setGlc_estRun (h : Nat) (x : Glc) : (c.setGlc h x).estRun = c.estRun := rfl
@[simp] theorem Core.setGlc_cands (h : Nat) (x : Glc) : (c.setGlc h x).cands = c.cands := rfl
@[simp] theorem Core.setGlc_pairs (h : Nat) (x : Glc) : (c.setGlc h x).pairs = c.pairs := rfl
@[simp] theorem Core.setGlc_building (h : Nat) (x : Glc) : (c.setGlc h x).building = c.building := rfl
@[simp] theorem Core.setGlc_fltBuf (h : Nat) (x : Glc) : (c.setGlc h x).fltBuf = c.fltBuf := rfl
@[simp] theorem Core.setGlc_fltSeq (h : Nat) (x : Glc) : (c.setGlc h x).fltSeq = c.fltSeq := rfl
@[simp] theorem Core.setGlc_esc (h : Nat) (x : Glc) : (c.setGlc h x).esc = c.esc := rfl
@[simp] theorem Core.setGlc_engaged (h : Nat) (x : Glc) : (c.setGlc h x).engaged = c.engaged := rfl
@[simp] theorem Core.setGlc_ackWait (h : Nat) (x : Glc) : (c.setGlc h x).ackWait = c.ackWait := rfl
@[simp] theorem Core.setGlc_hitUnits (h : Nat) (x : Glc) : (c.setGlc h x).hitUnits = c.hitUnits := rfl
@[simp] theorem Core.setGlc_hits (h : Nat) (x : Glc) : (c.setGlc h x).hits = c.hits := rfl
@[simp] theorem Core.setGlc_exHeld (h : Nat) (x : Glc) : (c.setGlc h x).exHeld = c.exHeld := rfl
@[simp] theorem Core.setGlc_quiet (h : Nat) (x : Glc) : (c.setGlc h x).quiet = c.quiet := rfl
@[simp] theorem Core.setGlc_resetIssued (h : Nat) (x : Glc) : (c.setGlc h x).resetIssued = c.resetIssued := rfl
@[simp] theorem Core.setGlc_pte (h : Nat) (x : Glc) : (c.setGlc h x).pte = c.pte := rfl
@[simp] theorem Core.setGlc_queues (h : Nat) (x : Glc) : (c.setGlc h x).queues = c.queues := rfl
@[simp] theorem Core.setGlc_memU (h : Nat) (x : Glc) : (c.setGlc h x).memU = c.memU := rfl
@[simp] theorem Core.setGlc_memLost (h : Nat) (x : Glc) : (c.setGlc h x).memLost = c.memLost := rfl
@[simp] theorem Core.setGlc_mtl (h : Nat) (x : Glc) : (c.setGlc h x).mtl = c.mtl := rfl
@[simp] theorem Core.setGlc_host (h : Nat) (x : Glc) : (c.setGlc h x).host = c.host := rfl
@[simp] theorem Core.setGlc_inds (h : Nat) (x : Glc) : (c.setGlc h x).inds = c.inds := rfl
@[simp] theorem Core.setGlc_alive (h : Nat) (x : Glc) : (c.setGlc h x).alive = c.alive := rfl
@[simp] theorem Core.setGlc_footed (h : Nat) (x : Glc) : (c.setGlc h x).footed = c.footed := rfl
@[simp] theorem Core.setGlc_vholdTold (h : Nat) (x : Glc) : (c.setGlc h x).vholdTold = c.vholdTold := rfl
@[simp] theorem Core.setGlc_courseHeld (h : Nat) (x : Glc) : (c.setGlc h x).courseHeld = c.courseHeld := rfl
@[simp] theorem Core.setGlc_courseWaited (h : Nat) (x : Glc) : (c.setGlc h x).courseWaited = c.courseWaited := rfl
@[simp] theorem Core.setGlc_rsTried (h : Nat) (x : Glc) : (c.setGlc h x).rsTried = c.rsTried := rfl
@[simp] theorem Core.setGlc_rstReq (h : Nat) (x : Glc) : (c.setGlc h x).rstReq = c.rstReq := rfl
@[simp] theorem Core.setGlc_rd (h : Nat) (x : Glc) (f : Fld) (j l : Nat) : (c.setGlc h x).rd f j l = c.rd f j l := rfl
@[simp] theorem Core.setGlc_rdB (h : Nat) (x : Glc) (f : Fld) (j l : Nat) : (c.setGlc h x).rdB f j l = c.rdB f j l := rfl
@[simp] theorem Core.setGlc_rdS (h : Nat) (x : Glc) (f : Fld) (j l : Nat) : (c.setGlc h x).rdS f j l = c.rdS f j l := rfl
@[simp] theorem Core.setGlc_rdTv (h : Nat) (x : Glc) (f : Fld) (j l : Nat) : (c.setGlc h x).rdTv f j l = c.rdTv f j l := rfl

@[simp] theorem Core.setSyn_rots (n : Nat) (x : Syn) : (c.setSyn n x).rots = c.rots := rfl
@[simp] theorem Core.setSyn_tach (n : Nat) (x : Syn) : (c.setSyn n x).tach = c.tach := rfl
@[simp] theorem Core.setSyn_chans (n : Nat) (x : Syn) : (c.setSyn n x).chans = c.chans := rfl
@[simp] theorem Core.setSyn_glcs (n : Nat) (x : Syn) : (c.setSyn n x).glcs = c.glcs := rfl
@[simp] theorem Core.setSyn_tSum (n : Nat) (x : Syn) : (c.setSyn n x).tSum = c.tSum := rfl
@[simp] theorem Core.setSyn_secInDay (n : Nat) (x : Syn) : (c.setSyn n x).secInDay = c.secInDay := rfl
@[simp] theorem Core.setSyn_ageBase (n : Nat) (x : Syn) : (c.setSyn n x).ageBase = c.ageBase := rfl
@[simp] theorem Core.setSyn_glcReady (n : Nat) (x : Syn) : (c.setSyn n x).glcReady = c.glcReady := rfl
@[simp] theorem Core.setSyn_firnU (n : Nat) (x : Syn) : (c.setSyn n x).firnU = c.firnU := rfl
@[simp] theorem Core.setSyn_firnOut (n : Nat) (x : Syn) : (c.setSyn n x).firnOut = c.firnOut := rfl
@[simp] theorem Core.setSyn_inReset (n : Nat) (x : Syn) : (c.setSyn n x).inReset = c.inReset := rfl
@[simp] theorem Core.setSyn_frost (n : Nat) (x : Syn) : (c.setSyn n x).frost = c.frost := rfl
@[simp] theorem Core.setSyn_pal (n : Nat) (x : Syn) : (c.setSyn n x).pal = c.pal := rfl
@[simp] theorem Core.setSyn_inRst (n : Nat) (x : Syn) : (c.setSyn n x).inRst = c.inRst := rfl
@[simp] theorem Core.setSyn_tim (n : Nat) (x : Syn) : (c.setSyn n x).tim = c.tim := rfl
@[simp] theorem Core.setSyn_memMap (n : Nat) (x : Syn) : (c.setSyn n x).memMap = c.memMap := rfl
@[simp] theorem Core.setSyn_memOut (n : Nat) (x : Syn) : (c.setSyn n x).memOut = c.memOut := rfl
@[simp] theorem Core.setSyn_lanes (n : Nat) (x : Syn) : (c.setSyn n x).lanes = c.lanes := rfl
@[simp] theorem Core.setSyn_part (n : Nat) (x : Syn) : (c.setSyn n x).part = c.part := rfl
@[simp] theorem Core.setSyn_regs (n : Nat) (x : Syn) : (c.setSyn n x).regs = c.regs := rfl
@[simp] theorem Core.setSyn_tvB (n : Nat) (x : Syn) : (c.setSyn n x).tvB = c.tvB := rfl
@[simp] theorem Core.setSyn_tvC (n : Nat) (x : Syn) : (c.setSyn n x).tvC = c.tvC := rfl
@[simp] theorem Core.setSyn_shadow (n : Nat) (x : Syn) : (c.setSyn n x).shadow = c.shadow := rfl
@[simp] theorem Core.setSyn_staging (n : Nat) (x : Syn) : (c.setSyn n x).staging = c.staging := rfl
@[simp] theorem Core.setSyn_dt (n : Nat) (x : Syn) : (c.setSyn n x).dt = c.dt := rfl
@[simp] theorem Core.setSyn_dtk (n : Nat) (x : Syn) : (c.setSyn n x).dtk = c.dtk := rfl
@[simp] theorem Core.setSyn_linkBad (n : Nat) (x : Syn) : (c.setSyn n x).linkBad = c.linkBad := rfl
@[simp] theorem Core.setSyn_rstOpen (n : Nat) (x : Syn) : (c.setSyn n x).rstOpen = c.rstOpen := rfl
@[simp] theorem Core.setSyn_supply (n : Nat) (x : Syn) : (c.setSyn n x).supply = c.supply := rfl
@[simp] theorem Core.setSyn_setPend (n : Nat) (x : Syn) : (c.setSyn n x).setPend = c.setPend := rfl
@[simp] theorem Core.setSyn_setSkip (n : Nat) (x : Syn) : (c.setSyn n x).setSkip = c.setSkip := rfl
@[simp] theorem Core.setSyn_yMaster (n : Nat) (x : Syn) : (c.setSyn n x).yMaster = c.yMaster := rfl
@[simp] theorem Core.setSyn_secDone (n : Nat) (x : Syn) : (c.setSyn n x).secDone = c.secDone := rfl
@[simp] theorem Core.setSyn_loKhz (n : Nat) (x : Syn) : (c.setSyn n x).loKhz = c.loKhz := rfl
@[simp] theorem Core.setSyn_dShift (n : Nat) (x : Syn) : (c.setSyn n x).dShift = c.dShift := rfl
@[simp] theorem Core.setSyn_stepped (n : Nat) (x : Syn) : (c.setSyn n x).stepped = c.stepped := rfl
@[simp] theorem Core.setSyn_tap (n : Nat) (x : Syn) : (c.setSyn n x).tap = c.tap := rfl
@[simp] theorem Core.setSyn_dSlices (n : Nat) (x : Syn) : (c.setSyn n x).dSlices = c.dSlices := rfl
@[simp] theorem Core.setSyn_dGroup (n : Nat) (x : Syn) : (c.setSyn n x).dGroup = c.dGroup := rfl
@[simp] theorem Core.setSyn_dtLocked (n : Nat) (x : Syn) : (c.setSyn n x).dtLocked = c.dtLocked := rfl
@[simp] theorem Core.setSyn_free (n : Nat) (x : Syn) : (c.setSyn n x).free = c.free := rfl
@[simp] theorem Core.setSyn_links (n : Nat) (x : Syn) : (c.setSyn n x).links = c.links := rfl
@[simp] theorem Core.setSyn_outbox (n : Nat) (x : Syn) : (c.setSyn n x).outbox = c.outbox := rfl
@[simp] theorem Core.setSyn_held (n : Nat) (x : Syn) : (c.setSyn n x).held = c.held := rfl
@[simp] theorem Core.setSyn_streams (n : Nat) (x : Syn) : (c.setSyn n x).streams = c.streams := rfl
@[simp] theorem Core.setSyn_estRun (n : Nat) (x : Syn) : (c.setSyn n x).estRun = c.estRun := rfl
@[simp] theorem Core.setSyn_cands (n : Nat) (x : Syn) : (c.setSyn n x).cands = c.cands := rfl
@[simp] theorem Core.setSyn_pairs (n : Nat) (x : Syn) : (c.setSyn n x).pairs = c.pairs := rfl
@[simp] theorem Core.setSyn_building (n : Nat) (x : Syn) : (c.setSyn n x).building = c.building := rfl
@[simp] theorem Core.setSyn_fltBuf (n : Nat) (x : Syn) : (c.setSyn n x).fltBuf = c.fltBuf := rfl
@[simp] theorem Core.setSyn_fltSeq (n : Nat) (x : Syn) : (c.setSyn n x).fltSeq = c.fltSeq := rfl
@[simp] theorem Core.setSyn_esc (n : Nat) (x : Syn) : (c.setSyn n x).esc = c.esc := rfl
@[simp] theorem Core.setSyn_engaged (n : Nat) (x : Syn) : (c.setSyn n x).engaged = c.engaged := rfl
@[simp] theorem Core.setSyn_ackWait (n : Nat) (x : Syn) : (c.setSyn n x).ackWait = c.ackWait := rfl
@[simp] theorem Core.setSyn_hitUnits (n : Nat) (x : Syn) : (c.setSyn n x).hitUnits = c.hitUnits := rfl
@[simp] theorem Core.setSyn_hits (n : Nat) (x : Syn) : (c.setSyn n x).hits = c.hits := rfl
@[simp] theorem Core.setSyn_exHeld (n : Nat) (x : Syn) : (c.setSyn n x).exHeld = c.exHeld := rfl
@[simp] theorem Core.setSyn_quiet (n : Nat) (x : Syn) : (c.setSyn n x).quiet = c.quiet := rfl
@[simp] theorem Core.setSyn_resetIssued (n : Nat) (x : Syn) : (c.setSyn n x).resetIssued = c.resetIssued := rfl
@[simp] theorem Core.setSyn_pte (n : Nat) (x : Syn) : (c.setSyn n x).pte = c.pte := rfl
@[simp] theorem Core.setSyn_queues (n : Nat) (x : Syn) : (c.setSyn n x).queues = c.queues := rfl
@[simp] theorem Core.setSyn_memU (n : Nat) (x : Syn) : (c.setSyn n x).memU = c.memU := rfl
@[simp] theorem Core.setSyn_memLost (n : Nat) (x : Syn) : (c.setSyn n x).memLost = c.memLost := rfl
@[simp] theorem Core.setSyn_mtl (n : Nat) (x : Syn) : (c.setSyn n x).mtl = c.mtl := rfl
@[simp] theorem Core.setSyn_host (n : Nat) (x : Syn) : (c.setSyn n x).host = c.host := rfl
@[simp] theorem Core.setSyn_inds (n : Nat) (x : Syn) : (c.setSyn n x).inds = c.inds := rfl
@[simp] theorem Core.setSyn_alive (n : Nat) (x : Syn) : (c.setSyn n x).alive = c.alive := rfl
@[simp] theorem Core.setSyn_footed (n : Nat) (x : Syn) : (c.setSyn n x).footed = c.footed := rfl
@[simp] theorem Core.setSyn_vholdTold (n : Nat) (x : Syn) : (c.setSyn n x).vholdTold = c.vholdTold := rfl
@[simp] theorem Core.setSyn_courseHeld (n : Nat) (x : Syn) : (c.setSyn n x).courseHeld = c.courseHeld := rfl
@[simp] theorem Core.setSyn_courseWaited (n : Nat) (x : Syn) : (c.setSyn n x).courseWaited = c.courseWaited := rfl
@[simp] theorem Core.setSyn_rsTried (n : Nat) (x : Syn) : (c.setSyn n x).rsTried = c.rsTried := rfl
@[simp] theorem Core.setSyn_rstReq (n : Nat) (x : Syn) : (c.setSyn n x).rstReq = c.rstReq := rfl
@[simp] theorem Core.setSyn_rd (n : Nat) (x : Syn) (f : Fld) (j l : Nat) : (c.setSyn n x).rd f j l = c.rd f j l := rfl
@[simp] theorem Core.setSyn_rdB (n : Nat) (x : Syn) (f : Fld) (j l : Nat) : (c.setSyn n x).rdB f j l = c.rdB f j l := rfl
@[simp] theorem Core.setSyn_rdS (n : Nat) (x : Syn) (f : Fld) (j l : Nat) : (c.setSyn n x).rdS f j l = c.rdS f j l := rfl
@[simp] theorem Core.setSyn_rdTv (n : Nat) (x : Syn) (f : Fld) (j l : Nat) : (c.setSyn n x).rdTv f j l = c.rdTv f j l := rfl

@[simp] theorem Core.setPa_rots (a : Nat) (x : Pa) : (c.setPa a x).rots = c.rots := rfl
@[simp] theorem Core.setPa_tach (a : Nat) (x : Pa) : (c.setPa a x).tach = c.tach := rfl
@[simp] theorem Core.setPa_chans (a : Nat) (x : Pa) : (c.setPa a x).chans = c.chans := rfl
@[simp] theorem Core.setPa_glcs (a : Nat) (x : Pa) : (c.setPa a x).glcs = c.glcs := rfl
@[simp] theorem Core.setPa_tSum (a : Nat) (x : Pa) : (c.setPa a x).tSum = c.tSum := rfl
@[simp] theorem Core.setPa_secInDay (a : Nat) (x : Pa) : (c.setPa a x).secInDay = c.secInDay := rfl
@[simp] theorem Core.setPa_ageBase (a : Nat) (x : Pa) : (c.setPa a x).ageBase = c.ageBase := rfl
@[simp] theorem Core.setPa_glcReady (a : Nat) (x : Pa) : (c.setPa a x).glcReady = c.glcReady := rfl
@[simp] theorem Core.setPa_syns (a : Nat) (x : Pa) : (c.setPa a x).syns = c.syns := rfl
@[simp] theorem Core.setPa_firnU (a : Nat) (x : Pa) : (c.setPa a x).firnU = c.firnU := rfl
@[simp] theorem Core.setPa_firnOut (a : Nat) (x : Pa) : (c.setPa a x).firnOut = c.firnOut := rfl
@[simp] theorem Core.setPa_inReset (a : Nat) (x : Pa) : (c.setPa a x).inReset = c.inReset := rfl
@[simp] theorem Core.setPa_frost (a : Nat) (x : Pa) : (c.setPa a x).frost = c.frost := rfl
@[simp] theorem Core.setPa_inRst (a : Nat) (x : Pa) : (c.setPa a x).inRst = c.inRst := rfl
@[simp] theorem Core.setPa_tim (a : Nat) (x : Pa) : (c.setPa a x).tim = c.tim := rfl
@[simp] theorem Core.setPa_memMap (a : Nat) (x : Pa) : (c.setPa a x).memMap = c.memMap := rfl
@[simp] theorem Core.setPa_memOut (a : Nat) (x : Pa) : (c.setPa a x).memOut = c.memOut := rfl
@[simp] theorem Core.setPa_lanes (a : Nat) (x : Pa) : (c.setPa a x).lanes = c.lanes := rfl
@[simp] theorem Core.setPa_part (a : Nat) (x : Pa) : (c.setPa a x).part = c.part := rfl
@[simp] theorem Core.setPa_regs (a : Nat) (x : Pa) : (c.setPa a x).regs = c.regs := rfl
@[simp] theorem Core.setPa_tvB (a : Nat) (x : Pa) : (c.setPa a x).tvB = c.tvB := rfl
@[simp] theorem Core.setPa_tvC (a : Nat) (x : Pa) : (c.setPa a x).tvC = c.tvC := rfl
@[simp] theorem Core.setPa_shadow (a : Nat) (x : Pa) : (c.setPa a x).shadow = c.shadow := rfl
@[simp] theorem Core.setPa_staging (a : Nat) (x : Pa) : (c.setPa a x).staging = c.staging := rfl
@[simp] theorem Core.setPa_dt (a : Nat) (x : Pa) : (c.setPa a x).dt = c.dt := rfl
@[simp] theorem Core.setPa_dtk (a : Nat) (x : Pa) : (c.setPa a x).dtk = c.dtk := rfl
@[simp] theorem Core.setPa_linkBad (a : Nat) (x : Pa) : (c.setPa a x).linkBad = c.linkBad := rfl
@[simp] theorem Core.setPa_rstOpen (a : Nat) (x : Pa) : (c.setPa a x).rstOpen = c.rstOpen := rfl
@[simp] theorem Core.setPa_supply (a : Nat) (x : Pa) : (c.setPa a x).supply = c.supply := rfl
@[simp] theorem Core.setPa_setPend (a : Nat) (x : Pa) : (c.setPa a x).setPend = c.setPend := rfl
@[simp] theorem Core.setPa_setSkip (a : Nat) (x : Pa) : (c.setPa a x).setSkip = c.setSkip := rfl
@[simp] theorem Core.setPa_yMaster (a : Nat) (x : Pa) : (c.setPa a x).yMaster = c.yMaster := rfl
@[simp] theorem Core.setPa_secDone (a : Nat) (x : Pa) : (c.setPa a x).secDone = c.secDone := rfl
@[simp] theorem Core.setPa_loKhz (a : Nat) (x : Pa) : (c.setPa a x).loKhz = c.loKhz := rfl
@[simp] theorem Core.setPa_dShift (a : Nat) (x : Pa) : (c.setPa a x).dShift = c.dShift := rfl
@[simp] theorem Core.setPa_stepped (a : Nat) (x : Pa) : (c.setPa a x).stepped = c.stepped := rfl
@[simp] theorem Core.setPa_tap (a : Nat) (x : Pa) : (c.setPa a x).tap = c.tap := rfl
@[simp] theorem Core.setPa_dSlices (a : Nat) (x : Pa) : (c.setPa a x).dSlices = c.dSlices := rfl
@[simp] theorem Core.setPa_dGroup (a : Nat) (x : Pa) : (c.setPa a x).dGroup = c.dGroup := rfl
@[simp] theorem Core.setPa_dtLocked (a : Nat) (x : Pa) : (c.setPa a x).dtLocked = c.dtLocked := rfl
@[simp] theorem Core.setPa_free (a : Nat) (x : Pa) : (c.setPa a x).free = c.free := rfl
@[simp] theorem Core.setPa_links (a : Nat) (x : Pa) : (c.setPa a x).links = c.links := rfl
@[simp] theorem Core.setPa_outbox (a : Nat) (x : Pa) : (c.setPa a x).outbox = c.outbox := rfl
@[simp] theorem Core.setPa_held (a : Nat) (x : Pa) : (c.setPa a x).held = c.held := rfl
@[simp] theorem Core.setPa_streams (a : Nat) (x : Pa) : (c.setPa a x).streams = c.streams := rfl
@[simp] theorem Core.setPa_estRun (a : Nat) (x : Pa) : (c.setPa a x).estRun = c.estRun := rfl
@[simp] theorem Core.setPa_cands (a : Nat) (x : Pa) : (c.setPa a x).cands = c.cands := rfl
@[simp] theorem Core.setPa_pairs (a : Nat) (x : Pa) : (c.setPa a x).pairs = c.pairs := rfl
@[simp] theorem Core.setPa_building (a : Nat) (x : Pa) : (c.setPa a x).building = c.building := rfl
@[simp] theorem Core.setPa_fltBuf (a : Nat) (x : Pa) : (c.setPa a x).fltBuf = c.fltBuf := rfl
@[simp] theorem Core.setPa_fltSeq (a : Nat) (x : Pa) : (c.setPa a x).fltSeq = c.fltSeq := rfl
@[simp] theorem Core.setPa_esc (a : Nat) (x : Pa) : (c.setPa a x).esc = c.esc := rfl
@[simp] theorem Core.setPa_engaged (a : Nat) (x : Pa) : (c.setPa a x).engaged = c.engaged := rfl
@[simp] theorem Core.setPa_ackWait (a : Nat) (x : Pa) : (c.setPa a x).ackWait = c.ackWait := rfl
@[simp] theorem Core.setPa_hitUnits (a : Nat) (x : Pa) : (c.setPa a x).hitUnits = c.hitUnits := rfl
@[simp] theorem Core.setPa_hits (a : Nat) (x : Pa) : (c.setPa a x).hits = c.hits := rfl
@[simp] theorem Core.setPa_exHeld (a : Nat) (x : Pa) : (c.setPa a x).exHeld = c.exHeld := rfl
@[simp] theorem Core.setPa_quiet (a : Nat) (x : Pa) : (c.setPa a x).quiet = c.quiet := rfl
@[simp] theorem Core.setPa_resetIssued (a : Nat) (x : Pa) : (c.setPa a x).resetIssued = c.resetIssued := rfl
@[simp] theorem Core.setPa_pte (a : Nat) (x : Pa) : (c.setPa a x).pte = c.pte := rfl
@[simp] theorem Core.setPa_queues (a : Nat) (x : Pa) : (c.setPa a x).queues = c.queues := rfl
@[simp] theorem Core.setPa_memU (a : Nat) (x : Pa) : (c.setPa a x).memU = c.memU := rfl
@[simp] theorem Core.setPa_memLost (a : Nat) (x : Pa) : (c.setPa a x).memLost = c.memLost := rfl
@[simp] theorem Core.setPa_mtl (a : Nat) (x : Pa) : (c.setPa a x).mtl = c.mtl := rfl
@[simp] theorem Core.setPa_host (a : Nat) (x : Pa) : (c.setPa a x).host = c.host := rfl
@[simp] theorem Core.setPa_inds (a : Nat) (x : Pa) : (c.setPa a x).inds = c.inds := rfl
@[simp] theorem Core.setPa_alive (a : Nat) (x : Pa) : (c.setPa a x).alive = c.alive := rfl
@[simp] theorem Core.setPa_footed (a : Nat) (x : Pa) : (c.setPa a x).footed = c.footed := rfl
@[simp] theorem Core.setPa_vholdTold (a : Nat) (x : Pa) : (c.setPa a x).vholdTold = c.vholdTold := rfl
@[simp] theorem Core.setPa_courseHeld (a : Nat) (x : Pa) : (c.setPa a x).courseHeld = c.courseHeld := rfl
@[simp] theorem Core.setPa_courseWaited (a : Nat) (x : Pa) : (c.setPa a x).courseWaited = c.courseWaited := rfl
@[simp] theorem Core.setPa_rsTried (a : Nat) (x : Pa) : (c.setPa a x).rsTried = c.rsTried := rfl
@[simp] theorem Core.setPa_rstReq (a : Nat) (x : Pa) : (c.setPa a x).rstReq = c.rstReq := rfl
@[simp] theorem Core.setPa_rd (a : Nat) (x : Pa) (f : Fld) (j l : Nat) : (c.setPa a x).rd f j l = c.rd f j l := rfl
@[simp] theorem Core.setPa_rdB (a : Nat) (x : Pa) (f : Fld) (j l : Nat) : (c.setPa a x).rdB f j l = c.rdB f j l := rfl
@[simp] theorem Core.setPa_rdS (a : Nat) (x : Pa) (f : Fld) (j l : Nat) : (c.setPa a x).rdS f j l = c.rdS f j l := rfl
@[simp] theorem Core.setPa_rdTv (a : Nat) (x : Pa) (f : Fld) (j l : Nat) : (c.setPa a x).rdTv f j l = c.rdTv f j l := rfl

@[simp] theorem Core.setTim_rots (u : TimU) : (c.setTim u).rots = c.rots := rfl
@[simp] theorem Core.setTim_tach (u : TimU) : (c.setTim u).tach = c.tach := rfl
@[simp] theorem Core.setTim_chans (u : TimU) : (c.setTim u).chans = c.chans := rfl
@[simp] theorem Core.setTim_glcs (u : TimU) : (c.setTim u).glcs = c.glcs := rfl
@[simp] theorem Core.setTim_tSum (u : TimU) : (c.setTim u).tSum = c.tSum := rfl
@[simp] theorem Core.setTim_secInDay (u : TimU) : (c.setTim u).secInDay = c.secInDay := rfl
@[simp] theorem Core.setTim_ageBase (u : TimU) : (c.setTim u).ageBase = c.ageBase := rfl
@[simp] theorem Core.setTim_glcReady (u : TimU) : (c.setTim u).glcReady = c.glcReady := rfl
@[simp] theorem Core.setTim_syns (u : TimU) : (c.setTim u).syns = c.syns := rfl
@[simp] theorem Core.setTim_firnU (u : TimU) : (c.setTim u).firnU = c.firnU := rfl
@[simp] theorem Core.setTim_firnOut (u : TimU) : (c.setTim u).firnOut = c.firnOut := rfl
@[simp] theorem Core.setTim_inReset (u : TimU) : (c.setTim u).inReset = c.inReset := rfl
@[simp] theorem Core.setTim_frost (u : TimU) : (c.setTim u).frost = c.frost := rfl
@[simp] theorem Core.setTim_pal (u : TimU) : (c.setTim u).pal = c.pal := rfl
@[simp] theorem Core.setTim_inRst (u : TimU) : (c.setTim u).inRst = c.inRst := rfl
@[simp] theorem Core.setTim_memMap (u : TimU) : (c.setTim u).memMap = c.memMap := rfl
@[simp] theorem Core.setTim_memOut (u : TimU) : (c.setTim u).memOut = c.memOut := rfl
@[simp] theorem Core.setTim_lanes (u : TimU) : (c.setTim u).lanes = c.lanes := rfl
@[simp] theorem Core.setTim_part (u : TimU) : (c.setTim u).part = c.part := rfl
@[simp] theorem Core.setTim_regs (u : TimU) : (c.setTim u).regs = c.regs := rfl
@[simp] theorem Core.setTim_tvB (u : TimU) : (c.setTim u).tvB = c.tvB := rfl
@[simp] theorem Core.setTim_tvC (u : TimU) : (c.setTim u).tvC = c.tvC := rfl
@[simp] theorem Core.setTim_shadow (u : TimU) : (c.setTim u).shadow = c.shadow := rfl
@[simp] theorem Core.setTim_staging (u : TimU) : (c.setTim u).staging = c.staging := rfl
@[simp] theorem Core.setTim_dt (u : TimU) : (c.setTim u).dt = c.dt := rfl
@[simp] theorem Core.setTim_dtk (u : TimU) : (c.setTim u).dtk = c.dtk := rfl
@[simp] theorem Core.setTim_linkBad (u : TimU) : (c.setTim u).linkBad = c.linkBad := rfl
@[simp] theorem Core.setTim_rstOpen (u : TimU) : (c.setTim u).rstOpen = c.rstOpen := rfl
@[simp] theorem Core.setTim_supply (u : TimU) : (c.setTim u).supply = c.supply := rfl
@[simp] theorem Core.setTim_setPend (u : TimU) : (c.setTim u).setPend = c.setPend := rfl
@[simp] theorem Core.setTim_setSkip (u : TimU) : (c.setTim u).setSkip = c.setSkip := rfl
@[simp] theorem Core.setTim_yMaster (u : TimU) : (c.setTim u).yMaster = c.yMaster := rfl
@[simp] theorem Core.setTim_secDone (u : TimU) : (c.setTim u).secDone = c.secDone := rfl
@[simp] theorem Core.setTim_loKhz (u : TimU) : (c.setTim u).loKhz = c.loKhz := rfl
@[simp] theorem Core.setTim_dShift (u : TimU) : (c.setTim u).dShift = c.dShift := rfl
@[simp] theorem Core.setTim_stepped (u : TimU) : (c.setTim u).stepped = c.stepped := rfl
@[simp] theorem Core.setTim_tap (u : TimU) : (c.setTim u).tap = c.tap := rfl
@[simp] theorem Core.setTim_dSlices (u : TimU) : (c.setTim u).dSlices = c.dSlices := rfl
@[simp] theorem Core.setTim_dGroup (u : TimU) : (c.setTim u).dGroup = c.dGroup := rfl
@[simp] theorem Core.setTim_dtLocked (u : TimU) : (c.setTim u).dtLocked = c.dtLocked := rfl
@[simp] theorem Core.setTim_free (u : TimU) : (c.setTim u).free = c.free := rfl
@[simp] theorem Core.setTim_links (u : TimU) : (c.setTim u).links = c.links := rfl
@[simp] theorem Core.setTim_outbox (u : TimU) : (c.setTim u).outbox = c.outbox := rfl
@[simp] theorem Core.setTim_held (u : TimU) : (c.setTim u).held = c.held := rfl
@[simp] theorem Core.setTim_streams (u : TimU) : (c.setTim u).streams = c.streams := rfl
@[simp] theorem Core.setTim_estRun (u : TimU) : (c.setTim u).estRun = c.estRun := rfl
@[simp] theorem Core.setTim_cands (u : TimU) : (c.setTim u).cands = c.cands := rfl
@[simp] theorem Core.setTim_pairs (u : TimU) : (c.setTim u).pairs = c.pairs := rfl
@[simp] theorem Core.setTim_building (u : TimU) : (c.setTim u).building = c.building := rfl
@[simp] theorem Core.setTim_fltBuf (u : TimU) : (c.setTim u).fltBuf = c.fltBuf := rfl
@[simp] theorem Core.setTim_fltSeq (u : TimU) : (c.setTim u).fltSeq = c.fltSeq := rfl
@[simp] theorem Core.setTim_esc (u : TimU) : (c.setTim u).esc = c.esc := rfl
@[simp] theorem Core.setTim_engaged (u : TimU) : (c.setTim u).engaged = c.engaged := rfl
@[simp] theorem Core.setTim_ackWait (u : TimU) : (c.setTim u).ackWait = c.ackWait := rfl
@[simp] theorem Core.setTim_hitUnits (u : TimU) : (c.setTim u).hitUnits = c.hitUnits := rfl
@[simp] theorem Core.setTim_hits (u : TimU) : (c.setTim u).hits = c.hits := rfl
@[simp] theorem Core.setTim_exHeld (u : TimU) : (c.setTim u).exHeld = c.exHeld := rfl
@[simp] theorem Core.setTim_quiet (u : TimU) : (c.setTim u).quiet = c.quiet := rfl
@[simp] theorem Core.setTim_resetIssued (u : TimU) : (c.setTim u).resetIssued = c.resetIssued := rfl
@[simp] theorem Core.setTim_pte (u : TimU) : (c.setTim u).pte = c.pte := rfl
@[simp] theorem Core.setTim_queues (u : TimU) : (c.setTim u).queues = c.queues := rfl
@[simp] theorem Core.setTim_memU (u : TimU) : (c.setTim u).memU = c.memU := rfl
@[simp] theorem Core.setTim_memLost (u : TimU) : (c.setTim u).memLost = c.memLost := rfl
@[simp] theorem Core.setTim_mtl (u : TimU) : (c.setTim u).mtl = c.mtl := rfl
@[simp] theorem Core.setTim_host (u : TimU) : (c.setTim u).host = c.host := rfl
@[simp] theorem Core.setTim_inds (u : TimU) : (c.setTim u).inds = c.inds := rfl
@[simp] theorem Core.setTim_alive (u : TimU) : (c.setTim u).alive = c.alive := rfl
@[simp] theorem Core.setTim_footed (u : TimU) : (c.setTim u).footed = c.footed := rfl
@[simp] theorem Core.setTim_vholdTold (u : TimU) : (c.setTim u).vholdTold = c.vholdTold := rfl
@[simp] theorem Core.setTim_courseHeld (u : TimU) : (c.setTim u).courseHeld = c.courseHeld := rfl
@[simp] theorem Core.setTim_courseWaited (u : TimU) : (c.setTim u).courseWaited = c.courseWaited := rfl
@[simp] theorem Core.setTim_rsTried (u : TimU) : (c.setTim u).rsTried = c.rsTried := rfl
@[simp] theorem Core.setTim_rstReq (u : TimU) : (c.setTim u).rstReq = c.rstReq := rfl
@[simp] theorem Core.setTim_rd (u : TimU) (f : Fld) (j l : Nat) : (c.setTim u).rd f j l = c.rd f j l := rfl
@[simp] theorem Core.setTim_rdB (u : TimU) (f : Fld) (j l : Nat) : (c.setTim u).rdB f j l = c.rdB f j l := rfl
@[simp] theorem Core.setTim_rdS (u : TimU) (f : Fld) (j l : Nat) : (c.setTim u).rdS f j l = c.rdS f j l := rfl
@[simp] theorem Core.setTim_rdTv (u : TimU) (f : Fld) (j l : Nat) : (c.setTim u).rdTv f j l = c.rdTv f j l := rfl

@[simp] theorem Core.setLane_rots (n : Nat) (x : LaneU) : (c.setLane n x).rots = c.rots := rfl
@[simp] theorem Core.setLane_tach (n : Nat) (x : LaneU) : (c.setLane n x).tach = c.tach := rfl
@[simp] theorem Core.setLane_chans (n : Nat) (x : LaneU) : (c.setLane n x).chans = c.chans := rfl
@[simp] theorem Core.setLane_glcs (n : Nat) (x : LaneU) : (c.setLane n x).glcs = c.glcs := rfl
@[simp] theorem Core.setLane_tSum (n : Nat) (x : LaneU) : (c.setLane n x).tSum = c.tSum := rfl
@[simp] theorem Core.setLane_secInDay (n : Nat) (x : LaneU) : (c.setLane n x).secInDay = c.secInDay := rfl
@[simp] theorem Core.setLane_ageBase (n : Nat) (x : LaneU) : (c.setLane n x).ageBase = c.ageBase := rfl
@[simp] theorem Core.setLane_glcReady (n : Nat) (x : LaneU) : (c.setLane n x).glcReady = c.glcReady := rfl
@[simp] theorem Core.setLane_syns (n : Nat) (x : LaneU) : (c.setLane n x).syns = c.syns := rfl
@[simp] theorem Core.setLane_firnU (n : Nat) (x : LaneU) : (c.setLane n x).firnU = c.firnU := rfl
@[simp] theorem Core.setLane_firnOut (n : Nat) (x : LaneU) : (c.setLane n x).firnOut = c.firnOut := rfl
@[simp] theorem Core.setLane_inReset (n : Nat) (x : LaneU) : (c.setLane n x).inReset = c.inReset := rfl
@[simp] theorem Core.setLane_frost (n : Nat) (x : LaneU) : (c.setLane n x).frost = c.frost := rfl
@[simp] theorem Core.setLane_pal (n : Nat) (x : LaneU) : (c.setLane n x).pal = c.pal := rfl
@[simp] theorem Core.setLane_inRst (n : Nat) (x : LaneU) : (c.setLane n x).inRst = c.inRst := rfl
@[simp] theorem Core.setLane_tim (n : Nat) (x : LaneU) : (c.setLane n x).tim = c.tim := rfl
@[simp] theorem Core.setLane_memMap (n : Nat) (x : LaneU) : (c.setLane n x).memMap = c.memMap := rfl
@[simp] theorem Core.setLane_memOut (n : Nat) (x : LaneU) : (c.setLane n x).memOut = c.memOut := rfl
@[simp] theorem Core.setLane_part (n : Nat) (x : LaneU) : (c.setLane n x).part = c.part := rfl
@[simp] theorem Core.setLane_regs (n : Nat) (x : LaneU) : (c.setLane n x).regs = c.regs := rfl
@[simp] theorem Core.setLane_tvB (n : Nat) (x : LaneU) : (c.setLane n x).tvB = c.tvB := rfl
@[simp] theorem Core.setLane_tvC (n : Nat) (x : LaneU) : (c.setLane n x).tvC = c.tvC := rfl
@[simp] theorem Core.setLane_shadow (n : Nat) (x : LaneU) : (c.setLane n x).shadow = c.shadow := rfl
@[simp] theorem Core.setLane_staging (n : Nat) (x : LaneU) : (c.setLane n x).staging = c.staging := rfl
@[simp] theorem Core.setLane_dt (n : Nat) (x : LaneU) : (c.setLane n x).dt = c.dt := rfl
@[simp] theorem Core.setLane_dtk (n : Nat) (x : LaneU) : (c.setLane n x).dtk = c.dtk := rfl
@[simp] theorem Core.setLane_linkBad (n : Nat) (x : LaneU) : (c.setLane n x).linkBad = c.linkBad := rfl
@[simp] theorem Core.setLane_rstOpen (n : Nat) (x : LaneU) : (c.setLane n x).rstOpen = c.rstOpen := rfl
@[simp] theorem Core.setLane_supply (n : Nat) (x : LaneU) : (c.setLane n x).supply = c.supply := rfl
@[simp] theorem Core.setLane_setPend (n : Nat) (x : LaneU) : (c.setLane n x).setPend = c.setPend := rfl
@[simp] theorem Core.setLane_setSkip (n : Nat) (x : LaneU) : (c.setLane n x).setSkip = c.setSkip := rfl
@[simp] theorem Core.setLane_yMaster (n : Nat) (x : LaneU) : (c.setLane n x).yMaster = c.yMaster := rfl
@[simp] theorem Core.setLane_secDone (n : Nat) (x : LaneU) : (c.setLane n x).secDone = c.secDone := rfl
@[simp] theorem Core.setLane_loKhz (n : Nat) (x : LaneU) : (c.setLane n x).loKhz = c.loKhz := rfl
@[simp] theorem Core.setLane_dShift (n : Nat) (x : LaneU) : (c.setLane n x).dShift = c.dShift := rfl
@[simp] theorem Core.setLane_stepped (n : Nat) (x : LaneU) : (c.setLane n x).stepped = c.stepped := rfl
@[simp] theorem Core.setLane_tap (n : Nat) (x : LaneU) : (c.setLane n x).tap = c.tap := rfl
@[simp] theorem Core.setLane_dSlices (n : Nat) (x : LaneU) : (c.setLane n x).dSlices = c.dSlices := rfl
@[simp] theorem Core.setLane_dGroup (n : Nat) (x : LaneU) : (c.setLane n x).dGroup = c.dGroup := rfl
@[simp] theorem Core.setLane_dtLocked (n : Nat) (x : LaneU) : (c.setLane n x).dtLocked = c.dtLocked := rfl
@[simp] theorem Core.setLane_free (n : Nat) (x : LaneU) : (c.setLane n x).free = c.free := rfl
@[simp] theorem Core.setLane_links (n : Nat) (x : LaneU) : (c.setLane n x).links = c.links := rfl
@[simp] theorem Core.setLane_outbox (n : Nat) (x : LaneU) : (c.setLane n x).outbox = c.outbox := rfl
@[simp] theorem Core.setLane_held (n : Nat) (x : LaneU) : (c.setLane n x).held = c.held := rfl
@[simp] theorem Core.setLane_streams (n : Nat) (x : LaneU) : (c.setLane n x).streams = c.streams := rfl
@[simp] theorem Core.setLane_estRun (n : Nat) (x : LaneU) : (c.setLane n x).estRun = c.estRun := rfl
@[simp] theorem Core.setLane_cands (n : Nat) (x : LaneU) : (c.setLane n x).cands = c.cands := rfl
@[simp] theorem Core.setLane_pairs (n : Nat) (x : LaneU) : (c.setLane n x).pairs = c.pairs := rfl
@[simp] theorem Core.setLane_building (n : Nat) (x : LaneU) : (c.setLane n x).building = c.building := rfl
@[simp] theorem Core.setLane_fltBuf (n : Nat) (x : LaneU) : (c.setLane n x).fltBuf = c.fltBuf := rfl
@[simp] theorem Core.setLane_fltSeq (n : Nat) (x : LaneU) : (c.setLane n x).fltSeq = c.fltSeq := rfl
@[simp] theorem Core.setLane_esc (n : Nat) (x : LaneU) : (c.setLane n x).esc = c.esc := rfl
@[simp] theorem Core.setLane_engaged (n : Nat) (x : LaneU) : (c.setLane n x).engaged = c.engaged := rfl
@[simp] theorem Core.setLane_ackWait (n : Nat) (x : LaneU) : (c.setLane n x).ackWait = c.ackWait := rfl
@[simp] theorem Core.setLane_hitUnits (n : Nat) (x : LaneU) : (c.setLane n x).hitUnits = c.hitUnits := rfl
@[simp] theorem Core.setLane_hits (n : Nat) (x : LaneU) : (c.setLane n x).hits = c.hits := rfl
@[simp] theorem Core.setLane_exHeld (n : Nat) (x : LaneU) : (c.setLane n x).exHeld = c.exHeld := rfl
@[simp] theorem Core.setLane_quiet (n : Nat) (x : LaneU) : (c.setLane n x).quiet = c.quiet := rfl
@[simp] theorem Core.setLane_resetIssued (n : Nat) (x : LaneU) : (c.setLane n x).resetIssued = c.resetIssued := rfl
@[simp] theorem Core.setLane_pte (n : Nat) (x : LaneU) : (c.setLane n x).pte = c.pte := rfl
@[simp] theorem Core.setLane_queues (n : Nat) (x : LaneU) : (c.setLane n x).queues = c.queues := rfl
@[simp] theorem Core.setLane_memU (n : Nat) (x : LaneU) : (c.setLane n x).memU = c.memU := rfl
@[simp] theorem Core.setLane_memLost (n : Nat) (x : LaneU) : (c.setLane n x).memLost = c.memLost := rfl
@[simp] theorem Core.setLane_mtl (n : Nat) (x : LaneU) : (c.setLane n x).mtl = c.mtl := rfl
@[simp] theorem Core.setLane_host (n : Nat) (x : LaneU) : (c.setLane n x).host = c.host := rfl
@[simp] theorem Core.setLane_inds (n : Nat) (x : LaneU) : (c.setLane n x).inds = c.inds := rfl
@[simp] theorem Core.setLane_alive (n : Nat) (x : LaneU) : (c.setLane n x).alive = c.alive := rfl
@[simp] theorem Core.setLane_footed (n : Nat) (x : LaneU) : (c.setLane n x).footed = c.footed := rfl
@[simp] theorem Core.setLane_vholdTold (n : Nat) (x : LaneU) : (c.setLane n x).vholdTold = c.vholdTold := rfl
@[simp] theorem Core.setLane_courseHeld (n : Nat) (x : LaneU) : (c.setLane n x).courseHeld = c.courseHeld := rfl
@[simp] theorem Core.setLane_courseWaited (n : Nat) (x : LaneU) : (c.setLane n x).courseWaited = c.courseWaited := rfl
@[simp] theorem Core.setLane_rsTried (n : Nat) (x : LaneU) : (c.setLane n x).rsTried = c.rsTried := rfl
@[simp] theorem Core.setLane_rstReq (n : Nat) (x : LaneU) : (c.setLane n x).rstReq = c.rstReq := rfl
@[simp] theorem Core.setLane_rd (n : Nat) (x : LaneU) (f : Fld) (j l : Nat) : (c.setLane n x).rd f j l = c.rd f j l := rfl
@[simp] theorem Core.setLane_rdB (n : Nat) (x : LaneU) (f : Fld) (j l : Nat) : (c.setLane n x).rdB f j l = c.rdB f j l := rfl
@[simp] theorem Core.setLane_rdS (n : Nat) (x : LaneU) (f : Fld) (j l : Nat) : (c.setLane n x).rdS f j l = c.rdS f j l := rfl
@[simp] theorem Core.setLane_rdTv (n : Nat) (x : LaneU) (f : Fld) (j l : Nat) : (c.setLane n x).rdTv f j l = c.rdTv f j l := rfl

@[simp] theorem Core.setQueue_rots (q : Nat) (x : QueueU) : (c.setQueue q x).rots = c.rots := rfl
@[simp] theorem Core.setQueue_tach (q : Nat) (x : QueueU) : (c.setQueue q x).tach = c.tach := rfl
@[simp] theorem Core.setQueue_chans (q : Nat) (x : QueueU) : (c.setQueue q x).chans = c.chans := rfl
@[simp] theorem Core.setQueue_glcs (q : Nat) (x : QueueU) : (c.setQueue q x).glcs = c.glcs := rfl
@[simp] theorem Core.setQueue_tSum (q : Nat) (x : QueueU) : (c.setQueue q x).tSum = c.tSum := rfl
@[simp] theorem Core.setQueue_secInDay (q : Nat) (x : QueueU) : (c.setQueue q x).secInDay = c.secInDay := rfl
@[simp] theorem Core.setQueue_ageBase (q : Nat) (x : QueueU) : (c.setQueue q x).ageBase = c.ageBase := rfl
@[simp] theorem Core.setQueue_glcReady (q : Nat) (x : QueueU) : (c.setQueue q x).glcReady = c.glcReady := rfl
@[simp] theorem Core.setQueue_syns (q : Nat) (x : QueueU) : (c.setQueue q x).syns = c.syns := rfl
@[simp] theorem Core.setQueue_firnU (q : Nat) (x : QueueU) : (c.setQueue q x).firnU = c.firnU := rfl
@[simp] theorem Core.setQueue_firnOut (q : Nat) (x : QueueU) : (c.setQueue q x).firnOut = c.firnOut := rfl
@[simp] theorem Core.setQueue_inReset (q : Nat) (x : QueueU) : (c.setQueue q x).inReset = c.inReset := rfl
@[simp] theorem Core.setQueue_frost (q : Nat) (x : QueueU) : (c.setQueue q x).frost = c.frost := rfl
@[simp] theorem Core.setQueue_pal (q : Nat) (x : QueueU) : (c.setQueue q x).pal = c.pal := rfl
@[simp] theorem Core.setQueue_inRst (q : Nat) (x : QueueU) : (c.setQueue q x).inRst = c.inRst := rfl
@[simp] theorem Core.setQueue_tim (q : Nat) (x : QueueU) : (c.setQueue q x).tim = c.tim := rfl
@[simp] theorem Core.setQueue_memMap (q : Nat) (x : QueueU) : (c.setQueue q x).memMap = c.memMap := rfl
@[simp] theorem Core.setQueue_memOut (q : Nat) (x : QueueU) : (c.setQueue q x).memOut = c.memOut := rfl
@[simp] theorem Core.setQueue_lanes (q : Nat) (x : QueueU) : (c.setQueue q x).lanes = c.lanes := rfl
@[simp] theorem Core.setQueue_part (q : Nat) (x : QueueU) : (c.setQueue q x).part = c.part := rfl
@[simp] theorem Core.setQueue_regs (q : Nat) (x : QueueU) : (c.setQueue q x).regs = c.regs := rfl
@[simp] theorem Core.setQueue_tvB (q : Nat) (x : QueueU) : (c.setQueue q x).tvB = c.tvB := rfl
@[simp] theorem Core.setQueue_tvC (q : Nat) (x : QueueU) : (c.setQueue q x).tvC = c.tvC := rfl
@[simp] theorem Core.setQueue_shadow (q : Nat) (x : QueueU) : (c.setQueue q x).shadow = c.shadow := rfl
@[simp] theorem Core.setQueue_staging (q : Nat) (x : QueueU) : (c.setQueue q x).staging = c.staging := rfl
@[simp] theorem Core.setQueue_dt (q : Nat) (x : QueueU) : (c.setQueue q x).dt = c.dt := rfl
@[simp] theorem Core.setQueue_dtk (q : Nat) (x : QueueU) : (c.setQueue q x).dtk = c.dtk := rfl
@[simp] theorem Core.setQueue_linkBad (q : Nat) (x : QueueU) : (c.setQueue q x).linkBad = c.linkBad := rfl
@[simp] theorem Core.setQueue_rstOpen (q : Nat) (x : QueueU) : (c.setQueue q x).rstOpen = c.rstOpen := rfl
@[simp] theorem Core.setQueue_supply (q : Nat) (x : QueueU) : (c.setQueue q x).supply = c.supply := rfl
@[simp] theorem Core.setQueue_setPend (q : Nat) (x : QueueU) : (c.setQueue q x).setPend = c.setPend := rfl
@[simp] theorem Core.setQueue_setSkip (q : Nat) (x : QueueU) : (c.setQueue q x).setSkip = c.setSkip := rfl
@[simp] theorem Core.setQueue_yMaster (q : Nat) (x : QueueU) : (c.setQueue q x).yMaster = c.yMaster := rfl
@[simp] theorem Core.setQueue_secDone (q : Nat) (x : QueueU) : (c.setQueue q x).secDone = c.secDone := rfl
@[simp] theorem Core.setQueue_loKhz (q : Nat) (x : QueueU) : (c.setQueue q x).loKhz = c.loKhz := rfl
@[simp] theorem Core.setQueue_dShift (q : Nat) (x : QueueU) : (c.setQueue q x).dShift = c.dShift := rfl
@[simp] theorem Core.setQueue_stepped (q : Nat) (x : QueueU) : (c.setQueue q x).stepped = c.stepped := rfl
@[simp] theorem Core.setQueue_tap (q : Nat) (x : QueueU) : (c.setQueue q x).tap = c.tap := rfl
@[simp] theorem Core.setQueue_dSlices (q : Nat) (x : QueueU) : (c.setQueue q x).dSlices = c.dSlices := rfl
@[simp] theorem Core.setQueue_dGroup (q : Nat) (x : QueueU) : (c.setQueue q x).dGroup = c.dGroup := rfl
@[simp] theorem Core.setQueue_dtLocked (q : Nat) (x : QueueU) : (c.setQueue q x).dtLocked = c.dtLocked := rfl
@[simp] theorem Core.setQueue_free (q : Nat) (x : QueueU) : (c.setQueue q x).free = c.free := rfl
@[simp] theorem Core.setQueue_links (q : Nat) (x : QueueU) : (c.setQueue q x).links = c.links := rfl
@[simp] theorem Core.setQueue_outbox (q : Nat) (x : QueueU) : (c.setQueue q x).outbox = c.outbox := rfl
@[simp] theorem Core.setQueue_held (q : Nat) (x : QueueU) : (c.setQueue q x).held = c.held := rfl
@[simp] theorem Core.setQueue_streams (q : Nat) (x : QueueU) : (c.setQueue q x).streams = c.streams := rfl
@[simp] theorem Core.setQueue_estRun (q : Nat) (x : QueueU) : (c.setQueue q x).estRun = c.estRun := rfl
@[simp] theorem Core.setQueue_cands (q : Nat) (x : QueueU) : (c.setQueue q x).cands = c.cands := rfl
@[simp] theorem Core.setQueue_pairs (q : Nat) (x : QueueU) : (c.setQueue q x).pairs = c.pairs := rfl
@[simp] theorem Core.setQueue_building (q : Nat) (x : QueueU) : (c.setQueue q x).building = c.building := rfl
@[simp] theorem Core.setQueue_fltBuf (q : Nat) (x : QueueU) : (c.setQueue q x).fltBuf = c.fltBuf := rfl
@[simp] theorem Core.setQueue_fltSeq (q : Nat) (x : QueueU) : (c.setQueue q x).fltSeq = c.fltSeq := rfl
@[simp] theorem Core.setQueue_esc (q : Nat) (x : QueueU) : (c.setQueue q x).esc = c.esc := rfl
@[simp] theorem Core.setQueue_engaged (q : Nat) (x : QueueU) : (c.setQueue q x).engaged = c.engaged := rfl
@[simp] theorem Core.setQueue_ackWait (q : Nat) (x : QueueU) : (c.setQueue q x).ackWait = c.ackWait := rfl
@[simp] theorem Core.setQueue_hitUnits (q : Nat) (x : QueueU) : (c.setQueue q x).hitUnits = c.hitUnits := rfl
@[simp] theorem Core.setQueue_hits (q : Nat) (x : QueueU) : (c.setQueue q x).hits = c.hits := rfl
@[simp] theorem Core.setQueue_exHeld (q : Nat) (x : QueueU) : (c.setQueue q x).exHeld = c.exHeld := rfl
@[simp] theorem Core.setQueue_quiet (q : Nat) (x : QueueU) : (c.setQueue q x).quiet = c.quiet := rfl
@[simp] theorem Core.setQueue_resetIssued (q : Nat) (x : QueueU) : (c.setQueue q x).resetIssued = c.resetIssued := rfl
@[simp] theorem Core.setQueue_pte (q : Nat) (x : QueueU) : (c.setQueue q x).pte = c.pte := rfl
@[simp] theorem Core.setQueue_memU (q : Nat) (x : QueueU) : (c.setQueue q x).memU = c.memU := rfl
@[simp] theorem Core.setQueue_memLost (q : Nat) (x : QueueU) : (c.setQueue q x).memLost = c.memLost := rfl
@[simp] theorem Core.setQueue_mtl (q : Nat) (x : QueueU) : (c.setQueue q x).mtl = c.mtl := rfl
@[simp] theorem Core.setQueue_host (q : Nat) (x : QueueU) : (c.setQueue q x).host = c.host := rfl
@[simp] theorem Core.setQueue_inds (q : Nat) (x : QueueU) : (c.setQueue q x).inds = c.inds := rfl
@[simp] theorem Core.setQueue_alive (q : Nat) (x : QueueU) : (c.setQueue q x).alive = c.alive := rfl
@[simp] theorem Core.setQueue_footed (q : Nat) (x : QueueU) : (c.setQueue q x).footed = c.footed := rfl
@[simp] theorem Core.setQueue_vholdTold (q : Nat) (x : QueueU) : (c.setQueue q x).vholdTold = c.vholdTold := rfl
@[simp] theorem Core.setQueue_courseHeld (q : Nat) (x : QueueU) : (c.setQueue q x).courseHeld = c.courseHeld := rfl
@[simp] theorem Core.setQueue_courseWaited (q : Nat) (x : QueueU) : (c.setQueue q x).courseWaited = c.courseWaited := rfl
@[simp] theorem Core.setQueue_rsTried (q : Nat) (x : QueueU) : (c.setQueue q x).rsTried = c.rsTried := rfl
@[simp] theorem Core.setQueue_rstReq (q : Nat) (x : QueueU) : (c.setQueue q x).rstReq = c.rstReq := rfl
@[simp] theorem Core.setQueue_rd (q : Nat) (x : QueueU) (f : Fld) (j l : Nat) : (c.setQueue q x).rd f j l = c.rd f j l := rfl
@[simp] theorem Core.setQueue_rdB (q : Nat) (x : QueueU) (f : Fld) (j l : Nat) : (c.setQueue q x).rdB f j l = c.rdB f j l := rfl
@[simp] theorem Core.setQueue_rdS (q : Nat) (x : QueueU) (f : Fld) (j l : Nat) : (c.setQueue q x).rdS f j l = c.rdS f j l := rfl
@[simp] theorem Core.setQueue_rdTv (q : Nat) (x : QueueU) (f : Fld) (j l : Nat) : (c.setQueue q x).rdTv f j l = c.rdTv f j l := rfl

@[simp] theorem Core.setLink_rots (k : Nat) (x : Link) : (c.setLink k x).rots = c.rots := rfl
@[simp] theorem Core.setLink_tach (k : Nat) (x : Link) : (c.setLink k x).tach = c.tach := rfl
@[simp] theorem Core.setLink_chans (k : Nat) (x : Link) : (c.setLink k x).chans = c.chans := rfl
@[simp] theorem Core.setLink_glcs (k : Nat) (x : Link) : (c.setLink k x).glcs = c.glcs := rfl
@[simp] theorem Core.setLink_tSum (k : Nat) (x : Link) : (c.setLink k x).tSum = c.tSum := rfl
@[simp] theorem Core.setLink_secInDay (k : Nat) (x : Link) : (c.setLink k x).secInDay = c.secInDay := rfl
@[simp] theorem Core.setLink_ageBase (k : Nat) (x : Link) : (c.setLink k x).ageBase = c.ageBase := rfl
@[simp] theorem Core.setLink_glcReady (k : Nat) (x : Link) : (c.setLink k x).glcReady = c.glcReady := rfl
@[simp] theorem Core.setLink_syns (k : Nat) (x : Link) : (c.setLink k x).syns = c.syns := rfl
@[simp] theorem Core.setLink_firnU (k : Nat) (x : Link) : (c.setLink k x).firnU = c.firnU := rfl
@[simp] theorem Core.setLink_firnOut (k : Nat) (x : Link) : (c.setLink k x).firnOut = c.firnOut := rfl
@[simp] theorem Core.setLink_inReset (k : Nat) (x : Link) : (c.setLink k x).inReset = c.inReset := rfl
@[simp] theorem Core.setLink_frost (k : Nat) (x : Link) : (c.setLink k x).frost = c.frost := rfl
@[simp] theorem Core.setLink_pal (k : Nat) (x : Link) : (c.setLink k x).pal = c.pal := rfl
@[simp] theorem Core.setLink_inRst (k : Nat) (x : Link) : (c.setLink k x).inRst = c.inRst := rfl
@[simp] theorem Core.setLink_tim (k : Nat) (x : Link) : (c.setLink k x).tim = c.tim := rfl
@[simp] theorem Core.setLink_memMap (k : Nat) (x : Link) : (c.setLink k x).memMap = c.memMap := rfl
@[simp] theorem Core.setLink_memOut (k : Nat) (x : Link) : (c.setLink k x).memOut = c.memOut := rfl
@[simp] theorem Core.setLink_lanes (k : Nat) (x : Link) : (c.setLink k x).lanes = c.lanes := rfl
@[simp] theorem Core.setLink_part (k : Nat) (x : Link) : (c.setLink k x).part = c.part := rfl
@[simp] theorem Core.setLink_regs (k : Nat) (x : Link) : (c.setLink k x).regs = c.regs := rfl
@[simp] theorem Core.setLink_tvB (k : Nat) (x : Link) : (c.setLink k x).tvB = c.tvB := rfl
@[simp] theorem Core.setLink_tvC (k : Nat) (x : Link) : (c.setLink k x).tvC = c.tvC := rfl
@[simp] theorem Core.setLink_shadow (k : Nat) (x : Link) : (c.setLink k x).shadow = c.shadow := rfl
@[simp] theorem Core.setLink_staging (k : Nat) (x : Link) : (c.setLink k x).staging = c.staging := rfl
@[simp] theorem Core.setLink_dt (k : Nat) (x : Link) : (c.setLink k x).dt = c.dt := rfl
@[simp] theorem Core.setLink_dtk (k : Nat) (x : Link) : (c.setLink k x).dtk = c.dtk := rfl
@[simp] theorem Core.setLink_linkBad (k : Nat) (x : Link) : (c.setLink k x).linkBad = c.linkBad := rfl
@[simp] theorem Core.setLink_rstOpen (k : Nat) (x : Link) : (c.setLink k x).rstOpen = c.rstOpen := rfl
@[simp] theorem Core.setLink_supply (k : Nat) (x : Link) : (c.setLink k x).supply = c.supply := rfl
@[simp] theorem Core.setLink_setPend (k : Nat) (x : Link) : (c.setLink k x).setPend = c.setPend := rfl
@[simp] theorem Core.setLink_setSkip (k : Nat) (x : Link) : (c.setLink k x).setSkip = c.setSkip := rfl
@[simp] theorem Core.setLink_yMaster (k : Nat) (x : Link) : (c.setLink k x).yMaster = c.yMaster := rfl
@[simp] theorem Core.setLink_secDone (k : Nat) (x : Link) : (c.setLink k x).secDone = c.secDone := rfl
@[simp] theorem Core.setLink_loKhz (k : Nat) (x : Link) : (c.setLink k x).loKhz = c.loKhz := rfl
@[simp] theorem Core.setLink_dShift (k : Nat) (x : Link) : (c.setLink k x).dShift = c.dShift := rfl
@[simp] theorem Core.setLink_stepped (k : Nat) (x : Link) : (c.setLink k x).stepped = c.stepped := rfl
@[simp] theorem Core.setLink_tap (k : Nat) (x : Link) : (c.setLink k x).tap = c.tap := rfl
@[simp] theorem Core.setLink_dSlices (k : Nat) (x : Link) : (c.setLink k x).dSlices = c.dSlices := rfl
@[simp] theorem Core.setLink_dGroup (k : Nat) (x : Link) : (c.setLink k x).dGroup = c.dGroup := rfl
@[simp] theorem Core.setLink_dtLocked (k : Nat) (x : Link) : (c.setLink k x).dtLocked = c.dtLocked := rfl
@[simp] theorem Core.setLink_free (k : Nat) (x : Link) : (c.setLink k x).free = c.free := rfl
@[simp] theorem Core.setLink_outbox (k : Nat) (x : Link) : (c.setLink k x).outbox = c.outbox := rfl
@[simp] theorem Core.setLink_held (k : Nat) (x : Link) : (c.setLink k x).held = c.held := rfl
@[simp] theorem Core.setLink_streams (k : Nat) (x : Link) : (c.setLink k x).streams = c.streams := rfl
@[simp] theorem Core.setLink_estRun (k : Nat) (x : Link) : (c.setLink k x).estRun = c.estRun := rfl
@[simp] theorem Core.setLink_cands (k : Nat) (x : Link) : (c.setLink k x).cands = c.cands := rfl
@[simp] theorem Core.setLink_pairs (k : Nat) (x : Link) : (c.setLink k x).pairs = c.pairs := rfl
@[simp] theorem Core.setLink_building (k : Nat) (x : Link) : (c.setLink k x).building = c.building := rfl
@[simp] theorem Core.setLink_fltBuf (k : Nat) (x : Link) : (c.setLink k x).fltBuf = c.fltBuf := rfl
@[simp] theorem Core.setLink_fltSeq (k : Nat) (x : Link) : (c.setLink k x).fltSeq = c.fltSeq := rfl
@[simp] theorem Core.setLink_esc (k : Nat) (x : Link) : (c.setLink k x).esc = c.esc := rfl
@[simp] theorem Core.setLink_engaged (k : Nat) (x : Link) : (c.setLink k x).engaged = c.engaged := rfl
@[simp] theorem Core.setLink_ackWait (k : Nat) (x : Link) : (c.setLink k x).ackWait = c.ackWait := rfl
@[simp] theorem Core.setLink_hitUnits (k : Nat) (x : Link) : (c.setLink k x).hitUnits = c.hitUnits := rfl
@[simp] theorem Core.setLink_hits (k : Nat) (x : Link) : (c.setLink k x).hits = c.hits := rfl
@[simp] theorem Core.setLink_exHeld (k : Nat) (x : Link) : (c.setLink k x).exHeld = c.exHeld := rfl
@[simp] theorem Core.setLink_quiet (k : Nat) (x : Link) : (c.setLink k x).quiet = c.quiet := rfl
@[simp] theorem Core.setLink_resetIssued (k : Nat) (x : Link) : (c.setLink k x).resetIssued = c.resetIssued := rfl
@[simp] theorem Core.setLink_pte (k : Nat) (x : Link) : (c.setLink k x).pte = c.pte := rfl
@[simp] theorem Core.setLink_queues (k : Nat) (x : Link) : (c.setLink k x).queues = c.queues := rfl
@[simp] theorem Core.setLink_memU (k : Nat) (x : Link) : (c.setLink k x).memU = c.memU := rfl
@[simp] theorem Core.setLink_memLost (k : Nat) (x : Link) : (c.setLink k x).memLost = c.memLost := rfl
@[simp] theorem Core.setLink_mtl (k : Nat) (x : Link) : (c.setLink k x).mtl = c.mtl := rfl
@[simp] theorem Core.setLink_host (k : Nat) (x : Link) : (c.setLink k x).host = c.host := rfl
@[simp] theorem Core.setLink_inds (k : Nat) (x : Link) : (c.setLink k x).inds = c.inds := rfl
@[simp] theorem Core.setLink_alive (k : Nat) (x : Link) : (c.setLink k x).alive = c.alive := rfl
@[simp] theorem Core.setLink_footed (k : Nat) (x : Link) : (c.setLink k x).footed = c.footed := rfl
@[simp] theorem Core.setLink_vholdTold (k : Nat) (x : Link) : (c.setLink k x).vholdTold = c.vholdTold := rfl
@[simp] theorem Core.setLink_courseHeld (k : Nat) (x : Link) : (c.setLink k x).courseHeld = c.courseHeld := rfl
@[simp] theorem Core.setLink_courseWaited (k : Nat) (x : Link) : (c.setLink k x).courseWaited = c.courseWaited := rfl
@[simp] theorem Core.setLink_rsTried (k : Nat) (x : Link) : (c.setLink k x).rsTried = c.rsTried := rfl
@[simp] theorem Core.setLink_rstReq (k : Nat) (x : Link) : (c.setLink k x).rstReq = c.rstReq := rfl
@[simp] theorem Core.setLink_rd (k : Nat) (x : Link) (f : Fld) (j l : Nat) : (c.setLink k x).rd f j l = c.rd f j l := rfl
@[simp] theorem Core.setLink_rdB (k : Nat) (x : Link) (f : Fld) (j l : Nat) : (c.setLink k x).rdB f j l = c.rdB f j l := rfl
@[simp] theorem Core.setLink_rdS (k : Nat) (x : Link) (f : Fld) (j l : Nat) : (c.setLink k x).rdS f j l = c.rdS f j l := rfl
@[simp] theorem Core.setLink_rdTv (k : Nat) (x : Link) (f : Fld) (j l : Nat) : (c.setLink k x).rdTv f j l = c.rdTv f j l := rfl

@[simp] theorem Core.setMemU_rots (u : MemU) : (c.setMemU u).rots = c.rots := rfl
@[simp] theorem Core.setMemU_tach (u : MemU) : (c.setMemU u).tach = c.tach := rfl
@[simp] theorem Core.setMemU_chans (u : MemU) : (c.setMemU u).chans = c.chans := rfl
@[simp] theorem Core.setMemU_glcs (u : MemU) : (c.setMemU u).glcs = c.glcs := rfl
@[simp] theorem Core.setMemU_tSum (u : MemU) : (c.setMemU u).tSum = c.tSum := rfl
@[simp] theorem Core.setMemU_secInDay (u : MemU) : (c.setMemU u).secInDay = c.secInDay := rfl
@[simp] theorem Core.setMemU_ageBase (u : MemU) : (c.setMemU u).ageBase = c.ageBase := rfl
@[simp] theorem Core.setMemU_glcReady (u : MemU) : (c.setMemU u).glcReady = c.glcReady := rfl
@[simp] theorem Core.setMemU_syns (u : MemU) : (c.setMemU u).syns = c.syns := rfl
@[simp] theorem Core.setMemU_firnU (u : MemU) : (c.setMemU u).firnU = c.firnU := rfl
@[simp] theorem Core.setMemU_firnOut (u : MemU) : (c.setMemU u).firnOut = c.firnOut := rfl
@[simp] theorem Core.setMemU_inReset (u : MemU) : (c.setMemU u).inReset = c.inReset := rfl
@[simp] theorem Core.setMemU_frost (u : MemU) : (c.setMemU u).frost = c.frost := rfl
@[simp] theorem Core.setMemU_pal (u : MemU) : (c.setMemU u).pal = c.pal := rfl
@[simp] theorem Core.setMemU_inRst (u : MemU) : (c.setMemU u).inRst = c.inRst := rfl
@[simp] theorem Core.setMemU_tim (u : MemU) : (c.setMemU u).tim = c.tim := rfl
@[simp] theorem Core.setMemU_memMap (u : MemU) : (c.setMemU u).memMap = c.memMap := rfl
@[simp] theorem Core.setMemU_memOut (u : MemU) : (c.setMemU u).memOut = c.memOut := rfl
@[simp] theorem Core.setMemU_lanes (u : MemU) : (c.setMemU u).lanes = c.lanes := rfl
@[simp] theorem Core.setMemU_part (u : MemU) : (c.setMemU u).part = c.part := rfl
@[simp] theorem Core.setMemU_regs (u : MemU) : (c.setMemU u).regs = c.regs := rfl
@[simp] theorem Core.setMemU_tvB (u : MemU) : (c.setMemU u).tvB = c.tvB := rfl
@[simp] theorem Core.setMemU_tvC (u : MemU) : (c.setMemU u).tvC = c.tvC := rfl
@[simp] theorem Core.setMemU_shadow (u : MemU) : (c.setMemU u).shadow = c.shadow := rfl
@[simp] theorem Core.setMemU_staging (u : MemU) : (c.setMemU u).staging = c.staging := rfl
@[simp] theorem Core.setMemU_dt (u : MemU) : (c.setMemU u).dt = c.dt := rfl
@[simp] theorem Core.setMemU_dtk (u : MemU) : (c.setMemU u).dtk = c.dtk := rfl
@[simp] theorem Core.setMemU_linkBad (u : MemU) : (c.setMemU u).linkBad = c.linkBad := rfl
@[simp] theorem Core.setMemU_rstOpen (u : MemU) : (c.setMemU u).rstOpen = c.rstOpen := rfl
@[simp] theorem Core.setMemU_supply (u : MemU) : (c.setMemU u).supply = c.supply := rfl
@[simp] theorem Core.setMemU_setPend (u : MemU) : (c.setMemU u).setPend = c.setPend := rfl
@[simp] theorem Core.setMemU_setSkip (u : MemU) : (c.setMemU u).setSkip = c.setSkip := rfl
@[simp] theorem Core.setMemU_yMaster (u : MemU) : (c.setMemU u).yMaster = c.yMaster := rfl
@[simp] theorem Core.setMemU_secDone (u : MemU) : (c.setMemU u).secDone = c.secDone := rfl
@[simp] theorem Core.setMemU_loKhz (u : MemU) : (c.setMemU u).loKhz = c.loKhz := rfl
@[simp] theorem Core.setMemU_dShift (u : MemU) : (c.setMemU u).dShift = c.dShift := rfl
@[simp] theorem Core.setMemU_stepped (u : MemU) : (c.setMemU u).stepped = c.stepped := rfl
@[simp] theorem Core.setMemU_tap (u : MemU) : (c.setMemU u).tap = c.tap := rfl
@[simp] theorem Core.setMemU_dSlices (u : MemU) : (c.setMemU u).dSlices = c.dSlices := rfl
@[simp] theorem Core.setMemU_dGroup (u : MemU) : (c.setMemU u).dGroup = c.dGroup := rfl
@[simp] theorem Core.setMemU_dtLocked (u : MemU) : (c.setMemU u).dtLocked = c.dtLocked := rfl
@[simp] theorem Core.setMemU_free (u : MemU) : (c.setMemU u).free = c.free := rfl
@[simp] theorem Core.setMemU_links (u : MemU) : (c.setMemU u).links = c.links := rfl
@[simp] theorem Core.setMemU_outbox (u : MemU) : (c.setMemU u).outbox = c.outbox := rfl
@[simp] theorem Core.setMemU_held (u : MemU) : (c.setMemU u).held = c.held := rfl
@[simp] theorem Core.setMemU_streams (u : MemU) : (c.setMemU u).streams = c.streams := rfl
@[simp] theorem Core.setMemU_estRun (u : MemU) : (c.setMemU u).estRun = c.estRun := rfl
@[simp] theorem Core.setMemU_cands (u : MemU) : (c.setMemU u).cands = c.cands := rfl
@[simp] theorem Core.setMemU_pairs (u : MemU) : (c.setMemU u).pairs = c.pairs := rfl
@[simp] theorem Core.setMemU_building (u : MemU) : (c.setMemU u).building = c.building := rfl
@[simp] theorem Core.setMemU_fltBuf (u : MemU) : (c.setMemU u).fltBuf = c.fltBuf := rfl
@[simp] theorem Core.setMemU_fltSeq (u : MemU) : (c.setMemU u).fltSeq = c.fltSeq := rfl
@[simp] theorem Core.setMemU_esc (u : MemU) : (c.setMemU u).esc = c.esc := rfl
@[simp] theorem Core.setMemU_engaged (u : MemU) : (c.setMemU u).engaged = c.engaged := rfl
@[simp] theorem Core.setMemU_ackWait (u : MemU) : (c.setMemU u).ackWait = c.ackWait := rfl
@[simp] theorem Core.setMemU_hitUnits (u : MemU) : (c.setMemU u).hitUnits = c.hitUnits := rfl
@[simp] theorem Core.setMemU_hits (u : MemU) : (c.setMemU u).hits = c.hits := rfl
@[simp] theorem Core.setMemU_exHeld (u : MemU) : (c.setMemU u).exHeld = c.exHeld := rfl
@[simp] theorem Core.setMemU_quiet (u : MemU) : (c.setMemU u).quiet = c.quiet := rfl
@[simp] theorem Core.setMemU_resetIssued (u : MemU) : (c.setMemU u).resetIssued = c.resetIssued := rfl
@[simp] theorem Core.setMemU_pte (u : MemU) : (c.setMemU u).pte = c.pte := rfl
@[simp] theorem Core.setMemU_queues (u : MemU) : (c.setMemU u).queues = c.queues := rfl
@[simp] theorem Core.setMemU_memLost (u : MemU) : (c.setMemU u).memLost = c.memLost := rfl
@[simp] theorem Core.setMemU_mtl (u : MemU) : (c.setMemU u).mtl = c.mtl := rfl
@[simp] theorem Core.setMemU_host (u : MemU) : (c.setMemU u).host = c.host := rfl
@[simp] theorem Core.setMemU_inds (u : MemU) : (c.setMemU u).inds = c.inds := rfl
@[simp] theorem Core.setMemU_alive (u : MemU) : (c.setMemU u).alive = c.alive := rfl
@[simp] theorem Core.setMemU_footed (u : MemU) : (c.setMemU u).footed = c.footed := rfl
@[simp] theorem Core.setMemU_vholdTold (u : MemU) : (c.setMemU u).vholdTold = c.vholdTold := rfl
@[simp] theorem Core.setMemU_courseHeld (u : MemU) : (c.setMemU u).courseHeld = c.courseHeld := rfl
@[simp] theorem Core.setMemU_courseWaited (u : MemU) : (c.setMemU u).courseWaited = c.courseWaited := rfl
@[simp] theorem Core.setMemU_rsTried (u : MemU) : (c.setMemU u).rsTried = c.rsTried := rfl
@[simp] theorem Core.setMemU_rstReq (u : MemU) : (c.setMemU u).rstReq = c.rstReq := rfl
@[simp] theorem Core.setMemU_rd (u : MemU) (f : Fld) (j l : Nat) : (c.setMemU u).rd f j l = c.rd f j l := rfl
@[simp] theorem Core.setMemU_rdB (u : MemU) (f : Fld) (j l : Nat) : (c.setMemU u).rdB f j l = c.rdB f j l := rfl
@[simp] theorem Core.setMemU_rdS (u : MemU) (f : Fld) (j l : Nat) : (c.setMemU u).rdS f j l = c.rdS f j l := rfl
@[simp] theorem Core.setMemU_rdTv (u : MemU) (f : Fld) (j l : Nat) : (c.setMemU u).rdTv f j l = c.rdTv f j l := rfl

@[simp] theorem Core.setMtl_rots (u : MtlU) : (c.setMtl u).rots = c.rots := rfl
@[simp] theorem Core.setMtl_tach (u : MtlU) : (c.setMtl u).tach = c.tach := rfl
@[simp] theorem Core.setMtl_chans (u : MtlU) : (c.setMtl u).chans = c.chans := rfl
@[simp] theorem Core.setMtl_glcs (u : MtlU) : (c.setMtl u).glcs = c.glcs := rfl
@[simp] theorem Core.setMtl_tSum (u : MtlU) : (c.setMtl u).tSum = c.tSum := rfl
@[simp] theorem Core.setMtl_secInDay (u : MtlU) : (c.setMtl u).secInDay = c.secInDay := rfl
@[simp] theorem Core.setMtl_ageBase (u : MtlU) : (c.setMtl u).ageBase = c.ageBase := rfl
@[simp] theorem Core.setMtl_glcReady (u : MtlU) : (c.setMtl u).glcReady = c.glcReady := rfl
@[simp] theorem Core.setMtl_syns (u : MtlU) : (c.setMtl u).syns = c.syns := rfl
@[simp] theorem Core.setMtl_firnU (u : MtlU) : (c.setMtl u).firnU = c.firnU := rfl
@[simp] theorem Core.setMtl_firnOut (u : MtlU) : (c.setMtl u).firnOut = c.firnOut := rfl
@[simp] theorem Core.setMtl_inReset (u : MtlU) : (c.setMtl u).inReset = c.inReset := rfl
@[simp] theorem Core.setMtl_frost (u : MtlU) : (c.setMtl u).frost = c.frost := rfl
@[simp] theorem Core.setMtl_pal (u : MtlU) : (c.setMtl u).pal = c.pal := rfl
@[simp] theorem Core.setMtl_inRst (u : MtlU) : (c.setMtl u).inRst = c.inRst := rfl
@[simp] theorem Core.setMtl_tim (u : MtlU) : (c.setMtl u).tim = c.tim := rfl
@[simp] theorem Core.setMtl_memMap (u : MtlU) : (c.setMtl u).memMap = c.memMap := rfl
@[simp] theorem Core.setMtl_memOut (u : MtlU) : (c.setMtl u).memOut = c.memOut := rfl
@[simp] theorem Core.setMtl_lanes (u : MtlU) : (c.setMtl u).lanes = c.lanes := rfl
@[simp] theorem Core.setMtl_part (u : MtlU) : (c.setMtl u).part = c.part := rfl
@[simp] theorem Core.setMtl_regs (u : MtlU) : (c.setMtl u).regs = c.regs := rfl
@[simp] theorem Core.setMtl_tvB (u : MtlU) : (c.setMtl u).tvB = c.tvB := rfl
@[simp] theorem Core.setMtl_tvC (u : MtlU) : (c.setMtl u).tvC = c.tvC := rfl
@[simp] theorem Core.setMtl_shadow (u : MtlU) : (c.setMtl u).shadow = c.shadow := rfl
@[simp] theorem Core.setMtl_staging (u : MtlU) : (c.setMtl u).staging = c.staging := rfl
@[simp] theorem Core.setMtl_dt (u : MtlU) : (c.setMtl u).dt = c.dt := rfl
@[simp] theorem Core.setMtl_dtk (u : MtlU) : (c.setMtl u).dtk = c.dtk := rfl
@[simp] theorem Core.setMtl_linkBad (u : MtlU) : (c.setMtl u).linkBad = c.linkBad := rfl
@[simp] theorem Core.setMtl_rstOpen (u : MtlU) : (c.setMtl u).rstOpen = c.rstOpen := rfl
@[simp] theorem Core.setMtl_supply (u : MtlU) : (c.setMtl u).supply = c.supply := rfl
@[simp] theorem Core.setMtl_setPend (u : MtlU) : (c.setMtl u).setPend = c.setPend := rfl
@[simp] theorem Core.setMtl_setSkip (u : MtlU) : (c.setMtl u).setSkip = c.setSkip := rfl
@[simp] theorem Core.setMtl_yMaster (u : MtlU) : (c.setMtl u).yMaster = c.yMaster := rfl
@[simp] theorem Core.setMtl_secDone (u : MtlU) : (c.setMtl u).secDone = c.secDone := rfl
@[simp] theorem Core.setMtl_loKhz (u : MtlU) : (c.setMtl u).loKhz = c.loKhz := rfl
@[simp] theorem Core.setMtl_dShift (u : MtlU) : (c.setMtl u).dShift = c.dShift := rfl
@[simp] theorem Core.setMtl_stepped (u : MtlU) : (c.setMtl u).stepped = c.stepped := rfl
@[simp] theorem Core.setMtl_tap (u : MtlU) : (c.setMtl u).tap = c.tap := rfl
@[simp] theorem Core.setMtl_dSlices (u : MtlU) : (c.setMtl u).dSlices = c.dSlices := rfl
@[simp] theorem Core.setMtl_dGroup (u : MtlU) : (c.setMtl u).dGroup = c.dGroup := rfl
@[simp] theorem Core.setMtl_dtLocked (u : MtlU) : (c.setMtl u).dtLocked = c.dtLocked := rfl
@[simp] theorem Core.setMtl_free (u : MtlU) : (c.setMtl u).free = c.free := rfl
@[simp] theorem Core.setMtl_links (u : MtlU) : (c.setMtl u).links = c.links := rfl
@[simp] theorem Core.setMtl_outbox (u : MtlU) : (c.setMtl u).outbox = c.outbox := rfl
@[simp] theorem Core.setMtl_held (u : MtlU) : (c.setMtl u).held = c.held := rfl
@[simp] theorem Core.setMtl_streams (u : MtlU) : (c.setMtl u).streams = c.streams := rfl
@[simp] theorem Core.setMtl_estRun (u : MtlU) : (c.setMtl u).estRun = c.estRun := rfl
@[simp] theorem Core.setMtl_cands (u : MtlU) : (c.setMtl u).cands = c.cands := rfl
@[simp] theorem Core.setMtl_pairs (u : MtlU) : (c.setMtl u).pairs = c.pairs := rfl
@[simp] theorem Core.setMtl_building (u : MtlU) : (c.setMtl u).building = c.building := rfl
@[simp] theorem Core.setMtl_fltBuf (u : MtlU) : (c.setMtl u).fltBuf = c.fltBuf := rfl
@[simp] theorem Core.setMtl_fltSeq (u : MtlU) : (c.setMtl u).fltSeq = c.fltSeq := rfl
@[simp] theorem Core.setMtl_esc (u : MtlU) : (c.setMtl u).esc = c.esc := rfl
@[simp] theorem Core.setMtl_engaged (u : MtlU) : (c.setMtl u).engaged = c.engaged := rfl
@[simp] theorem Core.setMtl_ackWait (u : MtlU) : (c.setMtl u).ackWait = c.ackWait := rfl
@[simp] theorem Core.setMtl_hitUnits (u : MtlU) : (c.setMtl u).hitUnits = c.hitUnits := rfl
@[simp] theorem Core.setMtl_hits (u : MtlU) : (c.setMtl u).hits = c.hits := rfl
@[simp] theorem Core.setMtl_exHeld (u : MtlU) : (c.setMtl u).exHeld = c.exHeld := rfl
@[simp] theorem Core.setMtl_quiet (u : MtlU) : (c.setMtl u).quiet = c.quiet := rfl
@[simp] theorem Core.setMtl_resetIssued (u : MtlU) : (c.setMtl u).resetIssued = c.resetIssued := rfl
@[simp] theorem Core.setMtl_pte (u : MtlU) : (c.setMtl u).pte = c.pte := rfl
@[simp] theorem Core.setMtl_queues (u : MtlU) : (c.setMtl u).queues = c.queues := rfl
@[simp] theorem Core.setMtl_memU (u : MtlU) : (c.setMtl u).memU = c.memU := rfl
@[simp] theorem Core.setMtl_memLost (u : MtlU) : (c.setMtl u).memLost = c.memLost := rfl
@[simp] theorem Core.setMtl_host (u : MtlU) : (c.setMtl u).host = c.host := rfl
@[simp] theorem Core.setMtl_inds (u : MtlU) : (c.setMtl u).inds = c.inds := rfl
@[simp] theorem Core.setMtl_alive (u : MtlU) : (c.setMtl u).alive = c.alive := rfl
@[simp] theorem Core.setMtl_footed (u : MtlU) : (c.setMtl u).footed = c.footed := rfl
@[simp] theorem Core.setMtl_vholdTold (u : MtlU) : (c.setMtl u).vholdTold = c.vholdTold := rfl
@[simp] theorem Core.setMtl_courseHeld (u : MtlU) : (c.setMtl u).courseHeld = c.courseHeld := rfl
@[simp] theorem Core.setMtl_courseWaited (u : MtlU) : (c.setMtl u).courseWaited = c.courseWaited := rfl
@[simp] theorem Core.setMtl_rsTried (u : MtlU) : (c.setMtl u).rsTried = c.rsTried := rfl
@[simp] theorem Core.setMtl_rstReq (u : MtlU) : (c.setMtl u).rstReq = c.rstReq := rfl
@[simp] theorem Core.setMtl_rd (u : MtlU) (f : Fld) (j l : Nat) : (c.setMtl u).rd f j l = c.rd f j l := rfl
@[simp] theorem Core.setMtl_rdB (u : MtlU) (f : Fld) (j l : Nat) : (c.setMtl u).rdB f j l = c.rdB f j l := rfl
@[simp] theorem Core.setMtl_rdS (u : MtlU) (f : Fld) (j l : Nat) : (c.setMtl u).rdS f j l = c.rdS f j l := rfl
@[simp] theorem Core.setMtl_rdTv (u : MtlU) (f : Fld) (j l : Nat) : (c.setMtl u).rdTv f j l = c.rdTv f j l := rfl

@[simp] theorem Core.setPort_rots (p : Nat) (x : Port) : (c.setPort p x).rots = c.rots := rfl
@[simp] theorem Core.setPort_tach (p : Nat) (x : Port) : (c.setPort p x).tach = c.tach := rfl
@[simp] theorem Core.setPort_chans (p : Nat) (x : Port) : (c.setPort p x).chans = c.chans := rfl
@[simp] theorem Core.setPort_glcs (p : Nat) (x : Port) : (c.setPort p x).glcs = c.glcs := rfl
@[simp] theorem Core.setPort_tSum (p : Nat) (x : Port) : (c.setPort p x).tSum = c.tSum := rfl
@[simp] theorem Core.setPort_secInDay (p : Nat) (x : Port) : (c.setPort p x).secInDay = c.secInDay := rfl
@[simp] theorem Core.setPort_ageBase (p : Nat) (x : Port) : (c.setPort p x).ageBase = c.ageBase := rfl
@[simp] theorem Core.setPort_glcReady (p : Nat) (x : Port) : (c.setPort p x).glcReady = c.glcReady := rfl
@[simp] theorem Core.setPort_syns (p : Nat) (x : Port) : (c.setPort p x).syns = c.syns := rfl
@[simp] theorem Core.setPort_firnU (p : Nat) (x : Port) : (c.setPort p x).firnU = c.firnU := rfl
@[simp] theorem Core.setPort_firnOut (p : Nat) (x : Port) : (c.setPort p x).firnOut = c.firnOut := rfl
@[simp] theorem Core.setPort_inReset (p : Nat) (x : Port) : (c.setPort p x).inReset = c.inReset := rfl
@[simp] theorem Core.setPort_frost (p : Nat) (x : Port) : (c.setPort p x).frost = c.frost := rfl
@[simp] theorem Core.setPort_pal (p : Nat) (x : Port) : (c.setPort p x).pal = c.pal := rfl
@[simp] theorem Core.setPort_inRst (p : Nat) (x : Port) : (c.setPort p x).inRst = c.inRst := rfl
@[simp] theorem Core.setPort_tim (p : Nat) (x : Port) : (c.setPort p x).tim = c.tim := rfl
@[simp] theorem Core.setPort_memMap (p : Nat) (x : Port) : (c.setPort p x).memMap = c.memMap := rfl
@[simp] theorem Core.setPort_memOut (p : Nat) (x : Port) : (c.setPort p x).memOut = c.memOut := rfl
@[simp] theorem Core.setPort_lanes (p : Nat) (x : Port) : (c.setPort p x).lanes = c.lanes := rfl
@[simp] theorem Core.setPort_part (p : Nat) (x : Port) : (c.setPort p x).part = c.part := rfl
@[simp] theorem Core.setPort_regs (p : Nat) (x : Port) : (c.setPort p x).regs = c.regs := rfl
@[simp] theorem Core.setPort_tvB (p : Nat) (x : Port) : (c.setPort p x).tvB = c.tvB := rfl
@[simp] theorem Core.setPort_tvC (p : Nat) (x : Port) : (c.setPort p x).tvC = c.tvC := rfl
@[simp] theorem Core.setPort_shadow (p : Nat) (x : Port) : (c.setPort p x).shadow = c.shadow := rfl
@[simp] theorem Core.setPort_staging (p : Nat) (x : Port) : (c.setPort p x).staging = c.staging := rfl
@[simp] theorem Core.setPort_dt (p : Nat) (x : Port) : (c.setPort p x).dt = c.dt := rfl
@[simp] theorem Core.setPort_dtk (p : Nat) (x : Port) : (c.setPort p x).dtk = c.dtk := rfl
@[simp] theorem Core.setPort_linkBad (p : Nat) (x : Port) : (c.setPort p x).linkBad = c.linkBad := rfl
@[simp] theorem Core.setPort_rstOpen (p : Nat) (x : Port) : (c.setPort p x).rstOpen = c.rstOpen := rfl
@[simp] theorem Core.setPort_supply (p : Nat) (x : Port) : (c.setPort p x).supply = c.supply := rfl
@[simp] theorem Core.setPort_setPend (p : Nat) (x : Port) : (c.setPort p x).setPend = c.setPend := rfl
@[simp] theorem Core.setPort_setSkip (p : Nat) (x : Port) : (c.setPort p x).setSkip = c.setSkip := rfl
@[simp] theorem Core.setPort_yMaster (p : Nat) (x : Port) : (c.setPort p x).yMaster = c.yMaster := rfl
@[simp] theorem Core.setPort_secDone (p : Nat) (x : Port) : (c.setPort p x).secDone = c.secDone := rfl
@[simp] theorem Core.setPort_loKhz (p : Nat) (x : Port) : (c.setPort p x).loKhz = c.loKhz := rfl
@[simp] theorem Core.setPort_dShift (p : Nat) (x : Port) : (c.setPort p x).dShift = c.dShift := rfl
@[simp] theorem Core.setPort_stepped (p : Nat) (x : Port) : (c.setPort p x).stepped = c.stepped := rfl
@[simp] theorem Core.setPort_tap (p : Nat) (x : Port) : (c.setPort p x).tap = c.tap := rfl
@[simp] theorem Core.setPort_dSlices (p : Nat) (x : Port) : (c.setPort p x).dSlices = c.dSlices := rfl
@[simp] theorem Core.setPort_dGroup (p : Nat) (x : Port) : (c.setPort p x).dGroup = c.dGroup := rfl
@[simp] theorem Core.setPort_dtLocked (p : Nat) (x : Port) : (c.setPort p x).dtLocked = c.dtLocked := rfl
@[simp] theorem Core.setPort_free (p : Nat) (x : Port) : (c.setPort p x).free = c.free := rfl
@[simp] theorem Core.setPort_links (p : Nat) (x : Port) : (c.setPort p x).links = c.links := rfl
@[simp] theorem Core.setPort_outbox (p : Nat) (x : Port) : (c.setPort p x).outbox = c.outbox := rfl
@[simp] theorem Core.setPort_held (p : Nat) (x : Port) : (c.setPort p x).held = c.held := rfl
@[simp] theorem Core.setPort_streams (p : Nat) (x : Port) : (c.setPort p x).streams = c.streams := rfl
@[simp] theorem Core.setPort_estRun (p : Nat) (x : Port) : (c.setPort p x).estRun = c.estRun := rfl
@[simp] theorem Core.setPort_cands (p : Nat) (x : Port) : (c.setPort p x).cands = c.cands := rfl
@[simp] theorem Core.setPort_pairs (p : Nat) (x : Port) : (c.setPort p x).pairs = c.pairs := rfl
@[simp] theorem Core.setPort_building (p : Nat) (x : Port) : (c.setPort p x).building = c.building := rfl
@[simp] theorem Core.setPort_fltBuf (p : Nat) (x : Port) : (c.setPort p x).fltBuf = c.fltBuf := rfl
@[simp] theorem Core.setPort_fltSeq (p : Nat) (x : Port) : (c.setPort p x).fltSeq = c.fltSeq := rfl
@[simp] theorem Core.setPort_esc (p : Nat) (x : Port) : (c.setPort p x).esc = c.esc := rfl
@[simp] theorem Core.setPort_engaged (p : Nat) (x : Port) : (c.setPort p x).engaged = c.engaged := rfl
@[simp] theorem Core.setPort_ackWait (p : Nat) (x : Port) : (c.setPort p x).ackWait = c.ackWait := rfl
@[simp] theorem Core.setPort_hitUnits (p : Nat) (x : Port) : (c.setPort p x).hitUnits = c.hitUnits := rfl
@[simp] theorem Core.setPort_hits (p : Nat) (x : Port) : (c.setPort p x).hits = c.hits := rfl
@[simp] theorem Core.setPort_exHeld (p : Nat) (x : Port) : (c.setPort p x).exHeld = c.exHeld := rfl
@[simp] theorem Core.setPort_quiet (p : Nat) (x : Port) : (c.setPort p x).quiet = c.quiet := rfl
@[simp] theorem Core.setPort_resetIssued (p : Nat) (x : Port) : (c.setPort p x).resetIssued = c.resetIssued := rfl
@[simp] theorem Core.setPort_pte (p : Nat) (x : Port) : (c.setPort p x).pte = c.pte := rfl
@[simp] theorem Core.setPort_queues (p : Nat) (x : Port) : (c.setPort p x).queues = c.queues := rfl
@[simp] theorem Core.setPort_memU (p : Nat) (x : Port) : (c.setPort p x).memU = c.memU := rfl
@[simp] theorem Core.setPort_memLost (p : Nat) (x : Port) : (c.setPort p x).memLost = c.memLost := rfl
@[simp] theorem Core.setPort_mtl (p : Nat) (x : Port) : (c.setPort p x).mtl = c.mtl := rfl
@[simp] theorem Core.setPort_inds (p : Nat) (x : Port) : (c.setPort p x).inds = c.inds := rfl
@[simp] theorem Core.setPort_alive (p : Nat) (x : Port) : (c.setPort p x).alive = c.alive := rfl
@[simp] theorem Core.setPort_footed (p : Nat) (x : Port) : (c.setPort p x).footed = c.footed := rfl
@[simp] theorem Core.setPort_vholdTold (p : Nat) (x : Port) : (c.setPort p x).vholdTold = c.vholdTold := rfl
@[simp] theorem Core.setPort_courseHeld (p : Nat) (x : Port) : (c.setPort p x).courseHeld = c.courseHeld := rfl
@[simp] theorem Core.setPort_courseWaited (p : Nat) (x : Port) : (c.setPort p x).courseWaited = c.courseWaited := rfl
@[simp] theorem Core.setPort_rsTried (p : Nat) (x : Port) : (c.setPort p x).rsTried = c.rsTried := rfl
@[simp] theorem Core.setPort_rstReq (p : Nat) (x : Port) : (c.setPort p x).rstReq = c.rstReq := rfl
@[simp] theorem Core.setPort_rd (p : Nat) (x : Port) (f : Fld) (j l : Nat) : (c.setPort p x).rd f j l = c.rd f j l := rfl
@[simp] theorem Core.setPort_rdB (p : Nat) (x : Port) (f : Fld) (j l : Nat) : (c.setPort p x).rdB f j l = c.rdB f j l := rfl
@[simp] theorem Core.setPort_rdS (p : Nat) (x : Port) (f : Fld) (j l : Nat) : (c.setPort p x).rdS f j l = c.rdS f j l := rfl
@[simp] theorem Core.setPort_rdTv (p : Nat) (x : Port) (f : Fld) (j l : Nat) : (c.setPort p x).rdTv f j l = c.rdTv f j l := rfl

@[simp] theorem Core.setPport_rots (p : Nat) (x : PortU) : (c.setPport p x).rots = c.rots := rfl
@[simp] theorem Core.setPport_tach (p : Nat) (x : PortU) : (c.setPport p x).tach = c.tach := rfl
@[simp] theorem Core.setPport_chans (p : Nat) (x : PortU) : (c.setPport p x).chans = c.chans := rfl
@[simp] theorem Core.setPport_glcs (p : Nat) (x : PortU) : (c.setPport p x).glcs = c.glcs := rfl
@[simp] theorem Core.setPport_tSum (p : Nat) (x : PortU) : (c.setPport p x).tSum = c.tSum := rfl
@[simp] theorem Core.setPport_secInDay (p : Nat) (x : PortU) : (c.setPport p x).secInDay = c.secInDay := rfl
@[simp] theorem Core.setPport_ageBase (p : Nat) (x : PortU) : (c.setPport p x).ageBase = c.ageBase := rfl
@[simp] theorem Core.setPport_glcReady (p : Nat) (x : PortU) : (c.setPport p x).glcReady = c.glcReady := rfl
@[simp] theorem Core.setPport_syns (p : Nat) (x : PortU) : (c.setPport p x).syns = c.syns := rfl
@[simp] theorem Core.setPport_firnU (p : Nat) (x : PortU) : (c.setPport p x).firnU = c.firnU := rfl
@[simp] theorem Core.setPport_firnOut (p : Nat) (x : PortU) : (c.setPport p x).firnOut = c.firnOut := rfl
@[simp] theorem Core.setPport_inReset (p : Nat) (x : PortU) : (c.setPport p x).inReset = c.inReset := rfl
@[simp] theorem Core.setPport_frost (p : Nat) (x : PortU) : (c.setPport p x).frost = c.frost := rfl
@[simp] theorem Core.setPport_pal (p : Nat) (x : PortU) : (c.setPport p x).pal = c.pal := rfl
@[simp] theorem Core.setPport_inRst (p : Nat) (x : PortU) : (c.setPport p x).inRst = c.inRst := rfl
@[simp] theorem Core.setPport_tim (p : Nat) (x : PortU) : (c.setPport p x).tim = c.tim := rfl
@[simp] theorem Core.setPport_memMap (p : Nat) (x : PortU) : (c.setPport p x).memMap = c.memMap := rfl
@[simp] theorem Core.setPport_memOut (p : Nat) (x : PortU) : (c.setPport p x).memOut = c.memOut := rfl
@[simp] theorem Core.setPport_lanes (p : Nat) (x : PortU) : (c.setPport p x).lanes = c.lanes := rfl
@[simp] theorem Core.setPport_part (p : Nat) (x : PortU) : (c.setPport p x).part = c.part := rfl
@[simp] theorem Core.setPport_regs (p : Nat) (x : PortU) : (c.setPport p x).regs = c.regs := rfl
@[simp] theorem Core.setPport_tvB (p : Nat) (x : PortU) : (c.setPport p x).tvB = c.tvB := rfl
@[simp] theorem Core.setPport_tvC (p : Nat) (x : PortU) : (c.setPport p x).tvC = c.tvC := rfl
@[simp] theorem Core.setPport_shadow (p : Nat) (x : PortU) : (c.setPport p x).shadow = c.shadow := rfl
@[simp] theorem Core.setPport_staging (p : Nat) (x : PortU) : (c.setPport p x).staging = c.staging := rfl
@[simp] theorem Core.setPport_dt (p : Nat) (x : PortU) : (c.setPport p x).dt = c.dt := rfl
@[simp] theorem Core.setPport_dtk (p : Nat) (x : PortU) : (c.setPport p x).dtk = c.dtk := rfl
@[simp] theorem Core.setPport_linkBad (p : Nat) (x : PortU) : (c.setPport p x).linkBad = c.linkBad := rfl
@[simp] theorem Core.setPport_rstOpen (p : Nat) (x : PortU) : (c.setPport p x).rstOpen = c.rstOpen := rfl
@[simp] theorem Core.setPport_supply (p : Nat) (x : PortU) : (c.setPport p x).supply = c.supply := rfl
@[simp] theorem Core.setPport_setPend (p : Nat) (x : PortU) : (c.setPport p x).setPend = c.setPend := rfl
@[simp] theorem Core.setPport_setSkip (p : Nat) (x : PortU) : (c.setPport p x).setSkip = c.setSkip := rfl
@[simp] theorem Core.setPport_yMaster (p : Nat) (x : PortU) : (c.setPport p x).yMaster = c.yMaster := rfl
@[simp] theorem Core.setPport_secDone (p : Nat) (x : PortU) : (c.setPport p x).secDone = c.secDone := rfl
@[simp] theorem Core.setPport_loKhz (p : Nat) (x : PortU) : (c.setPport p x).loKhz = c.loKhz := rfl
@[simp] theorem Core.setPport_dShift (p : Nat) (x : PortU) : (c.setPport p x).dShift = c.dShift := rfl
@[simp] theorem Core.setPport_stepped (p : Nat) (x : PortU) : (c.setPport p x).stepped = c.stepped := rfl
@[simp] theorem Core.setPport_tap (p : Nat) (x : PortU) : (c.setPport p x).tap = c.tap := rfl
@[simp] theorem Core.setPport_dSlices (p : Nat) (x : PortU) : (c.setPport p x).dSlices = c.dSlices := rfl
@[simp] theorem Core.setPport_dGroup (p : Nat) (x : PortU) : (c.setPport p x).dGroup = c.dGroup := rfl
@[simp] theorem Core.setPport_dtLocked (p : Nat) (x : PortU) : (c.setPport p x).dtLocked = c.dtLocked := rfl
@[simp] theorem Core.setPport_free (p : Nat) (x : PortU) : (c.setPport p x).free = c.free := rfl
@[simp] theorem Core.setPport_links (p : Nat) (x : PortU) : (c.setPport p x).links = c.links := rfl
@[simp] theorem Core.setPport_outbox (p : Nat) (x : PortU) : (c.setPport p x).outbox = c.outbox := rfl
@[simp] theorem Core.setPport_held (p : Nat) (x : PortU) : (c.setPport p x).held = c.held := rfl
@[simp] theorem Core.setPport_streams (p : Nat) (x : PortU) : (c.setPport p x).streams = c.streams := rfl
@[simp] theorem Core.setPport_estRun (p : Nat) (x : PortU) : (c.setPport p x).estRun = c.estRun := rfl
@[simp] theorem Core.setPport_cands (p : Nat) (x : PortU) : (c.setPport p x).cands = c.cands := rfl
@[simp] theorem Core.setPport_pairs (p : Nat) (x : PortU) : (c.setPport p x).pairs = c.pairs := rfl
@[simp] theorem Core.setPport_building (p : Nat) (x : PortU) : (c.setPport p x).building = c.building := rfl
@[simp] theorem Core.setPport_fltBuf (p : Nat) (x : PortU) : (c.setPport p x).fltBuf = c.fltBuf := rfl
@[simp] theorem Core.setPport_fltSeq (p : Nat) (x : PortU) : (c.setPport p x).fltSeq = c.fltSeq := rfl
@[simp] theorem Core.setPport_esc (p : Nat) (x : PortU) : (c.setPport p x).esc = c.esc := rfl
@[simp] theorem Core.setPport_engaged (p : Nat) (x : PortU) : (c.setPport p x).engaged = c.engaged := rfl
@[simp] theorem Core.setPport_ackWait (p : Nat) (x : PortU) : (c.setPport p x).ackWait = c.ackWait := rfl
@[simp] theorem Core.setPport_hitUnits (p : Nat) (x : PortU) : (c.setPport p x).hitUnits = c.hitUnits := rfl
@[simp] theorem Core.setPport_hits (p : Nat) (x : PortU) : (c.setPport p x).hits = c.hits := rfl
@[simp] theorem Core.setPport_exHeld (p : Nat) (x : PortU) : (c.setPport p x).exHeld = c.exHeld := rfl
@[simp] theorem Core.setPport_quiet (p : Nat) (x : PortU) : (c.setPport p x).quiet = c.quiet := rfl
@[simp] theorem Core.setPport_resetIssued (p : Nat) (x : PortU) : (c.setPport p x).resetIssued = c.resetIssued := rfl
@[simp] theorem Core.setPport_queues (p : Nat) (x : PortU) : (c.setPport p x).queues = c.queues := rfl
@[simp] theorem Core.setPport_memU (p : Nat) (x : PortU) : (c.setPport p x).memU = c.memU := rfl
@[simp] theorem Core.setPport_memLost (p : Nat) (x : PortU) : (c.setPport p x).memLost = c.memLost := rfl
@[simp] theorem Core.setPport_mtl (p : Nat) (x : PortU) : (c.setPport p x).mtl = c.mtl := rfl
@[simp] theorem Core.setPport_host (p : Nat) (x : PortU) : (c.setPport p x).host = c.host := rfl
@[simp] theorem Core.setPport_inds (p : Nat) (x : PortU) : (c.setPport p x).inds = c.inds := rfl
@[simp] theorem Core.setPport_alive (p : Nat) (x : PortU) : (c.setPport p x).alive = c.alive := rfl
@[simp] theorem Core.setPport_footed (p : Nat) (x : PortU) : (c.setPport p x).footed = c.footed := rfl
@[simp] theorem Core.setPport_vholdTold (p : Nat) (x : PortU) : (c.setPport p x).vholdTold = c.vholdTold := rfl
@[simp] theorem Core.setPport_courseHeld (p : Nat) (x : PortU) : (c.setPport p x).courseHeld = c.courseHeld := rfl
@[simp] theorem Core.setPport_courseWaited (p : Nat) (x : PortU) : (c.setPport p x).courseWaited = c.courseWaited := rfl
@[simp] theorem Core.setPport_rsTried (p : Nat) (x : PortU) : (c.setPport p x).rsTried = c.rsTried := rfl
@[simp] theorem Core.setPport_rstReq (p : Nat) (x : PortU) : (c.setPport p x).rstReq = c.rstReq := rfl
@[simp] theorem Core.setPport_rd (p : Nat) (x : PortU) (f : Fld) (j l : Nat) : (c.setPport p x).rd f j l = c.rd f j l := rfl
@[simp] theorem Core.setPport_rdB (p : Nat) (x : PortU) (f : Fld) (j l : Nat) : (c.setPport p x).rdB f j l = c.rdB f j l := rfl
@[simp] theorem Core.setPport_rdS (p : Nat) (x : PortU) (f : Fld) (j l : Nat) : (c.setPport p x).rdS f j l = c.rdS f j l := rfl
@[simp] theorem Core.setPport_rdTv (p : Nat) (x : PortU) (f : Fld) (j l : Nat) : (c.setPport p x).rdTv f j l = c.rdTv f j l := rfl

@[simp] theorem Core.setSv_rots (v : Nat) (x : SvU) : (c.setSv v x).rots = c.rots := rfl
@[simp] theorem Core.setSv_tach (v : Nat) (x : SvU) : (c.setSv v x).tach = c.tach := rfl
@[simp] theorem Core.setSv_chans (v : Nat) (x : SvU) : (c.setSv v x).chans = c.chans := rfl
@[simp] theorem Core.setSv_glcs (v : Nat) (x : SvU) : (c.setSv v x).glcs = c.glcs := rfl
@[simp] theorem Core.setSv_tSum (v : Nat) (x : SvU) : (c.setSv v x).tSum = c.tSum := rfl
@[simp] theorem Core.setSv_secInDay (v : Nat) (x : SvU) : (c.setSv v x).secInDay = c.secInDay := rfl
@[simp] theorem Core.setSv_ageBase (v : Nat) (x : SvU) : (c.setSv v x).ageBase = c.ageBase := rfl
@[simp] theorem Core.setSv_glcReady (v : Nat) (x : SvU) : (c.setSv v x).glcReady = c.glcReady := rfl
@[simp] theorem Core.setSv_syns (v : Nat) (x : SvU) : (c.setSv v x).syns = c.syns := rfl
@[simp] theorem Core.setSv_firnU (v : Nat) (x : SvU) : (c.setSv v x).firnU = c.firnU := rfl
@[simp] theorem Core.setSv_firnOut (v : Nat) (x : SvU) : (c.setSv v x).firnOut = c.firnOut := rfl
@[simp] theorem Core.setSv_inReset (v : Nat) (x : SvU) : (c.setSv v x).inReset = c.inReset := rfl
@[simp] theorem Core.setSv_frost (v : Nat) (x : SvU) : (c.setSv v x).frost = c.frost := rfl
@[simp] theorem Core.setSv_pal (v : Nat) (x : SvU) : (c.setSv v x).pal = c.pal := rfl
@[simp] theorem Core.setSv_inRst (v : Nat) (x : SvU) : (c.setSv v x).inRst = c.inRst := rfl
@[simp] theorem Core.setSv_tim (v : Nat) (x : SvU) : (c.setSv v x).tim = c.tim := rfl
@[simp] theorem Core.setSv_memMap (v : Nat) (x : SvU) : (c.setSv v x).memMap = c.memMap := rfl
@[simp] theorem Core.setSv_memOut (v : Nat) (x : SvU) : (c.setSv v x).memOut = c.memOut := rfl
@[simp] theorem Core.setSv_lanes (v : Nat) (x : SvU) : (c.setSv v x).lanes = c.lanes := rfl
@[simp] theorem Core.setSv_part (v : Nat) (x : SvU) : (c.setSv v x).part = c.part := rfl
@[simp] theorem Core.setSv_regs (v : Nat) (x : SvU) : (c.setSv v x).regs = c.regs := rfl
@[simp] theorem Core.setSv_tvB (v : Nat) (x : SvU) : (c.setSv v x).tvB = c.tvB := rfl
@[simp] theorem Core.setSv_tvC (v : Nat) (x : SvU) : (c.setSv v x).tvC = c.tvC := rfl
@[simp] theorem Core.setSv_shadow (v : Nat) (x : SvU) : (c.setSv v x).shadow = c.shadow := rfl
@[simp] theorem Core.setSv_staging (v : Nat) (x : SvU) : (c.setSv v x).staging = c.staging := rfl
@[simp] theorem Core.setSv_dt (v : Nat) (x : SvU) : (c.setSv v x).dt = c.dt := rfl
@[simp] theorem Core.setSv_dtk (v : Nat) (x : SvU) : (c.setSv v x).dtk = c.dtk := rfl
@[simp] theorem Core.setSv_linkBad (v : Nat) (x : SvU) : (c.setSv v x).linkBad = c.linkBad := rfl
@[simp] theorem Core.setSv_rstOpen (v : Nat) (x : SvU) : (c.setSv v x).rstOpen = c.rstOpen := rfl
@[simp] theorem Core.setSv_supply (v : Nat) (x : SvU) : (c.setSv v x).supply = c.supply := rfl
@[simp] theorem Core.setSv_setPend (v : Nat) (x : SvU) : (c.setSv v x).setPend = c.setPend := rfl
@[simp] theorem Core.setSv_setSkip (v : Nat) (x : SvU) : (c.setSv v x).setSkip = c.setSkip := rfl
@[simp] theorem Core.setSv_yMaster (v : Nat) (x : SvU) : (c.setSv v x).yMaster = c.yMaster := rfl
@[simp] theorem Core.setSv_secDone (v : Nat) (x : SvU) : (c.setSv v x).secDone = c.secDone := rfl
@[simp] theorem Core.setSv_loKhz (v : Nat) (x : SvU) : (c.setSv v x).loKhz = c.loKhz := rfl
@[simp] theorem Core.setSv_dShift (v : Nat) (x : SvU) : (c.setSv v x).dShift = c.dShift := rfl
@[simp] theorem Core.setSv_stepped (v : Nat) (x : SvU) : (c.setSv v x).stepped = c.stepped := rfl
@[simp] theorem Core.setSv_tap (v : Nat) (x : SvU) : (c.setSv v x).tap = c.tap := rfl
@[simp] theorem Core.setSv_dSlices (v : Nat) (x : SvU) : (c.setSv v x).dSlices = c.dSlices := rfl
@[simp] theorem Core.setSv_dGroup (v : Nat) (x : SvU) : (c.setSv v x).dGroup = c.dGroup := rfl
@[simp] theorem Core.setSv_dtLocked (v : Nat) (x : SvU) : (c.setSv v x).dtLocked = c.dtLocked := rfl
@[simp] theorem Core.setSv_free (v : Nat) (x : SvU) : (c.setSv v x).free = c.free := rfl
@[simp] theorem Core.setSv_links (v : Nat) (x : SvU) : (c.setSv v x).links = c.links := rfl
@[simp] theorem Core.setSv_outbox (v : Nat) (x : SvU) : (c.setSv v x).outbox = c.outbox := rfl
@[simp] theorem Core.setSv_held (v : Nat) (x : SvU) : (c.setSv v x).held = c.held := rfl
@[simp] theorem Core.setSv_streams (v : Nat) (x : SvU) : (c.setSv v x).streams = c.streams := rfl
@[simp] theorem Core.setSv_estRun (v : Nat) (x : SvU) : (c.setSv v x).estRun = c.estRun := rfl
@[simp] theorem Core.setSv_cands (v : Nat) (x : SvU) : (c.setSv v x).cands = c.cands := rfl
@[simp] theorem Core.setSv_pairs (v : Nat) (x : SvU) : (c.setSv v x).pairs = c.pairs := rfl
@[simp] theorem Core.setSv_building (v : Nat) (x : SvU) : (c.setSv v x).building = c.building := rfl
@[simp] theorem Core.setSv_fltBuf (v : Nat) (x : SvU) : (c.setSv v x).fltBuf = c.fltBuf := rfl
@[simp] theorem Core.setSv_fltSeq (v : Nat) (x : SvU) : (c.setSv v x).fltSeq = c.fltSeq := rfl
@[simp] theorem Core.setSv_esc (v : Nat) (x : SvU) : (c.setSv v x).esc = c.esc := rfl
@[simp] theorem Core.setSv_engaged (v : Nat) (x : SvU) : (c.setSv v x).engaged = c.engaged := rfl
@[simp] theorem Core.setSv_ackWait (v : Nat) (x : SvU) : (c.setSv v x).ackWait = c.ackWait := rfl
@[simp] theorem Core.setSv_hitUnits (v : Nat) (x : SvU) : (c.setSv v x).hitUnits = c.hitUnits := rfl
@[simp] theorem Core.setSv_hits (v : Nat) (x : SvU) : (c.setSv v x).hits = c.hits := rfl
@[simp] theorem Core.setSv_exHeld (v : Nat) (x : SvU) : (c.setSv v x).exHeld = c.exHeld := rfl
@[simp] theorem Core.setSv_quiet (v : Nat) (x : SvU) : (c.setSv v x).quiet = c.quiet := rfl
@[simp] theorem Core.setSv_resetIssued (v : Nat) (x : SvU) : (c.setSv v x).resetIssued = c.resetIssued := rfl
@[simp] theorem Core.setSv_queues (v : Nat) (x : SvU) : (c.setSv v x).queues = c.queues := rfl
@[simp] theorem Core.setSv_memU (v : Nat) (x : SvU) : (c.setSv v x).memU = c.memU := rfl
@[simp] theorem Core.setSv_memLost (v : Nat) (x : SvU) : (c.setSv v x).memLost = c.memLost := rfl
@[simp] theorem Core.setSv_mtl (v : Nat) (x : SvU) : (c.setSv v x).mtl = c.mtl := rfl
@[simp] theorem Core.setSv_host (v : Nat) (x : SvU) : (c.setSv v x).host = c.host := rfl
@[simp] theorem Core.setSv_inds (v : Nat) (x : SvU) : (c.setSv v x).inds = c.inds := rfl
@[simp] theorem Core.setSv_alive (v : Nat) (x : SvU) : (c.setSv v x).alive = c.alive := rfl
@[simp] theorem Core.setSv_footed (v : Nat) (x : SvU) : (c.setSv v x).footed = c.footed := rfl
@[simp] theorem Core.setSv_vholdTold (v : Nat) (x : SvU) : (c.setSv v x).vholdTold = c.vholdTold := rfl
@[simp] theorem Core.setSv_courseHeld (v : Nat) (x : SvU) : (c.setSv v x).courseHeld = c.courseHeld := rfl
@[simp] theorem Core.setSv_courseWaited (v : Nat) (x : SvU) : (c.setSv v x).courseWaited = c.courseWaited := rfl
@[simp] theorem Core.setSv_rsTried (v : Nat) (x : SvU) : (c.setSv v x).rsTried = c.rsTried := rfl
@[simp] theorem Core.setSv_rstReq (v : Nat) (x : SvU) : (c.setSv v x).rstReq = c.rstReq := rfl
@[simp] theorem Core.setSv_rd (v : Nat) (x : SvU) (f : Fld) (j l : Nat) : (c.setSv v x).rd f j l = c.rd f j l := rfl
@[simp] theorem Core.setSv_rdB (v : Nat) (x : SvU) (f : Fld) (j l : Nat) : (c.setSv v x).rdB f j l = c.rdB f j l := rfl
@[simp] theorem Core.setSv_rdS (v : Nat) (x : SvU) (f : Fld) (j l : Nat) : (c.setSv v x).rdS f j l = c.rdS f j l := rfl
@[simp] theorem Core.setSv_rdTv (v : Nat) (x : SvU) (f : Fld) (j l : Nat) : (c.setSv v x).rdTv f j l = c.rdTv f j l := rfl

@[simp] theorem Core.setPage_rots (p : Nat) (x : Page) : (c.setPage p x).rots = c.rots := rfl
@[simp] theorem Core.setPage_tach (p : Nat) (x : Page) : (c.setPage p x).tach = c.tach := rfl
@[simp] theorem Core.setPage_chans (p : Nat) (x : Page) : (c.setPage p x).chans = c.chans := rfl
@[simp] theorem Core.setPage_glcs (p : Nat) (x : Page) : (c.setPage p x).glcs = c.glcs := rfl
@[simp] theorem Core.setPage_tSum (p : Nat) (x : Page) : (c.setPage p x).tSum = c.tSum := rfl
@[simp] theorem Core.setPage_secInDay (p : Nat) (x : Page) : (c.setPage p x).secInDay = c.secInDay := rfl
@[simp] theorem Core.setPage_ageBase (p : Nat) (x : Page) : (c.setPage p x).ageBase = c.ageBase := rfl
@[simp] theorem Core.setPage_glcReady (p : Nat) (x : Page) : (c.setPage p x).glcReady = c.glcReady := rfl
@[simp] theorem Core.setPage_syns (p : Nat) (x : Page) : (c.setPage p x).syns = c.syns := rfl
@[simp] theorem Core.setPage_firnOut (p : Nat) (x : Page) : (c.setPage p x).firnOut = c.firnOut := rfl
@[simp] theorem Core.setPage_inReset (p : Nat) (x : Page) : (c.setPage p x).inReset = c.inReset := rfl
@[simp] theorem Core.setPage_frost (p : Nat) (x : Page) : (c.setPage p x).frost = c.frost := rfl
@[simp] theorem Core.setPage_pal (p : Nat) (x : Page) : (c.setPage p x).pal = c.pal := rfl
@[simp] theorem Core.setPage_inRst (p : Nat) (x : Page) : (c.setPage p x).inRst = c.inRst := rfl
@[simp] theorem Core.setPage_tim (p : Nat) (x : Page) : (c.setPage p x).tim = c.tim := rfl
@[simp] theorem Core.setPage_memMap (p : Nat) (x : Page) : (c.setPage p x).memMap = c.memMap := rfl
@[simp] theorem Core.setPage_memOut (p : Nat) (x : Page) : (c.setPage p x).memOut = c.memOut := rfl
@[simp] theorem Core.setPage_lanes (p : Nat) (x : Page) : (c.setPage p x).lanes = c.lanes := rfl
@[simp] theorem Core.setPage_part (p : Nat) (x : Page) : (c.setPage p x).part = c.part := rfl
@[simp] theorem Core.setPage_regs (p : Nat) (x : Page) : (c.setPage p x).regs = c.regs := rfl
@[simp] theorem Core.setPage_tvB (p : Nat) (x : Page) : (c.setPage p x).tvB = c.tvB := rfl
@[simp] theorem Core.setPage_tvC (p : Nat) (x : Page) : (c.setPage p x).tvC = c.tvC := rfl
@[simp] theorem Core.setPage_shadow (p : Nat) (x : Page) : (c.setPage p x).shadow = c.shadow := rfl
@[simp] theorem Core.setPage_staging (p : Nat) (x : Page) : (c.setPage p x).staging = c.staging := rfl
@[simp] theorem Core.setPage_dt (p : Nat) (x : Page) : (c.setPage p x).dt = c.dt := rfl
@[simp] theorem Core.setPage_dtk (p : Nat) (x : Page) : (c.setPage p x).dtk = c.dtk := rfl
@[simp] theorem Core.setPage_linkBad (p : Nat) (x : Page) : (c.setPage p x).linkBad = c.linkBad := rfl
@[simp] theorem Core.setPage_rstOpen (p : Nat) (x : Page) : (c.setPage p x).rstOpen = c.rstOpen := rfl
@[simp] theorem Core.setPage_supply (p : Nat) (x : Page) : (c.setPage p x).supply = c.supply := rfl
@[simp] theorem Core.setPage_setPend (p : Nat) (x : Page) : (c.setPage p x).setPend = c.setPend := rfl
@[simp] theorem Core.setPage_setSkip (p : Nat) (x : Page) : (c.setPage p x).setSkip = c.setSkip := rfl
@[simp] theorem Core.setPage_yMaster (p : Nat) (x : Page) : (c.setPage p x).yMaster = c.yMaster := rfl
@[simp] theorem Core.setPage_secDone (p : Nat) (x : Page) : (c.setPage p x).secDone = c.secDone := rfl
@[simp] theorem Core.setPage_loKhz (p : Nat) (x : Page) : (c.setPage p x).loKhz = c.loKhz := rfl
@[simp] theorem Core.setPage_dShift (p : Nat) (x : Page) : (c.setPage p x).dShift = c.dShift := rfl
@[simp] theorem Core.setPage_stepped (p : Nat) (x : Page) : (c.setPage p x).stepped = c.stepped := rfl
@[simp] theorem Core.setPage_tap (p : Nat) (x : Page) : (c.setPage p x).tap = c.tap := rfl
@[simp] theorem Core.setPage_dSlices (p : Nat) (x : Page) : (c.setPage p x).dSlices = c.dSlices := rfl
@[simp] theorem Core.setPage_dGroup (p : Nat) (x : Page) : (c.setPage p x).dGroup = c.dGroup := rfl
@[simp] theorem Core.setPage_dtLocked (p : Nat) (x : Page) : (c.setPage p x).dtLocked = c.dtLocked := rfl
@[simp] theorem Core.setPage_free (p : Nat) (x : Page) : (c.setPage p x).free = c.free := rfl
@[simp] theorem Core.setPage_links (p : Nat) (x : Page) : (c.setPage p x).links = c.links := rfl
@[simp] theorem Core.setPage_outbox (p : Nat) (x : Page) : (c.setPage p x).outbox = c.outbox := rfl
@[simp] theorem Core.setPage_held (p : Nat) (x : Page) : (c.setPage p x).held = c.held := rfl
@[simp] theorem Core.setPage_streams (p : Nat) (x : Page) : (c.setPage p x).streams = c.streams := rfl
@[simp] theorem Core.setPage_estRun (p : Nat) (x : Page) : (c.setPage p x).estRun = c.estRun := rfl
@[simp] theorem Core.setPage_cands (p : Nat) (x : Page) : (c.setPage p x).cands = c.cands := rfl
@[simp] theorem Core.setPage_pairs (p : Nat) (x : Page) : (c.setPage p x).pairs = c.pairs := rfl
@[simp] theorem Core.setPage_building (p : Nat) (x : Page) : (c.setPage p x).building = c.building := rfl
@[simp] theorem Core.setPage_fltBuf (p : Nat) (x : Page) : (c.setPage p x).fltBuf = c.fltBuf := rfl
@[simp] theorem Core.setPage_fltSeq (p : Nat) (x : Page) : (c.setPage p x).fltSeq = c.fltSeq := rfl
@[simp] theorem Core.setPage_esc (p : Nat) (x : Page) : (c.setPage p x).esc = c.esc := rfl
@[simp] theorem Core.setPage_engaged (p : Nat) (x : Page) : (c.setPage p x).engaged = c.engaged := rfl
@[simp] theorem Core.setPage_ackWait (p : Nat) (x : Page) : (c.setPage p x).ackWait = c.ackWait := rfl
@[simp] theorem Core.setPage_hitUnits (p : Nat) (x : Page) : (c.setPage p x).hitUnits = c.hitUnits := rfl
@[simp] theorem Core.setPage_hits (p : Nat) (x : Page) : (c.setPage p x).hits = c.hits := rfl
@[simp] theorem Core.setPage_exHeld (p : Nat) (x : Page) : (c.setPage p x).exHeld = c.exHeld := rfl
@[simp] theorem Core.setPage_quiet (p : Nat) (x : Page) : (c.setPage p x).quiet = c.quiet := rfl
@[simp] theorem Core.setPage_resetIssued (p : Nat) (x : Page) : (c.setPage p x).resetIssued = c.resetIssued := rfl
@[simp] theorem Core.setPage_pte (p : Nat) (x : Page) : (c.setPage p x).pte = c.pte := rfl
@[simp] theorem Core.setPage_queues (p : Nat) (x : Page) : (c.setPage p x).queues = c.queues := rfl
@[simp] theorem Core.setPage_memU (p : Nat) (x : Page) : (c.setPage p x).memU = c.memU := rfl
@[simp] theorem Core.setPage_memLost (p : Nat) (x : Page) : (c.setPage p x).memLost = c.memLost := rfl
@[simp] theorem Core.setPage_mtl (p : Nat) (x : Page) : (c.setPage p x).mtl = c.mtl := rfl
@[simp] theorem Core.setPage_host (p : Nat) (x : Page) : (c.setPage p x).host = c.host := rfl
@[simp] theorem Core.setPage_inds (p : Nat) (x : Page) : (c.setPage p x).inds = c.inds := rfl
@[simp] theorem Core.setPage_alive (p : Nat) (x : Page) : (c.setPage p x).alive = c.alive := rfl
@[simp] theorem Core.setPage_footed (p : Nat) (x : Page) : (c.setPage p x).footed = c.footed := rfl
@[simp] theorem Core.setPage_vholdTold (p : Nat) (x : Page) : (c.setPage p x).vholdTold = c.vholdTold := rfl
@[simp] theorem Core.setPage_courseHeld (p : Nat) (x : Page) : (c.setPage p x).courseHeld = c.courseHeld := rfl
@[simp] theorem Core.setPage_courseWaited (p : Nat) (x : Page) : (c.setPage p x).courseWaited = c.courseWaited := rfl
@[simp] theorem Core.setPage_rsTried (p : Nat) (x : Page) : (c.setPage p x).rsTried = c.rsTried := rfl
@[simp] theorem Core.setPage_rstReq (p : Nat) (x : Page) : (c.setPage p x).rstReq = c.rstReq := rfl
@[simp] theorem Core.setPage_rd (p : Nat) (x : Page) (f : Fld) (j l : Nat) : (c.setPage p x).rd f j l = c.rd f j l := rfl
@[simp] theorem Core.setPage_rdB (p : Nat) (x : Page) (f : Fld) (j l : Nat) : (c.setPage p x).rdB f j l = c.rdB f j l := rfl
@[simp] theorem Core.setPage_rdS (p : Nat) (x : Page) (f : Fld) (j l : Nat) : (c.setPage p x).rdS f j l = c.rdS f j l := rfl
@[simp] theorem Core.setPage_rdTv (p : Nat) (x : Page) (f : Fld) (j l : Nat) : (c.setPage p x).rdTv f j l = c.rdTv f j l := rfl

@[simp] theorem Core.setTally_rots (k : Nat) (x : Tally) : (c.setTally k x).rots = c.rots := rfl
@[simp] theorem Core.setTally_tach (k : Nat) (x : Tally) : (c.setTally k x).tach = c.tach := rfl
@[simp] theorem Core.setTally_chans (k : Nat) (x : Tally) : (c.setTally k x).chans = c.chans := rfl
@[simp] theorem Core.setTally_glcs (k : Nat) (x : Tally) : (c.setTally k x).glcs = c.glcs := rfl
@[simp] theorem Core.setTally_tSum (k : Nat) (x : Tally) : (c.setTally k x).tSum = c.tSum := rfl
@[simp] theorem Core.setTally_secInDay (k : Nat) (x : Tally) : (c.setTally k x).secInDay = c.secInDay := rfl
@[simp] theorem Core.setTally_ageBase (k : Nat) (x : Tally) : (c.setTally k x).ageBase = c.ageBase := rfl
@[simp] theorem Core.setTally_glcReady (k : Nat) (x : Tally) : (c.setTally k x).glcReady = c.glcReady := rfl
@[simp] theorem Core.setTally_syns (k : Nat) (x : Tally) : (c.setTally k x).syns = c.syns := rfl
@[simp] theorem Core.setTally_firnOut (k : Nat) (x : Tally) : (c.setTally k x).firnOut = c.firnOut := rfl
@[simp] theorem Core.setTally_inReset (k : Nat) (x : Tally) : (c.setTally k x).inReset = c.inReset := rfl
@[simp] theorem Core.setTally_frost (k : Nat) (x : Tally) : (c.setTally k x).frost = c.frost := rfl
@[simp] theorem Core.setTally_pal (k : Nat) (x : Tally) : (c.setTally k x).pal = c.pal := rfl
@[simp] theorem Core.setTally_inRst (k : Nat) (x : Tally) : (c.setTally k x).inRst = c.inRst := rfl
@[simp] theorem Core.setTally_tim (k : Nat) (x : Tally) : (c.setTally k x).tim = c.tim := rfl
@[simp] theorem Core.setTally_memMap (k : Nat) (x : Tally) : (c.setTally k x).memMap = c.memMap := rfl
@[simp] theorem Core.setTally_memOut (k : Nat) (x : Tally) : (c.setTally k x).memOut = c.memOut := rfl
@[simp] theorem Core.setTally_lanes (k : Nat) (x : Tally) : (c.setTally k x).lanes = c.lanes := rfl
@[simp] theorem Core.setTally_part (k : Nat) (x : Tally) : (c.setTally k x).part = c.part := rfl
@[simp] theorem Core.setTally_regs (k : Nat) (x : Tally) : (c.setTally k x).regs = c.regs := rfl
@[simp] theorem Core.setTally_tvB (k : Nat) (x : Tally) : (c.setTally k x).tvB = c.tvB := rfl
@[simp] theorem Core.setTally_tvC (k : Nat) (x : Tally) : (c.setTally k x).tvC = c.tvC := rfl
@[simp] theorem Core.setTally_shadow (k : Nat) (x : Tally) : (c.setTally k x).shadow = c.shadow := rfl
@[simp] theorem Core.setTally_staging (k : Nat) (x : Tally) : (c.setTally k x).staging = c.staging := rfl
@[simp] theorem Core.setTally_dt (k : Nat) (x : Tally) : (c.setTally k x).dt = c.dt := rfl
@[simp] theorem Core.setTally_dtk (k : Nat) (x : Tally) : (c.setTally k x).dtk = c.dtk := rfl
@[simp] theorem Core.setTally_linkBad (k : Nat) (x : Tally) : (c.setTally k x).linkBad = c.linkBad := rfl
@[simp] theorem Core.setTally_rstOpen (k : Nat) (x : Tally) : (c.setTally k x).rstOpen = c.rstOpen := rfl
@[simp] theorem Core.setTally_supply (k : Nat) (x : Tally) : (c.setTally k x).supply = c.supply := rfl
@[simp] theorem Core.setTally_setPend (k : Nat) (x : Tally) : (c.setTally k x).setPend = c.setPend := rfl
@[simp] theorem Core.setTally_setSkip (k : Nat) (x : Tally) : (c.setTally k x).setSkip = c.setSkip := rfl
@[simp] theorem Core.setTally_yMaster (k : Nat) (x : Tally) : (c.setTally k x).yMaster = c.yMaster := rfl
@[simp] theorem Core.setTally_secDone (k : Nat) (x : Tally) : (c.setTally k x).secDone = c.secDone := rfl
@[simp] theorem Core.setTally_loKhz (k : Nat) (x : Tally) : (c.setTally k x).loKhz = c.loKhz := rfl
@[simp] theorem Core.setTally_dShift (k : Nat) (x : Tally) : (c.setTally k x).dShift = c.dShift := rfl
@[simp] theorem Core.setTally_stepped (k : Nat) (x : Tally) : (c.setTally k x).stepped = c.stepped := rfl
@[simp] theorem Core.setTally_tap (k : Nat) (x : Tally) : (c.setTally k x).tap = c.tap := rfl
@[simp] theorem Core.setTally_dSlices (k : Nat) (x : Tally) : (c.setTally k x).dSlices = c.dSlices := rfl
@[simp] theorem Core.setTally_dGroup (k : Nat) (x : Tally) : (c.setTally k x).dGroup = c.dGroup := rfl
@[simp] theorem Core.setTally_dtLocked (k : Nat) (x : Tally) : (c.setTally k x).dtLocked = c.dtLocked := rfl
@[simp] theorem Core.setTally_free (k : Nat) (x : Tally) : (c.setTally k x).free = c.free := rfl
@[simp] theorem Core.setTally_links (k : Nat) (x : Tally) : (c.setTally k x).links = c.links := rfl
@[simp] theorem Core.setTally_outbox (k : Nat) (x : Tally) : (c.setTally k x).outbox = c.outbox := rfl
@[simp] theorem Core.setTally_held (k : Nat) (x : Tally) : (c.setTally k x).held = c.held := rfl
@[simp] theorem Core.setTally_streams (k : Nat) (x : Tally) : (c.setTally k x).streams = c.streams := rfl
@[simp] theorem Core.setTally_estRun (k : Nat) (x : Tally) : (c.setTally k x).estRun = c.estRun := rfl
@[simp] theorem Core.setTally_cands (k : Nat) (x : Tally) : (c.setTally k x).cands = c.cands := rfl
@[simp] theorem Core.setTally_pairs (k : Nat) (x : Tally) : (c.setTally k x).pairs = c.pairs := rfl
@[simp] theorem Core.setTally_building (k : Nat) (x : Tally) : (c.setTally k x).building = c.building := rfl
@[simp] theorem Core.setTally_fltBuf (k : Nat) (x : Tally) : (c.setTally k x).fltBuf = c.fltBuf := rfl
@[simp] theorem Core.setTally_fltSeq (k : Nat) (x : Tally) : (c.setTally k x).fltSeq = c.fltSeq := rfl
@[simp] theorem Core.setTally_esc (k : Nat) (x : Tally) : (c.setTally k x).esc = c.esc := rfl
@[simp] theorem Core.setTally_engaged (k : Nat) (x : Tally) : (c.setTally k x).engaged = c.engaged := rfl
@[simp] theorem Core.setTally_ackWait (k : Nat) (x : Tally) : (c.setTally k x).ackWait = c.ackWait := rfl
@[simp] theorem Core.setTally_hitUnits (k : Nat) (x : Tally) : (c.setTally k x).hitUnits = c.hitUnits := rfl
@[simp] theorem Core.setTally_hits (k : Nat) (x : Tally) : (c.setTally k x).hits = c.hits := rfl
@[simp] theorem Core.setTally_exHeld (k : Nat) (x : Tally) : (c.setTally k x).exHeld = c.exHeld := rfl
@[simp] theorem Core.setTally_quiet (k : Nat) (x : Tally) : (c.setTally k x).quiet = c.quiet := rfl
@[simp] theorem Core.setTally_resetIssued (k : Nat) (x : Tally) : (c.setTally k x).resetIssued = c.resetIssued := rfl
@[simp] theorem Core.setTally_pte (k : Nat) (x : Tally) : (c.setTally k x).pte = c.pte := rfl
@[simp] theorem Core.setTally_queues (k : Nat) (x : Tally) : (c.setTally k x).queues = c.queues := rfl
@[simp] theorem Core.setTally_memU (k : Nat) (x : Tally) : (c.setTally k x).memU = c.memU := rfl
@[simp] theorem Core.setTally_memLost (k : Nat) (x : Tally) : (c.setTally k x).memLost = c.memLost := rfl
@[simp] theorem Core.setTally_mtl (k : Nat) (x : Tally) : (c.setTally k x).mtl = c.mtl := rfl
@[simp] theorem Core.setTally_host (k : Nat) (x : Tally) : (c.setTally k x).host = c.host := rfl
@[simp] theorem Core.setTally_inds (k : Nat) (x : Tally) : (c.setTally k x).inds = c.inds := rfl
@[simp] theorem Core.setTally_alive (k : Nat) (x : Tally) : (c.setTally k x).alive = c.alive := rfl
@[simp] theorem Core.setTally_footed (k : Nat) (x : Tally) : (c.setTally k x).footed = c.footed := rfl
@[simp] theorem Core.setTally_vholdTold (k : Nat) (x : Tally) : (c.setTally k x).vholdTold = c.vholdTold := rfl
@[simp] theorem Core.setTally_courseHeld (k : Nat) (x : Tally) : (c.setTally k x).courseHeld = c.courseHeld := rfl
@[simp] theorem Core.setTally_courseWaited (k : Nat) (x : Tally) : (c.setTally k x).courseWaited = c.courseWaited := rfl
@[simp] theorem Core.setTally_rsTried (k : Nat) (x : Tally) : (c.setTally k x).rsTried = c.rsTried := rfl
@[simp] theorem Core.setTally_rstReq (k : Nat) (x : Tally) : (c.setTally k x).rstReq = c.rstReq := rfl
@[simp] theorem Core.setTally_rd (k : Nat) (x : Tally) (f : Fld) (j l : Nat) : (c.setTally k x).rd f j l = c.rd f j l := rfl
@[simp] theorem Core.setTally_rdB (k : Nat) (x : Tally) (f : Fld) (j l : Nat) : (c.setTally k x).rdB f j l = c.rdB f j l := rfl
@[simp] theorem Core.setTally_rdS (k : Nat) (x : Tally) (f : Fld) (j l : Nat) : (c.setTally k x).rdS f j l = c.rdS f j l := rfl
@[simp] theorem Core.setTally_rdTv (k : Nat) (x : Tally) (f : Fld) (j l : Nat) : (c.setTally k x).rdTv f j l = c.rdTv f j l := rfl

@[simp] theorem Core.memPut_ackWait (m : Nat) (l : List (Nat × Byte)) : (c.memPut m l).ackWait = c.ackWait := rfl
@[simp] theorem Core.memPut_ageBase (m : Nat) (l : List (Nat × Byte)) : (c.memPut m l).ageBase = c.ageBase := rfl
@[simp] theorem Core.memPut_alive (m : Nat) (l : List (Nat × Byte)) : (c.memPut m l).alive = c.alive := rfl
@[simp] theorem Core.memPut_building (m : Nat) (l : List (Nat × Byte)) : (c.memPut m l).building = c.building := rfl
@[simp] theorem Core.memPut_cands (m : Nat) (l : List (Nat × Byte)) : (c.memPut m l).cands = c.cands := rfl
@[simp] theorem Core.memPut_chans (m : Nat) (l : List (Nat × Byte)) : (c.memPut m l).chans = c.chans := rfl
@[simp] theorem Core.memPut_courseHeld (m : Nat) (l : List (Nat × Byte)) : (c.memPut m l).courseHeld = c.courseHeld := rfl
@[simp] theorem Core.memPut_courseWaited (m : Nat) (l : List (Nat × Byte)) : (c.memPut m l).courseWaited = c.courseWaited := rfl
@[simp] theorem Core.memPut_rsTried (m : Nat) (l : List (Nat × Byte)) : (c.memPut m l).rsTried = c.rsTried := rfl
@[simp] theorem Core.memPut_dGroup (m : Nat) (l : List (Nat × Byte)) : (c.memPut m l).dGroup = c.dGroup := rfl
@[simp] theorem Core.memPut_dShift (m : Nat) (l : List (Nat × Byte)) : (c.memPut m l).dShift = c.dShift := rfl
@[simp] theorem Core.memPut_stepped (m : Nat) (l : List (Nat × Byte)) : (c.memPut m l).stepped = c.stepped := rfl
@[simp] theorem Core.memPut_dSlices (m : Nat) (l : List (Nat × Byte)) : (c.memPut m l).dSlices = c.dSlices := rfl
@[simp] theorem Core.memPut_dt (m : Nat) (l : List (Nat × Byte)) : (c.memPut m l).dt = c.dt := rfl
@[simp] theorem Core.memPut_dtLocked (m : Nat) (l : List (Nat × Byte)) : (c.memPut m l).dtLocked = c.dtLocked := rfl
@[simp] theorem Core.memPut_dtk (m : Nat) (l : List (Nat × Byte)) : (c.memPut m l).dtk = c.dtk := rfl
@[simp] theorem Core.memPut_linkBad (m : Nat) (l : List (Nat × Byte)) : (c.memPut m l).linkBad = c.linkBad := rfl
@[simp] theorem Core.memPut_rstOpen (m : Nat) (l : List (Nat × Byte)) : (c.memPut m l).rstOpen = c.rstOpen := rfl
@[simp] theorem Core.memPut_supply (m : Nat) (l : List (Nat × Byte)) : (c.memPut m l).supply = c.supply := rfl
@[simp] theorem Core.memPut_engaged (m : Nat) (l : List (Nat × Byte)) : (c.memPut m l).engaged = c.engaged := rfl
@[simp] theorem Core.memPut_esc (m : Nat) (l : List (Nat × Byte)) : (c.memPut m l).esc = c.esc := rfl
@[simp] theorem Core.memPut_estRun (m : Nat) (l : List (Nat × Byte)) : (c.memPut m l).estRun = c.estRun := rfl
@[simp] theorem Core.memPut_firnOut (m : Nat) (l : List (Nat × Byte)) : (c.memPut m l).firnOut = c.firnOut := rfl
@[simp] theorem Core.memPut_firnU (m : Nat) (l : List (Nat × Byte)) : (c.memPut m l).firnU = c.firnU := rfl
@[simp] theorem Core.memPut_fltBuf (m : Nat) (l : List (Nat × Byte)) : (c.memPut m l).fltBuf = c.fltBuf := rfl
@[simp] theorem Core.memPut_fltSeq (m : Nat) (l : List (Nat × Byte)) : (c.memPut m l).fltSeq = c.fltSeq := rfl
@[simp] theorem Core.memPut_footed (m : Nat) (l : List (Nat × Byte)) : (c.memPut m l).footed = c.footed := rfl
@[simp] theorem Core.memPut_free (m : Nat) (l : List (Nat × Byte)) : (c.memPut m l).free = c.free := rfl
@[simp] theorem Core.memPut_frost (m : Nat) (l : List (Nat × Byte)) : (c.memPut m l).frost = c.frost := rfl
@[simp] theorem Core.memPut_glcReady (m : Nat) (l : List (Nat × Byte)) : (c.memPut m l).glcReady = c.glcReady := rfl
@[simp] theorem Core.memPut_glcs (m : Nat) (l : List (Nat × Byte)) : (c.memPut m l).glcs = c.glcs := rfl
@[simp] theorem Core.memPut_held (m : Nat) (l : List (Nat × Byte)) : (c.memPut m l).held = c.held := rfl
@[simp] theorem Core.memPut_hitUnits (m : Nat) (l : List (Nat × Byte)) : (c.memPut m l).hitUnits = c.hitUnits := rfl
@[simp] theorem Core.memPut_hits (m : Nat) (l : List (Nat × Byte)) : (c.memPut m l).hits = c.hits := rfl
@[simp] theorem Core.memPut_exHeld (m : Nat) (l : List (Nat × Byte)) : (c.memPut m l).exHeld = c.exHeld := rfl
@[simp] theorem Core.memPut_host (m : Nat) (l : List (Nat × Byte)) : (c.memPut m l).host = c.host := rfl
@[simp] theorem Core.memPut_inReset (m : Nat) (l : List (Nat × Byte)) : (c.memPut m l).inReset = c.inReset := rfl
@[simp] theorem Core.memPut_inRst (m : Nat) (l : List (Nat × Byte)) : (c.memPut m l).inRst = c.inRst := rfl
@[simp] theorem Core.memPut_inds (m : Nat) (l : List (Nat × Byte)) : (c.memPut m l).inds = c.inds := rfl
@[simp] theorem Core.memPut_lanes (m : Nat) (l : List (Nat × Byte)) : (c.memPut m l).lanes = c.lanes := rfl
@[simp] theorem Core.memPut_links (m : Nat) (l : List (Nat × Byte)) : (c.memPut m l).links = c.links := rfl
@[simp] theorem Core.memPut_loKhz (m : Nat) (l : List (Nat × Byte)) : (c.memPut m l).loKhz = c.loKhz := rfl
@[simp] theorem Core.memPut_memLost (m : Nat) (l : List (Nat × Byte)) : (c.memPut m l).memLost = c.memLost := rfl
@[simp] theorem Core.memPut_memMap (m : Nat) (l : List (Nat × Byte)) : (c.memPut m l).memMap = c.memMap := rfl
@[simp] theorem Core.memPut_mtl (m : Nat) (l : List (Nat × Byte)) : (c.memPut m l).mtl = c.mtl := rfl
@[simp] theorem Core.memPut_outbox (m : Nat) (l : List (Nat × Byte)) : (c.memPut m l).outbox = c.outbox := rfl
@[simp] theorem Core.memPut_pairs (m : Nat) (l : List (Nat × Byte)) : (c.memPut m l).pairs = c.pairs := rfl
@[simp] theorem Core.memPut_pal (m : Nat) (l : List (Nat × Byte)) : (c.memPut m l).pal = c.pal := rfl
@[simp] theorem Core.memPut_part (m : Nat) (l : List (Nat × Byte)) : (c.memPut m l).part = c.part := rfl
@[simp] theorem Core.memPut_pte (m : Nat) (l : List (Nat × Byte)) : (c.memPut m l).pte = c.pte := rfl
@[simp] theorem Core.memPut_queues (m : Nat) (l : List (Nat × Byte)) : (c.memPut m l).queues = c.queues := rfl
@[simp] theorem Core.memPut_quiet (m : Nat) (l : List (Nat × Byte)) : (c.memPut m l).quiet = c.quiet := rfl
@[simp] theorem Core.memPut_regs (m : Nat) (l : List (Nat × Byte)) : (c.memPut m l).regs = c.regs := rfl
@[simp] theorem Core.memPut_resetIssued (m : Nat) (l : List (Nat × Byte)) : (c.memPut m l).resetIssued = c.resetIssued := rfl
@[simp] theorem Core.memPut_rots (m : Nat) (l : List (Nat × Byte)) : (c.memPut m l).rots = c.rots := rfl
@[simp] theorem Core.memPut_rstReq (m : Nat) (l : List (Nat × Byte)) : (c.memPut m l).rstReq = c.rstReq := rfl
@[simp] theorem Core.memPut_secDone (m : Nat) (l : List (Nat × Byte)) : (c.memPut m l).secDone = c.secDone := rfl
@[simp] theorem Core.memPut_secInDay (m : Nat) (l : List (Nat × Byte)) : (c.memPut m l).secInDay = c.secInDay := rfl
@[simp] theorem Core.memPut_setPend (m : Nat) (l : List (Nat × Byte)) : (c.memPut m l).setPend = c.setPend := rfl
@[simp] theorem Core.memPut_setSkip (m : Nat) (l : List (Nat × Byte)) : (c.memPut m l).setSkip = c.setSkip := rfl
@[simp] theorem Core.memPut_shadow (m : Nat) (l : List (Nat × Byte)) : (c.memPut m l).shadow = c.shadow := rfl
@[simp] theorem Core.memPut_staging (m : Nat) (l : List (Nat × Byte)) : (c.memPut m l).staging = c.staging := rfl
@[simp] theorem Core.memPut_streams (m : Nat) (l : List (Nat × Byte)) : (c.memPut m l).streams = c.streams := rfl
@[simp] theorem Core.memPut_syns (m : Nat) (l : List (Nat × Byte)) : (c.memPut m l).syns = c.syns := rfl
@[simp] theorem Core.memPut_tSum (m : Nat) (l : List (Nat × Byte)) : (c.memPut m l).tSum = c.tSum := rfl
@[simp] theorem Core.memPut_tach (m : Nat) (l : List (Nat × Byte)) : (c.memPut m l).tach = c.tach := rfl
@[simp] theorem Core.memPut_tap (m : Nat) (l : List (Nat × Byte)) : (c.memPut m l).tap = c.tap := rfl
@[simp] theorem Core.memPut_tim (m : Nat) (l : List (Nat × Byte)) : (c.memPut m l).tim = c.tim := rfl
@[simp] theorem Core.memPut_tvB (m : Nat) (l : List (Nat × Byte)) : (c.memPut m l).tvB = c.tvB := rfl
@[simp] theorem Core.memPut_tvC (m : Nat) (l : List (Nat × Byte)) : (c.memPut m l).tvC = c.tvC := rfl
@[simp] theorem Core.memPut_vholdTold (m : Nat) (l : List (Nat × Byte)) : (c.memPut m l).vholdTold = c.vholdTold := rfl
@[simp] theorem Core.memPut_yMaster (m : Nat) (l : List (Nat × Byte)) : (c.memPut m l).yMaster = c.yMaster := rfl
@[simp] theorem Core.memPut_rd (m : Nat) (l : List (Nat × Byte)) (f : Fld) (j k : Nat) : (c.memPut m l).rd f j k = c.rd f j k := rfl
@[simp] theorem Core.memPut_rdB (m : Nat) (l : List (Nat × Byte)) (f : Fld) (j k : Nat) : (c.memPut m l).rdB f j k = c.rdB f j k := rfl
@[simp] theorem Core.memPut_rdS (m : Nat) (l : List (Nat × Byte)) (f : Fld) (j k : Nat) : (c.memPut m l).rdS f j k = c.rdS f j k := rfl
@[simp] theorem Core.memPut_rdTv (m : Nat) (l : List (Nat × Byte)) (f : Fld) (j k : Nat) : (c.memPut m l).rdTv f j k = c.rdTv f j k := rfl

/-- Reading unit `j` after unit `i` has been written. -/
@[simp] theorem Core.cand_setCand (i j : Nat) (x : Cand) : (c.setCand i x).cand j = if j = i then x else c.cand j := by
  simp [Core.cand, Core.setCand, AMap.get_set]
@[simp] theorem Core.cand_wr (f : Fld) (v i k j : Nat) : (c.wr f v i k).cand j = c.cand j := rfl
/-- Reading unit `j` after unit `i` has been written. -/
@[simp] theorem Core.chan_setChan (i j : Nat) (x : Chan) : (c.setChan i x).chan j = if j = i then x else c.chan j := by
  simp [Core.chan, Core.setChan, AMap.get_set]
@[simp] theorem Core.chan_wr (f : Fld) (v i k j : Nat) : (c.wr f v i k).chan j = c.chan j := rfl
/-- Reading unit `j` after unit `i` has been written. -/
@[simp] theorem Core.glc_setGlc (i j : Nat) (x : Glc) : (c.setGlc i x).glc j = if j = i then x else c.glc j := by
  simp [Core.glc, Core.setGlc, AMap.get_set]
@[simp] theorem Core.glc_wr (f : Fld) (v i k j : Nat) : (c.wr f v i k).glc j = c.glc j := rfl
/-- Reading unit `j` after unit `i` has been written. -/
@[simp] theorem Core.syn_setSyn (i j : Nat) (x : Syn) : (c.setSyn i x).syn j = if j = i then x else c.syn j := by
  simp [Core.syn, Core.setSyn, AMap.get_set]
@[simp] theorem Core.syn_wr (f : Fld) (v i k j : Nat) : (c.wr f v i k).syn j = c.syn j := rfl
/-- Reading unit `j` after unit `i` has been written. -/
@[simp] theorem Core.rot_setRot (i j : Nat) (x : Rot) : (c.setRot i x).rot j = if j = i then x else c.rot j := by
  simp [Core.rot, Core.setRot, AMap.get_set]
@[simp] theorem Core.rot_wr (f : Fld) (v i k j : Nat) : (c.wr f v i k).rot j = c.rot j := rfl
/-- Reading unit `j` after unit `i` has been written. -/
@[simp] theorem Core.lane_setLane (i j : Nat) (x : LaneU) : (c.setLane i x).lane j = if j = i then x else c.lane j := by
  simp [Core.lane, Core.setLane, AMap.get_set]
@[simp] theorem Core.lane_wr (f : Fld) (v i k j : Nat) : (c.wr f v i k).lane j = c.lane j := rfl
/-- Reading unit `j` after unit `i` has been written. -/
@[simp] theorem Core.queue_setQueue (i j : Nat) (x : QueueU) : (c.setQueue i x).queue j = if j = i then x else c.queue j := by
  simp [Core.queue, Core.setQueue, AMap.get_set]
@[simp] theorem Core.queue_wr (f : Fld) (v i k j : Nat) : (c.wr f v i k).queue j = c.queue j := rfl
/-- Reading unit `j` after unit `i` has been written. -/
@[simp] theorem Core.link_setLink (i j : Nat) (x : Link) : (c.setLink i x).link j = if j = i then x else c.link j := by
  simp [Core.link, Core.setLink, AMap.get_set]
@[simp] theorem Core.link_wr (f : Fld) (v i k j : Nat) : (c.wr f v i k).link j = c.link j := rfl
/-- Reading unit `j` after unit `i` has been written. -/
@[simp] theorem Core.pa_setPa (i j : Nat) (x : Pa) : (c.setPa i x).pa j = if j = i then x else c.pa j := by
  simp [Core.pa, Core.setPa, AMap.get_set]
@[simp] theorem Core.pa_wr (f : Fld) (v i k j : Nat) : (c.wr f v i k).pa j = c.pa j := rfl
/-- Reading unit `j` after unit `i` has been written. -/
@[simp] theorem Core.port_setPort (i j : Nat) (x : Port) : (c.setPort i x).port j = if j = i then x else c.port j := by
  simp [Core.port, Core.setPort, AMap.get_set]
@[simp] theorem Core.port_wr (f : Fld) (v i k j : Nat) : (c.wr f v i k).port j = c.port j := rfl
/-- Reading unit `j` after unit `i` has been written. -/
@[simp] theorem Core.pport_setPport (i j : Nat) (x : PortU) : (c.setPport i x).pport j = if j = i then x else c.pport j := by
  simp [Core.pport, Core.setPport, AMap.get_set]
@[simp] theorem Core.pport_wr (f : Fld) (v i k j : Nat) : (c.wr f v i k).pport j = c.pport j := rfl
/-- Reading unit `j` after unit `i` has been written. -/
@[simp] theorem Core.sv_setSv (i j : Nat) (x : SvU) : (c.setSv i x).sv j = if j = i then x else c.sv j := by
  simp [Core.sv, Core.setSv, AMap.get_set]
@[simp] theorem Core.sv_wr (f : Fld) (v i k j : Nat) : (c.wr f v i k).sv j = c.sv j := rfl
/-- Reading unit `j` after unit `i` has been written. -/
@[simp] theorem Core.page_setPage (i j : Nat) (x : Page) : (c.setPage i x).page j = if j = i then x else c.page j := by
  simp [Core.page, Core.setPage, AMap.get_set]
@[simp] theorem Core.page_wr (f : Fld) (v i k j : Nat) : (c.wr f v i k).page j = c.page j := rfl

end Sys2Proof.Machine
end

