-- ==== Sys2Proof/Laws/Ops.lean ====
section
/-! SUPPORT. What the shared operations do to the registers: a read after a write, the saturating forms, and what a raised
fault, an emitted record and the end of every command leave alone. -/

namespace Sys2Proof.Machine

/-! ## Register fields -/

theorem xor_xor_cancel (a b : Nat) : Nat.xor (Nat.xor a b) b = a := by
  show a ^^^ b ^^^ b = a
  simp

/-- A read of a field after a write of a field: the value cut to the width where both name the same field, else as before. -/
theorem Core.rd_wr_key (c : Core) (f g : Fld) (v i k j l : Nat) (h : g.key j l = f.key i k → g.reset j = f.reset i) :
    (c.wr f v i k).rd g j l = if g.key j l = f.key i k then v % 2 ^ f.width else c.rd g j l := by
  unfold Core.rd Core.wr
  simp only [AMap.get_set]
  by_cases hk : g.key j l = f.key i k
  · simp only [hk, if_true, h hk, xor_xor_cancel]
  · simp only [hk, if_false]

/-- A read of the field just written gives the value, cut to the width. -/
@[simp] theorem Core.rd_wr_same (c : Core) (f : Fld) (v i k : Nat) : (c.wr f v i k).rd f i k = v % 2 ^ f.width := by
  rw [Core.rd_wr_key c f f v i k i k (fun _ => rfl)]; simp

/-- A write leaves every field of another key alone. -/
theorem Core.rd_wr_ne (c : Core) (f g : Fld) (v i k j l : Nat) (h : g.key j l ≠ f.key i k) :
    (c.wr f v i k).rd g j l = c.rd g j l := by
  rw [Core.rd_wr_key c f g v i k j l (fun e => absurd e h)]; simp [h]

/-- Every operation that only writes register `f` leaves the fields of other addresses alone. -/
def Core.SameAt (c d : Core) (a : Nat) : Prop := ∀ (g : Fld) (j l : Nat), g.addr j l = a → g.lo < 32 → d.rd g j l = c.rd g j l

/-- A field read at another address than the one written. -/
theorem Core.rd_wr_addr (c : Core) (f g : Fld) (v i k j l : Nat) (hf : f.lo < 32) (hg : g.lo < 32)
    (h : g.addr j l ≠ f.addr i k) : (c.wr f v i k).rd g j l = c.rd g j l := by
  refine Core.rd_wr_ne c f g v i k j l ?_
  unfold Fld.key
  omega

/-- A register after a write keeps its value below its width. -/
theorem Core.rd_wr_lt (c : Core) (f : Fld) (v i k : Nat) : (c.wr f v i k).rd f i k < 2 ^ f.width := by
  rw [Core.rd_wr_same]; exact Nat.mod_lt _ (Nat.two_pow_pos _)

/-- A one-bit field written with a Boolean reads it. -/
theorem Core.rdB_wrB_same (c : Core) (f : Fld) (b : Bool) (i k : Nat) (hw : f.width = 1) : (c.wrB f b i k).rdB f i k = b := by
  unfold Core.rdB Core.wrB
  rw [Core.rd_wr_same, hw]
  cases b <;> simp [b2n]

/-- A counter that is bumped saturates at its greatest code. -/
theorem Core.rd_bump_same (c : Core) (f : Fld) (i k n : Nat) :
    (c.bump f i k n).rd f i k = min (c.rd f i k + n) (2 ^ f.width - 1) := by
  unfold Core.bump
  rw [Core.rd_wr_same]
  have : 0 < 2 ^ f.width := Nat.two_pow_pos _
  exact Nat.mod_eq_of_lt (by omega)

/-- A write of a TV field is what its majority reads. -/
theorem Core.rdTv_wrTv_same (c : Core) (f : Fld) (v i k : Nat) : (c.wrTv f v i k).rdTv f i k = v % 2 ^ f.width := by
  have h : (c.wrTv f v i k).rd f i k = v % 2 ^ f.width := Core.rd_wr_same c f v i k
  unfold Core.rdTv
  rw [h]
  simp [Core.wrTv]

/-! ## What leaves an address alone -/

/-- Two parts of the machine read alike at every register address of a set. -/
def Core.Alike (p : Nat → Prop) (c d : Core) : Prop :=
  ∀ (g : Fld) (j l : Nat), p (g.addr j l) → g.lo < 32 → d.rd g j l = c.rd g j l

theorem Core.Alike.refl (p : Nat → Prop) (c : Core) : Core.Alike p c c := fun _ _ _ _ _ => rfl

theorem Core.Alike.trans {p : Nat → Prop} {a b c : Core} (h : Core.Alike p a b) (k : Core.Alike p b c) : Core.Alike p a c :=
  fun g j l hp hl => (k g j l hp hl).trans (h g j l hp hl)

theorem Core.Alike.of_regs {p : Nat → Prop} {c d : Core} (h : d.regs = c.regs) : Core.Alike p c d := by
  intro g j l _ _; unfold Core.rd; rw [h]

/-- A write at an address outside the set. -/
theorem Core.Alike.wr {p : Nat → Prop} (c : Core) (f : Fld) (v i k : Nat) (hl : f.lo < 32) (hp : ¬ p (f.addr i k)) :
    Core.Alike p c (c.wr f v i k) := fun g j l hg hgl =>
  Core.rd_wr_addr c f g v i k j l hl hgl (fun e => hp (e ▸ hg))

theorem Core.Alike.each {α : Type} {p : Nat → Prop} (l : List α) (f : Core → α → Core)
    (h : ∀ c x, x ∈ l → Core.Alike p c (f c x)) (c : Core) : Core.Alike p c (c.each l f) := by
  unfold Core.each
  induction l generalizing c with
  | nil => exact Core.Alike.refl p c
  | cons x r ih =>
    exact (h c x (by simp)).trans (ih (fun c y hy => h c y (by simp [hy])) (f c x))

theorem Core.Alike.on {p : Nat → Prop} (c : Core) (b : Bool) (f : Core → Core) (h : Core.Alike p c (f c)) :
    Core.Alike p c (c.on b f) := by
  unfold Core.on; cases b
  · exact Core.Alike.refl p c
  · exact h

theorem Core.Alike.ite {p : Nat → Prop} {c d e : Core} (q : Prop) [Decidable q] (h1 : Core.Alike p c d) (h2 : Core.Alike p c e) :
    Core.Alike p c (if q then d else e) := by split <;> assumption

/-- The address lies in the fault collector's block (R353). -/
def inFlt (a : Nat) : Prop := 0x20000 ≤ a ∧ a < 0x30000

/-- The registers that the end of every command may write: those of Firn, the store bits of GLC_STORE_STAT, MTL_STAT and
STG_STAT. -/
def inSettle (a : Nat) : Prop :=
  (0x250000 ≤ a ∧ a < 0x260000) ∨ a = GLC_STORE_STAT.dirty.addr 0 0 ∨ a = MTL_STAT.store_deferred.addr 0 0 ∨
    a = STG_STAT.store_busy.addr 0 0

end Sys2Proof.Machine
end

