-- ==== Sys2Proof/Laws/Settle.lean ====
section
/-! SUPPORT. What the end of every command (`Dev.act`) leaves alone: every register outside Firn and three store bits, and
every hidden field but those of Firn, of the waiting items and of the host link's queue notice. -/

namespace Sys2Proof.Machine

/-- The hidden fields that the end of a command may not change, gathered by erasing the others. -/
def Core.rest (c : Core) : Core :=
  { c with regs := [], firnU := {}, firnOut := [], memLost := [], memOut := [], outbox := [], host := {} }

/-- The end of a command: registers alike outside `inSettle`, and the same rest. -/
def Core.Settled (c d : Core) : Prop := Core.Alike (fun a => ¬ inSettle a) c d ∧ d.rest = c.rest

theorem Core.Settled.refl (c : Core) : Core.Settled c c := ⟨Core.Alike.refl _ c, rfl⟩

theorem Core.Settled.trans {a b c : Core} (h : Core.Settled a b) (k : Core.Settled b c) : Core.Settled a c :=
  ⟨h.1.trans k.1, k.2.trans h.2⟩

theorem Core.Settled.of_eq {c d : Core} (h1 : d.regs = c.regs) (h2 : d.rest = c.rest) : Core.Settled c d :=
  ⟨Core.Alike.of_regs h1, h2⟩

theorem Core.Settled.wr (c : Core) (f : Fld) (v i k : Nat) (hl : f.lo < 32) (ha : inSettle (f.addr i k)) :
    Core.Settled c (c.wr f v i k) := ⟨Core.Alike.wr c f v i k hl (fun h => h ha), rfl⟩

theorem Core.Settled.each {α : Type} (l : List α) (f : Core → α → Core) (h : ∀ c x, Core.Settled c (f c x)) (c : Core) :
    Core.Settled c (c.each l f) := by
  unfold Core.each
  induction l generalizing c with
  | nil => exact Core.Settled.refl c
  | cons x r ih => exact (h c x).trans (ih (f c x))

theorem Core.Settled.on (c : Core) (b : Bool) (f : Core → Core) (h : Core.Settled c (f c)) : Core.Settled c (c.on b f) := by
  unfold Core.on; cases b
  · exact Core.Settled.refl c
  · exact h

theorem Core.Settled.ite {c d e : Core} (q : Prop) [Decidable q] (h1 : Core.Settled c d) (h2 : Core.Settled c e) :
    Core.Settled c (if q then d else e) := by split <;> assumption

theorem Core.storeTold_settled (c : Core) (kind res : Nat) : Core.Settled c (c.storeTold kind res) := by
  unfold Core.storeTold
  refine Core.Settled.ite _ ?_ (Core.Settled.refl c)
  exact (Core.Settled.of_eq rfl rfl).trans
    (Core.Settled.wr _ _ _ _ _ (by decide) (by unfold inSettle; exact Or.inr (Or.inr (Or.inl rfl))))

theorem inSettle_frn (f : Fld) (i k : Nat) (h : 0x250000 ≤ f.addr i k ∧ f.addr i k < 0x260000) : inSettle (f.addr i k) := Or.inl h

theorem Core.storeJudge_settled (c : Core) (r : StoreReq) : Core.Settled c (c.storeJudge r) := by
  unfold Core.storeJudge
  extract_lets full poor c1 c2
  have h1 : Core.Settled c c1 :=
    (Core.Settled.wr c _ _ _ _ (by decide) (inSettle_frn _ _ _ (by decide))).trans
      (Core.Settled.wr _ _ _ _ _ (by decide) (inSettle_frn _ _ _ (by decide)))
  have h2 : Core.Settled c c2 :=
    h1.trans (Core.Settled.on _ _ _ (Core.Settled.wr _ _ _ _ _ (by decide) (by unfold inSettle; exact Or.inr (Or.inl (by decide)))))
  exact Core.Settled.ite _ (h2.trans (Core.storeTold_settled _ _ _)) (Core.Settled.of_eq rfl rfl)

theorem Core.storeJudgeAll_settled (c : Core) : Core.Settled c c.storeJudgeAll := by
  unfold Core.storeJudgeAll
  refine Core.Settled.trans (b := { c with firnU := { c.firnU with asked := [] } }) ?_ ?_
  · exact Core.Settled.of_eq rfl rfl
  · exact Core.Settled.each _ _ Core.storeJudge_settled _

theorem Core.storeEnd_settled (c : Core) (x : StoreRun) : Core.Settled c (c.storeEnd x) := by
  unfold Core.storeEnd
  extract_lets _u c1 c2 c3
  have h1 : Core.Settled c c1 := Core.Settled.of_eq rfl rfl
  have h2 : Core.Settled c c2 := h1.trans
    (Core.Settled.on _ _ _ (Core.Settled.wr _ _ _ _ _ (by decide) (inSettle_frn _ _ _ (by decide))))
  have h3 : Core.Settled c c3 := h2.trans
    (Core.Settled.on _ _ _ (Core.Settled.wr _ _ _ _ _ (by decide) (inSettle_frn _ _ _ (by decide))))
  exact h3.trans (Core.storeTold_settled _ _ _)

theorem Core.firnRegs_settled (c : Core) : Core.Settled c c.firnRegs := by
  unfold Core.firnRegs
  extract_lets u tal st c1 c2 c3 c4 c5 p
  have h1 : Core.Settled c c1 := Core.Settled.wr _ _ _ _ _ (by decide) (inSettle_frn _ _ _ (by decide))
  have h2 : Core.Settled c c2 := h1.trans (Core.Settled.wr _ _ _ _ _ (by decide) (inSettle_frn _ _ _ (by decide)))
  have h3 : Core.Settled c c3 := h2.trans (Core.Settled.wr _ _ _ _ _ (by decide) (inSettle_frn _ _ _ (by decide)))
  have h4 : Core.Settled c c4 := h3.trans (Core.Settled.wr _ _ _ _ _ (by decide) (inSettle_frn _ _ _ (by decide)))
  have h5 : Core.Settled c c5 := h4.trans (Core.Settled.on _ _ _
    (Core.Settled.wr _ _ _ _ _ (by decide) (by unfold inSettle; exact Or.inr (Or.inr (Or.inr rfl)))))
  exact h5.trans (Core.Settled.on _ _ _ (Core.Settled.wr _ _ _ _ _ (by decide) (by unfold inSettle; exact Or.inr (Or.inl rfl))))

theorem Dev.frontLand_settled (d : Dev) : Core.Settled d.core d.frontLand.core := by
  unfold Dev.frontLand
  have h : ∀ (l : List (Nat × Byte)) (d : Dev), Core.Settled d.core (l.foldl (fun (d : Dev) ab =>
      if d.mem.firn.get 0#8 ab.1 = ab.2 then d
      else { core := d.core.setPage (ab.1 / 1024) { d.core.page (ab.1 / 1024) with dirty := true },
             mem := { d.mem with firn := d.mem.firn.set 0#8 ab.1 ab.2 } }) d).core := by
    intro l
    induction l with
    | nil => intro d; exact Core.Settled.refl _
    | cons x r ih =>
      intro d
      refine Core.Settled.trans ?_ (ih _)
      beta_reduce
      split
      · exact Core.Settled.refl _
      · exact Core.Settled.of_eq rfl rfl
  exact (h _ d).trans (Core.Settled.of_eq rfl rfl)

theorem Dev.memLand_settled (d : Dev) : Core.Settled d.core d.memLand.core := Core.Settled.of_eq rfl rfl

theorem Dev.pageTake_settled (d : Dev) (x : StoreRun) (p : Nat) : Core.Settled d.core (d.pageTake x p).core :=
  Core.Settled.of_eq rfl rfl

theorem Dev.dirLand_settled (d : Dev) (x : StoreRun) : Core.Settled d.core (d.dirLand x).core := by
  unfold Dev.dirLand
  split
  · exact Core.Settled.refl _
  · split
    · exact Core.Settled.refl _
    · exact Core.Settled.trans (Core.Settled.of_eq rfl rfl) (Dev.frontLand_settled _)

theorem Core.tallyPump_settled (c : Core) : Core.Settled c c.tallyPump := by
  unfold Core.tallyPump
  exact Core.Settled.ite _ (Core.Settled.refl c) (Core.Settled.of_eq rfl rfl)

theorem Dev.storePump_settled (n : Nat) (d : Dev) : Core.Settled d.core (Dev.storePump n d).core := by
  induction n generalizing d with
  | zero => exact Core.Settled.refl _
  | succ n ih =>
    unfold Dev.storePump
    split
    · split
      · exact Core.Settled.refl _
      · exact Core.Settled.trans (Core.Settled.of_eq rfl rfl) (ih _)
    · rename_i x _
      split
      · exact Core.Settled.refl _
      · split
        · exact (Core.storeEnd_settled d.core x).trans (ih _)
        · extract_lets e l
          refine (Dev.dirLand_settled d x).trans ?_
          generalize l = l
          cases l with
          | nil => exact (Core.storeEnd_settled e.core x).trans (ih _)
          | cons p r =>
            dsimp only
            split
            · exact Core.Settled.refl _
            · exact Dev.pageTake_settled _ _ _

theorem Dev.settle_settled (d : Dev) : Core.Settled d.core d.settle.core := by
  unfold Dev.settle
  extract_lets d1 c d2
  have h1 : Core.Settled d.core d1.core := (Dev.frontLand_settled d).trans (Dev.memLand_settled _)
  have h2 : Core.Settled d.core d2.core :=
    ((h1.trans (Core.storeJudgeAll_settled _)).trans (Core.tallyPump_settled _)).trans
      (Dev.storePump_settled _ { d1 with core := c })
  exact h2.trans (Core.firnRegs_settled _)

theorem Core.noticeEval_settled (c : Core) (old : List Nat) : Core.Settled c (c.noticeEval old) := by
  unfold Core.noticeEval
  extract_lets now rise
  refine Core.Settled.ite _ (Core.Settled.refl c) ?_
  split <;> exact Core.Settled.of_eq rfl rfl

/-- What the end of a command leaves of the operation's result. -/
theorem Dev.act_settled (f : Dev → Dev) (d : Dev) : Core.Settled (f d).core (d.act f).core := by
  unfold Dev.act
  extract_lets e
  exact (Dev.settle_settled (f d)).trans ((Core.Settled.of_eq rfl rfl).trans (Core.noticeEval_settled _ _))

/-- A register outside the store engine's reads after a command what the operation left in it. -/
theorem Dev.act_rd (f : Dev → Dev) (d : Dev) (g : Fld) (i k : Nat) (hl : g.lo < 32) (ha : ¬ inSettle (g.addr i k)) :
    (d.act f).core.rd g i k = (f d).core.rd g i k := (Dev.act_settled f d).1 g i k ha hl

/-- So do the hidden fields other than those of Firn, the items and the host link. -/
theorem Dev.act_rest (f : Dev → Dev) (d : Dev) : (d.act f).core.rest = (f d).core.rest := (Dev.act_settled f d).2

theorem Dev.act_cand (f : Dev → Dev) (d : Dev) (i : Nat) : (d.act f).core.cand i = (f d).core.cand i := by
  have h := congrArg (fun c : Core => c.cand i) (Dev.act_rest f d); exact h
theorem Dev.act_chan (f : Dev → Dev) (d : Dev) (h : Nat) : (d.act f).core.chan h = (f d).core.chan h := by
  have h := congrArg (fun c : Core => c.chan h) (Dev.act_rest f d); exact h
theorem Dev.act_syn (f : Dev → Dev) (d : Dev) (n : Nat) : (d.act f).core.syn n = (f d).core.syn n := by
  have h := congrArg (fun c : Core => c.syn n) (Dev.act_rest f d); exact h
theorem Dev.act_rot (f : Dev → Dev) (d : Dev) (h : Nat) : (d.act f).core.rot h = (f d).core.rot h := by
  have h := congrArg (fun c : Core => c.rot h) (Dev.act_rest f d); exact h
theorem Dev.act_glc (f : Dev → Dev) (d : Dev) (h : Nat) : (d.act f).core.glc h = (f d).core.glc h := by
  have h := congrArg (fun c : Core => c.glc h) (Dev.act_rest f d); exact h
theorem Dev.act_lane (f : Dev → Dev) (d : Dev) (n : Nat) : (d.act f).core.lane n = (f d).core.lane n := by
  have h := congrArg (fun c : Core => c.lane n) (Dev.act_rest f d); exact h
theorem Dev.act_queue (f : Dev → Dev) (d : Dev) (q : Nat) : (d.act f).core.queue q = (f d).core.queue q := by
  have h := congrArg (fun c : Core => c.queue q) (Dev.act_rest f d); exact h
theorem Dev.act_link (f : Dev → Dev) (d : Dev) (k : Nat) : (d.act f).core.link k = (f d).core.link k := by
  have h := congrArg (fun c : Core => c.link k) (Dev.act_rest f d); exact h
theorem Dev.act_pa (f : Dev → Dev) (d : Dev) (a : Nat) : (d.act f).core.pa a = (f d).core.pa a := by
  have h := congrArg (fun c : Core => c.pa a) (Dev.act_rest f d); exact h
theorem Dev.act_pport (f : Dev → Dev) (d : Dev) (p : Nat) : (d.act f).core.pport p = (f d).core.pport p := by
  have h := congrArg (fun c : Core => c.pport p) (Dev.act_rest f d); exact h
theorem Dev.act_sv (f : Dev → Dev) (d : Dev) (v : Nat) : (d.act f).core.sv v = (f d).core.sv v := by
  have h := congrArg (fun c : Core => c.sv v) (Dev.act_rest f d); exact h
theorem Dev.act_slot (f : Dev → Dev) (d : Dev) (k : Nat) : (d.act f).core.slot k = (f d).core.slot k := by
  have h := congrArg (fun c : Core => c.slot k) (Dev.act_rest f d); exact h
theorem Dev.act_inReset (f : Dev → Dev) (d : Dev) : (d.act f).core.inReset = (f d).core.inReset := by
  have h := congrArg Core.inReset (Dev.act_rest f d); exact h
theorem Dev.act_dt (f : Dev → Dev) (d : Dev) : (d.act f).core.dt = (f d).core.dt := by
  have h := congrArg Core.dt (Dev.act_rest f d); exact h
theorem Dev.act_setPend (f : Dev → Dev) (d : Dev) : (d.act f).core.setPend = (f d).core.setPend := by
  have h := congrArg Core.setPend (Dev.act_rest f d); exact h
theorem Dev.act_setSkip (f : Dev → Dev) (d : Dev) : (d.act f).core.setSkip = (f d).core.setSkip := by
  have h := congrArg Core.setSkip (Dev.act_rest f d); exact h
theorem Dev.act_tim (f : Dev → Dev) (d : Dev) : (d.act f).core.tim = (f d).core.tim := by
  have h := congrArg Core.tim (Dev.act_rest f d); exact h
theorem Dev.act_memU (f : Dev → Dev) (d : Dev) : (d.act f).core.memU = (f d).core.memU := by
  have h := congrArg Core.memU (Dev.act_rest f d); exact h
theorem Dev.act_mtl (f : Dev → Dev) (d : Dev) : (d.act f).core.mtl = (f d).core.mtl := by
  have h := congrArg Core.mtl (Dev.act_rest f d); exact h
theorem Dev.act_inds (f : Dev → Dev) (d : Dev) : (d.act f).core.inds = (f d).core.inds := by
  have h := congrArg Core.inds (Dev.act_rest f d); exact h
theorem Dev.act_alive (f : Dev → Dev) (d : Dev) : (d.act f).core.alive = (f d).core.alive := by
  have h := congrArg Core.alive (Dev.act_rest f d); exact h
theorem Dev.act_building (f : Dev → Dev) (d : Dev) : (d.act f).core.building = (f d).core.building := by
  have h := congrArg Core.building (Dev.act_rest f d); exact h
theorem Dev.act_fltBuf (f : Dev → Dev) (d : Dev) : (d.act f).core.fltBuf = (f d).core.fltBuf := by
  have h := congrArg Core.fltBuf (Dev.act_rest f d); exact h
theorem Dev.act_engaged (f : Dev → Dev) (d : Dev) : (d.act f).core.engaged = (f d).core.engaged := by
  have h := congrArg Core.engaged (Dev.act_rest f d); exact h
theorem Dev.act_esc (f : Dev → Dev) (d : Dev) : (d.act f).core.esc = (f d).core.esc := by
  have h := congrArg Core.esc (Dev.act_rest f d); exact h
theorem Dev.act_quiet (f : Dev → Dev) (d : Dev) : (d.act f).core.quiet = (f d).core.quiet := by
  have h := congrArg Core.quiet (Dev.act_rest f d); exact h
theorem Dev.act_inRst (f : Dev → Dev) (d : Dev) : (d.act f).core.inRst = (f d).core.inRst := by
  have h := congrArg Core.inRst (Dev.act_rest f d); exact h
theorem Dev.act_frost (f : Dev → Dev) (d : Dev) : (d.act f).core.frost = (f d).core.frost := by
  have h := congrArg Core.frost (Dev.act_rest f d); exact h
theorem Dev.act_pte (f : Dev → Dev) (d : Dev) : (d.act f).core.pte = (f d).core.pte := by
  have h := congrArg Core.pte (Dev.act_rest f d); exact h
theorem Dev.act_tach (f : Dev → Dev) (d : Dev) : (d.act f).core.tach = (f d).core.tach := by
  have h := congrArg Core.tach (Dev.act_rest f d); exact h
theorem Dev.act_footed (f : Dev → Dev) (d : Dev) : (d.act f).core.footed = (f d).core.footed := by
  have h := congrArg Core.footed (Dev.act_rest f d); exact h
theorem Dev.act_courseHeld (f : Dev → Dev) (d : Dev) : (d.act f).core.courseHeld = (f d).core.courseHeld := by
  have h := congrArg Core.courseHeld (Dev.act_rest f d); exact h
theorem Dev.act_courseWaited (f : Dev → Dev) (d : Dev) : (d.act f).core.courseWaited = (f d).core.courseWaited := by
  have h := congrArg Core.courseWaited (Dev.act_rest f d); exact h
theorem Dev.act_rstReq (f : Dev → Dev) (d : Dev) : (d.act f).core.rstReq = (f d).core.rstReq := by
  have h := congrArg Core.rstReq (Dev.act_rest f d); exact h
theorem Dev.act_streams (f : Dev → Dev) (d : Dev) : (d.act f).core.streams = (f d).core.streams := by
  have h := congrArg Core.streams (Dev.act_rest f d); exact h
theorem Dev.act_held (f : Dev → Dev) (d : Dev) : (d.act f).core.held = (f d).core.held := by
  have h := congrArg Core.held (Dev.act_rest f d); exact h
theorem Dev.act_pairs (f : Dev → Dev) (d : Dev) : (d.act f).core.pairs = (f d).core.pairs := by
  have h := congrArg Core.pairs (Dev.act_rest f d); exact h
theorem Dev.act_staging (f : Dev → Dev) (d : Dev) : (d.act f).core.staging = (f d).core.staging := by
  have h := congrArg Core.staging (Dev.act_rest f d); exact h
theorem Dev.act_shadow (f : Dev → Dev) (d : Dev) : (d.act f).core.shadow = (f d).core.shadow := by
  have h := congrArg Core.shadow (Dev.act_rest f d); exact h

end Sys2Proof.Machine
end

