-- ==== Sys2Proof/Laws/Memory.lean ====
section
/-! SUPPORT. Every operation over the memories keeps their canonical form, and the end of every command leaves nothing in
flight. -/

namespace Sys2Proof.Machine

/-- The canonical form, memory by memory. -/
theorem Memory.wf_iff (m : Mem) : Memory.wf m = true ↔
    m.tile.wf none = true ∧ m.vault.wf none = true ∧ m.gens.wf 0 = true ∧ m.firn.wf 0#8 = true ∧ m.shadowA.wf 0#8 = true ∧
      m.shadowB.wf 0#8 = true ∧ m.pbuf.wf 0#8 = true ∧ m.staged.wf 0#8 = true := by
  unfold Memory.wf; simp [and_assoc]

theorem AMap.wf_puts {α : Type} [DecidableEq α] (d : α) (l : List (Nat × α)) {m : AMap α} (h : m.wf d = true) :
    (m.puts d l).wf d = true := by
  unfold AMap.puts
  induction l generalizing m with
  | nil => exact h
  | cons x r ih => exact ih (AMap.wf_set d h x.1 x.2)

/-- A memory whose contents become undefined. -/
theorem Mem.forget_wf {m : Mem} (h : Memory.wf m = true) (k : Nat) : Memory.wf (m.forget k) = true := by
  rw [Memory.wf_iff] at h ⊢
  obtain ⟨h1, h2, h3, h4⟩ := h
  unfold Mem.forget
  dsimp only
  split
  · refine ⟨AMap.wf_filter _ h1 _, h2, ?_, h4⟩
    dsimp only; exact AMap.wf_set _ h3 k _
  · refine ⟨h1, AMap.wf_nil _, ?_, h4⟩
    dsimp only; exact AMap.wf_set _ h3 k _

theorem Dev.memLand_wf {d : Dev} (h : Memory.wf d.mem = true) : Memory.wf d.memLand.mem = true := by
  unfold Dev.memLand
  have h1 : ∀ (l : List Nat) (m : Mem), Memory.wf m = true → Memory.wf (l.foldl Mem.forget m) = true := by
    intro l
    induction l with
    | nil => exact fun m hm => hm
    | cons x r ih => exact fun m hm => ih _ (Mem.forget_wf hm x)
  have h2 : ∀ (l : List (Nat × Nat × Byte)) (m : Mem), Memory.wf m = true →
      Memory.wf (l.foldl (fun (m : Mem) w =>
        if w.1 = 0 then { m with tile := m.tile.set none w.2.1 (some w.2.2) }
        else { m with vault := m.vault.set none w.2.1 (some w.2.2) }) m) = true := by
    intro l
    induction l with
    | nil => exact fun m hm => hm
    | cons x r ih =>
      intro m hm
      refine ih _ ?_
      rw [Memory.wf_iff] at hm
      obtain ⟨a, b, c⟩ := hm
      beta_reduce
      split
      · refine (Memory.wf_iff _).2 ⟨?_, b, c⟩
        dsimp only; exact AMap.wf_set _ a x.2.1 _
      · refine (Memory.wf_iff _).2 ⟨a, ?_, c⟩
        dsimp only; exact AMap.wf_set _ b x.2.1 _
  exact h2 _ _ (h1 _ _ h)

theorem Dev.frontLand_wf {d : Dev} (h : Memory.wf d.mem = true) : Memory.wf d.frontLand.mem = true := by
  unfold Dev.frontLand
  have h1 : ∀ (l : List (Nat × Byte)) (d : Dev), Memory.wf d.mem = true → Memory.wf (l.foldl (fun (d : Dev) ab =>
      if d.mem.firn.get 0#8 ab.1 = ab.2 then d
      else { core := d.core.setPage (ab.1 / 1024) { d.core.page (ab.1 / 1024) with dirty := true },
             mem := { d.mem with firn := d.mem.firn.set 0#8 ab.1 ab.2 } }) d).mem = true := by
    intro l
    induction l with
    | nil => exact fun d hd => hd
    | cons x r ih =>
      intro d hd
      refine ih _ ?_
      beta_reduce
      split
      · exact hd
      · rw [Memory.wf_iff] at hd
        obtain ⟨a, b, c, e, f⟩ := hd
        exact (Memory.wf_iff _).2 ⟨a, b, c, AMap.wf_set _ e _ _, f⟩
  exact h1 _ _ h

theorem Dev.pageTake_wf {d : Dev} (h : Memory.wf d.mem = true) (x : StoreRun) (p : Nat) :
    Memory.wf (d.pageTake x p).mem = true := by
  rw [Memory.wf_iff] at h
  obtain ⟨a, b, c, e, f, g, _, i⟩ := h
  exact (Memory.wf_iff _).2 ⟨a, b, c, e, f, g, AMap.wf_setRange _ (AMap.wf_nil _) _ _ _, i⟩

theorem Dev.dirLand_wf {d : Dev} (h : Memory.wf d.mem = true) (x : StoreRun) : Memory.wf (d.dirLand x).mem = true := by
  unfold Dev.dirLand
  split
  · exact h
  · split
    · exact h
    · exact Dev.frontLand_wf h

theorem Dev.storePump_wf (n : Nat) {d : Dev} (h : Memory.wf d.mem = true) : Memory.wf (Dev.storePump n d).mem = true := by
  induction n generalizing d with
  | zero => exact h
  | succ n ih =>
    unfold Dev.storePump
    split
    · split
      · exact h
      · exact ih h
    · rename_i x _
      split
      · exact h
      · split
        · exact ih h
        · extract_lets e l
          generalize l = l
          cases l with
          | nil => exact ih (Dev.dirLand_wf h x)
          | cons p r =>
            dsimp only
            split
            · exact Dev.dirLand_wf h x
            · exact Dev.pageTake_wf (Dev.dirLand_wf h x) x p

/-- The end of every command keeps the canonical form. -/
theorem Dev.settle_wf {d : Dev} (h : Memory.wf d.mem = true) : Memory.wf d.settle.mem = true := by
  unfold Dev.settle
  exact Dev.storePump_wf _ (Dev.memLand_wf (Dev.frontLand_wf h))

/-- A command whose own operation keeps the canonical form keeps it. -/
theorem Dev.act_wf {f : Dev → Dev} {d : Dev} (h : Memory.wf (f d).mem = true) : Memory.wf (d.act f).mem = true :=
  Dev.settle_wf h

/-- A command of the blocks that writes no memory of its own keeps the canonical form. -/
theorem Dev.act_core_wf (f : Core → Core) {d : Dev} (h : Memory.wf d.mem = true) :
    Memory.wf (d.act (fun d => { d with core := f d.core })).mem = true := Dev.settle_wf h

/-- The recall of the Firn front. -/
theorem Dev.recall_wf {d : Dev} (h : Memory.wf d.mem = true) : Memory.wf d.recall.mem = true := by
  unfold Dev.recall
  extract_lets c c1 sel front c2 c3
  split
  · exact h
  · rw [Memory.wf_iff] at h
    obtain ⟨a, b, c, _, f⟩ := h
    exact (Memory.wf_iff _).2 ⟨a, b, c, AMap.wf_puts _ _ (AMap.wf_puts _ _ (AMap.wf_nil _)), f⟩

/-- The image taken from a Firn slot into the staging buffer. -/
theorem Dev.slotLoad_wf {d : Dev} (h : Memory.wf d.mem = true) (slot : Nat) (second : Bool) :
    Memory.wf (d.slotLoad slot second).mem = true := by
  rw [Memory.wf_iff] at h
  obtain ⟨a, b, c, e, f, g, i, _⟩ := h
  exact (Memory.wf_iff _).2 ⟨a, b, c, e, f, g, i, AMap.wf_setRange _ (AMap.wf_nil _) _ _ _⟩

/-- A device reset. -/
theorem Dev.deviceReset_wf {d : Dev} (h : Memory.wf d.mem = true) (cause fs : Nat) :
    Memory.wf (d.deviceReset cause fs).mem = true := by
  rw [Memory.wf_iff] at h
  obtain ⟨a, b, c, e, f, g, i, _⟩ := h
  exact (Memory.wf_iff _).2 ⟨a, b, c, e, f, g, i, AMap.wf_nil _⟩

/-- A write of the host's bulk targets. -/
theorem Dev.opBulkWrite_wf {d : Dev} (h : Memory.wf d.mem = true) (k : Pkt) : Memory.wf (d.opBulkWrite k).1.mem = true := by
  unfold Dev.opBulkWrite
  extract_lets c data n off st done
  split
  · exact h
  · split
    · split
      · exact h
      · split
        · exact h
        · rw [Memory.wf_iff] at h
          obtain ⟨a, b, c, e, f, g, i, j⟩ := h
          exact (Memory.wf_iff _).2 ⟨a, b, c, e, f, g, i, AMap.wf_setRange _ j _ _ _⟩
    all_goals first | exact h | (split <;> exact h)

/-- A page programmed into a Firn copy. -/
theorem pageStoredStep_wf {d : Dev} (h : Memory.wf d.mem = true) (fail : Bool) :
    Memory.wf (pageStoredStep fail d).mem = true := by
  unfold pageStoredStep
  split
  · exact h
  · split
    · exact h
    · rw [Memory.wf_iff] at h
      obtain ⟨a, b, c, e, f, g, i, j⟩ := h
      dsimp only
      split
      · refine (Memory.wf_iff _).2 ⟨a, b, c, e, ?_, g, i, j⟩
        dsimp only
        generalize hn : 1024 = n
        exact AMap.wf_setRange _ f _ _ _
      · refine (Memory.wf_iff _).2 ⟨a, b, c, e, f, ?_, i, j⟩
        dsimp only
        generalize hn : 1024 = n
        exact AMap.wf_setRange _ g _ _ _

end Sys2Proof.Machine
end

