-- ==== Sys2Proof/Laws/Rest.lean ====
section
/-! SUPPORT. The end of every command leaves nothing in flight: no byte to land, no request to judge, and the store engine with a
page under way, held up by a tally increment, or with nothing to do. -/

namespace Sys2Proof.Machine

/-- What waits to land, to be forgotten or to be judged. -/
def Core.flight (c : Core) : List (Nat × Byte) × List (Nat × Nat × Byte) × List Nat × List StoreReq :=
  (c.firnOut, c.memOut, c.memLost, c.firnU.asked)

/-- The store engine's work: the request in progress and those that wait. -/
def Core.work (c : Core) : Option StoreRun × List StoreReq := (c.firnU.run, c.firnU.waiting)

theorem Core.on_flight (c : Core) (b : Bool) (f : Core → Core) (h : (f c).flight = c.flight) : (c.on b f).flight = c.flight := by
  unfold Core.on; cases b <;> simp [h]

theorem Core.on_work (c : Core) (b : Bool) (f : Core → Core) (h : (f c).work = c.work) : (c.on b f).work = c.work := by
  unfold Core.on; cases b <;> simp [h]

@[simp] theorem Core.wr_flight (c : Core) (f : Fld) (v i k : Nat) : (c.wr f v i k).flight = c.flight := rfl

@[simp] theorem Core.wr_work (c : Core) (f : Fld) (v i k : Nat) : (c.wr f v i k).work = c.work := rfl

theorem Core.storeTold_flight (c : Core) (k r : Nat) : (c.storeTold k r).flight = c.flight := by
  unfold Core.storeTold; split <;> rfl

theorem Core.storeTold_work (c : Core) (k r : Nat) : (c.storeTold k r).work = c.work := by
  unfold Core.storeTold; split <;> rfl

theorem Core.storeJudge_flight (c : Core) (r : StoreReq) : (c.storeJudge r).flight = c.flight := by
  unfold Core.storeJudge
  extract_lets full poor c1 c2
  split
  · rw [Core.storeTold_flight]
    exact Core.on_flight c1 _ _ rfl
  · rfl

theorem Core.storeJudgeAll_flight (c : Core) (h1 : c.firnOut = []) (h2 : c.memOut = []) (h3 : c.memLost = []) :
    c.storeJudgeAll.flight = ([], [], [], []) := by
  unfold Core.storeJudgeAll Core.each
  have : ∀ (l : List StoreReq) (c : Core), (l.foldl Core.storeJudge c).flight = c.flight := by
    intro l
    induction l with
    | nil => exact fun c => rfl
    | cons x r ih => exact fun c => (ih _).trans (Core.storeJudge_flight c x)
  rw [this]
  simp [Core.flight, h1, h2, h3]

theorem Core.storeEnd_flight (c : Core) (x : StoreRun) : (c.storeEnd x).flight = c.flight := by
  unfold Core.storeEnd
  extract_lets _u c1 c2 c3
  rw [Core.storeTold_flight]
  exact (Core.on_flight c2 _ _ rfl).trans ((Core.on_flight c1 _ _ rfl).trans rfl)

theorem Core.storeEnd_work (c : Core) (x : StoreRun) : (c.storeEnd x).work = (none, c.firnU.waiting) := by
  unfold Core.storeEnd
  extract_lets _u c1 c2 c3
  rw [Core.storeTold_work]
  exact (Core.on_work c2 _ _ rfl).trans ((Core.on_work c1 _ _ rfl).trans rfl)

/-- What lands in the front leaves the other queues of what lands, and the store engine's work. -/
theorem Dev.frontLand_keeps (d : Dev) : d.frontLand.core.flight = ([], d.core.memOut, d.core.memLost, d.core.firnU.asked) ∧
    d.frontLand.core.work = d.core.work := by
  unfold Dev.frontLand
  have h : ∀ (l : List (Nat × Byte)) (d : Dev), let e := l.foldl (fun (d : Dev) ab =>
      if d.mem.firn.get 0#8 ab.1 = ab.2 then d
      else { core := d.core.setPage (ab.1 / 1024) { d.core.page (ab.1 / 1024) with dirty := true },
             mem := { d.mem with firn := d.mem.firn.set 0#8 ab.1 ab.2 } }) d
      (e.core.memOut, e.core.memLost, e.core.firnU.asked, e.core.work) =
        (d.core.memOut, d.core.memLost, d.core.firnU.asked, d.core.work) := by
    intro l
    induction l with
    | nil => exact fun d => rfl
    | cons x r ih =>
      intro d
      refine (ih _).trans ?_
      beta_reduce
      split <;> rfl
  have k := h d.core.firnOut d
  simp only [Prod.mk.injEq] at k
  obtain ⟨k1, k2, k3, k4⟩ := k
  exact ⟨by simp only [Core.flight, k1, k2, k3], k4⟩

/-- So does the directory of the loader. -/
theorem Dev.dirLand_keeps (d : Dev) (x : StoreRun) (h : d.core.flight = ([], [], [], [])) :
    (d.dirLand x).core.flight = ([], [], [], []) ∧ (d.dirLand x).core.work = d.core.work := by
  simp only [Core.flight, Prod.mk.injEq] at h
  unfold Dev.dirLand
  split
  · exact ⟨by simp only [Core.flight, h.1, h.2.1, h.2.2.1, h.2.2.2], rfl⟩
  · split
    · exact ⟨by simp only [Core.flight, h.1, h.2.1, h.2.2.1, h.2.2.2], rfl⟩
    · refine ⟨(Dev.frontLand_keeps _).1.trans ?_, (Dev.frontLand_keeps _).2.trans rfl⟩
      simp only [Core.frontWrite, h.2.1, h.2.2.1, h.2.2.2]

/-- The requests that the engine may still begin or end. -/
def Core.load (c : Core) : Nat := 2 * c.firnU.waiting.length + (if c.firnU.run.isSome then 1 else 0)

theorem Core.load_of_work {c d : Core} (h : d.work = c.work) : d.load = c.load := by
  simp only [Core.work, Prod.mk.injEq] at h
  simp [Core.load, h.1, h.2]

/-- With enough steps the engine comes to rest, and nothing that waits to land changes. -/
theorem Dev.storePump_rest (n : Nat) (d : Dev) (hn : d.core.load < n) (hf : d.core.flight = ([], [], [], [])) :
    (Dev.storePump n d).core.atRest = true := by
  induction n generalizing d with
  | zero => omega
  | succ n ih =>
    have hf' := hf
    simp only [Core.flight, Prod.mk.injEq] at hf'
    obtain ⟨f1, f2, f3, f4⟩ := hf'
    unfold Dev.storePump
    split
    · rename_i hr
      split
      · rename_i hw
        simp [Core.atRest, f1, f2, f3, f4, hr, hw]
      · rename_i r rest hw
        refine ih _ ?_ ?_
        · simp [Core.load, hr, hw] at hn ⊢; omega
        · simp [Core.flight, f1, f2, f3, f4]
    · rename_i x hr
      have hend : ∀ e : Dev, e.core.flight = ([], [], [], []) → e.core.work = d.core.work →
          (Dev.storePump n { e with core := e.core.storeEnd x }).core.atRest = true := by
        intro e he hw
        refine ih _ ?_ ?_
        · have hs := Core.storeEnd_work e.core x
          simp only [Core.work, Prod.mk.injEq] at hs hw
          simp [Core.load, hs.1, hs.2, hw.2, hr] at hn ⊢; omega
        · exact (Core.storeEnd_flight e.core x).trans he
      split
      · rename_i hp
        simp [Core.atRest, f1, f2, f3, f4, hr, hp]
      · split
        · exact hend d hf rfl
        · extract_lets e l
          obtain ⟨k1, k2⟩ := Dev.dirLand_keeps d x hf
          generalize l = l
          cases l with
          | nil => exact hend e k1 k2
          | cons p r =>
            simp only [Core.flight, Prod.mk.injEq] at k1
            simp only [Core.work, Prod.mk.injEq, hr] at k2
            dsimp only
            split
            · rename_i hg
              simp [Core.atRest, e, k1.1, k1.2.1, k1.2.2.1, k1.2.2.2, k2.1, show (d.dirLand x).core.firnU.tGo = true from hg]
            · simp [Dev.pageTake, Core.atRest, Core.setPage, e, k1.1, k1.2.1, k1.2.2.1, k1.2.2.2]

theorem Core.firnRegs_flight (c : Core) : c.firnRegs.flight = c.flight := by
  unfold Core.firnRegs
  extract_lets u tal st c1 c2 c3 c4 c5 p
  have h5 : c5.flight = c4.flight := Core.on_flight c4 _ _ (Core.wr_flight _ _ _ _ _)
  refine (Core.on_flight c5 _ _ (Core.wr_flight _ _ _ _ _)).trans (h5.trans ?_)
  exact (Core.wr_flight _ _ _ _ _).trans ((Core.wr_flight _ _ _ _ _).trans
    ((Core.wr_flight _ _ _ _ _).trans (Core.wr_flight _ _ _ _ _)))

theorem Core.firnRegs_work (c : Core) : c.firnRegs.work = c.work := by
  unfold Core.firnRegs
  extract_lets u tal st c1 c2 c3 c4 c5 p
  have h5 : c5.work = c4.work := Core.on_work c4 _ _ (Core.wr_work _ _ _ _ _)
  refine (Core.on_work c5 _ _ (Core.wr_work _ _ _ _ _)).trans (h5.trans ?_)
  exact (Core.wr_work _ _ _ _ _).trans ((Core.wr_work _ _ _ _ _).trans
    ((Core.wr_work _ _ _ _ _).trans (Core.wr_work _ _ _ _ _)))

theorem Core.on_tGo (c : Core) (b : Bool) (f : Core → Core) (h : (f c).firnU.tGo = c.firnU.tGo) :
    (c.on b f).firnU.tGo = c.firnU.tGo := by
  unfold Core.on; cases b <;> simp [h]

theorem Core.firnRegs_tGo (c : Core) : c.firnRegs.firnU.tGo = c.firnU.tGo := by
  unfold Core.firnRegs
  extract_lets u tal st c1 c2 c3 c4 c5 p
  exact (Core.on_tGo c5 _ _ rfl).trans ((Core.on_tGo c4 _ _ rfl).trans rfl)

theorem Core.firnRegs_atRest (c : Core) (h : c.atRest = true) : c.firnRegs.atRest = true := by
  have hf := Core.firnRegs_flight c
  have hw := Core.firnRegs_work c
  have ht := Core.firnRegs_tGo c
  simp only [Core.flight, Core.work, Prod.mk.injEq] at hf hw
  unfold Core.atRest at h ⊢
  rw [hf.1, hf.2.1, hf.2.2.1, hf.2.2.2, hw.1, hw.2, ht]
  exact h

theorem Core.noticeEval_atRest (c : Core) (old : List Nat) (h : c.atRest = true) : (c.noticeEval old).atRest = true := by
  unfold Core.noticeEval
  extract_lets now rise
  split
  · exact h
  · split <;> exact h

/-- Nothing that waits to land is left by the Firn front and the memories. -/
theorem Dev.landed_flight (d : Dev) :
    d.frontLand.memLand.core.firnOut = [] ∧ d.frontLand.memLand.core.memOut = [] ∧ d.frontLand.memLand.core.memLost = [] :=
  ⟨rfl, rfl, rfl⟩

theorem Core.tallyPump_flight (c : Core) : c.tallyPump.flight = c.flight := by
  unfold Core.tallyPump; dsimp only; split <;> rfl

/-- The end of every command leaves nothing in flight. -/
theorem Dev.settle_atRest (d : Dev) : d.settle.core.atRest = true := by
  unfold Dev.settle
  refine Core.firnRegs_atRest _ (Dev.storePump_rest _ _ ?_ ?_)
  · simp only [Core.load]; split <;> omega
  · obtain ⟨h1, h2, h3⟩ := Dev.landed_flight d
    exact (Core.tallyPump_flight _).trans (Core.storeJudgeAll_flight _ h1 h2 h3)

/-- So does every operation that a command carries out. -/
theorem Dev.act_atRest (f : Dev → Dev) (d : Dev) : (d.act f).core.atRest = true :=
  Core.noticeEval_atRest _ _ (Dev.settle_atRest (f d))

end Sys2Proof.Machine
end

