-- ==== Sys2Proof/Laws/Answer.lean ====
section
/-! SUPPORT. What a command answers, by the shape of its meaning: the part after its operation, the queue as it was. -/

namespace Sys2Proof.Machine

/-- An operation on the part answers the part after it. -/
theorem onDev_answers {f : Dev → Dev} {s : State} {P : State → Prop} (h : P { s with dev := s.dev.act f }) :
    Answers (onDev f s) P := ⟨_, rfl, h⟩

/-- An operation that touches no memory. -/
theorem onCore_answers {f : Core → Core} {s : State} {P : State → Prop}
    (h : P { s with dev := s.dev.act (fun d => { d with core := f d.core }) }) : Answers (onCore f s) P := ⟨_, rfl, h⟩

/-- An operation of a block out of reset. -/
theorem onRun_answers {f : Dev → Dev} {s : State} {P : State → Prop} (hr : Running s) (h : P { s with dev := s.dev.act f }) :
    Answers (onRun f s) P := by
  refine onDev_answers ?_
  have : s.dev.act (fun d => if d.core.inReset then d else f d) = s.dev.act f := by
    unfold Dev.act
    simp only [hr]
    rfl
  rw [this]; exact h

/-- The same for an operation that touches no memory. -/
theorem onRunCore_answers {f : Core → Core} {s : State} {P : State → Prop} (hr : Running s)
    (h : P { s with dev := s.dev.act (fun d => { d with core := f d.core }) }) : Answers (onRunCore f s) P :=
  onRun_answers hr h

/-- A command of the host link out of reset. -/
theorem onHost_answers {f : Dev → Dev} {s : State} {P : State → Prop} (hr : Running s) (h : P { s with dev := f s.dev }) :
    Answers (onHost f s) P := by
  refine ⟨_, rfl, ?_⟩
  rw [show s.dev.core.inReset = false from hr]
  exact h

/-- A command of the host link does nothing while the internal reset is held (R418). -/
theorem onHost_held {f : Dev → Dev} {s : State} (hr : s.dev.core.inReset = true) : onHost f s = .next s := by
  unfold onHost; rw [hr]; rfl

/-- Whatever the meaning, the commands that wait stay. -/
theorem onDev_pending (f : Dev → Dev) (s : State) : Answers (onDev f s) fun t => t.pending = s.pending := ⟨_, rfl, rfl⟩
theorem onHost_pending (f : Dev → Dev) (s : State) : Answers (onHost f s) fun t => t.pending = s.pending := ⟨_, rfl, rfl⟩

end Sys2Proof.Machine
end

