-- ==== Sys2Proof/Laws/Hit.lean ====
section
/-! SUPPORT. What a raised fault leaves alone: every register outside the fault collector's block, and every hidden field but the
records being built, their sequence, the escalated units, the units hit and what was in force at the hits (R470, R471, R481). -/

namespace Sys2Proof.Machine

/-- The hidden fields that a hit may not change, gathered by erasing the others. -/
def Core.calm (c : Core) : Core := { c with regs := [], building := [], fltSeq := 0, esc := [], hitUnits := [], hits := [] }

/-- From `c` to `d` nothing but a hit's own effects. -/
def Core.Hit (c d : Core) : Prop := Core.Alike (fun a => ¬ inFlt a) c d ∧ d.calm = c.calm

theorem Core.Hit.refl (c : Core) : Core.Hit c c := ⟨Core.Alike.refl _ c, rfl⟩

theorem Core.Hit.trans {a b c : Core} (h : Core.Hit a b) (k : Core.Hit b c) : Core.Hit a c := ⟨h.1.trans k.1, k.2.trans h.2⟩

theorem Core.Hit.of_eq {c d : Core} (h1 : d.regs = c.regs) (h2 : d.calm = c.calm) : Core.Hit c d := ⟨Core.Alike.of_regs h1, h2⟩

theorem Core.Hit.wr (c : Core) (f : Fld) (v i k : Nat) (hl : f.lo < 32) (ha : inFlt (f.addr i k)) : Core.Hit c (c.wr f v i k) :=
  ⟨Core.Alike.wr c f v i k hl (fun h => h ha), rfl⟩

theorem Core.Hit.on (c : Core) (b : Bool) (f : Core → Core) (h : Core.Hit c (f c)) : Core.Hit c (c.on b f) := by
  unfold Core.on; cases b
  · exact Core.Hit.refl c
  · exact h

theorem Core.Hit.ite {c d e : Core} (q : Prop) [Decidable q] (h1 : Core.Hit c d) (h2 : Core.Hit c e) :
    Core.Hit c (if q then d else e) := by split <;> assumption

theorem Core.Hit.each {α : Type} (l : List α) (f : Core → α → Core) (h : ∀ c x, x ∈ l → Core.Hit c (f c x)) (c : Core) :
    Core.Hit c (c.each l f) := by
  unfold Core.each
  induction l generalizing c with
  | nil => exact Core.Hit.refl c
  | cons x r ih => exact (h c x (by simp)).trans (ih (fun c y hy => h c y (by simp [hy])) (f c x))

theorem inFlt_raw (k : Nat) (h : k < 3) : inFlt (FLT_RAW.hit.addr 0 k) := by unfold inFlt; interval_cases k <;> decide
theorem inFlt_unack (k : Nat) (h : k < 3) : inFlt (FLT_UNACK.unack.addr 0 k) := by unfold inFlt; interval_cases k <;> decide
theorem inFlt_esc (k : Nat) (h : k < 3) : inFlt (FLT_ESC.esc.addr 0 k) := by unfold inFlt; interval_cases k <;> decide
theorem inFlt_guard (k : Nat) (h : k < 3) : inFlt (FLT_GUARD.run.addr 0 k) := by unfold inFlt; interval_cases k <;> decide

theorem inFlt_cnt (n : Nat) (h : n < 96) : inFlt (FLT_SRC_CNT.count.addr n 0) := by unfold inFlt; interval_cases n <;> decide
theorem inFlt_units (n : Nat) (h : n < 96) : inFlt (FLT_SRC_UNIT.units.addr n 0) := by unfold inFlt; interval_cases n <;> decide

theorem Core.wrBit_hit (c : Core) (f : Fld) (b : Nat) (v : Bool) (i k : Nat) (hl : f.lo < 32) (ha : inFlt (f.addr i k)) :
    Core.Hit c (c.wrBit f b v i k) := Core.Hit.wr c f _ i k hl ha

theorem Core.fltRefresh_hit (c : Core) : Core.Hit c c.fltRefresh := by
  unfold Core.fltRefresh
  extract_lets anyUnack escBit nGuard c1 c2 c3
  have h1 : Core.Hit c c1 := Core.Hit.wr _ _ _ _ _ (by decide) (by unfold inFlt; decide)
  have h2 : Core.Hit c c2 := h1.trans (Core.Hit.wr _ _ _ _ _ (by decide) (by unfold inFlt; decide))
  have h3 : Core.Hit c c3 := h2.trans (Core.Hit.each _ _ (fun c k hk =>
    Core.Hit.wr _ _ _ _ _ (by decide) (inFlt_esc k (by simpa using hk))) _)
  exact h3.trans (Core.Hit.wr _ _ _ _ _ (by decide) (by unfold inFlt; decide))

theorem Core.markUnacked_hit (c : Core) (fs unit : Nat) (h : fs < 96) : Core.Hit c (c.markUnacked fs unit) := by
  unfold Core.markUnacked
  extract_lets c1 keep c2
  have h1 : Core.Hit c c1 := Core.Hit.ite _ (Core.wrBit_hit _ _ _ _ _ _ (by decide) (inFlt_units fs h)) (Core.Hit.refl c)
  have h2 : Core.Hit c c2 := h1.trans (Core.Hit.ite _ (Core.Hit.of_eq rfl rfl) (Core.Hit.refl _))
  exact h2.trans (Core.wrBit_hit _ _ _ _ _ _ (by decide) (inFlt_unack _ (by omega)))

theorem Core.recordHit_hit (c : Core) (fs sev action : Nat) (inj sh acted : Bool) (info : Nat) (notify : Bool)
    (acts : List FltAct) (pairs : List (Nat × Nat)) :
    Core.Hit c (c.recordHit fs sev action inj sh acted info notify acts pairs) := by
  unfold Core.recordHit
  split
  · exact Core.Hit.of_eq rfl rfl
  · exact (Core.Hit.wr c FLT_EVENT.merged 1 0 0 (by decide) (by unfold inFlt; decide)).trans (Core.Hit.of_eq rfl rfl)

/-- A detector's assertion changes the fault collector alone. -/
theorem Core.raiseInfo_hit (c : Core) (fs unit info : Nat) (inj : Bool) : Core.Hit c (c.raiseInfo fs unit info inj) := by
  unfold Core.raiseInfo
  by_cases hfs : (fsSpare fs || decide (96 ≤ fs) || c.part.fsAbsent fs || !c.part.fsUnitOk fs info) = true
  · rw [if_pos hfs]; exact Core.Hit.refl c
  rw [if_neg hfs]
  have hlt : fs < 96 := by
    by_contra hc
    exact hfs (by simp; omega)
  have hk : fs / 32 < 3 := by omega
  extract_lets cfgSev action mask sev sh c1 c2 notify act acted acts c3 c4 u c5 starts m c6 c7 c8
  have h1 : Core.Hit c c1 := Core.wrBit_hit _ _ _ _ _ _ (by decide) (inFlt_raw _ hk)
  have h2 : Core.Hit c c2 := h1.trans (Core.Hit.wr _ _ _ _ _ (by decide) (inFlt_cnt fs hlt))
  have h3 : Core.Hit c c3 := h2.trans (Core.Hit.on _ _ _ (Core.Hit.wr _ _ _ _ _ (by decide) (by unfold inFlt; decide)))
  have h4 : Core.Hit c c4 := h3.trans (Core.recordHit_hit _ _ _ _ _ _ _ _ _ _ _)
  have h5 : Core.Hit c c5 := h4.trans (Core.markUnacked_hit _ _ _ hlt)
  have h6 : Core.Hit c c6 := h5.trans (Core.Hit.of_eq rfl rfl)
  have h7 : Core.Hit c c7 := h6.trans (Core.Hit.on _ _ _ (Core.wrBit_hit _ _ _ _ _ _ (by decide) (inFlt_guard _ hk)))
  have h8 : Core.Hit c c8 := h7.trans (Core.Hit.ite _ (Core.Hit.of_eq rfl rfl) (Core.Hit.refl _))
  exact Core.Hit.ite _ h2 (Core.Hit.ite _ h4 (h8.trans (Core.fltRefresh_hit _)))

theorem Core.raise_hit (c : Core) (fs unit : Nat) : Core.Hit c (c.raise fs unit) := Core.raiseInfo_hit c fs unit unit false

end Sys2Proof.Machine
end

