-- ==== Sys2Proof/Machine/Pins.lean ====
section
/-! DEFINITION. The levels of the status pins SP0 to SP15 (R89, R128, R160, R178, R211, R270, R295, R333, R394) and the test
port (R509). -/

namespace Sys2Proof.Machine

/-! ## Status pins -/

/-- The indication that an SP pin shows, its unit and whether the pin is inverted; none without a record (R394). -/
def Core.spIndication (c : Core) (p : Nat) : Option (Nat × Nat × Bool) :=
  let b := Recs.item c.mtl.recs stSpin p
  if b.isEmpty then none else some (fieldLE b 1 1, fieldLE b 2 1, bitOf (fieldLE b 3 1) 0)

/-- An indication of a unit is high, by its code in R394. -/
def Core.indication (c : Core) (code u : Nat) : Bool :=
  match code with
  | 1 => c.candState u = csQualified || c.candState u = csDegrading
  | 2 => c.candState u = csNoSignal
  | 3 => c.candState u = csDegrading
  | 4 => c.rdB REF_STATE.disagree u
  | 8 => c.chState u = chLocked || c.chState u = chEnsemble
  | 9 => c.chState u = chAcquiring
  | 10 => c.chState u = chHoldover
  | 11 => c.chState u = chFreerun
  | 12 => c.rdB CH_STAT.slewing u
  | 13 => c.rdB CH_STAT.fallback u
  | 14 => c.rdB GLC_MDL_STAT.ho_valid u
  | 15 => c.rd GLC_ENS_STAT.rejected u ≠ 0
  | 16 => c.rotState u = rsTracking
  | 17 => c.rotState u = rsCoasting
  | 18 => c.rotState u = rsStopped
  | 24 => c.rsState = sLocked
  | 25 => c.synState u = sLocked
  | 26 => [ocBypLo, ocBypRoot, ocMute].contains (c.rd OUT_STAT.cur u)
  | 27 => c.paState u = paHold
  | 32 => c.laneState u = leUp
  | 33 => c.laneState u = leHold
  | 36 => c.svState u = vsRun
  | 37 => c.svState u = vsFrozen
  | 40 => c.noticeWords.any (fun w => w ≠ 0)
  | _ => false

/-- The level of an SP pin: low without a record, and low while the internal reset is held (R394, R429). -/
def Core.spLevel (c : Core) (p : Nat) : Bool :=
  match c.spIndication p with
  | some x => !c.inReset && xor (c.indication x.1 x.2.1) x.2.2
  | none => false

/-- FAULT_N is low: while the internal reset is held, in a power-fail among others, and while a fault is unacknowledged
(R429, R435, R472). -/
def Core.faultNLow (c : Core) : Bool := c.inReset || c.rdB FLT_STAT.fault_low

/-! ## The test port (R509) -/

/-- IDCODE: the revision index, which is 1 for A1, the part, 0x2D5, and 1. Log entry 118 (PRESUMED). -/
def Part.idcode (p : Part) : Nat :=
  (if p.letter = 0x41 && p.digit = 0x31 then 1 else Config.revIndex p.letter p.digit % 16) * 2 ^ 28 + (match p.variant with | .f1612 => 0x1612 | _ => 0x1624) * 2 ^ 12 + 0x2D5 * 2 + 1

/-- The next state of the controller (IEEE 1149.1). Log entry 118 (PRESUMED). -/
def TapState.next (s : TapState) (tms : Bool) : TapState :=
  match s, tms with
  | .testLogicReset, true => .testLogicReset | .testLogicReset, false => .runTestIdle
  | .runTestIdle, true => .selectDr | .runTestIdle, false => .runTestIdle
  | .selectDr, true => .selectIr | .selectDr, false => .captureDr
  | .captureDr, true => .exit1Dr | .captureDr, false => .shiftDr
  | .shiftDr, true => .exit1Dr | .shiftDr, false => .shiftDr
  | .exit1Dr, true => .updateDr | .exit1Dr, false => .pauseDr
  | .pauseDr, true => .exit2Dr | .pauseDr, false => .pauseDr
  | .exit2Dr, true => .updateDr | .exit2Dr, false => .shiftDr
  | .updateDr, true => .selectDr | .updateDr, false => .runTestIdle
  | .selectIr, true => .testLogicReset | .selectIr, false => .captureIr
  | .captureIr, true => .exit1Ir | .captureIr, false => .shiftIr
  | .shiftIr, true => .exit1Ir | .shiftIr, false => .shiftIr
  | .exit1Ir, true => .updateIr | .exit1Ir, false => .pauseIr
  | .pauseIr, true => .exit2Ir | .pauseIr, false => .pauseIr
  | .exit2Ir, true => .updateIr | .exit2Ir, false => .shiftIr
  | .updateIr, true => .selectDr | .updateIr, false => .runTestIdle

/-- The instruction of an 8-bit code: all ones is BYPASS, the other codes are constants without a value. Log entry 118
(PRESUMED). -/
def tapDecode (w : Nat) : TapInstr :=
  if w = 255 then .bypass else
  match Config.tapCode w with
  | 1 => .idcode | 2 => .sample | 3 => .preload | 4 => .extest | 5 => .extestPulse | 6 => .extestTrain | 7 => .clamp | 8 => .highz
  | _ => .bypass

/-- The length of the data register that an instruction selects. -/
def TapInstr.width : TapInstr → Nat
  | .idcode => 32
  | .bypass | .clamp | .highz => 1
  | _ => Config.tapCells

/-! ## The pins (R28, R429, R496, R509) -/

/-- VDD_ANA or VDD_IO is below power-good: possibly so from the fall of a main rail to the release; which rail fell, and when
it is good again, no command tells (R496). Log entry 136 (DESIGN CHOICE). -/
def Core.railsLow (c : Core) : Bool := c.supply.low && c.inReset && Config.viewNat 0 c.free % 2 = 1

/-- What a pin shows: high impedance while VDD_ANA or VDD_IO is below power-good (R496); else what the instruction of
the test port makes of the level that the part itself gives it: EXTEST, its variants for AC-coupled pins and CLAMP drive
the pin's boundary cell, HIGHZ floats it (R28, R509). Log entry 118 (PRESUMED). -/
def Core.pinOut (c : Core) (pin : Nat) (own : Leg) : Leg :=
  if c.railsLow then .hiZ else
  match c.tap.ir with
  | .extest | .extestPulse | .extestTrain | .clamp => .level (bitOf c.tap.cells (Config.tapCell pin))
  | .highz => .hiZ
  | _ => own

/-- The pins of output `o` at device time `t`. Log entry 118 (PRESUMED). -/
def Core.outPins (c : Core) (o : Nat) (t : Rat) : Leg × Leg :=
  let x := c.outLegs o t
  (c.pinOut (2 * o) x.1, c.pinOut (2 * o + 1) x.2)

/-- The status pin `p`. Log entry 118 (PRESUMED). -/
def Core.spPin (c : Core) (p : Nat) : Leg := c.pinOut (48 + p) (.level (c.spLevel p))

/-- FAULT_N, an open-drain output (R472, R499). Log entry 118 (PRESUMED). -/
def Core.faultPin (c : Core) : Leg := c.pinOut 64 (if c.faultNLow then .low else .hiZ)

/-- ALIVE: low while the internal reset is held (R429, R473). Log entry 118 (PRESUMED). -/
def Core.alivePin (c : Core) : Leg := c.pinOut 65 (.level (c.alive && !c.inReset))

/-- TODOUT0 and TODOUT1, high while no frame is on the line (R209, R429). Log entry 118 (PRESUMED). -/
def Core.todoutPin (c : Core) (k : Nat) : Leg := c.pinOut (66 + k) .high

/-- HIO0 to HIO3, which the part drives in the course of a transaction only (R331, R429). Log entry 118 (PRESUMED). -/
def Core.hioPin (c : Core) (k : Nat) : Leg := c.pinOut (68 + k) .hiZ

/-- HIRQ_N: low while a fault notification is pending on the SPI port (R333, R429). Log entry 118 (PRESUMED). -/
def Core.hirqPin (c : Core) : Leg := c.pinOut 72 (.level (c.inReset || (c.host.ports.get {} 0).waits = 0))

/-- What a serial transmit pair shows: high impedance, a level that the test port gives it, or what the lane sends. -/
inductive PairShows where
  | hiZ | level (b : Bool) | sends (s : LaneSends)
deriving DecidableEq, Repr

/-- A lane's LTX or MTX pair: the lane's own signal, electrical idle while the internal reset is held (R429); under
EXTEST_PULSE and EXTEST_TRAIN the pair's cell with the pulse or train of IEEE 1149.6 (R28, R509). Log entry 118
(PRESUMED). -/
def Core.lanePair (c : Core) (n : Nat) (line : Bool) : PairShows :=
  let cell := bitOf c.tap.cells (Config.tapCell ((if line then 73 else 77) + n))
  if c.railsLow then .hiZ else
  match c.tap.ir with
  | .extest | .clamp => .level cell
  | .extestPulse | .extestTrain => .level (xor cell c.tap.inv)
  | .highz => .hiZ
  | _ => .sends (if c.inReset then .electricalIdle else c.laneSends n line)

/-- The boundary cells as they capture the pins: the level of a pin that stands high or low; the cell of any other pin,
and of an input, is a free value, given as `f`. Log entry 118 (PRESUMED). -/
def Core.tapCapture (c : Core) (f : Nat) : Nat :=
  let put := fun (v pin : Nat) (l : Leg) =>
    match l with
    | .high => putBit v (Config.tapCell pin) true
    | .low => putBit v (Config.tapCell pin) false
    | _ => v
  let v := (List.range c.part.nOut).foldl (fun v o =>
    let x := c.outPins o c.now
    put (put v (2 * o) x.1) (2 * o + 1) x.2) f
  let v := (List.range 16).foldl (fun v p => put v (48 + p) (c.spPin p)) v
  let v := put (put (put v 64 c.faultPin) 65 c.alivePin) 72 c.hirqPin
  let v := (List.range 2).foldl (fun v k => put v (66 + k) (c.todoutPin k)) v
  let v := (List.range 4).foldl (fun v k => put v (68 + k) (c.hioPin k)) v
  [true, false].foldl (fun v line => (List.range c.part.nLane).foldl (fun v n =>
    match c.lanePair n line with
    | .level b => putBit v (Config.tapCell ((if line then 73 else 77) + n)) b
    | _ => v) v) v

/-- What the rising edge of TCK does in the controller's state: capture and shift (IEEE 1149.1, R509). Log entry 118
(PRESUMED). -/
def Core.tapRise (c : Core) (tdi : Bool) : Core :=
  let t := c.tap
  let w := t.ir.width
  let f := c.fresh
  let put := fun (c : Core) (t : Tap) => { c with tap := t }
  match t.state with
  | .captureDr => match t.ir with
    | .idcode => put c { t with dr := c.part.idcode }
    | .bypass | .clamp | .highz => put c { t with dr := 0 }
    | _ => put f.2 { t with dr := c.tapCapture f.1 % 2 ^ w }
  | .shiftDr => put c { t with dr := t.dr / 2 + b2n tdi * 2 ^ (w - 1) }
  | .captureIr => put f.2 { t with irShift := f.1 % 64 * 4 + 1 }
  | .shiftIr => put c { t with irShift := t.irShift / 2 + b2n tdi * 128 }
  | _ => c

/-- What the falling edge of TCK does in the state that the rising edge has led to: the update of the cells or of the
instruction, the reset of the instruction, and the pulse or train of the serial pairs in Run-Test/Idle (IEEE 1149.1,
IEEE 1149.6, R509). Log entry 118 (PRESUMED). -/
def Tap.fall (t : Tap) : Tap :=
  let run := t.state = .runTestIdle
  let t := { t with inv := run && (t.ir = TapInstr.extestPulse || (t.ir = TapInstr.extestTrain && !t.inv)) }
  match t.state with
  | .testLogicReset => { t with ir := .idcode }
  | .updateDr => if 1 < t.ir.width && t.ir ≠ TapInstr.idcode then { t with cells := t.dr } else t
  | .updateIr => { t with ir := tapDecode t.irShift }
  | _ => t

/-- A cycle of TCK, its rising and its falling edge; nothing but the port changes (R509). Log entry 118 (PRESUMED). -/
def Core.tapClock (c : Core) (tms tdi : Bool) : Core :=
  let c := c.tapRise tdi
  { c with tap := Tap.fall { c.tap with state := c.tap.state.next tms } }

/-- TRST_N low resets the port. Log entry 118 (PRESUMED). -/
def Core.tapReset (c : Core) : Core := { c with tap := { c.tap with state := .testLogicReset, ir := .idcode, inv := false } }

/-- TDO: the least significant bit of the register that shifts; otherwise, and while VDD_ANA or VDD_IO is below
power-good, it is not driven (R429, R496). Log entry 118 (PRESUMED). -/
def Core.tdo (c : Core) : Option Bool :=
  if c.railsLow then none else
  match c.tap.state with
  | .shiftDr => some (bitOf c.tap.dr 0)
  | .shiftIr => some (bitOf c.tap.irShift 0)
  | _ => none

end Sys2Proof.Machine
end

