-- ==== Sys2Proof/WellFormed.lean ====
section
/-! DEFINITION. The commands whose operands can arise at the part: bounds that the types of the operands do not already say. -/

namespace Sys2Proof

/-- A stamp or an instant fits device time in phase units: 48 bits of seconds (R35, R37). -/
def Instr.timeOk (t : Nat) : Bool := decide (t < 2 ^ 48 * (1000000000 * 2 ^ 32))

/-- Rows of Tile memory: banks 0 to 15, rows 0 to 127 and the spares 128 to 131, and 1 to 64 words (R311, R316). -/
def Instr.rowsOk (l : List (Nat × Nat × Nat)) : Bool :=
  l.all (fun r => decide (r.1 < 16) && decide (r.2.1 < 132) && decide (1 ≤ r.2.2) && decide (r.2.2 ≤ 64))

/-- A command whose operands the part can meet. The meanings run on every command; this says which ones arise.
Log entry 92 (DESIGN CHOICE). -/
def Instr.wf : Instr → Bool
  -- instants of device time (R37)
  | .refStamp _ t _ | .tachEdge _ t | .tachLate _ t | .flywheelCrossing _ t | .angleClockEdge _ t | .companionStamp _ t
  | .todRawGroup _ t _ | .syncRx _ t _ | .followUpRx _ t _ | .delayReqRx _ t _ | .pdelayReqRx _ t _ | .pdelayRespRx _ t _
  | .esmcPduRx _ _ _ t | .insertedFrame _ t _ | .timEdge _ _ _ t _ => Instr.timeOk t
  | .throughFrame _ _ _ _ rx tTx _ _ => Instr.timeOk rx.1 && decide (rx.2 < 128) && Instr.timeOk tTx
  -- failing rows (R316, R317)
  | .tileTestDone l | .courseMarchDone l => Instr.rowsOk l
  -- packets: a payload of at most 4,096 bytes (R334, R337)
  | .readStatus _ _ _ _ l => decide (l.length ≤ 255)
  | .regWrite _ _ _ _ _ _ l => decide (8 + 4 * l.length ≤ 4096)
  | .bulkWrite _ _ _ _ _ l => decide (8 + l.length ≤ 4096)
  | .echo _ _ _ l => decide (l.length ≤ 4096)
  | _ => true

end Sys2Proof
end

