-- ==== Sys2Proof/Tests/Slice0.lean ====
section
/-! SUPPORT. Tests: ill-formed commands refused, small steps whose results the spec's own examples give, and for every statement
with hypotheses a concrete state and operands that meet them. -/

namespace Sys2Proof.Tests

open Sys2Proof Sys2Proof.Machine

/-! ## Helpers: small states built from the state after reset -/

/-- `s` with its core changed. -/
def onC (s : State) (f : Core → Core) : State := { s with dev := { s.dev with core := f s.dev.core } }

/-- The state after reset with the internal reset released. -/
def awake : State := onC State.reset (fun c => { c with inReset := false })

/-- The core with the internal reset released. -/
def wake (c : Core) : Core := { c with inReset := false }

/-- The state after reset with its core changed by each function in turn. -/
def build (fs : List (Core → Core)) : State := onC State.reset (fun c => fs.foldl (fun c f => f c) c)

/-- A TRACKING rotor whose shaft could just stop at the next tooth: the root of R170 is that of 0. -/
def turning : State := build [
  fun c => (c.wr PAL_ROT_STAT.rstate rsTracking 0).setRot 0 { c.rot 0 with w := 1, tPrev := some 0 },
  fun c => c.wr PAL_ROT_LIM.accel_lim 30 0, wake]

/-- An Ethernet frame with a PTP message of domain 5 (R253, R272). -/
def ptpOf (ty : Nat) (two : Bool) (seq : Nat) (seed : List Byte) (body : List Byte := []) : List Byte :=
  let b := seed ++ List.replicate 64 0#8
  let bd := if body.isEmpty then b.take 40 else b.take 10 ++ body
  let hd := [BitVec.ofNat 8 ty, 0x12#8] ++ bytesBE 2 (34 + bd.length) ++ [5#8, 0#8, (if two then 2#8 else 0#8), 0#8] ++
    bytesBE 8 (fb b 3) ++ bytesBE 4 0 ++ bytesBE 10 (fb b 4 + 7 * 65536) ++ bytesBE 2 seq ++ [0#8, 0#8]
  bytesBE 6 0x011B19000000 ++ [1#8, 2#8, 3#8, 4#8, 5#8, 6#8] ++ [0x88#8, 0xF7#8] ++ hd ++ bd

/-- The same frame sent to the address of profile 3 (R272). -/
def ptpOf3 (ty : Nat) (two : Bool) (seq : Nat) (seed : List Byte) (body : List Byte := []) : List Byte :=
  bytesBE 6 0x0180C200000E ++ (ptpOf ty two seq seed body).drop 6

/-- The engine serves lane `n` as port `n` of domain 0 with profile `prof`. -/
def ptpFix (n prof : Nat) (c : Core) : Core :=
  let c := (c.wr ETH_PTP_CFG.enc 7 n).wr ETH_CFG.domain 1 n
  let c := ((c.wr PTE_DOM_CFG.profile prof 0).wr PTE_DOM_CFG.en 1 0).wr PTE_STAT.run 1
  let c := c.wr PTE_DOM_CFG.number (match prof with | 1 => 24 | 2 => 44 | _ => 5) 0
  let c := ((c.wr RS_STAT.clk_src 0).wr PTE_CLOCK_ID_LO.id_lo 77).wr PTE_CFG.en 1
  let c := [0, 1, 2, 3].foldl (fun c p => c.wr PTE_PORT_CFG.lane p p) c
  let c := (c.wr PTE_PORT_CFG.en 1 n).wr PTE_PORT_CFG.master_only 0 n
  let c := (c.wr ETH_CFG.en 1 n).wr ETH_STAT.state 2 n
  let c := { c with inReset := false }
  let c := c.setPport n { c.pport n with req := none, presp := none, sync := none }
  let c := c.setLane n { c.lane n with evq := [] }
  let c := { c with pte := { c.pte with slots := [(3, some { gSync := some (2, 5) })] } }
  { c with mtl := { c.mtl with recs := c.mtl.recs.set [] (11 * 65536) (List.replicate 20 0#8) } }

/-- The message that lane 0 makes of a frame while the engine serves it with profile `prof`. -/
def msgOn (prof : Nat) (l : List Byte) : Msg := ((onC State.reset (ptpFix 0 prof)).dev.core.msgOf 0 l).getD ⟨[], {}, 0, false, 0⟩

/-- Port `n` follows the sender of `m`. -/
def parentFix (n : Nat) (m : Msg) (c : Core) : Core :=
  let c := c.wr PTE_PORT_STAT.state 9 n
  let c := c.setPport n { c.pport n with parent := some m.src }
  c.setPport n { c.pport n with foreign := [{ m.ann with n := 2 }] }

/-- Servo `sv` serves port `n` in a state. -/
def svFix (sv n : Nat) (st : Nat) (c : Core) : Core :=
  let c := ((c.wr PTE_SV_CFG.en 1 sv).wr PTE_SV_CFG.port n sv).wr PTE_SV_CFG.domain 0 sv
  c.wr PTE_SV_STAT.state st sv

/-- The in-band session is up. -/
def ibFix (c : Core) : Core :=
  let c := ((c.wr ETH_STAT.state 2 0).wr HLK_IB_CFG.en 1).wr HLK_IB_PEER_LO.mac_lo 77
  let c := c.setPort 1 { c.port 1 with rx := [] }
  { c with inReset := false }

/-- Port `p` is free and holds a credit of class `cls`. -/
def portFix (p cls : Nat) (c : Core) : Core :=
  let c := if p = 1 then ibFix c else c
  let c := c.setPort p { c.port p with rx := [], burst := none }
  let c := c.wr (creditFld p cls) (1 + c.dt % creditPool cls)
  { c with inReset := false }

/-- A ToD frame of second 5 (R83). -/
def todFrame : List Byte :=
  let b := [0xA5#8, 0x5A#8, 1#8, 16#8] ++ bytesLE 6 5 ++ [6#8, 0#8] ++ bytesLE 2 37
  b ++ bytesLE 2 (crc16 b)

/-- An ESMC PDU with quality level 2 (R264). -/
def esmcFrame : List Byte := bytesBE 6 0x0180C2000002 ++ List.replicate 6 2#8 ++
  [0x88#8, 0x09#8, 0x0A#8, 0x00#8, 0x19#8, 0xA7#8, 0#8, 1#8, 0x10#8, 0#8, 0#8, 0#8, 1#8, 0#8, 4#8, 2#8]

/-- A partial image without sections (R377, R408). -/
def smallImage : List Byte :=
  let b := [0x4D#8, 0x52#8, 0x54#8, 0x52#8, 1#8, 2#8, 0#8, 0#8] ++ bytesLE 4 68 ++ bytesLE 2 0x1624 ++ List.replicate 46 0#8
  let b := b ++ bytesLE 4 (crc32c b)
  b ++ bytesLE 4 (crc32c b)

/-- A record being built. -/
def aRec : FltRec := {
  fs := 20, sev := 2, action := 0, event := .detect, real := true, inj := false, shadowed := false, acted := false,
  tfrost := false, merge := 0, info := 0, seq := 0, time := 0, mask := 0, notify := true, acts := [], pairs := [(20, 0)] }

/-- A queue item of one word at position 3. -/
def aQItem : QItem := { pos := 3 }

/-- An output of channel 1 of record type 3. -/
def anItem : Item := { rtype := 3, unit := 1, addr := 8, body := [1] }

/-- An output of record type 0x20. -/
def anItem2 : Item := { rtype := 0x20, unit := 1, addr := 3, body := [1] }

/-- A window access that writes word 8 of Tile. -/
def anAccess : IndAcc := { ex := 1, write := true, data := 5, space := 0, addr := 8, inc := true }

/-- A ToD message of second 5. -/
def aTod : TodFrame := { sec := 5, cclass := 6, flags := 0, utc := 37 }

/-- `s` with `smallImage` in the staging buffer. -/
def imageStaged (s : State) : State :=
  { s with dev := { s.dev with mem := { s.dev.mem with staged := AMap.setRange 0#8 [] 0 68 (fun a => smallImage.getD a 0#8) } } }

/-! ## Ill-formed commands are refused -/

theorem test_wf_stamp : (Instr.refStamp 0 (2 ^ 128) 1).wf = false := by decide
theorem test_wf_frame : (Instr.throughFrame 0 true [] true (5, 9) (2 ^ 128) 9 9).wf = false := by decide
theorem test_wf_bank : (Instr.tileTestDone [(16, 0, 1)]).wf = false := by decide
theorem test_wf_row : (Instr.tileTestDone [(3, 132, 1)]).wf = false := by decide
theorem test_wf_words : (Instr.courseMarchDone [(3, 1, 0)]).wf = false ∧ (Instr.courseMarchDone [(3, 1, 65)]).wf = false := by decide
theorem test_wf_status : (Instr.readStatus 0 1 7#16 0#8 (List.replicate 256 0#32)).wf = false := by decide +kernel
theorem test_wf_write : (Instr.regWrite 0 1 7#16 0#32 15#4 false (List.replicate 1023 0#32)).wf = false := by decide +kernel
theorem test_wf_bulk : (Instr.bulkWrite 0 1 7#16 0#8 0#32 (List.replicate 4089 0#8)).wf = false := by decide +kernel
theorem test_wf_echo : (Instr.echo 0 1 7#16 (List.replicate 4097 0#8)).wf = false := by
  simp only [Instr.wf, List.length_replicate]; decide
theorem test_wf_accepts : (Instr.refStamp 0 65536 1).wf = true ∧ (Instr.tileTestDone [(15, 131, 64)]).wf = true := by decide

/-! ## Steps whose results the spec's examples give -/

/-- R335: the CRC of the ASCII string "123456789". -/
theorem test_crc : crc32c ("123456789".toList.map fun ch => BitVec.ofNat 8 ch.toNat) = 0xE3069283 := by decide +kernel

/-- The host link's first example: REG_WRITE of CH2_BW in class 1 with tag 0x0042. -/
def writeBody : List Byte := [0x14#8, 0x20#8, 0x11#8, 0#8, 0x0F#8, 0#8, 1#8, 0#8, 0#8, 0#8, 0x10#8, 0#8]

theorem test_packet_bytes : (packet 0 1 0x11 0x42 0 0 false false writeBody).take 20 =
    [0x11#8, 0x11#8, 0x42#8, 0#8, 0x0C#8, 0#8, 0#8, 0#8, 0x14#8, 0x20#8, 0x11#8, 0#8, 0x0F#8, 0#8, 1#8, 0#8, 0#8, 0#8, 0x10#8, 0#8] := by
  decide

/-- Its response is 51 11 42 00 04 00 00 01 with payload 01 00 00 00. -/
theorem test_packet_answer :
    (match exec (.send (packet 0 1 0x11 0x42 0 0 false false writeBody)) awake with
      | .next t => (t.dev.core.port 0).rs.map (fun b => b.take 12)
      | _ => []) = [[0x51#8, 0x11#8, 0x42#8, 0#8, 4#8, 0#8, 0#8, 1#8, 1#8, 0#8, 0#8, 0#8]] := by decide +kernel

/-- The register model's example: an alias write of CH2_SEL_CFG bit 8 clears revert and leaves manual and preempt. -/
theorem test_alias_write :
    (match exec (.bitAliasWrite 0 0x422400A0#32 1#4 0#32) awake with
      | .next t => [t.dev.core.rd CH_SEL_CFG.revert 2, t.dev.core.rd CH_SEL_CFG.manual 2, t.dev.core.rd CH_SEL_CFG.preempt 2]
      | _ => []) = [0, 0x1F, 1] := by decide +kernel

/-- The same example: a write of CH2_PSTEP_HI with enables 0x3 is a bus error at its address. -/
theorem test_partial_write :
    (match exec (.registerWrite 0 0x00112040#32 3#4 (0#32, false)) awake with
      | .next t => [t.dev.core.rd IDB_BUSERR_ADDR.addr, t.dev.core.rd IDB_BUSERR_STAT.count]
      | _ => []) = [0x00112040, 1] := by decide +kernel

/-- The tally example: H = 25 with sixteen cells programmed reads 416. -/
theorem test_tally : Tally.value { ha := some 25, hb := some 25, u1 := 16 } = 416 := by decide

/-- The first command of the queue runs, and the second waits. -/
theorem test_step_front :
    (match step { awake with pending := [.storeInterval, .dayRollover] } with
      | .next t => t.pending
      | _ => []) = [.dayRollover] := by decide +kernel

/-! ## The hypotheses of the statements can be met -/

/-- The sum of equal bins. -/
theorem foldl_add_replicate (n x a : Nat) : (List.replicate n x).foldl (· + ·) a = a + n * x := by
  induction n generalizing a with
  | zero => simp
  | succ n ih => rw [List.replicate_succ, List.foldl_cons, ih, Nat.succ_mul]; omega

/-- The largest of equal bins. -/
theorem foldl_max_replicate (n x : Nat) : (List.replicate (n + 1) x).foldl max 0 = x := by
  have h : ∀ m : Nat, (List.replicate m x).foldl max x = x := by
    intro m
    induction m with
    | zero => rfl
    | succ m ih => rw [List.replicate_succ, List.foldl_cons, Nat.max_self, ih]
  rw [List.replicate_succ, List.foldl_cons, Nat.zero_max, h]

/-- No equal bin is trimmed when it holds hits. -/
theorem trim_replicate (n x : Nat) (hx : x ≠ 0) :
    ((List.replicate n x).reverse.dropWhile (fun y => decide (y = 0))).reverse = List.replicate n x := by
  rw [List.reverse_replicate]
  cases n with
  | zero => rfl
  | succ n => rw [List.replicate_succ, List.dropWhile_cons_of_neg (by simpa using hx), ← List.replicate_succ, List.reverse_replicate]

/-- A histogram of 2,000 equal bins makes a table (R233). -/
theorem meterHits : (tabOf (List.replicate 2000 600000) (2 ^ 20 * 99)).isSome = true := by
  unfold tabOf
  rw [List.take_replicate, show min 2048 2000 = 2000 from rfl]
  dsimp only
  rw [trim_replicate _ _ (by decide), foldl_add_replicate, foldl_max_replicate 1999, List.length_replicate, if_pos]
  · rfl
  · norm_num [coarse]

/-- The root of 0 has no error. -/
theorem numSqrt_zero : numSqrt 0 = 0 := by
  simp [numSqrt, asHeld]
  left
  decide

/-- The deadline of its next tooth has passed (R170). -/
theorem turning_late : turning.dev.core.rotLate 0 (2 ^ 60) = true := by
  have h : turning.dev.core.rotMayStop 0 = false := by decide +kernel
  have hx : (turning.dev.core.rot 0).w * (turning.dev.core.rot 0).w -
      2 * ((max 1 (turning.dev.core.rd PAL_ROT_LIM.accel_lim 0) : Nat) : Rat) *
        turning.dev.core.rotNextStep 0 (turning.dev.core.rd PAL_ROT_STAT.tooth 0) = 0 := by decide +kernel
  simp only [Core.rotLate, Core.rotDeadline, h, Bool.false_eq_true, if_false, hx, numSqrt_zero]
  decide +kernel

/-- The hypotheses of `Obligations.DeviceTimeLabels`, clause by clause. -/
theorem witness_DeviceTimeLabels :
    (∃ (s : State) (ex : Fin 4), Running s ∧ s.dev.core.indWaits ex.val = false) ∧
    (∃ (s : State), Running s ∧ s.dev.core.rd STG_DT_STAT.src ≠ srcUnset ∧ s.dev.core.setPend = none) ∧
    (∃ (s : State) (v : Nat), Running s ∧ s.dev.core.rd STG_DT_STAT.src ≠ srcUnset ∧ s.dev.core.setPend = some v) ∧
    (∃ (s : State), Running s ∧ s.dev.core.rd STG_STAT.stage = 2 ∧ s.dev.core.rd STG_STAT.step = 2 ∧ s.dev.core.pclk = true) :=
  ⟨⟨awake, 0, by decide⟩,
   ⟨build [wake, fun c => { c with setPend := none }, fun c => c.wr STG_DT_STAT.src 1], by decide⟩,
   ⟨build [wake, fun c => { c with setPend := some 1 }, fun c => c.wr STG_DT_STAT.src 1], 1, by decide⟩,
   ⟨build [wake, fun c => c.wr STG_STAT.stage 2 , fun c => c.wr STG_STAT.step 2 , fun c => c.wr RS_STAT.clk_src 0],
    by decide⟩⟩

/-- The hypotheses of `Obligations.CreditLinks`, clause by clause. -/
theorem witness_CreditLinks :
    (∃ (s : State) (k : Fin 256) (u : Nat), Running s ∧ s.dev.core.part.hasLink k.val = true ∧ ((k.val < 136 → s.dev.core.pclk =
      true)) ∧ (s.dev.core.link k.val).used = u + 1 ∧ (s.dev.core.queue k.val).wait = [] ∧ ((132 ≤ k.val → (s.dev.core.lane
      (k.val - 132)).prod = []))) ∧
    (∃ (s : State) (k : Fin 256), Running s ∧ s.dev.core.part.hasLink k.val = true ∧ ((k.val < 136 → s.dev.core.pclk = true)) ∧
      (s.dev.core.link k.val).used = 0) ∧
    (∃ (s : State) (k : Fin 256) (i : Instr) (parity : Bool), s.dev.core.part.hasLink k.val = false ∧ (i = .creditReturn k ∨ i =
      .linkError k parity)) ∧
    (∃ (s : State) (k : Fin 256), Running s ∧ s.dev.core.part.hasLink k.val = true) ∧
    (∃ (s : State) (k : Fin 256), Running s ∧ (s.dev.core.link k.val).resetPend = true ∧ ((k.val < 136 → s.dev.core.pclk =
      true)) ∧ ((128 ≤ k.val ∨ (s.dev.core.queue k.val).linkQ = [])) ∧ ((132 ≤ k.val → (s.dev.core.lane (k.val - 132)).prod =
      []))) ∧
    (∃ (s : State), Running s) :=
  ⟨⟨build [
      wake,
      fun c => c.setLink 140 { c.link 140 with used := 2 },
      fun c => c.setQueue 140 { c.queue 140 with wait := [] }],
    140, 1, by decide⟩,
   ⟨build [wake, fun c => c.setLink 140 { c.link 140 with used := 0 }], 140, by decide⟩,
   ⟨build [fun c => { c with part := { variant := .c1624 } }], 128, (.creditReturn 128), false, by decide⟩,
   ⟨awake, 140, by decide⟩,
   ⟨build [wake, fun c => c.setLink 140 { c.link 140 with resetPend := true }], 140, by decide⟩,
   ⟨awake, by decide⟩⟩

/-- The hypotheses of `Obligations.ConfigurationWrites`, clause by clause. -/
theorem witness_ConfigurationWrites :
    (∃ (s : State) (i : Fin 24), Running s ∧ i.val < 16 ∧ s.dev.core.rd REF_CFG.en i.val = 0 ∧ s.dev.core.mtl.heldKeys = []) ∧
    (∃ (s : State) (h : Fin 12), Running s ∧ h.val < s.dev.core.part.nCh ∧ s.dev.core.rd CH_CFG.en h.val = 0 ∧
      s.dev.core.mtl.heldKeys = [] ∧ s.dev.core.rd CH_STEER.syn h.val = 0 ∧ s.dev.core.isMaster h.val = false) ∧
    (∃ (s : State) (n : Fin 4), Running s ∧ n.val < s.dev.core.part.nSyn ∧ s.dev.core.rd SYN_CFG.en n.val = 0 ∧
      s.dev.core.mtl.heldKeys = []) ∧
    (∃ (s : State) (o : Fin 24) (data : BitVec 32), Running s ∧ o.val < s.dev.core.part.nOut ∧ s.dev.core.rd OUT_CFG.en o.val =
      0 ∧ s.dev.core.mtl.heldKeys = [] ∧ bits data.toNat 30 28 < 5 ∧ ((bits data.toNat 30 28 = 3 → s.dev.core.bankLow (o.val /
      6) = false))) ∧
    (∃ (s : State) (a : Fin 8), Running s ∧ s.dev.core.rd PAL_PA_CFG.en a.val = 0 ∧ s.dev.core.todHolder 0 = none ∧
      s.dev.core.todHolder 1 = none) ∧
    (∃ (s : State), Running s ∧ s.dev.core.estRun = true ∧ s.dev.core.rd TIM_CFG.en = 0 ∧ s.dev.core.mtl.heldKeys = []) ∧
    (∃ (s : State) (n : Fin 4), Running s ∧ n.val < s.dev.core.part.nLane ∧ s.dev.core.rd ETH_CFG.en n.val = 0 ∧
      s.dev.core.mtl.heldKeys = []) ∧
    (∃ (s : State) (n : Fin 4), Running s ∧ n.val < s.dev.core.part.nLane) :=
  ⟨⟨build [wake, fun c => c.wr REF_CFG.en 0 0, fun c => { c with mtl := { c.mtl with heldKeys := [] } }], 0, by decide⟩,
   ⟨build [
      wake,
      fun c => c.wr CH_CFG.en 0 0,
      fun c => { c with mtl := { c.mtl with heldKeys := [] } },
      fun c => c.wr CH_STEER.syn 0 0],
    0, by decide⟩,
   ⟨build [wake, fun c => c.wr SYN_CFG.en 0 0, fun c => { c with mtl := { c.mtl with heldKeys := [] } }], 0, by decide⟩,
   ⟨build [wake, fun c => c.wr OUT_CFG.en 0 0, fun c => { c with mtl := { c.mtl with heldKeys := [] } }],
    0, 1#32, by decide⟩,
   ⟨build [wake, fun c => c.wr PAL_PA_CFG.en 0 0], 0, by decide⟩,
   ⟨build [
      wake,
      fun c => { c with estRun := true },
      fun c => c.wr TIM_CFG.en 0,
      fun c => { c with mtl := { c.mtl with heldKeys := [] } }],
    by decide⟩,
   ⟨build [wake, fun c => c.wr ETH_CFG.en 0 0, fun c => { c with mtl := { c.mtl with heldKeys := [] } }], 0, by decide⟩,
   ⟨awake, 0, by decide⟩⟩

/-- The hypotheses of `Obligations.EnableLock`, clause by clause. -/
theorem witness_EnableLock :
    (∃ (s : State) (i : Fin 24) (be : BitVec 4), Running s ∧ s.dev.core.part.absentAt (REF_CFG.en.addr i.val 0) = false ∧ be ≠ 0
      ∧ s.dev.core.rd REF_CFG.en i.val = 1) ∧
    (∃ (s : State) (h : Fin 12) (be : BitVec 4), Running s ∧ h.val < s.dev.core.part.nCh ∧ be ≠ 0 ∧ s.dev.core.rd CH_CFG.en
      h.val = 1) ∧
    (∃ (s : State) (h : Fin 12) (be : BitVec 4), Running s ∧ h.val < s.dev.core.part.nCh ∧ be ≠ 0 ∧ s.dev.core.rd
      GLC_MDL_CFG.learn_en h.val = 1) ∧
    (∃ (s : State) (o : Fin 24) (be : BitVec 4) (data : BitVec 32), Running s ∧ o.val < s.dev.core.part.nOut ∧ be ≠ 0 ∧
      s.dev.core.rd OUT_CFG.en o.val = 1 ∧ ((s.dev.core.changesRwe OUT_CFG.row be.toNat data.toNat o.val = true ∨ s.dev.core.rd
      OUT_CFG.std o.val < 5 ∧ (s.dev.core.rd OUT_CFG.std o.val = 3 → s.dev.core.bankLow (o.val / 6) = false)))) ∧
    (∃ (s : State) (a : Fin 8) (be : BitVec 4) (data : BitVec 32), Running s ∧ be ≠ 0 ∧ s.dev.core.rd PAL_PA_CFG.en a.val = 1 ∧
      ((s.dev.core.changesRwe PAL_PA_CFG.row be.toNat data.toNat a.val = true ∨ s.dev.core.rd PAL_PA_CFG.tod_en a.val = 0))) ∧
    (∃ (s : State) (be : BitVec 4), Running s ∧ s.dev.core.estRun = true ∧ be ≠ 0 ∧ s.dev.core.rd TIM_CFG.en = 1) ∧
    (∃ (s : State) (n : Fin 4) (be : BitVec 4), Running s ∧ n.val < s.dev.core.part.nLane ∧ be ≠ 0 ∧ s.dev.core.rd ETH_CFG.en
      n.val = 1) :=
  ⟨⟨build [
      fun c => c.wr REF_CFG.en 1 0,
      fun c => { c.wr REF_CFG.en 1 0 with inReset := false, estRun := true },
      wake],
    0, 1#4, by decide⟩,
   ⟨build [fun c => { c.wr CH_CFG.en 1 0 with inReset := false, estRun := true }, wake], 0, 1#4, by decide⟩,
   ⟨build [fun c => { c.wr GLC_MDL_CFG.learn_en 1 0 with inReset := false, estRun := true }, wake], 0, 1#4, by decide⟩,
   ⟨build [fun c => { c.wr OUT_CFG.en 1 0 with inReset := false, estRun := true }, wake],
    0, 1#4, if 1 = 0 then BitVec.ofNat 32 (State.reset.dev.core.rowWord OUT_CFG.row 0) else 1#32, by decide⟩,
   ⟨build [fun c => { c.wr PAL_PA_CFG.en 1 0 with inReset := false, estRun := true }, wake],
    0, 1#4, if 1 = 0 then BitVec.ofNat 32 (State.reset.dev.core.rowWord PAL_PA_CFG.row 0) else (0x20000000#32), by decide⟩,
   ⟨build [
      fun c => { c with estRun := true },
      fun c => { c.wr TIM_CFG.en 1 0 with inReset := false, estRun := true },
      wake],
    1#4, by decide⟩,
   ⟨build [fun c => { c.wr ETH_CFG.en 1 0 with inReset := false, estRun := true }, wake], 0, 1#4, by decide⟩⟩

/-- The hypotheses of `Obligations.QueueCommands`, clause by clause. -/
theorem witness_QueueCommands :
    (∃ (s : State) (q : Fin 128), Running s ∧ s.dev.core.pclk = true ∧ (s.dev.core.queue q.val).items.all (fun it => decide
      (it.stop ≤ (s.dev.core.queue q.val).rp)) = true) ∧
    (∃ (s : State) (q : Fin 128) (before : List QItem) (after : List QItem) (it : QItem), Running s ∧ s.dev.core.pclk = true ∧
      (s.dev.core.queue q.val).items = before ++ it :: after ∧ before.all (fun j => decide (j.stop ≤ (s.dev.core.queue
      q.val).rp)) = true ∧ (s.dev.core.queue q.val).rp < it.stop) ∧
    (∃ (s : State) (q : Fin 128) (m : Nat), Running s ∧ s.dev.core.pclk = true ∧ (s.dev.core.queue q.val).mark = some m) ∧
    (∃ (s : State) (q : Fin 128) (it : QItem) (rest : List QItem), Running s ∧ s.dev.core.pclk = true ∧ (s.dev.core.queue
      q.val).mark = none ∧ (s.dev.core.queue q.val).items = it :: rest) ∧
    (∃ (s : State) (q : Fin 128), Running s ∧ s.dev.core.pclk = true ∧ s.dev.core.middleSound q.val) ∧
    (∃ (s : State) (q : Fin 128) (m : Nat), Running s ∧ s.dev.core.pclk = true ∧ s.dev.core.middleSound q.val ∧
      (s.dev.core.queue q.val).mark = some m ∧ (s.dev.core.queue q.val).items.any (fun it => it.complete && decide (it.stop ≤
      (s.dev.core.queue q.val).rp ∧ it.pos ≤ m ∧ m < it.stop)) = true) ∧
    (∃ (s : State) (q : Fin 128) (m : Nat), Running s ∧ s.dev.core.pclk = true ∧ s.dev.core.middleSound q.val ∧
      (s.dev.core.queue q.val).mark = some m ∧ (s.dev.core.queue q.val).items.any (fun it => it.complete && decide (it.stop ≤
      (s.dev.core.queue q.val).rp ∧ it.pos ≤ m ∧ m < it.stop)) = false) ∧
    (∃ (s : State), Running s ∧ s.dev.core.pclk = true) ∧
    (∃ (s : State) (q : Fin 128) (ex : Fin 4) (before : List QItem) (after : List QItem) (it : QItem), Running s ∧
      s.dev.core.pclk = true ∧ s.dev.core.indWaits ex.val = false ∧ (s.dev.core.queue q.val).items = before ++ it :: after ∧
      before.all (fun j => decide (j.stop ≤ (s.dev.core.queue q.val).rp)) = true ∧ (s.dev.core.queue q.val).rp < it.stop ∧
      it.flaw = none ∧ s.dev.core.middleSound q.val ∧ s.dev.core.readable (s.dev.core.queue q.val) it = true) ∧
    (∃ (s : State) (q : Fin 128) (ex : Fin 4), Running s ∧ s.dev.core.pclk = true ∧ s.dev.core.indWaits ex.val = false ∧
      (s.dev.core.queue q.val).nextItem.all (fun it => !s.dev.core.readable (s.dev.core.queue q.val) it) = true) ∧
    (∃ (s : State) (ex : Fin 4), Running s ∧ s.dev.core.pclk = false ∧ s.dev.core.indWaits ex.val = false) ∧
    (∃ (s : State) (q : Fin 128) (i : Instr), s.dev.core.pclk = false ∧ (i = .mark q ∨ i = .rewind q ∨ i = .release q ∨ i =
      .flush q ∨ i = .queueWordEnter q ∨ i = .itemReadable q ∨ i = .staleWinEnd q)) :=
  ⟨⟨build [wake, fun c => c.wr RS_STAT.clk_src 0], 0, by decide⟩,
   ⟨build [
      fun c =>
        let c := (({ c with inReset := false } : Core).wr RS_STAT.clk_src 0)
        c.setQueue (0 : Fin 128)
          { c.queue (0 : Fin 128) with items := [] ++ ({ aQItem with len := aQItem.len % 8 + 1 }) :: [], rp := ({ aQItem with len := aQItem.len % 8 + 1 }).pos + ({ aQItem with len := aQItem.len % 8 + 1 }).len / 2 },
      wake],
    0, [], [], ({ aQItem with len := aQItem.len % 8 + 1 }), by decide⟩,
   ⟨build [wake, fun c => c.wr RS_STAT.clk_src 0, fun c => c.setQueue 0 { c.queue 0 with mark := some 1 }], 0, 1, by decide⟩,
   ⟨build [
      wake,
      fun c => c.wr RS_STAT.clk_src 0,
      fun c => c.setQueue 0 { c.queue 0 with mark := none },
      fun c => c.setQueue 0 { c.queue 0 with items := [aQItem] }],
    0, aQItem, [], by decide⟩,
   ⟨build [wake, fun c => c.wr RS_STAT.clk_src 0], 0, by decide⟩,
   ⟨build [
      wake,
      fun c => c.wr RS_STAT.clk_src 0,
      fun c => c.setQueue 0 { c.queue 0 with mark := some 1 },
      fun c => c.setQueue (0 : Fin 128)
        { c.queue (0 : Fin 128) with rp := 1 + 6, items := [{ pos := 1, addr := 0, words := [1,2], len := 2, readable := true, mid := false }] ++ (c.queue (0 : Fin 128)).items }],
    0, 1, by decide⟩,
   ⟨build [wake, fun c => c.wr RS_STAT.clk_src 0, fun c => c.setQueue 0 { c.queue 0 with mark := some 1 }], 0, 1, by decide⟩,
   ⟨build [wake, fun c => c.wr RS_STAT.clk_src 0], by decide⟩,
   ⟨build [
      fun c =>
        let c := (({ c with inReset := false } : Core).wr RS_STAT.clk_src 0)
        c.setQueue (0 : Fin 128)
          { c.queue (0 : Fin 128) with items := ([] : List QItem).map (fun j => { j with mid := false }) ++ ({ aQItem with flaw := none, readable := true, mid := false, len := aQItem.len % 8 + 1 }) :: [], rp := ({ aQItem with flaw := none, readable := true, mid := false, len := aQItem.len % 8 + 1 }).pos + ({ aQItem with flaw := none, readable := true, mid := false, len := aQItem.len % 8 + 1 }).len / 2 },
      wake],
    0, 0, [], [], ({ aQItem with flaw := none, readable := true, mid := false, len := aQItem.len % 8 + 1 }), by decide⟩,
   ⟨build [wake, fun c => c.wr RS_STAT.clk_src 0], 0, 0, by decide⟩,
   ⟨build [fun c => c.wr RS_STAT.clk_src 1, wake], 0, by decide⟩,
   ⟨State.reset,
    0, [Instr.mark (0 : Fin 128), .rewind (0 : Fin 128), .release (0 : Fin 128), .flush (0 : Fin 128), .queueWordEnter (0 : Fin
      128), .itemReadable (0 : Fin 128), .staleWinEnd (0 : Fin 128)].getD 0 (.mark (0 : Fin 128)), by decide⟩⟩

/-- The hypotheses of `Obligations.QueueTail`, clause by clause. -/
theorem witness_QueueTail :
    (∃ (s : State) (q : Fin 128) (it : Item) (rest : List Item), Running s ∧ s.dev.core.pclk = true ∧ (s.dev.core.queue
      q.val).wait = [] ∧ (s.dev.core.queue q.val).torn = none ∧ (s.dev.core.link q.val).used = 0 ∧ (s.dev.core.link
      q.val).resetPend = false ∧ s.dev.core.heldBack q.val 0 it = false ∧ s.dev.core.outbox = it :: rest ∧
      s.dev.core.streamQueue it.rtype it.unit = some q.val ∧ rtDrop it.rtype = false) ∧
    (∃ (s : State) (q : Fin 128) (a : Nat) (w : Nat) (rest : List (Nat × Nat)), Running s ∧ s.dev.core.pclk = true ∧
      (s.dev.core.queue q.val).linkQ = (a, w) :: rest ∧ s.dev.core.rd QMG_Q_CFG.en q.val = 1 ∧ bitOf w 126 = true ∧
      (s.dev.core.queue q.val).items = [] ∧ (s.dev.core.link q.val).used ≠ 0) ∧
    (∃ (s : State) (q : Fin 128) (a : Nat) (w : Nat) (rest : List (Nat × Nat)), Running s ∧ s.dev.core.pclk = true ∧
      (s.dev.core.queue q.val).linkQ = (a, w) :: rest ∧ s.dev.core.rd QMG_Q_CFG.en q.val = 0) ∧
    (∃ (s : State) (q : Fin 128) (it : QItem), Running s ∧ s.dev.core.pclk = true ∧ (s.dev.core.queue q.val).items.any
      s.dev.core.itemHeld = false ∧ (s.dev.core.queue q.val).items.find? (fun it => it.complete && !it.readable) = some it) ∧
    (∃ (s : State) (q : Fin 128), Running s ∧ s.dev.core.pclk = true ∧ s.dev.core.rd QMG_Q_STAT.stale_win q.val = 1 ∧
      (s.dev.core.queue q.val).epochHeld = none) ∧
    (∃ (s : State) (q : Fin 128) (e : Nat), Running s ∧ s.dev.core.pclk = true ∧ s.dev.core.rd QMG_Q_STAT.stale_win q.val = 1 ∧
      (s.dev.core.queue q.val).epochHeld = some e) ∧
    (∃ (s : State) (q : Fin 128) (it : Item) (rest : List Item), Running s ∧ s.dev.core.pclk = true ∧ s.dev.core.fltBuf = [] ∧
      (s.dev.core.queue q.val).wait = [] ∧ (s.dev.core.queue q.val).torn = none ∧ (s.dev.core.link q.val).resetPend = false ∧
      s.dev.core.heldBack q.val 0 it = false ∧ s.dev.core.outbox = it :: rest ∧ s.dev.core.streamQueue it.rtype it.unit = some
      q.val ∧ rtDrop it.rtype = true ∧ 8 < (s.dev.core.link q.val).used + (itemWords it.rtype (it.epoch.getD
      (s.dev.core.queueEpoch q.val)) it.body).length) ∧
    (∃ (s : State) (q : Fin 128) (it : Item) (rest : List Item), Running s ∧ s.dev.core.pclk = true ∧ s.dev.core.fltBuf = [] ∧
      (s.dev.core.queue q.val).wait = [] ∧ (s.dev.core.queue q.val).torn = none ∧ (s.dev.core.link q.val).resetPend = false ∧
      s.dev.core.heldBack q.val 0 it = false ∧ s.dev.core.outbox = it :: rest ∧ s.dev.core.streamQueue it.rtype it.unit = some
      q.val ∧ rtDrop it.rtype = true ∧ (s.dev.core.link q.val).used + (itemWords it.rtype (it.epoch.getD (s.dev.core.queueEpoch
      q.val)) it.body).length ≤ 8) :=
  ⟨⟨build [
      wake,
      fun c => c.wr RS_STAT.clk_src 0,
      fun c => c.setQueue 0 { c.queue 0 with wait := [] },
      fun c => c.setQueue 0 { c.queue 0 with torn := none },
      fun c => c.setLink 0 { c.link 0 with used := 0 },
      fun c => c.setLink 0 { c.link 0 with resetPend := false },
      fun c => { c with outbox := anItem :: [] },
      fun c => { c with streams := [⟨3, 1, 0⟩], outbox := [anItem] }],
    0, anItem, [], by decide⟩,
   ⟨build [
      wake,
      fun c => c.wr RS_STAT.clk_src 0,
      fun c => c.setQueue 0 { c.queue 0 with linkQ := (1, (2 ^ 126 : Nat)) :: [] },
      fun c => c.wr QMG_Q_CFG.en 1 0,
      fun c => c.setQueue 0 { c.queue 0 with items := [] },
      fun c => c.setLink 0 { c.link 0 with used := 2 },
      fun c => c.setQueue 0 { c.queue 0 with linkQ := (1, (2 ^ 126 : Nat)) :: [] }],
    0, 1, 2 ^ 126, [], by decide⟩,
   ⟨build [
      wake,
      fun c => c.wr RS_STAT.clk_src 0,
      fun c => c.setQueue 0 { c.queue 0 with linkQ := [(1, 1)] },
      fun c => c.wr QMG_Q_CFG.en 0 0],
    0, 1, 1, [], by decide⟩,
   ⟨build [
      wake,
      fun c => c.wr RS_STAT.clk_src 0,
      fun c => c.setQueue 0
        { c.queue 0 with items := [{ pos := 3, words := [1] }, { pos := 12, words := [1], len := 1, readable := false, mid := false }] }],
    0, ({ pos := 3, words := [1] }), by decide⟩,
   ⟨build [
      wake,
      fun c => c.wr RS_STAT.clk_src 0,
      fun c => c.wr QMG_Q_STAT.stale_win 1 0,
      fun c => c.setQueue 0 { c.queue 0 with epochHeld := none }],
    0, by decide⟩,
   ⟨build [
      wake,
      fun c => c.wr RS_STAT.clk_src 0,
      fun c => c.wr QMG_Q_STAT.stale_win 1 0,
      fun c => c.setQueue 0 { c.queue 0 with epochHeld := some 1 }],
    0, 1, by decide⟩,
   ⟨build [
      fun c =>
        let c : Core := { c with inReset := false, fltBuf := [], streams := [⟨0x20, 1, 0⟩], outbox := [anItem2] }
        let c := (c.setLink 0 { c.link 0 with used := 5 + 3, resetPend := false }).wr RS_STAT.clk_src 0
        c.setQueue 0 { c.queue 0 with wait := [], torn := none },
      wake],
    0, anItem2, [], by decide⟩,
   ⟨build [
      fun c =>
        let c : Core := { c with inReset := false, fltBuf := [], streams := [⟨0x20, 1, 0⟩], outbox := [anItem2] }
        let c := (c.setLink 0 { c.link 0 with used := 3, resetPend := false }).wr RS_STAT.clk_src 0
        c.setQueue 0 { c.queue 0 with wait := [], torn := none },
      wake],
    0, anItem2, [], by decide⟩⟩

/-- The hypotheses of `Obligations.CandidateStates`, clause by clause. -/
theorem witness_CandidateStates :
    (∃ (s : State) (i : Fin 24), Running s ∧ s.dev.core.part.cand i.val = true ∧ s.dev.core.candDisabled i.val = none ∧
      candRunning (s.dev.core.candState i.val) = true) ∧
    (∃ (s : State) (i : Fin 24), Running s ∧ s.dev.core.part.cand i.val = true ∧ s.dev.core.candState i.val = csObserving ∧
      s.dev.core.candDisabled i.val = none ∧ s.dev.core.candFailing i.val = none ∧ (s.dev.core.cand i.val).passed = true ∧
      (s.dev.core.cand i.val).freqBad = false) ∧
    (∃ (s : State) (i : Fin 24), Running s ∧ s.dev.core.part.cand i.val = true ∧ s.dev.core.candState i.val = csDisqualified ∧
      s.dev.core.candDisabled i.val = none ∧ s.dev.core.candFailing i.val = none) ∧
    (∃ (s : State) (i : Fin 24), Running s ∧ s.dev.core.part.cand i.val = true ∧ s.dev.core.candState i.val = csDisqualified ∧
      s.dev.core.candDisabled i.val = none ∧ s.dev.core.candFailing i.val = none) ∧
    (∃ (s : State) (i : Fin 24), Running s ∧ s.dev.core.part.cand i.val = true ∧ s.dev.core.candState i.val = csObserving ∧
      s.dev.core.candDisabled i.val = none ∧ s.dev.core.candFailing i.val = none ∧ (s.dev.core.cand i.val).passed = true ∧
      (s.dev.core.cand i.val).freqBad = false) ∧
    (∃ (s : State) (i : Fin 24), Running s ∧ s.dev.core.part.cand i.val = true ∧ s.dev.core.candDisabled i.val = none ∧
      candRunning (s.dev.core.candState i.val) = true) ∧
    (∃ (s : State) (i : Fin 24), Running s ∧ s.dev.core.part.cand i.val = true) :=
  ⟨⟨build [
      wake,
      fun c => (({ c with estRun := true }.setCand 0 { c.cand 0 with inReset := false }).wr REF_CFG.en 1 0).wr REF_STATE.state 2
        0,
      fun c => { ((c.wr REF_CFG.en 1 0).wr REF_NOM_LO.nom_lo 256000000 0).wr REF_CTRL.force_disq 0 0 with estRun := true }],
    0, by decide⟩,
   ⟨build [
      wake,
      fun c => c.wr REF_STATE.state csObserving 0,
      fun c => c.setCand 0 { c.cand 0 with passed := true },
      fun c => c.setCand 0 { c.cand 0 with freqBad := false },
      fun c => (({ c with estRun := true }.setCand 0
        { c.cand 0 with inReset := false, overrun := false, pwRun := 0, rejHit := false }).wr REF_CFG.en 1 0).wr
        REF_CTRL.force_disq 0 0,
      fun c => { ((c.wr REF_CFG.en 1 0).wr REF_NOM_LO.nom_lo 256000000 0).wr REF_CTRL.force_disq 0 0 with estRun := true }],
    0, by decide⟩,
   ⟨build [
      wake,
      fun c => c.wr REF_STATE.state csDisqualified 0,
      fun c => (({ c with estRun := true }.setCand 0
        { c.cand 0 with inReset := false, overrun := false, pwRun := 0, rejHit := false, freqBad := false }).wr REF_CFG.en 1
        0).wr REF_CTRL.force_disq 0 0,
      fun c => { ((c.wr REF_CFG.en 1 0).wr REF_NOM_LO.nom_lo 256000000 0).wr REF_CTRL.force_disq 0 0 with estRun := true }],
    0, by decide⟩,
   ⟨build [
      wake,
      fun c => c.wr REF_STATE.state csDisqualified 0,
      fun c => (({ c with estRun := true }.setCand 0
        { c.cand 0 with inReset := false, overrun := false, pwRun := 0, rejHit := false, freqBad := false }).wr REF_CFG.en 1
        0).wr REF_CTRL.force_disq 0 0,
      fun c => { ((c.wr REF_CFG.en 1 0).wr REF_NOM_LO.nom_lo 256000000 0).wr REF_CTRL.force_disq 0 0 with estRun := true }],
    0, by decide⟩,
   ⟨build [
      wake,
      fun c => c.wr REF_STATE.state csObserving 0,
      fun c => c.setCand 0 { c.cand 0 with passed := true },
      fun c => c.setCand 0 { c.cand 0 with freqBad := false },
      fun c => (({ c with estRun := true }.setCand 0
        { c.cand 0 with inReset := false, overrun := false, pwRun := 0, rejHit := false }).wr REF_CFG.en 1 0).wr
        REF_CTRL.force_disq 0 0,
      fun c => { ((c.wr REF_CFG.en 1 0).wr REF_NOM_LO.nom_lo 256000000 0).wr REF_CTRL.force_disq 0 0 with estRun := true }],
    0, by decide⟩,
   ⟨build [
      wake,
      fun c => (({ c with estRun := true }.setCand 0 { c.cand 0 with inReset := false }).wr REF_CFG.en 1 0).wr REF_STATE.state 2
        0,
      fun c => { ((c.wr REF_CFG.en 1 0).wr REF_NOM_LO.nom_lo 256000000 0).wr REF_CTRL.force_disq 0 0 with estRun := true }],
    0, by decide⟩,
   ⟨awake, 0, by decide⟩⟩

/-- The hypotheses of `Obligations.StampsAndGates`, clause by clause. -/
theorem witness_StampsAndGates :
    (∃ (s : State) (i : Fin 24) (t : Nat) (l : Nat), Running s ∧ i.val < 20 ∧ s.dev.core.part.cand i.val = true ∧
      s.dev.core.candState i.val ≠ csDisabled ∧ s.dev.core.rckClock i.val = true ∧ (s.dev.core.cand i.val).last = some l ∧ 0 ≤
      (s.dev.core.cand i.val).since t ∧ (s.dev.core.cand i.val).since t < 320 * 65536) ∧
    (∃ (s : State) (i : Fin 24), Running s ∧ i.val < 20 ∧ s.dev.core.part.cand i.val = true ∧ s.dev.core.candState i.val ≠
      csDisabled ∧ s.dev.core.candDisabled i.val = none ∧ s.dev.core.rckClock i.val = true ∧ (s.dev.core.cand i.val).last =
      none) ∧
    (∃ (s : State) (i : Fin 24) (n : Nat) (t : Nat) (d : Rat), Running s ∧ candRunning (s.dev.core.candState i.val) = true ∧
      (s.dev.core.cand i.val).gateDone = some (n, d, t)) ∧
    (∃ (s : State) (a : Fin 24) (b : Fin 24), Running s ∧ a.val < b.val ∧ s.dev.core.compared a.val b.val = true ∧
      s.dev.core.pairDisagrees a.val b.val = true ∧ s.dev.core.pairs.get {} (pairKey a.val b.val) =
      { run := 3, marked := false }) :=
  ⟨⟨build [
      wake,
      fun c => c.setCand 0 { c.cand 0 with last := some 1 },
      fun c => if 16 ≤ 0 then (c.wr ETH_STAT.l_sync 1 (0 - 16)).wr ETH_STAT.state 2 (0 - 16) else c,
      fun c => (c.wr REF_STATE.state 2 0).setCand 0 { c.cand 0 with last := some 1, late := 1 }],
    0, 1, 1, by decide +kernel⟩,
   ⟨build [
      wake,
      fun c => c.setCand 0 { c.cand 0 with last := none },
      fun c => if 16 ≤ 0 then (c.wr ETH_STAT.l_sync 1 (0 - 16)).wr ETH_STAT.state 2 (0 - 16) else c,
      fun c => (({ c with estRun := true }.setCand 0 { c.cand 0 with inReset := false, last := none }).wr REF_CFG.en 1 0).wr
        REF_STATE.state 2 0,
      fun c => { ((c.wr REF_CFG.en 1 0).wr REF_NOM_LO.nom_lo 256000000 0).wr REF_CTRL.force_disq 0 0 with estRun := true }],
    0, by decide⟩,
   ⟨build [
      wake,
      fun c => c.setCand 0 { c.cand 0 with gateDone := some (1, 1, 1) },
      fun c => c.wr REF_STATE.state 3 0],
    0, 1, 1, 1, by decide⟩,
   ⟨build [
      fun c =>
        { (((c.wr REF_DIS_CFG.freq_lim 1 0).wr REF_DIS_CFG.freq_lim 1 1).wr REF_STATE.state 3 0).wr REF_STATE.state 3 1 with inReset := false },
      fun c => c.setCand 0 { c.cand 0 with y := 100000000 },
      fun c => { c with pairs := c.pairs.set {} (pairKey 0 1) { run := 3, marked := false } }],
    0, 1, by decide⟩⟩

/-- The hypotheses of `Obligations.QualityLevels`, clause by clause. -/
theorem witness_QualityLevels :
    (∃ (s : State) (lane : Fin 4) (i : Fin 24), Running s ∧ s.dev.core.part.cand i.val = true ∧ s.dev.core.rd REF_QL_CFG.src
      i.val = 1 ∧ s.dev.core.rd REF_QL_CFG.src_idx i.val = lane.val) ∧
    (∃ (s : State) (i : Fin 24), Running s ∧ s.dev.core.part.cand i.val = true ∧ s.dev.core.rd REF_QL_CFG.src i.val = 3 ∧
      s.dev.core.rd REF_QL_CFG.tod_raw i.val = 0) ∧
    (∃ (s : State) (pin : Fin 2) (i : Fin 24) (bytes : List Byte), Running s ∧ s.dev.core.part.cand i.val = true ∧ s.dev.core.rd
      REF_QL_CFG.src i.val = 3 ∧ s.dev.core.rd REF_QL_CFG.src_idx i.val = pin.val ∧ s.dev.core.rd REF_QL_CFG.tod_raw i.val = 0 ∧
      s.dev.core.todRoom pin.val bytes = true ∧ fieldLE bytes 0 2 = 0x5AA5 ∧ (todParse bytes).isSome = true) ∧
    (∃ (s : State) (pin : Fin 2) (i : Fin 24) (bytes : List Byte), Running s ∧ s.dev.core.part.cand i.val = true ∧ s.dev.core.rd
      REF_QL_CFG.src i.val = 3 ∧ s.dev.core.rd REF_QL_CFG.src_idx i.val = pin.val ∧ s.dev.core.rd REF_QL_CFG.tod_raw i.val = 0 ∧
      s.dev.core.todRoom pin.val bytes = true ∧ fieldLE bytes 0 2 = 0x5AA5 ∧ todParse bytes = none) ∧
    (∃ (s : State) (i : Fin 24) (f : TodFrame), Running s ∧ (s.dev.core.cand i.val).tod = some f) ∧
    (∃ (s : State) (pin : Fin 2) (i : Fin 24) (b : Byte) (bytes : List Byte) (q : Nat), Running s ∧ s.dev.core.pclk = true ∧
      s.dev.core.part.cand i.val = true ∧ s.dev.core.rd REF_QL_CFG.src i.val = 3 ∧ s.dev.core.rd REF_QL_CFG.src_idx i.val =
      pin.val ∧ s.dev.core.rd REF_QL_CFG.tod_raw i.val = 1 ∧ s.dev.core.todRoom pin.val ((b :: bytes).take 105) = true ∧
      s.dev.core.streamQueue 0x12 i.val = some q) :=
  ⟨⟨build [wake, fun c => c.wr REF_QL_CFG.src 1 0, fun c => c.wr REF_QL_CFG.src_idx 0 0], 0, 0, by decide⟩,
   ⟨build [wake, fun c => c.wr REF_QL_CFG.src 3 0, fun c => c.wr REF_QL_CFG.tod_raw 0 0], 0, by decide⟩,
   ⟨build [
      wake,
      fun c => c.wr REF_QL_CFG.src 3 0,
      fun c => c.wr REF_QL_CFG.src_idx 0 0,
      fun c => c.wr REF_QL_CFG.tod_raw 0 0,
      fun c => c.wr REF_QL_CFG.src_idx 0 0],
    0, 0, todFrame, by decide +kernel⟩,
   ⟨build [
      wake,
      fun c => c.wr REF_QL_CFG.src 3 0,
      fun c => c.wr REF_QL_CFG.src_idx 0 0,
      fun c => c.wr REF_QL_CFG.tod_raw 0 0],
    0, 0, [0xA5#8, 0x5A#8], by decide⟩,
   ⟨build [wake, fun c => c.setCand 0 { c.cand 0 with tod := some aTod }], 0, aTod, by decide⟩,
   ⟨build [
      wake,
      fun c => c.wr RS_STAT.clk_src 0,
      fun c => c.wr REF_QL_CFG.src 3 0,
      fun c => c.wr REF_QL_CFG.src_idx 0 0,
      fun c => c.wr REF_QL_CFG.tod_raw 1 0,
      fun c => { c with streams := [⟨0x12, 255, 1⟩] }],
    0, 0, 1#8, [], 1, by decide⟩⟩

/-- The hypotheses of `Obligations.ChannelForces`, clause by clause. -/
theorem witness_ChannelForces :
    (∃ (s : State) (h : Fin 12), Running s ∧ h.val < s.dev.core.part.nCh ∧ s.dev.core.rd CH_CFG.en h.val = 1 ∧
      s.dev.core.inRst.contains (1, h.val) = false ∧ ((chRunning (s.dev.core.chState h.val) = true ∨ s.dev.core.chState h.val =
      chHoldover))) ∧
    (∃ (s : State) (h : Fin 12), Running s ∧ h.val < s.dev.core.part.nCh ∧ s.dev.core.rd CH_CFG.en h.val = 1 ∧
      s.dev.core.inRst.contains (1, h.val) = false ∧ s.dev.core.rd CH_CTRL.force_fr h.val = 0 ∧ s.dev.core.rd CH_STAT.ho_valid
      h.val = 1 ∧ chRunning (s.dev.core.chState h.val) = true) ∧
    (∃ (s : State) (h : Fin 12), Running s ∧ h.val < s.dev.core.part.nCh ∧ s.dev.core.rd CH_CFG.en h.val = 1 ∧
      s.dev.core.inRst.contains (1, h.val) = false ∧ s.dev.core.rd CH_CTRL.force_fr h.val = 0 ∧ s.dev.core.rd CH_STAT.ho_valid
      h.val = 0 ∧ chRunning (s.dev.core.chState h.val) = true) ∧
    (∃ (s : State) (h : Fin 12), Running s ∧ h.val < s.dev.core.part.nCh ∧ s.dev.core.rd CH_CFG.en h.val = 1) ∧
    (∃ (s : State) (h : Fin 12), Running s ∧ h.val < s.dev.core.part.nCh ∧ s.dev.core.rd CH_CFG.en h.val = 0) ∧
    (∃ (s : State) (h : Fin 12) (v : Bool) (b : Bool) (i : Instr), Running s ∧ h.val < s.dev.core.part.nCh ∧ s.dev.core.rd
      CH_CFG.en h.val = 0 ∧ (i = .forceHo h v ∨ i = .hoRelease h ∨ i = .poolAbort h b)) ∧
    (∃ (s : State) (h : Fin 12) (ex : Fin 4), Running s ∧ h.val < s.dev.core.part.nCh ∧ s.dev.core.rd CH_CFG.en h.val = 0 ∧
      s.dev.core.indWaits ex.val = false) :=
  ⟨⟨build [wake, fun c => c.wr CH_CFG.en 1 0, fun c => c.wr CH_STAT.state 2 0], 0, by decide⟩,
   ⟨build [
      wake,
      fun c => c.wr CH_CFG.en 1 0,
      fun c => c.wr CH_CTRL.force_fr 0 0,
      fun c => c.wr CH_STAT.ho_valid 1 0,
      fun c => c.wr CH_STAT.state 2 0],
    0, by decide⟩,
   ⟨build [
      wake,
      fun c => c.wr CH_CFG.en 1 0,
      fun c => c.wr CH_CTRL.force_fr 0 0,
      fun c => c.wr CH_STAT.ho_valid 0 0,
      fun c => c.wr CH_STAT.state 2 0],
    0, by decide⟩,
   ⟨build [wake, fun c => c.wr CH_CFG.en 1 0], 0, by decide⟩,
   ⟨build [wake, fun c => c.wr CH_CFG.en 0 0], 0, by decide⟩,
   ⟨build [fun c => { c.wr CH_CFG.en 0 0 with inReset := false }, wake],
    Fin.ofNat 12 0, false, false, if false then .forceHo (0 : Fin 12) false else if false then .hoRelease (0 : Fin 12) else
      .poolAbort (0 : Fin 12) false, by decide⟩,
   ⟨build [fun c => { c.wr CH_CFG.en 0 0 with inReset := false, inds := [] }, wake], 0, 0, by decide⟩⟩

/-- The hypotheses of `Obligations.ChannelAdjustments`, clause by clause. -/
theorem witness_ChannelAdjustments :
    (∃ (s : State) (h : Fin 12) (ex : Fin 4), Running s ∧ h.val < s.dev.core.part.nCh ∧ s.dev.core.rd CH_CFG.en h.val = 1 ∧
      s.dev.core.rd CH_CFG.kind h.val = 0 ∧ s.dev.core.chState h.val ≠ chDisabled ∧ s.dev.core.indWaits ex.val = false) ∧
    (∃ (s : State) (h : Fin 12), Running s ∧ h.val < s.dev.core.part.nCh ∧ s.dev.core.rd CH_CFG.en h.val = 1 ∧
      (((s.dev.core.chan h.val).passPool ≠ 0 ∨ (s.dev.core.chan h.val).hostPool ≠ 0))) ∧
    (∃ (s : State) (h : Fin 12), Running s ∧ h.val < s.dev.core.part.nCh ∧ s.dev.core.rd CH_CFG.en h.val = 1 ∧ (s.dev.core.chan
      h.val).passPool = 0 ∧ (s.dev.core.chan h.val).hostPool = 0) ∧
    (∃ (s : State) (h : Fin 12) (be : BitVec 4) (data : BitVec 32), Running s ∧ h.val < s.dev.core.part.nCh ∧ be.toNat.testBit 0
      = true ∧ s.dev.core.manOk h.val (bits data.toNat 4 0) = true) ∧
    (∃ (s : State) (h : Fin 12) (be : BitVec 4) (data : BitVec 32), Running s ∧ h.val < s.dev.core.part.nCh ∧ be.toNat.testBit 0
      = true ∧ s.dev.core.manOk h.val (bits data.toNat 4 0) = false) :=
  ⟨⟨build [
      fun c => { (c.wr CH_CFG.en 1 0 |>.wr CH_CFG.kind 0 0 |>.wr CH_STAT.state 2 0) with inReset := false, inds := [] },
      wake,
      fun c => c.wr CH_STAT.state 1 0],
    0, 0, by decide⟩,
   ⟨build [wake, fun c => c.wr CH_CFG.en 1 0, fun c => c.setChan 0 { c.chan 0 with passPool := 5, hostPool := 0 }],
    0, by decide⟩,
   ⟨build [
      wake,
      fun c => c.wr CH_CFG.en 1 0,
      fun c => c.setChan 0 { c.chan 0 with passPool := 0 },
      fun c => c.setChan 0 { c.chan 0 with hostPool := 0 }],
    0, by decide⟩,
   ⟨build [wake, fun c => c.wr CH_ROUTE.mask (2^24-1) 0], 0, 1#4, 1#32, by decide⟩,
   ⟨awake, 0, 1#4, 1#32, by decide⟩⟩

/-- The hypotheses of `Obligations.LoopTransitions`, clause by clause. -/
theorem witness_LoopTransitions :
    (∃ (s : State) (h : Fin 12) (b : Nat), Running s ∧ h.val < s.dev.core.part.nCh ∧ s.dev.core.rd CH_CFG.en h.val = 1 ∧
      s.dev.core.inRst.contains (1, h.val) = false ∧ s.dev.core.chForced h.val = false ∧ ((s.dev.core.chState h.val = chFreerun
      ∨ s.dev.core.chState h.val = chHoldover)) ∧ s.dev.core.chFirst h.val = some b ∧ (s.dev.core.cand b).restart = false) ∧
    (∃ (s : State) (h : Fin 12), Running s ∧ h.val < s.dev.core.part.nCh ∧ s.dev.core.rd CH_CFG.en h.val = 1 ∧
      s.dev.core.inRst.contains (1, h.val) = false ∧ s.dev.core.chForced h.val = false ∧ ((s.dev.core.chState h.val =
      chAcquiring ∨ s.dev.core.chState h.val = chLocked)) ∧ s.dev.core.chUsables h.val = [] ∧ s.dev.core.rd CH_STAT.ho_valid
      h.val = 1) ∧
    (∃ (s : State) (h : Fin 12), Running s ∧ h.val < s.dev.core.part.nCh ∧ s.dev.core.rd CH_CFG.en h.val = 1 ∧
      s.dev.core.inRst.contains (1, h.val) = false ∧ s.dev.core.chForced h.val = false ∧ ((s.dev.core.chState h.val =
      chAcquiring ∨ s.dev.core.chState h.val = chLocked)) ∧ s.dev.core.chUsables h.val = [] ∧ s.dev.core.rd CH_STAT.ho_valid
      h.val = 0) :=
  ⟨⟨build [
      wake,
      fun c => c.wr CH_CFG.en 1 0,
      fun c => c.setCand 1 { c.cand 1 with restart := false },
      fun c => ((((((c.wr CH_STAT.state (if 1 = 0 then 1 else 4) 0).wr CH_ROUTE.mask (2^24-1) 0).wr CH_SEL_CFG.manual 1 0).wr
        REF_STATE.state 3 1).wr CH_CTRL.force_fr 0 0).wr CH_CTRL.force_ho 0 0).wr CH_STAT.flt_hold 0 0,
      fun c => (c.setCand 1 { c.cand 1 with restart := false }).wr CH_PRIO.p 0x11111111 0 (1/8)],
    0, 1, by decide⟩,
   ⟨build [
      wake,
      fun c => c.wr CH_CFG.en 1 0,
      fun c => c.wr CH_STAT.ho_valid 1 0,
      fun c => ((((c.wr CH_STAT.state 2 0).wr CH_ROUTE.mask 0 0).wr CH_CTRL.force_fr 0 0).wr CH_CTRL.force_ho 0 0).wr
        CH_STAT.flt_hold 0 0],
    0, by decide⟩,
   ⟨build [
      wake,
      fun c => c.wr CH_CFG.en 1 0,
      fun c => c.wr CH_STAT.ho_valid 0 0,
      fun c => ((((c.wr CH_STAT.state 2 0).wr CH_ROUTE.mask 0 0).wr CH_CTRL.force_fr 0 0).wr CH_CTRL.force_ho 0 0).wr
        CH_STAT.flt_hold 0 0],
    0, by decide⟩⟩

/-- The hypotheses of `Obligations.GlacierSamples`, clause by clause. -/
theorem witness_GlacierSamples :
    (∃ (s : State) (h : Fin 12) (r : SecRun) (k : Nat), Running s ∧ (s.dev.core.glc h.val).done = some r ∧ s.dev.core.glcSkip
      h.val r = some k) ∧
    (∃ (s : State) (h : Fin 12) (r : SecRun), Running s ∧ (s.dev.core.glc h.val).done = some r ∧ s.dev.core.glcSkip h.val r =
      none) :=
  ⟨⟨build [
      fun c =>
        let c : Core := { c with inReset := false }
        (c.setGlc 0 { c.glc 0 with done := some ({}) }).wr GLC_MDL_CFG.learn_en 0 0,
      wake],
    0, ({}), 1, by decide⟩,
   ⟨build [
      wake,
      fun c => c.setGlc 0 { c.glc 0 with done := some ({}) },
      fun c => (((c.setGlc 0 { c.glc 0 with done := some ({}), tNow := true, settled := 100000 }).wr GLC_MDL_CFG.learn_en 1
        0).wr GLC_RES_LIM.res_lim 0xFFFFFFFF 0).wr GLC_MDL_CFG.terms 0 0],
    0, ({}), by decide⟩⟩

/-- The hypotheses of `Obligations.GlacierModels`, clause by clause. -/
theorem witness_GlacierModels :
    (∃ (s : State) (h : Fin 12), Running s ∧ h.val < s.dev.core.part.nCh ∧ s.dev.core.glcReady = true) ∧
    (∃ (s : State) (h : Fin 12), Running s ∧ h.val < s.dev.core.part.nCh ∧ s.dev.core.rd GLC_MDL_CFG.learn_en h.val = 0 ∧
      s.dev.core.glcReady = true) ∧
    (∃ (s : State) (h : Fin 12), Running s ∧ h.val < s.dev.core.part.nCh ∧ s.dev.core.rd GLC_MDL_CFG.learn_en h.val = 1) ∧
    (∃ (s : State) (h : Fin 12), Running s ∧ h.val < s.dev.core.part.nCh ∧ s.dev.core.glcReady = true) ∧
    (∃ (s : State) (h : Fin 12) (b : Bool) (i : Instr), Running s ∧ h.val < s.dev.core.part.nCh ∧ s.dev.core.glcReady = false ∧
      (i = .clear h b ∨ i = .declare h b ∧ s.dev.core.rd GLC_MDL_CFG.learn_en h.val = 0)) ∧
    (∃ (s : State), Running s ∧ 86400 ≤ s.dev.core.secInDay ∧ (s.dev.core.tally (s.dev.core.rd GLC_AGE_CFG.tally)).failed =
      false) ∧
    (∃ (s : State) (h : Fin 12), Running s ∧ h.val < s.dev.core.part.nCh ∧ s.dev.core.rd GLC_MDL_CFG.learn_en h.val = 0 ∧
      s.dev.core.glcReady = true) :=
  ⟨⟨build [wake, fun c => { c with glcReady := true }], 0, by decide⟩,
   ⟨build [wake, fun c => c.wr GLC_MDL_CFG.learn_en 0 0, fun c => { c with glcReady := true }], 0, by decide⟩,
   ⟨build [wake, fun c => c.wr GLC_MDL_CFG.learn_en 1 0], 0, by decide⟩,
   ⟨build [wake, fun c => { c with glcReady := true }], 0, by decide⟩,
   ⟨build [fun c => { c.wr GLC_MDL_CFG.learn_en 0 0 with inReset := false, glcReady := false }, wake],
    0, false, if 0 = 0 then .clear (0 : Fin 12) false else .declare (0 : Fin 12) false, by decide⟩,
   ⟨build [
      wake,
      fun c => ({ c with secInDay := 86400 } : Core).setTally (c.rd GLC_AGE_CFG.tally)
        { c.tally (c.rd GLC_AGE_CFG.tally) with failed := false }],
    by decide⟩,
   ⟨build [wake, fun c => c.wr GLC_MDL_CFG.learn_en 0 0, fun c => { c with glcReady := true }], 0, by decide⟩⟩

/-- The hypotheses of `Obligations.GlacierRecords`, clause by clause. -/
theorem witness_GlacierRecords :
    (∃ (s : State) (h : Fin 12), Running s ∧ h.val < s.dev.core.part.nCh ∧ s.dev.core.firnOut = []) ∧
    (∃ (s : State), Running s ∧ s.dev.core.firnOut = [] ∧ s.dev.core.rd GLC_STORE_CFG.int_ ≠ 0 ∧ s.dev.core.glcReady = true) :=
  ⟨⟨build [wake, fun c => { c with firnOut := [] }], 0, by decide⟩,
   ⟨build [wake, fun c => { c with firnOut := [] }, fun c => { c with glcReady := true }], by decide⟩⟩

/-- The hypotheses of `Obligations.Temperatures`, clause by clause. -/
theorem witness_Temperatures :
    (∃ (s : State), Running s) ∧
    (∃ (s : State) (h : Fin 12), Running s ∧ h.val < s.dev.core.part.nCh ∧ s.dev.core.glcTempTerm h.val = true ∧ (s.dev.core.glc
      h.val).tNow = false) ∧
    (∃ (s : State) (k : Fin 9) (v : BitVec 16), Running s ∧ k.val < 8 ∧ v.toNat ≠ 0x8000) ∧
    (∃ (s : State) (v : BitVec 16), Running s ∧ s.dev.core.oscTemp (v.toNat % 4096) = none) :=
  ⟨⟨awake, by decide⟩,
   ⟨build [wake, fun c => c.setGlc 0 { c.glc 0 with tNow := false }], 0, by decide⟩,
   ⟨awake, 0, 1#16, by decide⟩,
   ⟨awake, 1#16, by decide⟩⟩

/-- The hypotheses of `Obligations.EnsembleMembers`, clause by clause. -/
theorem witness_EnsembleMembers :
    (∃ (s : State) (h : Fin 12) (data : BitVec 32), Running s ∧ h.val < s.dev.core.part.nCh ∧ s.dev.core.manOk h.val (bits
      data.toNat 4 0) = true ∧ s.dev.core.manOk h.val (bits data.toNat 12 8) = true ∧ s.dev.core.manOk h.val (bits data.toNat 20
      16) = true ∧ s.dev.core.manOk h.val (bits data.toNat 28 24) = true) ∧
    (∃ (s : State) (h : Fin 12) (data : BitVec 32), Running s ∧ h.val < s.dev.core.part.nCh ∧ s.dev.core.manOk h.val (bits
      data.toNat 4 0) = false) ∧
    (∃ (s : State) (h : Fin 12), Running s ∧ h.val < s.dev.core.part.nCh ∧ s.dev.core.rd CH_CFG.en h.val = 1) ∧
    (∃ (s : State) (h : Fin 12) (m : Fin 4), Running s ∧ ((s.dev.core.glc h.val).members.getD m.val {}).rejected = true ∧ m.val
      < (s.dev.core.glc h.val).members.length ∧ s.dev.core.chState h.val ≠ chEnsemble ∧ s.dev.core.chUsable h.val
      (s.dev.core.ensCand h.val m.val) = true ∧ s.dev.core.ensDev h.val m.val (s.dev.core.chan h.val).lastW ≤ ((s.dev.core.rd
      GLC_ENS_CFG.out_lim h.val * 1024 : Nat) : Rat) / 2 * 2 ^ 32) :=
  ⟨⟨build [wake, fun c => c.wr CH_ROUTE.mask (2^24-1) 0], 0, 1#32, by decide⟩,
   ⟨awake, 0, 1#32, by decide⟩,
   ⟨build [wake, fun c => c.wr CH_CFG.en 1 0], 0, by decide⟩,
   ⟨build [
      wake,
      fun c => ((c.setGlc 0
        { c.glc 0 with members := [{rejected := true},{rejected := true},{rejected := true},{rejected := true}] }).wr
        CH_ROUTE.mask (2^24-1) 0).wr GLC_ENS_CFG.out_lim 0xFFFFFF 0,
      fun c => (((c.wr GLC_ENS_MEM.m0 1 0).wr GLC_ENS_MEM.m1 2 0).wr GLC_ENS_MEM.m2 3 0).wr GLC_ENS_MEM.m3 4 0,
      fun c => ((((c.wr CH_PRIO.p 0x11111111 0 0).wr REF_STATE.state 3 1).wr REF_STATE.state 3 2).wr REF_STATE.state 3 3).wr
        REF_STATE.state 3 4],
    0, 0, by decide +kernel⟩⟩

/-- The hypotheses of `Obligations.RotorStates`, clause by clause. -/
theorem witness_RotorStates :
    (∃ (s : State) (h : Fin 12) (t : Nat), Running s ∧ s.dev.core.rotState h.val = rsStopped ∧ (s.dev.core.rot
      h.val).lastStamp.all (fun l => decide (l + 320 * 65536 ≤ t)) = true ∧ s.dev.core.rd CH_CTRL.force_fr h.val = 0 ∧
      s.dev.core.pclk = true) ∧
    (∃ (s : State) (h : Fin 12) (t : Nat), Running s ∧ h.val < s.dev.core.part.nCh ∧ s.dev.core.rotState h.val = rsTracking ∧
      s.dev.core.rotLate h.val t = true) ∧
    (∃ (s : State) (h : Fin 12), Running s ∧ ((s.dev.core.rotState h.val = rsSyncing ∨ ((s.dev.core.rotState h.val = rsCoasting
      ∨ s.dev.core.rotState h.val = rsTracking) ∧ s.dev.core.rotMayStop h.val = true)))) ∧
    (∃ (s : State) (h : Fin 12), Running s ∧ s.dev.core.rotState h.val = rsCoasting ∧ s.dev.core.rotHeld h.val = false) ∧
    (∃ (s : State) (h : Fin 12), Running s ∧ h.val < s.dev.core.part.nCh ∧ s.dev.core.rotState h.val = rsTracking) :=
  ⟨⟨build [
      wake,
      fun c => c.wr PAL_ROT_STAT.rstate rsStopped 0,
      fun c => c.wr CH_CTRL.force_fr 0 0,
      fun c => c.wr RS_STAT.clk_src 0,
      fun c => c.wr PAL_ROT_STAT.rstate rsStopped 0],
    0, 1, by decide⟩,
   ⟨turning, 0, 2 ^ 60, by decide, by decide, by decide, turning_late⟩,
   ⟨build [
      wake,
      fun c => (c.wr PAL_ROT_STAT.rstate (if 0 = 0 then rsSyncing else rsCoasting) 0).setRot 0
        { c.rot 0 with w := 0, tPrev := some (c.now) }],
    0, by decide⟩,
   ⟨build [
      wake,
      fun c => c.wr PAL_ROT_STAT.rstate rsCoasting 0,
      fun c => (((c.wr PAL_ROT_STAT.rstate rsCoasting 0).wr CH_CTRL.force_ho 0 0).wr CH_STAT.flt_hold 0 0).setRot 0
        { c.rot 0 with tPrev := some (c.now) }],
    0, by decide⟩,
   ⟨build [
      wake,
      fun c => c.wr PAL_ROT_STAT.rstate rsTracking 0,
      fun c => (c.wr PAL_ROT_STAT.rstate rsTracking 0).setRot 0
        { c.rot 0 with w := 10, alpha := 0, a := 1, nextZ := 2, tPrev := some (c.now) }],
    0, by decide⟩⟩

/-- The hypotheses of `Obligations.RotorEdges`, clause by clause. -/
theorem witness_RotorEdges :
    (∃ (s : State) (h : Fin 12) (t : Nat) (l : Nat) (p : Nat), Running s ∧ s.dev.core.rotState h.val ≠ rsOff ∧ (s.dev.core.rot
      h.val).lastStamp = some l ∧ l ≤ t ∧ t - l < 320 * 65536 ∧ s.dev.core.tachPin h.val = some p) ∧
    (∃ (s : State) (h : Fin 12), Running s ∧ s.dev.core.rotState h.val = rsSyncing ∧ s.dev.core.rd PAL_ROT_CFG.zref h.val = 1) ∧
    (∃ (s : State) (h : Fin 12), Running s ∧ s.dev.core.rotState h.val = rsCoasting ∧ s.dev.core.rd PAL_ROT_STAT.fly h.val = 1 ∧
      s.dev.core.rd PAL_ROT_STAT.dir h.val = 0) ∧
    (∃ (s : State) (h : Fin 12) (t : Nat), Running s ∧ s.dev.core.rotState h.val = rsTracking ∧ s.dev.core.rd PAL_ROT_STAT.fly
      h.val = 0 ∧ (s.dev.core.rd PAL_ROT_AC.ppr h.val : Rat) * |(s.dev.core.rot h.val).w| ≤ 62500000 ∧ (s.dev.core.rot
      h.val).edgeFrom ≤ s.dev.core.rotEdgeAng h.val t) ∧
    (∃ (s : State) (h : Fin 12) (t : Nat) (l : Rat), Running s ∧ s.dev.core.rotState h.val = rsTracking ∧ s.dev.core.rd
      PAL_ROT_STAT.fly h.val = 0 ∧ 62500000 < (s.dev.core.rd PAL_ROT_AC.ppr h.val : Rat) * |(s.dev.core.rot h.val).w| ∧
      (s.dev.core.rot h.val).edgeFrom ≤ s.dev.core.rotEdgeAng h.val t ∧ (s.dev.core.rot h.val).lastEdge = some l ∧
      s.dev.core.rotEdgeDue h.val t - l < 16 * 65536) ∧
    (∃ (s : State) (h : Fin 12) (t : Nat), Running s ∧ s.dev.core.rotState h.val = rsTracking ∧ (s.dev.core.rot h.val).fStart =
      true ∧ s.dev.core.rotEdgeAng h.val t < (s.dev.core.rot h.val).edgeFrom) :=
  ⟨⟨build [
      fun c =>
        let c : Core := { c with inReset := false, tach := c.tach.set 0 0 2 }
        (c.wr PAL_ROT_STAT.rstate (1 + (1 + 1 : Nat) % 4) 0).setRot 0 { c.rot 0 with lastStamp := some 1 },
      wake],
    0, 1 + 1, 1, 1, by decide⟩,
   ⟨build [
      wake,
      fun c => c.wr PAL_ROT_STAT.rstate rsSyncing 0,
      fun c => c.wr PAL_ROT_CFG.zref 1 0,
      fun c => (c.wr PAL_ROT_STAT.rstate rsSyncing 0)],
    0, by decide⟩,
   ⟨build [
      wake,
      fun c => c.wr PAL_ROT_STAT.rstate rsCoasting 0,
      fun c => c.wr PAL_ROT_STAT.fly 1 0,
      fun c => c.wr PAL_ROT_STAT.dir 0 0,
      fun c => (c.wr PAL_ROT_STAT.rstate rsCoasting 0)],
    0, by decide⟩,
   ⟨build [
      wake,
      fun c => c.wr PAL_ROT_STAT.rstate rsTracking 0,
      fun c => c.wr PAL_ROT_STAT.fly 0 0,
      fun c => (((c.wr PAL_ROT_STAT.rstate rsTracking 0).wr PAL_ROT_STAT.fly 0 0).wr PAL_ROT_AC.ppr 64 0).setRot 0
        { c.rot 0 with w := 10, alpha := 0, tPrev := some (c.now), edgeFrom := 0 }],
    0, 1, by decide +kernel⟩,
   ⟨build [
      fun c =>
        let c : Core := { c with inReset := false }
        (((c.wr PAL_ROT_STAT.rstate rsTracking 0).wr PAL_ROT_STAT.fly 0 0).setRot 0
          { c.rot 0 with w := 62500001, edgeFrom := -1 }).wr PAL_ROT_AC.ppr 64 0,
      fun c => c.setRot 0
        { c.rot 0 with lastEdge := some ((((onC State.reset (fun c => let c : Core := { c with inReset := false }; (((c.wr PAL_ROT_STAT.rstate rsTracking 0).wr PAL_ROT_STAT.fly 0 0).setRot 0 { c.rot 0 with w := 62500001, edgeFrom := -1 }).wr PAL_ROT_AC.ppr 64 0) : State)).dev.core.rotEdgeDue 0 1 - 100 : Rat)) },
      wake],
    0, 1, ((onC State.reset (fun c => let c : Core := { c with inReset := false }; (((c.wr PAL_ROT_STAT.rstate rsTracking 0).wr
      PAL_ROT_STAT.fly 0 0).setRot 0 { c.rot 0 with w := 62500001, edgeFrom := -1 }).wr PAL_ROT_AC.ppr 64 0) :
      State)).dev.core.rotEdgeDue 0 1 - 100, by decide +kernel⟩,
   ⟨build [
      wake,
      fun c => c.wr PAL_ROT_STAT.rstate rsTracking 0,
      fun c => c.setRot 0 { c.rot 0 with fStart := true },
      fun c => (c.wr PAL_ROT_STAT.rstate rsTracking 0).setRot 0 { c.rot 0 with fStart := true, edgeFrom := 10^9 }],
    0, 1, by decide +kernel⟩⟩

/-- The hypotheses of `Obligations.RootStates`, clause by clause. -/
theorem witness_RootStates :
    (∃ (s : State), Running s ∧ s.dev.core.rsState = sCal) ∧
    (∃ (s : State) (count : BitVec 32), Running s ∧ s.dev.core.rsState = sAcq ∧ (s.dev.core.syn 4).inWin = 3 ∧ inWindow
      count.toNat (s.dev.core.rd RS_LOCK_CFG.win) = true) ∧
    (∃ (s : State) (count : BitVec 32), Running s ∧ s.dev.core.rsState = sAcq ∧ inWindow count.toNat (s.dev.core.rd
      RS_LOCK_CFG.win) = false) ∧
    (∃ (s : State), Running s ∧ s.dev.core.rsState = sAcq) ∧
    (∃ (s : State), Running s ∧ s.dev.core.rsState = sLocked ∧ s.dev.core.rd RS_STAT.lo_ok = 1) ∧
    (∃ (s : State), Running s ∧ s.dev.core.rd RS_STAT.lo_ok = 1 ∧ ((s.dev.core.rsState = sCal ∨ s.dev.core.rsState = sAcq ∨
      s.dev.core.rsState = sLocked))) ∧
    (∃ (s : State), Running s ∧ s.dev.core.rd RS_STAT.lo_ok = 0 ∧ s.dev.core.rsState = sUnlocked) :=
  ⟨⟨build [wake, fun c => c.wr RS_STAT.state sCal], by decide⟩,
   ⟨build [
      fun c => ({ (c.wr RS_STAT.state sAcq).setSyn 4 { c.syn 4 with inWin := 3 } with inReset := false } : Core),
      wake],
    65536#32, by decide⟩,
   ⟨build [wake, fun c => c.wr RS_STAT.state sAcq], 1#32, by decide⟩,
   ⟨build [wake, fun c => c.wr RS_STAT.state sAcq], by decide⟩,
   ⟨build [wake, fun c => c.wr RS_STAT.state sLocked, fun c => c.wr RS_STAT.lo_ok 1 ], by decide⟩,
   ⟨build [wake, fun c => c.wr RS_STAT.lo_ok 1 , fun c => c.wr RS_STAT.state 2], by decide⟩,
   ⟨build [wake, fun c => c.wr RS_STAT.lo_ok 0 , fun c => c.wr RS_STAT.state sUnlocked], by decide⟩⟩

/-- The hypotheses of `Obligations.SynthesiserStates`, clause by clause. -/
theorem witness_SynthesiserStates :
    (∃ (s : State) (n : Fin 4), Running s ∧ n.val < s.dev.core.part.nSyn ∧ s.dev.core.synState n.val = sCal) ∧
    (∃ (s : State) (n : Fin 4) (count : BitVec 32), Running s ∧ n.val < s.dev.core.part.nSyn ∧ s.dev.core.synState n.val = sAcq
      ∧ (s.dev.core.syn n.val).inWin = 3 ∧ inWindow count.toNat (s.dev.core.rd SYN_LOCK_CFG.win n.val) = true) ∧
    (∃ (s : State) (n : Fin 4), Running s ∧ n.val < s.dev.core.part.nSyn ∧ s.dev.core.synState n.val = sAcq) ∧
    (∃ (s : State) (n : Fin 4), Running s ∧ n.val < s.dev.core.part.nSyn ∧ s.dev.core.synState n.val = sLocked ∧ s.dev.core.rd
      SYN_CFG.en n.val = 1 ∧ s.dev.core.rsLocked = true ∧ s.dev.core.inRst = []) ∧
    (∃ (s : State) (n : Fin 4), Running s ∧ n.val < s.dev.core.part.nSyn ∧ s.dev.core.rd SYN_STAT.commit_pend n.val = 1) ∧
    (∃ (s : State) (n : Fin 4) (m : Fin 6), Running s ∧ n.val < s.dev.core.part.nSyn ∧ s.dev.core.rd SYN_STAT.commit_pend n.val
      = 0 ∧ (List.range 6).all (fun m => s.dev.core.stageOk n.val m) = true ∧ s.dev.core.synState n.val ≠ sLocked) ∧
    (∃ (s : State) (n : Fin 4), Running s ∧ n.val < s.dev.core.part.nSyn ∧ s.dev.core.rd SYN_STAT.commit_pend n.val = 0 ∧
      (List.range 6).all (fun m => s.dev.core.stageOk n.val m) = true ∧ s.dev.core.synState n.val = sLocked ∧ (s.dev.core.syn
      n.val).returned = true) ∧
    (∃ (s : State) (n : Fin 4), Running s ∧ n.val < s.dev.core.part.nSyn ∧ s.dev.core.rd SYN_STAT.commit_pend n.val = 1) ∧
    (∃ (s : State) (n : Fin 4), Running s ∧ n.val < s.dev.core.part.nSyn ∧ s.dev.core.synState n.val = sLocked ∧ (s.dev.core.syn
      n.val).returned = false ∧ (s.dev.core.syn n.val).retPend = false) ∧
    (∃ (s : State) (n : Fin 4) (m : Fin 6), Running s ∧ n.val < s.dev.core.part.nSyn ∧ (s.dev.core.syn n.val).retPend = true ∧
      s.dev.core.rd OUT_CFG.force_byp (6 * n.val + m.val) = 0) ∧
    (∃ (s : State) (n : Fin 4), Running s ∧ n.val < s.dev.core.part.nSyn ∧ s.dev.core.synState n.val = sLocked) :=
  ⟨⟨build [wake, fun c => c.wr SYN_STAT.state sCal 0], 0, by decide⟩,
   ⟨build [
      fun c => ({ (c.wr SYN_STAT.state sAcq 0).setSyn 0 { c.syn 0 with inWin := 3 } with inReset := false } : Core),
      wake],
    0, 65536#32, by decide⟩,
   ⟨build [wake, fun c => c.wr SYN_STAT.state sAcq 0], 0, by decide⟩,
   ⟨build [
      wake,
      fun c => c.wr SYN_STAT.state sLocked 0,
      fun c => c.wr SYN_CFG.en 1 0,
      fun c => c.wr RS_STAT.state sLocked,
      fun c => { c with inRst := [] },
      fun c => (c.wr SYN_STAT.state sLocked 0).wr RS_STAT.state sLocked],
    0, by decide⟩,
   ⟨build [wake, fun c => c.wr SYN_STAT.commit_pend 1 0], 0, by decide⟩,
   ⟨build [
      wake,
      fun c => c.wr SYN_STAT.commit_pend 0 0,
      fun c => c.each (List.range 6) (fun c m => c.wr SYN_DIV_STAGE.div 0 0 (0 : Fin 6))],
    0, 0, by decide⟩,
   ⟨build [
      wake,
      fun c => c.wr SYN_STAT.commit_pend 0 0,
      fun c => c.wr SYN_STAT.state sLocked 0,
      fun c => c.setSyn 0 { c.syn 0 with returned := true },
      fun c => (c.each (List.range 6) (fun c m => c.wr SYN_DIV_STAGE.div 0 0 m)).wr SYN_STAT.state sLocked 0],
    0, by decide⟩,
   ⟨build [wake, fun c => c.wr SYN_STAT.commit_pend 1 0], 0, by decide⟩,
   ⟨build [
      wake,
      fun c => c.wr SYN_STAT.state sLocked 0,
      fun c => c.setSyn 0 { c.syn 0 with returned := false },
      fun c => c.setSyn 0 { c.syn 0 with retPend := false },
      fun c => c.wr SYN_STAT.state sLocked 0],
    0, by decide⟩,
   ⟨build [wake, fun c => c.setSyn 0 { c.syn 0 with retPend := true }, fun c => c.wr OUT_CFG.force_byp 0 0],
    0, 0, by decide⟩,
   ⟨build [wake, fun c => c.wr SYN_STAT.state sLocked 0], 0, by decide⟩⟩

/-- The hypotheses of `Obligations.AlignerEdges`, clause by clause. -/
theorem witness_AlignerEdges :
    (∃ (s : State) (a : Fin 8) (t : Int) (f : Int), Running s ∧ ((s.dev.core.paState a.val = paRun ∨ s.dev.core.paState a.val =
      paHold)) ∧ (s.dev.core.pa a.val).trail = none ∧ s.dev.core.paTarget a.val = some (t, f)) ∧
    (∃ (s : State) (a : Fin 8) (l : Int), Running s ∧ ((s.dev.core.paState a.val = paWait ∨ s.dev.core.paState a.val = paRun ∨
      s.dev.core.paState a.val = paHold)) ∧ (s.dev.core.pa a.val).trail = some l) ∧
    (∃ (s : State) (a : Fin 8) (t : Int) (f : Int), Running s ∧ s.dev.core.paState a.val = paWait ∧ (s.dev.core.pa a.val).trail
      = none ∧ s.dev.core.paTarget a.val = some (t, f)) ∧
    (∃ (s : State) (a : Fin 8) (e : Rat) (r : List (Rat × Bool)), Running s ∧ (s.dev.core.pa a.val).edges = (e, true) :: r) ∧
    (∃ (s : State) (a : Fin 8) (e : Rat) (r : List (Rat × Bool)), Running s ∧ (s.dev.core.pa a.val).edges = (e, false) :: r) ∧
    (∃ (s : State) (pin : Fin 16) (a : Fin 8), Running s ∧ s.dev.core.rd REF_CFG.mode pin.val = 2 ∧ s.dev.core.rd
      PAL_PA_CFG.mode a.val = 2 ∧ s.dev.core.rd PAL_PA_CFG.src a.val = pin.val ∧ s.dev.core.paState a.val ≠ paOff) ∧
    (∃ (s : State) (a : Fin 8), Running s ∧ s.dev.core.paState a.val = paRun ∧ s.dev.core.rd PAL_PA_CFG.mode a.val = 2) ∧
    (∃ (s : State) (a : Fin 8) (sec : Nat), Running s ∧ (s.dev.core.pa a.val).tod = some sec ∧ s.dev.core.paState a.val = paRun
      ∧ s.dev.core.rd PAL_PA_CFG.tod_en a.val = 1 ∧ s.dev.core.todHolder (s.dev.core.rd PAL_PA_CFG.tod_pin a.val) = some a.val) :=
  ⟨⟨build [
      wake,
      fun c => c.setPa 0 { c.pa 0 with trail := none },
      fun c => (c.wr PAL_PA_STAT.state 2 0).wr PAL_PA_CFG.mode 0 0],
    0, (((onC (onC (onC State.reset (fun c => { c with inReset := false })) (fun c => c.setPa 0 { c.pa 0 with trail := none }))
      (fun c => (c.wr PAL_PA_STAT.state 2 0).wr PAL_PA_CFG.mode 0 0)).dev.core.paTarget 0).getD (0, 0)).1, (((onC (onC (onC
      State.reset (fun c => { c with inReset := false })) (fun c => c.setPa 0 { c.pa 0 with trail := none })) (fun c => (c.wr
      PAL_PA_STAT.state 2 0).wr PAL_PA_CFG.mode 0 0)).dev.core.paTarget 0).getD (0, 0)).2, by decide +kernel⟩,
   ⟨build [wake, fun c => c.setPa 0 { c.pa 0 with trail := some 1 }, fun c => (c.wr PAL_PA_STAT.state 1 0)],
    0, 1, by decide⟩,
   ⟨build [
      wake,
      fun c => c.wr PAL_PA_STAT.state paWait 0,
      fun c => c.setPa 0 { c.pa 0 with trail := none },
      fun c => (c.wr PAL_PA_STAT.state 1 0).wr PAL_PA_CFG.mode 0 0],
    0, (((onC (onC (onC (onC State.reset (fun c => { c with inReset := false })) (fun c => c.wr PAL_PA_STAT.state paWait 0))
      (fun c => c.setPa 0 { c.pa 0 with trail := none })) (fun c => (c.wr PAL_PA_STAT.state 1 0).wr PAL_PA_CFG.mode 0
      0)).dev.core.paTarget 0).getD (0, 0)).1, (((onC (onC (onC (onC State.reset (fun c => { c with inReset := false })) (fun c
      => c.wr PAL_PA_STAT.state paWait 0)) (fun c => c.setPa 0 { c.pa 0 with trail := none })) (fun c => (c.wr PAL_PA_STAT.state
      1 0).wr PAL_PA_CFG.mode 0 0)).dev.core.paTarget 0).getD (0, 0)).2, by decide +kernel⟩,
   ⟨build [wake, fun c => c.setPa 0 { c.pa 0 with edges := (1, true) :: ([] : List (Rat × Bool)) }],
    0, 1, ([] : List (Rat × Bool)), by decide⟩,
   ⟨build [wake, fun c => c.setPa 0 { c.pa 0 with edges := (1, false) :: ([] : List (Rat × Bool)) }],
    0, 1, ([] : List (Rat × Bool)), by decide⟩,
   ⟨build [
      wake,
      fun c => c.wr REF_CFG.mode 2 0,
      fun c => c.wr PAL_PA_CFG.mode 2 0,
      fun c => c.wr PAL_PA_CFG.src 0 0,
      fun c => c.wr PAL_PA_STAT.state 2 0],
    0, 0, by decide⟩,
   ⟨build [
      wake,
      fun c => c.wr PAL_PA_STAT.state paRun 0,
      fun c => c.wr PAL_PA_CFG.mode 2 0,
      fun c => c.wr PAL_PA_STAT.state paRun 0],
    0, by decide⟩,
   ⟨build [
      wake,
      fun c => c.setPa 0 { c.pa 0 with tod := some 1 },
      fun c => c.wr PAL_PA_STAT.state paRun 0,
      fun c => c.wr PAL_PA_CFG.tod_en 1 0,
      fun c => (c.wr PAL_PA_STAT.state paRun 0).setHolder (c.rd PAL_PA_CFG.tod_pin 0) (some 0)],
    0, 1, by decide⟩⟩

/-- The hypotheses of `Obligations.GateStates`, clause by clause. -/
theorem witness_GateStates :
    (∃ (s : State), Running s ∧ s.dev.core.estRun = true ∧ s.dev.core.timState = tsReady ∧ s.dev.core.rd TIM_CFG.gate_src = 2 ∧
      s.dev.core.pclk = true) ∧
    (∃ (s : State), Running s ∧ s.dev.core.estRun = true ∧ s.dev.core.timState ≠ tsReady) ∧
    (∃ (s : State) (level : Bool), Running s ∧ s.dev.core.timState = tsReady ∧ s.dev.core.rd TIM_CFG.gate_src = 0 ∧
      s.dev.core.pclk = true ∧ s.dev.core.tim.gatePin ≠ level ∧ level ≠ s.dev.core.rdB TIM_CFG.gate_pol) ∧
    (∃ (s : State) (level : Bool), Running s ∧ s.dev.core.timState = tsGating ∧ s.dev.core.rd TIM_CFG.gate_src = 0 ∧
      s.dev.core.tim.gatePin ≠ level ∧ level = s.dev.core.rdB TIM_CFG.gate_pol) ∧
    (∃ (s : State), Running s ∧ s.dev.core.timState = tsGating ∧ s.dev.core.rd TIM_CFG.gate_src ≠ 0 ∧ s.dev.core.rd
      TIM_GATE_LEN.len ≠ 0) ∧
    (∃ (s : State), Running s ∧ s.dev.core.timState = tsGating) ∧
    (∃ (s : State), Running s ∧ s.dev.core.timState = tsGating ∧ s.dev.core.estRun = true) ∧
    (∃ (s : State), Running s ∧ s.dev.core.timState = tsFinishing ∧ s.dev.core.estRun = true) ∧
    (∃ (s : State), Running s ∧ s.dev.core.timState = tsFinishing ∧ s.dev.core.rd TIM_CFG.gate_src ≠ 0) :=
  ⟨⟨build [
      wake,
      fun c => { c with estRun := true },
      fun c => c.wr TIM_STAT.state tsReady,
      fun c => c.wr TIM_CFG.gate_src 2,
      fun c => c.wr RS_STAT.clk_src 0,
      fun c => c.wr TIM_STAT.state tsReady],
    by decide⟩,
   ⟨build [wake, fun c => { c with estRun := true }], by decide⟩,
   ⟨build [
      wake,
      fun c => c.wr TIM_STAT.state tsReady,
      fun c => c.wr TIM_CFG.gate_src 0,
      fun c => c.wr RS_STAT.clk_src 0,
      fun c => ((c.wr TIM_STAT.state tsReady).wr TIM_CFG.gate_pol (if false then 0 else 1)).setTim
        { c.tim with gatePin := !false }],
    false, by decide⟩,
   ⟨build [
      wake,
      fun c => c.wr TIM_STAT.state tsGating,
      fun c => c.wr TIM_CFG.gate_src 0,
      fun c => ((c.wr TIM_STAT.state tsGating).wr TIM_CFG.gate_pol (if false then 1 else 0)).setTim
        { c.tim with gatePin := !false }],
    false, by decide⟩,
   ⟨build [
      wake,
      fun c => c.wr TIM_STAT.state tsGating,
      fun c => ((c.wr TIM_STAT.state tsGating).wr TIM_CFG.gate_src 1).wr TIM_GATE_LEN.len 5],
    by decide⟩,
   ⟨build [wake, fun c => c.wr TIM_STAT.state tsGating, fun c => (c.wr TIM_STAT.state tsGating)], by decide⟩,
   ⟨build [
      wake,
      fun c => c.wr TIM_STAT.state tsGating,
      fun c => { c with estRun := true },
      fun c => (c.wr TIM_STAT.state tsGating)],
    by decide⟩,
   ⟨build [
      wake,
      fun c => c.wr TIM_STAT.state tsFinishing,
      fun c => { c with estRun := true },
      fun c => (c.wr TIM_STAT.state tsFinishing)],
    by decide⟩,
   ⟨build [
      wake,
      fun c => c.wr TIM_STAT.state tsFinishing,
      fun c => (c.wr TIM_STAT.state tsFinishing),
      fun c => c.wr TIM_CFG.gate_src 1],
    by decide⟩⟩

/-- The hypotheses of `Obligations.MeterEdges`, clause by clause. -/
theorem witness_MeterEdges :
    (∃ (s : State), Running s ∧ s.dev.core.timState = tsReady) ∧
    (∃ (s : State), Running s ∧ s.dev.core.timState = tsGating ∧ s.dev.core.rd TIM_CFG.mode = 0 ∧ s.dev.core.tim.gate = some {}) ∧
    (∃ (s : State), Running s ∧ s.dev.core.rd TIM_REF_CFG.use = 1 ∧ s.dev.core.rd TIM_STAT.tb_state = 0) ∧
    (∃ (s : State) (count : BitVec 32) (dur : Nat), Running s ∧ s.dev.core.rd TIM_STAT.tb_state = 1 ∧ s.dev.core.tim.passRun = 3
      ∧ ((count.toNat : Int) - 65536).natAbs ≤ s.dev.core.rd TIM_REF_CFG.win ∧ timrefNear dur = true) ∧
    (∃ (s : State), Running s ∧ s.dev.core.rd TIM_STAT.tb_state = 2) ∧
    (∃ (s : State), Running s) ∧
    (∃ (s : State) (k : Nat), Running s ∧ s.dev.core.tim.next = some k ∧ s.dev.core.tim.wait = []) ∧
    (∃ (s : State), Running s ∧ s.dev.core.tim.next = none ∧ s.dev.core.tim.wait = []) ∧
    (∃ (s : State) (k : Fin 32) (hits : List Nat), Running s ∧ s.dev.core.part.tdc k.val = true ∧ s.dev.core.courseCal = true ∧
      s.dev.core.pclk = true ∧ tabOf hits (2 ^ 20 * 99) = none) ∧
    (∃ (s : State) (k : Fin 32) (hits : List Nat), Running s ∧ s.dev.core.part.tdc k.val = true ∧ s.dev.core.courseCal = true ∧
      s.dev.core.pclk = true ∧ s.dev.core.tabsBusy = false ∧ s.dev.core.badUse 1 = false ∧ (tabOf hits (2 ^ 20 * 99)).isSome =
      true) ∧
    (∃ (s : State), Running s) :=
  ⟨⟨build [wake, fun c => c.wr TIM_STAT.state tsReady, fun c => (c.wr TIM_STAT.state tsReady)], by decide⟩,
   ⟨build [
      wake,
      fun c => c.wr TIM_STAT.state tsGating,
      fun c => c.wr TIM_CFG.mode 0,
      fun c => { c with tim := { c.tim with gate := some {} } },
      fun c => (c.wr TIM_STAT.state tsGating)],
    by decide⟩,
   ⟨build [wake, fun c => c.wr TIM_REF_CFG.use 1 , fun c => c.wr TIM_STAT.tb_state 0 ], by decide⟩,
   ⟨build [
      fun c =>
        let c : Core := { c with inReset := false, tim := { c.tim with passRun := 3 } }
        ((c.wr TIM_REF_CFG.win 0xFFFFFF).wr TIM_STAT.tb_state 1),
      wake],
    65536, 6553600 * 65536, by decide⟩,
   ⟨build [wake, fun c => c.wr TIM_STAT.tb_state 2 ], by decide⟩,
   ⟨awake, by decide⟩,
   ⟨build [
      wake,
      fun c => { c with tim := { c.tim with next := some 1 } },
      fun c => { c with tim := { c.tim with wait := [] } }],
    1, by decide⟩,
   ⟨build [
      wake,
      fun c => { c with tim := { c.tim with next := none } },
      fun c => { c with tim := { c.tim with wait := [] } }],
    by decide⟩,
   ⟨build [wake, fun c => c.wr RS_STAT.clk_src 0, fun c => (c.wr STG_STAT.stage 2)], 0, [], by decide⟩,
   ⟨build [wake, fun c => c.wr RS_STAT.clk_src 0, fun c => (c.wr STG_STAT.stage 2)],
    0, List.replicate 2000 600000, by decide, by decide, by decide, by decide, by decide, by decide, meterHits⟩,
   ⟨awake, by decide⟩⟩

/-- The hypotheses of `Obligations.LaneStates`, clause by clause. -/
theorem witness_LaneStates :
    (∃ (s : State) (n : Fin 4), Running s ∧ n.val < s.dev.core.part.nLane ∧ s.dev.core.pclk = true ∧ s.dev.core.rd ETH_CFG.en
      n.val = 1 ∧ s.dev.core.rd ETH_CFG.mode n.val ≠ 3 ∧ s.dev.core.rd ETH_LOOP.depth n.val = 0 ∧ s.dev.core.inRst = [] ∧
      s.dev.core.engaged = [] ∧ s.dev.core.rd ETH_STAT.isolated n.val = 0 ∧ s.dev.core.laneState n.val = leDown) ∧
    (∃ (s : State) (n : Fin 4), Running s ∧ n.val < s.dev.core.part.nLane ∧ s.dev.core.pclk = true ∧ s.dev.core.rd ETH_CFG.en
      n.val = 1 ∧ s.dev.core.rd ETH_CFG.mode n.val ≠ 3 ∧ s.dev.core.rd ETH_LOOP.depth n.val = 0 ∧ s.dev.core.inRst = [] ∧
      s.dev.core.engaged = [] ∧ s.dev.core.laneState n.val = leUp) ∧
    (∃ (s : State) (n : Fin 4), Running s ∧ n.val < s.dev.core.part.nLane) ∧
    (∃ (s : State) (n : Fin 4), Running s ∧ n.val < s.dev.core.part.nLane ∧ s.dev.core.laneAn n.val = true) ∧
    (∃ (s : State) (n : Fin 4) (pause : BitVec 2), Running s ∧ n.val < s.dev.core.part.nLane ∧ s.dev.core.laneAn n.val = true ∧
      (s.dev.core.lane n.val).advM ≠ pause.toNat) ∧
    (∃ (s : State) (n : Fin 4) (pause : BitVec 2), Running s ∧ n.val < s.dev.core.part.nLane ∧ s.dev.core.laneAn n.val = true ∧
      (s.dev.core.lane n.val).advL ≠ pause.toNat) :=
  ⟨⟨build [
      wake,
      fun c => c.wr RS_STAT.clk_src 0,
      fun c => c.wr ETH_CFG.en 1 0,
      fun c => c.wr ETH_LOOP.depth 0 0,
      fun c => { c with inRst := [] },
      fun c => { c with engaged := [] },
      fun c => c.wr ETH_STAT.isolated 0 0,
      fun c => c.wr ETH_STAT.state leDown 0,
      fun c => c.wr ETH_CFG.mode (if 0 < 2 then 0 else 1) 0],
    0, by decide⟩,
   ⟨build [
      wake,
      fun c => c.wr RS_STAT.clk_src 0,
      fun c => c.wr ETH_CFG.en 1 0,
      fun c => c.wr ETH_LOOP.depth 0 0,
      fun c => { c with inRst := [] },
      fun c => { c with engaged := [] },
      fun c => c.wr ETH_STAT.state leUp 0,
      fun c => c.wr ETH_CFG.mode (if 0 < 2 then 2 else 1) 0],
    0, by decide⟩,
   ⟨awake, 0, by decide⟩,
   ⟨build [wake, fun c => (c.wr ETH_CFG.mode 2 0).wr ETH_CFG.an_en 1 0], 0, by decide⟩,
   ⟨build [wake, fun c => (c.wr ETH_CFG.mode 2 0).wr ETH_CFG.an_en 1 0], 0, 1#2, by decide⟩,
   ⟨build [wake, fun c => (c.wr ETH_CFG.mode 2 0).wr ETH_CFG.an_en 1 0], 0, 1#2, by decide⟩⟩

/-- The hypotheses of `Obligations.LaneFrames`, clause by clause. -/
theorem witness_LaneFrames :
    (∃ (s : State) (n : Fin 4) (l : List Byte) (room : Nat), Running s ∧ n.val < s.dev.core.part.nLane ∧ s.dev.core.laneState
      n.val = leUp ∧ s.dev.core.insPending n.val = false ∧ s.dev.core.admits n.val true room = true ∧ l.length + 4 ≤
      s.dev.core.rd ETH_CFG.maxlen n.val ∧ s.dev.core.parse n.val l = .other) ∧
    (∃ (s : State) (n : Fin 4) (l : List Byte) (room : Nat), Running s ∧ n.val < s.dev.core.part.nLane ∧ s.dev.core.laneState
      n.val = leUp ∧ s.dev.core.rd ETH_CFG.maxlen n.val + 64 ≤ min room 32768 ∧ l.length + 4 ≤ s.dev.core.rd ETH_CFG.maxlen
      n.val ∧ esmcPdu l = false ∧ s.dev.core.parse n.val l = .other) ∧
    (∃ (s : State) (n : Fin 4) (l : List Byte) (room : Nat), Running s ∧ n.val < s.dev.core.part.nLane ∧ s.dev.core.laneState
      n.val = leUp ∧ s.dev.core.insPending n.val = true ∧ s.dev.core.admits n.val true room = true ∧ l.length + 4 ≤
      s.dev.core.rd ETH_CFG.maxlen n.val ∧ s.dev.core.parse n.val l = .other) ∧
    (∃ (s : State) (n : Fin 4) (m2l : Bool) (l : List Byte) (room : Nat), Running s ∧ n.val < s.dev.core.part.nLane ∧
      s.dev.core.laneState n.val = leUp ∧ room < s.dev.core.rd ETH_CFG.maxlen n.val + 64 ∧ ((m2l = true ∨ esmcPdu l = false))) ∧
    (∃ (s : State) (n : Fin 4) (f : InsFrame) (rest : List InsFrame), Running s ∧ n.val < s.dev.core.part.nLane ∧
      s.dev.core.laneState n.val = leUp ∧ (s.dev.core.lane n.val).ins = f :: rest) ∧
    (∃ (s : State) (n : Fin 4) (l : List Byte) (good : Bool), Running s ∧ n.val < s.dev.core.part.nLane ∧ (s.dev.core.laneState
      n.val = leUp ∨ s.dev.core.laneState n.val = leDown) ∧ esmcOk l good = false) ∧
    (∃ (s : State) (n : Fin 4) (l : List Byte) (good : Bool), Running s ∧ n.val < s.dev.core.part.nLane ∧ s.dev.core.laneState
      n.val = leUp ∧ esmcPdu l = true ∧ esmcOk l good = false) ∧
    (∃ (s : State) (n : Fin 4) (l : List Byte), Running s ∧ n.val < s.dev.core.part.nLane ∧ (s.dev.core.laneState n.val = leUp ∨
      s.dev.core.laneState n.val = leDown) ∧ (s.dev.core.lane n.val).esmcT = [] ∧ esmcOk l true = true) :=
  ⟨⟨build [
      wake,
      fun c => c.wr ETH_STAT.state leUp 0,
      fun c => (c.wr ETH_CFG.maxlen 150 0).setLane 0 { c.lane 0 with ins := [], buf := [] }|>.wr HLK_IB_CFG.en 0],
    0, List.replicate 60 1#8, 10000, by decide⟩,
   ⟨build [wake, fun c => c.wr ETH_STAT.state leUp 0, fun c => c.wr ETH_CFG.maxlen 150 0],
    0, List.replicate 60 1#8, 10000, by decide⟩,
   ⟨build [
      wake,
      fun c => c.wr ETH_STAT.state leUp 0,
      fun c => (c.wr ETH_CFG.maxlen 150 0).setLane 0 { c.lane 0 with ins := [{}], buf := [] }],
    0, List.replicate 60 1#8, 10000, by decide⟩,
   ⟨build [wake, fun c => c.wr ETH_STAT.state leUp 0], 0, false, [], 1, by decide⟩,
   ⟨build [
      wake,
      fun c => c.wr ETH_STAT.state leUp 0,
      fun c => c.setLane 0 { c.lane 0 with ins := ({}) :: ([] : List InsFrame) }],
    0, ({}), ([] : List InsFrame), by decide⟩,
   ⟨build [wake, fun c => c.wr ETH_STAT.state leUp 0], 0, [], false, by decide⟩,
   ⟨build [wake, fun c => c.wr ETH_STAT.state leUp 0],
    0, ([0x01,0x80,0xC2,0,0,2,1,2,3,4,5,6,0x88,0x09,0x0A,0x00,0x19,0xA7,0,1,0x20].map (BitVec.ofNat 8)) ++ (esmcFrame.set 20
      0x20#8 : List Byte), false, by decide⟩,
   ⟨build [wake, fun c => c.wr ETH_STAT.state leUp 0, fun c => c.setLane 0 { c.lane 0 with esmcT := [] }],
    0, esmcFrame, by decide⟩⟩

/-- The hypotheses of `Obligations.PtpMessages`, clause by clause. -/
theorem witness_PtpMessages :
    (∃ (s : State) (n : Fin 4) (tr : Nat) (tm : Nat) (l : List Byte) (m : Msg) (d : Nat) (p : Nat) (sv : Fin 4), Running s ∧
      PtpTaken s.dev.core n.val l tm tr m d p ∧ m.type = 0 ∧ s.dev.core.portSlave p = true ∧ (s.dev.core.pport p).parent = some
      m.src ∧ m.twoStep = false ∧ s.dev.core.rd PTE_SV_CFG.port sv.val = p ∧ 1 ≤ s.dev.core.svState sv.val) ∧
    (∃ (s : State) (n : Fin 4) (tr : Nat) (tm : Nat) (l : List Byte) (m : Msg) (d : Nat) (p : Nat), Running s ∧ PtpTaken
      s.dev.core n.val l tm tr m d p ∧ m.type = 0 ∧ s.dev.core.portSlave p = true ∧ (s.dev.core.pport p).parent = some m.src ∧
      m.twoStep = true) ∧
    (∃ (s : State) (n : Fin 4) (tm : Nat) (l : List Byte) (m : Msg), Running s ∧ n.val < s.dev.core.part.nLane ∧
      s.dev.core.pteRun = true ∧ (s.dev.core.heard n.val l tm).1.isSome = true ∧ s.dev.core.msgOf n.val l = some m ∧
      s.dev.core.msgDom n.val m = none) ∧
    (∃ (s : State) (n : Fin 4) (tm : Nat) (l : List Byte), Running s ∧ n.val < s.dev.core.part.nLane ∧ s.dev.core.pteRun = true
      ∧ (s.dev.core.heard n.val l tm).1 = none) ∧
    (∃ (s : State) (n : Fin 4) (tr : Nat) (tm : Nat) (t2 : Nat) (corr : Int) (l : List Byte) (m : Msg) (d : Nat) (p : Nat) (sv :
      Fin 4), Running s ∧ PtpTaken s.dev.core n.val l tm tr m d p ∧ m.type = 8 ∧ s.dev.core.portSlave p = true ∧
      (s.dev.core.pport p).parent = some m.src ∧ (s.dev.core.pport p).sync = some (m.seq, t2, corr) ∧ (((tr : Int) - t2 : Int) :
      Rat) ≤ (secPU : Rat) * (2 : Rat) ^ (s.dev.core.logSync d p) ∧ s.dev.core.rd PTE_SV_CFG.port sv.val = p ∧ 1 ≤
      s.dev.core.svState sv.val) ∧
    (∃ (s : State) (n : Fin 4) (tr : Nat) (t3 : Nat) (l : List Byte) (m : Msg) (d : Nat) (p : Nat) (sv : Fin 4), Running s ∧
      PtpTaken s.dev.core n.val l 0 tr m d p ∧ m.type = 9 ∧ s.dev.core.portSlave p = true ∧ (s.dev.core.pport p).parent = some
      m.src ∧ (s.dev.core.pport p).req = some (m.seq, t3) ∧ m.reqId = s.dev.core.portId p ∧ s.dev.core.rd PTE_SV_CFG.port sv.val
      = p ∧ 1 ≤ s.dev.core.svState sv.val) ∧
    (∃ (s : State) (n : Fin 4) (tr : Nat) (tm : Nat) (l : List Byte) (m : Msg) (d : Nat) (p : Nat), Running s ∧ PtpTaken
      s.dev.core n.val l tm tr m d p ∧ m.type = 2 ∧ s.dev.core.profile d = 3 ∧ s.dev.core.clockId ≠ 0) ∧
    (∃ (s : State) (n : Fin 4) (tr : Nat) (tm : Nat) (t1 : Nat) (l : List Byte) (m : Msg) (d : Nat) (p : Nat), Running s ∧
      PtpTaken s.dev.core n.val l tm tr m d p ∧ m.type = 3 ∧ s.dev.core.profile d = 3 ∧ m.twoStep = false ∧ (s.dev.core.pport
      p).req = some (m.seq, t1) ∧ m.reqId = s.dev.core.portId p) ∧
    (∃ (s : State) (n : Fin 4) (tr : Nat) (tm : Nat) (t1 : Nat) (l : List Byte) (m : Msg) (d : Nat) (p : Nat), Running s ∧
      PtpTaken s.dev.core n.val l tm tr m d p ∧ m.type = 3 ∧ s.dev.core.profile d = 3 ∧ m.twoStep = true ∧ (s.dev.core.pport
      p).req = some (m.seq, t1) ∧ m.reqId = s.dev.core.portId p) ∧
    (∃ (s : State) (n : Fin 4) (tr : Nat) (q : Nat) (t1 : Nat) (t2 : Nat) (t4 : Nat) (corr : Int) (l : List Byte) (m : Msg) (d :
      Nat) (p : Nat), Running s ∧ PtpTaken s.dev.core n.val l 0 tr m d p ∧ m.type = 0xA ∧ s.dev.core.profile d = 3 ∧
      (s.dev.core.pport p).req = some (q, t1) ∧ (s.dev.core.pport p).presp = some (m.seq, t2, t4, corr) ∧ m.reqId =
      s.dev.core.portId p ∧ (s.dev.core.pport p).pair = none) :=
  ⟨⟨build [ptpFix 0 0, fun c => svFix 0 0 2 (parentFix 0 (msgOn 0 (ptpOf 0 false 9 [])) c), wake],
    0, 1, 1, ptpOf 0 false 9 [], (msgOn 0 (ptpOf 0 false 9 [])), 0, 0, 0, by decide⟩,
   ⟨build [ptpFix 0 0, fun c => (parentFix 0 (msgOn 0 (ptpOf 0 true 9 [])) c), wake],
    0, 1, 1, ptpOf 0 true 9 [], (msgOn 0 (ptpOf 0 true 9 [])), 0, 0, by decide⟩,
   ⟨build [ptpFix 0 0, fun c => c.wr PTE_DOM_CFG.number 6 0, wake],
    0, 1, ptpOf 0 true 9 [], (msgOn 0 (ptpOf 0 true 9 [])), by decide⟩,
   ⟨build [
      wake,
      fun c =>
        let c := ptpFix 0 0 c
        c.setLane (0 : Fin 4) { c.lane (0 : Fin 4) with evq := [([], none, 0)] }],
    0, 1, [], by decide⟩,
   ⟨build [
      ptpFix 0 0,
      fun c =>
        let c := svFix 0 0 2 (parentFix 0 (msgOn 0 (ptpOf 8 true 9 [])) c)
        c.setPport (0 : Fin 4) { c.pport (0 : Fin 4) with sync := some ((msgOn 0 (ptpOf 8 true 9 [])).seq, 1, 1) },
      wake],
    0, 2, 1 + 1, 1, 1, ptpOf 8 true 9 [], (msgOn 0 (ptpOf 8 true 9 [])), 0, 0, 0, by decide +kernel⟩,
   ⟨build [
      fun c => (ptpFix 0 0 c).wr PTE_CLOCK_ID_HI.id_hi 0,
      fun c =>
        let c := svFix 0 0 2 (parentFix 0 ((msgOn 0 (ptpOf 9 true 9 [] (bytesBE 10 (77*65536 + 0 + 1))))) c)
        c.setPport (0 : Fin 4)
          { c.pport (0 : Fin 4) with req := some (((msgOn 0 (ptpOf 9 true 9 [] (bytesBE 10 (77*65536 + 0 + 1))))).seq, 1) },
      wake],
    0, 0, 1, ptpOf 9 true 9 [] (bytesBE 10 (77*65536 + 0 + 1)), (msgOn 0 (ptpOf 9 true 9 [] (bytesBE 10 (77*65536 + 0 + 1)))),
      0, 0, 0, by decide⟩,
   ⟨build [ptpFix 0 3, wake], 0, 1, 1, ptpOf3 2 true 9 [], (msgOn 3 (ptpOf3 2 true 9 [])), 0, 0, by decide⟩,
   ⟨build [
      fun c => (ptpFix 0 3 c).wr PTE_CLOCK_ID_HI.id_hi 0,
      fun c => c.setPport (0 : Fin 4)
        { c.pport (0 : Fin 4) with req := some (((msgOn 3 (ptpOf3 3 false 9 [] (bytesBE 10 (77*65536 + 0 + 1))))).seq, 1) },
      wake],
    0, 1, 1, 1, ptpOf3 3 false 9 [] (bytesBE 10 (77*65536 + 0 + 1)), (msgOn 3 (ptpOf3 3 false 9 [] (bytesBE 10 (77*65536 + 0 +
      1)))), 0, 0, by decide⟩,
   ⟨build [
      fun c => (ptpFix 0 3 c).wr PTE_CLOCK_ID_HI.id_hi 0,
      fun c => (c.wr PTE_PORT_STAT.state 9 (0 : Fin 4)).setPport (0 : Fin 4)
        { c.pport (0 : Fin 4) with req := some (((msgOn 3 (ptpOf3 3 true 9 [] (bytesBE 10 (77*65536 + 0 + 1))))).seq, 1) },
      wake],
    0, 1, 1, 1, ptpOf3 3 true 9 [] (bytesBE 10 (77*65536 + 0 + 1)), (msgOn 3 (ptpOf3 3 true 9 [] (bytesBE 10 (77*65536 + 0 +
      1)))), 0, 0, by decide⟩,
   ⟨build [
      fun c => (ptpFix 0 3 c).wr PTE_CLOCK_ID_HI.id_hi 0,
      fun c => c.setPport (0 : Fin 4)
        { c.pport (0 : Fin 4) with req := some (1, 1), pair := none, presp := some (((msgOn 3 (ptpOf3 0xA true 9 [] (bytesBE 10 (77*65536 + 0 + 1))))).seq, 1, 1, 1) },
      wake],
    0, 0, 1, 1, 1, 1, 1, ptpOf3 0xA true 9 [] (bytesBE 10 (77*65536 + 0 + 1)), (msgOn 3 (ptpOf3 0xA true 9 [] (bytesBE 10
      (77*65536 + 0 + 1)))), 0, 0, by decide⟩⟩

/-- The hypotheses of `Obligations.PortsAndAnnounces`, clause by clause. -/
theorem witness_PortsAndAnnounces :
    (∃ (s : State) (n : Fin 4) (tr : Nat) (l : List Byte) (m : Msg) (d : Nat) (p : Nat), Running s ∧ PtpTaken s.dev.core n.val l
      0 tr m d p ∧ m.type = 0xB ∧ 4 ≤ s.dev.core.portState p ∧ s.dev.core.rd PTE_PORT_CFG.master_only p = 0 ∧ m.src / 65536 ≠
      s.dev.core.clockId ∧ m.ann.steps < 255) ∧
    (∃ (s : State) (p : Fin 4) (d : Nat), Running s ∧ s.dev.core.pteRun = true ∧ s.dev.core.portDom p.val = some d ∧
      s.dev.core.portSlave p.val = true) ∧
    (∃ (s : State) (p : Fin 4) (d : Nat), Running s ∧ s.dev.core.pteRun = true ∧ s.dev.core.portDom p.val = some d ∧
      s.dev.core.domOn d = true ∧ s.dev.core.portEn p.val = true ∧ s.dev.core.laneState (s.dev.core.portLane p.val) = leUp ∧
      s.dev.core.portState p.val = 4) ∧
    (∃ (s : State) (p : Fin 4) (d : Nat), Running s ∧ s.dev.core.pteRun = true ∧ s.dev.core.portState p.val = 6 ∧
      s.dev.core.portDom p.val = some d ∧ s.dev.core.profile d ≠ 2 ∧ s.dev.core.clockId ≠ 0) ∧
    (∃ (s : State) (p : Fin 4) (d : Nat), Running s ∧ s.dev.core.pteRun = true ∧ s.dev.core.portState p.val = 6 ∧
      s.dev.core.portDom p.val = some d ∧ s.dev.core.profile d ≠ 2 ∧ s.dev.core.clockId ≠ 0 ∧ (s.dev.core.pport p.val).foreign =
      []) ∧
    (∃ (s : State) (p : Fin 4) (d : Nat), Running s ∧ s.dev.core.pteRun = true ∧ s.dev.core.portSlave p.val = true ∧
      s.dev.core.portDom p.val = some d ∧ s.dev.core.profile d ≠ 3 ∧ s.dev.core.clockId ≠ 0) ∧
    (∃ (s : State) (p : Fin 4) (d : Nat), Running s ∧ s.dev.core.pteRun = true ∧ 4 ≤ s.dev.core.portState p.val ∧
      s.dev.core.portDom p.val = some d ∧ s.dev.core.profile d = 3 ∧ s.dev.core.clockId ≠ 0) ∧
    (∃ (s : State), Running s ∧ s.dev.core.rd PTE_CFG.en = 1 ∧ s.dev.core.rd PTE_STAT.run = 0 ∧ s.dev.core.part.pte = true ∧
      s.dev.core.inRst = [] ∧ s.dev.core.estRun = true ∧ s.dev.core.pclk = true ∧ s.dev.core.rd VLT_STAT.state = 3) :=
  ⟨⟨build [
      ptpFix 0 0,
      fun c => if c.portState 0 < 4 then c.wr PTE_PORT_STAT.state 4 (0 : Fin 4) else c,
      wake,
      fun c => parentFix 0 (msgOn 0 (ptpOf 0xB false 9 ([] ++ [3#8,4#8]))) c],
    0, 0, ptpOf 0xB false 9 ([] ++ [3#8,4#8]), (msgOn 0 (ptpOf 0xB false 9 ([] ++ [3#8,4#8]))), 0, 0, by decide⟩,
   ⟨build [ptpFix 0 0, fun c => c.wr PTE_PORT_STAT.state 9 0, wake], 0, 0, by decide⟩,
   ⟨build [ptpFix 0 0, fun c => c.wr PTE_PORT_STAT.state 4 0, wake], 0, 0, by decide⟩,
   ⟨build [ptpFix 0 0, fun c => c.wr PTE_PORT_STAT.state 6 0, wake], 0, 0, by decide⟩,
   ⟨build [ptpFix 0 0, fun c => (c.wr PTE_PORT_STAT.state 6 0).setPport 0 { c.pport 0 with foreign := [] }, wake],
    0, 0, by decide⟩,
   ⟨build [ptpFix 0 0, fun c => c.wr PTE_PORT_STAT.state 9 0, wake], 0, 0, by decide⟩,
   ⟨build [ptpFix 0 3, fun c => c.wr PTE_PORT_STAT.state 9 0, wake], 0, 0, by decide⟩,
   ⟨build [
      wake,
      fun c => c.wr PTE_CFG.en 1,
      fun c => c.wr PTE_STAT.run 0,
      fun c => { c with inRst := [] },
      fun c => { c with estRun := true },
      fun c => c.wr RS_STAT.clk_src 0,
      fun c => c.wr VLT_STAT.state 3,
      fun c => { c with part := { c.part with variant := .f1624 }, inRst := [] },
      fun c => (((c.wr STG_STAT.stage 3).wr VLT_STAT.state 3).wr PTE_CFG.en 1).wr PTE_STAT.run 0],
    by decide⟩⟩

/-- The hypotheses of `Obligations.ServoUpdates`, clause by clause. -/
theorem witness_ServoUpdates :
    (∃ (s : State) (sv : Fin 4) (f : Int) (b : Int), Running s ∧ s.dev.core.pteRun = true ∧ s.dev.core.svEn sv.val = true ∧
      s.dev.core.domOn (s.dev.core.rd PTE_SV_CFG.domain sv.val) = true ∧ s.dev.core.profile (s.dev.core.rd PTE_SV_CFG.domain
      sv.val) ≠ 3 ∧ s.dev.core.portSlave (s.dev.core.rd PTE_SV_CFG.port sv.val) = true ∧ s.dev.core.svState sv.val = vsNoMaster
      ∧ s.dev.core.rd PTE_SV_CFG.sel sv.val = 1 ∧ (s.dev.core.sv sv.val).df = [f] ∧ (s.dev.core.sv sv.val).db = [b]) ∧
    (∃ (s : State) (sv : Fin 4), Running s ∧ s.dev.core.pteRun = true ∧ s.dev.core.svEn sv.val = true ∧ s.dev.core.domOn
      (s.dev.core.rd PTE_SV_CFG.domain sv.val) = true ∧ s.dev.core.portSlave (s.dev.core.rd PTE_SV_CFG.port sv.val) = true ∧ 1 ≤
      s.dev.core.svState sv.val ∧ (s.dev.core.sv sv.val).df = []) ∧
    (∃ (s : State) (sv : Fin 4) (e : Nat), Running s ∧ s.dev.core.pteRun = true ∧ s.dev.core.svEn sv.val = true ∧
      s.dev.core.domOn (s.dev.core.rd PTE_SV_CFG.domain sv.val) = true ∧ s.dev.core.portSlave (s.dev.core.rd PTE_SV_CFG.port
      sv.val) = true ∧ s.dev.core.svState sv.val = vsFrozen ∧ (s.dev.core.sv sv.val).lN = 64 ∧ (List.range 64).find? (fun e =>
      !s.dev.core.rdB PTE_PATH_KEY.valid e) = some e) ∧
    (∃ (s : State) (sv : Fin 4), Running s ∧ s.dev.core.pteRun = true ∧ s.dev.core.svState sv.val = vsFrozen ∧ (s.dev.core.sv
      sv.val).lN = 64 ∧ (List.range 64).all (fun e => s.dev.core.rdB PTE_PATH_KEY.valid e) = true) ∧
    (∃ (s : State) (sv : Fin 4) (a : Int), Running s ∧ s.dev.core.part.nLane ≠ 0 ∧ s.dev.core.pclk = true ∧ (s.dev.core.sv
      sv.val).staged = some a ∧ s.dev.core.svState sv.val = vsFrozen) ∧
    (∃ (s : State) (sv : Fin 4), Running s ∧ s.dev.core.part.nLane ≠ 0 ∧ s.dev.core.pclk = true ∧ (s.dev.core.sv sv.val).staged
      = none ∧ s.dev.core.svState sv.val ≠ vsFrozen) :=
  ⟨⟨build [
      wake,
      fun c => c.wr PTE_SV_STAT.state vsNoMaster 0,
      fun c => c.wr PTE_SV_CFG.sel 1 0,
      fun c => c.setSv 0 { c.sv 0 with df := [1] },
      fun c => c.setSv 0 { c.sv 0 with db := [1] },
      fun c => svFix 0 1 1 ((ptpFix 1 0 c).wr PTE_PORT_STAT.state 9 1)],
    0, 1, 1, by decide⟩,
   ⟨build [
      wake,
      fun c => c.setSv 0 { c.sv 0 with df := [] },
      fun c => svFix 0 1 (if c.svState (0 : Fin 4) = 0 then 2 else c.svState (0 : Fin 4)) ((ptpFix 1 0 c).wr PTE_PORT_STAT.state
        9 1)],
    0, by decide⟩,
   ⟨build [
      fun c => svFix 0 1 4 ((ptpFix 1 0 c).wr PTE_PORT_STAT.state 9 1),
      fun c => c.setSv (0 : Fin 4) { c.sv (0 : Fin 4) with lN := 64 },
      wake],
    0, 0, by decide⟩,
   ⟨build [
      wake,
      fun c => c.wr PTE_SV_STAT.state vsFrozen 0,
      fun c => c.setSv 0 { c.sv 0 with lN := 64 },
      fun c => svFix 0 1 4 ((ptpFix 1 0 c).wr PTE_PORT_STAT.state 9 1),
      fun c => (List.range 64).foldl (fun c e => c.wr PTE_PATH_KEY.valid 1 e) c],
    0, by decide⟩,
   ⟨build [
      wake,
      fun c => c.wr RS_STAT.clk_src 0,
      fun c => c.setSv 0 { c.sv 0 with staged := some 1 },
      fun c => c.wr PTE_SV_STAT.state vsFrozen 0,
      fun c => svFix 0 1 4 ((ptpFix 1 0 c).wr PTE_PORT_STAT.state 9 1)],
    0, 1, by decide⟩,
   ⟨build [
      wake,
      fun c => c.wr RS_STAT.clk_src 0,
      fun c => c.setSv 0 { c.sv 0 with staged := none },
      fun c => svFix 0 1 2 ((ptpFix 1 0 c).wr PTE_PORT_STAT.state 9 1)],
    0, by decide⟩⟩

/-- The hypotheses of `Obligations.UnicastNegotiation`, clause by clause. -/
theorem witness_UnicastNegotiation :
    (∃ (s : State) (n : Fin 4) (tr : Nat) (l : List Byte) (m : Msg) (d : Nat) (p : Nat) (v : List Byte) (ty : Nat) (k : Nat),
      Running s ∧ PtpTaken s.dev.core n.val l 0 tr m d p ∧ m.type = 0xC ∧ s.dev.core.uniDom d = true ∧ m.tlvs = [(4, v)] ∧
      uniType v = some ty ∧ s.dev.core.findSlot d m = none ∧ s.dev.core.freeSlot = some k ∧ ty ≠ 1 ∧ toS 4 (s.dev.core.rd
      PTE_CFG.max_log) ≤ toS 8 (fb v 1) ∧ s.dev.core.pte.load + (2 : Rat) ^ (-toS 8 (fb v 1)) ≤ (s.dev.core.part.budget : Rat) ∧
      s.dev.core.clockId ≠ 0) ∧
    (∃ (s : State) (n : Fin 4) (tr : Nat) (l : List Byte) (m : Msg) (d : Nat) (p : Nat) (v : List Byte) (ty : Nat), Running s ∧
      PtpTaken s.dev.core n.val l 0 tr m d p ∧ m.type = 0xC ∧ s.dev.core.uniDom d = true ∧ m.tlvs = [(4, v)] ∧ uniType v = some
      ty ∧ ty ≠ 1 ∧ toS 8 (fb v 1) < toS 4 (s.dev.core.rd PTE_CFG.max_log)) ∧
    (∃ (s : State) (n : Fin 4) (tr : Nat) (l : List Byte) (m : Msg) (d : Nat) (p : Nat) (v : List Byte) (k : Nat) (x : Slot),
      Running s ∧ PtpTaken s.dev.core n.val l 0 tr m d p ∧ m.type = 0xC ∧ s.dev.core.uniDom d = true ∧ m.tlvs = [(6, v)] ∧
      uniType v = some 0 ∧ s.dev.core.findSlot d m = some (k, x) ∧ s.dev.core.slot k = some x ∧ x.gSync.isSome = true ∧ x.gResp
      = none ∧ x.gAnn = none ∧ s.dev.core.clockId ≠ 0) ∧
    (∃ (s : State) (k : Fin 16384) (x : Slot) (g : Int × Nat), Running s ∧ s.dev.core.pteRun = true ∧ s.dev.core.slot k.val =
      some x ∧ x.gSync = some g ∧ g.2 ≤ s.dev.core.now ∧ x.gResp = none ∧ x.gAnn = none) ∧
    (∃ (s : State) (k : Fin 16384) (x : Slot) (g : Int × Nat), Running s ∧ s.dev.core.pteRun = true ∧ s.dev.core.slot k.val =
      some x ∧ x.gResp = some g ∧ g.2 ≤ s.dev.core.now ∧ x.gSync.isSome = true) ∧
    (∃ (s : State) (k : Fin 16384) (ty : Fin 3) (x : Slot) (g : Int × Nat), Running s ∧ s.dev.core.pteRun = true ∧
      s.dev.core.slot k.val = some x ∧ x.grant ty.val = some g ∧ s.dev.core.now < g.2) :=
  ⟨⟨build [fun c => (ptpFix 0 0 c).wr PTE_CFG.max_log 0xC, wake],
    0, 0, ptpOf 0xC false 9 [] ([0#8,4#8,0#8,6#8, 0#8, 0#8, 0#8,0#8,1#8,0#8]), (msgOn 0 (ptpOf 0xC false 9 [] ([0#8,4#8,0#8,6#8,
      0#8, 0#8, 0#8,0#8,1#8,0#8]))), 0, 0, [0#8, 0#8, 0#8, 0#8, 1#8, 0#8], 0, 0, by decide +kernel⟩,
   ⟨build [fun c => (ptpFix 0 0 c).wr PTE_CFG.max_log 0xC, wake],
    0, 0, ptpOf 0xC false 9 [] ([0#8,4#8,0#8,6#8, 0#8, 0xF0#8, 0#8,0#8,1#8,0#8]), (msgOn 0 (ptpOf 0xC false 9 []
      ([0#8,4#8,0#8,6#8, 0#8, 0xF0#8, 0#8,0#8,1#8,0#8]))), 0, 0, [0#8, 240#8, 0#8, 0#8, 1#8, 0#8], 0, by decide⟩,
   ⟨build [
      fun c => (ptpFix 0 0 c).wr PTE_CFG.max_log 0xC,
      fun c =>
        { c with pte := { c.pte with slots := c.pte.slots.set none 1 (some { dom := 0, ident := (msgOn 0 (ptpOf 0xC false 9 [] ([0#8,6#8,0#8,2#8,0#8,0#8]))).src, dest := (msgOn 0 (ptpOf 0xC false 9 [] ([0#8,6#8,0#8,2#8,0#8,0#8]))).dest, gSync := some (0, 77), gResp := none, gAnn := none }) } },
      wake],
    0, 0, ptpOf 0xC false 9 [] ([0#8,6#8,0#8,2#8,0#8,0#8]), (msgOn 0 (ptpOf 0xC false 9 [] ([0#8,6#8,0#8,2#8,0#8,0#8]))), 0, 0,
      [0#8, 0#8], 1,
      { dom := 0, ident := (msgOn 0 (ptpOf 0xC false 9 [] ([0#8,6#8,0#8,2#8,0#8,0#8]))).src, dest := (msgOn 0 (ptpOf 0xC false 9 [] ([0#8,6#8,0#8,2#8,0#8,0#8]))).dest, gSync := some (0, 77), gResp := none, gAnn := none },
      by decide⟩,
   ⟨build [
      wake,
      fun c => ptpFix 1 0 c,
      fun c => { c with pte := { c.pte with slots := c.pte.slots.set none 0 (some { gSync := some (0, 0) }) } }],
    0, ({ gSync := some (0, 0) }), (0, 0), by decide⟩,
   ⟨build [
      wake,
      fun c => ptpFix 1 0 c,
      fun c =>
        { c with pte := { c.pte with slots := c.pte.slots.set none 0 (some { gSync := some (0, 77), gResp := some (2, 0) }) } }],
    0, ({ gSync := some (0, 77), gResp := some (2, 0) }), (2, 0), by decide⟩,
   ⟨build [
      wake,
      fun c => ptpFix 1 0 c,
      fun c => { c with pte := { c.pte with slots := c.pte.slots.set none 0 (some { gSync := some (0, 77) }) } }],
    0, 0, ({ gSync := some (0, 77) }), (0, 77), by decide⟩⟩

/-- The hypotheses of `Obligations.ClientService`, clause by clause. -/
theorem witness_ClientService :
    (∃ (s : State) (k : Fin 16384) (x : Slot), Running s ∧ s.dev.core.pteRun = true ∧ s.dev.core.slot k.val = some x ∧
      x.gSync.isSome = true ∧ s.dev.core.domOn x.dom = true ∧ s.dev.core.clockId ≠ 0) ∧
    (∃ (s : State) (k : Fin 16384) (x : Slot), Running s ∧ s.dev.core.pteRun = true ∧ s.dev.core.slot k.val = some x ∧
      x.gAnn.isSome = true ∧ s.dev.core.domOn x.dom = true ∧ s.dev.core.clockId ≠ 0) ∧
    (∃ (s : State) (n : Fin 4) (tr : Nat) (tm : Nat) (l : List Byte) (m : Msg) (d : Nat) (p : Nat), Running s ∧ PtpTaken
      s.dev.core n.val l tm tr m d p ∧ m.type = 1 ∧ s.dev.core.profile d ≠ 3 ∧ s.dev.core.findSlot d m = none ∧ m.mc = true ∧
      s.dev.core.portState p = 6 ∧ s.dev.core.clockId ≠ 0) ∧
    (∃ (s : State) (n : Fin 4) (tr : Nat) (tm : Nat) (l : List Byte) (m : Msg) (d : Nat) (p : Nat), Running s ∧ PtpTaken
      s.dev.core n.val l tm tr m d p ∧ m.type = 1 ∧ s.dev.core.findSlot d m = none ∧ ((m.mc = false ∨ s.dev.core.portState p ≠
      6))) ∧
    (∃ (s : State) (n : Fin 4) (tr : Nat) (tm : Nat) (l : List Byte) (m : Msg) (d : Nat) (p : Nat) (k : Nat) (x : Slot), Running
      s ∧ PtpTaken s.dev.core n.val l tm tr m d p ∧ m.type = 1 ∧ s.dev.core.profile d ≠ 3 ∧ s.dev.core.findSlot d m = some (k,
      x) ∧ s.dev.core.slot k = some x ∧ x.gResp = none) ∧
    (∃ (s : State) (k : BitVec 14) (x : Slot), Running s ∧ k.toNat < s.dev.core.part.nSlot ∧ s.dev.core.pteRun = true ∧
      s.dev.core.part.pte = true ∧ s.dev.core.slot k.toNat = some x) ∧
    (∃ (s : State) (k : BitVec 14) (x : Slot), Running s ∧ k.toNat < s.dev.core.part.nSlot ∧ s.dev.core.pteRun = true ∧
      s.dev.core.part.pte = true ∧ s.dev.core.slot k.toNat = some x ∧ x.asym = true) :=
  ⟨⟨build [
      fun c => (ptpFix 1 0 c),
      fun c =>
        { c with pte := { c.pte with slots := c.pte.slots.set none 0 (some { dom := 0, gSync := some (0, 77), gResp := none, gAnn := none }) } },
      wake],
    0, { dom := 0, gSync := some (0, 77), gResp := none, gAnn := none }, by decide⟩,
   ⟨build [
      fun c => (ptpFix 1 0 c),
      fun c =>
        { c with pte := { c.pte with slots := c.pte.slots.set none 0 (some { dom := 0, gSync := some (0, 77), gResp := none, gAnn := some (1, 77) }) } },
      wake],
    0, { dom := 0, gSync := some (0, 77), gResp := none, gAnn := some (1, 77) }, by decide⟩,
   ⟨build [fun c => (ptpFix 0 0 c).wr PTE_PORT_STAT.state 6 (0 : Fin 4), wake],
    0, 1, 1, ptpOf 1 false 9 [], (msgOn 0 (ptpOf 1 false 9 [])), 0, 0, by decide⟩,
   ⟨build [fun c => (ptpFix 0 0 c).wr PTE_PORT_STAT.state 8 (0 : Fin 4), wake],
    0, 1, 1, ptpOf 1 false 9 [], (msgOn 0 (ptpOf 1 false 9 [])), 0, 0, by decide⟩,
   ⟨build [
      fun c => (ptpFix 0 0 c),
      fun c =>
        { c with pte := { c.pte with slots := c.pte.slots.set none 1 (some { dom := 0, ident := (msgOn 0 (ptpOf 1 false 9 [])).src, dest := (msgOn 0 (ptpOf 1 false 9 [])).dest, gSync := some (0, 77), gResp := none, gAnn := none }) } },
      wake],
    0, 1, 1, ptpOf 1 false 9 [], (msgOn 0 (ptpOf 1 false 9 [])), 0, 0, 1,
      { dom := 0, ident := (msgOn 0 (ptpOf 1 false 9 [])).src, dest := (msgOn 0 (ptpOf 1 false 9 [])).dest, gSync := some (0, 77), gResp := none, gAnn := none },
      by decide⟩,
   ⟨build [
      fun c => (ptpFix 1 0 c),
      fun c =>
        { c with pte := { c.pte with slots := c.pte.slots.set none 1 (some { dom := 0, gSync := some (0, 77), gResp := some (1, 5) }) } },
      wake],
    1#14, { dom := 0, gSync := some (0, 77), gResp := some (1, 5) }, by decide⟩,
   ⟨build [
      fun c => (ptpFix 1 0 c),
      fun c =>
        { c with pte := { c.pte with slots := c.pte.slots.set none 1 (some { dom := 0, asym := true, gResp := some (1, 5), gSync := none }) } },
      wake],
    1#14, { dom := 0, asym := true, gResp := some (1, 5), gSync := none }, by decide⟩⟩

/-- The hypotheses of `Obligations.TileTests`, clause by clause. -/
theorem witness_TileTests :
    (∃ (s : State), Running s ∧ s.dev.core.pclk = true ∧ (s.dev.core.streamQueue 2 0).isSome = true) ∧
    (∃ (s : State), Running s ∧ s.dev.core.rd TMC_STAT.state ≠ 1) ∧
    (∃ (s : State) (a : Nat), Running s ∧ s.dev.core.rd TMC_STAT.state = 1 ∧ s.dev.core.memU.tDestr = true ∧
      s.dev.core.memU.tAbort = false ∧ a < 2 ^ 21 ∧ bitOf s.dev.core.memU.tBanks (a / 131072) = true ∧ s.dev.core.memOut = [] ∧
      PortsIdle s.dev.core ∧ (s.dev.core.memU.tWait.all fun w => w.2.all fun b => decide (b.1 ≠ a)) = true) ∧
    (∃ (s : State) (a : Nat), Running s ∧ s.dev.core.rd TMC_STAT.state = 1 ∧ s.dev.core.memU.tAbort = true ∧ s.dev.core.rd
      TMC_STAT.bank < a / 131072 ∧ s.dev.core.memOut = [] ∧ s.dev.core.memLost = [] ∧ PortsIdle s.dev.core ∧
      (s.dev.core.memU.tWait.all fun w => w.2.all fun b => decide (b.1 ≠ a)) = true) ∧
    (∃ (s : State), Running s ∧ s.dev.core.rd TMC_STAT.state = 1 ∧ s.dev.core.memU.tDestr = false ∧ s.dev.core.memOut = [] ∧
      s.dev.core.memLost = [] ∧ PortsIdle s.dev.core ∧ s.dev.core.memU.tWait = []) ∧
    (∃ (s : State), Running s ∧ s.dev.core.rd TMC_STAT.state = 1 ∧ s.dev.core.memU.tAbort = false) ∧
    (∃ (s : State), Running s ∧ s.dev.core.rd TMC_STAT.state = 1 ∧ s.dev.core.memU.tAbort = false) ∧
    (∃ (s : State), Running s ∧ s.dev.core.rd TMC_STAT.state = 1 ∧ s.dev.core.memU.tAbort = false) ∧
    (∃ (s : State), Running s ∧ s.dev.core.rd TMC_STAT.state = 1 ∧ s.dev.core.memU.tAbort = true) ∧
    (∃ (s : State) (b : Fin 16) (row : Nat) (k : Nat), Running s ∧ s.dev.core.rd TMC_STAT.state = 1 ∧ s.dev.core.memU.tAbort =
      false ∧ bitOf s.dev.core.memU.tBanks b.val = true ∧ row < 128 ∧ s.dev.core.goodSpare b.val = some k) ∧
    (∃ (s : State) (b : Fin 16) (row : Nat), Running s ∧ s.dev.core.rd TMC_STAT.state = 1 ∧ ((s.dev.core.memU.tAbort = true →
      b.val ≤ s.dev.core.rd TMC_STAT.bank)) ∧ bitOf s.dev.core.memU.tBanks b.val = true ∧ row < 128 ∧ s.dev.core.goodSpare b.val
      = none ∧ bitOf (s.dev.core.rd TMC_STAT.failed) b.val = false) :=
  ⟨⟨build [wake, fun c => c.wr RS_STAT.clk_src 0, fun c => { c.wr RS_STAT.clk_src 0 with streams := [⟨2, 255, 3⟩] }],
    by decide⟩,
   ⟨awake, by decide⟩,
   ⟨build [
      wake,
      fun c => c.wr TMC_STAT.state 1,
      fun c => { c with memU := { c.memU with tDestr := true } },
      fun c => { c with memU := { c.memU with tAbort := false } },
      fun c => { c with memOut := [] },
      fun c => { c with host := {}, memU := { c.memU with tBanks := 2^16-1 } }],
    1, by decide⟩,
   ⟨build [
      wake,
      fun c => c.wr TMC_STAT.state 1,
      fun c => { c with memU := { c.memU with tAbort := true } },
      fun c => { c with memOut := [] },
      fun c => { c with memLost := [] },
      fun c => { c.wr TMC_STAT.bank 0 with host := {} }],
    131072, by decide⟩,
   ⟨build [
      wake,
      fun c => c.wr TMC_STAT.state 1,
      fun c => { c with memU := { c.memU with tDestr := false } },
      fun c => { c with memOut := [] },
      fun c => { c with memLost := [] },
      fun c => { c with memU := { c.memU with tWait := [] } },
      fun c => { c with host := {}, memU := { c.memU with tWait := [] } }],
    by decide⟩,
   ⟨build [wake, fun c => c.wr TMC_STAT.state 1 , fun c => { c with memU := { c.memU with tAbort := false } }], by decide⟩,
   ⟨build [wake, fun c => c.wr TMC_STAT.state 1 , fun c => { c with memU := { c.memU with tAbort := false } }], by decide⟩,
   ⟨build [wake, fun c => c.wr TMC_STAT.state 1 , fun c => { c with memU := { c.memU with tAbort := false } }], by decide⟩,
   ⟨build [wake, fun c => c.wr TMC_STAT.state 1 , fun c => { c with memU := { c.memU with tAbort := true } }], by decide⟩,
   ⟨build [
      fun c => { c with memU := { c.memU with tBanks := 2^16-1 } },
      fun c =>
        { (c.wr TMC_STAT.state 1).wr TMC_BANK.spares 0 0 (0 : Fin 16) with memU := { c.memU with tAbort := false, badSpare := [] } },
      wake],
    0, 1, 0, by decide⟩,
   ⟨build [
      wake,
      fun c => c.wr TMC_STAT.state 1,
      fun c =>
        { ((c.wr TMC_BANK.spares 15 0 (0 : Fin 16)).wrBit TMC_STAT.failed (0 : Fin 16) false).wr TMC_STAT.bank (0 : Fin 16) with memU := { c.memU with tBanks := 2^16-1 } }],
    0, 1, by decide⟩⟩

/-- The hypotheses of `Obligations.VaultStates`, clause by clause. -/
theorem witness_VaultStates :
    (∃ (s : State), Running s ∧ s.dev.core.pclk = true ∧ s.dev.core.vaultState = vltTraining) ∧
    (∃ (s : State), Running s ∧ s.dev.core.pclk = true ∧ s.dev.core.part.vaultMB ≠ 0 ∧ s.dev.core.vaultState = vltTraining) ∧
    (∃ (s : State), Running s ∧ s.dev.core.vaultState = vltTesting) ∧
    (∃ (s : State), Running s ∧ s.dev.core.part.vaultMB ≠ 0 ∧ s.dev.core.vaultState = vltTesting) ∧
    (∃ (s : State), Running s ∧ s.dev.core.part.vaultMB ≠ 0 ∧ s.dev.core.vaultState = vltReady) ∧
    (∃ (s : State), Running s ∧ s.dev.core.part.vaultMB ≠ 0 ∧ s.dev.core.vaultState = vltTesting ∧ s.dev.core.memU.vDestr =
      false) ∧
    (∃ (s : State), Running s ∧ s.dev.core.part.vaultMB ≠ 0 ∧ s.dev.core.vaultState = vltTesting ∧ s.dev.core.memU.vDestr =
      false) ∧
    (∃ (s : State), Running s ∧ s.dev.core.part.vaultMB ≠ 0 ∧ s.dev.core.vaultState = vltTesting ∧ s.dev.core.memU.vDestr =
      true) ∧
    (∃ (s : State), Running s ∧ s.dev.core.part.vaultMB ≠ 0 ∧ s.dev.core.pclk = true ∧ s.dev.core.vaultState = vltFailed) ∧
    (∃ (s : State) (i : Instr) (b : Bool), Running s ∧ s.dev.core.part.vaultMB = 0 ∧ (i = .vltTestStart ∨ i = .vltAbort b ∨ i =
      .retrain)) ∧
    (∃ (s : State) (i : Instr), s.dev.core.pclk = false ∧ (i = .vaultTrained ∨ i = .trainTimeout ∨ (i = .retrain ∧
      s.dev.core.part.vaultMB ≠ 0))) ∧
    (∃ (s : State), Running s ∧ s.dev.core.vaultState ≠ vltFailed) ∧
    (∃ (s : State), Running s ∧ s.dev.core.vaultState = vltReady ∧ s.dev.core.rd VLT_CTRL.scrub_en = 1 ∧ s.dev.core.memU.poison
      = [] ∧ s.dev.core.memU.injV = none ∧ s.dev.core.injArmed 52 (s.dev.core.rd VLT_SCRUB_POS.addr) = false) ∧
    (∃ (s : State), Running s ∧ s.dev.core.part.vaultMB ≠ 0 ∧ s.dev.core.vaultState = vltReady ∧ s.dev.core.rd VLT_CTRL.scrub_en
      = 1 ∧ s.dev.core.memU.poison = []) ∧
    (∃ (s : State), Running s) :=
  ⟨⟨build [wake, fun c => c.wr RS_STAT.clk_src 0, fun c => c.wr VLT_STAT.state 1], by decide⟩,
   ⟨build [wake, fun c => c.wr RS_STAT.clk_src 0, fun c => c.wr VLT_STAT.state 1], by decide⟩,
   ⟨build [wake, fun c => c.wr VLT_STAT.state 2], by decide⟩,
   ⟨build [wake, fun c => c.wr VLT_STAT.state 2], by decide⟩,
   ⟨build [wake, fun c => c.wr VLT_STAT.state vltReady], by decide⟩,
   ⟨build [wake, fun c => { c with memU := { c.memU with vDestr := false } }, fun c => c.wr VLT_STAT.state 2], by decide⟩,
   ⟨build [wake, fun c => { c with memU := { c.memU with vDestr := false } }, fun c => c.wr VLT_STAT.state 2], by decide⟩,
   ⟨build [wake, fun c => { c with memU := { c.memU with vDestr := true } }, fun c => c.wr VLT_STAT.state 2], by decide⟩,
   ⟨build [wake, fun c => c.wr RS_STAT.clk_src 0, fun c => c.wr VLT_STAT.state 5], by decide⟩,
   ⟨build [fun c => { c with inReset := false, part := { c.part with variant := .c1624 } }, wake],
    if State.reset.dev.core.dt % 2 = 0 then .vltTestStart else if false then .vltAbort false else .retrain, false, by decide⟩,
   ⟨build [fun c => c.wr RS_STAT.clk_src 1],
    if (onC State.reset (fun c => c.wr RS_STAT.clk_src 1)).dev.core.inReset then .vaultTrained else if (onC State.reset (fun c
      => c.wr RS_STAT.clk_src 1)).dev.core.part.vaultMB = 0 then .vaultTrained else .trainTimeout, by decide⟩,
   ⟨build [wake, fun c => c.wr VLT_STAT.state vltReady], by decide⟩,
   ⟨build [
      wake,
      fun c => c.wr VLT_CTRL.scrub_en 1,
      fun c => { c with memU := { c.memU with poison := [] } },
      fun c => { c with memU := { c.memU with injV := none } },
      fun c => c.wr VLT_STAT.state vltReady],
    by decide⟩,
   ⟨build [
      fun c =>
        { (c.wr VLT_STAT.state vltReady |>.wr VLT_CTRL.scrub_en 1) with inReset := false, memU := { c.memU with poison := [] } },
      wake],
    by decide⟩,
   ⟨awake, by decide⟩⟩

/-- The hypotheses of `Obligations.LinkTransactions`, clause by clause. -/
theorem witness_LinkTransactions :
    (∃ (s : State) (l : List Byte), Running s ∧ l.all (fun b => decide (b = 0xFF#8)) = true) ∧
    (∃ (s : State) (b : Byte), Running s ∧ b ≠ 0xFF#8 ∧ ((64 ≤ b.toNat ∨ b.toNat % 16 ≠ 1))) ∧
    (∃ (s : State) (body : List Byte), Running s ∧ body.length ≤ 4096) ∧
    (∃ (s : State) (cls : Fin 4) (body : List Byte), Running s ∧ body.length ≤ 4096 ∧ s.dev.core.rd (creditFld 0 cls.val) = 0 ∧
      (s.dev.core.port 0).rx = []) ∧
    (∃ (s : State), Running s) ∧
    (∃ (s : State) (b : List Byte) (x : Byte) (y : Byte) (rest : List Byte), Running s ∧ (s.dev.core.port 0).ins = [] ∧
      (s.dev.core.port 0).insCur = none ∧ (s.dev.core.port 0).cur = some (b, 0) ∧ b = x :: y :: rest) ∧
    (∃ (s : State), Running s) ∧
    (∃ (s : State), Running s) ∧
    (∃ (s : State) (code : BitVec 8), Running s ∧ ((code.toNat = 0 ∨ 4 < code.toNat))) ∧
    (∃ (s : State) (l : List Byte), Running s ∧ s.dev.core.part.nLane ≠ 0 ∧ s.dev.core.laneState 0 = leUp ∧ s.dev.core.rd
      HLK_IB_CFG.en = 1 ∧ fbe l 0 6 = s.dev.core.mac0 ∧ fbe l (etherOff l).1 2 = 0x88B5 ∧ fbe (l.drop ((etherOff l).1 + 2)) 0 2
      = 0x564C ∧ fbe l 6 6 ≠ s.dev.core.ibPeer) ∧
    (∃ (s : State) (l : List Byte), Running s ∧ s.dev.core.part.nLane ≠ 0 ∧ s.dev.core.laneState 0 = leUp ∧ s.dev.core.rd
      HLK_IB_CFG.en = 1 ∧ fbe l 0 6 = s.dev.core.mac0 ∧ fbe l (etherOff l).1 2 = 0x88B5 ∧ fbe (l.drop ((etherOff l).1 + 2)) 0 2
      = 0x564C ∧ fbe l 6 6 = s.dev.core.ibPeer ∧ fieldLE (l.drop ((etherOff l).1 + 2)) 2 2 = 1 ∧ fieldLE (l.drop ((etherOff l).1
      + 2)) 6 2 = 0 ∧ 8 ≤ (l.drop ((etherOff l).1 + 2)).length ∧ (s.dev.core.port 1).rx = []) :=
  ⟨⟨awake, ([] : List Byte).map (fun _ => 0xFF#8), by decide⟩,
   ⟨awake, 64#8, by decide⟩,
   ⟨awake, [], by decide⟩,
   ⟨build [wake, fun c => c.wr (creditFld 0 0) 0 , fun c => c.setPort 0 { c.port 0 with rx := [] }], 0, [], by decide⟩,
   ⟨awake, by decide⟩,
   ⟨build [
      fun c => c.setPort 0 { c.port 0 with ins := [], cur := some ([1#8, 1#8], 0) },
      fun c =>
        { c with inReset := false, host := { c.host with ports := (c.setPort 0 { c.port 0 with ins := [], cur := some ([1#8, 1#8], 0) }).host.ports } },
      wake],
    [1#8, 1#8], 1#8, 1#8, [], by decide⟩,
   ⟨awake, by decide⟩,
   ⟨awake, by decide⟩,
   ⟨awake, 0#8, by decide⟩,
   ⟨onC (onC State.reset ibFix) (fun c => { c with inReset := false }),
    bytesBE 6 (onC State.reset ibFix).dev.core.mac0 ++ bytesBE 6 5 ++ bytesBE 2 0x88B5 ++ bytesBE 2 0x564C ++ [1#8, 0#8] ++ [],
      by decide⟩,
   ⟨onC (onC State.reset ibFix) (fun c => { c with inReset := false }),
    bytesBE 6 (onC State.reset ibFix).dev.core.mac0 ++ bytesBE 6 (onC State.reset ibFix).dev.core.ibPeer ++ bytesBE 2 0x88B5 ++
      bytesBE 2 0x564C ++ [1#8, 0#8,0#8,0#8,0#8,0#8] ++ [], by decide⟩⟩

/-- The hypotheses of `Obligations.ClassZeroCommands`, clause by clause. -/
theorem witness_ClassZeroCommands :
    (∃ (s : State) (p : Fin 2) (cls : Fin 4) (ch : BitVec 8), Running s ∧ PortFree s.dev.core p.val cls.val ∧ ch.toNat <
      s.dev.core.part.nCh ∧ s.dev.core.rd CH_CFG.en ch.toNat = 1 ∧ s.dev.core.rd CH_CFG.kind ch.toNat = 0 ∧ s.dev.core.chState
      ch.toNat ≠ chDisabled) ∧
    (∃ (s : State) (p : Fin 2) (cls : Fin 4) (ch : BitVec 8), Running s ∧ PortFree s.dev.core p.val cls.val ∧ ch.toNat <
      s.dev.core.part.nCh ∧ s.dev.core.rd CH_CFG.en ch.toNat = 1) ∧
    (∃ (s : State) (p : Fin 2) (cls : Fin 4) (ch : BitVec 8), Running s ∧ PortFree s.dev.core p.val cls.val ∧ ch.toNat <
      s.dev.core.part.nCh ∧ s.dev.core.rd CH_CFG.en ch.toNat = 0) ∧
    (∃ (s : State) (p : Fin 2) (cls : Fin 4) (ch : BitVec 8) (cand : BitVec 8), Running s ∧ PortFree s.dev.core p.val cls.val ∧
      ch.toNat < s.dev.core.part.nCh ∧ s.dev.core.rd CH_CFG.en ch.toNat = 1 ∧ s.dev.core.manOk ch.toNat cand.toNat = true) ∧
    (∃ (s : State) (p : Fin 2) (cls : Fin 4) (ch : BitVec 8) (cand : BitVec 8), Running s ∧ PortFree s.dev.core p.val cls.val ∧
      ((31 < cand.toNat ∨ 12 ≤ ch.toNat))) ∧
    (∃ (s : State) (p : Fin 2) (cls : Fin 4) (mask : BitVec 32), Running s ∧ PortFree s.dev.core p.val cls.val ∧ mask.toNat < 2
      ^ s.dev.core.part.nOut) ∧
    (∃ (s : State) (p : Fin 2) (cls : Fin 4) (mask : BitVec 32), Running s ∧ PortFree s.dev.core p.val cls.val ∧ mask.toNat < 2
      ^ s.dev.core.part.nOut ∧ s.dev.core.mtl.heldKeys = []) ∧
    (∃ (s : State) (p : Fin 2) (cls : Fin 4) (ch : BitVec 8), Running s ∧ PortFree s.dev.core p.val cls.val ∧ ch.toNat <
      s.dev.core.part.nCh ∧ s.dev.core.rd CH_CFG.en ch.toNat = 1 ∧ s.dev.core.rd CH_CFG.kind ch.toNat = 1) ∧
    (∃ (s : State) (p : Fin 2) (cls : Fin 4) (ch : BitVec 8), Running s ∧ PortFree s.dev.core p.val cls.val ∧ ch.toNat <
      s.dev.core.part.nCh ∧ s.dev.core.rd CH_CFG.en ch.toNat = 0) ∧
    (∃ (s : State) (p : Fin 2) (cls : Fin 4) (fs : BitVec 8), Running s ∧ PortFree s.dev.core p.val cls.val ∧ 95 < fs.toNat) ∧
    (∃ (s : State) (p : Fin 2) (cls : Fin 4) (fs : BitVec 8) (unit : BitVec 8), Running s ∧ PortFree s.dev.core p.val cls.val ∧
      fs.toNat ≤ 95 ∧ s.dev.core.part.fsAbsent fs.toNat = false ∧ ((fsTracked fs.toNat = false ∨ unit.toNat = 255 ∨
      s.dev.core.part.fsUnitOk fs.toNat unit.toNat = true)) ∧ s.dev.core.building = []) ∧
    (∃ (s : State) (p : Fin 2) (cls : Fin 4) (fs : BitVec 8), Running s ∧ PortFree s.dev.core p.val cls.val ∧ fs.toNat ≤ 95 ∧
      s.dev.core.part.fsAbsent fs.toNat = true) :=
  ⟨⟨build [
      fun c =>
        let c := ((c.wr CH_CFG.en 1 1).wr CH_CFG.kind 0 1).wr CH_ROUTE.mask (2^24-1) 1
        portFix 0 0 c,
      wake,
      fun c => c.wr CH_STAT.state 1 1],
    0, 0, 1#8, by decide⟩,
   ⟨build [
      fun c =>
        let c := ((c.wr CH_CFG.en 1 1).wr CH_CFG.kind 0 1).wr CH_ROUTE.mask (2^24-1) 1
        portFix 0 0 c,
      wake],
    0, 0, 1#8, by decide⟩,
   ⟨build [
      fun c =>
        let c := (c.wr CH_CFG.en 0 1)
        portFix 0 0 c,
      wake],
    0, 0, 1#8, by decide⟩,
   ⟨build [
      fun c =>
        let c := ((c.wr CH_CFG.en 1 1).wr CH_CFG.kind 0 1).wr CH_ROUTE.mask (2^24-1) 1
        portFix 0 0 c,
      wake],
    0, 0, 1#8, if 1 = 3 then 31#8 else 1#8, by decide⟩,
   ⟨build [fun c => portFix 0 0 c, wake], 0, 0, 1#8, 32#8, by decide⟩,
   ⟨build [fun c => portFix 0 0 c, wake], 0, 0, BitVec.ofNat 32 (1 % 2^12), by decide⟩,
   ⟨build [
      fun c =>
        let c := { c with mtl := { c.mtl with heldKeys := [] } }
        portFix 0 0 c,
      wake],
    0, 0, BitVec.ofNat 32 (1 % 2^12), by decide⟩,
   ⟨build [
      fun c =>
        let c := ((c.wr CH_CFG.kind 1 1).wr CH_CFG.en 1 1)
        portFix 0 0 c,
      wake],
    0, 0, 1#8, by decide⟩,
   ⟨build [
      fun c =>
        let c := (c.wr CH_CFG.en 0 1)
        portFix 0 0 c,
      wake],
    0, 0, 1#8, by decide⟩,
   ⟨build [fun c => portFix 0 0 c, wake], 0, 0, 96#8, by decide⟩,
   ⟨build [
      fun c =>
        let c := { c with building := [] }
        portFix 0 0 c,
      wake],
    0, 0, 1#8, 1#8, by decide⟩,
   ⟨build [
      fun c =>
        let c : Core := { c with part := { c.part with variant := .c1624 } }
        portFix 0 0 c,
      wake],
    0, 0, if 1 = 0 then 47#8 else 32#8, by decide⟩⟩

/-- The hypotheses of `Obligations.HostTransfers`, clause by clause. -/
theorem witness_HostTransfers :
    (∃ (s : State) (p : Fin 2) (cls : Fin 4), Running s ∧ PortFree s.dev.core p.val cls.val ∧ cls.val ≠ 0) ∧
    (∃ (s : State) (p : Fin 2), Running s ∧ PortFree s.dev.core p.val 0) ∧
    (∃ (s : State) (p : Fin 2) (cls : Fin 4) (be : BitVec 4), Running s ∧ PortFree s.dev.core p.val cls.val ∧ cls.val ≠ 0 ∧ be ≠
      0) ∧
    (∃ (s : State) (p : Fin 2) (cls : Fin 4) (addr : BitVec 32) (be : BitVec 4) (r : RegRef), Running s ∧ PortFree s.dev.core
      p.val cls.val ∧ cls.val ≠ 0 ∧ s.dev.core.part.access addr.toNat be.toNat = .reg r none ∧ r.readsPlain = true ∧ ((r.id =
      .frs → r.row.off ≠ 0x10))) ∧
    (∃ (s : State) (p : Fin 2) (cls : Fin 4) (addr : BitVec 32) (be : BitVec 4) (r : RegRef) (u : RegRef), Running s ∧ PortFree
      s.dev.core p.val cls.val ∧ cls.val ≠ 0 ∧ s.dev.core.part.access addr.toNat be.toNat = .reg r none ∧ r.row.isL = true ∧
      r.dataPort = false ∧ ((r.id = .frs → r.row.off ≠ 0x10)) ∧ s.dev.core.part.decodeWord (r.addr + 4) = .reg u ∧ u.row.isH =
      true) ∧
    (∃ (s : State) (p : Fin 2) (cls : Fin 4) (addr : BitVec 32) (be : BitVec 4) (r : RegRef), Running s ∧ PortFree s.dev.core
      p.val cls.val ∧ cls.val ≠ 0 ∧ s.dev.core.part.access addr.toNat be.toNat = .reg r none ∧ r.row.isH = true ∧ r.dataPort =
      false) ∧
    (∃ (s : State) (p : Fin 2) (cls : Fin 4) (addr : BitVec 32) (be : BitVec 4) (r : RegRef), Running s ∧ PortFree s.dev.core
      p.val cls.val ∧ cls.val ≠ 0 ∧ s.dev.core.part.access addr.toNat be.toNat = .reg r none ∧ r.storesOnly = true) ∧
    (∃ (s : State) (p : Fin 2) (cls : Fin 4) (addr : BitVec 32) (be : BitVec 4) (e : Nat), Running s ∧ PortFree s.dev.core p.val
      cls.val ∧ cls.val ≠ 0 ∧ s.dev.core.part.access addr.toNat be.toNat = .bad e) ∧
    (∃ (s : State) (p : Fin 2) (cls : Fin 4) (be : BitVec 4), Running s ∧ PortFree s.dev.core p.val cls.val ∧ cls.val ≠ 0 ∧ be ≠
      0) ∧
    (∃ (s : State) (p : Fin 2) (cls : Fin 4) (addr : BitVec 32) (be : BitVec 4) (e : Nat), Running s ∧ PortFree s.dev.core p.val
      cls.val ∧ cls.val ≠ 0 ∧ s.dev.core.part.access addr.toNat be.toNat = .bad e) ∧
    (∃ (s : State) (p : Fin 2) (cls : Fin 4), Running s ∧ PortFree s.dev.core p.val cls.val ∧ cls.val ≠ 0 ∧ s.dev.core.rd
      TMC_STAT.state = 1 ∧ s.dev.core.memU.tAbort = false) ∧
    (∃ (s : State) (p : Fin 2) (cls : Fin 4), Running s ∧ PortFree s.dev.core p.val cls.val ∧ cls.val ≠ 0 ∧ s.dev.core.rd
      TMC_STAT.state ≠ 1) ∧
    (∃ (s : State) (p : Fin 2) (cls : Fin 4) (off : BitVec 32) (data : List Byte) (j : Nat), Running s ∧ PortFree s.dev.core
      p.val cls.val ∧ cls.val ≠ 0 ∧ s.dev.core.mlState = mlIdle ∧ data.length % 4 = 0 ∧ 4 ≤ data.length ∧ data.length ≤ 4088 ∧
      off.toNat + data.length ≤ 65536 ∧ j < data.length) ∧
    (∃ (s : State) (p : Fin 2) (cls : Fin 4) (len : BitVec 16) (off : BitVec 32), Running s ∧ PortFree s.dev.core p.val cls.val
      ∧ cls.val ≠ 0 ∧ len.toNat % 4 = 0 ∧ 4 ≤ len.toNat ∧ len.toNat ≤ 4096 ∧ off.toNat + len.toNat ≤ 129 * 1024) ∧
    (∃ (s : State) (p : Fin 2) (cls : Fin 4) (q : BitVec 8) (limit : BitVec 16), Running s ∧ PortFree s.dev.core p.val cls.val ∧
      cls.val ≠ 0 ∧ q.toNat ≤ 127 ∧ 1 ≤ limit.toNat ∧ limit.toNat ≤ 256 ∧ s.dev.core.rd QMG_Q_CFG.en q.toNat = 0) ∧
    (∃ (s : State) (p : Fin 2) (cls : Fin 4) (q : BitVec 8) (limit : BitVec 16), Running s ∧ PortFree s.dev.core p.val cls.val ∧
      cls.val ≠ 0 ∧ q.toNat ≤ 127 ∧ 1 ≤ limit.toNat ∧ limit.toNat ≤ 256 ∧ s.dev.core.rd QMG_Q_CFG.en q.toNat = 1 ∧
      s.dev.core.streams.any (fun x => decide (x.queue = q.toNat)) = true ∧ s.dev.core.pclk = true ∧ (s.dev.core.queue
      q.toNat).items = []) ∧
    (∃ (s : State) (p : Fin 2) (cls : Fin 4) (q : BitVec 8) (limit : BitVec 16), Running s ∧ PortFree s.dev.core p.val cls.val ∧
      cls.val ≠ 0 ∧ q.toNat ≤ 127 ∧ 1 ≤ limit.toNat ∧ limit.toNat ≤ 256 ∧ s.dev.core.rd QMG_Q_CFG.en q.toNat = 1 ∧
      s.dev.core.streams.any (fun x => decide (x.queue = q.toNat)) = true ∧ s.dev.core.pclk = true ∧ (s.dev.core.queue
      q.toNat).items.all (fun it => it.readable && it.complete && it.flaw.isNone && decide (0 < it.len) && !s.dev.core.itemHeld
      it) = true ∧ s.dev.core.middleSound q.toNat) ∧
    (∃ (s : State) (p : Fin 2) (cls : Fin 4) (q : BitVec 8) (limit : BitVec 16), Running s ∧ PortFree s.dev.core p.val cls.val ∧
      cls.val ≠ 0 ∧ q.toNat ≤ 127 ∧ 1 ≤ limit.toNat ∧ limit.toNat ≤ 256 ∧ s.dev.core.rd QMG_Q_CFG.en q.toNat = 1 ∧
      s.dev.core.streams.any (fun x => decide (x.queue = q.toNat)) = true ∧ s.dev.core.pclk = true ∧ (s.dev.core.queue
      q.toNat).nextItem.all (fun it => !s.dev.core.readable (s.dev.core.queue q.toNat) it) = true) ∧
    (∃ (s : State) (p : Fin 2) (cls : Fin 4) (off : BitVec 32) (data : List Byte) (j : Nat), Running s ∧ PortFree s.dev.core
      p.val cls.val ∧ cls.val ≠ 0 ∧ data.length % 4 = 0 ∧ 4 ≤ data.length ∧ data.length ≤ 4088 ∧ off.toNat + data.length ≤ 2 ^
      21 ∧ j < data.length ∧ (List.range 16).all (fun b => !s.dev.core.bankBusy b) = true) ∧
    (∃ (s : State) (p : Fin 2) (cls : Fin 4) (off : BitVec 32) (data : List Byte), Running s ∧ PortFree s.dev.core p.val cls.val
      ∧ cls.val ≠ 0 ∧ data.length % 4 = 0 ∧ 4 ≤ data.length ∧ data.length ≤ 4088 ∧ off.toNat + data.length ≤ 2 ^ 21 ∧
      s.dev.core.bankBusy (off.toNat / 131072) = true ∧ s.dev.core.memOut = [] ∧ s.dev.core.memLost = []) :=
  ⟨⟨build [fun c => portFix 0 2 c, wake], 0, 2, by decide⟩,
   ⟨build [fun c => portFix 0 0 c, wake], 0, by decide⟩,
   ⟨build [fun c => portFix 0 2 c, wake], 0, 2, 1#4, by decide⟩,
   ⟨build [wake, fun c => portFix 0 2 c],
    0, 2, BitVec.ofNat 32 (REF_CFG.en.addr 0 0), 15#4, ⟨.ref, 0, REF_CFG.row, 0⟩, by decide +kernel⟩,
   ⟨build [wake, fun c => portFix 0 2 c],
    0, 2, BitVec.ofNat 32 (REF_PHASE_LO.phase_lo.addr 0 0), 15#4, ⟨.ref, 0, REF_PHASE_LO.row, 0⟩, ⟨.ref, 0, REF_PHASE_HI.row,
      0⟩, by decide +kernel⟩,
   ⟨build [wake, fun c => portFix 0 2 c],
    0, 2, BitVec.ofNat 32 (REF_PHASE_HI.phase_hi.addr 0 0), 15#4, ⟨.ref, 0, REF_PHASE_HI.row, 0⟩, by decide +kernel⟩,
   ⟨build [wake, fun c => portFix 0 2 c],
    0, 2, BitVec.ofNat 32 (RS_LOCK_CFG.win.addr 0 0), 15#4, ⟨.rs, 0, RS_LOCK_CFG.row, 0⟩, by decide +kernel⟩,
   ⟨build [fun c => portFix 0 2 c, wake], 0, 2, 1#32, 1#4, 2, by decide⟩,
   ⟨build [fun c => portFix 0 2 c, wake], 0, 2, 1#4, by decide⟩,
   ⟨build [fun c => portFix 0 2 c, wake], 0, 2, 1#32, 1#4, 2, by decide⟩,
   ⟨build [
      fun c =>
        let c := { c.wr TMC_STAT.state 1 with memU := { c.memU with tAbort := false } }
        portFix 0 2 c,
      wake],
    0, 2, by decide⟩,
   ⟨build [fun c => portFix 0 2 c, wake], 0, 2, by decide⟩,
   ⟨build [
      fun c =>
        let c := c.wr MTL_STAT.state 0
        portFix 0 2 c,
      wake],
    0, 2, 1#32, let d := ([] : List Byte).take (([] : List Byte).length / 4 * 4); if d.isEmpty then [1#8,2#8,3#8,4#8] else d, 1
      % (let d := ([] : List Byte).take (([] : List Byte).length / 4 * 4); if d.isEmpty then [1#8,2#8,3#8,4#8] else d : List
      Byte).length, by decide⟩,
   ⟨build [fun c => portFix 0 2 c, wake], 0, 2, 8#16, 1#32, by decide⟩,
   ⟨build [
      fun c =>
        let c := c.wr QMG_Q_CFG.en 0 1
        portFix 0 2 c,
      wake],
    0, 2, 1#8, 2#16, by decide⟩,
   ⟨build [
      fun c =>
        let c := { (c.wr QMG_Q_CFG.en 1 1).wr RS_STAT.clk_src 0 with streams := [⟨2, 255, 1⟩] }
        let c := c.setQueue 1 { c.queue 1 with items := [] }
        portFix 0 2 c,
      wake],
    0, 2, 1#8, 2#16, by decide⟩,
   ⟨build [
      fun c =>
        let c := { (c.wr QMG_Q_CFG.en 1 1).wr RS_STAT.clk_src 0 with streams := [⟨2, 255, 1⟩] }
        let c := c.setQueue 1
          { c.queue 1 with rp := 4, items := [{ pos := 1, addr := 0, words := [1,2], len := 2, readable := true, mid := false, flaw := none }, { pos := 3, addr := 0, words := [5,6,7], len := 3, readable := true, mid := false, flaw := none }, { pos := 6, addr := 0, words := [9,9], len := 2, readable := true, mid := false, flaw := none }], mark := if 2 = 0 then none else some 2 }
        portFix 0 2 c,
      wake],
    0, 2, 1#8, 2#16, by decide⟩,
   ⟨build [
      fun c =>
        let c := { (c.wr QMG_Q_CFG.en 1 1).wr RS_STAT.clk_src 0 with streams := [⟨2, 255, 1⟩] }
        let c := c.setQueue 1 { c.queue 1 with items := (c.queue 1).items.map (fun it => { it with readable := false }) }
        portFix 0 2 c,
      wake],
    0, 2, 1#8, 2#16, by decide⟩,
   ⟨build [
      fun c =>
        let c : Core := { c with memU := { c.memU with tBanks := 0 } }
        portFix 0 2 c,
      wake],
    0, 2, 1#32, let d := ([] : List Byte).take (([] : List Byte).length / 4 * 4); if d.isEmpty then [1#8,2#8,3#8,4#8] else d, 1
      % (let d := ([] : List Byte).take (([] : List Byte).length / 4 * 4); if d.isEmpty then [1#8,2#8,3#8,4#8] else d : List
      Byte).length, by decide⟩,
   ⟨build [
      fun c =>
        let c : Core :=
          { ((c.wr TMC_STAT.state 1).wr TMC_CTRL.mode 0) with memU := { c.memU with tBanks := 2^16 - 1, tDestr := true }, memOut := [], memLost := [] }
        portFix 0 2 c,
      wake],
    0, 2, 1#32, let d := ([] : List Byte).take (([] : List Byte).length / 4 * 4); if d.isEmpty then [1#8,2#8,3#8,4#8] else d, by
      decide⟩⟩

/-- The hypotheses of `Obligations.RegisterAccesses`, clause by clause. -/
theorem witness_RegisterAccesses :
    (∃ (s : State) (ex : Fin 4) (be : BitVec 4), Running s ∧ s.dev.core.indWaits ex.val = false ∧ be ≠ 0) ∧
    (∃ (s : State) (ex : Fin 4) (addr : BitVec 32) (be : BitVec 4) (r : RegRef), Running s ∧ s.dev.core.indWaits ex.val = false
      ∧ s.dev.core.part.access addr.toNat be.toNat = .reg r none ∧ r.storesOnly = true) ∧
    (∃ (s : State) (ex : Fin 4), Running s ∧ s.dev.core.indWaits ex.val = true) ∧
    (∃ (s : State) (ex : Fin 4) (addr : BitVec 32) (be : BitVec 4) (e : Nat), Running s ∧ s.dev.core.indWaits ex.val = false ∧
      s.dev.core.part.access addr.toNat be.toNat = .bad e ∧ s.dev.core.rd IDB_BUSERR_STAT.valid = 0) ∧
    (∃ (s : State) (ex : Fin 4) (addr : BitVec 32) (be : BitVec 4) (e : Nat), Running s ∧ s.dev.core.indWaits ex.val = false ∧
      s.dev.core.part.access addr.toNat be.toNat = .bad e ∧ s.dev.core.rd IDB_BUSERR_STAT.valid = 1) ∧
    (∃ (s : State) (ex : Fin 4) (be : BitVec 4), Running s ∧ s.dev.core.indWaits ex.val = false ∧ be.toNat.testBit 0 = true) ∧
    (∃ (s : State) (n : Fin 4) (ex : Fin 4), Running s ∧ s.dev.core.indWaits ex.val = false ∧ (s.dev.core.inds.get {} n.val).acc
      = none) ∧
    (∃ (s : State) (n : Fin 4) (ex : Fin 4), Running s ∧ s.dev.core.indWaits ex.val = false ∧ (s.dev.core.inds.get {}
      n.val).acc.isSome = true) ∧
    (∃ (s : State) (n : Fin 4) (x : IndAcc), Running s ∧ PortsIdle s.dev.core ∧ s.dev.core.exHeld = [] ∧ (s.dev.core.inds.get {}
      n.val).acc = some x ∧ x.space = 0 ∧ s.dev.core.bankBusy (x.addr / 131072) = true) ∧
    (∃ (s : State) (n : Fin 4) (x : IndAcc), Running s ∧ PortsIdle s.dev.core ∧ s.dev.core.exHeld = [] ∧ s.dev.core.inds.get {}
      n.val = { acc := some x } ∧ x.space = 0 ∧ x.write = true ∧ x.addr + 4 ≤ 2 ^ 21 ∧ s.dev.core.bankBusy (x.addr / 131072) =
      false ∧ s.dev.core.memOut = [] ∧ s.dev.core.memLost = []) ∧
    (∃ (s : State) (n : Fin 4) (x : IndAcc), Running s ∧ s.dev.core.inds.get {} n.val = { acc := some x } ∧ x.space = 0 ∧
      x.write = true ∧ x.lost = false ∧ x.addr + 4 ≤ 2 ^ 21 ∧ s.dev.core.bankBusy (x.addr / 131072) = false ∧ s.dev.core.memOut
      = [] ∧ s.dev.core.memLost = [] ∧ PortsIdle s.dev.core ∧ s.dev.core.exHeld = []) ∧
    (∃ (s : State) (n : Fin 4) (x : IndAcc), Running s ∧ s.dev.core.inds.get {} n.val = { acc := some x } ∧ x.space = 0 ∧ 2 ^ 21
      ≤ x.addr ∧ s.dev.core.bankBusy (x.addr / 131072) = false ∧ PortsIdle s.dev.core ∧ s.dev.core.exHeld = []) ∧
    (∃ (s : State) (k : Fin 96), Running s ∧ s.dev.core.tvB.get 0 (FLT_SRC_CFG.sev.key k.val 0) ≠ 0 ∧ s.dev.core.tvC.get 0
      (FLT_SRC_CFG.sev.key k.val 0) = 0 ∧ (FLT_SRC_CFG.row.flds.all fun f => decide (f = FLT_SRC_CFG.sev) || (decide
      (s.dev.core.tvB.get 0 (f.key k.val 0) = 0) && decide (s.dev.core.tvC.get 0 (f.key k.val 0) = 0))) = true ∧ s.dev.core.rd
      FLT_INJ_CFG.arm = 0) ∧
    (∃ (s : State) (k : Fin 96), Running s ∧ (FLT_SRC_CFG.row.flds.all fun f => decide (s.dev.core.tvB.get 0 (f.key k.val 0) =
      0) && decide (s.dev.core.tvC.get 0 (f.key k.val 0) = 0)) = true) :=
  ⟨⟨awake, 0, 1#4, by decide⟩,
   ⟨awake, 0, BitVec.ofNat 32 (RS_LOCK_CFG.win.addr 0 0), 15#4, ⟨.rs, 0, RS_LOCK_CFG.row, 0⟩, by decide +kernel⟩,
   ⟨build [
      fun c =>
        { c with inReset := false, inds := [(0, { acc := some { ex := (Fin.ofNat 4 2 : Fin 4), write := true, data := 4, space := 2, addr := 44, inc := false } })] },
      wake],
    Fin.ofNat 4 2, by decide⟩,
   ⟨build [fun c => { c.wr IDB_BUSERR_STAT.valid 0 with inReset := false }, wake], 0, 1#32, 1#4, 2, by decide⟩,
   ⟨build [fun c => { c.wr IDB_BUSERR_STAT.valid 1 with inReset := false }, wake], 0, 1#32, 1#4, 2, by decide⟩,
   ⟨awake, 0, 1#4, by decide⟩,
   ⟨build [wake, fun c => { c with inds := c.inds.set {} 0 {} }], 0, 0, by decide⟩,
   ⟨build [
      wake,
      fun c =>
        { c with inds := c.inds.set {} 0 { acc := some { ex := 0, write := true, data := 4, space := 2, addr := 44, inc := false } } }],
    0, 0, by decide⟩,
   ⟨build [
      fun c =>
        let c := (c.setPort 0 {}).setPort 1 {}
        { c.wr TMC_STAT.state 1 with exHeld := [], inReset := false, memU := { c.memU with tBanks := 65535, tDestr := true }, inds := c.inds.set {} 0 { acc := some (anAccess : IndAcc) } },
      wake],
    0, anAccess, by decide⟩,
   ⟨build [
      fun c =>
        let c := (c.setPort 0 {}).setPort 1 {}
        { c with exHeld := [], inReset := false, memOut := [], memLost := [], memU := { c.memU with tDestr := false }, inds := c.inds.set {} 0 { acc := some (anAccess : IndAcc) } },
      wake],
    0, anAccess, by decide⟩,
   ⟨build [
      fun c =>
        let c := (c.setPort 0 {}).setPort 1 {}
        { c with exHeld := [], inReset := false, memOut := [], memLost := [], memU := { c.memU with tDestr := false }, inds := c.inds.set {} 0 { acc := some ({ anAccess with space := 0, write := true, lost := false, addr := 8, data := 5 }) } },
      wake],
    0, ({ anAccess with space := 0, write := true, lost := false, addr := 8, data := 5 }), by decide⟩,
   ⟨build [
      fun c =>
        let c := (c.setPort 0 {}).setPort 1 {}
        { c with exHeld := [], inReset := false, memOut := [], memLost := [], memU := { c.memU with tDestr := false }, inds := c.inds.set {} 0 { acc := some ({ anAccess with space := 0, addr := 2^21 + 8 }) } },
      wake],
    0, ({ anAccess with space := 0, addr := 2^21 + 8 }), by decide⟩,
   ⟨build [
      fun c => { c.wr FLT_INJ_CFG.arm 0 with inReset := false, tvB := [(FLT_SRC_CFG.sev.key 0 0, 1 + 0)], tvC := [] },
      wake],
    0, by decide⟩,
   ⟨build [fun c => { c.wr FLT_INJ_CFG.arm 0 with inReset := false, tvB := [], tvC := [] }, wake], 0, by decide⟩⟩

/-- The hypotheses of `Obligations.LoaderStates`, clause by clause. -/
theorem witness_LoaderStates :
    (∃ (s : State), Running s ∧ s.dev.core.mlState = mlIdle) ∧
    (∃ (s : State), Running s ∧ s.dev.core.mlState ≠ mlIdle) ∧
    (∃ (s : State) (run : LoadRun), Running s ∧ s.dev.core.mlState = mlVerifying ∧ s.dev.core.mtl.load = some run ∧ run.course =
      false ∧ NoneAsked s.dev.core ∧ (s.dev.core.port 0).burst = none ∧ (s.dev.core.port 1).burst = none) ∧
    (∃ (s : State), Running s ∧ s.dev.core.mlState = mlApplying ∧ (s.dev.core.port 0).burst = none ∧ (s.dev.core.port 1).burst =
      none) ∧
    (∃ (s : State), Running s ∧ s.dev.core.mlState = mlIdle ∧ NoneAsked s.dev.core ∧ (s.dev.core.port 0).burst = none ∧
      (s.dev.core.port 1).burst = none) ∧
    (∃ (s : State) (run : LoadRun), Running s ∧ s.dev.core.mlState = mlVerifying ∧ s.dev.core.mtl.load = some run ∧ run.course =
      false ∧ s.dev.core.rd STG_STAT.stage = 3 ∧ NoneAsked s.dev.core ∧ (s.dev.core.imgCheck s.dev.mem.image s.dev.mem.key false
      run.store).code ≠ 0 ∧ (s.dev.core.imgCheck s.dev.mem.image s.dev.mem.key false run.store).code < 16 ∧ (s.dev.core.port
      0).burst = none ∧ (s.dev.core.port 1).burst = none) ∧
    (∃ (s : State) (run : LoadRun), Running s ∧ s.dev.core.mlState = mlVerifying ∧ s.dev.core.mtl.load = some run ∧ run.course =
      false ∧ run.apply = true ∧ run.second = false ∧ s.dev.core.rd STG_STAT.stage = 3 ∧ (s.dev.core.imgCheck s.dev.mem.image
      s.dev.mem.key false run.store).code = 0 ∧ (s.dev.core.port 0).burst = none ∧ (s.dev.core.port 1).burst = none) ∧
    (∃ (s : State) (a : ApplyRun), Running s ∧ s.dev.core.mtl.app = some a ∧ s.dev.core.mlState = mlApplying ∧ s.dev.core.rd
      MTL_STAT.step = 0 ∧ s.dev.core.mtl.later = [] ∧ a.changed.any (fun k => s.dev.core.itemEnabled s.dev.core.mtl.recs a.recs
      a.course k) = false) ∧
    (∃ (s : State) (a : ApplyRun), Running s ∧ s.dev.core.mtl.app = some a ∧ s.dev.core.mlState = mlApplying ∧ s.dev.core.rd
      MTL_STAT.step = 1 ∧ s.dev.core.mtl.later = []) ∧
    (∃ (s : State) (a : ApplyRun), Running s ∧ s.dev.core.mtl.app = some a ∧ s.dev.core.mlState = mlApplying ∧ s.dev.core.rd
      MTL_STAT.step = 0 ∧ s.dev.core.mtl.later = [] ∧ a.course = false ∧ NoneAsked s.dev.core ∧ a.changed.any (fun k =>
      s.dev.core.itemEnabled s.dev.core.mtl.recs a.recs a.course k) = true) ∧
    (∃ (s : State) (a : ApplyRun), Running s ∧ s.dev.core.mtl.app = some a ∧ s.dev.core.mlState = mlApplying ∧ s.dev.core.rd
      MTL_STAT.step = 10 ∧ s.dev.core.mtl.later = [] ∧ a.course = false ∧ a.store = false ∧ NoneAsked s.dev.core) :=
  ⟨⟨awake, by decide⟩,
   ⟨build [wake, fun c => c.wr MTL_STAT.state (1 + c.dt % 4)], by decide⟩,
   ⟨build [
      fun c =>
        { ((c.setPort 0 {}).setPort 1 {}).wr MTL_STAT.state mlVerifying with mtl := { c.mtl with courseAsk := false, load := some ({ course := false }) } },
      wake],
    ({ course := false }), by decide⟩,
   ⟨build [wake, fun c => ((c.setPort 0 {}).setPort 1 {}).wr MTL_STAT.state mlApplying], by decide⟩,
   ⟨build [
      wake,
      fun c => ((c.setPort 0 {}).setPort 1 {}).wr MTL_STAT.state 0 |>.wr MTL_STAT.pending_store 0 |>.setMtl
        { c.mtl with courseAsk := false }],
    by decide⟩,
   ⟨build [
      fun c =>
        { (((c.setPort 0 {}).setPort 1 {}).wr STG_STAT.stage 3).wr MTL_STAT.state mlVerifying with mtl := { c.mtl with courseAsk := false, load := some ({ course := false }) } },
      wake],
    ({ course := false }), by decide⟩,
   ⟨imageStaged (build [
      fun c =>
        { (((c.setPort 0 {}).setPort 1 {}).wr STG_STAT.stage 3).wr MTL_STAT.state mlVerifying with mtl := { c.mtl with courseAsk := false, load := some ({ course := false, apply := true, second := false }) } },
      wake]),
    ({ course := false, apply := true, second := false }), by decide +kernel⟩,
   ⟨build [
      fun c =>
        { (c.wr MTL_STAT.step 0).wr MTL_STAT.state mlApplying with inReset := false, mtl := { c.mtl with courseAsk := false, app := some ({ changed := [] }), later := [] } },
      wake],
    ({ changed := [] }), by decide⟩,
   ⟨build [
      fun c =>
        { (c.wr MTL_STAT.step 1).wr MTL_STAT.state mlApplying with inReset := false, mtl := { c.mtl with courseAsk := false, app := some ({ changed := [] }), later := [] } },
      wake],
    ({ changed := [] }), by decide⟩,
   ⟨build [
      fun c =>
        { (((c.wr MTL_STAT.step 0).wr MTL_STAT.pending_store 0).wr CH_CFG.en 1 0).wr MTL_STAT.state mlApplying with inReset := false, mtl := { c.mtl with courseAsk := false, app := some ({ changed := [itemKey stChan 0], course := false }), later := [] } },
      wake],
    ({ changed := [itemKey stChan 0], course := false }), by decide⟩,
   ⟨build [
      fun c =>
        { ((c.wr MTL_STAT.step 10).wr MTL_STAT.pending_store 0).wr MTL_STAT.state mlApplying with inReset := false, mtl := { c.mtl with courseAsk := false, app := some ({ course := false, store := false }), later := [] } },
      wake],
    ({ course := false, store := false }), by decide⟩⟩

/-- The hypotheses of `Obligations.ImageStores`, clause by clause. -/
theorem witness_ImageStores :
    (∃ (s : State) (slot : Nat) (len : Nat) (id : Nat) (seq : Nat) (j : Nat) (rest : List (Nat × Nat)), Running s ∧
      s.dev.core.mtl.storing = some (slot, len, id, seq) ∧ s.dev.core.firnU.done = (2, 0) :: rest ∧ s.dev.core.mlState =
      mlStoring ∧ s.dev.core.firnOut = [] ∧ s.dev.core.firnU.waiting = [] ∧ s.dev.core.firnU.asked = [] ∧ s.dev.core.firnU.run =
      none ∧ s.dev.core.firnU.tGo = false ∧ s.dev.core.firnU.tq = [] ∧ (s.dev.core.page 128).tokens ≠ 0 ∧ s.dev.mem.directory =
      none ∧ j < 32) ∧
    (∃ (s : State) (slot : Nat) (len : Nat) (id : Nat) (seq : Nat) (p : Nat) (rest : List (Nat × Nat)) (x : StoreRun), Running s
      ∧ s.dev.core.mtl.storing = some (slot, len, id, seq) ∧ s.dev.core.firnU.done = (2, 0) :: rest ∧ s.dev.core.mlState =
      mlStoring ∧ s.dev.core.firnOut = [] ∧ s.dev.core.firnU.run = some x ∧ x.page = some p ∧ s.dev.mem.directory = none) ∧
    (∃ (s : State) (slot : Nat) (len : Nat) (id : Nat) (seq : Nat) (rest : List (Nat × Nat)), Running s ∧ s.dev.core.mtl.storing
      = some (slot, len, id, seq) ∧ s.dev.core.firnU.done = (3, 0) :: rest ∧ NoneAsked s.dev.core) ∧
    (∃ (s : State) (slot : Nat) (len : Nat) (id : Nat) (seq : Nat) (k : Nat) (rest : List (Nat × Nat)), Running s ∧
      s.dev.core.mtl.storing = some (slot, len, id, seq) ∧ s.dev.core.firnU.done = (k, 1) :: rest ∧ NoneAsked s.dev.core) ∧
    (∃ (s : State) (slot : Nat) (len : Nat) (id : Nat) (seq : Nat) (p : Nat) (rest : List (Nat × Nat)) (ps : List Nat), Running
      s ∧ s.dev.core.mtl.storing = some (slot, len, id, seq) ∧ s.dev.core.firnU.done = (3, 2) :: rest ∧ s.dev.core.firnOut = []
      ∧ s.dev.core.firnU.waiting = [] ∧ s.dev.core.firnU.asked = [] ∧ s.dev.core.firnU.run = none ∧ s.dev.core.firnU.tGo = false
      ∧ s.dev.core.firnU.tq = [] ∧ s.dev.core.dirtyPages 128 128 = p :: ps ∧ (s.dev.core.page 128).tokens ≠ 0) :=
  ⟨⟨build [
      fun c =>
        { c.wr MTL_STAT.state mlStoring with inReset := false, firnOut := [], mtl := { c.mtl with courseAsk := false, storing := some (1, 1, 1, 1) }, firnU := { c.firnU with done := [(2, 0)], waiting := [], asked := [], run := none, tGo := false, tq := [], pages := [] } },
      wake],
    1, 1, 1, 1, 1, [], by decide⟩,
   ⟨build [
      fun c =>
        { c.wr MTL_STAT.state mlStoring with inReset := false, firnOut := [], mtl := { c.mtl with courseAsk := false, storing := some (1, 1, 1, 1) }, firnU := { c.firnU with done := [(2, 0)], run := some ({ req := ⟨0, 1, 2⟩, page := some 9 }) } },
      wake],
    1, 1, 1, 1, 9, [], ({ req := ⟨0, 1, 2⟩, page := some 9 }), by decide⟩,
   ⟨build [
      fun c =>
        { c.wr MTL_STAT.pending_store 0 with inReset := false, firnOut := [], mtl := { c.mtl with courseAsk := false, storing := some (1, 1, 1, 1) }, firnU := { c.firnU with done := [(3, 0)] } },
      wake],
    1, 1, 1, 1, [], by decide⟩,
   ⟨build [
      fun c =>
        { c.wr MTL_STAT.pending_store 0 with inReset := false, firnOut := [], mtl := { c.mtl with courseAsk := false, storing := some (1, 1, 1, 1) }, firnU := { c.firnU with done := [(1, 1)] } },
      wake],
    1, 1, 1, 1, 1, [], by decide⟩,
   ⟨build [
      fun c =>
        let c : Core :=
          { c with inReset := false, firnOut := [], mtl := { c.mtl with courseAsk := false, storing := some (1, 1, 1, 1) }, firnU := { c.firnU with done := [(3, 2)], waiting := [], asked := [], run := none, tGo := false, tq := [] } }
        c.setPage 128 { c.page 128 with dirty := true, tokens := 3 },
      wake],
    1, 1, 1, 1, 128, [], [], by decide⟩⟩

/-- The hypotheses of `Obligations.StagedStart`, clause by clause. -/
theorem witness_StagedStart :
    (∃ (s : State), s.dev.core.inReset = true ∧ s.dev.core.firnU.run = none) ∧
    (∃ (s : State) (x : StoreRun) (p : Nat), s.dev.core.inReset = true ∧ s.dev.core.firnU.run = some x ∧ x.page = some p) ∧
    (∃ (s : State), Running s ∧ s.dev.core.rd STG_STAT.stage = 1 ∧ s.dev.core.footed = false ∧ s.dev.core.rd RS_STAT.lo_ok = 1 ∧
      4 ≤ s.dev.core.rd STG_STAT.bootsel ∧ s.dev.core.courseHeld = false) ∧
    (∃ (s : State), Running s ∧ s.dev.core.rd STG_STAT.stage = 1 ∧ s.dev.core.footed = false ∧ s.dev.core.rd STG_STAT.bootsel <
      4) ∧
    (∃ (s : State), Running s ∧ s.dev.core.rd STG_STAT.stage = 1 ∧ 4 ≤ s.dev.core.rd STG_STAT.bootsel ∧ s.dev.core.courseHeld =
      false ∧ s.dev.core.footed = true) ∧
    (∃ (s : State), Running s ∧ s.dev.core.rd STG_STAT.stage = 1 ∧ 4 ≤ s.dev.core.rd STG_STAT.bootsel ∧ s.dev.core.courseHeld =
      false ∧ s.dev.core.footed = false) ∧
    (∃ (s : State), Running s ∧ ((s.dev.core.rd STG_STAT.stage ≠ 1 ∨ s.dev.core.rd STG_STAT.bootsel < 4))) ∧
    (∃ (s : State), Running s ∧ s.dev.core.rd STG_STAT.stage = 2 ∧ s.dev.core.rd STG_STAT.step = 3 ∧ s.dev.core.memOut = []) ∧
    (∃ (s : State), Running s ∧ s.dev.core.rd STG_STAT.stage = 2 ∧ s.dev.core.rd STG_STAT.step = 4) ∧
    (∃ (s : State), Running s ∧ s.dev.core.rd STG_STAT.stage = 2 ∧ s.dev.core.rd STG_STAT.step = 5 ∧ s.dev.core.rd STG_STAT.wait
      = 0) ∧
    (∃ (s : State), Running s ∧ s.dev.core.rd STG_STAT.stage = 2 ∧ s.dev.core.rd STG_STAT.wait ≠ 0 ∧ s.dev.core.courseWaited =
      false) :=
  ⟨⟨build [
      fun c => { c with inReset := true },
      fun c => { c with firnU := { c.firnU with run := none } },
      fun c => { c with inReset := true, firnU := { c.firnU with run := none } }],
    by decide⟩,
   ⟨build [
      fun c => { c with inReset := true, firnU := { c.firnU with run := some ({ req := ⟨0, 1, 2⟩, page := some 3 }) } }],
    ({ req := ⟨0, 1, 2⟩, page := some 3 }), 3, by decide⟩,
   ⟨build [
      wake,
      fun c => c.wr STG_STAT.stage 1,
      fun c => { c with footed := false },
      fun c => c.wr RS_STAT.lo_ok 1,
      fun c => { c with courseHeld := false },
      fun c => (c.wr RS_STAT.lo_ok 1).wr STG_STAT.bootsel 5],
    by decide⟩,
   ⟨build [
      wake,
      fun c => c.wr STG_STAT.stage 1,
      fun c => { c with footed := false },
      fun c => c.wr STG_STAT.bootsel 1],
    by decide⟩,
   ⟨build [
      wake,
      fun c => c.wr STG_STAT.stage 1,
      fun c => { c with courseHeld := false },
      fun c => { c with footed := true },
      fun c => c.wr STG_STAT.bootsel 5],
    by decide⟩,
   ⟨build [
      wake,
      fun c => c.wr STG_STAT.stage 1,
      fun c => { c with courseHeld := false },
      fun c => { c with footed := false },
      fun c => c.wr STG_STAT.bootsel 7],
    by decide⟩,
   ⟨awake, by decide⟩,
   ⟨build [wake, fun c => c.wr STG_STAT.stage 2 , fun c => c.wr STG_STAT.step 3 , fun c => { c with memOut := [] }],
    by decide⟩,
   ⟨build [wake, fun c => c.wr STG_STAT.stage 2 , fun c => c.wr STG_STAT.step 4 ], by decide⟩,
   ⟨build [wake, fun c => c.wr STG_STAT.stage 2 , fun c => c.wr STG_STAT.step 5 , fun c => c.wr STG_STAT.wait 0 ],
    by decide⟩,
   ⟨build [
      wake,
      fun c => c.wr STG_STAT.stage 2,
      fun c => { c with courseWaited := false },
      fun c => c.wr STG_STAT.wait (1 + c.dt % 4)],
    by decide⟩⟩

/-- The hypotheses of `Obligations.DeviceResets`, clause by clause. -/
theorem witness_DeviceResets :
    (∃ (s : State) (key : BitVec 16), Running s ∧ key ≠ 0xD1E5#16) ∧
    (∃ (s : State), Running s ∧ s.dev.core.rstReq = none) ∧
    (∃ (s : State) (cause : Nat) (fs : Nat), s.dev.core.rstReq = some (cause, fs)) ∧
    (∃ (s : State), s.dev.core.rstReq = none) ∧
    (∃ (s : State), Running s ∧ s.dev.core.rdTv STG_PF_CFG.aux_en = 1 ∧ s.dev.core.rd STG_STAT.aux_low = 0) ∧
    (∃ (s : State), Running s ∧ s.dev.core.rdTv STG_PF_CFG.aux_en = 0) ∧
    (∃ (s : State), Running s ∧ s.dev.core.rd STG_STAT.aux_low = 1 ∧ s.dev.core.rdTv STG_PF_CFG.aux_en = 1 ∧ s.dev.core.rdTv
      STG_PF_CFG.aux_rst = 1) ∧
    (∃ (s : State), Running s ∧ s.dev.core.rd STG_STAT.stage = 3 ∧ s.dev.core.vholdTold = false) ∧
    (∃ (s : State), s.dev.core.vholdTold = true) :=
  ⟨⟨awake, 1#16, by decide⟩,
   ⟨build [wake, fun c => { c with rstReq := none }], by decide⟩,
   ⟨build [fun c => { c with rstReq := some (1, 1) }], 1, 1, by decide⟩,
   ⟨build [fun c => { c with rstReq := none }], by decide⟩,
   ⟨build [wake, fun c => c.wrTv STG_PF_CFG.aux_en 1 , fun c => c.wr STG_STAT.aux_low 0 ], by decide⟩,
   ⟨build [wake, fun c => c.wrTv STG_PF_CFG.aux_en 0 ], by decide⟩,
   ⟨build [
      wake,
      fun c => c.wr STG_STAT.aux_low 1,
      fun c => c.wrTv STG_PF_CFG.aux_en 1,
      fun c => c.wrTv STG_PF_CFG.aux_rst 1,
      fun c => c.wr STG_STAT.aux_low 1],
    by decide⟩,
   ⟨build [wake, fun c => c.wr STG_STAT.stage 3 , fun c => { c with vholdTold := false }], by decide⟩,
   ⟨build [fun c => { c with vholdTold := true }], by decide⟩⟩

/-- The hypotheses of `Obligations.BlockResets`, clause by clause. -/
theorem witness_BlockResets :
    (∃ (s : State) (unit : Fin 32) (index : Fin 128), Running s ∧ s.dev.core.part.unitOk unit.val index.val = true ∧
      s.dev.core.mtl.heldKeys = []) ∧
    (∃ (s : State) (unit : Fin 32) (index : Fin 128), Running s ∧ s.dev.core.part.unitOk unit.val index.val = false) ∧
    (∃ (s : State) (unit : Fin 32) (index : Fin 128), Running s ∧ s.dev.core.part.unitOk unit.val index.val = true ∧
      s.dev.core.unitHeld unit.val index.val = true) ∧
    (∃ (s : State) (h : Fin 12), Running s ∧ h.val < s.dev.core.part.nCh ∧ s.dev.core.mtl.heldKeys = [] ∧ s.dev.core.inRst = []) ∧
    (∃ (s : State) (unit : Fin 9) (index : Fin 128), Running s ∧ s.dev.core.inRst.contains (unit.val, index.val) = true) ∧
    (∃ (s : State) (unit : Fin 9) (index : Fin 128), Running s ∧ s.dev.core.inRst.contains (unit.val, index.val) = false) :=
  ⟨⟨build [wake, fun c => { c with mtl := { c.mtl with heldKeys := [] } }], 0, 0, by decide⟩,
   ⟨awake, 31, 0, by decide⟩,
   ⟨build [
      wake,
      fun c =>
        { c with mtl := { c.mtl with app := none, heldKeys := [itemKey stMemory 0] ++ (List.range 8).map (fun t => itemKey t 0) ++ [itemKey stSyn 0, itemKey stOut 0, itemKey stLane 0, itemKey stPtp 0, itemKey stQueue 0] } }],
    0, 0, by decide⟩,
   ⟨build [wake, fun c => { c with mtl := { c.mtl with heldKeys := [] } }, fun c => { c with inRst := [] }], 0, by decide⟩,
   ⟨build [wake, fun c => { c with inRst := [(0, 0)] }], 0, 0, by decide⟩,
   ⟨awake, 0, 0, by decide⟩⟩

/-- The hypotheses of `Obligations.FirnStores`, clause by clause. -/
theorem witness_FirnStores :
    (∃ (s : State) (first : BitVec 8) (last : BitVec 8) (p : Nat) (ps : List Nat), Running s ∧ s.dev.core.firnOut = [] ∧
      s.dev.core.firnU.waiting = [] ∧ s.dev.core.firnU.asked = [] ∧ s.dev.core.firnU.run = none ∧ s.dev.core.firnU.tq = [] ∧
      s.dev.core.firnU.tGo = false ∧ s.dev.core.dirtyPages first.toNat last.toNat = p :: ps ∧ (p :: ps).any (fun j => decide
      ((s.dev.core.page j).tokens = 0)) = false) ∧
    (∃ (s : State), Running s ∧ s.dev.core.firnOut = [] ∧ s.dev.core.firnU.waiting.length = 4 ∧ s.dev.core.firnU.asked = []) ∧
    (∃ (s : State) (first : BitVec 8) (last : BitVec 8) (p : Nat), Running s ∧ s.dev.core.firnOut = [] ∧ s.dev.core.firnU.asked
      = [] ∧ p ∈ s.dev.core.dirtyPages first.toNat last.toNat ∧ (s.dev.core.page p).tokens = 0) ∧
    (∃ (s : State) (x : StoreRun) (p : Nat), Running s ∧ s.dev.core.firnU.run = some x ∧ x.page = some p ∧ x.req.kind ≤ 3 ∧
      x.abort = false ∧ s.dev.core.firnU.asked = []) ∧
    (∃ (s : State) (x : StoreRun) (p : Nat), Running s ∧ s.dev.core.firnU.run = some x ∧ x.page = some p ∧ x.abort = true ∧
      s.dev.core.firnU.waiting = [] ∧ s.dev.core.firnU.asked = [] ∧ s.dev.core.firnU.tq = [] ∧ s.dev.core.firnU.tGo = false) ∧
    (∃ (s : State) (x : StoreRun) (p : Nat), Running s ∧ s.dev.core.firnU.run = some x ∧ x.page = some p ∧ x.req.kind ≤ 3 ∧
      x.abort = false) ∧
    (∃ (s : State) (x : StoreRun) (p : Nat) (j : Nat), s.dev.core.firnU.run = some x ∧ x.page = some p ∧ (s.dev.core.page
      p).last = 1 ∧ j < 1024) ∧
    (∃ (s : State) (x : StoreRun) (p : Nat) (j : Nat), s.dev.core.firnU.run = some x ∧ x.page = some p ∧ (s.dev.core.page
      p).last = 0 ∧ j < 1024) ∧
    (∃ (s : State) (x : StoreRun) (p : Nat), s.dev.core.firnU.run = some x ∧ x.page = some p) ∧
    (∃ (s : State) (p : Fin 256), Running s ∧ s.dev.core.rd FRN_CFG.refresh_en = 1 ∧ s.dev.core.firnU.cold = false ∧
      (s.dev.core.page p.val).aBlank = false) ∧
    (∃ (s : State) (p : Fin 256), Running s ∧ s.dev.core.rd FRN_CFG.refresh_en = 1 ∧ s.dev.core.firnU.cold = false ∧
      (s.dev.core.page p.val).bBlank = false) ∧
    (∃ (s : State), s.dev.core.firnU.cold = true ∧ s.dev.core.firnU.asked = []) :=
  ⟨⟨build [
      fun c =>
        let c : Core :=
          { c with inReset := false, firnOut := [], firnU := { c.firnU with waiting := [], asked := [], run := none, tq := [], tGo := false } }
        let c := c.setPage 7 { c.page 7 with dirty := true }
        [1, 1].foldl (fun c p => c.setPage 1 { c.page 1 with dirty := true, tokens := 2 + (c.page 1).tokens })
          { c with firnU := { c.firnU with pages := c.firnU.pages.map (fun e => (e.1, { e.2 with tokens := 3 })) } },
      wake],
    1#8, 1#8, 1, [], by decide⟩,
   ⟨build [
      fun c =>
        { c with inReset := false, firnOut := [], firnU := { c.firnU with waiting := [⟨0,1,2⟩,⟨1,200,201⟩,⟨2,0,5⟩,⟨3,128,128⟩], asked := [] } },
      wake],
    by decide⟩,
   ⟨build [
      fun c =>
        let c : Core := { c with inReset := false, firnOut := [], firnU := { c.firnU with asked := [] } }
        c.setPage 1 { c.page 1 with dirty := true, tokens := 0 },
      wake],
    1#8, if 1 < 1 then 1#8 else 1#8, 1, by decide⟩,
   ⟨build [
      fun c =>
        { c with inReset := false, firnU := { c.firnU with run := some ({ req := ⟨0, 1, 2⟩, page := some 9 }), asked := [] } },
      wake],
    ({ req := ⟨0, 1, 2⟩, page := some 9 }), 9, by decide⟩,
   ⟨build [
      fun c =>
        { c with inReset := false, firnU := { c.firnU with run := some ({ req := ⟨0, 1, 2⟩, page := some 9, abort := true }), waiting := [], asked := [], tq := [], tGo := false } },
      wake],
    ({ req := ⟨0, 1, 2⟩, page := some 9, abort := true }), 9, by decide⟩,
   ⟨build [
      fun c => { c with inReset := false, firnU := { c.firnU with run := some ({ req := ⟨0, 1, 2⟩, page := some 9 }) } },
      wake],
    ({ req := ⟨0, 1, 2⟩, page := some 9 }), 9, by decide⟩,
   ⟨build [
      fun c =>
        let c : Core := { c with firnU := { c.firnU with run := some ({ req := ⟨0, 1, 2⟩, page := some 1 }) } }
        c.setPage 1 { c.page 1 with last := 1 }],
    ({ req := ⟨0, 1, 2⟩, page := some 1 }), 1, 1, by decide⟩,
   ⟨build [
      fun c =>
        let c : Core := { c with firnU := { c.firnU with run := some ({ req := ⟨0, 1, 2⟩, page := some 1 }) } }
        c.setPage 1 { c.page 1 with last := 0 }],
    ({ req := ⟨0, 1, 2⟩, page := some 1 }), 1, 1, by decide⟩,
   ⟨build [
      fun c =>
        let c : Core := { c with firnU := { c.firnU with run := some ({ req := ⟨0, 1, 2⟩, page := some 1 }) } }
        c.setPage 1 { c.page 1 with last := (c.page 1).last }],
    ({ req := ⟨0, 1, 2⟩, page := some 1 }), 1, by decide⟩,
   ⟨build [
      fun c =>
        let c := (c.setPage (0 : Fin 256) { c.page (0 : Fin 256) with aBlank := false }).wr FRN_CFG.refresh_en 1
        { c with inReset := false, firnU := { c.firnU with cold := false } },
      wake],
    0, by decide⟩,
   ⟨build [
      fun c =>
        let c := (c.setPage (0 : Fin 256) { c.page (0 : Fin 256) with bBlank := false }).wr FRN_CFG.refresh_en 1
        { c with inReset := false, firnU := { c.firnU with cold := false } },
      wake],
    0, by decide⟩,
   ⟨build [
      fun c => { c with firnU := { c.firnU with cold := true } },
      fun c => { c with firnU := { c.firnU with asked := [] } },
      fun c => { c with firnU := { c.firnU with cold := true, asked := [] } }],
    by decide⟩⟩

/-- The hypotheses of `Obligations.KeysAndTallies`, clause by clause. -/
theorem witness_KeysAndTallies :
    (∃ (s : State) (j : Nat), Running s ∧ s.dev.core.firnOut = [] ∧ s.dev.core.rd FRN_KEY_STAT.key_set = 0 ∧ j < 1024) ∧
    (∃ (s : State) (confirm : BitVec 16), Running s ∧ ((confirm ≠ 0x4B59#16 ∨ s.dev.core.rd FRN_KEY_STAT.key_set = 1))) ∧
    (∃ (s : State), Running s ∧ s.dev.core.rd FRN_KEY_STAT.key_set = 1) ∧
    (∃ (s : State), Running s ∧ s.dev.core.rd FRN_KEY_STAT.key_set = 0) ∧
    (∃ (s : State), Running s ∧ s.dev.core.rd FRN_KEY_STAT.policy = 0) ∧
    (∃ (s : State), Running s ∧ s.dev.core.rd FRN_KEY_STAT.policy = 1) ∧
    (∃ (s : State) (k : Fin 32), Running s ∧ (s.dev.core.tally k.val).failed = false) ∧
    (∃ (s : State) (k : Fin 32), Running s ∧ (s.dev.core.tally k.val).failed = true) ∧
    (∃ (s : State) (k : Fin 32) (h : Nat) (rest : List Nat), (s.dev.core.tally k.val).failed = false ∧ (s.dev.core.tally
      k.val).ha = some h ∧ (s.dev.core.tally k.val).hb = some h ∧ (s.dev.core.tally k.val).cells ≤ 16 ∧ s.dev.core.firnU.tq =
      k.val :: rest ∧ s.dev.core.firnU.tGo = true) ∧
    (∃ (s : State) (k : Fin 32), (s.dev.core.firnU.tGo = false ∨ s.dev.core.firnU.tq.head? ≠ some k.val)) ∧
    (∃ (s : State) (first : BitVec 8) (last : BitVec 8), Running s ∧ s.dev.core.firnOut = [] ∧ s.dev.core.firnU.asked = [] ∧
      s.dev.core.firnU.run = none ∧ s.dev.core.firnU.waiting = [] ∧ s.dev.core.firnU.tq = [] ∧ s.dev.core.firnU.tGo = false ∧
      s.dev.core.dirtyPages first.toNat last.toNat = []) ∧
    (∃ (s : State) (x : StoreRun) (p : Nat), Running s ∧ s.dev.core.firnU.run = some x ∧ x.page = some p ∧ x.req.kind ≤ 3 ∧
      x.abort = false) ∧
    (∃ (s : State) (x : StoreRun) (p : Nat), Running s ∧ s.dev.core.firnU.run = some x ∧ x.page = some p) ∧
    (∃ (s : State), Running s) ∧
    (∃ (s : State) (p : Fin 256), Running s ∧ s.dev.core.rd FRN_CFG.refresh_en = 1 ∧ s.dev.core.firnU.cold = false ∧
      (s.dev.core.page p.val).aBlank = false ∧ (s.dev.core.page p.val).bBlank = false ∧ (s.dev.core.page p.val).dirty = true ∧
      s.dev.core.firnU.asked = []) :=
  ⟨⟨build [fun c => { c.wr FRN_KEY_STAT.key_set 0 with inReset := false, firnOut := [] }, wake], 1, by decide⟩,
   ⟨awake, 1#16, by decide⟩,
   ⟨build [wake, fun c => c.wr FRN_KEY_STAT.key_set 1 ], by decide⟩,
   ⟨build [wake, fun c => c.wr FRN_KEY_STAT.key_set 0 ], by decide⟩,
   ⟨build [wake, fun c => c.wr FRN_KEY_STAT.policy 0 ], by decide⟩,
   ⟨build [wake, fun c => c.wr FRN_KEY_STAT.policy 1 ], by decide⟩,
   ⟨build [
      fun c =>
        let c : Core := { c with inReset := false }
        c.setTally (0 : Fin 32) { c.tally (0 : Fin 32) with failed := false },
      wake],
    0, by decide⟩,
   ⟨build [
      fun c =>
        let c : Core := { c with inReset := false }
        c.setTally (0 : Fin 32) { c.tally (0 : Fin 32) with failed := true },
      wake],
    0, by decide⟩,
   ⟨build [
      fun c =>
        let c : Core := { c with inReset := false }
        c.setTally (0 : Fin 32)
          { c.tally (0 : Fin 32) with failed := false, ha := some 1, hb := some 1, u0 := (c.tally (0 : Fin 32)).u0 % 17, u1 := (if 1 = 0 then (c.tally (0 : Fin 32)).u1 else 14 + 1 / 2 % 3) }
          |>.on true (fun c => { c with firnU := { c.firnU with tq := 0 :: [], tGo := true } })],
    0, 1, [], by decide⟩,
   ⟨build [
      fun c => { c with firnU := { c.firnU with tGo := false } },
      fun c => { c with inReset := false, firnU := { c.firnU with tGo := false } }],
    0, by decide⟩,
   ⟨build [
      fun c =>
        let c : Core :=
          { c with inReset := false, firnOut := [], firnU := { c.firnU with waiting := [], asked := [], run := none, tq := [], tGo := false, pages := c.firnU.pages.map (fun e => (e.1, { e.2 with dirty := false })) } }
        c,
      wake],
    1#8, 1#8, by decide⟩,
   ⟨build [
      fun c => { c with inReset := false, firnU := { c.firnU with run := some ({ req := ⟨0, 1, 2⟩, page := some 9 }) } },
      wake],
    ({ req := ⟨0, 1, 2⟩, page := some 9 }), 9, by decide⟩,
   ⟨build [
      fun c => { c with inReset := false, firnU := { c.firnU with run := some ({ req := ⟨0, 1, 2⟩, page := some 9 }) } },
      wake],
    ({ req := ⟨0, 1, 2⟩, page := some 9 }), 9, by decide⟩,
   ⟨awake, by decide⟩,
   ⟨build [
      fun c =>
        let c := (c.setPage (0 : Fin 256) { c.page (0 : Fin 256) with aBlank := false, bBlank := false, dirty := true }).wr
          FRN_CFG.refresh_en 1
        { c with inReset := false, firnU := { c.firnU with asked := [], cold := false } },
      wake],
    0, by decide⟩⟩

/-- The hypotheses of `Obligations.FrostDomain`, clause by clause. -/
theorem witness_FrostDomain :
    (∃ (s : State), s.dev.core.rd FRS_W_STAT.xtal_ok = 1 ∧ s.dev.core.frost.commit = none) ∧
    (∃ (s : State), s.dev.core.rd FRS_W_STAT.xtal_ok = 0) ∧
    (∃ (s : State), Running s) ∧
    (∃ (s : State) (sec : Nat) (sub : Nat) (i : Instr), s.dev.core.frost.commit = some (sec, sub) ∧ s.dev.core.rd
      FRS_W_STAT.xtal_ok = 1 ∧ sec < 2 ^ 48 ∧ sub < 2 ^ 15 ∧ (i = .frostTimeLoad ∨ i = .frostSecond)) ∧
    (∃ (s : State) (sub : BitVec 15), Running s ∧ s.dev.core.rd FRS_SYNC_CFG.en = 1 ∧ s.dev.core.rd FRS_W_STAT.xtal_ok = 1 ∧
      ((s.dev.core.rd STG_DT_STAT.src = srcSteered ∨ s.dev.core.rd STG_DT_STAT.src = srcHoldover)) ∧ s.dev.core.frost.commit =
      none ∧ s.dev.core.frost.held = false ∧ (((s.dev.core.rd FRS_W_SEC_LO.sec_lo + s.dev.core.rd FRS_W_SEC_HI.sec_hi * 2 ^ 32)
      * secPU + sub.toNat * 2000000000 : Int) - s.dev.core.now).natAbs ≤ max 1 (s.dev.core.rd FRS_SYNC_CFG.tol) * 2000000000) ∧
    (∃ (s : State) (sub : BitVec 15), Running s ∧ s.dev.core.rd FRS_SYNC_CFG.en = 1 ∧ s.dev.core.rd FRS_W_STAT.xtal_ok = 1 ∧
      ((s.dev.core.rd STG_DT_STAT.src = srcSteered ∨ s.dev.core.rd STG_DT_STAT.src = srcHoldover)) ∧ s.dev.core.frost.commit =
      none ∧ s.dev.core.frost.held = false ∧ max 1 (s.dev.core.rd FRS_SYNC_CFG.tol) * 2000000000 < (((s.dev.core.rd
      FRS_W_SEC_LO.sec_lo + s.dev.core.rd FRS_W_SEC_HI.sec_hi * 2 ^ 32) * secPU + sub.toNat * 2000000000 : Int) -
      s.dev.core.now).natAbs) ∧
    (∃ (s : State), ((s.dev.core.frost.win = none ∨ s.dev.core.frost.err = none ∨ s.dev.core.frost.stepped = true))) ∧
    (∃ (s : State) (e0 : Int) (e1 : Int), s.dev.core.frost.win = some e0 ∧ s.dev.core.frost.err = some e1 ∧ s.dev.core.rd
      FRS_SYNC_CFG.auto_trim = 1 ∧ s.dev.core.rd FRS_SYNC_CFG.en = 1 ∧ s.dev.core.rd FRS_W_STAT.xtal_ok = 1 ∧ ((s.dev.core.rd
      STG_DT_STAT.src = srcSteered ∨ s.dev.core.rd STG_DT_STAT.src = srcHoldover)) ∧ s.dev.core.frost.stepped = false) ∧
    (∃ (s : State) (k : Fin 4) (v : Int), s.dev.core.cmpThr k.val ≤ v ∧ 50 * v < 51 * s.dev.core.cmpThr k.val) ∧
    (∃ (s : State) (k : Fin 5) (v : Int), (if k.val = 4 then s.dev.core.cmpThr 4 < v else 51 * s.dev.core.cmpThr k.val ≤ 50 * v
      - 50)) ∧
    (∃ (s : State) (k : Fin 5) (v : Int), (if k.val = 4 then v ≤ s.dev.core.cmpThr 4 - 20 else v < s.dev.core.cmpThr k.val)) ∧
    (∃ (s : State) (v : Int), Running s ∧ bitOf (s.dev.core.rd FRS_W_CMP_STAT.levels) 0 = false ∧ s.dev.core.cmpThr 4 < v) ∧
    (∃ (s : State) (v : Int), Running s ∧ bitOf (s.dev.core.rd FRS_W_CMP_STAT.levels) 2 = true ∧ v < s.dev.core.cmpThr 2) :=
  ⟨⟨build [fun c => c.wr FRS_W_STAT.xtal_ok 1 , fun c => { c with frost := { c.frost with commit := none } }], by decide⟩,
   ⟨build [fun c => c.wr FRS_W_STAT.xtal_ok 0 ], by decide⟩,
   ⟨awake, by decide⟩,
   ⟨build [
      fun c => { c.wr FRS_W_STAT.xtal_ok 1 with frost := { c.frost with commit := some ((1 % 2^48 : Nat), (1 % 2^15 : Nat)) } }],
    1 % 2^48, 1 % 2^15, if (1 % 2^15 : Nat) % 2 = 0 then .frostTimeLoad else .frostSecond, by decide⟩,
   ⟨build [
      fun c => (c.wr FRS_SYNC_CFG.tol 255).wr STG_DT_STAT.src 4,
      fun c =>
        let c : Core :=
          { (c.wr FRS_SYNC_CFG.en 1).wr FRS_W_STAT.xtal_ok 1 with inReset := false, dt := ((c.rd FRS_W_SEC_LO.sec_lo + c.rd FRS_W_SEC_HI.sec_hi * 2 ^ 32) * secPU + 2100000000) * 2^32, frost := { c.frost with commit := none, held := false } }
        c,
      wake],
    1#15, by decide⟩,
   ⟨build [
      wake,
      fun c => c.wr FRS_SYNC_CFG.en 1,
      fun c => c.wr FRS_W_STAT.xtal_ok 1,
      fun c => { c with frost := { c.frost with commit := none } },
      fun c => { c with frost := { c.frost with held := false } },
      fun c => c.wr STG_DT_STAT.src 4,
      fun c => ({ c with dt := 0 }).wr FRS_W_SEC_LO.sec_lo 100],
    1#15, by decide⟩,
   ⟨build [
      fun c =>
        { c with frost := { c.frost with win := if c.dt % 3 = 0 then none else c.frost.win, err := if c.dt % 3 = 1 then none else c.frost.err, stepped := true } }],
    by decide⟩,
   ⟨build [
      fun c =>
        { ((c.wr FRS_SYNC_CFG.auto_trim 1).wr FRS_SYNC_CFG.en 1 |>.wr FRS_W_STAT.xtal_ok 1 |>.wr STG_DT_STAT.src srcSteered) with inReset := false, frost := { c.frost with win := some 1, err := some 1, stepped := false } }],
    1, 1, by decide⟩,
   ⟨State.reset, 0, State.reset.dev.core.cmpThr 0 + 8, by decide⟩,
   ⟨State.reset, 0, 100000, by decide⟩,
   ⟨State.reset, 0, -1, by decide⟩,
   ⟨build [wake, fun c => { c.wr FRS_W_CMP_STAT.levels 0 with inReset := false }], 100000, by decide⟩,
   ⟨build [wake, fun c => { c.wr FRS_W_CMP_STAT.levels 31 with inReset := false }], -1, by decide⟩⟩

/-- The hypotheses of `Obligations.FaultRecords`, clause by clause. -/
theorem witness_FaultRecords :
    (∃ (s : State) (fs : Fin 96) (info : BitVec 32), Running s ∧ fsSpare fs.val = false ∧ s.dev.core.part.fsAbsent fs.val =
      false ∧ s.dev.core.part.fsUnitOk fs.val info.toNat = true ∧ ((fs.val = 72 → s.dev.core.part.hasWord info.toNat = true))) ∧
    (∃ (s : State) (fs : Fin 96) (info : BitVec 32), Running s ∧ fsSpare fs.val = false ∧ s.dev.core.part.fsAbsent fs.val =
      false ∧ s.dev.core.part.fsUnitOk fs.val info.toNat = true ∧ ((fs.val = 72 → s.dev.core.part.hasWord info.toNat = true)) ∧
      fs.val ∉ [6, 40, 41, 42, 43, 49, 50, 52] ∧ s.dev.core.rd FLT_INJ_CFG.arm = 0 ∧ s.dev.core.rdTv FLT_SRC_CFG.sev fs.val = 3
      ∧ s.dev.core.shadowed fs.val info.toNat = false ∧ s.dev.core.building = [] ∧ fsTracked fs.val = false) ∧
    (∃ (s : State) (fs : Fin 96), Running s ∧ fsSpare fs.val = true) ∧
    (∃ (s : State) (r : FltRec) (rest : List FltRec), Running s ∧ s.dev.core.building = r :: rest ∧ r.acts = [] ∧
      s.dev.core.ackWait = [] ∧ s.dev.core.estRun = false ∧ s.dev.core.fltBuf.length < 32) ∧
    (∃ (s : State) (r : FltRec) (rest : List FltRec), Running s ∧ s.dev.core.building = r :: rest ∧ r.acts = [] ∧
      s.dev.core.ackWait = [] ∧ r.notify = true ∧ (s.dev.core.port 0).notes = [] ∧ (s.dev.core.port 0).ins = [] ∧
      (s.dev.core.port 0).insCur = none) ∧
    (∃ (s : State), Running s ∧ s.dev.core.building = []) ∧
    (∃ (s : State) (fs : Fin 96), Running s ∧ bitOf (s.dev.core.rd FLT_GUARD.run 0 (fs.val / 32)) (fs.val % 32) = true) ∧
    (∃ (s : State) (fs : Fin 96), Running s ∧ bitOf (s.dev.core.rd FLT_GUARD.run 0 (fs.val / 32)) (fs.val % 32) = false) ∧
    (∃ (s : State) (src : BitVec 7), Running s ∧ src.toNat < 96 ∧ s.dev.core.building = []) ∧
    (∃ (s : State) (src : BitVec 7), Running s ∧ 96 ≤ src.toNat) ∧
    (∃ (s : State), Running s ∧ s.dev.core.building = []) ∧
    (∃ (s : State), Running s) ∧
    (∃ (s : State) (n : Fin 96) (data : BitVec 32), Running s ∧ s.dev.core.part.fsAbsent n.val = false ∧ bits data.toNat 2 0 ≤ 4
      ∧ actChecks s.dev.core.part (bits data.toNat 6 4) (s.dev.core.rdTv FLT_SRC_MASK.tgt n.val ||| (s.dev.core.rdTv
      FLT_SRC_MASK.self n.val) <<< 31) = (true, true)) ∧
    (∃ (s : State) (data : BitVec 32), Running s ∧ bits data.toNat FLT_INJ_CFG.arm.hi FLT_INJ_CFG.arm.lo = 1 ∧ bits data.toNat
      FLT_INJ_CFG.src.hi FLT_INJ_CFG.src.lo ≠ 46 ∧ s.dev.core.injOk (bits data.toNat FLT_INJ_CFG.src.hi FLT_INJ_CFG.src.lo)
      (bits data.toNat FLT_INJ_CFG.inv.hi FLT_INJ_CFG.inv.lo) (s.dev.core.rd FLT_INJ_TGT.tgt) = true) ∧
    (∃ (s : State), Running s) ∧
    (∃ (s : State), Running s ∧ s.dev.core.rdTv FLT_WDOG_CFG.en = 1) ∧
    (∃ (s : State) (unit : Fin 9) (index : Fin 128), Running s ∧ s.dev.core.inRst.contains (unit.val, index.val) = false) ∧
    (∃ (s : State), Running s ∧ s.dev.core.rd FLT_STAT.alive_run = 1) :=
  ⟨⟨awake, 0, 1#32, by decide⟩,
   ⟨build [fun c => ({ c with inReset := false }).wrTv FLT_SRC_CFG.sev 3 57], 57, 1#32, by decide⟩,
   ⟨awake, 7, by decide⟩,
   ⟨build [
      fun c => { c with inReset := false, building := [aRec], ackWait := [], estRun := false, fltBuf := c.fltBuf.take 5 },
      wake],
    aRec, [], by decide⟩,
   ⟨build [
      fun c =>
        let c := c.setPort 0 { c.port 0 with notes := [], ins := [] }
        { c with inReset := false, building := ({ aRec with acts := [], notify := true } : FltRec) :: [], ackWait := [] },
      wake],
    { aRec with acts := [], notify := true }, [], by decide⟩,
   ⟨build [wake, fun c => { c with building := [] }], by decide⟩,
   ⟨build [
      fun c => { c.wrBit FLT_GUARD.run ((0 : Fin 96) % 32) true 0 ((0 : Fin 96)/32) with inReset := false },
      wake],
    0, by decide⟩,
   ⟨awake, 0, by decide⟩,
   ⟨build [wake, fun c => { c with building := [] }], 1#7, by decide⟩,
   ⟨awake, 96#7, by decide⟩,
   ⟨build [wake, fun c => { c with building := [] }], by decide⟩,
   ⟨awake, by decide⟩,
   ⟨build [
      fun c => { (c.wrTv FLT_SRC_MASK.tgt 0 (0 : Fin 96)).wrTv FLT_SRC_MASK.self 0 (0 : Fin 96) with inReset := false },
      wake],
    0, 1#32 &&& 0xFFFFFF8B#32, by decide⟩,
   ⟨build [fun c => { c.wr FLT_INJ_TGT.tgt 3 with inReset := false }, wake],
    BitVec.ofNat 32 (2 ^ FLT_INJ_CFG.arm.lo + (if 1 = 0 then 43 else 14) * 2 ^ FLT_INJ_CFG.src.lo + 1 * 2 ^ FLT_INJ_CFG.inv.lo),
      by decide⟩,
   ⟨awake, by decide⟩,
   ⟨build [fun c => { c.wrTv FLT_WDOG_CFG.en 1 with inReset := false }, wake], by decide⟩,
   ⟨awake, 0, 0, by decide⟩,
   ⟨build [wake, fun c => c.wr FLT_STAT.alive_run 1 ], by decide⟩⟩

/-- The hypotheses of `Obligations.FaultControls`, clause by clause. -/
theorem witness_FaultControls :
    (∃ (s : State) (n : Fin 96) (data : BitVec 32), Running s ∧ s.dev.core.part.fsAbsent n.val = false ∧ bits data.toNat 2 0 ≤ 4
      ∧ actChecks s.dev.core.part (bits data.toNat 6 4) (s.dev.core.rdTv FLT_SRC_MASK.tgt n.val ||| (s.dev.core.rdTv
      FLT_SRC_MASK.self n.val) <<< 31) = (true, true)) ∧
    (∃ (s : State) (n : Fin 96) (data : BitVec 32), Running s ∧ s.dev.core.part.fsAbsent n.val = false ∧ 4 < bits data.toNat 2 0
      ∧ s.dev.core.rd FLT_CFG_REJECT.valid = 0) ∧
    (∃ (s : State) (n : Fin 96) (data : BitVec 32), Running s ∧ actChecks s.dev.core.part (s.dev.core.rdTv FLT_SRC_CFG.action
      n.val) data.toNat = (true, true)) ∧
    (∃ (s : State) (data : BitVec 32), Running s ∧ bits data.toNat FLT_INJ_CFG.arm.hi FLT_INJ_CFG.arm.lo = 0) ∧
    (∃ (s : State) (data : BitVec 32), Running s ∧ bits data.toNat FLT_INJ_CFG.arm.hi FLT_INJ_CFG.arm.lo = 1 ∧ s.dev.core.injOk
      (bits data.toNat FLT_INJ_CFG.src.hi FLT_INJ_CFG.src.lo) (bits data.toNat FLT_INJ_CFG.inv.hi FLT_INJ_CFG.inv.lo)
      (s.dev.core.rd FLT_INJ_TGT.tgt) = false) ∧
    (∃ (s : State), Running s) ∧
    (∃ (s : State) (key : BitVec 16), Running s ∧ key ≠ 0xA11E#16) ∧
    (∃ (s : State), Running s ∧ s.dev.core.rdTv FLT_WDOG_CFG.en = 1) ∧
    (∃ (s : State), Running s ∧ s.dev.core.rdTv FLT_WDOG_CFG.en = 0) ∧
    (∃ (s : State) (unit : Fin 9) (index : Fin 128), Running s ∧ s.dev.core.inRst.contains (unit.val, index.val) = false) ∧
    (∃ (s : State) (unit : Fin 9) (index : Fin 128), Running s ∧ s.dev.core.inRst.contains (unit.val, index.val) = true) ∧
    (∃ (s : State), Running s ∧ s.dev.core.rd FLT_STAT.alive_run = 1) ∧
    (∃ (s : State), Running s ∧ s.dev.core.rd FLT_STAT.alive_run = 0) :=
  ⟨⟨build [
      fun c => { (c.wrTv FLT_SRC_MASK.tgt 0 (0 : Fin 96)).wrTv FLT_SRC_MASK.self 0 (0 : Fin 96) with inReset := false },
      wake],
    0, 1#32 &&& 0xFFFFFF8B#32, by decide⟩,
   ⟨build [fun c => { (c.wr FLT_CFG_REJECT.valid 0) with inReset := false }, wake], 0, 1#32 ||| 5#32, by decide⟩,
   ⟨build [fun c => { (c.wrTv FLT_SRC_CFG.action 0 (0 : Fin 96)) with inReset := false }, wake], 0, 0#32, by decide⟩,
   ⟨awake, 0#32 &&& (BitVec.ofNat 32 (2 ^ 32 - 1 - 2 ^ FLT_INJ_CFG.arm.lo)), by decide⟩,
   ⟨awake, 1#32 ||| BitVec.ofNat 32 (2 ^ FLT_INJ_CFG.arm.lo), by decide⟩,
   ⟨awake, by decide⟩,
   ⟨awake, 1#16, by decide⟩,
   ⟨build [wake, fun c => c.wrTv FLT_WDOG_CFG.en 1 ], by decide⟩,
   ⟨build [wake, fun c => c.wrTv FLT_WDOG_CFG.en 0 ], by decide⟩,
   ⟨awake, 0, 0, by decide⟩,
   ⟨build [fun c => { c with inReset := false, inRst := [(0, 0)] }, wake], 0, 0, by decide⟩,
   ⟨build [wake, fun c => c.wr FLT_STAT.alive_run 1 ], by decide⟩,
   ⟨build [wake, fun c => c.wr FLT_STAT.alive_run 0 ], by decide⟩⟩

/-- The hypotheses of the statements over every command. -/
theorem witness_StepTakesFront : (∃ (s : State) (i : Instr) (rest : List Instr), s.pending = i :: rest) ∧
    (∃ s : State, s.pending = []) := ⟨⟨⟨[.rsCalDone], {}⟩, .rsCalDone, [], rfl⟩, ⟨State.reset, rfl⟩⟩

theorem witness_MemoryFormKept : ∃ s t : State, Memory.wf s.dev.mem = true ∧ step s = .next t :=
  ⟨State.reset, _, by decide, rfl⟩

theorem witness_NothingInFlightKept : ∃ s t : State, s.dev.core.atRest = true ∧ step s = .next t :=
  ⟨State.reset, _, by decide, rfl⟩

theorem witness_HeldInReset :
    (∃ (i : Instr) (s : State), i.fromHost = true ∧ s.dev.core.inReset = true) ∧
    (∃ (i : Instr) (s : State), i.fromHost = false ∧ i.pastReset = false ∧ s.dev.core.inReset = true) ∧
    (∃ (i : Instr) (s : State), i.pastReset = false ∧ s.dev.core.inReset = true ∧ s.dev.core.atRest = true) :=
  ⟨⟨.resync, State.reset, by decide⟩, ⟨.rsCalDone, State.reset, by decide⟩, ⟨.rsCalDone, State.reset, by decide⟩⟩

theorem witness_BlockFrame : ∃ (i : Instr) (b : List Nat), i.blocks = some b ∧ 2 ∉ b := ⟨.dayRollover, [0x12], by decide⟩

theorem witness_FaultingBlockFrame : ∃ (i : Instr) (b : List Nat), i.blocks = some b ∧ 2 ∈ b :=
  ⟨.gateEnd 3, [2, 0x10, 0x14, 0x15, 0x102], by decide⟩

/-- A state with page 7 under way. -/
def storing : State := onC awake (fun c => { c with firnU := { c.firnU with run := some { req := ⟨0, 7, 7⟩, page := some 7 } } })

/-- A state with a window access waiting. -/
def windowed : State := onC awake (fun c => { c with inds := [(1, { acc := some { ex := 1, write := true, data := 5, space := 0, addr := 8, inc := true } })] })

theorem witness_MemoryFrame :
    (∃ (i : Instr) (s : State), i.keepsMemory = true ∧ s.dev.core.atRest = true) ∧
    (∃ i : Instr, i ≠ .pageStored false ∧ i ≠ .pageStored true) ∧
    (∃ (i : Instr) (s : State) (a : Nat), i.storesModel = true ∧ s.dev.core.atRest = true ∧
      a / 1024 ≠ s.dev.core.rd GLC_STORE_CFG.page ∧ a / 1024 ≠ s.dev.core.rd GLC_STORE_CFG.page + 1) ∧
    (∃ (i : Instr) (s : State), i.worksStore = true ∧ s.dev.core.atRest = true) ∧
    (∃ (i : Instr) (s : State) (k : Fin 32) (a : Nat), (i = .storeRetry ∨ i = .tallyIncDone k) ∧ s.dev.core.atRest = true ∧
      (a / 1024 ≠ 128 ∨ s.dev.core.firnU.dirNew = none)) ∧
    (∃ (s : State) (x : StoreRun) (p a : Nat), s.dev.core.atRest = true ∧ s.dev.core.firnU.run = some x ∧ x.page = some p ∧
      a / 1024 ≠ p) ∧
    (∃ (i : Instr) (s : State), (i.storesStamps = true ∨ i.storesMiddles = true) ∧ s.dev.core.atRest = true) ∧
    (∃ (s : State) (off : BitVec 32) (data : List Byte) (a : Nat), s.dev.core.atRest = true ∧ PortsIdle s.dev.core ∧
      (a < off.toNat ∨ off.toNat + data.length ≤ a)) ∧
    (∃ (s : State) (n : Fin 4) (x : IndAcc) (a : Nat), s.dev.core.atRest = true ∧ PortsIdle s.dev.core ∧
      s.dev.core.inds.get {} n.val = { acc := some x } ∧ (a < x.addr ∨ x.addr + 4 ≤ a)) ∧
    (∃ (s : State) (a : Nat), s.dev.core.atRest = true ∧ PortsIdle s.dev.core ∧
      bitOf s.dev.core.memU.tBanks (a / 131072) = false) ∧
    (∃ (i : Instr) (s : State) (confirm : BitVec 16) (a : Nat), s.dev.core.atRest = true ∧ a / 1024 ≠ 129 ∧
      (i = .provision confirm ∨ i = .policy confirm ∨ i = .zeroise confirm)) ∧
    (∃ (s : State) (a : Nat), s.dev.core.atRest = true ∧ a / 1024 ≠ 128) :=
  ⟨⟨.dayRollover, State.reset, by decide⟩, ⟨.resync, by decide⟩, ⟨.storeInterval, awake, 5000, by decide⟩,
   ⟨.auxWarning, awake, by decide⟩, ⟨.storeRetry, awake, 0, 0, by decide⟩,
   ⟨storing, { req := ⟨0, 7, 7⟩, page := some 7 }, 7, 8192, by decide⟩,
   ⟨.loLoss, awake, by decide⟩, ⟨awake, 4#32, [1#8, 2#8, 3#8, 4#8], 8, by decide⟩,
   ⟨windowed, 1, { ex := 1, write := true, data := 5, space := 0, addr := 8, inc := true }, 12, by decide⟩,
   ⟨onC awake (fun c => { c with memU := { c.memU with tBanks := 1 } }), 131072, by decide⟩, ⟨.zeroise 5#16, awake, 5#16, 0, by decide⟩,
   ⟨awake, 0, by decide⟩⟩

/-- PACKET framing: a payload at each end of its range. -/
theorem witness_PacketsDecode : ∃ body : List Byte, body.length ≤ 4096 := ⟨[], by decide⟩

end Sys2Proof.Tests
end

section
/-! The scope of the model: every command's meaning ends in a next state with the queue as it was, and the state after reset
reads the reset column of the register tables. -/

namespace Sys2Proof.Machine

/-! ## The shape of a command's meaning -/

/-- What the host's packets and their transport carry is an operation of the host link; every other command is one operation
on the part, which holds the gate of the internal reset (R418) inside where it has one. -/
theorem exec_eq_cond_fromHost (i : Instr) (s : State) :
    ∃ f, exec i s = bif i.fromHost then onHost f s else onDev f s := by
  cases i <;> exact ⟨_, rfl⟩

/-- Settles O2: both shapes of a meaning answer a next state and change the part alone. -/
theorem everyCommandAnswers : Obligations.EveryCommandAnswers := by
  intro i s
  obtain ⟨f, hf⟩ := exec_eq_cond_fromHost i s
  rw [hf]
  cases i.fromHost with
  | true => exact onHost_pending f s
  | false => exact onDev_pending f s

/-! ## The state after reset -/

/-- After reset no field differs from its reset value (R21). -/
@[simp] theorem rd_reset (f : Fld) (i k : Nat) : State.reset.dev.core.rd f i k = f.reset i :=
  Nat.zero_xor (f.reset i)

/-- After reset the three copies of a TV field agree (R364), so their majority is the reset value. -/
@[simp] theorem rdTv_reset (f : Fld) (i k : Nat) : State.reset.dev.core.rdTv f i k = f.reset i := by
  have tvB_none : State.reset.dev.core.tvB = [] := rfl
  have tvC_none : State.reset.dev.core.tvC = [] := rfl
  simp [Core.rdTv, tvB_none, tvC_none, AMap.get]

/-- Settles O5: nothing is listed in a memory and nothing waits; every register named reads its table's reset value. -/
theorem stateAfterReset : Obligations.StateAfterReset := by
  have memories : Memory.wf State.reset.dev.mem = true := rfl
  have rest : State.reset.dev.core.atRest = true := rfl
  refine ⟨memories, rest, rfl, rfl, ?_⟩
  simp only [rd_reset, rdTv_reset]
  decide

end Sys2Proof.Machine
end

section
/-! A step of the machine takes the command at the front of the queue. -/

namespace Sys2Proof.Machine

open Sys2Proof

theorem step_cons {s : State} {i : Instr} {rest : List Instr} (h : s.pending = i :: rest) :
    step s = exec i { s with pending := rest } := by
  unfold step
  rw [h]

theorem step_nil {s : State} (h : s.pending = []) : step s = onCore Core.clockPeriod s := by
  unfold step
  rw [h]

/-- Settles O1: the two cases of the queue. -/
theorem stepTakesFront : Obligations.StepTakesFront :=
  ⟨fun _ _ _ h => step_cons h, fun _ h => step_nil h⟩

end Sys2Proof.Machine
end

section
/-! The free counter (log entry 70): the estimator draws a free value where the core's own bank has failed, and nothing else on
the way of a stamp draws one. -/

namespace Sys2Proof.Machine

open Sys2Proof

/-! ## What draws no free value -/

/-- From `c` to `d` no free value is drawn. -/
def Core.Undrawn (c d : Core) : Prop := d.free = c.free

namespace Core.Undrawn

variable {c d e : Core}

protected theorem refl : Undrawn c c := Eq.refl _

theorem wr {f : Fld} {v i k : Nat} (h : Undrawn c d) : Undrawn c (d.wr f v i k) := h
theorem setCand {i : Nat} {x : Cand} (h : Undrawn c d) : Undrawn c (d.setCand i x) := h
theorem setPa {a : Nat} {x : Pa} (h : Undrawn c d) : Undrawn c (d.setPa a x) := h

theorem ite {p : Prop} [Decidable p] (h : Undrawn c d) (k : Undrawn c e) : Undrawn c (if p then d else e) := by
  split <;> assumption

theorem on {b : Bool} {f : Core → Core} (h : Undrawn c d) (k : ∀ {e}, Undrawn c e → Undrawn c (f e)) : Undrawn c (d.on b f) :=
  ite (k h) h

theorem each {α : Type} {l : List α} {f : Core → α → Core} (h : Undrawn c d) (k : ∀ {e x}, Undrawn c e → Undrawn c (f e x)) :
    Undrawn c (d.each l f) := by
  unfold Core.each
  induction l generalizing d with
  | nil => exact h
  | cons x r ih => exact ih (k h)

theorem hit (h : Undrawn c d) (k : Core.Hit d e) : Undrawn c e := by
  have free_eq : e.calm.free = d.calm.free := congrArg Core.free k.2
  exact Eq.trans free_eq h

theorem raise {fs u : Nat} (h : Undrawn c d) : Undrawn c (d.raise fs u) := h.hit (Core.raise_hit ..)

theorem injFire {fs u info : Nat} (h : Undrawn c d) : Undrawn c (d.injFire fs u info) := by
  have fired : Undrawn c d.injFired := h.wr.wr.wr
  exact fired.hit (Core.raiseInfo_hit ..)

theorem linkVal {link prod : Nat} (h : Undrawn c d) : Undrawn c (d.linkVal link prod).1 := by
  unfold Core.linkVal
  dsimp only
  split
  · exact h.injFire
  · split <;> exact h

theorem holdItem {q : Nat} {it : Item} (h : Undrawn c d) : Undrawn c (d.holdItem q it) := by
  unfold Core.holdItem
  exact ite (ite h.wr h) (ite (ite h.wr h) (ite h (ite h.wr (ite h.wr h))))

theorem emit {rt u a : Nat} {l : List Nat} (h : Undrawn c d) : Undrawn c (d.emit rt u a l) := by
  unfold Core.emit
  split
  · exact h
  · exact ite h h.holdItem

/-! ### The estimator -/

theorem candRegs {i : Nat} (h : Undrawn c d) : Undrawn c (d.candRegs i) := by
  unfold Core.candRegs
  exact h.wr.wr.wr.wr.wr.wr

theorem estJump {i t : Nat} {raw : Rat} {ev : Bool} (h : Undrawn c d) : Undrawn c (d.estJump i t raw ev) := by
  unfold Core.estJump
  exact ((ite h.setCand h.setCand.wr).on wr).candRegs

theorem estStep {i t n : Nat} {raw T : Rat} (h : Undrawn c d) : Undrawn c (d.estStep i t n raw T) := by
  unfold Core.estStep
  exact ite h.setCand.estJump (ite (ite h.setCand.wr.wr.setCand.estJump h.setCand.wr.wr.setCand) h.setCand.wr.setCand.candRegs)

/-! ### The states of a candidate -/

theorem palLow (h : Undrawn c d) : Undrawn c d.palLow := h.each wr

theorem paGoto {a new cause : Nat} (h : Undrawn c d) : Undrawn c (d.paGoto a new cause) := by
  unfold Core.paGoto
  extract_lets old c1 c2 c3 c4 c5 x stop c6 c7
  have h1 : Undrawn c c1 := h.wr
  have h5 : Undrawn c c5 := ((h1.wr.on wr).on (fun h => h.wr.raise)).on wr
  have h6 : Undrawn c c6 := ite h5.setPa (ite h5.setPa h5)
  exact ite h1 (h6.on (fun h => h.wr.wr)).emit.palLow

theorem palEval {a : Nat} (h : Undrawn c d) : Undrawn c (d.palEval a) := by
  unfold Core.palEval
  have started : ∀ {p : Prop} [Decidable p], Undrawn c (if p then d.paGoto a paWait kcStart else d) := ite h.paGoto h
  exact ite h (ite (ite h h.paGoto) (ite h.paGoto (ite h (ite (ite started started.paGoto) (ite started.paGoto (ite (ite started.paGoto (ite started.paGoto started)) started))))))

theorem palEvalAll (h : Undrawn c d) : Undrawn c d.palEvalAll := h.each palEval

theorem disRefresh (h : Undrawn c d) : Undrawn c d.disRefresh := by
  unfold Core.disRefresh
  exact h.each (fun h => h.wr.wr.wr)

theorem pairsClear (h : Undrawn c d) : Undrawn c d.pairsClear := by
  unfold Core.pairsClear
  refine disRefresh (h.each fun h => h.each fun {e y} h => ?_)
  split
  · exact h
  · exact h

theorem candGoto {i new cause : Nat} (h : Undrawn c d) : Undrawn c (d.candGoto i new cause) := by
  unfold Core.candGoto
  extract_lets old c1 c2 x time d1 d2 d3 d4 c3 c4 c5 c6 c7 c8 c9 c10 c11
  have h1 : Undrawn c c1 := h.wr
  have h2 : Undrawn c c2 := h1.wr
  have h3 : Undrawn c c3 := ite h2.setCand.candRegs.wr.wr (ite h2.setCand.wr (ite (h2.on wr).setCand h2))
  have h7 : Undrawn c c7 := (((h3.on wr).on wr).on wr).on wr
  have h11 : Undrawn c c11 := ((h7.pairsClear.on raise).on raise).on raise
  exact ite h1 h11.emit.palEvalAll

theorem candOnce {i : Nat} {act qual wtr : Bool} (h : Undrawn c d) : Undrawn c (d.candOnce i act qual wtr) := by
  unfold Core.candOnce
  refine ite h ?_
  dsimp only
  split
  · exact h.candGoto
  refine ite h.candGoto (ite (ite h.candGoto h.candGoto) (ite h.candGoto ?_))
  split
  · exact h.candGoto
  · exact ite (ite h.candGoto h.candGoto) (ite (ite h.candGoto h.candGoto) (ite h.candGoto h.candGoto))

theorem candEval {i : Nat} {act qual wtr : Bool} (h : Undrawn c d) : Undrawn c (d.candEval i act qual wtr) := by
  unfold Core.candEval
  exact ite h.candOnce.candOnce h.candOnce

theorem setRank {i r : Nat} (h : Undrawn c d) : Undrawn c (d.setRank i r) := by
  unfold Core.setRank Core.rankRefresh
  exact (ite h.wr (h.wr.wr.wr.on raise)).candEval

theorem todLabel {i t : Nat} (h : Undrawn c d) : Undrawn c (d.todLabel i t) := by
  unfold Core.todLabel
  split
  · exact h
  · exact h.setCand.wr.wr.wr.wr.setRank

end Core.Undrawn

/-! ## What draws one -/

/-- A datum out of a failed bank of the core's is a free value (R425). -/
theorem Core.coreData_free {c : Core} (h : c.badUse 2 = true) (v : Rat) : (c.coreData v).2.free = c.free + 1 := by
  unfold Core.coreData
  rw [if_pos h]
  rfl

theorem Core.estUpdate_free {c : Core} (h : c.badUse 2 = true) (i t n : Nat) (raw T : Rat) :
    (c.estUpdate i t n raw T).free = c.free + 1 := by
  have step : Core.Undrawn (c.coreData raw).2 (c.estUpdate i t n raw T) := by
    unfold Core.estUpdate
    exact Core.Undrawn.refl.estStep.linkVal.setCand
  exact Eq.trans step (Core.coreData_free h raw)

/-- No stamp period has passed where no time has. -/
theorem Core.candMiss_of_since_eq_zero {c : Core} {i t : Nat} (h : (c.cand i).since t = 0) : c.candMiss i t = c := by
  unfold Core.candMiss
  extract_lets x m
  have m_eq_zero : m = 0 := by
    refine Int.toNat_of_nonpos ?_
    rw [← Int.cast_nonpos (R := Rat)]
    refine (Rat.floor_le _).trans ?_
    rw [h]
    split <;> norm_num
  rw [m_eq_zero, if_pos (Nat.zero_le _), ite_self]

/-- Candidate 0 observes; one bank of Tile memory is the estimator core's, and it has failed. -/
def failedBank : Core :=
  { ((({ inReset := false } : Core).wr REF_STATE.state csObserving 0).wr STG_STAT.degraded 1).wr TMC_BANK.failed 1 0 0 with
    memMap := { tileUse := [2] } }

theorem failedBank_since (i : Nat) : (failedBank.cand i).since 0 = 0 := by
  have reset_cand : failedBank.cand i = {} := rfl
  rw [reset_cand]
  unfold Cand.since
  norm_num

theorem failedBank_missAll : failedBank.missAll 0 = failedBank := by
  have keep : ∀ l : List Nat, failedBank.each l (fun c i => c.candMiss i 0) = failedBank := by
    intro l
    unfold Core.each
    induction l with
    | nil => rfl
    | cons i r ih => rwa [List.foldl_cons, Core.candMiss_of_since_eq_zero (failedBank_since i)]
  exact keep (List.range 24)

/-- Its stamp draws one free value. -/
theorem failedBank_refStamp : (refStampStep 0 0 0 failedBank).free = failedBank.free + 1 := by
  unfold refStampStep
  rw [failedBank_missAll]
  extract_lets i st c x T near c1 n c2 bad pw y c3 raw c4 z c5
  have present : (20 ≤ i || st = csDisabled || !c.part.cand i || !c.rckClock i) = false := by decide
  have first : near = false := by decide
  have observing : ¬ st = csNoSignal := by decide
  have failed : c3.badUse 2 = true := by decide
  have drawn : c4.free = c3.free + 1 := Core.estUpdate_free failed i 0 n raw T
  have counted : Core.Undrawn c c3 := Core.Undrawn.refl.wr.setCand
  have rest : Core.Undrawn c4 ((c5.todLabel i 0).candEval i) := by
    have h : Core.Undrawn c4 c5 := by
      unfold c5
      rw [if_neg observing]
      exact .ite Core.Undrawn.refl.injFire.setCand .refl
    exact h.todLabel.candEval
  rw [present, if_neg Bool.false_ne_true, first, if_neg Bool.false_ne_true]
  exact rest.trans (drawn.trans (congrArg (· + 1) counted))

/-- The state with that core. -/
def failedBankState : State := ⟨[], { core := failedBank }⟩

theorem Core.outside_free {b : List Nat} (hb : 0x101 ∉ b) (c : Core) : (c.outside b).free = c.free := by
  have hb : b.contains 0x101 = false := by simpa using hb
  simp only [Core.outside, apply_ite Core.free, ite_self, hb, Bool.false_eq_true, if_false]

theorem Dev.act_free (f : Dev → Dev) (d : Dev) : (d.act f).core.free = (f d).core.free :=
  (congrArg Core.free (Dev.act_rest f d) : (d.act f).core.rest.free = (f d).core.rest.free)

/-- Refutes O8: REF_STAMP may raise a fault, and the code 0x101 is not among its blocks; where a bank of the estimator core's
has failed, its datum is a free value (R425), and the free counter moves. -/
theorem not_faultingBlockFrame : ¬ Obligations.FaultingBlockFrame := by
  intro h
  have no_code : 0x101 ∉ [2, 0x10, 0x14, 0x15, 0x22, 0x102] := by decide
  obtain ⟨t, ht, kept⟩ := h (.refStamp 0 0 0) failedBankState _ rfl (by decide)
  have released : Running failedBankState := rfl
  have drawn : Answers (exec (.refStamp 0 0 0) failedBankState) fun t => t.dev.core.free = failedBank.free + 1 := by
    refine onRunCore_answers released ?_
    dsimp only
    rw [Dev.act_free]
    exact failedBank_refStamp
  obtain ⟨t', ht', hfree⟩ := drawn
  obtain rfl : t' = t := by injection ht'.symm.trans ht
  have free_kept : t'.dev.core.free = failedBank.free := by
    rw [← Core.outside_free no_code t'.dev.core, kept]
    exact Core.outside_free no_code failedBank
  omega

end Sys2Proof.Machine
end

section
/-! What an operation keeps outside some blocks (`Core.outside`): the relation `Core.Kept`, one rule per shape of update. -/

namespace Sys2Proof.Machine

open Sys2Proof

/-! ## The stages of `Core.outside` -/

/-- The hidden state erased of every block that `m` names, by the block's code in `Instr.blocks`: 1 is the host link's, 0x25
Firn's with what waits to land in a memory. -/
def Core.erase (m : Nat → Bool) (c : Core) : Core :=
  { c with
    host := bif m 1 then {} else c.host
    building := bif m 2 then [] else c.building, fltBuf := bif m 2 then [] else c.fltBuf
    fltSeq := bif m 2 then 0 else c.fltSeq, esc := bif m 2 then [] else c.esc, hitUnits := bif m 2 then [] else c.hitUnits
    hits := bif m 2 then [] else c.hits, ackWait := bif m 2 then [] else c.ackWait
    engaged := bif m 2 then [] else c.engaged, quiet := bif m 2 then [] else c.quiet
    resetIssued := bif m 2 then false else c.resetIssued
    dt := bif m 3 then 0 else c.dt, dtk := bif m 3 then 0 else c.dtk, setPend := bif m 3 then none else c.setPend
    setSkip := bif m 3 then false else c.setSkip, yMaster := bif m 3 then 0 else c.yMaster
    dSlices := bif m 3 then [] else c.dSlices, dShift := bif m 3 then [] else c.dShift
    dGroup := bif m 3 then 0 else c.dGroup, stepped := bif m 3 then 0 else c.stepped, loKhz := bif m 3 then 0 else c.loKhz
    dtLocked := bif m 3 then false else c.dtLocked, inReset := bif m 3 then false else c.inReset
    inRst := bif m 3 then [] else c.inRst, alive := bif m 3 then false else c.alive
    footed := bif m 3 then false else c.footed, vholdTold := bif m 3 then false else c.vholdTold
    courseHeld := bif m 3 then false else c.courseHeld, courseWaited := bif m 3 then false else c.courseWaited
    rsTried := bif m 3 then false else c.rsTried, rstReq := bif m 3 then none else c.rstReq
    rstOpen := bif m 3 then [] else c.rstOpen, supply := bif m 3 then {} else c.supply
    mtl := bif m 4 then {} else c.mtl, memMap := bif m 4 then {} else c.memMap, streams := bif m 4 then [] else c.streams
    tach := bif m 4 then [] else c.tach, estRun := bif m 4 then false else c.estRun
    cands := bif m 0x10 then [] else c.cands, pairs := bif m 0x10 then [] else c.pairs
    chans := bif m 0x11 then [] else c.chans
    glcs := bif m 0x12 then [] else c.glcs, tSum := bif m 0x12 then [] else c.tSum
    secInDay := bif m 0x12 then 0 else c.secInDay, secDone := bif m 0x12 then none else c.secDone
    ageBase := bif m 0x12 then 0 else c.ageBase, glcReady := bif m 0x12 then false else c.glcReady
    syns := bif m 0x13 then [] else c.syns
    rots := bif m 0x15 then [] else c.rots, pal := bif m 0x15 then {} else c.pal
    tim := bif m 0x16 then {} else c.tim
    lanes := bif m 0x20 then [] else c.lanes
    pte := bif m 0x21 then {} else c.pte
    queues := bif m 0x22 then [] else c.queues, links := bif m 0x22 then [] else c.links
    linkBad := bif m 0x22 then [] else c.linkBad
    memU := bif m 0x24 then {} else c.memU
    firnU := bif m 0x25 then {} else c.firnU, firnOut := bif m 0x25 then [] else c.firnOut
    memOut := bif m 0x25 then [] else c.memOut, memLost := bif m 0x25 then [] else c.memLost
    frost := bif m 0x26 then {} else c.frost
    inds := bif m 0x27 then [] else c.inds, exHeld := bif m 0x27 then [] else c.exHeld
    free := bif m 0x101 then 0 else c.free
    outbox := bif m 0x102 then [] else c.outbox, held := bif m 0x102 then [] else c.held
    shadow := bif m 0x103 then [] else c.shadow, staging := bif m 0x103 then [] else c.staging }

theorem cond_cond {α : Type} (p q : Bool) (x y : α) : (bif p then x else bif q then x else y) = bif p || q then x else y := by
  cases p <;> rfl

theorem Core.erase_erase (m n : Nat → Bool) (c : Core) : (c.erase n).erase m = c.erase (fun k => m k || n k) := by
  unfold Core.erase
  simp only [cond_cond]

/-- The hidden state of one block erased. -/
def Core.hide (k : Nat) (c : Core) : Core := c.erase (fun j => j == k)

theorem Core.hide_comm (j k : Nat) (c : Core) : (c.hide j).hide k = (c.hide k).hide j := by
  simp only [Core.hide, Core.erase_erase, Bool.or_comm]

theorem Core.hide_idem (k : Nat) (c : Core) : (c.hide k).hide k = c.hide k := by
  simp only [Core.hide, Core.erase_erase, Bool.or_self]

/-- The entries of a register store that lie outside some blocks. -/
def regsOutside (b : List Nat) (m : AMap Nat) : AMap Nat := m.filter (fun e => !inBlocks b (e.1 / 32))

/-- The registers outside some blocks, and the hidden state without Firn's: what `Core.outside` begins with. -/
def Core.outsideRegs (b : List Nat) (c : Core) : Core :=
  { c with
    regs := regsOutside b c.regs, tvB := regsOutside b c.tvB, tvC := regsOutside b c.tvC, firnU := {}, firnOut := [],
    memOut := [], memLost := [] }

/-- The codes whose hidden state goes with their own block. -/
def hideCodes : List Nat :=
  [0x101, 0x102, 0x103, 2, 3, 4, 0x10, 0x11, 0x12, 0x13, 0x15, 0x16, 0x20, 0x21, 0x22, 0x24, 0x26, 0x27]

/-- The hidden state of block `k` erased where `k` is one of the blocks. -/
def Core.hideIn (b : List Nat) (c : Core) (k : Nat) : Core := if b.contains k then c.hide k else c

/-- The host link's goes with its own block or with that of the queues. -/
def Core.hideHost (b : List Nat) (c : Core) : Core := if b.contains 1 || b.contains 0x22 then c.hide 1 else c

theorem Core.outside_eq (b : List Nat) (c : Core) :
    c.outside b = hideCodes.foldl (Core.hideIn b) ((c.outsideRegs b).hideHost b) := rfl

theorem Core.hideIn_hide (b : List Nat) (k j : Nat) (c : Core) : (c.hide k).hideIn b j = (c.hideIn b j).hide k := by
  unfold Core.hideIn
  split
  · exact Core.hide_comm k j c
  · rfl

theorem Core.foldl_hideIn_hide {b : List Nat} {k : Nat} (hb : k ∈ b) (l : List Nat) (hk : k ∈ l) (c : Core) :
    l.foldl (Core.hideIn b) (c.hide k) = l.foldl (Core.hideIn b) c := by
  induction l generalizing c with
  | nil => cases hk
  | cons j r ih =>
    simp only [List.foldl_cons]
    by_cases hj : j = k
    · subst hj
      have hj : b.contains j = true := by simpa using hb
      unfold Core.hideIn
      rw [if_pos hj, if_pos hj, Core.hide_idem]
    · rw [Core.hideIn_hide]
      exact ih (by simpa [Ne.symm hj] using hk) _

theorem Core.hideHost_hide (b : List Nat) (k : Nat) (c : Core) : (c.hide k).hideHost b = (c.hideHost b).hide k := by
  unfold Core.hideHost
  split
  · exact Core.hide_comm k 1 c
  · rfl

theorem Core.outsideRegs_hide (b : List Nat) (k : Nat) (c : Core) : (c.hide k).outsideRegs b = (c.outsideRegs b).hide k := by
  simp only [Core.outsideRegs, Core.hide, Core.erase, Bool.cond_self]

/-- The hidden state of one of the blocks does not matter outside them. -/
theorem Core.outside_hide {b : List Nat} {k : Nat} (hb : k ∈ b) (hk : k ∈ hideCodes) (c : Core) :
    (c.hide k).outside b = c.outside b := by
  rw [Core.outside_eq, Core.outside_eq, Core.outsideRegs_hide, Core.hideHost_hide]
  exact Core.foldl_hideIn_hide hb hideCodes hk _

/-- Nor does Firn's, ever. -/
theorem Core.outside_hideFirn (b : List Nat) (c : Core) : (c.hide 0x25).outside b = c.outside b := by
  have firn : (c.hide 0x25).outsideRegs b = c.outsideRegs b := rfl
  rw [Core.outside_eq, Core.outside_eq, firn]

/-- Nor does the host link's where the link or the queues are among them. -/
theorem Core.outside_hideHost {b : List Nat} (hb : 1 ∈ b ∨ 0x22 ∈ b) (c : Core) : (c.hide 1).outside b = c.outside b := by
  rw [Core.outside_eq, Core.outside_eq, Core.outsideRegs_hide, Core.hideHost_hide]
  have hp : (b.contains 1 || b.contains 0x22) = true := by simpa using hb
  unfold Core.hideHost
  rw [if_pos hp, Core.hide_idem]

/-! ## Registers -/

theorem inBlocks_of_nil {b : List Nat} {a : Nat} (h : inBlocks [] a = true) : inBlocks b a = true := by
  unfold inBlocks at h ⊢
  simp only [List.contains_nil, Bool.false_or] at h
  simp only [Bool.or_assoc] at h ⊢
  rw [h, Bool.or_true]

theorem regsOutside_ins {b : List Nat} {k : Nat} (h : inBlocks b (k / 32) = true) (m : AMap Nat) (v : Nat) :
    regsOutside b (m.ins k v) = regsOutside b m := by
  unfold regsOutside
  induction m with
  | nil => simp [AMap.ins, h]
  | cons e r ih =>
    unfold AMap.ins
    split
    · rw [List.filter_cons, List.filter_cons, ih]
    · split
      · next hk => simp [h, hk]
      · simp [h]

/-- A register inside the blocks does not matter outside them. -/
theorem regsOutside_set {b : List Nat} {k : Nat} (h : inBlocks b (k / 32) = true) (m : AMap Nat) (v : Nat) :
    regsOutside b (m.set 0 k v) = regsOutside b m := by
  unfold AMap.set
  split
  · unfold regsOutside
    rw [List.filter_filter]
    refine List.filter_congr fun e _ => ?_
    by_cases hk : e.1 = k <;> simp [hk, h]
  · exact regsOutside_ins h m v

theorem Fld.key_div (f : Fld) (i k : Nat) (hl : f.lo < 32) : f.key i k / 32 = f.addr i k := by
  unfold Fld.key
  omega

/-- The page of a field's block. -/
def Fld.page (f : Fld) : Nat := f.addr 0 0 / 65536

/-- `n` copies of a field of `m` words each lie on its block's page. -/
def Fld.spans (f : Fld) (n m : Nat) : Bool := decide (f.lo < 32) && decide (f.addr (n - 1) (m - 1) / 65536 = f.page)

theorem Fld.lo_of_spans {f : Fld} {n m : Nat} (hs : f.spans n m = true) : f.lo < 32 := by
  obtain ⟨h, -⟩ : f.lo < 32 ∧ f.addr (n - 1) (m - 1) / 65536 = f.page := by simpa [Fld.spans] using hs
  exact h

theorem Fld.addr_div_of_spans {f : Fld} {n m i k : Nat} (hs : f.spans n m = true) (hi : i < n) (hk : k < m) :
    f.addr i k / 65536 = f.page := by
  obtain ⟨-, h⟩ : f.lo < 32 ∧ f.addr (n - 1) (m - 1) / 65536 = f.page := by simpa [Fld.spans] using hs
  have hi' : i * f.stride ≤ (n - 1) * f.stride := Nat.mul_le_mul_right _ (by omega)
  have hk' : k * f.step ≤ (m - 1) * f.step := Nat.mul_le_mul_right _ (by omega)
  refine Nat.le_antisymm ?_ ?_
  · rw [← h]
    exact Nat.div_le_div_right (by unfold Fld.addr; omega)
  · exact Nat.div_le_div_right (by unfold Fld.addr; omega)

theorem Fld.inBlocks_of_spans {f : Fld} {n m i k : Nat} {b : List Nat} (hp : f.page ∈ b) (hs : f.spans n m = true) (hi : i < n)
    (hk : k < m) : inBlocks b (f.addr i k) = true := by
  unfold inBlocks
  rw [Fld.addr_div_of_spans hs hi hk]
  simp [hp]

theorem Core.outside_wr {b : List Nat} {f : Fld} {i k : Nat} (c : Core) (v : Nat) (hl : f.lo < 32)
    (h : inBlocks b (f.addr i k) = true) : (c.wr f v i k).outside b = c.outside b := by
  have regs : (c.wr f v i k).outsideRegs b = c.outsideRegs b := by
    unfold Core.outsideRegs Core.wr
    rw [regsOutside_set (by rwa [Fld.key_div f i k hl])]
  rw [Core.outside_eq, Core.outside_eq, regs]

/-! ## The relation -/

/-- From `c` to `d` everything outside the blocks `b` is kept. -/
def Core.Kept (b : List Nat) (c d : Core) : Prop := d.outside b = c.outside b

namespace Core.Kept

variable {b : List Nat} {c d e : Core}

protected theorem refl : Kept b c c := Eq.refl _

protected theorem trans (h : Kept b c d) (k : Kept b d e) : Kept b c e := Eq.trans k h

/-- An update of the hidden state of block `k`. -/
theorem hidden (k : Nat) (h : Kept b c d) (hb : k ∈ b) (he : e.hide k = d.hide k) (hk : hideCodes.contains k = true) :
    Kept b c e := by
  refine h.trans ?_
  unfold Kept
  have hk : k ∈ hideCodes := List.contains_iff_mem.1 hk
  rw [← Core.outside_hide hb hk e, he, Core.outside_hide hb hk d]

/-- An update of Firn's hidden state, or of what waits to land in a memory. -/
theorem firn (h : Kept b c d) (he : e.hide 0x25 = d.hide 0x25) : Kept b c e := by
  refine h.trans ?_
  unfold Kept
  rw [← Core.outside_hideFirn b e, he, Core.outside_hideFirn b d]

/-- An update of the host link's hidden state. -/
theorem host (h : Kept b c d) (hb : 1 ∈ b ∨ 0x22 ∈ b) (he : e.hide 1 = d.hide 1) : Kept b c e := by
  refine h.trans ?_
  unfold Kept
  rw [← Core.outside_hideHost hb e, he, Core.outside_hideHost hb d]

theorem ite {p : Prop} [Decidable p] (h : Kept b c d) (k : Kept b c e) : Kept b c (if p then d else e) := by
  split <;> assumption

theorem on {t : Bool} {f : Core → Core} (h : Kept b c d) (hf : ∀ {e}, Kept b c e → Kept b c (f e)) : Kept b c (d.on t f) :=
  ite (hf h) h

theorem each {α : Type} {l : List α} {f : Core → α → Core} (h : Kept b c d)
    (hf : ∀ {e x}, x ∈ l → Kept b c e → Kept b c (f e x)) : Kept b c (d.each l f) := by
  unfold Core.each
  induction l generalizing d with
  | nil => exact h
  | cons x r ih => exact ih (hf (List.mem_cons_self ..) h) fun hx => hf (List.mem_cons_of_mem _ hx)

theorem range {n : Nat} {f : Core → Nat → Core} (h : Kept b c d)
    (hf : ∀ {e i}, i < n → Kept b c e → Kept b c (f e i)) : Kept b c (d.each (List.range n) f) :=
  h.each fun hi => hf (List.mem_range.1 hi)

/-- A write to a register inside the blocks. -/
theorem reg {f : Fld} {v i k : Nat} (h : Kept b c d) (hl : f.lo < 32) (ha : inBlocks b (f.addr i k) = true) :
    Kept b c (d.wr f v i k) := h.trans (Core.outside_wr d v hl ha)

/-- A write to one of `m` words of one of `n` of a block's registers. -/
theorem wrIn {f : Fld} {n m v i k : Nat} (h : Kept b c d) (hp : f.page ∈ b) (hi : i < n) (hk : k < m)
    (hs : f.spans n m = true) : Kept b c (d.wr f v i k) :=
  h.reg (Fld.lo_of_spans hs) (Fld.inBlocks_of_spans hp hs hi hk)

/-- A write to one of `n`. -/
theorem wrAt {f : Fld} {n v i : Nat} (h : Kept b c d) (hp : f.page ∈ b) (hi : i < n) (hs : f.spans n 1 = true) :
    Kept b c (d.wr f v i) := h.wrIn hp hi Nat.one_pos hs

/-- A write to the only one. -/
theorem wr {f : Fld} {v : Nat} (h : Kept b c d) (hp : f.page ∈ b) (hs : f.spans 1 1 = true) : Kept b c (d.wr f v) :=
  h.wrAt hp Nat.one_pos hs

/-- A write to Firn's block, or to one of the words that hold a bit of any block's (R29). -/
theorem shared {f : Fld} {v i k : Nat} (h : Kept b c d) (hs : f.spans 1 1 = true) (ha : inBlocks [] (f.addr i k) = true) :
    Kept b c (d.wr f v i k) := h.reg (Fld.lo_of_spans hs) (inBlocks_of_nil ha)

/-- The same for a register of which there are `m` words. -/
theorem sharedIn {f : Fld} {m v k : Nat} (h : Kept b c d) (hk : k < m) (hp : f.page = 0x25) (hs : f.spans 1 m = true) :
    Kept b c (d.wr f v 0 k) := by
  refine h.reg (Fld.lo_of_spans hs) (inBlocks_of_nil ?_)
  have same := Fld.addr_div_of_spans hs Nat.one_pos hk
  rw [hp] at same
  simp [inBlocks, same]

/-- A write to every copy of a TV field (R364). -/
theorem wrTv {f : Fld} {v : Nat} (h : Kept b c d) (hp : f.page ∈ b) (hs : f.spans 1 1 = true) : Kept b c (d.wrTv f v) := by
  refine (h.wr hp hs (v := v)).trans ?_
  have hin : inBlocks b (f.key 0 0 / 32) = true := by
    rw [f.key_div 0 0 (Fld.lo_of_spans hs)]
    exact Fld.inBlocks_of_spans hp hs Nat.one_pos Nat.one_pos
  have regs : (d.wrTv f v).outsideRegs b = (d.wr f v).outsideRegs b := by
    unfold Core.outsideRegs Core.wrTv
    simp only [regsOutside_set hin]
    rfl
  unfold Kept
  rw [Core.outside_eq, Core.outside_eq, regs]

end Core.Kept

end Sys2Proof.Machine
end

section
/-! The end of a command (`Dev.act`): what holds of every operation's result that the store engine's work preserves, and what a
command keeps outside any blocks. -/

namespace Sys2Proof.Machine

open Sys2Proof

/-! ## What the store engine preserves -/

/-- The registers that the store engine writes. -/
def settleFlds : List Fld :=
  [FRN_EVENT.deferred, FRN_DEFER_CNT.count, GLC_STORE_STAT.deferred, MTL_STAT.store_deferred, FRN_EVENT.store_done,
   FRN_EVENT.key_done, FRN_STAT.state, FRN_STAT.waiting, FRN_STAT.page, FRN_STAT.dirty, STG_STAT.store_busy,
   GLC_STORE_STAT.dirty]

/-- Every single update that the store engine makes preserves `R`. -/
structure SettleInv (R : Core → Prop) : Prop where
  firnU : ∀ {c x}, R c → R { c with firnU := x }
  firnOut : ∀ {c x}, R c → R { c with firnOut := x }
  landed : ∀ {c x y}, R c → R { c with memOut := x, memLost := y }
  wr : ∀ {c f v}, f ∈ settleFlds → R c → R (c.wr f v)

namespace SettleInv

variable {R : Core → Prop} {d : Core}

theorem on (_ : SettleInv R) {t : Bool} {f : Core → Core} (h : R d) (hf : R (f d)) : R (d.on t f) := by
  unfold Core.on
  split
  · exact hf
  · exact h

theorem setPage (I : SettleInv R) {p : Nat} {x : Page} (h : R d) : R (d.setPage p x) := I.firnU h

theorem frontLand (I : SettleInv R) {d : Dev} (h : R d.core) : R d.frontLand.core := by
  unfold Dev.frontLand
  refine I.firnOut ?_
  generalize d.core.firnOut = l
  induction l generalizing d with
  | nil => exact h
  | cons x r ih =>
    rw [List.foldl_cons]
    refine ih ?_
    split
    · exact h
    · exact I.setPage h

theorem memLand (I : SettleInv R) {d : Dev} (h : R d.core) : R d.memLand.core :=
  I.landed (c := d.core) h

theorem storeTold (I : SettleInv R) {kind res : Nat} (h : R d) : R (d.storeTold kind res) := by
  unfold Core.storeTold
  split
  · exact I.wr (by decide) (I.firnU h)
  · exact h

theorem storeJudge (I : SettleInv R) {r : StoreReq} (h : R d) : R (d.storeJudge r) := by
  unfold Core.storeJudge
  extract_lets full poor c1 c2 idle
  have h1 : R c1 := I.wr (by decide) (I.wr (by decide) h)
  have h2 : R c2 := I.on h1 (I.wr (by decide) h1)
  split
  · exact I.storeTold h2
  · exact I.firnU h

theorem storeJudgeAll (I : SettleInv R) (h : R d) : R d.storeJudgeAll := by
  unfold Core.storeJudgeAll Core.each
  extract_lets l
  have h0 : R { d with firnU := { d.firnU with asked := [] } } := I.firnU h
  generalize ({ d with firnU := { d.firnU with asked := [] } } : Core) = e at h0
  induction l generalizing e with
  | nil => exact h0
  | cons x r ih => exact ih _ (I.storeJudge h0)

theorem tallyPump (I : SettleInv R) (h : R d) : R d.tallyPump := by
  unfold Core.tallyPump
  extract_lets u
  split
  · exact h
  · exact I.firnU h

theorem dirLand (I : SettleInv R) {d : Dev} {x : StoreRun} (h : R d.core) : R (d.dirLand x).core := by
  unfold Dev.dirLand
  split
  · exact h
  · split
    · exact h
    · exact I.frontLand (I.firnU (I.firnOut h))

theorem storeEnd (I : SettleInv R) {x : StoreRun} (h : R d) : R (d.storeEnd x) := by
  unfold Core.storeEnd
  extract_lets _ c1 c2 c3
  have h1 : R c1 := I.firnU h
  have h2 : R c2 := I.on h1 (I.wr (by decide) h1)
  have h3 : R c3 := I.on h2 (I.wr (by decide) h2)
  exact I.storeTold h3

theorem storePump (I : SettleInv R) {n : Nat} {d : Dev} (h : R d.core) : R (Dev.storePump n d).core := by
  induction n generalizing d with
  | zero => exact h
  | succ n ih =>
    unfold Dev.storePump
    split
    · split
      · exact h
      · exact ih (I.firnU h)
    · split
      · exact h
      split
      · exact ih (I.storeEnd h)
      dsimp only
      split
      · split
        · exact I.dirLand h
        · exact I.firnU (I.setPage (I.dirLand h))
      · exact ih (I.storeEnd (I.dirLand h))

theorem firnRegs (I : SettleInv R) (h : R d) : R d.firnRegs := by
  unfold Core.firnRegs
  extract_lets u tal st c1 c2 c3 c4 c5 p
  have h4 : R c4 := I.wr (by decide) (I.wr (by decide) (I.wr (by decide) (I.wr (by decide) h)))
  have h5 : R c5 := I.on h4 (I.wr (by decide) h4)
  exact I.on h5 (I.wr (by decide) h5)

/-- What each update preserves, the end of a command preserves. -/
theorem settle (I : SettleInv R) {d : Dev} (h : R d.core) : R d.settle.core := by
  unfold Dev.settle
  extract_lets d1 c1 d2
  have h1 : R d1.core := I.memLand (I.frontLand h)
  have h2 : R d2.core := I.storePump (I.tallyPump (I.storeJudgeAll h1))
  exact I.firnRegs h2

end SettleInv

/-! ### A register that it does not write, and the items -/

theorem settleInv_key {k v : Nat} (hk : ∀ f ∈ settleFlds, f.key 0 0 ≠ k) : SettleInv fun c => c.regs.get 0 k = v where
  firnU := id
  firnOut := id
  landed := id
  wr := fun hf h => (AMap.get_set_ne _ _ _ (Ne.symm (hk _ hf))).trans h

theorem settleInv_outbox {l : List Item} : SettleInv fun c => c.outbox = l where
  firnU := id
  firnOut := id
  landed := id
  wr := fun _ => id

@[simp] theorem Core.noticeEval_regs (c : Core) (old : List Nat) : (c.noticeEval old).regs = c.regs := by
  unfold Core.noticeEval
  dsimp only
  split
  · rfl
  · split <;> rfl

@[simp] theorem Core.noticeEval_outbox (c : Core) (old : List Nat) : (c.noticeEval old).outbox = c.outbox := by
  unfold Core.noticeEval
  dsimp only
  split
  · rfl
  · split <;> rfl

/-- A register that the store engine does not write reads after a command what the operation left in it; `Dev.act_rd` says so of
a whole word. -/
theorem Dev.act_rd_key (f : Dev → Dev) (d : Dev) (g : Fld) (i k : Nat) (hk : ∀ s ∈ settleFlds, s.key 0 0 ≠ g.key i k) :
    (d.act f).core.rd g i k = (f d).core.rd g i k := by
  have kept : (f d).settle.core.regs.get 0 (g.key i k) = (f d).core.regs.get 0 (g.key i k) := (settleInv_key hk).settle rfl
  have acted : (d.act f).core.regs = (f d).settle.core.regs := by
    unfold Dev.act
    rw [Core.noticeEval_regs]
    rfl
  unfold Core.rd
  rw [acted, kept]

/-- The items that a command leaves are those of the operation, the new ones in the order of their producers. -/
theorem Dev.act_outbox (f : Dev → Dev) (d : Dev) :
    (d.act f).core.outbox = ((f d).core.outOrder d.core.outbox.length).outbox := by
  have kept : (f d).settle.core.outbox = (f d).core.outbox := settleInv_outbox.settle rfl
  unfold Dev.act
  rw [Core.noticeEval_outbox]
  unfold Core.outOrder
  rw [kept]

namespace Core.Kept

variable {b : List Nat} {c d : Core}

theorem firnU {x : FirnU} (h : Kept b c d) : Kept b c { d with firnU := x } := h.firn rfl
theorem setPage {p : Nat} {x : Page} (h : Kept b c d) : Kept b c (d.setPage p x) := h.firn rfl
theorem setTally {k : Nat} {x : Tally} (h : Kept b c d) : Kept b c (d.setTally k x) := h.firn rfl
theorem frontWrite {a : Nat} {l : List Byte} (h : Kept b c d) : Kept b c (d.frontWrite a l) := h.firn rfl
theorem storeAsk {kind first last : Nat} (h : Kept b c d) : Kept b c (d.storeAsk kind first last) := h.firn rfl

theorem settleInv : SettleInv (Kept b c) where
  firnU := fun h => h.firn rfl
  firnOut := fun h => h.firn rfl
  landed := fun h => h.firn rfl
  wr := fun {_ f _} hf h => by
    have inside : ∀ f ∈ settleFlds, f.spans 1 1 = true ∧ inBlocks [] (f.addr 0 0) = true := by decide
    obtain ⟨spans, word⟩ := inside f hf
    exact h.shared spans word

/-! ## What is read the same -/

theorem outbox_eq (h : Kept b c d) (hb : 0x102 ∉ b) : d.outbox = c.outbox := by
  have shown (c : Core) : (c.outside b).outbox = c.outbox := by
    simp only [Core.outside, apply_ite Core.outbox, ite_self, List.contains_iff_mem, if_neg hb]
  rw [← shown d, h, shown c]

theorem regs_eq (h : Kept b c d) : regsOutside b d.regs = regsOutside b c.regs := by
  have shown (c : Core) : (c.outside b).regs = regsOutside b c.regs := by
    simp only [Core.outside, apply_ite Core.regs, ite_self, regsOutside]
  rw [← shown d, h, shown c]

end Core.Kept

theorem get_regsOutside {b : List Nat} {k : Nat} (hk : inBlocks b (k / 32) = false) (m : AMap Nat) :
    (regsOutside b m).get 0 k = m.get 0 k := by
  induction m with
  | nil => rfl
  | cons e r ih =>
    have cons : regsOutside b (e :: r) = if inBlocks b (e.1 / 32) then regsOutside b r else e :: regsOutside b r := by
      unfold regsOutside
      rw [List.filter_cons]
      cases inBlocks b (e.1 / 32) <;> rfl
    rw [cons]
    by_cases he : e.1 = k
    · rw [he, hk]
      simp [AMap.get, he]
    · split
      · rw [ih]
        simp [AMap.get, he]
      · simp [AMap.get, he, ih]

/-- A register outside the blocks. -/
theorem Core.Kept.rd_eq {b : List Nat} {c d : Core} (h : Core.Kept b c d) {f : Fld} {i k : Nat} (hl : f.lo < 32)
    (ha : inBlocks b (f.addr i k) = false) : d.rd f i k = c.rd f i k := by
  have hk : inBlocks b (f.key i k / 32) = false := by rwa [f.key_div i k hl]
  unfold Core.rd
  rw [← get_regsOutside hk d.regs, h.regs_eq, get_regsOutside hk]

/-! ## The end of a command -/

theorem and_two_pow_sub_self (n v : Nat) : v &&& (2 ^ n - 1 - v) = 0 := by
  by_cases hv : v < 2 ^ n
  · rw [Nat.sub_sub, Nat.add_comm 1 v]
    refine Nat.eq_of_testBit_eq fun i => ?_
    rw [Nat.testBit_and, Nat.testBit_two_pow_sub_succ hv, Nat.zero_testBit]
    cases v.testBit i <;> simp
  · rw [show 2 ^ n - 1 - v = 0 by omega, Nat.and_zero]

/-- Where no notice word has changed, none has risen. -/
theorem Core.noticeEval_of_eq {c : Core} {old : List Nat} (h : c.noticeWords = old) : c.noticeEval old = c := by
  subst h
  unfold Core.noticeEval
  simp only [and_two_pow_sub_self]
  simp

theorem Core.outOrder_length (c : Core) : c.outOrder c.outbox.length = c := by
  unfold Core.outOrder
  simp

namespace Core.Kept

variable {b : List Nat} {c d : Core}

theorem outOrder (h : Kept b c d) : Kept b c (d.outOrder c.outbox.length) := by
  by_cases hb : 0x102 ∈ b
  · exact h.hidden 0x102 hb rfl rfl
  · rw [← h.outbox_eq hb, Core.outOrder_length]
    exact h

theorem noticeEval (h : Kept b c d) : Kept b c (d.noticeEval c.noticeWords) := by
  by_cases hb : 1 ∈ b ∨ 0x22 ∈ b
  · unfold Core.noticeEval
    exact ite h (ite (h.host hb rfl) (h.host hb rfl))
  · obtain ⟨-, h22⟩ := not_or.1 hb
    have outside (k : Nat) (hk : k < 4) : inBlocks b (QMG_NOTICE.pend.addr 0 k) = false := by
      have page : QMG_NOTICE.pend.addr 0 k / 65536 = 0x22 := by interval_cases k <;> rfl
      have word : inBlocks [] (QMG_NOTICE.pend.addr 0 k) = false := by interval_cases k <;> rfl
      unfold inBlocks at word ⊢
      rw [page] at word ⊢
      simpa [h22] using word
    have words : d.noticeWords = c.noticeWords :=
      List.map_congr_left fun k hk => h.rd_eq (by decide) (outside k (List.mem_range.1 hk))
    rw [Core.noticeEval_of_eq words]
    exact h

/-- What an operation keeps, its command keeps. -/
theorem act {f : Dev → Dev} {d : Dev} (h : Kept b d.core (f d).core) : Kept b d.core (d.act f).core := by
  have settled : Kept b d.core (f d).settle.core := settleInv.settle h
  exact settled.outOrder.noticeEval

end Core.Kept

end Sys2Proof.Machine
end

section
/-! What the operations that several blocks use keep (`Core.Kept`): a unit's hidden state, an item, a rejected write. -/

namespace Sys2Proof.Machine

open Sys2Proof

namespace Core.Kept

variable {b : List Nat} {c d : Core}

/-! ## A unit's hidden state -/

theorem setMtl {u : MtlU} (h : Kept b c d) (b4 : 4 ∈ b) : Kept b c (d.setMtl u) := h.hidden 4 b4 rfl rfl
theorem setCand {i : Nat} {x : Cand} (h : Kept b c d) (b10 : 0x10 ∈ b) : Kept b c (d.setCand i x) := h.hidden 0x10 b10 rfl rfl
theorem setChan {i : Nat} {x : Chan} (h : Kept b c d) (b11 : 0x11 ∈ b) : Kept b c (d.setChan i x) := h.hidden 0x11 b11 rfl rfl
theorem setGlc {i : Nat} {x : Glc} (h : Kept b c d) (b12 : 0x12 ∈ b) : Kept b c (d.setGlc i x) := h.hidden 0x12 b12 rfl rfl
theorem setSyn {n : Nat} {x : Syn} (h : Kept b c d) (b13 : 0x13 ∈ b) : Kept b c (d.setSyn n x) := h.hidden 0x13 b13 rfl rfl
theorem setRot {i : Nat} {x : Rot} (h : Kept b c d) (b15 : 0x15 ∈ b) : Kept b c (d.setRot i x) := h.hidden 0x15 b15 rfl rfl
theorem setPa {a : Nat} {x : Pa} (h : Kept b c d) (b15 : 0x15 ∈ b) : Kept b c (d.setPa a x) := h.hidden 0x15 b15 rfl rfl
theorem setTim {u : TimU} (h : Kept b c d) (b16 : 0x16 ∈ b) : Kept b c (d.setTim u) := h.hidden 0x16 b16 rfl rfl
theorem setLane {n : Nat} {x : LaneU} (h : Kept b c d) (b20 : 0x20 ∈ b) : Kept b c (d.setLane n x) := h.hidden 0x20 b20 rfl rfl
theorem setPport {p : Nat} {x : PortU} (h : Kept b c d) (b21 : 0x21 ∈ b) : Kept b c (d.setPport p x) :=
  h.hidden 0x21 b21 rfl rfl
theorem setSv {s : Nat} {x : SvU} (h : Kept b c d) (b21 : 0x21 ∈ b) : Kept b c (d.setSv s x) := h.hidden 0x21 b21 rfl rfl
theorem setQueue {q : Nat} {x : QueueU} (h : Kept b c d) (b22 : 0x22 ∈ b) : Kept b c (d.setQueue q x) :=
  h.hidden 0x22 b22 rfl rfl
theorem setLink {k : Nat} {x : Link} (h : Kept b c d) (b22 : 0x22 ∈ b) : Kept b c (d.setLink k x) := h.hidden 0x22 b22 rfl rfl
theorem setMemU {u : MemU} (h : Kept b c d) (b24 : 0x24 ∈ b) : Kept b c (d.setMemU u) := h.hidden 0x24 b24 rfl rfl
theorem fresh (h : Kept b c d) (b101 : 0x101 ∈ b) : Kept b c d.fresh.2 := h.hidden 0x101 b101 rfl rfl

theorem setPort {p : Nat} {x : Port} (h : Kept b c d) (b1 : 1 ∈ b) : Kept b c (d.setPort p x) := h.host (.inl b1) rfl

/-! ## The hidden fields of a block -/

theorem alive {x : Bool} (h : Kept b c d) (b3 : 3 ∈ b) : Kept b c { d with alive := x } := h.hidden 3 b3 rfl rfl
theorem rstReq {x : Option (Nat × Nat)} (h : Kept b c d) (b3 : 3 ∈ b) : Kept b c { d with rstReq := x } := h.hidden 3 b3 rfl rfl
theorem inReset {x : Bool} (h : Kept b c d) (b3 : 3 ∈ b) : Kept b c { d with inReset := x } := h.hidden 3 b3 rfl rfl
theorem setSkip {x : Bool} (h : Kept b c d) (b3 : 3 ∈ b) : Kept b c { d with setSkip := x } := h.hidden 3 b3 rfl rfl
theorem setPend {x : Option Nat} {y : Bool} (h : Kept b c d) (b3 : 3 ∈ b) : Kept b c { d with setPend := x, setSkip := y } :=
  h.hidden 3 b3 rfl rfl
theorem second {x : Nat} {l : List Int} {m : List (Int × Int)} {g : Nat} (h : Kept b c d) (b3 : 3 ∈ b) :
    Kept b c { d with dt := x, dSlices := l, dShift := m, dGroup := g } :=
  h.hidden 3 b3 rfl rfl
theorem label {x : Option Nat} {t : Nat} (h : Kept b c d) (b3 : 3 ∈ b) : Kept b c { d with setPend := x, dt := t } :=
  h.hidden 3 b3 rfl rfl
theorem dShift {m : List (Int × Int)} (h : Kept b c d) (b3 : 3 ∈ b) : Kept b c { d with dShift := m } := h.hidden 3 b3 rfl rfl
theorem secDone {x : Option (Nat × Rat)} (h : Kept b c d) (b12 : 0x12 ∈ b) : Kept b c { d with secDone := x } :=
  h.hidden 0x12 b12 rfl rfl
theorem secInDay {x : Nat} (h : Kept b c d) (b12 : 0x12 ∈ b) : Kept b c { d with secInDay := x } := h.hidden 0x12 b12 rfl rfl
theorem tSum {x : AMap (Int × Nat)} (h : Kept b c d) (b12 : 0x12 ∈ b) : Kept b c { d with tSum := x } :=
  h.hidden 0x12 b12 rfl rfl
theorem pal {x : PalU} (h : Kept b c d) (b15 : 0x15 ∈ b) : Kept b c { d with pal := x } := h.hidden 0x15 b15 rfl rfl
theorem lanes {x : AMap LaneU} (h : Kept b c d) (b20 : 0x20 ∈ b) : Kept b c { d with lanes := x } := h.hidden 0x20 b20 rfl rfl
theorem pte {x : PteU} (h : Kept b c d) (b21 : 0x21 ∈ b) : Kept b c { d with pte := x } := h.hidden 0x21 b21 rfl rfl
theorem frost {x : FrostU} (h : Kept b c d) (b26 : 0x26 ∈ b) : Kept b c { d with frost := x } := h.hidden 0x26 b26 rfl rfl
theorem inds {x : AMap IndU} (h : Kept b c d) (b27 : 0x27 ∈ b) : Kept b c { d with inds := x } := h.hidden 0x27 b27 rfl rfl
theorem exHeld {x : List BusAcc} (h : Kept b c d) (b27 : 0x27 ∈ b) : Kept b c { d with exHeld := x } :=
  h.hidden 0x27 b27 rfl rfl
theorem outbox {x : List Item} (h : Kept b c d) (b102 : 0x102 ∈ b) : Kept b c { d with outbox := x } :=
  h.hidden 0x102 b102 rfl rfl
theorem held {x : List Item} (h : Kept b c d) (b102 : 0x102 ∈ b) : Kept b c { d with held := x } := h.hidden 0x102 b102 rfl rfl

theorem dtAndLags {t k : Nat} {x : AMap (Int × Nat)} {g : AMap Glc} (h : Kept b c d) (b3 : 3 ∈ b) (b12 : 0x12 ∈ b) :
    Kept b c { d with dt := t, dtk := k, tSum := x, glcs := g } :=
  (h.hidden 3 b3 rfl rfl (e := { d with dt := t, dtk := k })).hidden 0x12 b12 rfl rfl

/-! ## Items -/

theorem holdItem {q : Nat} {it : Item} (h : Kept b c d) (b102 : 0x102 ∈ b) : Kept b c (d.holdItem q it) := by
  unfold Core.holdItem
  exact ite (ite (h.shared rfl rfl) (h.held b102)) (ite (ite (h.shared rfl rfl) (h.held b102)) (ite (h.held b102) (ite
    (h.shared rfl rfl) (ite (h.shared rfl rfl) (h.held b102)))))

theorem emit {rt u a : Nat} {l : List Nat} (h : Kept b c d) (b102 : 0x102 ∈ b) : Kept b c (d.emit rt u a l) := by
  unfold Core.emit
  split
  · exact h
  · exact ite (h.outbox b102) (h.holdItem b102)

/-! ## Registers in pairs, and rejected writes -/

theorem wrPair {lo hi : Fld} {z : Int} {i n : Nat} (h : Kept b c d) (hl : lo.page ∈ b) (hh : hi.page ∈ b) (hn : i < n)
    (sl : lo.spans n 1 = true) (sh : hi.spans n 1 = true) : Kept b c (d.wrPair lo hi z i) := by
  unfold Core.wrPair
  refine wrAt ?_ hh hn sh
  refine wrAt ?_ hl hn sl
  assumption

theorem reject {valid count word : Fld} {w i n : Nat} (h : Kept b c d) (hv : valid.page ∈ b) (hc : count.page ∈ b)
    (hw : word.page ∈ b) (hi : i < n) (sv : valid.spans n 1 = true) (sc : count.spans n 1 = true) (sw : word.spans n 1 = true) :
    Kept b c (d.reject valid count word w i) := by
  unfold Core.reject
  refine wrAt (wrAt ?_ hv hi sv) hc hi sc
  split
  · refine wrAt ?_ hw hi sw
    assumption
  · assumption

end Core.Kept

end Sys2Proof.Machine
end

section
/-! What the operations of device time, its second and the Frost clock keep (`Core.Kept`). -/

namespace Sys2Proof.Machine

open Sys2Proof

theorem Part.nCh_le (p : Part) : p.nCh ≤ 12 := by
  unfold Part.nCh
  split <;> decide

namespace Core.Kept

variable {b : List Nat} {c d : Core}

/-! ## The labels move (R39) -/

theorem glcSetOrigin {i v : Nat} (h : Kept b c d) (b12 : 0x12 ∈ b) (hi : i < 12) : Kept b c (d.glcSetOrigin i v) := by
  unfold Core.glcSetOrigin
  exact wrAt (h.wrAt b12 hi rfl) b12 hi rfl

theorem secShift {n : Int} (h : Kept b c d) (b10 : 0x10 ∈ b) (b12 : 0x12 ∈ b) (b15 : 0x15 ∈ b) (b20 : 0x20 ∈ b)
    (b21 : 0x21 ∈ b) : Kept b c (d.secShift n) := by
  unfold Core.secShift
  extract_lets pu mv c1 c2 c3 _ c4 _ c5 c6 c7
  have h1 : Kept b c c1 := h.each fun _ h => h.setCand b10
  have h2 : Kept b c c2 := h1.each fun _ h => h.setRot b15
  have h3 : Kept b c c3 := h2.each fun _ h => h.setPa b15
  have h4 : Kept b c c4 := h3.pal b15
  have h5 : Kept b c c5 := h4.pte b21
  have h6 : Kept b c c6 := h5.lanes b20
  have h7 : Kept b c c7 := h6.secDone b12
  exact h7.range fun hi h => ite h ((h.glcSetOrigin b12 hi).setGlc b12)

/-! ## The steps that are left of a slice (R123) -/

theorem candRegs {i : Nat} (h : Kept b c d) (b10 : 0x10 ∈ b) (hi : i < 24) : Kept b c (d.candRegs i) := by
  unfold Core.candRegs
  exact wrAt (wrAt (wrPair (h.wrPair b10 b10 hi rfl rfl) b10 b10 hi rfl rfl) b10 hi rfl) b10 hi rfl

theorem estShift {x : Rat} (h : Kept b c d) (b10 : 0x10 ∈ b) : Kept b c (d.estShift x) := by
  unfold Core.estShift
  exact h.range fun hi h => ite h (ite (h.setCand b10) ((h.setCand b10).candRegs b10 hi))

theorem memberShift {s : Int} (h : Kept b c d) (b12 : 0x12 ∈ b) : Kept b c (d.memberShift s) := h.each fun _ h => h.setGlc b12

theorem psiShift {s : Int} (h : Kept b c d) (b11 : 0x11 ∈ b) : Kept b c (d.psiShift s) :=
  h.each fun _ h => ite h (h.setChan b11)

theorem dtShift {ps es : Int} (h : Kept b c d) (b10 : 0x10 ∈ b) (b11 : 0x11 ∈ b) (b12 : 0x12 ∈ b) :
    Kept b c (d.dtShift ps es) := by
  unfold Core.dtShift
  exact (h.on fun h => h.psiShift b11).on fun h => (h.estShift b10).memberShift b12

/-! ## A second passes -/

theorem qlAge (h : Kept b c d) (b10 : 0x10 ∈ b) : Kept b c d.qlAge := h.range fun hi h => h.wrAt b10 hi rfl

theorem candMiss {i t : Nat} (h : Kept b c d) (b10 : 0x10 ∈ b) (hi : i < 24) : Kept b c (d.candMiss i t) := by
  unfold Core.candMiss
  exact ite h (ite h (setCand (h.wrAt b10 hi rfl) b10))

theorem missAll {t : Nat} (h : Kept b c d) (b10 : 0x10 ∈ b) : Kept b c (d.missAll t) := h.range fun hi h => h.candMiss b10 hi

theorem ageRegs (h : Kept b c d) (b12 : 0x12 ∈ b) : Kept b c d.ageRegs := by
  unfold Core.ageRegs
  exact wr (h.wr b12 rfl) b12 rfl

theorem glcPredAt {i : Nat} {s : Nat × Rat} (h : Kept b c d) (b12 : 0x12 ∈ b) (hi : i < 12) : Kept b c (d.glcPredAt i s) :=
  h.wrPair b12 b12 hi rfl rfl

theorem glcTempReg {i : Nat} (h : Kept b c d) (b12 : 0x12 ∈ b) (hi : i < 12) : Kept b c (d.glcTempReg i) := by
  unfold Core.glcTempReg
  exact wrAt (h.wrAt b12 hi rfl) b12 hi rfl

theorem glcTempOk {i : Nat} (h : Kept b c d) (b12 : 0x12 ∈ b) (hi : i < 12) : Kept b c (d.glcTempOk i) := by
  unfold Core.glcTempOk
  exact ite h (ite (h.wrAt b12 hi rfl) (ite (h.wrAt b12 hi rfl) h))

theorem tSecond {i : Nat} (h : Kept b c d) (b12 : 0x12 ∈ b) (b101 : 0x101 ∈ b) (hi : i < 12) : Kept b c (d.tSecond i) := by
  unfold Core.tSecond
  extract_lets g tau v
  split
  · exact ((h.setGlc b12).glcTempReg b12 hi).glcTempOk b12 hi
  · extract_lets r c1
    have drawn : Kept b c r.2 := by
      unfold r
      split
      · exact h
      · split
        · exact h
        · split
          · exact h.fresh b101
          · exact h
    exact ((drawn.setGlc b12).glcTempReg b12 hi).glcTempOk b12 hi

theorem glcSecond {i : Nat} (h : Kept b c d) (b11 : 0x11 ∈ b) (b12 : 0x12 ∈ b) (b101 : 0x101 ∈ b) (hi : i < 12) :
    Kept b c (d.glcSecond i) := by
  unfold Core.glcSecond
  extract_lets c1 g st live _ c3 c4 c5 x p
  have h3 : Kept b c c3 := (h.tSecond b12 b101 hi).setGlc b12
  have h4 : Kept b c c4 := h3.glcPredAt b12 hi
  exact ite (setChan (h4.wrAt b12 hi rfl) b11) h4

theorem glcRollover (h : Kept b c d) (b11 : 0x11 ∈ b) (b12 : 0x12 ∈ b) (b101 : 0x101 ∈ b) : Kept b c d.glcRollover := by
  unfold Core.glcRollover
  extract_lets c1 c2 c3
  have h1 : Kept b c c1 := h.secDone b12
  have h2 : Kept b c c2 := ite (h1.secInDay b12) h1
  have h3 : Kept b c c3 := h2.range fun hi h => h.glcSecond b11 b12 b101 (Nat.lt_of_lt_of_le hi (Part.nCh_le _))
  exact h3.tSum b12

/-- What a second brings but its label. -/
theorem secondRest {t : Nat} (h : Kept b c d) (b10 : 0x10 ∈ b) (b11 : 0x11 ∈ b) (b12 : 0x12 ∈ b) (b101 : 0x101 ∈ b) :
    Kept b c ((d.glcRollover.qlAge.missAll t).ageRegs) :=
  (((h.glcRollover b11 b12 b101).qlAge b10).missAll b10).ageRegs b12

theorem rolledOver (h : Kept b c d) (b3 : 3 ∈ b) (b10 : 0x10 ∈ b) (b11 : 0x11 ∈ b) (b12 : 0x12 ∈ b) (b15 : 0x15 ∈ b)
    (b20 : 0x20 ∈ b) (b21 : 0x21 ∈ b) (b101 : 0x101 ∈ b) : Kept b c d.rolledOver := by
  unfold Core.rolledOver
  refine secondRest ?_ b10 b11 b12 b101
  split
  · exact h
  · split
    · exact h.setSkip b3
    · exact secShift ((h.label b3).wr b3 rfl) b10 b12 b15 b20 b21

theorem nanosecondRolloverStep (h : Kept b c d) (b3 : 3 ∈ b) (b10 : 0x10 ∈ b) (b11 : 0x11 ∈ b) (b12 : 0x12 ∈ b)
    (b15 : 0x15 ∈ b) (b20 : 0x20 ∈ b) (b21 : 0x21 ∈ b) (b101 : 0x101 ∈ b) : Kept b c (Machine.nanosecondRolloverStep d) := by
  unfold Machine.nanosecondRolloverStep Core.dtShiftRest
  exact ite h ((((h.dtShift b10 b11 b12).dShift b3).second b3).rolledOver b3 b10 b11 b12 b15 b20 b21 b101)

theorem wholeSecondChangeStep (h : Kept b c d) (b3 : 3 ∈ b) (b10 : 0x10 ∈ b) (b11 : 0x11 ∈ b) (b12 : 0x12 ∈ b)
    (b15 : 0x15 ∈ b) (b20 : 0x20 ∈ b) (b21 : 0x21 ∈ b) (b101 : 0x101 ∈ b) : Kept b c (Machine.wholeSecondChangeStep d) := by
  unfold Machine.wholeSecondChangeStep
  exact ite h ((h.setSkip b3).nanosecondRolloverStep b3 b10 b11 b12 b15 b20 b21 b101)

/-! ## Device time set and loaded -/

theorem heldOr {x : BusAcc} {f : Core → Core} (h : Kept b c d) (b27 : 0x27 ∈ b) (hf : Kept b c (f d)) :
    Kept b c (d.heldOr x f) := by
  exact ite (h.exHeld b27) hf

theorem dtSetCommitStep {ex : Fin 4} {hi : BitVec 16} {r : Bool} (h : Kept b c d) (b3 : 3 ∈ b) (b27 : 0x27 ∈ b) :
    Kept b c (Machine.dtSetCommitStep ex hi r d) := by
  unfold Machine.dtSetCommitStep Core.dtSetCommit
  refine h.heldOr b27 ?_
  exact setPend (wr (wr (h.wr b3 rfl) b3 rfl) b3 rfl) b3

theorem dtSource (h : Kept b c d) (b3 : 3 ∈ b) (b12 : 0x12 ∈ b) : Kept b c d.dtSource := by
  unfold Core.dtSource
  exact ite h (on (h.wr b3 rfl) fun h => h.each fun _ h => h.setGlc b12)

theorem frostMirror (h : Kept b c d) (b3 : 3 ∈ b) (b26 : 0x26 ∈ b) : Kept b c d.frostMirror := by
  unfold Core.frostMirror
  extract_lets s c1 c2 c3 c4 c5 c6 lv c7 c8 c9 c10 c11
  have h6 : Kept b c c6 := wr (wr (wr (wr (wr (h.wr b26 rfl) b26 rfl) b26 rfl) b26 rfl) b26 rfl) b26 rfl
  have h11 : Kept b c c11 := wr (wr (wr (wr (h6.wr b26 rfl) b3 rfl) b26 rfl) b26 rfl) b26 rfl
  exact h11.wr b26 rfl

theorem dtLoad {sub : Nat} (h : Kept b c d) (b3 : 3 ∈ b) (b12 : 0x12 ∈ b) (b26 : 0x26 ∈ b) (b10000 : 0x10000 ∈ b) :
    Kept b c (d.dtLoad sub) := by
  unfold Core.dtLoad
  extract_lets c1 c2
  have h1 : Kept b c c1 := frostMirror (h.wr b10000 rfl) b3 b26
  have h2 : Kept b c c2 := h1.dtAndLags b3 b12
  exact dtSource (h2.wr b3 rfl) b3 b12

theorem deviceTimeLoadStep {sub : BitVec 15} (h : Kept b c d) (b3 : 3 ∈ b) (b12 : 0x12 ∈ b) (b26 : 0x26 ∈ b)
    (b10000 : 0x10000 ∈ b) : Kept b c (Machine.deviceTimeLoadStep sub d) := by
  unfold Machine.deviceTimeLoadStep
  exact ite h ((h.dtLoad b3 b12 b26 b10000).wr b3 rfl)

end Core.Kept

end Sys2Proof.Machine
end

section
/-! What the operations of the lanes' links, the stores of the Glacier block, the rotors, aligners and synthesisers keep
(`Core.Kept`). -/

namespace Sys2Proof.Machine

open Sys2Proof

theorem Part.nOut_le (p : Part) : p.nOut ≤ 24 := by
  unfold Part.nOut
  split <;> decide

namespace Core.Kept

variable {b : List Nat} {c d : Core}

/-! ## Credit links (R42, R47) -/

theorem insPump {k n : Nat} (h : Kept b c d) (b20 : 0x20 ∈ b) (b22 : 0x22 ∈ b) : Kept b c (Core.insPump k n d) := by
  induction k generalizing d with
  | zero => exact h
  | succ k ih =>
    unfold Core.insPump
    extract_lets x q
    split
    · exact h
    · exact ite h (ite (ih ((h.setLink b22).setLane b20)) ((h.setLink b22).setLane b20))

theorem insGo {n : Nat} (h : Kept b c d) (b20 : 0x20 ∈ b) (b22 : 0x22 ∈ b) : Kept b c (d.insGo n) := h.insPump b20 b22

theorem send {n : Nat} {dest : Dest} {l : List Byte} {e : Bool} {t : Nat} (h : Kept b c d) (b20 : 0x20 ∈ b) (b22 : 0x22 ∈ b) :
    Kept b c (d.send n dest l e t) := by
  unfold Core.send
  exact ite h ((h.setLane b20).insGo b20 b22)

theorem linkCounterResetStep {k : Fin 256} (h : Kept b c d) (b20 : 0x20 ∈ b) (b22 : 0x22 ∈ b) :
    Kept b c (Machine.linkCounterResetStep k d) := by
  unfold Machine.linkCounterResetStep
  exact ite h (ite ((h.setLink b22).insGo b20 b22) (h.setLink b22))

theorem dropTake {k words : Nat} (h : Kept b c d) (b22 : 0x22 ∈ b) : Kept b c (d.dropTake k words).1 := by
  unfold Core.dropTake
  dsimp only
  split
  · exact h.shared rfl rfl
  · exact h.setLink b22

theorem todRawGroupStep {pin : Fin 2} {t : Nat} {l : List Byte} (h : Kept b c d) (b22 : 0x22 ∈ b) (b102 : 0x102 ∈ b) :
    Kept b c (Machine.todRawGroupStep pin t l d) := by
  unfold Machine.todRawGroupStep Core.todItem
  exact ite h (ite h (ite ((h.dropTake b22).each fun _ h => h.emit b102) (h.dropTake b22)))

/-! ## Tallies, stores and temperatures -/

theorem tallyInc {k : Nat} (h : Kept b c d) : Kept b c (d.tallyInc k) := by
  unfold Core.tallyInc
  exact ite h h.firnU

theorem dayRolloverStep (h : Kept b c d) (b12 : 0x12 ∈ b) : Kept b c (Machine.dayRolloverStep d) := by
  unfold Machine.dayRolloverStep
  exact ite h (((h.secInDay b12).tallyInc).ageRegs b12)

theorem tallyIncDoneStep {k : Fin 32} (h : Kept b c d) (b12 : 0x12 ∈ b) : Kept b c (Machine.tallyIncDoneStep k d) := by
  unfold Machine.tallyIncDoneStep
  exact ite h (h.setTally.firnU.ageRegs b12)

theorem glcWrote (h : Kept b c d) (b12 : 0x12 ∈ b) : Kept b c d.glcWrote := by
  unfold Core.glcWrote
  extract_lets p c1
  have h1 : Kept b c c1 := wr (h.on fun h => h.wr b12 rfl) b12 rfl
  exact ite h1.storeAsk h1

theorem storeIntervalStep (h : Kept b c d) (b12 : 0x12 ∈ b) : Kept b c (Machine.storeIntervalStep d) := by
  unfold Machine.storeIntervalStep
  exact ite h (((h.each fun _ h => ite h (h.frontWrite.glcWrote b12)).frontWrite).glcWrote b12)

theorem hostTempExpireStep (h : Kept b c d) (b12 : 0x12 ∈ b) : Kept b c (Machine.hostTempExpireStep d) := h.wr b12 rfl

theorem sensorReadingStep {k : Fin 9} {v : BitVec 16} (h : Kept b c d) (b12 : 0x12 ∈ b) :
    Kept b c (Machine.sensorReadingStep k v d) := by
  unfold Machine.sensorReadingStep
  split
  · next hk => exact ite (h.wrIn b12 Nat.one_pos hk rfl) (tSum (h.wrIn b12 Nat.one_pos hk rfl) b12)
  · extract_lets code c1
    split
    · exact wr (h.wr b12 rfl) b12 rfl
    · exact tSum (wr (h.wr b12 rfl) b12 rfl) b12

/-! ## Aligners and rotors -/

theorem indexEdgeStep {i : Fin 12} (h : Kept b c d) (b15 : 0x15 ∈ b) : Kept b c (Machine.indexEdgeStep i d) := by
  unfold Machine.indexEdgeStep
  exact ite (h.setRot b15) h

theorem paEdgeStep {a : Fin 8} (h : Kept b c d) (b15 : 0x15 ∈ b) : Kept b c (Machine.paEdgeStep a d) := by
  unfold Machine.paEdgeStep
  have ha := a.isLt
  extract_lets _ x
  split
  · exact h
  · exact h.setPa b15
  · unfold Core.paEdgeRegs
    exact wrAt (wrAt (wrAt ((h.setPa b15).wrAt b15 ha rfl) b15 ha rfl) b15 ha rfl) b15 ha rfl

theorem todoutFrameStep {a : Fin 8} (h : Kept b c d) (b15 : 0x15 ∈ b) : Kept b c (Machine.todoutFrameStep a d) := by
  unfold Machine.todoutFrameStep
  have ha := a.isLt
  extract_lets _ x pin
  split
  · exact h
  · exact ite (pal ((h.setPa b15).wrAt b15 ha rfl) b15) (h.setPa b15)

theorem angleClockEdgeStep {i : Fin 12} {t : Nat} (h : Kept b c d) (b15 : 0x15 ∈ b) :
    Kept b c (Machine.angleClockEdgeStep i t d) := by
  unfold Machine.angleClockEdgeStep
  extract_lets n st fly x ang mine w fast due near c1
  have h1 : Kept b c c1 := ite (h.setRot b15) h
  exact ite h (ite h (ite (wrAt (wrAt (h1.wrAt b15 i.isLt rfl) b15 i.isLt rfl) b15 i.isLt rfl) ((h1.setRot b15).on fun h =>
    h.wrAt b15 i.isLt rfl)))

theorem rotCross {i : Nat} {t : Int} {v a e l g : Rat} {co : Bool} (h : Kept b c d) (b15 : 0x15 ∈ b) (b102 : 0x102 ∈ b)
    (hi : i < 12) : Kept b c (d.rotCross i t v a e l g co) := by
  unfold Core.rotCross
  extract_lets x rev n c1 p after edges c2 z dz slew step resid k c3
  have h1 : Kept b c c1 := h.wrAt b15 hi rfl
  have h3 : Kept b c c3 := (h1.emit b102).setRot b15
  exact h3.on fun h => h.wrAt b15 hi rfl

theorem flywheelCrossingStep {i : Fin 12} {t : Nat} (h : Kept b c d) (b15 : 0x15 ∈ b) (b102 : 0x102 ∈ b) :
    Kept b c (Machine.flywheelCrossingStep i t d) := by
  unfold Machine.flywheelCrossingStep
  exact ite (h.rotCross b15 b102 i.isLt) h

/-! ## Synthesisers and outputs -/

theorem clkEvent {u i new old cause : Nat} (h : Kept b c d) (b102 : 0x102 ∈ b) : Kept b c (d.clkEvent u i new old cause) :=
  h.emit b102

theorem outRefresh {o cause : Nat} (h : Kept b c d) (b13 : 0x13 ∈ b) (b14 : 0x14 ∈ b) (b15 : 0x15 ∈ b) (b102 : 0x102 ∈ b) :
    Kept b c (d.outRefresh o cause) := by
  unfold Core.outRefresh
  split
  · exact h
  · next ho =>
    have ho : o < 24 := Nat.lt_of_lt_of_le (Nat.lt_of_not_le ho) (Part.nOut_le _)
    have hb : o / 6 < 4 := by omega
    extract_lets old new c1 _ c2
    have h2 : Kept b c c2 := ite (h.wrAt b13 hb rfl) (pal (h.wrAt b13 hb rfl) b15)
    exact ite h2 (clkEvent (h2.wrAt b14 ho rfl) b102)

theorem bankRefresh {n cause : Nat} (h : Kept b c d) (b13 : 0x13 ∈ b) (b14 : 0x14 ∈ b) (b15 : 0x15 ∈ b) (b102 : 0x102 ∈ b) :
    Kept b c (d.bankRefresh n cause) :=
  h.each fun _ h => h.outRefresh b13 b14 b15 b102

theorem commitLoad {n : Nat} (h : Kept b c d) (b13 : 0x13 ∈ b) (b14 : 0x14 ∈ b) (b15 : 0x15 ∈ b) (b102 : 0x102 ∈ b)
    (hn : n < 4) : Kept b c (d.commitLoad n) := by
  unfold Core.commitLoad
  exact bankRefresh (clkEvent (wrAt (wrAt (h.range fun hm h => wrIn (h.wrIn b13 hn hm rfl) b13 hn hm rfl) b13 hn rfl) b13 hn
    rfl) b102) b13 b14 b15 b102

theorem commitLoadStep {n : Fin 4} (h : Kept b c d) (b13 : 0x13 ∈ b) (b14 : 0x14 ∈ b) (b15 : 0x15 ∈ b) (b102 : 0x102 ∈ b) :
    Kept b c (Machine.commitLoadStep n d) := by
  unfold Machine.commitLoadStep
  exact ite h (h.commitLoad b13 b14 b15 b102 n.isLt)

theorem synPend {n : Nat} (h : Kept b c d) (b13 : 0x13 ∈ b) (hn : n < 4) : Kept b c (d.synPend n) := by
  unfold Core.synPend
  exact wrAt (h.wrAt b13 hn rfl) b13 hn rfl

theorem synReject {n off : Nat} (h : Kept b c d) (b13 : 0x13 ∈ b) (hn : n < 4) : Kept b c (d.synReject n off) :=
  h.reject b13 b13 b13 hn rfl rfl rfl

theorem synCommit {n : Nat} (h : Kept b c d) (b13 : 0x13 ∈ b) (b14 : 0x14 ∈ b) (b15 : 0x15 ∈ b) (b102 : 0x102 ∈ b)
    (hn : n < 4) : Kept b c (d.synCommit n).1 := by
  unfold Core.synCommit
  split
  · exact h.wrAt b13 hn rfl
  split
  · exact synReject (h.wrAt b13 hn rfl) b13 hn
  split
  · exact bankRefresh (h.wrAt b13 hn rfl) b13 b14 b15 b102
  · exact h.commitLoad b13 b14 b15 b102 hn

theorem returnStep {n : Fin 4} {x : Int} (h : Kept b c d) (b13 : 0x13 ∈ b) (b14 : 0x14 ∈ b) (b15 : 0x15 ∈ b)
    (b102 : 0x102 ∈ b) : Kept b c (Machine.returnStep n x d) := by
  unfold Machine.returnStep
  extract_lets k y c1 c2 _ c3 c4
  have h2 : Kept b c c2 := (h.setSyn b13).range fun hm h => ite h (h.wrAt b13 n.isLt rfl)
  have h3 : Kept b c c3 := ite (((h2.setSyn b13).synPend b13 n.isLt).wrAt b13 n.isLt rfl) h2
  exact ite h (on (bankRefresh (h3.wrAt b13 n.isLt rfl) b13 b14 b15 b102) fun h => h.synCommit b13 b14 b15 b102 n.isLt)

theorem phaseQuantumStep {n : Fin 4} (h : Kept b c d) (b13 : 0x13 ∈ b) : Kept b c (Machine.phaseQuantumStep n d) := by
  unfold Machine.phaseQuantumStep
  exact ite h ((h.setSyn b13).synPend b13 n.isLt)

/-! ## TDC calibration -/

theorem calRegs (h : Kept b c d) (b16 : 0x16 ∈ b) : Kept b c d.calRegs := by
  unfold Core.calRegs
  extract_lets x y c1 c2 c3 c4 c5 c6
  have h6 : Kept b c c6 := wr (wr (wr (wr (wr (h.wr b16 rfl) b16 rfl) b16 rfl) b16 rfl) b16 rfl) b16 rfl
  exact h6.wr b16 rfl

theorem timrefActivityStep (h : Kept b c d) (b16 : 0x16 ∈ b) : Kept b c (Machine.timrefActivityStep d) := by
  unfold Machine.timrefActivityStep
  exact ite ((h.setTim b16).wr b16 rfl) h

theorem calSlotStep (h : Kept b c d) (b16 : 0x16 ∈ b) : Kept b c (Machine.calSlotStep d) := (h.setTim b16).calRegs b16
theorem calNowStep (h : Kept b c d) (b16 : 0x16 ∈ b) : Kept b c (Machine.calNowStep d) := h.setTim b16
theorem timCalDataReadStep (h : Kept b c d) (b16 : 0x16 ∈ b) : Kept b c (Machine.timCalDataReadStep d) :=
  calRegs (h.wr b16 rfl) b16

end Core.Kept

end Sys2Proof.Machine
end

section
/-! What the operations of the PTP engine keep (`Core.Kept`). -/

namespace Sys2Proof.Machine

open Sys2Proof

/-- The engine has two domains (R273). -/
theorem Core.portDom_lt {c : Core} {p x : Nat} (h : c.portDom p = some x) : x < 2 := by
  unfold Core.portDom Core.laneDom at h
  split at h
  · cases h; decide
  · cases h; decide
  · cases h

namespace Core.Kept

variable {b : List Nat} {c d : Core}

/-! ## Messages received -/

theorem heard {n t : Nat} {l : List Byte} (h : Kept b c d) (b20 : 0x20 ∈ b) (b21 : 0x21 ∈ b) :
    Kept b c (d.heard n l t).2 := by
  unfold Core.heard
  extract_lets x
  split
  · exact (h.setLane b20).pte b21
  · exact h.pte b21

theorem rxWith {n t : Nat} {l : List Byte} {f : Core → Msg → Nat → Nat → Core} (h : Kept b c d)
    (b20 : 0x20 ∈ b) (b21 : 0x21 ∈ b) (hf : ∀ {e m i t}, Kept b c e → Kept b c (f e m i t)) :
    Kept b c (d.rxWith n l t f) := by
  unfold Core.rxWith
  extract_lets y
  have hy : Kept b c y.2 := h.heard b20 b21
  split
  · exact h
  split
  · exact hy
  split
  · exact hy.wr b21 rfl
  split
  · exact hy.wr b21 rfl
  · exact hf hy

theorem svAdd {p : Nat} {t : Bool} {x y : Int} (h : Kept b c d) (b21 : 0x21 ∈ b) : Kept b c (d.svAdd p t x y) :=
  h.each fun _ h => h.setSv b21

theorem syncRxStep {n : Fin 4} {t : Nat} {l : List Byte} (h : Kept b c d) (b20 : 0x20 ∈ b) (b21 : 0x21 ∈ b) :
    Kept b c (Machine.syncRxStep n t l d) := by
  refine h.rxWith b20 b21 fun h => ?_
  split
  · exact h
  · exact ite h (ite (h.setPport b21) ((h.setPport b21).svAdd b21))

theorem followUpRxStep {n : Fin 4} {t : Nat} {l : List Byte} (h : Kept b c d) (b20 : 0x20 ∈ b) (b21 : 0x21 ∈ b) :
    Kept b c (Machine.followUpRxStep n t l d) := by
  refine h.rxWith b20 b21 fun h => ?_
  split
  · exact h
  extract_lets x
  split
  · exact h
  · exact ite h ((h.setPport b21).svAdd b21)

theorem delayRespRxStep {n : Fin 4} {l : List Byte} (h : Kept b c d) (b20 : 0x20 ∈ b) (b21 : 0x21 ∈ b) :
    Kept b c (Machine.delayRespRxStep n l d) := by
  refine h.rxWith b20 b21 fun h => ?_
  split
  · exact h
  extract_lets x
  split
  · exact h
  · exact ite h ((h.setPport b21).svAdd b21)

theorem peerDone {p t1 t2 t3 t4 : Nat} {x y : Int} {t : Bool} (h : Kept b c d) (b21 : 0x21 ∈ b) :
    Kept b c (d.peerDone p t1 t2 t3 t4 x t y) :=
  h.setPport b21

theorem pdelayRespRxStep {n : Fin 4} {t : Nat} {l : List Byte} (h : Kept b c d) (b20 : 0x20 ∈ b) (b21 : 0x21 ∈ b) :
    Kept b c (Machine.pdelayRespRxStep n t l d) := by
  refine h.rxWith b20 b21 fun h => ?_
  split
  · exact h
  extract_lets x
  split
  · exact h
  · exact ite h (ite (h.setPport b21) (h.peerDone b21))

theorem pdelayRespFollowUpRxStep {n : Fin 4} {l : List Byte} (h : Kept b c d) (b20 : 0x20 ∈ b) (b21 : 0x21 ∈ b) :
    Kept b c (Machine.pdelayRespFollowUpRxStep n l d) := by
  refine h.rxWith b20 b21 fun h => ?_
  split
  · exact h
  extract_lets x
  split
  · exact ite h (h.peerDone b21)
  · exact h

theorem pdelayReqRxStep {n : Fin 4} {t : Nat} {l : List Byte} (h : Kept b c d) (b20 : 0x20 ∈ b) (b21 : 0x21 ∈ b)
    (b22 : 0x22 ∈ b) : Kept b c (Machine.pdelayReqRxStep n t l d) := by
  refine h.rxWith b20 b21 fun h => ?_
  split
  · exact h
  · exact ite (h.wr b21 rfl) (h.send b20 b22)

/-! ## Messages sent -/

theorem portSyncDueStep {p : Fin 4} (h : Kept b c d) (b20 : 0x20 ∈ b) (b21 : 0x21 ∈ b) (b22 : 0x22 ∈ b) :
    Kept b c (Machine.portSyncDueStep p d) := by
  unfold Machine.portSyncDueStep
  extract_lets p
  split
  · exact h
  split
  · exact h
  · exact ite h ((h.setPport b21).send b20 b22)

theorem delayReqDueStep {p : Fin 4} (h : Kept b c d) (b20 : 0x20 ∈ b) (b21 : 0x21 ∈ b) (b22 : 0x22 ∈ b) :
    Kept b c (Machine.delayReqDueStep p d) := by
  unfold Machine.delayReqDueStep
  extract_lets p
  split
  · exact h
  split
  · exact h
  · exact ite (ite h ((h.setPport b21).send b20 b22)) (ite h ((h.setPport b21).send b20 b22))

/-! ## Servos and ports -/

theorem learnRestart {s : Nat} (h : Kept b c d) (b21 : 0x21 ∈ b) : Kept b c (d.learnRestart s) := h.each fun _ h => h.setSv b21

theorem xchkRefresh (h : Kept b c d) (b21 : 0x21 ∈ b) : Kept b c d.xchkRefresh := h.range fun hi h => h.wrAt b21 hi rfl

theorem svGoto {s new cause : Nat} {o : Rat} (h : Kept b c d) (b21 : 0x21 ∈ b) (b102 : 0x102 ∈ b) (hs : s < 4) :
    Kept b c (d.svGoto s new cause o) := by
  unfold Core.svGoto
  extract_lets old c1 x keep c2 c3
  have h1 : Kept b c c1 := wrAt (h.wrAt b21 hs rfl) b21 hs rfl
  have h2 : Kept b c c2 := ite (h1.setSv b21) h1
  have h3 : Kept b c c3 := h2.on fun h => h.learnRestart b21
  exact (h3.emit b102).xchkRefresh b21

theorem learnedStep {s : Fin 4} (h : Kept b c d) (b21 : 0x21 ∈ b) (b102 : 0x102 ∈ b) :
    Kept b c (Machine.learnedStep s d) := by
  have hs := s.isLt
  unfold Machine.learnedStep
  extract_lets _ x p na ns c1
  split
  · exact h
  split
  · exact h.wr b21 rfl
  · next e he =>
    have he : e < 64 := List.mem_range.1 (List.mem_of_find?_eq_some he)
    extract_lets c2 c3 c4 c5 c6
    have h1 : Kept b c c1 := h.wrAt b21 hs rfl
    have h3 : Kept b c c3 := wrAt (wrAt (wrAt (wrAt (h1.wrAt b21 he rfl) b21 he rfl) b21 he rfl) b21 he rfl) b21 he rfl
    have h6 : Kept b c c6 := wrAt (wrAt (wrAt (h3.wrAt b21 he rfl) b21 he rfl) b21 he rfl) b21 hs rfl
    exact (h6.setSv b21).svGoto b21 b102 hs

theorem svEval {s : Nat} (h : Kept b c d) (b21 : 0x21 ∈ b) (b102 : 0x102 ∈ b) (hs : s < 4) : Kept b c (d.svEval s) := by
  unfold Core.svEval
  exact ite h (ite (ite h (h.svGoto b21 b102 hs)) (ite (h.svGoto b21 b102 hs) (ite (h.svGoto b21 b102 hs) h)))

theorem domStat {i : Nat} (h : Kept b c d) (b21 : 0x21 ∈ b) (hi : i < 2) : Kept b c (d.domStat i) := by
  unfold Core.domStat
  exact wrAt (wrAt (wrAt (h.wrAt b21 hi rfl) b21 hi rfl) b21 hi rfl) b21 hi rfl

theorem portSet {p st : Nat} (h : Kept b c d) (b21 : 0x21 ∈ b) (b102 : 0x102 ∈ b) (hp : p < 4) :
    Kept b c (d.portSet p st) := by
  unfold Core.portSet
  extract_lets x slave c1 c2 c3
  have h2 : Kept b c c2 := setPport (h.wrAt b21 hp rfl) b21
  have h3 : Kept b c c3 := h2.each fun hi h => h.domStat b21 (by simp at hi; omega)
  exact ite h (h3.range fun hs h => h.svEval b21 b102 hs)

theorem portsEval (h : Kept b c d) (b21 : 0x21 ∈ b) (b102 : 0x102 ∈ b) : Kept b c d.portsEval := by
  unfold Core.portsEval
  extract_lets c1
  have h1 : Kept b c c1 := h.range fun {e p} hp h => by
    extract_lets n
    split
    · exact ite (h.portSet b21 b102 hp) (ite (h.portSet b21 b102 hp) (ite (h.portSet b21 b102 hp) (ite (h.portSet b21 b102
      hp) (ite (h.portSet b21 b102 hp) h))))
    · exact h.portSet b21 b102 hp
  exact ite h (h1.range fun hs h => h.svEval b21 b102 hs)

theorem slotStat (h : Kept b c d) (b21 : 0x21 ∈ b) : Kept b c d.slotStat := by
  unfold Core.slotStat
  exact wr (wr (wr (wr (wr (h.wr b21 rfl) b21 rfl) b21 rfl) b21 rfl) b21 rfl) b21 rfl

theorem pteStartStep (h : Kept b c d) (b21 : 0x21 ∈ b) (b102 : 0x102 ∈ b) : Kept b c (Machine.pteStartStep d) := by
  unfold Machine.pteStartStep Core.pteEval Core.cfgBad
  refine portsEval ?_ b21 b102
  exact ite (slotStat (wr (wr (wr (pte (h.wr b21 rfl) b21) b21 rfl) b21 rfl) b21 rfl) b21) (ite (wr (h.wr b21 rfl) b21 rfl)
    (h.wr b21 rfl))

/-! ## The best master (R277) -/

theorem qualDown {p : Nat} (h : Kept b c d) (b21 : 0x21 ∈ b) (b102 : 0x102 ∈ b) (hp : p < 4) : Kept b c (d.qualDown p) := by
  unfold Core.qualDown
  exact ite h (ite (h.portSet b21 b102 hp) (h.setPport b21))

theorem portFollow {p : Nat} {a : Ann} (h : Kept b c d) (b21 : 0x21 ∈ b) (b102 : 0x102 ∈ b) (hp : p < 4) :
    Kept b c (d.portFollow p a) := by
  unfold Core.portFollow
  exact ite h ((h.setPport b21).portSet b21 b102 hp)

theorem portMaster {i p : Nat} {k : Option Nat} (h : Kept b c d) (b21 : 0x21 ∈ b) (b102 : 0x102 ∈ b) (hp : p < 4) :
    Kept b c (d.portMaster i p k) := by
  unfold Core.portMaster
  split
  · exact h.portSet b21 b102 hp
  · exact ite (h.portSet b21 b102 hp) (ite h ((h.setPport b21).portSet b21 b102 hp))

theorem portDecide {i p : Nat} {l : List Nat} {x : Option (Nat × Ann × List Nat)} (h : Kept b c d) (b21 : 0x21 ∈ b)
    (b102 : 0x102 ∈ b) (hp : p < 4) : Kept b c (d.portDecide i p l x) := by
  unfold Core.portDecide
  extract_lets mine pr best
  refine ite (h.portMaster b21 b102 hp) (ite h (ite (ite (h.portMaster b21 b102 hp) (h.portSet b21 b102 hp)) (ite
    (h.portMaster b21 b102 hp) ?_)))
  clear_value mine
  split
  · exact ite (h.portFollow b21 b102 hp) (ite (h.portSet b21 b102 hp) (h.portMaster b21 b102 hp))
  · exact h.portMaster b21 b102 hp
  · exact h

theorem stateDecision {i : Nat} (h : Kept b c d) (b21 : 0x21 ∈ b) (b102 : 0x102 ∈ b) (hi : i < 2) :
    Kept b c (d.stateDecision i) := by
  unfold Core.stateDecision
  exact ite h ((h.each fun hp h => h.portDecide b21 b102 (List.mem_range.1 (List.mem_filter.1 hp).1)).domStat b21 hi)

theorem portAnnounceDueStep {p : Fin 4} (h : Kept b c d) (b20 : 0x20 ∈ b) (b21 : 0x21 ∈ b) (b22 : 0x22 ∈ b) (b102 : 0x102 ∈ b)
    : Kept b c (Machine.portAnnounceDueStep p d) := by
  have hp := p.isLt
  unfold Machine.portAnnounceDueStep
  extract_lets p
  split
  · exact h
  split
  · exact h
  · next i hi =>
    have decided : Kept b c ((d.stateDecision i).qualDown p) := (h.stateDecision b21 b102 (Core.portDom_lt hi)).qualDown b21
      b102 hp
    exact ite decided ((decided.setPport b21).send b20 b22)

end Core.Kept

end Sys2Proof.Machine
end

section
/-! What the operations of the queues, the memory test, the host link, Firn and the Frost domain keep (`Core.Kept`). -/

namespace Sys2Proof.Machine

open Sys2Proof

namespace Core.Kept

variable {b : List Nat} {c d : Core}

/-! ## Queues -/

theorem queueRegs {q : Nat} (h : Kept b c d) (b22 : 0x22 ∈ b) (hq : q < 128) : Kept b c (d.queueRegs q) := by
  have hk : q / 32 < 4 := by omega
  unfold Core.queueRegs
  exact wrIn (wrAt (wrAt (wrAt (h.wrAt b22 hq rfl) b22 hq rfl) b22 hq rfl) b22 hq rfl) b22 Nat.one_pos hk rfl

theorem queueUpd {q : Nat} {f : QueueU → QueueU} (h : Kept b c d) (b22 : 0x22 ∈ b) (hq : q < 128) :
    Kept b c (d.queueUpd q f) :=
  (h.setQueue b22).queueRegs b22 hq

theorem itemReadableStep {q : Fin 128} (h : Kept b c d) (b22 : 0x22 ∈ b) : Kept b c (Machine.itemReadableStep q d) := by
  unfold Machine.itemReadableStep
  extract_lets x
  split
  · exact h
  split
  · exact h
  · exact ite h (h.queueUpd b22 q.isLt)

theorem markStep {q : Fin 128} (h : Kept b c d) (b22 : 0x22 ∈ b) : Kept b c (Machine.markStep q d) :=
  ite h (h.queueUpd b22 q.isLt)
theorem rewindStep {q : Fin 128} (h : Kept b c d) (b22 : 0x22 ∈ b) : Kept b c (Machine.rewindStep q d) :=
  ite h (h.queueUpd b22 q.isLt)

theorem queueEmpty {q : Nat} (h : Kept b c d) (b22 : 0x22 ∈ b) (hq : q < 128) : Kept b c (d.queueEmpty q) := by
  unfold Core.queueEmpty
  exact queueRegs ((h.setQueue b22).on fun h => wrAt (h.wrAt b22 hq rfl) b22 hq rfl) b22 hq

theorem flushStep {q : Fin 128} (h : Kept b c d) (b22 : 0x22 ∈ b) : Kept b c (Machine.flushStep q d) :=
  ite (h.queueEmpty b22 q.isLt) h

theorem epochChange {q e : Nat} (h : Kept b c d) (b22 : 0x22 ∈ b) (hq : q < 128) : Kept b c (d.epochChange q e) := by
  unfold Core.epochChange
  exact ite (h.setQueue b22) (wrAt (h.wrAt b22 hq rfl) b22 hq rfl)

theorem staleWinEndStep {q : Fin 128} (h : Kept b c d) (b22 : 0x22 ∈ b) : Kept b c (Machine.staleWinEndStep q d) := by
  unfold Machine.staleWinEndStep
  extract_lets c1
  have h1 : Kept b c c1 := h.wrAt b22 q.isLt rfl
  split
  · exact h
  split
  · exact h1
  · exact (h1.setQueue b22).epochChange b22 q.isLt

/-! ## Memory -/

theorem telemetryStep (h : Kept b c d) (b24 : 0x24 ∈ b) (b102 : 0x102 ∈ b) : Kept b c (Machine.telemetryStep d) := by
  unfold Machine.telemetryStep
  exact (h.emit b102).setMemU b24

theorem tmcStartStep (h : Kept b c d) (b23 : 0x23 ∈ b) (b24 : 0x24 ∈ b) : Kept b c (Machine.tmcStartStep d) := by
  unfold Machine.tmcStartStep Core.tmcStart
  exact ite h (wr ((h.setMemU b24).wr b23 rfl) b23 rfl)

theorem tmcAbortStep {x : Bool} (h : Kept b c d) (b23 : 0x23 ∈ b) (b24 : 0x24 ∈ b) (b101 : 0x101 ∈ b) :
    Kept b c (Machine.tmcAbortStep x d) := by
  unfold Machine.tmcAbortStep Core.tmcAbort
  exact ite h (ite (h.wr b23 rfl) (((h.fresh b101).setMemU b24).wr b23 rfl))

/-! ## The host link -/

theorem hostU {x : HostU} (h : Kept b c d) (b1 : 1 ∈ b) : Kept b c { d with host := x } := h.host (.inl b1) rfl

/-- Every credit field lies in the link's block. -/
theorem creditFld_spans (p k : Nat) : (creditFld p k).page = 1 ∧ (creditFld p k).spans 1 1 = true := by
  unfold creditFld
  split
  · match k with
    | 0 | 1 | 2 | 3 => exact ⟨rfl, rfl⟩
    | _ + 4 => exact (⟨rfl, rfl⟩ : HLK_STAT.c0_free.page = 1 ∧ HLK_STAT.c0_free.spans 1 1 = true)
  · match k with
    | 0 | 1 | 2 | 3 => exact ⟨rfl, rfl⟩
    | _ + 4 => exact (⟨rfl, rfl⟩ : HLK_IB_STAT.c0_free.page = 1 ∧ HLK_IB_STAT.c0_free.spans 1 1 = true)

theorem creditWr {p k v : Nat} (h : Kept b c d) (b1 : 1 ∈ b) : Kept b c (d.wr (creditFld p k) v) := by
  obtain ⟨page, spans⟩ := creditFld_spans p k
  exact Kept.wr h (page ▸ b1) spans

theorem creditOut {p : Nat} {l : List Byte} (h : Kept b c d) (b1 : 1 ∈ b) : Kept b c (d.creditOut p l) := by
  unfold Core.creditOut
  exact ite h (h.creditWr b1)

theorem noteOut {p k o : Nat} {l : List Byte} (h : Kept b c d) (b1 : 1 ∈ b) : Kept b c (d.noteOut p k o l).1 := h.setPort b1

theorem noteStart (h : Kept b c d) (b1 : 1 ∈ b) : Kept b c d.noteStart := by
  unfold Core.noteStart
  extract_lets x
  split
  · exact ((h.setPort b1).noteOut b1).setPort b1
  · exact h

theorem noticeEnd (h : Kept b c d) (b1 : 1 ∈ b) : Kept b c d.noticeEnd := h.hostU b1

theorem notesPlace (h : Kept b c d) (b1 : 1 ∈ b) : Kept b c d.notesPlace := h.setPort b1

theorem boundary (h : Kept b c d) (b1 : 1 ∈ b) : Kept b c d.boundary := by
  unfold Core.boundary
  extract_lets x
  have serial : Kept b c (match x.rs with
      | b :: rest => d.setPort 0 { x with cur := some (b, 0), rs := rest }
      | [] => d) := by
    split
    · exact h.setPort b1
    · exact h
  split
  · exact h.notesPlace b1
  split
  · exact h.setPort b1
  split
  · split
    · exact (h.noteOut b1).setPort b1
    · exact serial
  · exact serial

theorem driveByte (h : Kept b c d) (b1 : 1 ∈ b) : Kept b c d.driveByte.1 := by
  unfold Core.driveByte
  extract_lets idle c1 x
  have hc : Kept b c c1 := noteStart (ite (h.boundary b1) h) b1
  split
  · exact hc.setPort b1
  split
  · exact hc
  · extract_lets v c2 c3 c4 c5
    have hd : Kept b c c3 := ite ((hc.setPort b1).creditOut b1) (hc.setPort b1)
    have he : Kept b c c4 := ite (hd.noticeEnd b1) hd
    exact ite (he.notesPlace b1) he

theorem driveBytes {n : Nat} {l : List Byte} (h : Kept b c d) (b1 : 1 ∈ b) : Kept b c (Core.driveBytes n d l).1 := by
  induction n generalizing d l with
  | zero => exact h
  | succ n ih => exact ih (h.driveByte b1)

theorem receiveStep {n : BitVec 16} {d : Dev} (h : Kept b c d.core) (b1 : 1 ∈ b) :
    Kept b c (Machine.receiveStep n d).core := by
  exact (h.driveBytes b1).hostU b1

theorem statusStep {d : Dev} (h : Kept b c d.core) (b1 : 1 ∈ b) : Kept b c (Machine.statusStep d).core := by
  exact h.hostU b1

theorem invalidTransactionCodeStep {n : BitVec 8} {d : Dev} (h : Kept b c d.core) (b1 : 1 ∈ b) :
    Kept b c (Machine.invalidTransactionCodeStep n d).core := by
  unfold Machine.invalidTransactionCodeStep
  split
  · exact h
  · exact h.wr b1 rfl

theorem bufFlow {n : Nat} (h : Kept b c d) (b20 : 0x20 ∈ b) : Kept b c (d.bufFlow n) := ite h (h.setLane b20)

theorem resyncStep {d : Dev} (h : Kept b c d.core) (b1 : 1 ∈ b) (b20 : 0x20 ∈ b) :
    Kept b c (Machine.resyncStep d).core := by
  unfold Machine.resyncStep Core.resync Core.creditFull
  exact bufFlow (((h.setPort b1).each fun _ h => h.creditWr b1).wr b1 rfl) b20

/-! ## The image loader, and Firn -/

theorem loadStep (h : Kept b c d) (b4 : 4 ∈ b) : Kept b c (Machine.loadStep d) := by
  unfold Machine.loadStep Core.mtlLoad
  split
  · exact h.reject b4 b4 b4 Nat.one_pos rfl rfl rfl
  · exact (h.setMtl b4).wr b4 rfl

theorem keyRegs {p : Bool} {k : Option (List Byte)} (h : Kept b c d) : Kept b c (d.keyRegs p k) := by
  unfold Core.keyRegs
  exact shared (shared (h.shared rfl rfl) rfl rfl) rfl rfl

theorem keyStore {p : Bool} {k : Option (List Byte)} {n : Nat} (h : Kept b c d) : Kept b c (d.keyStore p k n) :=
  h.frontWrite.keyRegs.storeAsk

theorem keyRefuse (h : Kept b c d) : Kept b c d.keyRefuse := by
  unfold Core.keyRefuse Core.reject
  exact shared (shared (ite (h.shared rfl rfl) h) rfl rfl) rfl rfl

theorem policyStep {n : BitVec 16} {d : Dev} (h : Kept b c d.core) (b4 : 4 ∈ b) :
    Kept b c (Machine.policyStep n d).core := by
  unfold Machine.policyStep
  extract_lets c1
  split
  · exact h.keyRefuse
  · exact h.keyStore.wrTv b4 rfl

theorem storeRetryStep (h : Kept b c d) : Kept b c (Machine.storeRetryStep d) := by
  unfold Machine.storeRetryStep
  split
  · exact ite h.firnU.storeAsk h.firnU.storeAsk
  · exact h

theorem frnStoreGoStep {x y : BitVec 8} (h : Kept b c d) : Kept b c (Machine.frnStoreGoStep x y d) := by
  unfold Machine.frnStoreGoStep
  exact storeAsk (shared (h.shared rfl rfl) rfl rfl)

theorem frnStoreAbortStep {x : Bool} (h : Kept b c d) : Kept b c (Machine.frnStoreAbortStep x d) := by
  unfold Machine.frnStoreAbortStep Core.storeAbort
  split
  · split
    · exact h
    split
    · exact h.shared rfl rfl
    · exact firnU (h.shared rfl rfl)
  · exact h

theorem tokenAccrualStep (h : Kept b c d) : Kept b c (Machine.tokenAccrualStep d) := h.each fun _ h => h.setPage

theorem provisionStep {n : BitVec 16} (h : Kept b c d) : Kept b c (Machine.provisionStep n d) := by
  unfold Machine.provisionStep
  exact ite h.keyRefuse (h.keyStore.range fun hk h => h.sharedIn hk rfl rfl)

theorem zeroiseStep {n : BitVec 16} (h : Kept b c d) : Kept b c (Machine.zeroiseStep n d) := ite h.keyRefuse h.keyStore

theorem tallyIncStep {k : Fin 32} (h : Kept b c d) : Kept b c (Machine.tallyIncStep k d) := h.tallyInc

/-! ## The Frost domain -/

theorem frostSet {x y : Nat} (h : Kept b c d) (b10000 : 0x10000 ∈ b) : Kept b c (d.frostSet x y) := by
  unfold Core.frostSet
  exact wr (wr (h.wr b10000 rfl) b10000 rfl) b10000 rfl

theorem frostLoad (h : Kept b c d) (b3 : 3 ∈ b) (b26 : 0x26 ∈ b) (b10000 : 0x10000 ∈ b) : Kept b c d.frostLoad := by
  unfold Core.frostLoad
  split
  · exact h
  · exact frostMirror (wr (((h.frost b26).frostSet b10000).wr b10000 rfl) b26 rfl) b3 b26

theorem frostSecondStep (h : Kept b c d) (b3 : 3 ∈ b) (b26 : 0x26 ∈ b) (b10000 : 0x10000 ∈ b) :
    Kept b c (Machine.frostSecondStep d) := by
  unfold Machine.frostSecondStep
  exact ite h (frostMirror (frost (frostLoad ((h.frostSet b10000).on fun h => h.wr b10000 rfl) b3 b26 b10000) b26) b3 b26)

theorem xtalRestartStep (h : Kept b c d) (b3 : 3 ∈ b) (b26 : 0x26 ∈ b) (b10000 : 0x10000 ∈ b) :
    Kept b c (Machine.xtalRestartStep d) :=
  frostMirror (h.wr b10000 rfl) b3 b26

theorem frostTimeLoadStep (h : Kept b c d) (b3 : 3 ∈ b) (b26 : 0x26 ∈ b) (b10000 : 0x10000 ∈ b) :
    Kept b c (Machine.frostTimeLoadStep d) :=
  ite h (h.frostLoad b3 b26 b10000)

theorem frostSyncStep {x : BitVec 15} (h : Kept b c d) (b3 : 3 ∈ b) (b26 : 0x26 ∈ b) (b10000 : 0x10000 ∈ b) :
    Kept b c (Machine.frostSyncStep x d) := by
  unfold Machine.frostSyncStep
  extract_lets c1 e c2 c3 tol t n c4 l _ c5
  have h3 : Kept b c c3 := frost (wr (h.wr b10000 rfl) b26 rfl) b26
  have h5 : Kept b c c5 := (h3.frostSet b10000).frost b26
  exact ite h (ite (h3.frostMirror b3 b26) (frostMirror (wr (h5.wr b10000 rfl) b26 rfl) b3 b26))

theorem trimWindowStep (h : Kept b c d) (b3 : 3 ∈ b) (b26 : 0x26 ∈ b) (b10000 : 0x10000 ∈ b) :
    Kept b c (Machine.trimWindowStep d) := by
  unfold Machine.trimWindowStep
  extract_lets c1
  have h1 : Kept b c c1 := by
    unfold c1
    split
    · exact ite (frostMirror (wr (h.wr b10000 rfl) b26 rfl) b3 b26) h
    · exact h
  exact h1.frost b26

theorem frostTimeCommitStep {n : BitVec 16} (h : Kept b c d) (b26 : 0x26 ∈ b) (b10000 : 0x10000 ∈ b) :
    Kept b c (Machine.frostTimeCommitStep n d) :=
  frost (h.wr b10000 rfl) b26

theorem coreLostStep {d : Dev} (h : Kept b c d.core) (b3 : 3 ∈ b) (b101 : 0x101 ∈ b)
    (b10000 : 0x10000 ∈ b) : Kept b c (Machine.coreLostStep d).core := by
  unfold Machine.coreLostStep Dev.coreLost
  extract_lets c1 c2 c3
  have h2 : Kept b c c2 := by
    unfold c2
    split
    · exact h.wr b10000 rfl
    · exact setPage (h.wr b10000 rfl)
  have h3 : Kept b c c3 := h2.each fun _ h => (h.fresh b101).setTally
  exact h3.firnU.inReset b3

/-! ## Resets and ALIVE -/

theorem hostResetStep {k : BitVec 16} (h : Kept b c d) (b3 : 3 ∈ b) : Kept b c (Machine.hostResetStep k d) := by
  unfold Machine.hostResetStep Core.hostReset
  split
  · exact h.reject b3 b3 b3 Nat.one_pos rfl rfl rfl
  · exact h.rstReq b3

theorem aliveToggleStep (h : Kept b c d) (b3 : 3 ∈ b) : Kept b c (Machine.aliveToggleStep d) := ite (h.alive b3) h

end Core.Kept

end Sys2Proof.Machine
end

section
/-! What a command that touches its own blocks alone keeps (`Obligations.BlockFrame`). -/

namespace Sys2Proof.Machine

open Sys2Proof

/-- Every part decodes the data register of a window to itself (R353, R375). -/
theorem Part.access_indData (p : Part) (n : Fin 4) :
    ∃ r k, p.access (IND_DATA.data.addr n 0) 15 = .reg ⟨.ind, n, r, k⟩ none ∧ r.off = 0x08 := by
  obtain ⟨v, l, g⟩ := p
  refine ⟨IND_DATA.row, 0, ?_, rfl⟩
  cases v
  · fin_cases n <;> rfl
  · fin_cases n <;> rfl
  · fin_cases n <;> rfl

namespace Core.Kept

variable {b : List Nat} {c d : Core}

theorem indAsk {n ex : Nat} {w : Bool} {x : Nat} (h : Kept b c d) (b27 : 0x27 ∈ b) : Kept b c (d.indAsk n ex w x) := by
  unfold Core.indAsk Core.indStart
  exact ite (h.inds b27) (ite h (h.inds b27))

theorem indDataAccessStep {n ex : Fin 4} {w : Bool} {x : BitVec 32} {d : Dev} (h : Kept b c d.core)
    (b27 : 0x27 ∈ b) : Kept b c (Machine.indDataAccessStep n ex w x d).core := by
  obtain ⟨r, k, access, hr⟩ := d.core.part.access_indData n
  unfold Machine.indDataAccessStep Dev.busTake
  dsimp only
  split
  · exact h.exHeld b27
  · rw [access]
    dsimp only
    rw [hr]
    exact h.indAsk b27

end Core.Kept

/-! ## The shapes of a meaning -/

section

variable {b : List Nat}

theorem onDev_kept {f : Dev → Dev} (hf : ∀ d : Dev, Core.Kept b d.core (f d).core) (s : State) :
    Answers (onDev f s) fun t => t.dev.core.outside b = s.dev.core.outside b :=
  onDev_answers (Core.Kept.act (hf s.dev))

theorem onRun_kept {f : Dev → Dev} (hf : ∀ d : Dev, Core.Kept b d.core (f d).core) (s : State) :
    Answers (onRun f s) fun t => t.dev.core.outside b = s.dev.core.outside b := by
  refine onDev_kept (fun d => ?_) s
  split
  · exact .refl
  · exact hf d

theorem onCore_kept {f : Core → Core} (hf : ∀ c, Core.Kept b c (f c)) (s : State) :
    Answers (onCore f s) fun t => t.dev.core.outside b = s.dev.core.outside b :=
  onDev_kept (f := fun d => { d with core := f d.core }) (fun d => hf d.core) s

theorem onRunCore_kept {f : Core → Core} (hf : ∀ c, Core.Kept b c (f c)) (s : State) :
    Answers (onRunCore f s) fun t => t.dev.core.outside b = s.dev.core.outside b :=
  onRun_kept (f := fun d => { d with core := f d.core }) (fun d => hf d.core) s

theorem onHost_kept {f : Dev → Dev} (hf : ∀ d : Dev, Core.Kept b d.core (f d).core) (s : State) :
    Answers (onHost f s) fun t => t.dev.core.outside b = s.dev.core.outside b := by
  refine ⟨_, rfl, ?_⟩
  dsimp only
  split
  · rfl
  · exact hf s.dev

end

/-- Settles O7: a case per command for which a bound is claimed; the blocks of the others are not bounded, or the fault
collector's is among them. -/
theorem blockFrame : Obligations.BlockFrame := by
  intro i s b hb h2
  cases i with
  | dtSetCommit => cases hb; exact onRunCore_kept (fun _ => Core.Kept.refl.dtSetCommitStep (by decide) (by decide)) s
  | hostReset => cases hb; exact onRunCore_kept (fun _ => Core.Kept.refl.hostResetStep (by decide)) s
  | aliveToggle => cases hb; exact onRunCore_kept (fun _ => Core.Kept.refl.aliveToggleStep (by decide)) s
  | wholeSecondChange =>
    cases hb
    exact onRunCore_kept (fun _ => Core.Kept.refl.wholeSecondChangeStep
      (by decide) (by decide) (by decide) (by decide) (by decide) (by decide) (by decide) (by decide)) s
  | nanosecondRollover =>
    cases hb
    exact onRunCore_kept (fun _ => Core.Kept.refl.nanosecondRolloverStep
      (by decide) (by decide) (by decide) (by decide) (by decide) (by decide) (by decide) (by decide)) s
  | deviceTimeLoad =>
    cases hb
    exact onRunCore_kept (fun _ => Core.Kept.refl.deviceTimeLoadStep (by decide) (by decide) (by decide) (by decide)) s
  | linkCounterReset => cases hb; exact onRunCore_kept (fun _ => Core.Kept.refl.linkCounterResetStep (by decide) (by decide)) s
  | todRawGroup => cases hb; exact onRunCore_kept (fun _ => Core.Kept.refl.todRawGroupStep (by decide) (by decide)) s
  | dayRollover => cases hb; exact onRunCore_kept (fun _ => Core.Kept.refl.dayRolloverStep (by decide)) s
  | storeInterval => cases hb; exact onRunCore_kept (fun _ => Core.Kept.refl.storeIntervalStep (by decide)) s
  | hostTempExpire => cases hb; exact onRunCore_kept (fun _ => Core.Kept.refl.hostTempExpireStep (by decide)) s
  | sensorReading => cases hb; exact onRunCore_kept (fun _ => Core.Kept.refl.sensorReadingStep (by decide)) s
  | tallyIncDone => cases hb; exact onCore_kept (fun _ => Core.Kept.refl.tallyIncDoneStep (by decide)) s
  | indexEdge => cases hb; exact onRunCore_kept (fun _ => Core.Kept.refl.indexEdgeStep (by decide)) s
  | paEdge => cases hb; exact onRunCore_kept (fun _ => Core.Kept.refl.paEdgeStep (by decide)) s
  | todoutFrame => cases hb; exact onRunCore_kept (fun _ => Core.Kept.refl.todoutFrameStep (by decide)) s
  | angleClockEdge => cases hb; exact onRunCore_kept (fun _ => Core.Kept.refl.angleClockEdgeStep (by decide)) s
  | flywheelCrossing => cases hb; exact onRunCore_kept (fun _ => Core.Kept.refl.flywheelCrossingStep (by decide) (by decide)) s
  | commitLoad =>
    cases hb
    exact onRunCore_kept (fun _ => Core.Kept.refl.commitLoadStep (by decide) (by decide) (by decide) (by decide)) s
  | return_ =>
    cases hb
    exact onRunCore_kept (fun _ => Core.Kept.refl.returnStep (by decide) (by decide) (by decide) (by decide)) s
  | timrefActivity => cases hb; exact onRunCore_kept (fun _ => Core.Kept.refl.timrefActivityStep (by decide)) s
  | calSlot => cases hb; exact onRunCore_kept (fun _ => Core.Kept.refl.calSlotStep (by decide)) s
  | calNow => cases hb; exact onRunCore_kept (fun _ => Core.Kept.refl.calNowStep (by decide)) s
  | timCalDataRead => cases hb; exact onRunCore_kept (fun _ => Core.Kept.refl.timCalDataReadStep (by decide)) s
  | syncRx => cases hb; exact onRunCore_kept (fun _ => Core.Kept.refl.syncRxStep (by decide) (by decide)) s
  | followUpRx => cases hb; exact onRunCore_kept (fun _ => Core.Kept.refl.followUpRxStep (by decide) (by decide)) s
  | delayRespRx => cases hb; exact onRunCore_kept (fun _ => Core.Kept.refl.delayRespRxStep (by decide) (by decide)) s
  | pdelayRespRx => cases hb; exact onRunCore_kept (fun _ => Core.Kept.refl.pdelayRespRxStep (by decide) (by decide)) s
  | pdelayRespFollowUpRx =>
    cases hb
    exact onRunCore_kept (fun _ => Core.Kept.refl.pdelayRespFollowUpRxStep (by decide) (by decide)) s
  | pdelayReqRx =>
    cases hb
    exact onRunCore_kept (fun _ => Core.Kept.refl.pdelayReqRxStep (by decide) (by decide) (by decide)) s
  | portSyncDue =>
    cases hb
    exact onRunCore_kept (fun _ => Core.Kept.refl.portSyncDueStep (by decide) (by decide) (by decide)) s
  | delayReqDue =>
    cases hb
    exact onRunCore_kept (fun _ => Core.Kept.refl.delayReqDueStep (by decide) (by decide) (by decide)) s
  | learned => cases hb; exact onRunCore_kept (fun _ => Core.Kept.refl.learnedStep (by decide) (by decide)) s
  | pteStart => cases hb; exact onRunCore_kept (fun _ => Core.Kept.refl.pteStartStep (by decide) (by decide)) s
  | portAnnounceDue =>
    cases hb
    exact onRunCore_kept (fun _ => Core.Kept.refl.portAnnounceDueStep (by decide) (by decide) (by decide) (by decide)) s
  | itemReadable => cases hb; exact onRunCore_kept (fun _ => Core.Kept.refl.itemReadableStep (by decide)) s
  | mark => cases hb; exact onRunCore_kept (fun _ => Core.Kept.refl.markStep (by decide)) s
  | rewind => cases hb; exact onRunCore_kept (fun _ => Core.Kept.refl.rewindStep (by decide)) s
  | flush => cases hb; exact onRunCore_kept (fun _ => Core.Kept.refl.flushStep (by decide)) s
  | staleWinEnd => cases hb; exact onRunCore_kept (fun _ => Core.Kept.refl.staleWinEndStep (by decide)) s
  | telemetry => cases hb; exact onRunCore_kept (fun _ => Core.Kept.refl.telemetryStep (by decide) (by decide)) s
  | tmcStart => cases hb; exact onRunCore_kept (fun _ => Core.Kept.refl.tmcStartStep (by decide) (by decide)) s
  | tmcAbort => cases hb; exact onRunCore_kept (fun _ => Core.Kept.refl.tmcAbortStep (by decide) (by decide) (by decide)) s
  | receive => cases hb; exact onHost_kept (fun _ => Core.Kept.refl.receiveStep (by decide)) s
  | status => cases hb; exact onHost_kept (fun _ => Core.Kept.refl.statusStep (by decide)) s
  | invalidTransactionCode => cases hb; exact onHost_kept (fun _ => Core.Kept.refl.invalidTransactionCodeStep (by decide)) s
  | resync => cases hb; exact onHost_kept (fun _ => Core.Kept.refl.resyncStep (by decide) (by decide)) s
  | indDataAccess => cases hb; exact onRun_kept (fun _ => Core.Kept.refl.indDataAccessStep (by decide)) s
  | load => cases hb; exact onRunCore_kept (fun _ => Core.Kept.refl.loadStep (by decide)) s
  | policy => cases hb; exact onRun_kept (fun _ => Core.Kept.refl.policyStep (by decide)) s
  | storeRetry => cases hb; exact onRunCore_kept (fun _ => Core.Kept.refl.storeRetryStep) s
  | frnStoreGo => cases hb; exact onRunCore_kept (fun _ => Core.Kept.refl.frnStoreGoStep) s
  | frnStoreAbort => cases hb; exact onRunCore_kept (fun _ => Core.Kept.refl.frnStoreAbortStep) s
  | tokenAccrual => cases hb; exact onCore_kept (fun _ => Core.Kept.refl.tokenAccrualStep) s
  | provision => cases hb; exact onRunCore_kept (fun _ => Core.Kept.refl.provisionStep) s
  | zeroise => cases hb; exact onRunCore_kept (fun _ => Core.Kept.refl.zeroiseStep) s
  | tallyInc => cases hb; exact onRunCore_kept (fun _ => Core.Kept.refl.tallyIncStep) s
  | frostSecond => cases hb; exact onCore_kept (fun _ => Core.Kept.refl.frostSecondStep (by decide) (by decide) (by decide)) s
  | xtalRestart => cases hb; exact onCore_kept (fun _ => Core.Kept.refl.xtalRestartStep (by decide) (by decide) (by decide)) s
  | frostTimeLoad =>
    cases hb
    exact onCore_kept (fun _ => Core.Kept.refl.frostTimeLoadStep (by decide) (by decide) (by decide)) s
  | frostSync => cases hb; exact onRunCore_kept (fun _ => Core.Kept.refl.frostSyncStep (by decide) (by decide) (by decide)) s
  | trimWindow => cases hb; exact onCore_kept (fun _ => Core.Kept.refl.trimWindowStep (by decide) (by decide) (by decide)) s
  | coreLost => cases hb; exact onDev_kept (fun _ => Core.Kept.refl.coreLostStep (by decide) (by decide) (by decide)) s
  | frostTimeCommit => cases hb; exact onRunCore_kept (fun _ => Core.Kept.refl.frostTimeCommitStep (by decide) (by decide)) s
  | phaseQuantum => cases hb; exact onRunCore_kept (fun _ => Core.Kept.refl.phaseQuantumStep (by decide)) s
  | _ => cases hb <;> exact (h2 (by decide)).elim

end Sys2Proof.Machine
end

section
/-! Setting, carrying and loading device time (R35, R39, R41, R362). -/

namespace Sys2Proof.Machine

open Sys2Proof

/-! ## What keeps device time, and what is held for it -/

section

variable {b : List Nat} {c d : Core}

theorem Core.Kept.dt_eq (h : Core.Kept b c d) (hb : 3 ∉ b) : d.dt = c.dt := by
  have shown (c : Core) : (c.outside b).dt = c.dt := by
    simp only [Core.outside, apply_ite Core.dt, ite_self, List.contains_iff_mem, if_neg hb]
  rw [← shown d, h, shown c]

theorem Core.Kept.setPend_eq (h : Core.Kept b c d) (hb : 3 ∉ b) : d.setPend = c.setPend := by
  have shown (c : Core) : (c.outside b).setPend = c.setPend := by
    simp only [Core.outside, apply_ite Core.setPend, ite_self, List.contains_iff_mem, if_neg hb]
  rw [← shown d, h, shown c]

theorem Core.Kept.setSkip_eq (h : Core.Kept b c d) (hb : 3 ∉ b) : d.setSkip = c.setSkip := by
  have shown (c : Core) : (c.outside b).setSkip = c.setSkip := by
    simp only [Core.outside, apply_ite Core.setSkip, ite_self, List.contains_iff_mem, if_neg hb]
  rw [← shown d, h, shown c]

end

/-- The blocks that a second touches without device time's own. -/
def secondBlocks : List Nat := [0x10, 0x11, 0x12, 0x15, 0x20, 0x21, 0x101]

theorem three_notMem_secondBlocks : 3 ∉ secondBlocks := by decide

theorem Core.kept_dtShift (c : Core) (ps es : Int) : Core.Kept secondBlocks c (c.dtShift ps es) :=
  Core.Kept.refl.dtShift (by decide) (by decide) (by decide)

theorem Core.kept_secShift (c : Core) (n : Int) : Core.Kept secondBlocks c (c.secShift n) :=
  Core.Kept.refl.secShift (by decide) (by decide) (by decide) (by decide) (by decide)

theorem Core.kept_secondRest (c : Core) (t : Nat) : Core.Kept secondBlocks c (c.glcRollover.qlAge.missAll t).ageRegs :=
  Core.Kept.refl.secondRest (by decide) (by decide) (by decide) (by decide)

/-! ## The steps -/

theorem Core.heldOr_of_not_indWaits {c : Core} {x : BusAcc} {f : Core → Core} (h : c.indWaits x.ex = false) :
    c.heldOr x f = f c := by
  unfold Core.heldOr
  rw [h]
  rfl

/-- What a rollover does once its second has its label. -/
def Core.secondEnd (c : Core) : Core := (c.glcRollover.qlAge.missAll c.now).ageRegs

theorem Core.kept_secondEnd (c : Core) : Core.Kept secondBlocks c c.secondEnd :=
  Core.Kept.refl.secondRest (by decide) (by decide) (by decide) (by decide)

/-- The second labelled with the value `v` (R41), before what moves with the label moves. -/
def Core.labelled (c : Core) (v : Nat) : Core :=
  { c with setPend := none, dt := v * secDt + c.dt % secDt }.wr STG_DT_STAT.set_pending 0

theorem Core.rolledOver_of_none {c : Core} (h : c.setPend = none) : c.rolledOver = c.secondEnd := by
  unfold Core.rolledOver
  rw [h]
  rfl

theorem Core.rolledOver_of_some {c : Core} {v : Nat} (h : c.setPend = some v) (hs : c.setSkip = false) :
    c.rolledOver = ((c.labelled v).secShift ((v : Int) - c.sec)).secondEnd := by
  unfold Core.rolledOver
  extract_lets l
  have labels : l = (c.labelled v).secShift ((v : Int) - c.sec) := by
    unfold l
    rw [h]
    exact if_neg (by rw [hs]; exact Bool.false_ne_true)
  rw [labels]
  unfold Core.secondEnd
  rfl

theorem Core.labelled_dt (c : Core) (v : Nat) : (c.labelled v).dt = v * secDt + c.dt % secDt := Core.wr_dt ..

theorem Core.labelled_setPend (c : Core) (v : Nat) : (c.labelled v).setPend = none := Core.wr_setPend ..

theorem Core.labelled_pending (c : Core) (v : Nat) : (c.labelled v).rd STG_DT_STAT.set_pending = 0 := Core.rd_wr_same ..

/-- A rollover with no whole second pending leaves device time where it is. -/
theorem Core.rolledOver_dt_of_none {c : Core} (h : c.setPend = none) : c.rolledOver.dt = c.dt := by
  rw [Core.rolledOver_of_none h, (Core.kept_secondEnd c).dt_eq three_notMem_secondBlocks]

/-- One with a whole second pending labels the second with it, and holds no more. -/
theorem Core.rolledOver_label {c : Core} {v : Nat} (h : c.setPend = some v) (hs : c.setSkip = false) :
    c.rolledOver.dt = v * secDt + c.dt % secDt ∧ c.rolledOver.setPend = none ∧
      c.rolledOver.rd STG_DT_STAT.set_pending = 0 := by
  have moved : Core.Kept secondBlocks (c.labelled v) c.rolledOver := by
    rw [Core.rolledOver_of_some h hs]
    exact (Core.kept_secShift _ _).trans (Core.kept_secondEnd _)
  refine ⟨(moved.dt_eq three_notMem_secondBlocks).trans (c.labelled_dt v),
    (moved.setPend_eq three_notMem_secondBlocks).trans (c.labelled_setPend v), ?_⟩
  rw [moved.rd_eq (by decide) (by decide), c.labelled_pending]

/-! ## A rollover and a change of the label -/

/-- Device time before a rollover carries: at the start of the next second. -/
def Core.carried (c : Core) : Core :=
  { c.dtShiftRest with dt := (c.sec + 1) * secDt, dSlices := [], dShift := [], dGroup := 0 }

theorem nanosecondRolloverStep_of_set {c : Core} (h : c.rd STG_DT_STAT.src ≠ srcUnset) :
    nanosecondRolloverStep c = c.carried.rolledOver := if_neg h

theorem Core.carried_setPend (c : Core) : c.carried.setPend = c.setPend :=
  (c.kept_dtShift _ _).setPend_eq three_notMem_secondBlocks

theorem Core.carried_setSkip (c : Core) : c.carried.setSkip = c.setSkip :=
  (c.kept_dtShift _ _).setSkip_eq three_notMem_secondBlocks

theorem Core.carried_dt (c : Core) : c.carried.dt = (c.sec + 1) * secDt := rfl

/-- NANOSECOND_ROLLOVER with no whole second pending. -/
theorem nanosecondRolloverStep_dt {c : Core} (h : c.rd STG_DT_STAT.src ≠ srcUnset) (hp : c.setPend = none) :
    (nanosecondRolloverStep c).dt = (c.sec + 1) * secDt := by
  rw [nanosecondRolloverStep_of_set h, Core.rolledOver_dt_of_none (c.carried_setPend.trans hp), Core.carried_dt]

/-- WHOLE_SECOND_CHANGE takes the pending value as the label of the second that begins. -/
theorem wholeSecondChangeStep_label {c : Core} {v : Nat} (h : c.rd STG_DT_STAT.src ≠ srcUnset) (hp : c.setPend = some v) :
    (wholeSecondChangeStep c).dt = v * secDt ∧ (wholeSecondChangeStep c).setPend = none ∧
      (wholeSecondChangeStep c).rd STG_DT_STAT.set_pending = 0 := by
  have step : wholeSecondChangeStep c = ({ c with setSkip := false } : Core).carried.rolledOver := by
    unfold wholeSecondChangeStep
    rw [hp]
    exact nanosecondRolloverStep_of_set h
  have labelled := Core.rolledOver_label ((Core.carried_setPend { c with setSkip := false }).trans hp)
    (Core.carried_setSkip { c with setSkip := false })
  rwa [Core.carried_dt, Nat.mul_mod_left, Nat.add_zero, ← step] at labelled

/-! ## Setting -/

/-- DT_SET_COMMIT holds its two words as the value that waits (R41). -/
theorem Core.dtSetCommit_effect (c : Core) (ex hi : Nat) (cycle : Bool) :
    (c.dtSetCommit ex hi cycle).setPend = some (c.staged ex (STG_DT_SET_LO.set_lo.addr 0 0) + (hi % 2 ^ 16) * 2 ^ 32) ∧
      (c.dtSetCommit ex hi cycle).rd STG_DT_STAT.set_pending = 1 ∧
      (c.dtSetCommit ex hi cycle).setSkip = cycle ∧ (c.dtSetCommit ex hi cycle).dt = c.dt := by
  unfold Core.dtSetCommit
  extract_lets lo d
  have pending : d.rd STG_DT_STAT.set_pending = 1 := Core.rd_wr_same ..
  have time : d.dt = c.dt := by
    unfold d
    rw [Core.wr_dt, Core.wr_dt, Core.wr_dt]
  exact ⟨rfl, pending, rfl, time⟩

/-! ## Loading -/

/-- The load names a source of device time, and nothing else of its register or its instant. -/
theorem Core.dtSource_effect {c : Core} (h : c.rd STG_DT_STAT.src ≠ srcUnset) :
    ∃ v, v ∈ [srcFrost, srcFreerun, srcSteered, srcHoldover, srcFallback] ∧
      Core.Kept [0x12] (c.wr STG_DT_STAT.src v) c.dtSource := by
  unfold Core.dtSource
  rw [if_neg h]
  extract_lets src d
  refine ⟨src, ?_, Core.Kept.refl.on fun h => h.each fun _ h => h.setGlc (by decide)⟩
  unfold src
  split
  · decide
  · split
    · decide
    · split_ifs <;> decide

/-- The mirrors leave Frost's own registers alone. -/
theorem Core.rd_frostMirror (c : Core) {f : Fld} (hl : f.lo < 32) (ha : inBlocks [3, 0x26] (f.addr 0 0) = false) :
    c.frostMirror.rd f = c.rd f :=
  (Core.Kept.refl.frostMirror (by decide) (by decide) : Core.Kept [3, 0x26] c c.frostMirror).rd_eq hl ha

/-- The Frost time that the load takes. -/
theorem Core.frostTime_load (c : Core) {sub : Nat} (hs : sub < 2 ^ FRS_W_SUB.sub.width) :
    (c.wr FRS_W_SUB.sub sub).frostMirror.frostTime =
      (c.rd FRS_W_SEC_LO.sec_lo + c.rd FRS_W_SEC_HI.sec_hi * 2 ^ 32) * secPU + sub * 2000000000 := by
  unfold Core.frostTime
  rw [Core.rd_frostMirror _ (by decide) (by decide), Core.rd_frostMirror _ (by decide) (by decide),
    Core.rd_frostMirror _ (by decide) (by decide), Core.rd_wr_addr _ _ _ _ _ _ _ _ (by decide) (by decide) (by decide),
    Core.rd_wr_addr _ _ _ _ _ _ _ _ (by decide) (by decide) (by decide), Core.rd_wr_same, Nat.mod_eq_of_lt hs]

theorem Core.dtLoad_effect (c : Core) {sub : Nat} (hs : sub < 2 ^ FRS_W_SUB.sub.width) :
    (c.dtLoad sub).dt = ((c.rd FRS_W_SEC_LO.sec_lo + c.rd FRS_W_SEC_HI.sec_hi * 2 ^ 32) * secPU + sub * 2000000000) * 2 ^ 32 ∧
      (c.dtLoad sub).rd STG_DT_STAT.src ≠ srcUnset := by
  unfold Core.dtLoad
  extract_lets c1 c2
  have set : (c2.wr STG_DT_STAT.src srcFrost).rd STG_DT_STAT.src ≠ srcUnset := by
    rw [Core.rd_wr_same]
    decide
  obtain ⟨v, hv, moved⟩ := Core.dtSource_effect set
  constructor
  · rw [moved.dt_eq (by decide), Core.wr_dt, Core.wr_dt]
    exact congrArg (· * 2 ^ 32) (c.frostTime_load hs)
  · rw [moved.rd_eq (by decide) (by decide), Core.rd_wr_same]
    fin_cases hv <;> decide

/-- DEVICE_TIME_LOAD in step 2 of Course (R39, R421). -/
theorem deviceTimeLoadStep_of_step2 {sub : BitVec 15} {c : Core} (h2 : c.rd STG_STAT.stage = 2) (hs : c.rd STG_STAT.step = 2)
    (hp : c.pclk = true) : deviceTimeLoadStep sub c = (c.dtLoad sub.toNat).wr STG_STAT.step 3 := by
  unfold deviceTimeLoadStep
  rw [h2, hs, hp]
  rfl

/-- Settles O13: the rollover's label and its rest are kept apart from device time by the blocks they touch, and the
load's source is one of the five that R39 names. -/
theorem deviceTimeLabels : Obligations.DeviceTimeLabels := by
  unfold Obligations.DeviceTimeLabels
  refine ⟨?setting, ?carrying, ?changing, ?loading⟩
  case setting =>
    intro s ex hi cycle hr hw
    have step : dtSetCommitStep ex hi cycle s.dev.core = s.dev.core.dtSetCommit ex hi.toNat cycle :=
      Core.heldOr_of_not_indWaits hw
    obtain ⟨pend, bit, skip, dt⟩ := s.dev.core.dtSetCommit_effect ex hi.toNat cycle
    rw [Nat.mod_eq_of_lt hi.isLt] at pend
    refine onRunCore_answers hr ?_
    rw [Dev.act_setPend, Dev.act_rd_key _ _ _ _ _ (by decide), Dev.act_setSkip, Dev.act_dt, step]
    exact ⟨pend, bit, skip, dt⟩
  case carrying =>
    intro s hr hset hp
    refine onRunCore_answers hr ?_
    rw [Dev.act_dt]
    exact nanosecondRolloverStep_dt hset hp
  case changing =>
    intro s v hr hset hp
    refine onRunCore_answers hr ?_
    rw [Dev.act_setPend, Dev.act_rd_key _ _ _ _ _ (by decide), Dev.act_dt]
    exact wholeSecondChangeStep_label hset hp
  case loading =>
    intro s sub hr hstage hstep hclk
    obtain ⟨dt, src⟩ := s.dev.core.dtLoad_effect sub.isLt
    refine onRunCore_answers hr ?_
    rw [Dev.act_dt, Dev.act_rd_key _ _ _ _ _ (by decide), Dev.act_rd_key _ _ _ _ _ (by decide),
      deviceTimeLoadStep_of_step2 hstage hstep hclk, Core.wr_dt, Core.rd_wr_same,
      Core.rd_wr_addr _ _ _ _ _ _ _ _ (by decide) (by decide) (by decide)]
    exact ⟨dt, rfl, src⟩

end Sys2Proof.Machine
end

section
/-! Quality levels and time-of-day frames (R79 to R84). -/

namespace Sys2Proof.Machine

open Sys2Proof

/-! ## One of a list's members -/

theorem Core.each_keeps {α : Type} {Q : Core → Prop} {f : Core → α → Core} {l : List α}
    (keep : ∀ c, ∀ y ∈ l, Q c → Q (f c y)) {c : Core} (h : Q c) : Q (c.each l f) := by
  unfold Core.each
  induction l generalizing c with
  | nil => exact h
  | cons y l ih => exact ih (fun c z hz => keep c z (List.mem_cons_of_mem y hz)) (keep c y List.mem_cons_self h)

/-- What one member's step establishes while the steps keep `Q`, and no member's step undoes, holds after all. -/
theorem Core.each_mem {α : Type} {Q P : Core → Prop} {f : Core → α → Core} {x : α} {l : List α}
    (keepQ : ∀ c, ∀ y ∈ l, Q c → Q (f c y)) (here : ∀ c, Q c → P (f c x))
    (keepP : ∀ c, ∀ y ∈ l, Q c → P c → P (f c y)) (hx : x ∈ l) {c : Core} (h : Q c) : P (c.each l f) := by
  obtain ⟨before, after, rfl⟩ := List.append_of_mem hx
  have reached : Q (c.each before f) := Core.each_keeps (fun c y hy => keepQ c y (List.mem_append_left _ hy)) h
  have stays : Q ((f (c.each before f) x).each after f) ∧ P ((f (c.each before f) x).each after f) :=
    Core.each_keeps (Q := fun c => Q c ∧ P c)
      (fun c y hy hc =>
        have hm : y ∈ before ++ x :: after := List.mem_append_right _ (List.mem_cons_of_mem x hy)
        ⟨keepQ c y hm hc.1, keepP c y hm hc.1 hc.2⟩)
      ⟨keepQ _ x hx reached, here _ reached⟩
  rw [Core.each, List.foldl_append]
  exact stays.2

/-! ## The raw bit of a source that is raised (R470) -/

/-- The raw words of the fault collector. -/
def isRaw (a : Nat) : Prop := 0x20040 ≤ a ∧ a < 0x2004c

/-- From `c` to `d` the raw words are as they were. -/
abbrev Core.RawKept (c d : Core) : Prop := Core.Alike isRaw c d

namespace Core.RawKept

variable {c d : Core}

theorem wr {f : Fld} {v i k : Nat} (h : RawKept c d) (hl : f.lo < 32) (ha : ¬ isRaw (f.addr i k)) : RawKept c (d.wr f v i k) :=
  h.trans (Core.Alike.wr d f v i k hl ha)

theorem regs {e : Core} (h : RawKept c d) (he : e.regs = d.regs) : RawKept c e := h.trans (Core.Alike.of_regs he)

theorem ite {p : Prop} [Decidable p] {e : Core} (h : RawKept c d) (k : RawKept c e) : RawKept c (if p then d else e) := by
  split <;> assumption

theorem on {t : Bool} {f : Core → Core} (h : RawKept c d) (hf : RawKept c (f d)) : RawKept c (d.on t f) := ite hf h

end Core.RawKept

theorem isRaw_raw {k : Nat} (h : k < 3) : isRaw (FLT_RAW.hit.addr 0 k) := by
  simp only [isRaw, Fld.addr, FLT_RAW.hit]
  omega

theorem not_isRaw_after {f : Fld} {i k : Nat} (h : 0x2004c ≤ f.base + f.off) : ¬ isRaw (f.addr i k) := by
  unfold isRaw Fld.addr
  have := Nat.zero_le (i * f.stride)
  have := Nat.zero_le (k * f.step)
  omega

theorem Core.rawKept_fltRefresh (c : Core) : Core.RawKept c c.fltRefresh := by
  unfold Core.fltRefresh
  extract_lets anyUnack escBit nGuard c1 c2 c3
  have h1 : Core.RawKept c c1 := Core.RawKept.wr (Core.Alike.refl _ c) (by decide) (by unfold isRaw; decide)
  have h2 : Core.RawKept c c2 := h1.wr (by decide) (by unfold isRaw; decide)
  have h3 : Core.RawKept c c3 := h2.trans (Core.Alike.each _ _ (fun c k _ =>
    Core.Alike.wr c _ _ _ _ (by decide) (not_isRaw_after (by decide))) _)
  exact h3.wr (by decide) (by unfold isRaw; decide)

theorem Core.rawKept_markUnacked (c : Core) (fs unit : Nat) : Core.RawKept c (c.markUnacked fs unit) := by
  unfold Core.markUnacked
  extract_lets c1 keep c2
  have h1 : Core.RawKept c c1 :=
    Core.RawKept.ite (Core.RawKept.wr (Core.Alike.refl _ c) (by decide) (not_isRaw_after (by decide))) (Core.Alike.refl _ c)
  have h2 : Core.RawKept c c2 := Core.RawKept.ite (h1.regs rfl) h1
  exact h2.wr (by decide) (not_isRaw_after (by decide))

theorem Core.rawKept_recordHit (c : Core) (fs sev action : Nat) (inj sh acted : Bool) (info : Nat) (notify : Bool)
    (acts : List FltAct) (pairs : List (Nat × Nat)) :
    Core.RawKept c (c.recordHit fs sev action inj sh acted info notify acts pairs) := by
  unfold Core.recordHit
  split
  · exact Core.Alike.of_regs rfl
  · exact Core.RawKept.regs (Core.Alike.wr c FLT_EVENT.merged 1 0 0 (by decide) (by unfold isRaw; decide)) rfl

theorem bitOf_putBit_same (x b : Nat) : bitOf (putBit x b true) b = true := by
  unfold bitOf putBit setBit
  rw [if_pos rfl, Nat.testBit_or, Nat.shiftLeft_eq, Nat.one_mul, Nat.testBit_two_pow_self, Bool.or_true]

/-- A source that the variant has, raised for a unit that it has, shows in its raw bit. -/
theorem Core.raiseInfo_raw (c : Core) {fs unit info : Nat} (inj : Bool)
    (h : (fsSpare fs || decide (96 ≤ fs) || c.part.fsAbsent fs || !c.part.fsUnitOk fs info) = false) :
    bitOf ((c.raiseInfo fs unit info inj).rd FLT_RAW.hit 0 (fs / 32)) (fs % 32) = true := by
  have hfs : fs < 96 := by
    by_contra hc
    rw [decide_eq_true (Nat.not_lt.mp hc)] at h
    simp at h
  unfold Core.raiseInfo
  rw [if_neg (by rw [h]; exact Bool.false_ne_true)]
  extract_lets cfgSev action mask sev sh c1 c2 notify act acted acts c3 c4 u c5 starts m c6 c7 c8
  have set : bitOf (c1.rd FLT_RAW.hit 0 (fs / 32)) (fs % 32) = true := by
    unfold c1 Core.wrBit
    rw [Core.rd_wr_same]
    unfold bitOf
    rw [Nat.testBit_mod_two_pow]
    have := bitOf_putBit_same (c.rd FLT_RAW.hit 0 (fs / 32)) (fs % 32)
    unfold bitOf at this
    rw [this, Bool.and_true, decide_eq_true (by exact Nat.mod_lt _ (by decide))]
  have h2 : Core.RawKept c1 c2 := Core.RawKept.wr (Core.Alike.refl _ c1) (by decide) (not_isRaw_after (by decide))
  have h3 : Core.RawKept c1 c3 := h2.on (h2.wr (by decide) (by unfold isRaw; decide))
  have h4 : Core.RawKept c1 c4 := h3.trans (Core.rawKept_recordHit _ _ _ _ _ _ _ _ _ _ _)
  have h5 : Core.RawKept c1 c5 := h4.trans (Core.rawKept_markUnacked _ _ _)
  have h6 : Core.RawKept c1 c6 := h5.regs rfl
  have h7 : Core.RawKept c1 c7 := h6.on (h6.wr (by decide) (not_isRaw_after (by decide)))
  have h8 : Core.RawKept c1 c8 := Core.RawKept.ite (h7.regs rfl) h7
  have all := Core.RawKept.ite (p := sev = 0) h2 (Core.RawKept.ite (p := (sh || decide (sev < 2)) = true) h4
    (h8.trans (Core.rawKept_fltRefresh c8)))
  rw [all FLT_RAW.hit 0 (fs / 32) (isRaw_raw (by omega)) (by decide)]
  exact set

/-! ## What an evaluation of the candidates leaves alone (R73, R84) -/

/-- From `c` to `d` every candidate's received rank and `tod_ok` are as they were. -/
def Core.QlSame (c d : Core) : Prop :=
  ∀ i < 24, d.rd REF_QL_STAT.rank i = c.rd REF_QL_STAT.rank i ∧ d.rd REF_STATE.tod_ok i = c.rd REF_STATE.tod_ok i

/-- A field of a candidate that is neither of the two, or one of a block behind the candidates'. -/
def Fld.sparesQl (f : Fld) : Bool :=
  f.lo < 32 && (0x110000 ≤ f.base || (f.base = 0x100000 && f.stride = 0x400 && f.off < 0x400 && f.off ≠ 0x64 &&
    (f.off ≠ 0x40 || f.lo ≠ 12)))

theorem Fld.key_ne_of_sparesQl {f : Fld} (h : f.sparesQl = true) {i : Nat} (hi : i < 24) (j : Nat) :
    REF_QL_STAT.rank.key i 0 ≠ f.key j 0 ∧ REF_STATE.tod_ok.key i 0 ≠ f.key j 0 := by
  simp only [Fld.sparesQl, Bool.and_eq_true, Bool.or_eq_true, decide_eq_true_eq, ne_eq, decide_not, Bool.not_eq_true',
    decide_eq_false_iff_not] at h
  obtain ⟨hl, hb | ⟨⟨⟨⟨hb, hs⟩, ho⟩, ho64⟩, ho40⟩⟩ := h
  · simp only [Fld.key, Fld.addr, REF_QL_STAT.rank, REF_STATE.tod_ok]
    have := Nat.zero_le (j * f.stride)
    omega
  · simp only [Fld.key, Fld.addr, REF_QL_STAT.rank, REF_STATE.tod_ok, hb, hs]
    omega

namespace Core.QlSame

variable {c d e : Core}

theorem refl : QlSame c c := fun _ _ => ⟨rfl, rfl⟩

theorem trans (h : QlSame c d) (k : QlSame d e) : QlSame c e := fun i hi =>
  ⟨(k i hi).1.trans (h i hi).1, (k i hi).2.trans (h i hi).2⟩

theorem regs (h : QlSame c d) (he : e.regs = d.regs) : QlSame c e :=
  h.trans fun _ _ => ⟨by unfold Core.rd; rw [he], by unfold Core.rd; rw [he]⟩

theorem wr {f : Fld} {v j : Nat} (h : QlSame c d) (hf : f.sparesQl = true) : QlSame c (d.wr f v j) :=
  h.trans fun _ hi => ⟨Core.rd_wr_ne _ _ _ _ _ _ _ _ (Fld.key_ne_of_sparesQl hf hi j).1,
    Core.rd_wr_ne _ _ _ _ _ _ _ _ (Fld.key_ne_of_sparesQl hf hi j).2⟩

theorem ite {p : Prop} [Decidable p] (h : QlSame c d) (k : QlSame c e) : QlSame c (if p then d else e) := by split <;> assumption

theorem on {t : Bool} {f : Core → Core} (h : QlSame c d) (hf : ∀ {e}, QlSame c e → QlSame c (f e)) : QlSame c (d.on t f) :=
  ite (hf h) h

theorem each {α : Type} {l : List α} {f : Core → α → Core} (h : QlSame c d)
    (hf : ∀ {e} x, QlSame c e → QlSame c (f e x)) : QlSame c (d.each l f) := Core.each_keeps (fun _ x _ h => hf x h) h

/-- What changes only registers outside the candidates' blocks. -/
theorem alike {p : Nat → Prop} (h : QlSame c d) (ha : Core.Alike p d e) (hp : ∀ a, 0x100000 ≤ a → a < 0x110000 → p a) :
    QlSame c e := by
  refine h.trans fun i hi => ⟨ha _ _ _ (hp _ ?_ ?_) (by decide), ha _ _ _ (hp _ ?_ ?_) (by decide)⟩ <;>
  · simp only [Fld.addr, REF_QL_STAT.rank, REF_STATE.tod_ok]
    omega

theorem raise {fs u : Nat} (h : QlSame c d) : QlSame c (d.raise fs u) :=
  h.alike (Core.raise_hit d fs u).1 fun a _ _ => by
    unfold inFlt
    omega

/-- The two counts of items lost (R224, R521). -/
theorem lost (h : QlSame c d) (v : Nat) : QlSame c (d.wr STG_FAB_DROP.dropped v) ∧ QlSame c (d.wr TIM_DEAD_CNT.count v) :=
  ⟨h.alike (p := fun a => a ≠ STG_FAB_DROP.dropped.addr 0 0)
      (Core.Alike.wr d STG_FAB_DROP.dropped v 0 0 (by decide) (fun h => h rfl)) fun a ha _ hd => by
        simp only [Fld.addr, STG_FAB_DROP.dropped] at hd
        omega,
    h.wr (by decide)⟩

theorem emit {rt u a : Nat} {l : List Nat} (h : QlSame c d) : QlSame c (d.emit rt u a l) := by
  unfold Core.emit
  split
  · exact h
  · refine ite (h.regs rfl) ?_
    unfold Core.holdItem
    exact ite (ite (h.lost _).1 (h.regs rfl)) (ite (ite (h.lost _).2 (h.regs rfl)) (ite (h.regs rfl)
      (ite (h.lost _).1 (ite (h.lost _).1 (h.regs rfl)))))

/-! ### The pulse aligners (R208) -/

theorem palLow (h : QlSame c d) : QlSame c d.palLow := h.each fun _ h => h.wr (by decide)

theorem paGoto {a new cause : Nat} (h : QlSame c d) : QlSame c (d.paGoto a new cause) := by
  unfold Core.paGoto
  extract_lets old c1 c2 c3 c4 c5 x stop c6 c7
  have h1 : QlSame c c1 := h.wr (by decide)
  have h2 : QlSame c c2 := h1.wr (by decide)
  have h3 : QlSame c c3 := h2.on fun h => h.wr (by decide)
  have h4 : QlSame c c4 := h3.on fun h => (h.wr (by decide)).raise
  have h5 : QlSame c c5 := h4.on fun h => h.wr (by decide)
  have h6 : QlSame c c6 := ite (h5.regs rfl) (ite (h5.regs rfl) h5)
  have h7 : QlSame c c7 := h6.on fun h => (h.wr (by decide)).wr (by decide)
  exact ite h1 (palLow (emit h7))

theorem palEval {a : Nat} (h : QlSame c d) : QlSame c (d.palEval a) := by
  unfold Core.palEval
  extract_lets st c1 st1 ok
  have h1 : QlSame c c1 := ite h.paGoto h
  exact ite h (ite (ite h h.paGoto) (ite h.paGoto (ite h (ite (ite h1 h1.paGoto) (ite h1.paGoto
    (ite (ite h1.paGoto (ite h1.paGoto h1)) h1))))))

theorem palEvalAll (h : QlSame c d) : QlSame c d.palEvalAll := h.each fun _ h => h.palEval

/-! ### The candidates (R73, R84, R85) -/

theorem wrPair {lo hi : Fld} {z : Int} {j : Nat} (h : QlSame c d) (hl : lo.sparesQl = true) (hh : hi.sparesQl = true) :
    QlSame c (d.wrPair lo hi z j) := (h.wr hl).wr hh

theorem candRegs {i : Nat} (h : QlSame c d) : QlSame c (d.candRegs i) := by
  unfold Core.candRegs
  extract_lets x c1 c2 c3
  have h2 : QlSame c c2 := wrPair (h.wrPair (by decide) (by decide)) (by decide) (by decide)
  have h3 : QlSame c c3 := h2.wr (by decide)
  exact h3.wr (by decide)

theorem pairsClear (h : QlSame c d) : QlSame c d.pairsClear := by
  unfold Core.pairsClear Core.disRefresh
  extract_lets c1
  have h1 : QlSame c c1 := h.each fun _ h => h.each fun _ h => ite (h.regs rfl) h
  exact h1.each fun _ h => ((h.wr (f := REF_DISAGREE.mask) (by decide)).wr (f := REF_STATE.disagree) (by decide)).wr (by decide)

theorem candGoto {i new cause : Nat} (h : QlSame c d) : QlSame c (d.candGoto i new cause) := by
  unfold Core.candGoto
  extract_lets old c1 c2 x time c3 c4 c5 c6 c7 c8 c9 c10 c11 c12 c13 c14 c15
  have h1 : QlSame c c1 := h.wr (by decide)
  have h2 : QlSame c c2 := h1.wr (by decide)
  have h4 : QlSame c c4 := wr (candRegs (h2.regs rfl)) (by decide)
  have h5 : QlSame c c5 := h2.regs rfl
  have h6 : QlSame c c6 := h2.on fun h => h.wr (by decide)
  have h7 : QlSame c c7 := ite (h4.wr (by decide)) (ite (h5.wr (by decide)) (ite (h6.regs rfl) h2))
  have h8 : QlSame c c8 := h7.on fun h => h.wr (by decide)
  have h9 : QlSame c c9 := h8.on fun h => h.wr (by decide)
  have h10 : QlSame c c10 := h9.on fun h => h.wr (by decide)
  have h11 : QlSame c c11 := h10.on fun h => h.wr (by decide)
  have h12 : QlSame c c12 := h11.pairsClear
  have h13 : QlSame c c13 := h12.on fun h => h.raise
  have h14 : QlSame c c14 := h13.on fun h => h.raise
  have h15 : QlSame c c15 := h14.on fun h => h.raise
  exact ite h1 (palEvalAll (emit h15))

theorem candOnce {i : Nat} {act qual wtr : Bool} (h : QlSame c d) : QlSame c (d.candOnce i act qual wtr) := by
  unfold Core.candOnce
  extract_lets x st
  refine ite h ?_
  split
  · exact h.candGoto
  · refine ite h.candGoto (ite (ite h.candGoto h.candGoto) (ite h.candGoto ?_))
    split
    · exact h.candGoto
    · exact ite (ite h.candGoto h.candGoto) (ite (ite h.candGoto h.candGoto) (ite h.candGoto h.candGoto))

theorem candEval {i : Nat} {act qual wtr : Bool} (h : QlSame c d) : QlSame c (d.candEval i act qual wtr) :=
  ite h.candOnce.candOnce h.candOnce

theorem rankRefresh {i : Nat} (h : QlSame c d) : QlSame c (d.rankRefresh i) := by
  unfold Core.rankRefresh
  extract_lets old new c1
  have h1 : QlSame c c1 := ite h (on (wr (h.wr (by decide)) (by decide)) fun h => h.raise)
  exact h1.candEval

end Core.QlSame

/-! ## The received rank (R81, R83) -/

theorem Core.qlSame_setRank (c : Core) (i r : Nat) : Core.QlSame (c.wr REF_QL_STAT.rank r i) (c.setRank i r) :=
  Core.QlSame.refl.rankRefresh

theorem Core.setRank_same (c : Core) {i r : Nat} (hi : i < 24) : (c.setRank i r).rd REF_QL_STAT.rank i = r % 16 :=
  (c.qlSame_setRank i r i hi).1.trans (Core.rd_wr_same ..)

theorem Core.setRank_other (c : Core) {i j r : Nat} (hi : i < 24) (hj : i ≠ j) :
    (c.setRank j r).rd REF_QL_STAT.rank i = c.rd REF_QL_STAT.rank i :=
  (c.qlSame_setRank j r i hi).1.trans
    (Core.rd_wr_addr _ _ _ _ _ _ _ _ (by decide) (by decide) (by simp only [Fld.addr, REF_QL_STAT.rank]; omega))

theorem Core.setRank_todOk (c : Core) {i r : Nat} (hi : i < 24) :
    (c.setRank i r).rd REF_STATE.tod_ok i = c.rd REF_STATE.tod_ok i :=
  (c.qlSame_setRank i r i hi).2.trans
    (Core.rd_wr_addr _ _ _ _ _ _ _ _ (by decide) (by decide) (by simp only [Fld.addr, REF_QL_STAT.rank, REF_STATE.tod_ok]; omega))

/-! ## The end of a command -/

/-- The registers of the candidates are none that the end of a command writes. -/
theorem not_inSettle_ref {f : Fld} {i : Nat} (hf : (f.base = 0x100000 && f.stride = 0x400 && f.off < 0x400) = true)
    (hi : i < 24) :
    ¬ inSettle (f.addr i 0) := by
  simp only [Bool.and_eq_true, decide_eq_true_eq] at hf
  obtain ⟨⟨hb, hs⟩, ho⟩ := hf
  simp only [inSettle, Fld.addr, GLC_STORE_STAT.dirty, MTL_STAT.store_deferred, STG_STAT.store_busy, hb, hs]
  omega

theorem Item.mem_insertBy {x y : Item} {l : List Item} : y ∈ x.insertBy l ↔ y = x ∨ y ∈ l := by
  induction l with
  | nil => exact List.mem_cons
  | cons z l ih =>
    unfold Item.insertBy
    split
    · exact List.mem_cons
    · rw [List.mem_cons, ih, List.mem_cons]
      exact or_left_comm

theorem Item.mem_foldl_insertBy {y : Item} {m : List Item} : ∀ {l : List Item}, y ∈ m ∨ y ∈ l →
    y ∈ m.foldl (fun l x => x.insertBy l) l := by
  induction m with
  | nil => exact fun h => h.resolve_left List.not_mem_nil
  | cons x m ih =>
    intro l h
    refine ih ?_
    rw [Item.mem_insertBy]
    rcases h with hm | hl
    · exact (List.mem_cons.mp hm).elim (fun hx => .inr (.inl hx)) .inl
    · exact .inr (.inr hl)

/-- The merge stage orders the items, and loses none. -/
theorem Core.mem_outOrder {c : Core} {n : Nat} {y : Item} (h : y ∈ c.outbox) : y ∈ (c.outOrder n).outbox := by
  rw [← List.take_append_drop n c.outbox, List.mem_append] at h
  unfold Core.outOrder
  rcases h with old | new
  · exact List.mem_append_left _ (List.mem_append_left _ old)
  · cases he : y.epoch.isSome
    · exact List.mem_append_right _ (Item.mem_foldl_insertBy
        (.inl (List.mem_filter.mpr ⟨new, by rw [← Option.not_isSome, he]; rfl⟩)))
    · exact List.mem_append_left _ (List.mem_append_right _ (List.mem_filter.mpr ⟨new, he⟩))

/-! ## The steps -/

theorem Core.mem_qlUsers {c : Core} {src idx i : Nat} (hi : i < 24) (hp : c.part.cand i = true) (hs : c.rd REF_QL_CFG.src i = src)
    (hx : c.rd REF_QL_CFG.src_idx i = idx) : i ∈ c.qlUsers src idx := by
  refine List.mem_filter.mpr ⟨List.mem_range.mpr hi, ?_⟩
  rw [hp, hs, hx, decide_eq_true rfl, decide_eq_true rfl]
  rfl

theorem Core.of_mem_qlUsers {c : Core} {src idx i : Nat} (h : i ∈ c.qlUsers src idx) : i < 24 ∧ c.part.cand i = true := by
  obtain ⟨hi, hc⟩ := List.mem_filter.mp h
  simp only [Bool.and_eq_true] at hc
  exact ⟨List.mem_range.mp hi, hc.1.1⟩

/-- ESMC_QL_TIMEOUT (R81). -/
theorem esmcQlTimeoutStep_rank {c : Core} {lane : Fin 4} {i : Nat} (hi : i < 24) (hu : i ∈ c.qlUsers 1 lane) :
    (esmcQlTimeoutStep lane c).rd REF_QL_STAT.rank i = 15 := by
  refine Core.each_mem (Q := fun _ => True) (P := fun d => d.rd REF_QL_STAT.rank i = 15) (fun _ _ _ _ => trivial)
    (fun d _ => d.setRank_same hi) (fun d j _ _ hd => ?_) hu trivial
  by_cases hj : i = j
  · subst hj
    exact d.setRank_same hi
  · exact (d.setRank_other hi hj).trans hd

/-- TOD_TIMEOUT where frames give the rank (R83). -/
theorem todTimeoutStep_of_frames {c : Core} {i : Fin 24} (hp : c.part.cand i = true) (hs : c.rd REF_QL_CFG.src i = 3)
    (hr : c.rd REF_QL_CFG.tod_raw i = 0) : todTimeoutStep i c = (c.wr REF_STATE.tod_ok 0 i).setRank i 15 := by
  have other {f : Fld} (hl : f.lo < 32) (ha : ∀ i, f.addr i 0 ≠ REF_STATE.tod_ok.addr i 0) :
      (c.wr REF_STATE.tod_ok 0 i).rd f i = c.rd f i := Core.rd_wr_addr _ _ _ _ _ _ _ _ (by decide) hl (ha i)
  unfold todTimeoutStep
  rw [hp, if_neg (by decide)]
  extract_lets d
  refine if_pos ?_
  unfold Core.rdB
  rw [other (by decide) (by simp only [Fld.addr, REF_QL_CFG.src, REF_STATE.tod_ok]; omega), hs,
    other (by decide) (by simp only [Fld.addr, REF_QL_CFG.tod_raw, REF_STATE.tod_ok]; omega), hr]
  rfl

/-- A ToD pin's link with its credits passes on what its receiver has for some candidate (R43). -/
theorem Core.todItem_of_room {c : Core} {pin : Nat} {bytes : List Byte} {users : List Nat} {f : Core → Nat → Core} {i : Nat}
    (hi : i ∈ users) (hroom : c.todRoom pin bytes = true) :
    ∃ x, c.todItem pin bytes users f = (c.setLink (140 + pin) x).each users f := by
  unfold Core.todRoom at hroom
  rw [Bool.and_eq_true, Bool.not_eq_true', decide_eq_true_eq] at hroom
  obtain ⟨hpend, hfit⟩ := hroom
  refine ⟨{ c.link (140 + pin) with used := (c.link (140 + pin)).used + (1 + (bytes.length + 14) / 15) }, ?_⟩
  have taken : c.dropTake (140 + pin) (1 + (bytes.length + 14) / 15) = (c.setLink (140 + pin)
      { c.link (140 + pin) with used := (c.link (140 + pin)).used + (1 + (bytes.length + 14) / 15) }, true) := by
    refine if_neg ?_
    rw [hpend, Bool.false_or, decide_eq_true_eq]
    omega
  unfold Core.todItem
  rw [taken, List.isEmpty_eq_false_iff.mpr (List.ne_nil_of_mem hi)]
  rfl

/-- What a frame does to one candidate (R83). -/
def Core.todFrame (bytes : List Byte) (c : Core) (i : Nat) : Core :=
  match todParse bytes with
  | some f => c.setCand i { c.cand i with tod := some f }
  | none => (c.wr REF_EVENT.tod_error 1 i).raise 5 i

theorem Core.todFrame_of_some {bytes : List Byte} {f : TodFrame} (hf : todParse bytes = some f) :
    Core.todFrame bytes = fun c i => c.setCand i { c.cand i with tod := some f } := by
  unfold Core.todFrame
  rw [hf]

theorem Core.todFrame_of_none {bytes : List Byte} (hf : todParse bytes = none) :
    Core.todFrame bytes = fun c i => (c.wr REF_EVENT.tod_error 1 i).raise 5 i := by
  unfold Core.todFrame
  rw [hf]

/-- A frame that begins with the sync pattern, on a link with its credits, for the candidates that parse it (R83). -/
theorem todFrameRxStep_of_room {c : Core} {pin : Fin 2} {bytes : List Byte} {i : Nat} (hsync : fieldLE bytes 0 2 = 0x5AA5)
    (hroom : c.todRoom pin bytes = true) (hu : i ∈ c.qlUsers 3 pin) (hr : c.rd REF_QL_CFG.tod_raw i = 0) :
    ∃ x l, (∀ j ∈ l, j < 24 ∧ c.part.cand j = true) ∧ i ∈ l ∧
      todFrameRxStep pin bytes c = (c.setLink (140 + pin) x).each l (Core.todFrame bytes) := by
  have hi : i ∈ (c.qlUsers 3 pin).filter (fun i => !c.rdB REF_QL_CFG.tod_raw i) :=
    List.mem_filter.mpr ⟨hu, by unfold Core.rdB; rw [hr]; rfl⟩
  unfold todFrameRxStep
  rw [if_neg (not_not.mpr hsync)]
  obtain ⟨x, hx⟩ := Core.todItem_of_room hi hroom
  exact ⟨x, _, fun j hj => Core.of_mem_qlUsers (List.mem_filter.mp hj).1, hi, hx⟩

/-- A frame that passes its checks waits (R83). -/
theorem todFrameRxStep_kept {c : Core} {pin : Fin 2} {bytes : List Byte} {i : Nat} {f : TodFrame}
    (hsync : fieldLE bytes 0 2 = 0x5AA5) (hroom : c.todRoom pin bytes = true) (hu : i ∈ c.qlUsers 3 pin)
    (hr : c.rd REF_QL_CFG.tod_raw i = 0) (hf : todParse bytes = some f) : ((todFrameRxStep pin bytes c).cand i).tod = some f := by
  obtain ⟨x, l, _, hi, hx⟩ := todFrameRxStep_of_room hsync hroom hu hr
  rw [hx, Core.todFrame_of_some hf]
  refine Core.each_mem (Q := fun _ => True) (P := fun d => (d.cand i).tod = some f) (fun _ _ _ _ => trivial)
    (fun d _ => ?_) (fun d j _ _ hd => ?_) hi trivial
  · rw [Core.cand_setCand, if_pos rfl]
  · rw [Core.cand_setCand]
    split
    · rfl
    · exact hd

theorem Core.raise_part (c : Core) (fs u : Nat) : (c.raise fs u).part = c.part := by
  have h := congrArg Core.part (c.raise_hit fs u).2
  exact h

theorem Core.raise_cand (c : Core) (fs u i : Nat) : (c.raise fs u).cand i = c.cand i := by
  have h := congrArg (fun c : Core => c.cand i) (c.raise_hit fs u).2
  exact h

theorem Core.raise_todError (c : Core) {fs u i : Nat} (hi : i < 24) :
    (c.raise fs u).rd REF_EVENT.tod_error i = c.rd REF_EVENT.tod_error i :=
  (c.raise_hit fs u).1 _ _ _ (by simp only [inFlt, Fld.addr, REF_EVENT.tod_error]; omega) (by decide)

theorem Core.raise5_raw {c : Core} {i : Nat} (hi : i < 24) (hp : c.part.cand i = true) :
    bitOf ((c.raise 5 i).rd FLT_RAW.hit 0 0) 5 = true := by
  refine c.raiseInfo_raw false (fs := 5) ?_
  have unit : c.part.fsUnitOk 5 i = true := by
    unfold Part.fsUnitOk
    rw [if_pos (by decide), hp, decide_eq_true hi]
    rfl
  have here : c.part.fsAbsent 5 = false := by
    unfold Part.fsAbsent
    exact Bool.and_false _
  rw [unit, here]
  rfl

/-- A frame that fails a check is an error of the candidate, and raises FS5 (R83). -/
theorem todFrameRxStep_rejects {c : Core} {pin : Fin 2} {bytes : List Byte} {i : Nat}
    (hsync : fieldLE bytes 0 2 = 0x5AA5) (hroom : c.todRoom pin bytes = true) (hu : i ∈ c.qlUsers 3 pin)
    (hr : c.rd REF_QL_CFG.tod_raw i = 0) (hf : todParse bytes = none) :
    (todFrameRxStep pin bytes c).rd REF_EVENT.tod_error i = 1 ∧
      bitOf ((todFrameRxStep pin bytes c).rd FLT_RAW.hit 0 0) 5 = true := by
  obtain ⟨x, l, hl, hi, hx⟩ := todFrameRxStep_of_room hsync hroom hu hr
  obtain ⟨hi24, hpart⟩ := hl i hi
  rw [hx, Core.todFrame_of_none hf]
  refine Core.each_mem (Q := fun d => d.part = c.part)
    (P := fun d => d.rd REF_EVENT.tod_error i = 1 ∧ bitOf (d.rd FLT_RAW.hit 0 0) 5 = true)
    (fun d j _ hd => ?_) (fun d hd => ⟨?_, ?_⟩) (fun d j hj hd he => ⟨?_, ?_⟩) hi rfl
  · rw [Core.raise_part, Core.wr_part, hd]
  · rw [Core.raise_todError _ hi24, Core.rd_wr_same]
    rfl
  · exact Core.raise5_raw hi24 (by rw [Core.wr_part, hd, hpart])
  · rw [Core.raise_todError _ hi24]
    by_cases hij : i = j
    · subst hij
      exact Core.rd_wr_same ..
    · rw [Core.rd_wr_addr _ _ _ _ _ _ _ _ (by decide) (by decide) (by simp only [Fld.addr, REF_EVENT.tod_error]; omega)]
      exact he.1
  · exact Core.raise5_raw (hl j hj).1 (by rw [Core.wr_part, hd, (hl j hj).2])

/-- A frame rejected: none waits (R83). -/
theorem Core.todReject_effect (c : Core) {i : Nat} (hi : i < 24) :
    ((c.todReject i).cand i).tod = none ∧ (c.todReject i).rd REF_EVENT.tod_error i = 1 := by
  unfold Core.todReject
  constructor
  · rw [Core.raise_cand, Core.cand_wr, Core.cand_setCand, if_pos rfl]
  · rw [Core.raise_todError _ hi, Core.rd_wr_same]
    rfl

/-! ### Raw groups (R300) -/

/-- While PCLK runs, a record emitted for a stream with a queue waits at the end of the items. -/
theorem Core.emit_of_queue {c : Core} {rt u a q : Nat} {l : List Nat} (hq : c.streamQueue rt u = some q) (hp : c.pclk = true) :
    c.emit rt u a l = { c with outbox := c.outbox ++ [{ rtype := rt, unit := u, addr := a, body := l }] } := by
  unfold Core.emit
  rw [hq]
  exact if_pos hp

theorem Core.emit_of_none {c : Core} {rt u a : Nat} {l : List Nat} (hq : c.streamQueue rt u = none) : c.emit rt u a l = c := by
  unfold Core.emit
  rw [hq]

/-- The items apart, `d` is `c`. -/
def Core.OutboxOf (c d : Core) : Prop := ∃ l, d = { c with outbox := l }

theorem Core.OutboxOf.emit {c d : Core} {rt u a : Nat} {l : List Nat} (h : Core.OutboxOf c d) (hp : c.pclk = true) :
    Core.OutboxOf c (d.emit rt u a l) ∧ ∀ y ∈ d.outbox, y ∈ (d.emit rt u a l).outbox := by
  obtain ⟨m, rfl⟩ := h
  cases hq : Core.streamQueue { c with outbox := m } rt u with
  | none =>
    rw [Core.emit_of_none hq]
    exact ⟨⟨m, rfl⟩, fun _ hy => hy⟩
  | some q =>
    rw [Core.emit_of_queue hq hp]
    exact ⟨⟨_, rfl⟩, fun _ hy => List.mem_append_left _ hy⟩

/-- A raw group makes a TOD_FRAME record of each candidate that takes the pin's bytes as they are (R83). -/
theorem todRawGroupStep_record {c : Core} {pin : Fin 2} {t : Nat} {b : Byte} {bytes : List Byte} {i q : Nat}
    (hp : c.pclk = true) (hu : i ∈ c.qlUsers 3 pin) (hr : c.rd REF_QL_CFG.tod_raw i = 1)
    (hroom : c.todRoom pin ((b :: bytes).take 105) = true) (hq : c.streamQueue 0x12 i = some q) :
    ∃ y ∈ (todRawGroupStep pin t (b :: bytes) c).outbox, y.rtype = 0x12 ∧ y.unit = i := by
  have hi : i ∈ (c.qlUsers 3 pin).filter (fun i => c.rdB REF_QL_CFG.tod_raw i) :=
    List.mem_filter.mpr ⟨hu, by unfold Core.rdB; rw [hr]; rfl⟩
  unfold todRawGroupStep
  extract_lets g n
  rw [if_neg (by simp [n, g])]
  obtain ⟨x, hx⟩ := Core.todItem_of_room hi hroom
  rw [hx]
  refine Core.each_mem (Q := Core.OutboxOf (c.setLink (140 + pin) x))
    (P := fun d => ∃ y ∈ d.outbox, y.rtype = 0x12 ∧ y.unit = i)
    (fun d j _ hd => (hd.emit hp).1) (fun d hd => ?_) (fun d j _ hd he => ?_) hi ⟨c.outbox, rfl⟩
  · obtain ⟨m, rfl⟩ := hd
    have hq' : Core.streamQueue { c.setLink (140 + pin) x with outbox := m } 0x12 i = some q := hq
    rw [Core.emit_of_queue hq' hp]
    exact ⟨_, List.mem_append_right _ List.mem_cons_self, rfl, rfl⟩
  · obtain ⟨y, hy, hrt⟩ := he
    exact ⟨y, (hd.emit hp).2 y hy, hrt⟩

/-- Settles O21: each step goes through the candidates that take their quality level there, and what it does for one of
them no other undoes. -/
theorem qualityLevels : Obligations.QualityLevels := by
  unfold Obligations.QualityLevels
  refine ⟨?esmc, ?tod, ?keeps, ?rejects, ?labels, ?raw⟩
  case esmc =>
    intro s lane i hr hp hs hx
    refine onRunCore_answers hr ?_
    rw [Dev.act_rd _ _ _ _ _ (by decide) (not_inSettle_ref (by decide) i.isLt)]
    exact esmcQlTimeoutStep_rank i.isLt (Core.mem_qlUsers i.isLt hp hs hx)
  case tod =>
    intro s i hr hp hs hraw
    refine onRunCore_answers hr ?_
    rw [Dev.act_rd _ _ _ _ _ (by decide) (not_inSettle_ref (by decide) i.isLt),
      Dev.act_rd _ _ _ _ _ (by decide) (not_inSettle_ref (by decide) i.isLt), todTimeoutStep_of_frames hp hs hraw]
    exact ⟨Core.setRank_same _ i.isLt, (Core.setRank_todOk _ i.isLt).trans (Core.rd_wr_same ..)⟩
  case keeps =>
    intro s pin i bytes hr hp hs hx hraw hroom hsync hsome
    obtain ⟨f, hf⟩ := Option.isSome_iff_exists.mp hsome
    refine onRunCore_answers hr ?_
    rw [Dev.act_cand, hf]
    exact todFrameRxStep_kept hsync hroom (Core.mem_qlUsers i.isLt hp hs hx) hraw hf
  case rejects =>
    intro s pin i bytes hr hp hs hx hraw hroom hsync hnone
    refine onRunCore_answers hr ?_
    rw [Dev.act_rd _ _ _ _ _ (by decide) (not_inSettle_ref (by decide) i.isLt), Dev.act_rd_key _ _ _ _ _ (by decide)]
    exact todFrameRxStep_rejects hsync hroom (Core.mem_qlUsers i.isLt hp hs hx) hraw hnone
  case labels =>
    intro s i f hr hf
    have step : todLabelTimeoutStep i s.dev.core = s.dev.core.todReject i := if_pos (by rw [hf]; rfl)
    refine onRunCore_answers hr ?_
    rw [Dev.act_rd _ _ _ _ _ (by decide) (not_inSettle_ref (by decide) i.isLt), Dev.act_cand, step]
    exact s.dev.core.todReject_effect i.isLt
  case raw =>
    intro s pin i t b bytes q hr hclk hp hs hx hraw hroom hq
    obtain ⟨y, hy, hrt, hunit⟩ := todRawGroupStep_record (t := t) hclk (Core.mem_qlUsers i.isLt hp hs hx) hraw hroom hq
    refine onRunCore_answers hr ?_
    rw [Dev.act_outbox]
    refine List.any_eq_true.mpr ⟨y, Core.mem_outOrder hy, ?_⟩
    rw [hrt, hunit, decide_eq_true rfl, decide_eq_true rfl]
    rfl

end Sys2Proof.Machine
end

section
/-! The host's commands of a queue (R304, R305, R307). -/

namespace Sys2Proof.Machine

open Sys2Proof

/-! ## What a queue's registers show (R305, R307) -/

theorem Core.queueRegs_queues (c : Core) (q : Nat) : (c.queueRegs q).queues = c.queues := by
  unfold Core.queueRegs Core.wrB Core.wrBit
  rw [Core.wr_queues, Core.wr_queues, Core.wr_queues, Core.wr_queues, Core.wr_queues]

theorem Core.queueRegs_shadow (c : Core) (q : Nat) : (c.queueRegs q).shadow = c.shadow := by
  unfold Core.queueRegs Core.wrB Core.wrBit
  rw [Core.wr_shadow, Core.wr_shadow, Core.wr_shadow, Core.wr_shadow, Core.wr_shadow]

theorem Core.queueRegs_queue (c : Core) (q j : Nat) : (c.queueRegs q).queue j = c.queue j := by
  unfold Core.queue
  rw [Core.queueRegs_queues]

/-- A notice word is none of queue `q`'s own registers. -/
theorem Core.rd_notice {f : Fld} {q : Nat} (hq : q < 128) (hl : f.lo < 32) (hb : f.base = 0x220000) (hs : f.stride = 0x40)
    (ho : f.off < 0x40) (c : Core) (v k : Nat) : (c.wr QMG_NOTICE.pend v 0 k).rd f q = c.rd f q := by
  refine Core.rd_wr_addr _ _ _ _ _ _ _ _ (by decide) hl ?_
  simp only [Fld.addr, QMG_NOTICE.pend, hb, hs]
  omega

theorem Core.queueRegs_markValid (c : Core) {q : Nat} (hq : q < 128) :
    (c.queueRegs q).rd QMG_Q_STAT.mark_valid q = b2n (c.queue q).mark.isSome := by
  unfold Core.queueRegs
  extract_lets x unread c1 c2 c3 c4
  unfold Core.wrBit
  rw [Core.rd_notice hq (by decide) rfl rfl (by decide)]
  unfold c4 c3 Core.wrB
  rw [Core.rd_wr_ne _ _ _ _ _ _ _ _ (by simp only [Fld.key, Fld.addr, QMG_Q_STAT.mark_valid, QMG_Q_STAT.dropping]; omega),
    Core.rd_wr_same]
  unfold x
  cases (c.queue q).mark <;> rfl

theorem Core.queueRegs_unread (c : Core) {q : Nat} (hq : q < 128) (h : (c.queue q).items = []) :
    (c.queueRegs q).rd QMG_Q_STAT.unread q = 0 := by
  unfold Core.queueRegs
  extract_lets x unread c1 c2 c3 c4
  unfold Core.wrBit
  rw [Core.rd_notice hq (by decide) rfl rfl (by decide)]
  unfold c4 c3 c2 c1 Core.wrB
  rw [Core.rd_wr_ne _ _ _ _ _ _ _ _ (by simp only [Fld.key, Fld.addr, QMG_Q_STAT.unread, QMG_Q_STAT.dropping]; omega),
    Core.rd_wr_ne _ _ _ _ _ _ _ _ (by simp only [Fld.key, Fld.addr, QMG_Q_STAT.unread, QMG_Q_STAT.mark_valid]; omega),
    Core.rd_wr_ne _ _ _ _ _ _ _ _ (by simp only [Fld.key, Fld.addr, QMG_Q_STAT.unread, QMG_Q_FILL.words]; omega),
    Core.rd_wr_same]
  unfold unread x
  rw [h]
  rfl

theorem Core.queueRegs_markLost (c : Core) {q : Nat} (hq : q < 128) :
    (c.queueRegs q).rd QMG_Q_EVENT.mark_lost q = c.rd QMG_Q_EVENT.mark_lost q := by
  have other {f : Fld} (hl : f.lo < 32) (hb : f.base = 0x220000) (hs : f.stride = 0x40) (ho : f.off < 0x14) (c : Core) (v : Nat) :
      (c.wr f v q).rd QMG_Q_EVENT.mark_lost q = c.rd QMG_Q_EVENT.mark_lost q := by
    refine Core.rd_wr_addr _ _ _ _ _ _ _ _ hl (by decide) ?_
    simp only [Fld.addr, QMG_Q_EVENT.mark_lost, hb, hs]
    omega
  unfold Core.queueRegs
  extract_lets x unread c1 c2 c3 c4
  unfold Core.wrBit
  rw [Core.rd_notice hq (by decide) rfl rfl (by decide)]
  unfold c4 c3 c2 c1 Core.wrB
  rw [other (by decide) rfl rfl (by decide), other (by decide) rfl rfl (by decide), other (by decide) rfl rfl (by decide),
    other (by decide) rfl rfl (by decide)]

/-- The queue after `f` has changed it. -/
theorem Core.queueUpd_queue (c : Core) (q : Nat) (f : QueueU → QueueU) : (c.queueUpd q f).queue q = f (c.queue q) := by
  unfold Core.queueUpd
  rw [Core.queueRegs_queue, Core.queue_setQueue, if_pos rfl]

theorem Core.queueUpd_markValid (c : Core) {q : Nat} (hq : q < 128) (f : QueueU → QueueU) :
    (c.queueUpd q f).rd QMG_Q_STAT.mark_valid q = b2n (f (c.queue q)).mark.isSome := by
  unfold Core.queueUpd
  rw [Core.queueRegs_markValid _ hq, Core.queue_setQueue, if_pos rfl]

/-! ## Mark and rewind (R305) -/

/-- The first item with a word at or behind the pointer. -/
theorem QueueU.nextItem_of_split {x : QueueU} {before after : List QItem} {it : QItem} (hx : x.items = before ++ it :: after)
    (hb : before.all (fun j => decide (j.stop ≤ x.rp)) = true) (hi : x.rp < it.stop) : x.nextItem = some it := by
  have passed : before.find? (fun it => decide (x.rp < it.stop)) = none := by
    refine List.find?_eq_none.mpr fun j hj => ?_
    have := of_decide_eq_true (List.all_eq_true.mp hb j hj)
    rw [decide_eq_true_eq]
    omega
  unfold QueueU.nextItem
  rw [hx, List.find?_append, passed, List.find?_cons, decide_eq_true hi]
  rfl

theorem QueueU.nextItem_of_read {x : QueueU} (h : x.items.all (fun it => decide (it.stop ≤ x.rp)) = true) :
    x.nextItem = none := by
  refine List.find?_eq_none.mpr fun j hj => ?_
  have := of_decide_eq_true (List.all_eq_true.mp h j hj)
  rw [decide_eq_true_eq]
  omega

/-- The queue with its mark at the item that holds the read pointer. -/
def QueueU.marked (x : QueueU) : QueueU := { x with mark := some (match x.nextItem with | some it => it.pos | none => x.rp) }

theorem Core.queueMark_of_pclk {c : Core} {q : Nat} (hp : c.pclk = true) : c.queueMark q = c.queueUpd q QueueU.marked := by
  unfold Core.queueMark
  rw [hp]
  rfl

/-- The queue with its read pointer at the mark, or at the oldest word. -/
def QueueU.rewound (x : QueueU) : QueueU :=
  { x with rp := match x.mark with | some m => m | none => (x.items.head?.map QItem.pos).getD x.rp }

theorem Core.queueRewind_of_pclk {c : Core} {q : Nat} (hp : c.pclk = true) : c.queueRewind q = c.queueUpd q QueueU.rewound := by
  unfold Core.queueRewind
  rw [hp]
  rfl

/-! ## Flush (R307) -/

theorem Core.queueFlush_of_pclk {c : Core} {q : Nat} (hp : c.pclk = true) : c.queueFlush q = c.queueEmpty q := if_pos hp

theorem Core.queueEmpty_effect (c : Core) {q : Nat} (hq : q < 128) :
    ((c.queueEmpty q).queue q).items = [] ∧ ((c.queueEmpty q).queue q).mark = none ∧
      ((c.queueEmpty q).queue q).rp = (c.queue q).nextPos ∧ (c.queueEmpty q).rd QMG_Q_STAT.unread q = 0 := by
  unfold Core.queueEmpty
  extract_lets x tornBy c1 c2
  have emptied : c1.queue q =
      { x with items := [], rp := x.nextPos, mark := none, torn := if tornBy.isSome then tornBy else x.torn } := by
    unfold c1
    rw [Core.queue_setQueue, if_pos rfl]
  have counted : c2.queue q = c1.queue q := by
    unfold c2 Core.on
    split
    · rw [Core.queue_wr, Core.bump, Core.queue_wr]
    · rfl
  rw [Core.queueRegs_queue, counted, emptied]
  exact ⟨rfl, rfl, rfl, c2.queueRegs_unread hq (by rw [counted, emptied])⟩

/-! ## A word of the middle is met (R315, R321) -/

/-- A core without its registers and what its memories' correction counts. -/
def Core.uncorrected (c : Core) : Core := { c with regs := [], memU := { c.memU with corrV := 0, injV := none } }

/-- From `c` to `d` nothing but check symbols of the Vault corrected and counted. -/
def Core.Met (c d : Core) : Prop := Core.Alike (fun a => a ≠ VLT_CORR_CNT.count.addr 0 0) c d ∧ d.uncorrected = c.uncorrected

namespace Core.Met

variable {c d e : Core}

theorem refl : Met c c := ⟨Core.Alike.refl _ c, rfl⟩

theorem trans (h : Met c d) (k : Met d e) : Met c e := ⟨h.1.trans k.1, k.2.trans h.2⟩

theorem queue (h : Met c d) (q : Nat) : d.queue q = c.queue q := by
  have k := congrArg (fun c : Core => c.queue q) h.2
  exact k

theorem shadow (h : Met c d) : d.shadow = c.shadow := by
  have k := congrArg Core.shadow h.2
  exact k

theorem part (h : Met c d) : d.part = c.part := by
  have k := congrArg Core.part h.2
  exact k

theorem badT (h : Met c d) : d.memU.badT = c.memU.badT := by
  have k := congrArg (fun c : Core => c.memU.badT) h.2
  exact k

theorem injT (h : Met c d) : d.memU.injT = c.memU.injT := by
  have k := congrArg (fun c : Core => c.memU.injT) h.2
  exact k

theorem rd (h : Met c d) {f : Fld} {i k : Nat} (hl : f.lo < 32) (ha : f.addr i k ≠ VLT_CORR_CNT.count.addr 0 0) :
    d.rd f i k = c.rd f i k := h.1 f i k ha hl

theorem middleSound (h : Met c d) {q : Nat} (hq : q < 128) (hs : c.middleSound q) : d.middleSound q := by
  have granules : d.middleLen q = c.middleLen q := congrArg (256 * ·)
    (h.rd (by decide) (by simp only [Fld.addr, QMG_Q_CFG.granules, VLT_CORR_CNT.count]; omega))
  rcases hs with none | ⟨bad, inj, arm⟩
  · exact .inl (granules.trans none)
  · exact .inr ⟨h.badT.trans bad, h.injT.trans inj, (h.rd (by decide) (by decide)).trans arm⟩

theorem middleOn (h : Met c d) : d.middleOn = c.middleOn := by
  unfold Core.middleOn
  rw [h.part, h.rd (by decide) (by decide), h.rd (by decide) (by decide), h.rd (by decide) (by decide)]

theorem readable (h : Met c d) (x : QueueU) (it : QItem) : d.readable x it = c.readable x it := by
  unfold Core.readable Core.itemHeld
  rw [h.middleOn]

end Core.Met

theorem Core.met_vaultFlaw (c : Core) (a : Nat) : Core.Met c (c.vaultFlaw a) := by
  unfold Core.vaultFlaw
  split
  · exact .refl
  · split
    · exact .refl
    · exact ⟨(Core.Alike.wr c _ _ _ _ (by decide) (fun h => h rfl)).trans (Core.Alike.of_regs rfl), rfl⟩

theorem Core.injAt_of_unarmed {c : Core} (h : c.rd FLT_INJ_CFG.arm = 0) (fs a g : Nat) : c.injAt fs a g = false := by
  unfold Core.injAt Core.rdB
  rw [h]
  rfl

/-- A word of a middle in which no error waits is read as it is. -/
theorem Core.met_middleMeet {c : Core} {q : Nat} (hs : c.middleSound q) (p : Nat) : Core.Met c (c.middleMeet q p) := by
  unfold Core.middleMeet
  rcases hs with none | ⟨bad, inj, arm⟩
  · have outside : c.inMiddle q p = false := by
      unfold Core.inMiddle
      rw [none, Bool.and_eq_false_imp]
      intro h
      rw [decide_eq_false_iff_not]
      have := of_decide_eq_true h
      omega
    rw [outside, Bool.not_false, Bool.or_true]
    exact .refl
  · split
    · exact .refl
    · split
      · unfold Core.tileWord Core.tileInj
        rw [bad, inj, Core.injAt_of_unarmed arm]
        exact .refl
      · unfold Core.vaultInj
        have flaw := c.met_vaultFlaw (c.middlePlace q p)
        have quiet : (c.vaultFlaw (c.middlePlace q p)).injAt 52 (c.middlePlace q p) 64 = false :=
          Core.injAt_of_unarmed ((flaw.rd (by decide) (by decide)).trans arm) ..
        extract_lets d
        rw [quiet]
        exact flaw

/-! ## What the memories' writes leave alone (R302, R314, R485) -/

/-- The registers of the queue manager's queues. -/
def isQueueReg (a : Nat) : Prop := 0x220000 ≤ a ∧ a < 0x222000

/-- From `c` to `d` the queues and their registers are as they were. -/
def Core.QueuesSame (c d : Core) : Prop := Core.Alike isQueueReg c d ∧ d.queues = c.queues

namespace Core.QueuesSame

variable {c d e : Core}

theorem refl : QueuesSame c c := ⟨Core.Alike.refl _ c, rfl⟩

theorem of_eq (h : QueuesSame c d) (hr : e.regs = d.regs) (hq : e.queues = d.queues) : QueuesSame c e :=
  ⟨h.1.trans (Core.Alike.of_regs hr), hq.trans h.2⟩

theorem wr {f : Fld} {v i k : Nat} (h : QueuesSame c d) (hl : f.lo < 32) (ha : ¬ isQueueReg (f.addr i k)) :
    QueuesSame c (d.wr f v i k) := ⟨h.1.trans (Core.Alike.wr d f v i k hl ha), h.2⟩

theorem ite {p : Prop} [Decidable p] (h : QueuesSame c d) (k : QueuesSame c e) : QueuesSame c (if p then d else e) := by
  split <;> assumption

theorem on {t : Bool} {f : Core → Core} (h : QueuesSame c d) (hf : ∀ {e}, QueuesSame c e → QueuesSame c (f e)) :
    QueuesSame c (d.on t f) := ite (hf h) h

theorem each {α : Type} {l : List α} {f : Core → α → Core} (h : QueuesSame c d)
    (hf : ∀ {e} x, QueuesSame c e → QueuesSame c (f e x)) : QueuesSame c (d.each l f) :=
  Core.each_keeps (fun _ x _ h => hf x h) h

/-- A register of the memories' controllers. -/
theorem wrMem {f : Fld} {v i k : Nat} (h : QueuesSame c d) (hl : f.lo < 32) (hb : 0x230000 ≤ f.base) :
    QueuesSame c (d.wr f v i k) := by
  refine h.wr hl ?_
  unfold isQueueReg Fld.addr
  have := Nat.zero_le (i * f.stride)
  have := Nat.zero_le (k * f.step)
  omega

theorem injFired (h : QueuesSame c d) : QueuesSame c d.injFired := by
  unfold Core.injFired
  refine wr (wr (h.wr (by decide) ?_) (by decide) ?_) (by decide) ?_ <;>
  · unfold isQueueReg
    decide

theorem vaultWrote {l : List Nat} (h : QueuesSame c d) : QueuesSame c (d.vaultWrote l) := ite h (h.injFired.of_eq rfl rfl)

theorem memPut {m : Nat} {l : List (Nat × Byte)} (h : QueuesSame c d) : QueuesSame c (d.memPut m l) := h.of_eq rfl rfl

theorem tileWrote {l : List Nat} (h : QueuesSame c d) : QueuesSame c (d.tileWrote l) := by
  unfold Core.tileWrote
  extract_lets t _ e
  have he : QueuesSame c e := h.of_eq rfl rfl
  exact ite he (he.injFired.of_eq rfl rfl)

theorem portCount {x : PortMeet} (h : QueuesSame c d) : QueuesSame c (d.portCount x) := by
  unfold Core.portCount
  exact on (on (h.on fun h => h.wrMem (by decide) (by decide)) fun h => h.wrMem (by decide) (by decide))
    fun h => h.wrMem (by decide) (by decide)

theorem tileMeet {m : Nat} {l : List Nat} (h : QueuesSame c d) : QueuesSame c (d.tileMeet m l) := by
  refine h.each fun n h => ?_
  extract_lets w
  split
  · exact h
  · exact ite h (ite (h.each fun _ h => h.wrMem (by decide) (by decide))
      (ite h (ite (h.portCount.of_eq rfl rfl) h.portCount)))

theorem rowBusy {b : Nat} (h : QueuesSame c d) : QueuesSame c (d.rowBusy b) :=
  ite ((h.of_eq rfl rfl : QueuesSame c d.fresh.2).wrMem (by decide) (by decide)) h

theorem tilePut {m : Nat} {l : List (Nat × Byte)} (h : QueuesSame c d) : QueuesSame c (d.tilePut m l) := by
  unfold Core.tilePut
  extract_lets banks words f
  have waits : QueuesSame c (f.2.bump TMC_COLL.busy 0 0 (1 + f.1)) :=
    (h.of_eq rfl rfl : QueuesSame c d.fresh.2).wrMem (by decide) (by decide)
  exact ite (waits.of_eq rfl rfl) (memPut (tileWrote (tileMeet (h.each fun _ h => h.rowBusy))))

end Core.QueuesSame

/-- The spill engine changes of a queue only how far it is spilled. -/
theorem Core.spill_effect (c : Core) (q : Nat) : Core.Alike isQueueReg c (c.spill q) ∧
    ((c.spill q).queue q).items = (c.queue q).items ∧ ((c.spill q).queue q).rp = (c.queue q).rp ∧
      ((c.spill q).queue q).mark = (c.queue q).mark := by
  have same : Core.Alike isQueueReg c c ∧ (c.queue q).items = (c.queue q).items ∧ (c.queue q).rp = (c.queue q).rp ∧
      (c.queue q).mark = (c.queue q).mark := ⟨Core.Alike.refl _ c, rfl, rfl, rfl⟩
  unfold Core.spill
  extract_lets x n live out known bursts word bytes last d
  have spilled : d.queue q = { x with
      spilled := max x.spilled (last + 1)
      openB := (x.openB ++ out).filter (fun e => e.1 / 4 = last / 4 && last % 4 ≠ 3) } := by
    unfold d
    rw [Core.queue_setQueue, if_pos rfl]
  have written {e : Core} (h : Core.QueuesSame d e) : Core.Alike isQueueReg c e ∧ (e.queue q).items = (c.queue q).items ∧
      (e.queue q).rp = (c.queue q).rp ∧ (e.queue q).mark = (c.queue q).mark := by
    have queue : e.queue q = d.queue q := by
      unfold Core.queue
      rw [h.2]
    rw [queue, spilled]
    exact ⟨(Core.Alike.of_regs rfl : Core.Alike isQueueReg c d).trans h.1, rfl, rfl, rfl⟩
  split
  · exact same
  · split
    · exact same
    · split
      · exact written Core.QueuesSame.refl.tilePut
      · exact written Core.QueuesSame.refl.memPut.vaultWrote

/-! ## Release (R305) -/

/-- No mark of queue `q` is left, and its loss is told. -/
def Core.MarkLost (c : Core) (q : Nat) : Prop := (c.queue q).mark = none ∧ c.rd QMG_Q_EVENT.mark_lost q = 1

/-- The freed space from `start` to `stop` holds no mark. -/
theorem Core.markFreed_of_outside {c : Core} {q start stop : Nat}
    (h : ∀ m, (c.queue q).mark = some m → ¬ (start ≤ m ∧ m < stop)) : c.markFreed q start stop = c := by
  unfold Core.markFreed
  split
  case h_1 m hm =>
    refine if_neg ?_
    rw [Bool.and_eq_true, decide_eq_true_eq, decide_eq_true_eq]
    exact h m hm
  case h_2 => rfl

theorem Core.markFreed_of_inside {c : Core} {q start stop m : Nat} (hm : (c.queue q).mark = some m)
    (h : start ≤ m ∧ m < stop) : (c.markFreed q start stop).MarkLost q := by
  unfold Core.markFreed
  rw [hm]
  dsimp only
  rw [decide_eq_true h.1, decide_eq_true h.2, Bool.and_true]
  exact ⟨by rw [if_pos rfl, Core.queue_wr, Core.queue_setQueue, if_pos rfl], by rw [if_pos rfl, Core.rd_wr_same]; rfl⟩

theorem Core.markFreed_items (c : Core) (q start stop : Nat) :
    ((c.markFreed q start stop).queue q).items = (c.queue q).items ∧
      ((c.markFreed q start stop).queue q).rp = (c.queue q).rp := by
  unfold Core.markFreed
  split
  · split
    · rw [Core.queue_wr, Core.queue_setQueue, if_pos rfl]
      exact ⟨rfl, rfl⟩
    · exact ⟨rfl, rfl⟩
  · exact ⟨rfl, rfl⟩

/-- The marks in the space of the items `l`. -/
def Core.marksFreed (c : Core) (q : Nat) (l : List QItem) : Core := c.each l fun c it => c.markFreed q it.pos it.stop

theorem Core.marksFreed_items (c : Core) (q : Nat) (l : List QItem) :
    ((c.marksFreed q l).queue q).items = (c.queue q).items ∧ ((c.marksFreed q l).queue q).rp = (c.queue q).rp :=
  Core.each_keeps (Q := fun d => (d.queue q).items = (c.queue q).items ∧ (d.queue q).rp = (c.queue q).rp)
    (fun d it _ h =>
      ⟨(d.markFreed_items q it.pos it.stop).1.trans h.1, (d.markFreed_items q it.pos it.stop).2.trans h.2⟩) ⟨rfl, rfl⟩

theorem Core.marksFreed_of_outside {c : Core} {q m : Nat} {l : List QItem} (hm : (c.queue q).mark = some m)
    (h : ∀ it ∈ l, ¬ (it.pos ≤ m ∧ m < it.stop)) : c.marksFreed q l = c := by
  refine Core.each_keeps (Q := fun d => d = c) (fun d it hit hd => ?_) rfl
  subst hd
  refine Core.markFreed_of_outside fun n hn => ?_
  rw [hm] at hn
  exact Option.some.inj hn ▸ h it hit

theorem Core.marksFreed_of_inside {c : Core} {q m : Nat} {l : List QItem} {it : QItem} (hm : (c.queue q).mark = some m)
    (hit : it ∈ l) (h : it.pos ≤ m ∧ m < it.stop) : (c.marksFreed q l).MarkLost q := by
  have lost {d : Core} (hd : d.MarkLost q) (j : QItem) : (d.markFreed q j.pos j.stop).MarkLost q := by
    rw [Core.markFreed_of_outside fun n hn => absurd (hd.1.symm.trans hn) (Option.some_ne_none n).symm]
    exact hd
  refine Core.each_mem (Q := fun d => (d.queue q).mark = some m ∨ d.MarkLost q) (P := fun d => d.MarkLost q)
    (fun d j _ hd => ?_) (fun d hd => ?_) (fun d j _ _ hd => lost hd j) hit (.inl hm)
  · rcases hd with stands | gone
    · by_cases inside : j.pos ≤ m ∧ m < j.stop
      · exact .inr (Core.markFreed_of_inside stands inside)
      · rw [Core.markFreed_of_outside fun n hn => Option.some.inj (stands.symm.trans hn) ▸ inside]
        exact .inl stands
    · exact .inr (lost gone j)
  · rcases hd with stands | gone
    · exact Core.markFreed_of_inside stands h
    · exact lost gone it

/-- The complete items that lie wholly before the read pointer. -/
def QueueU.isRead (x : QueueU) (it : QItem) : Bool := it.complete && decide (it.stop ≤ x.rp)

/-- The queue `y` without what is read of `x`. -/
def QueueU.unreadOf (y x : QueueU) : QueueU := { y with items := y.items.filter (fun it => !x.isRead it) }

/-- The items of queue `q` that are read of `x` are freed. -/
def Core.freed (c : Core) (q : Nat) (x : QueueU) : Core :=
  (c.setQueue q ((c.queue q).unreadOf x)).marksFreed q (x.items.filter x.isRead)

/-- A release where no error waits in the middle: the items are freed, and the middle's words move up. -/
theorem Core.queueRelease_of_sound {c : Core} {q : Nat} (hq : q < 128) (hp : c.pclk = true) (hs : c.middleSound q) :
    ∃ d, Core.Met c d ∧ c.queueRelease q = ((d.freed q (c.queue q)).queueRegs q).spill q := by
  unfold Core.queueRelease
  rw [hp, Bool.not_true, if_neg Bool.false_ne_true]
  extract_lets x gone l first c1 c2 c3
  refine ⟨c1, ?_, rfl⟩
  refine Core.each_keeps (Q := Core.Met c) (fun d p _ hd => ?_) .refl
  unfold Core.on
  split
  · exact hd.trans (Core.met_middleMeet (hd.middleSound hq hs) p)
  · exact hd

theorem Core.freed_items (c : Core) (q : Nat) : ((c.freed q (c.queue q)).queue q).items =
    (c.queue q).items.filter (fun it => !(c.queue q).isRead it) ∧ ((c.freed q (c.queue q)).queue q).rp = (c.queue q).rp := by
  unfold Core.freed
  rw [(Core.marksFreed_items _ _ _).1, (Core.marksFreed_items _ _ _).2, Core.queue_setQueue, if_pos rfl]
  exact ⟨rfl, rfl⟩

/-- Item `it` is freed from queue `x`, and word `m` lies in it. -/
def QueueU.frees (x : QueueU) (m : Nat) (it : QItem) : Bool :=
  it.complete && decide (it.stop ≤ x.rp ∧ it.pos ≤ m ∧ m < it.stop)

theorem QueueU.frees_iff (x : QueueU) (m : Nat) (it : QItem) :
    x.frees m it = true ↔ x.isRead it = true ∧ it.pos ≤ m ∧ m < it.stop := by
  unfold QueueU.frees QueueU.isRead
  rw [Bool.and_eq_true, Bool.and_eq_true, decide_eq_true_eq, decide_eq_true_eq, and_assoc]

theorem Core.freed_mark_lost {c : Core} {q m : Nat} (hm : (c.queue q).mark = some m)
    (h : (c.queue q).items.any ((c.queue q).frees m) = true) : (c.freed q (c.queue q)).MarkLost q := by
  obtain ⟨it, hit, inside⟩ := List.any_eq_true.mp h
  obtain ⟨read, inside⟩ := ((c.queue q).frees_iff m it).mp inside
  refine Core.marksFreed_of_inside (m := m) ?_ (List.mem_filter.mpr ⟨hit, read⟩) inside
  rw [Core.queue_setQueue, if_pos rfl]
  exact hm

theorem Core.freed_mark_kept {c : Core} {q m : Nat} (hm : (c.queue q).mark = some m)
    (h : (c.queue q).items.any ((c.queue q).frees m) = false) : ((c.freed q (c.queue q)).queue q).mark = some m ∧
      (c.freed q (c.queue q)).rd QMG_Q_EVENT.mark_lost q = c.rd QMG_Q_EVENT.mark_lost q := by
  have stands : ((c.setQueue q ((c.queue q).unreadOf (c.queue q))).queue q).mark = some m := by
    rw [Core.queue_setQueue, if_pos rfl]
    exact hm
  unfold Core.freed
  rw [Core.marksFreed_of_outside stands]
  · exact ⟨stands, rfl⟩
  · intro it hit inside
    obtain ⟨hmem, read⟩ := List.mem_filter.mp hit
    exact List.any_eq_false.mp h it hmem (((c.queue q).frees_iff m it).mpr ⟨read, inside⟩)

/-- What a release leaves in its queue and shows of it. -/
theorem Core.queueRelease_effect {c : Core} {q : Nat} (hq : q < 128) (hp : c.pclk = true) (hs : c.middleSound q) :
    ∃ d, Core.Met c d ∧
      ((c.queueRelease q).queue q).items = ((d.freed q (d.queue q)).queue q).items ∧
      ((c.queueRelease q).queue q).rp = ((d.freed q (d.queue q)).queue q).rp ∧
      ((c.queueRelease q).queue q).mark = ((d.freed q (d.queue q)).queue q).mark ∧
      (c.queueRelease q).rd QMG_Q_STAT.mark_valid q = b2n ((d.freed q (d.queue q)).queue q).mark.isSome ∧
      (c.queueRelease q).rd QMG_Q_EVENT.mark_lost q = (d.freed q (d.queue q)).rd QMG_Q_EVENT.mark_lost q := by
  obtain ⟨d, met, released⟩ := Core.queueRelease_of_sound hq hp hs
  rw [← met.queue q] at released
  obtain ⟨alike, items, rp, mark⟩ := ((d.freed q (d.queue q)).queueRegs q).spill_effect q
  rw [Core.queueRegs_queue] at items rp mark
  refine ⟨d, met, ?_⟩
  rw [released, items, rp, mark,
    alike QMG_Q_STAT.mark_valid q 0 (by simp only [isQueueReg, Fld.addr, QMG_Q_STAT.mark_valid]; omega) (by decide),
    alike QMG_Q_EVENT.mark_lost q 0 (by simp only [isQueueReg, Fld.addr, QMG_Q_EVENT.mark_lost]; omega) (by decide),
    Core.queueRegs_markValid _ hq, Core.queueRegs_markLost _ hq]
  exact ⟨rfl, rfl, rfl, rfl, rfl⟩

/-! ## The read of a word (R304, R361) -/

/-- A sound item at the pointer is met and stays. -/
theorem Core.met_queueCheck {c : Core} {q : Nat} {it : QItem} (hn : (c.queue q).nextItem = some it) (hf : it.flaw = none)
    (hs : c.middleSound q) (hr : c.readable (c.queue q) it = true) (n : Nat) : Core.Met c (Core.queueCheck q n c) := by
  cases n with
  | zero => exact .refl
  | succ n =>
    unfold Core.queueCheck
    rw [hn]
    dsimp only
    rw [hr, hf, if_neg (by decide), if_neg (by decide)]
    have met := Core.met_middleMeet hs (max (c.queue q).rp it.pos)
    rw [met.queue q, hn, Option.map_some, if_pos rfl]
    exact met

/-- The queue once the word at `p` is read. -/
def QueueU.passed (x : QueueU) (p : Nat) : QueueU := { x with rp := p + 1 }

theorem Core.queueRead_of_readable {c : Core} {q : Nat} {it : QItem} (hn : (c.queue q).nextItem = some it) (hf : it.flaw = none)
    (hs : c.middleSound q) (hr : c.readable (c.queue q) it = true) :
    ∃ d, Core.Met c d ∧ c.queueRead q = (it.words.getD (max (c.queue q).rp it.pos - it.pos) 0,
      d.queueUpd q fun x => x.passed (max (c.queue q).rp it.pos)) := by
  unfold Core.queueRead
  extract_lets d
  have met : Core.Met c d := Core.met_queueCheck hn hf hs hr _
  refine ⟨d, met, ?_⟩
  rw [met.queue q, hn]
  dsimp only
  rw [met.readable, hr, hf]
  have same (x : QueueU) :
      x.items.map (fun j => if false && decide (j.pos = it.pos) then { j with flaw := none } else j) = x.items :=
    List.map_id x.items
  unfold QueueU.passed
  simp only [Option.any_none, same]
  rfl

theorem Core.queueCheck_of_empty {c : Core} {q : Nat} (h : (c.queue q).nextItem.all (fun it => !c.readable (c.queue q) it) = true)
    (n : Nat) : Core.queueCheck q n c = c := by
  cases n with
  | zero => rfl
  | succ n =>
    unfold Core.queueCheck
    cases hn : (c.queue q).nextItem with
    | none => rfl
    | some it =>
      rw [hn] at h
      exact if_pos h

theorem Core.queueRead_of_empty {c : Core} {q : Nat}
    (h : (c.queue q).nextItem.all (fun it => !c.readable (c.queue q) it) = true) : c.queueRead q = (0, c) := by
  unfold Core.queueRead
  rw [Core.queueCheck_of_empty h]
  dsimp only
  cases hn : (c.queue q).nextItem with
  | none => rfl
  | some it =>
    rw [hn] at h
    exact if_pos h

theorem bits_zero (hi lo : Nat) : bits 0 hi lo = 0 := by
  simp [bits]

/-- Each further word of the data port's registers is latched for the executor. -/
theorem Core.queueReadLatch_shadow (c : Core) (q ex : Nat) {k : Nat} (hk : k < 3) :
    (c.queueReadLatch q ex).2.shadow.get 0 (exKey ex (QMG_Q_DATA1.w1.addr q k)) =
      bits (c.queueRead q).1 (32 * k + 63) (32 * k + 32) := by
  have apart {j l : Nat} (h : j ≠ l) : exKey ex (QMG_Q_DATA1.w1.addr q j) ≠ exKey ex (QMG_Q_DATA1.w1.addr q l) := by
    simp only [exKey, Fld.addr, QMG_Q_DATA1.w1]
    omega
  unfold Core.queueReadLatch
  extract_lets r sh
  show (sh (sh (sh r.2.shadow 0) 1) 2).get 0 _ = _
  unfold sh
  interval_cases k
  · rw [AMap.get_set_ne _ _ _ (apart (by decide)), AMap.get_set_ne _ _ _ (apart (by decide)), AMap.get_set_same]
  · rw [AMap.get_set_ne _ _ _ (apart (by decide)), AMap.get_set_same]
  · rw [AMap.get_set_same]

theorem Core.queueReadLatch_queue (c : Core) (q ex : Nat) :
    (c.queueReadLatch q ex).2.queue q = (c.queueRead q).2.queue q := rfl

/-! ## The read of a stopped queue manager (R355, R372) -/

theorem Core.busErr_effect (c : Core) (ex cause addr : Nat) :
    (c.busErr ex cause addr).queues = c.queues ∧ (c.busErr ex cause addr).shadow = c.shadow ∧
      (c.busErr ex cause addr).rd IDB_BUSERR_STAT.count =
        min (2 ^ IDB_BUSERR_STAT.count.width - 1) (c.rd IDB_BUSERR_STAT.count + 1) ∧
      bitOf ((c.busErr ex cause addr).rd FLT_RAW.hit 0 1) 15 = true := by
  unfold Core.busErr
  extract_lets d
  have counted : d.rd IDB_BUSERR_STAT.count = c.rd IDB_BUSERR_STAT.count := by
    unfold d
    split
    · rfl
    · rw [Core.rd_wr_ne _ _ _ _ _ _ _ _ (by decide), Core.rd_wr_ne _ _ _ _ _ _ _ _ (by decide),
        Core.rd_wr_ne _ _ _ _ _ _ _ _ (by decide), Core.rd_wr_ne _ _ _ _ _ _ _ _ (by decide)]
  have queues : d.queues = c.queues := by
    unfold d
    split
    · rfl
    · rw [Core.wr_queues, Core.wr_queues, Core.wr_queues, Core.wr_queues]
  have shadow : d.shadow = c.shadow := by
    unfold d
    split
    · rfl
    · rw [Core.wr_shadow, Core.wr_shadow, Core.wr_shadow, Core.wr_shadow]
  have hit := (d.bump IDB_BUSERR_STAT.count).raise_hit 47 (exSource ex)
  refine ⟨?_, ?_, ?_, ?_⟩
  · have h := congrArg Core.queues hit.2
    exact h.trans queues
  · have h := congrArg Core.shadow hit.2
    exact h.trans shadow
  · rw [hit.1 _ _ _ (by unfold inFlt; decide) (by decide), Core.rd_bump_same, counted, Nat.min_comm]
  · refine Core.raiseInfo_raw (fs := 47) _ false ?_
    have here : (d.bump IDB_BUSERR_STAT.count).part.fsAbsent 47 = false := by
      unfold Part.fsAbsent
      exact Bool.and_false _
    rw [here]
    rfl

/-! ## The obligation -/

/-- The registers of a queue are none that the end of a command writes. -/
theorem not_inSettle_queue {f : Fld} {q : Nat} (hf : (f.base = 0x220000 && f.stride = 0x40 && f.off < 0x40) = true)
    (hq : q < 128) :
    ¬ inSettle (f.addr q 0) := by
  simp only [Bool.and_eq_true, decide_eq_true_eq] at hf
  obtain ⟨⟨hb, hs⟩, ho⟩ := hf
  simp only [inSettle, Fld.addr, GLC_STORE_STAT.dirty, MTL_STAT.store_deferred, STG_STAT.store_busy, hb, hs]
  omega

/-- A step that is the identity keeps everything outside every block. -/
theorem onRunCore_same {f : Core → Core} {s : State} (h : f s.dev.core = s.dev.core) :
    Answers (onRunCore f s) fun t => t.dev.core.outside [] = s.dev.core.outside [] := by
  refine onDev_answers (Core.Kept.act ?_)
  dsimp only
  split
  · exact .refl
  · rw [h]
    exact .refl

/-- While PCLK is stopped the queue manager does nothing (R34). -/
theorem queueSteps_of_stopped {c : Core} (hp : c.pclk = false) (q : Fin 128) :
    markStep q c = c ∧ rewindStep q c = c ∧ releaseStep q c = c ∧ flushStep q c = c ∧ queueWordEnterStep q c = c ∧
      itemReadableStep q c = c ∧ staleWinEndStep q c = c := by
  have stopped : (!c.pclk) = true := by rw [hp]; rfl
  exact ⟨if_pos stopped, if_pos stopped, if_pos stopped, if_neg (by rw [hp]; exact Bool.false_ne_true), if_pos stopped,
    if_pos stopped, if_pos (by rw [stopped]; rfl)⟩

/-- Settles O17: each command's effect on its queue is one of the operations above, and the middle of a queue in which no error
waits gives its words without a change of the queue. -/
theorem queueCommands : Obligations.QueueCommands := by
  unfold Obligations.QueueCommands
  refine ⟨?markRead, ?mark, ?rewindMark, ?rewindOldest, ?release, ?releaseLoses, ?releaseKeeps, ?flush, ?read, ?readEmpty,
    ?readStopped, ?stopped⟩
  case markRead =>
    intro s q hr hp hread
    refine onRunCore_answers hr ?_
    have step : markStep q s.dev.core = s.dev.core.queueUpd q QueueU.marked := Core.queueMark_of_pclk hp
    rw [Dev.act_queue, Dev.act_rd _ _ _ _ _ (by decide) (not_inSettle_queue (by decide) q.isLt), step, Core.queueUpd_queue,
      Core.queueUpd_markValid _ q.isLt]
    unfold QueueU.marked
    rw [QueueU.nextItem_of_read hread]
    exact ⟨rfl, rfl, rfl⟩
  case mark =>
    intro s q before after it hr hp hitems hbefore hit
    refine onRunCore_answers hr ?_
    have step : markStep q s.dev.core = s.dev.core.queueUpd q QueueU.marked := Core.queueMark_of_pclk hp
    rw [Dev.act_queue, Dev.act_rd _ _ _ _ _ (by decide) (not_inSettle_queue (by decide) q.isLt), step, Core.queueUpd_queue,
      Core.queueUpd_markValid _ q.isLt]
    unfold QueueU.marked
    rw [QueueU.nextItem_of_split hitems hbefore hit]
    exact ⟨rfl, rfl, rfl, rfl⟩
  case rewindMark =>
    intro s q m hr hp hmark
    refine onRunCore_answers hr ?_
    have step : rewindStep q s.dev.core = s.dev.core.queueUpd q QueueU.rewound := Core.queueRewind_of_pclk hp
    rw [Dev.act_queue, step, Core.queueUpd_queue]
    unfold QueueU.rewound
    rw [hmark]
    exact ⟨rfl, rfl⟩
  case rewindOldest =>
    intro s q it rest hr hp hmark hitems
    refine onRunCore_answers hr ?_
    have step : rewindStep q s.dev.core = s.dev.core.queueUpd q QueueU.rewound := Core.queueRewind_of_pclk hp
    rw [Dev.act_queue, step, Core.queueUpd_queue]
    unfold QueueU.rewound
    rw [hmark, hitems]
    rfl
  case release =>
    intro s q hr hp hs
    refine onRunCore_answers hr ?_
    obtain ⟨d, met, items, rp, _⟩ := Core.queueRelease_effect q.isLt hp hs
    rw [(d.freed_items q).1, met.queue] at items
    rw [(d.freed_items q).2, met.queue] at rp
    rw [Dev.act_queue]
    exact ⟨items, rp⟩
  case releaseLoses =>
    intro s q m hr hp hs hmark hany
    refine onRunCore_answers hr ?_
    obtain ⟨d, met, _, _, mark, valid, lost⟩ := Core.queueRelease_effect q.isLt hp hs
    obtain ⟨gone, told⟩ := Core.freed_mark_lost (c := d) (q := q) (m := m) (by rw [met.queue]; exact hmark)
      (by rw [met.queue]; exact hany)
    rw [gone] at mark valid
    rw [told] at lost
    rw [Dev.act_queue, Dev.act_rd _ _ _ _ _ (by decide) (not_inSettle_queue (by decide) q.isLt),
      Dev.act_rd _ _ _ _ _ (by decide) (not_inSettle_queue (by decide) q.isLt)]
    exact ⟨mark, valid, lost⟩
  case releaseKeeps =>
    intro s q m hr hp hs hmark hany
    refine onRunCore_answers hr ?_
    obtain ⟨d, met, _, _, mark, valid, lost⟩ := Core.queueRelease_effect q.isLt hp hs
    obtain ⟨stands, told⟩ := Core.freed_mark_kept (c := d) (q := q) (m := m) (by rw [met.queue]; exact hmark)
      (by rw [met.queue]; exact hany)
    rw [stands] at mark valid
    rw [told, met.rd (by decide) (by simp only [Fld.addr, QMG_Q_EVENT.mark_lost, VLT_CORR_CNT.count]; omega)] at lost
    rw [Dev.act_queue, Dev.act_rd _ _ _ _ _ (by decide) (not_inSettle_queue (by decide) q.isLt),
      Dev.act_rd _ _ _ _ _ (by decide) (not_inSettle_queue (by decide) q.isLt)]
    exact ⟨mark, valid, lost⟩
  case flush =>
    intro s q hr hp
    refine onRunCore_answers hr ?_
    have step : flushStep q s.dev.core = s.dev.core.queueEmpty q := Core.queueFlush_of_pclk hp
    rw [Dev.act_queue, Dev.act_rd _ _ _ _ _ (by decide) (not_inSettle_queue (by decide) q.isLt), step]
    exact s.dev.core.queueEmpty_effect q.isLt
  case read =>
    intro s q ex before after it hr hp hw hitems hbefore hit hflaw hs hreadable
    refine onRunCore_answers hr ?_
    have step : queueReadStep q ex s.dev.core = (s.dev.core.queueReadLatch q ex).2 :=
      (Core.heldOr_of_not_indWaits hw).trans (if_pos hp)
    obtain ⟨d, met, hread⟩ := Core.queueRead_of_readable (QueueU.nextItem_of_split hitems hbefore hit) hflaw hs hreadable
    have queue : (s.dev.core.queueReadLatch q ex).2.queue q =
        (s.dev.core.queue q).passed (max (s.dev.core.queue q).rp it.pos) := by
      rw [Core.queueReadLatch_queue, hread, Core.queueUpd_queue, met.queue]
    rw [Dev.act_queue, Dev.act_shadow, step, queue]
    refine ⟨rfl, rfl, fun k hk => ?_⟩
    rw [Core.queueReadLatch_shadow _ _ _ hk, hread]
  case readEmpty =>
    intro s q ex hr hp hw hempty
    refine onRunCore_answers hr ?_
    have step : queueReadStep q ex s.dev.core = (s.dev.core.queueReadLatch q ex).2 :=
      (Core.heldOr_of_not_indWaits hw).trans (if_pos hp)
    have hread := Core.queueRead_of_empty hempty
    rw [Dev.act_queue, Dev.act_shadow, step, Core.queueReadLatch_queue, hread]
    refine ⟨rfl, fun k hk => ?_⟩
    rw [Core.queueReadLatch_shadow _ _ _ hk, hread]
    exact bits_zero _ _
  case readStopped =>
    intro s q ex hr hp hw
    refine onRunCore_answers hr ?_
    have step : queueReadStep q ex s.dev.core = s.dev.core.busErr ex beUnavailable (QMG_Q_DATA0.w0.addr q 0) :=
      (Core.heldOr_of_not_indWaits hw).trans (if_neg (by rw [hp]; exact Bool.false_ne_true))
    obtain ⟨queues, shadow, count, raw⟩ := s.dev.core.busErr_effect ex beUnavailable (QMG_Q_DATA0.w0.addr q 0)
    rw [Dev.act_queue, Dev.act_shadow, Dev.act_rd_key _ _ _ _ _ (by decide), Dev.act_rd_key _ _ _ _ _ (by decide), step]
    refine ⟨?_, shadow, count, raw⟩
    unfold Core.queue
    rw [queues]
  case stopped =>
    intro s q i hp hi
    obtain ⟨mark, rewind, release, flush, enter, readable, stale⟩ := queueSteps_of_stopped hp q
    rcases hi with rfl | rfl | rfl | rfl | rfl | rfl | rfl
    · exact onRunCore_same mark
    · exact onRunCore_same rewind
    · exact onRunCore_same release
    · exact onRunCore_same flush
    · exact onRunCore_same enter
    · exact onRunCore_same readable
    · exact onRunCore_same stale

end Sys2Proof.Machine
end

section
/-! What a change of a candidate's state touches (R73, R85, R91). -/

namespace Sys2Proof.Machine

open Sys2Proof

/-! ## Fields of the candidates' registers -/

/-- A field of the candidates' registers (R92). -/
def Fld.ofRef (f : Fld) : Bool := f.base = 0x100000 && f.stride = 0x400 && f.off < 0x400 && f.lo < 32

/-- Another field of the candidates' registers than `g`. -/
def Fld.apart (f g : Fld) : Bool := f.ofRef && (f.off ≠ g.off || f.lo ≠ g.lo)

theorem Fld.key_ne_of_apart {f g : Fld} (hg : g.ofRef = true) (h : f.apart g = true) (i j : Nat) : g.key i 0 ≠ f.key j 0 := by
  simp only [Fld.apart, Fld.ofRef, Bool.and_eq_true, Bool.or_eq_true, decide_eq_true_eq] at hg h
  obtain ⟨⟨⟨hgb, hgs⟩, hgo⟩, hgl⟩ := hg
  obtain ⟨⟨⟨⟨hfb, hfs⟩, hfo⟩, hfl⟩, hne⟩ := h
  simp only [Fld.key, Fld.addr, hgb, hgs, hfb, hfs]
  rcases hne with hne | hne <;> simp at hne <;> omega

theorem Fld.addr_of_ofRef {g : Fld} (hg : g.ofRef = true) {i : Nat} (hi : i < 24) :
    0x100000 ≤ g.addr i 0 ∧ g.addr i 0 < 0x110000 ∧ g.lo < 32 := by
  simp only [Fld.ofRef, Bool.and_eq_true, decide_eq_true_eq] at hg
  obtain ⟨⟨⟨hb, hs⟩, ho⟩, hl⟩ := hg
  simp only [Fld.addr, hb, hs]
  omega

/-! ## The relation -/

/-- From `c` to `d` no register of the candidates is written but the fields `F`, no candidate's hidden state changes, and no raw
bit of a fault clears. -/
structure Core.Told (F : List Fld) (c d : Core) : Prop where
  regs : ∀ g : Fld, g.ofRef = true → (∀ f ∈ F, f.apart g = true) → ∀ i < 24, d.rd g i = c.rd g i
  raw : ∀ w < 3, ∀ b < 32, bitOf (c.rd FLT_RAW.hit 0 w) b = true → bitOf (d.rd FLT_RAW.hit 0 w) b = true
  cand : ∀ j, d.cand j = c.cand j
  part : d.part = c.part
  estRun : d.estRun = c.estRun

/-- A field `f` in a block behind the candidates'. -/
def Fld.behindRef (f : Fld) : Bool := 0x110000 ≤ f.base && f.lo < 32

theorem bitOf_putBit_of {x a b : Nat} (h : bitOf x b = true) : bitOf (putBit x a true) b = true := by
  unfold bitOf putBit setBit at *
  rw [if_pos rfl, Nat.testBit_or, h, Bool.true_or]

/-- Of the raw words a raised source writes its own bit alone (R470). -/
theorem Core.raiseInfo_rawKept (c : Core) (fs unit info : Nat) (inj : Bool) :
    c.raiseInfo fs unit info inj = c ∨
      Core.RawKept (c.wrBit FLT_RAW.hit (fs % 32) true 0 (fs / 32)) (c.raiseInfo fs unit info inj) := by
  unfold Core.raiseInfo
  split
  · exact .inl rfl
  · right
    extract_lets cfgSev action mask sev sh c1 c2 notify act acted acts c3 c4 u c5 starts m c6 c7 c8
    have h2 : Core.RawKept c1 c2 := Core.RawKept.wr (Core.Alike.refl _ c1) (by decide) (not_isRaw_after (by decide))
    have h3 : Core.RawKept c1 c3 := h2.on (h2.wr (by decide) (by unfold isRaw; decide))
    have h4 : Core.RawKept c1 c4 := h3.trans (Core.rawKept_recordHit _ _ _ _ _ _ _ _ _ _ _)
    have h5 : Core.RawKept c1 c5 := h4.trans (Core.rawKept_markUnacked _ _ _)
    have h6 : Core.RawKept c1 c6 := h5.regs rfl
    have h7 : Core.RawKept c1 c7 := h6.on (h6.wr (by decide) (not_isRaw_after (by decide)))
    have h8 : Core.RawKept c1 c8 := Core.RawKept.ite (h7.regs rfl) h7
    exact Core.RawKept.ite h2 (Core.RawKept.ite h4 (h8.trans (Core.rawKept_fltRefresh c8)))

/-- No raw bit clears when a source is raised. -/
theorem Core.raiseInfo_raw_of (c : Core) (fs unit info : Nat) (inj : Bool) {w b : Nat} (hw : w < 3) (hb : b < 32)
    (h : bitOf (c.rd FLT_RAW.hit 0 w) b = true) : bitOf ((c.raiseInfo fs unit info inj).rd FLT_RAW.hit 0 w) b = true := by
  rcases c.raiseInfo_rawKept fs unit info inj with same | kept
  · rwa [same]
  · rw [kept FLT_RAW.hit 0 w (isRaw_raw hw) (by decide)]
    unfold Core.wrBit
    by_cases hk : w = fs / 32
    · subst hk
      rw [Core.rd_wr_same]
      unfold bitOf
      rw [Nat.testBit_mod_two_pow, decide_eq_true (show b < FLT_RAW.hit.width from hb), Bool.true_and]
      exact bitOf_putBit_of h
    · rwa [Core.rd_wr_ne]
      simp only [Fld.key, Fld.addr, FLT_RAW.hit]
      omega

namespace Core.Told

variable {F : List Fld} {c d e : Core}

protected theorem refl : Told F c c := ⟨fun _ _ _ _ _ => rfl, fun _ _ _ _ h => h, fun _ => rfl, rfl, rfl⟩

protected theorem trans (h : Told F c d) (k : Told F d e) : Told F c e where
  regs := fun g hg hF i hi => (k.regs g hg hF i hi).trans (h.regs g hg hF i hi)
  raw := fun w hw b hb hr => k.raw w hw b hb (h.raw w hw b hb hr)
  cand := fun j => (k.cand j).trans (h.cand j)
  part := k.part.trans h.part
  estRun := k.estRun.trans h.estRun

theorem mono {G : List Fld} (h : Told F c d) (hFG : ∀ f ∈ F, f ∈ G) : Told G c d :=
  { h with regs := fun g hg hG => h.regs g hg fun f hf => hG f (hFG f hf) }

/-- A write of one of the fields. -/
theorem wr {f : Fld} {v j : Nat} (h : Told F c d) (hf : f ∈ F) (hr : f.ofRef = true) : Told F c (d.wr f v j) := by
  refine h.trans ⟨fun g hg hF i _ => Core.rd_wr_ne _ _ _ _ _ _ _ _ (Fld.key_ne_of_apart hg (hF f hf) i j),
    fun w hw b _ hb => ?_, fun _ => rfl, rfl, rfl⟩
  rwa [Core.rd_wr_ne]
  simp only [Fld.ofRef, Bool.and_eq_true, decide_eq_true_eq] at hr
  obtain ⟨⟨⟨hb', hs⟩, ho⟩, hl⟩ := hr
  simp only [Fld.key, Fld.addr, FLT_RAW.hit, hb', hs]
  omega

/-- A write elsewhere. -/
theorem wrAt {f : Fld} {v j k : Nat} (h : Told F c d) (hl : f.lo < 32)
    (ha : f.addr j k < 0x100000 ∨ 0x110000 ≤ f.addr j k) (hr : ¬ isRaw (f.addr j k)) : Told F c (d.wr f v j k) := by
  refine h.trans ⟨fun g hg _ i hi => ?_, fun w hw b _ hb => ?_, fun _ => rfl, rfl, rfl⟩
  · obtain ⟨low, high, hgl⟩ := Fld.addr_of_ofRef hg hi
    exact Core.rd_wr_addr _ _ _ _ _ _ _ _ hl hgl (by omega)
  · rwa [Core.rd_wr_addr _ _ _ _ _ _ _ _ hl (by decide) (fun same => hr (same ▸ isRaw_raw hw))]

theorem wrBehind {f : Fld} {v j k : Nat} (h : Told F c d) (hf : f.behindRef = true) : Told F c (d.wr f v j k) := by
  simp only [Fld.behindRef, Bool.and_eq_true, decide_eq_true_eq] at hf
  have high : 0x110000 ≤ f.addr j k := by
    unfold Fld.addr
    have := Nat.zero_le (j * f.stride)
    omega
  refine h.wrAt hf.2 (.inr high) ?_
  unfold isRaw
  omega

/-- An update of hidden state that is neither the registers' nor the candidates'. -/
theorem hidden (h : Told F c d) (hr : e.regs = d.regs := by rfl) (hc : e.cands = d.cands := by rfl)
    (hp : e.part = d.part := by rfl) (he : e.estRun = d.estRun := by rfl) : Told F c e := by
  refine h.trans ⟨fun g _ _ i _ => ?_, fun w _ b _ hb => ?_, fun j => ?_, hp, he⟩
  · unfold Core.rd
    rw [hr]
  · unfold Core.rd at hb ⊢
    rwa [hr]
  · unfold Core.cand
    rw [hc]

theorem ite {p : Prop} [Decidable p] (h : Told F c d) (k : Told F c e) : Told F c (if p then d else e) := by split <;> assumption

theorem on {t : Bool} {f : Core → Core} (h : Told F c d) (hf : ∀ {e}, Told F c e → Told F c (f e)) : Told F c (d.on t f) :=
  ite (hf h) h

theorem each {α : Type} {l : List α} {f : Core → α → Core} (h : Told F c d) (hf : ∀ {e} x, Told F c e → Told F c (f e x)) :
    Told F c (d.each l f) := Core.each_keeps (fun _ x _ h => hf x h) h

/-! ### Faults and records -/

theorem hit (h : Told F c d) (k : Core.Hit d e)
    (hr : ∀ w < 3, ∀ b < 32, bitOf (d.rd FLT_RAW.hit 0 w) b = true → bitOf (e.rd FLT_RAW.hit 0 w) b = true) : Told F c e := by
  refine h.trans ⟨fun g hg _ i hi => ?_, hr, fun j => ?_, ?_, ?_⟩
  · obtain ⟨low, _, hgl⟩ := Fld.addr_of_ofRef hg hi
    exact k.1 g i 0 (by unfold inFlt; omega) hgl
  · have same := congrArg (fun c : Core => c.cand j) k.2
    exact same
  · have same := congrArg Core.part k.2
    exact same
  · have same := congrArg Core.estRun k.2
    exact same

theorem raise {fs u : Nat} (h : Told F c d) : Told F c (d.raise fs u) :=
  h.hit (Core.raise_hit d fs u) fun _ hw _ hb => Core.raiseInfo_raw_of d fs u u false hw hb

theorem injFire {fs u info : Nat} (h : Told F c d) : Told F c (d.injFire fs u info) := by
  unfold Core.injFire
  have fired : Told F c d.injFired := by
    have h1 : Told F c (d.wr FLT_INJ_STAT.fired 1) := h.wrAt (by decide) (.inl (by decide)) (by unfold isRaw; decide)
    have h2 : Told F c ((d.wr FLT_INJ_STAT.fired 1).wr FLT_INJ_CFG.arm 0) :=
      h1.wrAt (by decide) (.inl (by decide)) (by unfold isRaw; decide)
    exact h2.wrAt (by decide) (.inl (by decide)) (by unfold isRaw; decide)
  exact fired.hit (Core.raiseInfo_hit _ _ _ _ _) fun _ hw _ hb => Core.raiseInfo_raw_of _ fs u info true hw hb

theorem emit {rt u a : Nat} {l : List Nat} (h : Told F c d) : Told F c (d.emit rt u a l) := by
  have dropped (v : Nat) : Told F c (d.wr STG_FAB_DROP.dropped v) := h.wrAt (by decide) (.inl (by decide)) (by unfold isRaw; decide)
  unfold Core.emit
  split
  · exact h
  · refine ite h.hidden ?_
    unfold Core.holdItem
    exact ite (ite (dropped _) h.hidden) (ite (ite (h.wrBehind (by decide)) h.hidden) (ite h.hidden (ite (dropped _)
      (ite (dropped _) h.hidden))))

/-! ### The pulse aligners (R208) -/

theorem palLow (h : Told F c d) : Told F c d.palLow := h.each fun _ h => h.wrBehind (by decide)

theorem setPa {a : Nat} {x : Pa} (h : Told F c d) : Told F c (d.setPa a x) := h.hidden

theorem paGoto {a new cause : Nat} (h : Told F c d) : Told F c (d.paGoto a new cause) := by
  unfold Core.paGoto
  extract_lets old c1 c2 c3 c4 c5 x stop c6 c7
  have h1 : Told F c c1 := h.wrBehind (by decide)
  have h2 : Told F c c2 := h1.wrBehind (by decide)
  have h3 : Told F c c3 := h2.on fun h => h.wrBehind (by decide)
  have h4 : Told F c c4 := h3.on fun h => (h.wrBehind (by decide)).raise
  have h5 : Told F c c5 := h4.on fun h => h.wrBehind (by decide)
  have h6 : Told F c c6 := ite h5.setPa (ite h5.setPa h5)
  have h7 : Told F c c7 := h6.on fun h => (h.wrBehind (by decide)).wrBehind (by decide)
  exact ite h1 (palLow (emit h7))

theorem palEval {a : Nat} (h : Told F c d) : Told F c (d.palEval a) := by
  unfold Core.palEval
  extract_lets st c1 st1 ok
  have h1 : Told F c c1 := ite h.paGoto h
  exact ite h (ite (ite h h.paGoto) (ite h.paGoto (ite h (ite (ite h1 h1.paGoto) (ite h1.paGoto
    (ite (ite h1.paGoto (ite h1.paGoto h1)) h1))))))

theorem palEvalAll (h : Told F c d) : Told F c d.palEvalAll := h.each fun _ h => h.palEval

end Core.Told

end Sys2Proof.Machine
end

section
/-! The changes of a candidate's state (R72 to R75). -/

namespace Sys2Proof.Machine

open Sys2Proof

/-! ## One change (R73, R85, R91) -/

/-- The fields of the candidates in which the disagreement of pairs shows (R85, R86). -/
def disFlds : List Fld := [REF_DISAGREE.mask, REF_STATE.disagree, REF_STATE.outvoted]

/-- The events of a change of state. -/
def changeFlds : List Fld := [REF_EVENT.no_signal, REF_EVENT.disq, REF_EVENT.degrading, REF_EVENT.qualified]

/-- The fields of the estimate (R92). -/
def estimateFlds : List Fld :=
  [REF_PHASE_LO.phase_lo, REF_PHASE_HI.phase_hi, REF_FREQ_LO.freq_lo, REF_FREQ_HI.freq_hi, REF_STAB.noise, REF_STAB.stab_log]

/-- The fields that entering a state writes. -/
def enterFlds : List Fld := [REF_DRIFT.value, REF_STATE.est_clamp, REF_STATE.phase_epoch] ++ estimateFlds

/-- All that a change of state writes beside the state and its cause. -/
def besideFlds : List Fld := enterFlds ++ (changeFlds ++ disFlds)

/-- All that a change of state writes. -/
def gotoFlds : List Fld := REF_STATE.cause :: REF_STATE.state :: besideFlds

/-- A candidate's hidden state in DISABLED. -/
def Cand.disabled (x : Cand) : Cand := { inReset := x.inReset, jumps := x.jumps, tod := x.tod, epochDue := x.epochDue }

/-- A candidate's hidden state once it has entered NO_SIGNAL. -/
def Cand.silent (x : Cand) (old now : Nat) : Cand := { x with
  start := if old = csDisabled then now else x.start, late := if old = csDisabled then 0 else x.late,
  goodRun := 0, outRun := 0, pwRun := 0, gate := none, gateDone := none, hist := [], overrun := false,
  freqBad := false, rejHit := false, degrade := false }

/-- A candidate's hidden state once it has entered OBSERVING. -/
def Cand.observed (x : Cand) (old : Nat) (time : Bool) : Cand := { x with
  epochDue := false, restart := x.restart || !time || old = csNoSignal, passed := false, qualUp := false, gates := 0,
  overrun := false, freqBad := false, rejHit := false, degrade := false }

/-- A candidate's hidden state once it has entered `new`. -/
def Cand.entered (x : Cand) (new old now : Nat) (time : Bool) : Cand :=
  if new = csDisabled then x.disabled else if new = csNoSignal then x.silent old now
  else if new = csObserving then x.observed old time else x

/-- What entering a state does to the candidate's own estimate. -/
def Core.candEnter (c : Core) (i new old : Nat) : Core :=
  let x := c.cand i
  let time := c.candIsTime i
  if new = csDisabled then (((c.setCand i x.disabled).candRegs i).wr REF_DRIFT.value 0 i).wr REF_STATE.est_clamp 0 i
  else if new = csNoSignal then (c.setCand i (x.silent old c.now)).wr REF_DRIFT.value 0 i
  else if new = csObserving then
    (c.on (x.epochDue && time) fun c => c.bumpWrap REF_STATE.phase_epoch i).setCand i (x.observed old time)
  else c

/-- The event of the state entered. -/
def Core.candMark (c : Core) (i new : Nat) : Core :=
  (((c.on (new = csNoSignal) fun c => c.wr REF_EVENT.no_signal 1 i).on (new = csDisqualified) fun c =>
    c.wr REF_EVENT.disq 1 i).on (new = csDegrading) fun c => c.wr REF_EVENT.degrading 1 i).on (new = csQualified) fun c =>
    c.wr REF_EVENT.qualified 1 i

/-- What others see of the change: the pairs, the faults, the record and the pulse aligners. -/
def Core.candTell (c : Core) (i new old : Nat) : Core :=
  ((((c.pairsClear.on (new = csNoSignal && candRunning old) fun c => c.raise 0 i).on (new = csDisqualified) fun c =>
    c.raise 1 i).on (new = csDegrading) fun c => c.raise 2 i).candEvent i old).palEvalAll

/-- The new state with its cause. -/
def Core.candNamed (c : Core) (i new cause : Nat) : Core := (c.wr REF_STATE.cause cause i).wr REF_STATE.state new i

theorem Core.candGoto_of_ne {c : Core} {i new cause : Nat} (h : new ≠ c.candState i) :
    c.candGoto i new cause =
      (((c.candNamed i new cause).candEnter i new (c.candState i)).candMark i new).candTell i new (c.candState i) := by
  unfold Core.candGoto
  rw [if_neg h]
  rfl

theorem Core.candGoto_of_eq {c : Core} {i new cause : Nat} (h : new = c.candState i) :
    c.candGoto i new cause = c.wr REF_STATE.cause cause i := if_pos h

namespace Core.Told

variable {F : List Fld} {c d : Core}

theorem candRegs {i : Nat} (h : Told F c d) (hF : ∀ f ∈ estimateFlds, f ∈ F) : Told F c (d.candRegs i) := by
  unfold Core.candRegs Core.wrPair
  extract_lets x v c1 w c2 c3
  have h1 : Told F c c1 := (h.wr (hF REF_PHASE_LO.phase_lo (by decide)) rfl).wr (hF REF_PHASE_HI.phase_hi (by decide)) rfl
  have h2 : Told F c c2 := (h1.wr (hF REF_FREQ_LO.freq_lo (by decide)) rfl).wr (hF REF_FREQ_HI.freq_hi (by decide)) rfl
  have h3 : Told F c c3 := h2.wr (hF REF_STAB.noise (by decide)) rfl
  exact h3.wr (hF REF_STAB.stab_log (by decide)) rfl

theorem disRefresh (h : Told F c d) (hF : ∀ f ∈ disFlds, f ∈ F) : Told F c d.disRefresh :=
  h.each fun _ h => ((h.wr (hF REF_DISAGREE.mask (by decide)) rfl).wr (hF REF_STATE.disagree (by decide)) rfl).wr
    (hF REF_STATE.outvoted (by decide)) rfl

theorem pairsClear (h : Told F c d) (hF : ∀ f ∈ disFlds, f ∈ F) : Told F c d.pairsClear :=
  disRefresh (h.each fun _ h => h.each fun _ h => ite h.hidden h) hF

theorem candTell {i new old : Nat} (h : Told F c d) (hF : ∀ f ∈ disFlds, f ∈ F) : Told F c (d.candTell i new old) := by
  unfold Core.candTell
  have raised : ∀ {e : Core} {fs : Nat}, Told F c e → Told F c (e.raise fs i) := raise
  exact palEvalAll (emit (on (on (on (h.pairsClear hF) raised) raised) raised))

theorem candMark {i new : Nat} (h : Told F c d) (hF : ∀ f ∈ changeFlds, f ∈ F) : Told F c (d.candMark i new) := by
  unfold Core.candMark
  exact on (on (on (h.on fun h => h.wr (hF REF_EVENT.no_signal (by decide)) rfl)
    fun h => h.wr (hF REF_EVENT.disq (by decide)) rfl) fun h => h.wr (hF REF_EVENT.degrading (by decide)) rfl)
    fun h => h.wr (hF REF_EVENT.qualified (by decide)) rfl

/-- A candidate's hidden state replaced by itself. -/
theorem setCandSame {i : Nat} : Told F (d.setCand i (d.cand i)) d := by
  refine ⟨fun _ _ _ _ _ => rfl, fun _ _ _ _ h => h, fun j => ?_, rfl, rfl⟩
  rw [Core.cand_setCand]
  split
  · next hj => rw [hj]
  · rfl

end Core.Told

theorem Core.told_candEnter (c : Core) (i new old : Nat) :
    Core.Told enterFlds (c.setCand i ((c.cand i).entered new old c.now (c.candIsTime i))) (c.candEnter i new old) := by
  unfold Core.candEnter Cand.entered
  extract_lets x time
  by_cases h0 : new = csDisabled
  · rw [if_pos h0, if_pos h0]
    exact ((Core.Told.refl.candRegs (by decide)).wr (by decide) rfl).wr (by decide) rfl
  by_cases h1 : new = csNoSignal
  · rw [if_neg h0, if_pos h1, if_neg h0, if_pos h1]
    exact Core.Told.refl.wr (by decide) rfl
  by_cases h2 : new = csObserving
  · rw [if_neg h0, if_neg h1, if_pos h2, if_neg h0, if_neg h1, if_pos h2]
    cases x.epochDue && time with
    | true => exact Core.Told.refl.wr (c := c.setCand i (x.observed old time)) (by decide) rfl
    | false => exact Core.Told.refl
  · rw [if_neg h0, if_neg h1, if_neg h2, if_neg h0, if_neg h1, if_neg h2]
    exact Core.Told.setCandSame

/-- A change of state beside the state and its cause. -/
theorem Core.told_candGoto_of_ne {c : Core} {i new cause : Nat} (h : new ≠ c.candState i) :
    Core.Told besideFlds ((c.candNamed i new cause).setCand i
      ((c.cand i).entered new (c.candState i) c.now ((c.candNamed i new cause).candIsTime i))) (c.candGoto i new cause) := by
  rw [Core.candGoto_of_ne h]
  exact (((Core.told_candEnter (c.candNamed i new cause) i new (c.candState i)).mono (by decide)).candMark (by decide)).candTell
    (by decide)

/-- A candidate's hidden state after a change of state, which one to its own state is not. -/
def Core.candAfter (c : Core) (i new cause : Nat) : Cand :=
  if new = c.candState i then c.cand i
  else (c.cand i).entered new (c.candState i) c.now ((c.candNamed i new cause).candIsTime i)

theorem Core.told_candGoto (c : Core) (i new cause : Nat) :
    Core.Told gotoFlds (c.setCand i (c.candAfter i new cause)) (c.candGoto i new cause) := by
  unfold Core.candAfter
  by_cases h : new = c.candState i
  · rw [if_pos h, Core.candGoto_of_eq h]
    exact Core.Told.setCandSame.wr (by decide) rfl
  · rw [if_neg h]
    have named {y : Cand} : Core.Told gotoFlds (c.setCand i y) ((c.candNamed i new cause).setCand i y) :=
      (Core.Told.refl.wr (f := REF_STATE.cause) (v := cause) (j := i) (by decide) rfl).wr (by decide) rfl
    exact named.trans ((Core.told_candGoto_of_ne h).mono (by decide))

theorem Core.candGoto_state {c : Core} {i new cause : Nat} (hi : i < 24) (hn : new < 8) : (c.candGoto i new cause).candState i = new := by
  by_cases h : new = c.candState i
  · rw [Core.candGoto_of_eq h]
    exact (Core.rd_wr_ne _ _ _ _ _ _ _ _ (Fld.key_ne_of_apart rfl rfl i i)).trans h.symm
  · refine ((Core.told_candGoto_of_ne h).regs REF_STATE.state rfl (by decide) i hi).trans ?_
    exact (Core.rd_wr_same ..).trans (Nat.mod_eq_of_lt hn)

theorem Core.candGoto_cause {c : Core} {i new cause : Nat} (hi : i < 24) (hc : cause < 16) :
    (c.candGoto i new cause).rd REF_STATE.cause i = cause := by
  by_cases h : new = c.candState i
  · rw [Core.candGoto_of_eq h]
    exact (Core.rd_wr_same ..).trans (Nat.mod_eq_of_lt hc)
  · refine ((Core.told_candGoto_of_ne h).regs REF_STATE.cause rfl (by decide) i hi).trans ?_
    exact (Core.rd_wr_ne _ _ _ _ _ _ _ _ (Fld.key_ne_of_apart rfl rfl i i)).trans
      ((Core.rd_wr_same ..).trans (Nat.mod_eq_of_lt hc))

/-- What a change of state has written when others come to see it stays, but for the disagreement of pairs. -/
theorem Core.candGoto_rd {c : Core} {i new cause : Nat} (hi : i < 24) (h : new ≠ c.candState i) {g : Fld} (hg : g.ofRef = true)
    (ha : ∀ f ∈ disFlds, f.apart g = true) : (c.candGoto i new cause).rd g i =
      (((c.candNamed i new cause).candEnter i new (c.candState i)).candMark i new).rd g i := by
  rw [Core.candGoto_of_ne h]
  exact (Core.Told.refl.candTell fun _ => id).regs g hg ha i hi

theorem Core.candGoto_noSignal {c : Core} {i cause : Nat} (hi : i < 24) (h : csNoSignal ≠ c.candState i) :
    (c.candGoto i csNoSignal cause).rd REF_EVENT.no_signal i = 1 := by
  rw [Core.candGoto_rd hi h rfl (by decide)]
  exact Core.rd_wr_same ..

theorem Core.candGoto_qualified {c : Core} {i cause : Nat} (hi : i < 24) (h : csQualified ≠ c.candState i) :
    (c.candGoto i csQualified cause).rd REF_EVENT.qualified i = 1 := by
  rw [Core.candGoto_rd hi h rfl (by decide)]
  exact Core.rd_wr_same ..

/-- FS0 is raised for a candidate that the variant has. -/
theorem Core.raise0_raw {c : Core} {i : Nat} (hi : i < 24) (hp : c.part.cand i = true) :
    bitOf ((c.raise 0 i).rd FLT_RAW.hit 0 0) 0 = true := by
  refine c.raiseInfo_raw false (fs := 0) ?_
  have unit : c.part.fsUnitOk 0 i = true := by
    unfold Part.fsUnitOk
    rw [if_pos (by decide), hp, decide_eq_true hi]
    rfl
  have here : c.part.fsAbsent 0 = false := by
    unfold Part.fsAbsent
    exact Bool.and_false _
  rw [unit, here]
  rfl

/-- NO_SIGNAL entered from a running state raises FS0 (R75). -/
theorem Core.candGoto_raw {c : Core} {i cause : Nat} (hi : i < 24) (hp : c.part.cand i = true)
    (hr : candRunning (c.candState i) = true) : bitOf ((c.candGoto i csNoSignal cause).rd FLT_RAW.hit 0 0) 0 = true := by
  have h : csNoSignal ≠ c.candState i := by
    intro h
    rw [← h] at hr
    exact Bool.false_ne_true hr
  have told : Core.Told besideFlds _ (((c.candNamed i csNoSignal cause).candEnter i csNoSignal (c.candState i)).candMark i
      csNoSignal).pairsClear :=
    (((Core.told_candEnter (c.candNamed i csNoSignal cause) i csNoSignal (c.candState i)).mono (by decide)).candMark
      (by decide)).pairsClear (by decide)
  rw [Core.candGoto_of_ne h]
  unfold Core.candTell
  rw [hr]
  refine (Core.Told.palEvalAll (F := []) (Core.Told.emit Core.Told.refl)).raw 0 (by decide) 0 (by decide) ?_
  exact Core.raise0_raw hi (told.part ▸ hp)

/-! ## The changes that the conditions ask for (R73) -/

theorem Core.of_ite {P : Core → Prop} {p : Prop} [Decidable p] {c d : Core} (h : P c) (k : P d) : P (if p then c else d) := by
  split <;> assumption

/-- One evaluation changes nothing, or is a change of state: one to DISABLED only where something asks for that. -/
theorem Core.candOnce_cases {P : Core → Prop} {c : Core} {i : Nat} {act qual wtr : Bool} (same : P c)
    (disables : c.candDisabled i ≠ none → ∀ cause, P (c.candGoto i csDisabled cause))
    (changes : c.candDisabled i = none → ∀ new cause, new ∈ [csNoSignal, csObserving, csQualified, csDegrading, csDisqualified] →
      P (c.candGoto i new cause)) : P (c.candOnce i act qual wtr) := by
  unfold Core.candOnce
  refine of_ite same ?_
  dsimp only
  split
  · next cause hc => exact disables (by rw [hc]; exact Option.some_ne_none cause) cause
  · next hc =>
    have silent : ∀ cause, P (c.candGoto i csNoSignal cause) := fun _ => changes hc _ _ (by decide)
    have observing : ∀ cause, P (c.candGoto i csObserving cause) := fun _ => changes hc _ _ (by decide)
    have disqualified : ∀ cause, P (c.candGoto i csDisqualified cause) := fun _ => changes hc _ _ (by decide)
    have qualified : ∀ cause, P (c.candGoto i csQualified cause) := fun _ => changes hc _ _ (by decide)
    have degrading : ∀ cause, P (c.candGoto i csDegrading cause) := fun _ => changes hc _ _ (by decide)
    refine of_ite (silent _) (of_ite (of_ite (observing _) (silent _)) (of_ite (silent _) ?_))
    split
    · exact disqualified _
    · exact of_ite (of_ite (observing _) (disqualified _)) (of_ite (of_ite (qualified _) (observing _))
        (of_ite (degrading _) (qualified _)))

/-- What one evaluation keeps, the evaluation of a candidate keeps. -/
theorem Core.candEval_keeps {P : Core → Prop} {c : Core} {i : Nat} {act qual wtr : Bool}
    (once : ∀ {c : Core} {act qual wtr : Bool}, P c → P (c.candOnce i act qual wtr)) (h : P c) :
    P (c.candEval i act qual wtr) := of_ite (once (once h)) (once h)

/-- An evaluation writes no other field than a change of state does. -/
theorem Core.candEval_rd (c : Core) {i : Nat} {act qual wtr : Bool} {g : Fld} (hg : g.ofRef = true)
    (ha : ∀ f ∈ gotoFlds, f.apart g = true) {j : Nat} (hj : j < 24) : (c.candEval i act qual wtr).rd g j = c.rd g j := by
  have goto {d : Core} (new cause : Nat) : (d.candGoto i new cause).rd g j = d.rd g j :=
    (d.told_candGoto i new cause).regs g hg ha j hj
  refine Core.candEval_keeps (P := fun d => d.rd g j = c.rd g j) (fun h => ?_) rfl
  exact Core.candOnce_cases (P := fun d => d.rd g j = c.rd g j) h (fun _ cause => (goto csDisabled cause).trans h)
    fun _ new cause _ => (goto new cause).trans h

/-- An evaluation that does not enter OBSERVING is one change of state. -/
theorem Core.candEval_of_once {c d : Core} {i : Nat} {act qual wtr : Bool} (h : c.candOnce i act qual wtr = d)
    (hs : d.candState i ≠ csObserving ∨ c.candState i = csObserving) : c.candEval i act qual wtr = d := by
  unfold Core.candEval
  rw [h]
  refine if_neg ?_
  rcases hs with hs | hs <;> simp [hs]

/-! ## What the conditions read -/

/-- The fields that decide whether a candidate is DISABLED (R72). -/
def enableFlds : List Fld :=
  [REF_CFG.en, REF_CFG.mode, REF_CFG.ctype, REF_NOM_LO.nom_lo, REF_NOM_HI.nom_hi, REF_PREDIV.prediv]

theorem Core.candDisabled_congr {c d : Core} {i : Nat} (hr : ∀ f ∈ enableFlds, d.rd f i = c.rd f i)
    (hx : (d.cand i).inReset = (c.cand i).inReset) (he : d.estRun = c.estRun) : d.candDisabled i = c.candDisabled i := by
  have hen := hr REF_CFG.en (by decide)
  have hmode := hr REF_CFG.mode (by decide)
  have htype := hr REF_CFG.ctype (by decide)
  have hlo := hr REF_NOM_LO.nom_lo (by decide)
  have hhi := hr REF_NOM_HI.nom_hi (by decide)
  have hdiv := hr REF_PREDIV.prediv (by decide)
  have valid : d.candValid i = c.candValid i := by
    unfold Core.candValid Core.candNom Core.candPrediv Core.candIsTime Core.rdB
    by_cases h : 16 ≤ i
    · rw [if_pos h, if_pos h]
    · rw [if_neg h, if_neg h]
      simp only [if_pos (Nat.lt_of_not_le h), hmode, htype, hlo, hhi, hdiv]
  unfold Core.candDisabled Core.rdB
  rw [hx, he, hen, hmode, valid]

/-- The fields of the checks of a running candidate. -/
def checkFlds : List Fld := [REF_CTRL.force_disq, REF_QL_CFG.ql_en, REF_QL_CFG.floor, REF_STATE.ql_rank]

theorem ite_some_eq_none {p : Prop} [Decidable p] {a : Nat} {o : Option Nat} :
    (if p then some a else o) = none ↔ ¬ p ∧ o = none := by
  split <;> simp [*]

/-- No check fails (R73). -/
theorem Core.candFailing_eq_none {c : Core} {i : Nat} : c.candFailing i = none ↔
    c.rdB REF_CTRL.force_disq i = false ∧ (c.cand i).overrun = false ∧ (c.cand i).pwRun < 2 ∧ (c.cand i).rejHit = false ∧
      (c.candState i = csDisqualified → (c.cand i).freqBad = false) ∧
      (c.rdB REF_QL_CFG.ql_en i = true → c.rd REF_STATE.ql_rank i ≤ c.rd REF_QL_CFG.floor i) := by
  unfold Core.candFailing
  extract_lets x
  simp only [ite_some_eq_none]
  simp [x, and_assoc]

end Sys2Proof.Machine
end

section
/-! The commands that change a candidate's state (R73, R75): what the evaluation asks for in each case. -/

namespace Sys2Proof.Machine

open Sys2Proof

theorem Core.rd_wr_apart (c : Core) {f g : Fld} (hg : g.ofRef = true) (h : f.apart g = true) (v i j : Nat) :
    (c.wr f v j).rd g i = c.rd g i := Core.rd_wr_ne _ _ _ _ _ _ _ _ (Fld.key_ne_of_apart hg h i j)

section

variable {c : Core} {i : Nat} {qual wtr : Bool}

theorem candRunning_iff {st : Nat} : candRunning st = true ↔ 2 ≤ st ∧ st ≤ 5 := by
  unfold candRunning
  simp

/-- A running candidate whose activity fails. -/
theorem Core.candOnce_of_act (hp : c.part.cand i = true) (hd : c.candDisabled i = none) (hr : candRunning (c.candState i) = true) :
    c.candOnce i true qual wtr = c.candGoto i csNoSignal ccNoActivity := by
  obtain ⟨low, _⟩ := candRunning_iff.mp hr
  have h0 : c.candState i ≠ csDisabled := by unfold csDisabled; omega
  have h1 : c.candState i ≠ csNoSignal := by unfold csNoSignal; omega
  unfold Core.candOnce
  rw [hp, hd, if_neg (by decide)]
  dsimp only
  rw [if_neg h0, if_neg h1, if_pos rfl]

/-- A running candidate that fails a check. -/
theorem Core.candOnce_of_failing (hp : c.part.cand i = true) (hd : c.candDisabled i = none)
    (hr : candRunning (c.candState i) = true) {cause : Nat} (hf : c.candFailing i = some cause) :
    c.candOnce i false qual wtr = c.candGoto i csDisqualified cause := by
  obtain ⟨low, _⟩ := candRunning_iff.mp hr
  have h0 : c.candState i ≠ csDisabled := by unfold csDisabled; omega
  have h1 : c.candState i ≠ csNoSignal := by unfold csNoSignal; omega
  unfold Core.candOnce
  rw [hp, hd, hf, if_neg (by decide)]
  dsimp only
  rw [if_neg h0, if_neg h1, if_neg Bool.false_ne_true]

/-- A DISQUALIFIED candidate that fails none, when its time has passed. -/
theorem Core.candOnce_of_wtr (hp : c.part.cand i = true) (hd : c.candDisabled i = none) (hf : c.candFailing i = none)
    (hs : c.candState i = csDisqualified) : c.candOnce i false qual true = c.candGoto i csObserving ccQualTimer := by
  unfold Core.candOnce
  rw [hp, hd, hf, hs, if_neg (by decide)]
  rfl

/-- An OBSERVING candidate that fails none. -/
theorem Core.candOnce_of_observing (hp : c.part.cand i = true) (hd : c.candDisabled i = none) (hf : c.candFailing i = none)
    (hs : c.candState i = csObserving) : c.candOnce i false qual wtr =
      if (qual || (c.cand i).qualUp) && (c.cand i).passed && !(c.cand i).freqBad then c.candGoto i csQualified ccNone
      else c.candGoto i csObserving (if (c.cand i).freqBad then ccFreqWindow else ccQualTimer) := by
  unfold Core.candOnce
  rw [hp, hd, hf, hs, if_neg (by decide)]
  rfl

/-! ## QUALIFIED (R73) -/

theorem Core.candEval_qualified (hi : i < 24) (hp : c.part.cand i = true) (hd : c.candDisabled i = none)
    (hf : c.candFailing i = none) (hs : c.candState i = csObserving) (hq : (qual || (c.cand i).qualUp) = true)
    (hpass : (c.cand i).passed = true) (hbad : (c.cand i).freqBad = false) :
    (c.candEval i false qual wtr).candState i = csQualified ∧ (c.candEval i false qual wtr).rd REF_EVENT.qualified i = 1 := by
  have once : c.candOnce i false qual wtr = c.candGoto i csQualified ccNone := by
    rw [Core.candOnce_of_observing hp hd hf hs, hq, hpass, hbad]
    rfl
  rw [Core.candEval_of_once once (.inr hs)]
  exact ⟨Core.candGoto_state hi (by decide), Core.candGoto_qualified hi (by rw [hs]; decide)⟩

/-! ## OBSERVING (R73) -/

/-- What a change of state keeps of the two questions: the fields that they read, and the blocks' run. -/
theorem Core.candGoto_candDisabled (hi : i < 24) (new cause : Nat) : (c.candGoto i new cause).candDisabled i = c.candDisabled i := by
  have told := c.told_candGoto i new cause
  have ref : ∀ f ∈ enableFlds, f.ofRef = true ∧ ∀ g ∈ gotoFlds, g.apart f = true := by decide
  refine Core.candDisabled_congr (fun f hf => told.regs f (ref f hf).1 (ref f hf).2 i hi) ?_ told.estRun
  rw [told.cand, Core.cand_setCand, if_pos rfl]
  unfold Core.candAfter Cand.entered
  split_ifs <;> rfl

theorem Core.candEval_observing (hi : i < 24) (hp : c.part.cand i = true) (hd : c.candDisabled i = none)
    (hf : c.candFailing i = none) (hs : c.candState i = csDisqualified) :
    (c.candEval i false qual true).candState i = csObserving := by
  unfold Core.candEval
  rw [Core.candOnce_of_wtr hp hd hf hs]
  extract_lets d
  have told := c.told_candGoto i csObserving ccQualTimer
  have ref : ∀ f ∈ checkFlds, f.ofRef = true ∧ ∀ g ∈ gotoFlds, g.apart f = true := by decide
  have state : d.candState i = csObserving := Core.candGoto_state hi (by decide)
  have after : d.cand i = c.candAfter i csObserving ccQualTimer := by
    rw [told.cand, Core.cand_setCand, if_pos rfl]
  have ne : csObserving ≠ c.candState i := by
    rw [hs]
    decide
  have observed : d.cand i = (c.cand i).observed (c.candState i) ((c.candNamed i csObserving ccQualTimer).candIsTime i) := by
    rw [after, Core.candAfter, if_neg ne]
    rfl
  have failing : d.candFailing i = none := by
    have kept (f : Fld) (hf : f ∈ checkFlds) : d.rd f i = c.rd f i := told.regs f (ref f hf).1 (ref f hf).2 i hi
    obtain ⟨force, _, pw, _, _, floor⟩ := Core.candFailing_eq_none.mp hf
    refine Core.candFailing_eq_none.mpr ⟨?_, ?_, ?_, ?_, ?_, ?_⟩
    · exact (congrArg (fun n => decide (n ≠ 0)) (kept REF_CTRL.force_disq (by decide))).trans force
    · rw [observed]
      rfl
    · rw [observed]
      exact pw
    · rw [observed]
      rfl
    · rw [observed]
      exact fun _ => rfl
    · unfold Core.rdB at floor ⊢
      rw [kept REF_QL_CFG.ql_en (by decide), kept REF_QL_CFG.floor (by decide), kept REF_STATE.ql_rank (by decide)]
      exact floor
  have disabled : d.candDisabled i = none := (Core.candGoto_candDisabled hi _ _).trans hd
  have again := Core.candOnce_of_observing (qual := false) (wtr := false) (told.part ▸ hp) disabled failing state
  rw [observed] at again
  have stays : d.candOnce i false false false = d.candGoto i csObserving ccQualTimer := again
  rw [stays, if_pos (by rw [state, hs]; decide)]
  exact Core.candGoto_state hi (by decide)

/-! ## DISQUALIFIED (R73) -/

theorem Core.candEval_disqualified (hi : i < 24) (hp : c.part.cand i = true) (hd : c.candDisabled i = none)
    (hr : candRunning (c.candState i) = true) {cause : Nat} (hc : cause < 16) (hf : c.candFailing i = some cause) :
    (c.candEval i false qual wtr).candState i = csDisqualified ∧
      (c.candEval i false qual wtr).rd REF_STATE.cause i = cause := by
  have state : (c.candGoto i csDisqualified cause).candState i = csDisqualified := Core.candGoto_state hi (by decide)
  rw [Core.candEval_of_once (Core.candOnce_of_failing hp hd hr hf) (.inl (by rw [state]; decide))]
  exact ⟨state, Core.candGoto_cause hi hc⟩

/-! ## NO_SIGNAL (R75) -/

theorem Core.candEval_noSignal (hi : i < 24) (hp : c.part.cand i = true) (hd : c.candDisabled i = none)
    (hr : candRunning (c.candState i) = true) :
    (c.candEval i true).candState i = csNoSignal ∧ (c.candEval i true).rd REF_STATE.cause i = ccNoActivity ∧
      (c.candEval i true).rd REF_EVENT.no_signal i = 1 ∧ bitOf ((c.candEval i true).rd FLT_RAW.hit 0 0) 0 = true := by
  have state : (c.candGoto i csNoSignal ccNoActivity).candState i = csNoSignal := Core.candGoto_state hi (by decide)
  have ne : csNoSignal ≠ c.candState i := by
    obtain ⟨low, _⟩ := candRunning_iff.mp hr
    unfold csNoSignal
    omega
  rw [Core.candEval_of_once (Core.candOnce_of_act hp hd hr) (.inl (by rw [state]; decide))]
  exact ⟨state, Core.candGoto_cause hi (by decide), Core.candGoto_noSignal hi ne, Core.candGoto_raw hi hp hr⟩

end

/-! ## The commands -/

/-- A write that does not enable, and a hidden state with the same reset, leave the question of DISABLED as it is. -/
theorem Core.candDisabled_wr (c : Core) {f : Fld} (h : ∀ g ∈ enableFlds, f.apart g = true) (v i j : Nat) :
    (c.wr f v j).candDisabled i = c.candDisabled i := by
  have ref : ∀ g ∈ enableFlds, g.ofRef = true := by decide
  exact Core.candDisabled_congr (fun g hg => c.rd_wr_apart (ref g hg) (h g hg) v i j) rfl rfl

theorem Core.candDisabled_setCand (c : Core) {i : Nat} {x : Cand} (h : x.inReset = (c.cand i).inReset) :
    (c.setCand i x).candDisabled i = c.candDisabled i :=
  Core.candDisabled_congr (fun _ _ => rfl) (by rw [Core.cand_setCand, if_pos rfl, h]) rfl

/-- The candidate's registers are those of a unit that the variant has (R1). -/
theorem Core.atReg_ref {c : Core} {f : Fld} {ex i : Nat} {g : Core → Core} (hf : f.ofRef = true) (hi : i < 24)
    (hp : c.part.cand i = true) : c.atReg ex (f.addr i 0) g = g c := by
  simp only [Fld.ofRef, Bool.and_eq_true, decide_eq_true_eq] at hf
  obtain ⟨⟨⟨hb, hs⟩, ho⟩, _⟩ := hf
  have addr : f.addr i 0 = 0x100000 + i * 0x400 + f.off := by
    unfold Fld.addr
    rw [hb, hs, Nat.zero_mul, Nat.add_zero]
  have inst : (f.addr i 0 - 0x100000) / 0x400 = i := by omega
  have here : c.part.absentAt (f.addr i 0) = false := by
    unfold Part.absentAt
    extract_lets u
    rw [if_pos (by rw [Bool.and_eq_true, decide_eq_true_eq, decide_eq_true_eq]; omega)]
    unfold u
    rw [inst, hp]
    rfl
  unfold Core.atReg
  rw [here]
  rfl

theorem activityFailureStep_effect {c : Core} {i : Fin 24} (hp : c.part.cand i = true) (hd : c.candDisabled i = none)
    (hr : candRunning (c.candState i) = true) :
    (activityFailureStep i c).candState i = csNoSignal ∧ (activityFailureStep i c).rd REF_STATE.cause i = ccNoActivity ∧
      (activityFailureStep i c).rd REF_EVENT.no_signal i = 1 ∧
      bitOf ((activityFailureStep i c).rd FLT_RAW.hit 0 0) 0 = true := by
  unfold activityFailureStep
  extract_lets i' st x act c1 c2
  have ne : st ≠ csDisabled := by
    obtain ⟨low, _⟩ := candRunning_iff.mp hr
    unfold csDisabled st i'
    omega
  rw [if_neg ne]
  have disabled : c2.candDisabled i = none := by
    refine (c1.candDisabled_setCand ?_).trans ((c.candDisabled_wr (by decide) _ _ _).trans hd)
    rfl
  have state : c2.candState i = c.candState i := c.rd_wr_apart rfl rfl _ _ _
  exact Core.candEval_noSignal i.isLt hp disabled (state ▸ hr)

theorem qualTimeExpireStep_effect {c : Core} {i : Fin 24} (hp : c.part.cand i = true) (hs : c.candState i = csObserving)
    (hd : c.candDisabled i = none) (hf : c.candFailing i = none) (hpass : (c.cand i).passed = true)
    (hbad : (c.cand i).freqBad = false) :
    (qualTimeExpireStep i c).candState i = csQualified ∧ (qualTimeExpireStep i c).rd REF_EVENT.qualified i = 1 := by
  have after : (c.setCand i { c.cand i with qualUp := true }).cand i = { c.cand i with qualUp := true } := by
    rw [Core.cand_setCand, if_pos rfl]
  have failing : (c.setCand i { c.cand i with qualUp := true }).candFailing i = none := by
    rw [Core.candFailing_eq_none, after]
    exact Core.candFailing_eq_none.mp hf
  have step : qualTimeExpireStep i c = (c.setCand i { c.cand i with qualUp := true }).candEval i := if_pos hs
  rw [step]
  have disabled : (c.setCand i { c.cand i with qualUp := true }).candDisabled i = none := by
    refine (c.candDisabled_setCand ?_).trans hd
    rfl
  refine Core.candEval_qualified i.isLt hp disabled failing hs ?_ ?_ ?_
  · rw [after]
    rfl
  · rw [after]
    exact hpass
  · rw [after]
    exact hbad

theorem requalStep_eq {c : Core} {i : Fin 24} (hp : c.part.cand i = true)
    (hs : c.candState i = csDisqualified ∨ c.candState i = csObserving) :
    requalStep i c = c.candEval i (qual := true) (wtr := true) := by
  refine (Core.atReg_ref (f := REF_CTRL.requal) rfl i.isLt hp).trans (if_pos ?_)
  rw [Bool.or_eq_true, decide_eq_true_eq, decide_eq_true_eq]
  exact hs

theorem forceDisqStep_eq {c : Core} {i : Fin 24} (v : Bool) (hp : c.part.cand i = true) :
    forceDisqStep i v c = (c.wrB REF_CTRL.force_disq v i).candEval i :=
  Core.atReg_ref (f := REF_CTRL.force_disq) rfl i.isLt hp

/-- The candidates' registers read after a command what the operation left in them. -/
theorem Dev.act_ref {f : Dev → Dev} {d : Dev} {g : Fld} {i : Fin 24} (hg : g.ofRef = true) :
    (d.act f).core.rd g i = (f d).core.rd g i := by
  obtain ⟨low, high, hl⟩ := Fld.addr_of_ofRef hg i.isLt
  simp only [Fld.ofRef, Bool.and_eq_true, decide_eq_true_eq] at hg
  obtain ⟨⟨⟨hb, hs⟩, ho⟩, _⟩ := hg
  exact Dev.act_rd _ _ _ _ _ hl (not_inSettle_ref (by rw [hb, hs, decide_eq_true ho]; rfl) i.isLt)

/-- Settles O19: each command comes to one evaluation of the candidate, and each evaluation to one change of state; entering
OBSERVING is followed by a second that stays there. -/
theorem candidateStates : Obligations.CandidateStates := by
  unfold Obligations.CandidateStates
  refine ⟨?activity, ?qualTime, ?wtr, ?requal, ?requalObserving, ?force, ?release⟩
  case activity =>
    intro s i hr hp hd hrun
    refine onRunCore_answers hr ?_
    unfold Core.candState
    rw [Dev.act_ref rfl, Dev.act_ref rfl, Dev.act_ref rfl, Dev.act_rd_key _ _ _ _ _ (by decide)]
    exact activityFailureStep_effect hp hd hrun
  case qualTime =>
    intro s i hr hp hs hd hf hpass hbad
    refine onRunCore_answers hr ?_
    unfold Core.candState
    rw [Dev.act_ref rfl, Dev.act_ref rfl]
    exact qualTimeExpireStep_effect hp hs hd hf hpass hbad
  case wtr =>
    intro s i hr hp hs hd hf
    have step : wtrExpireStep i s.dev.core = s.dev.core.candEval i (wtr := true) := if_pos hs
    refine onRunCore_answers hr ?_
    unfold Core.candState
    rw [Dev.act_ref rfl, step]
    exact Core.candEval_observing i.isLt hp hd hf hs
  case requal =>
    intro s i hr hp hs hd hf
    refine onRunCore_answers hr ?_
    unfold Core.candState
    rw [Dev.act_ref rfl, requalStep_eq hp (.inl hs)]
    exact Core.candEval_observing i.isLt hp hd hf hs
  case requalObserving =>
    intro s i hr hp hs hd hf hpass hbad
    refine onRunCore_answers hr ?_
    unfold Core.candState
    rw [Dev.act_ref rfl, requalStep_eq hp (.inr hs)]
    exact (Core.candEval_qualified i.isLt hp hd hf hs rfl hpass hbad).1
  case force =>
    intro s i hr hp hd hrun
    have disabled : (s.dev.core.wrB REF_CTRL.force_disq true i).candDisabled i = none :=
      (s.dev.core.candDisabled_wr (by decide) 1 i i).trans hd
    have forced : (s.dev.core.wrB REF_CTRL.force_disq true i).rd REF_CTRL.force_disq i = 1 := Core.rd_wr_same ..
    have failing : (s.dev.core.wrB REF_CTRL.force_disq true i).candFailing i = some ccForced :=
      if_pos (by unfold Core.rdB; rw [forced]; rfl)
    have state : (s.dev.core.wrB REF_CTRL.force_disq true i).candState i = s.dev.core.candState i :=
      s.dev.core.rd_wr_apart rfl rfl _ _ _
    obtain ⟨st, cause⟩ := Core.candEval_disqualified (c := s.dev.core.wrB REF_CTRL.force_disq true i) (qual := false)
      (wtr := false) i.isLt hp disabled (state ▸ hrun) (by decide) failing
    refine onRunCore_answers hr ?_
    unfold Core.candState
    rw [Dev.act_ref rfl, Dev.act_ref rfl, Dev.act_ref rfl, forceDisqStep_eq true hp]
    exact ⟨st, cause, (Core.candEval_rd _ rfl (by decide) i.isLt).trans forced⟩
  case release =>
    intro s i hr hp
    refine onRunCore_answers hr ?_
    rw [Dev.act_ref rfl, forceDisqStep_eq false hp]
    exact (Core.candEval_rd _ rfl (by decide) i.isLt).trans (Core.rd_wr_same ..)

end Sys2Proof.Machine
end

section
/-! Stamps and gates of a candidate (R63, R66, R75, R77). -/

namespace Sys2Proof.Machine

open Sys2Proof

/-! ## The periods that have passed (R75) -/

/-- Of a candidate the count of its missed periods changes the count alone. -/
theorem Core.missAll_keeps {P : Core → Prop} {c : Core} (t : Nat)
    (counted : ∀ d j n m, P d → P ((d.bump REF_MISS_CNT.count j 0 n).setCand j { d.cand j with missed := m })) (h : P c) :
    P (c.missAll t) := by
  refine Core.each_keeps (fun d j _ hd => ?_) h
  unfold Core.candMiss
  exact Core.of_ite (P := P) hd (Core.of_ite (P := P) hd (counted d j _ _ hd))

theorem Core.missAll_cand (c : Core) (t i : Nat) :
    (c.missAll t).cand i = { c.cand i with missed := ((c.missAll t).cand i).missed } := by
  refine Core.missAll_keeps (P := fun d => d.cand i = { c.cand i with missed := (d.cand i).missed }) t (fun d j n m h => ?_) rfl
  rw [Core.cand_setCand]
  by_cases hj : i = j
  · rw [if_pos hj, ← hj, h]
  · rw [if_neg hj]
    exact h

theorem Core.missAll_part (c : Core) (t : Nat) : (c.missAll t).part = c.part :=
  Core.missAll_keeps (P := fun d => d.part = c.part) t (fun _ _ _ _ h => h) rfl

theorem Core.missAll_estRun (c : Core) (t : Nat) : (c.missAll t).estRun = c.estRun :=
  Core.missAll_keeps (P := fun d => d.estRun = c.estRun) t (fun _ _ _ _ h => h) rfl

theorem Core.missAll_candDisabled (c : Core) (t i : Nat) : (c.missAll t).candDisabled i = c.candDisabled i := by
  have ref : ∀ f ∈ enableFlds, f.ofRef = true ∧ REF_MISS_CNT.count.apart f = true := by decide
  refine Core.candDisabled_congr (fun f hf => ?_) (by rw [Core.missAll_cand]) (c.missAll_estRun t)
  exact Core.missAll_keeps (P := fun d => d.rd f i = c.rd f i) t
    (fun d j _ _ h => (d.rd_wr_apart (ref f hf).1 (ref f hf).2 _ i j).trans h) rfl

theorem Core.missAll_rckClock (c : Core) (t : Nat) {i : Nat} (hi : i < 20) : (c.missAll t).rckClock i = c.rckClock i := by
  have kept : Core.Kept [0x10] c (c.missAll t) := Core.Kept.refl.missAll (by decide)
  have lane : ∀ f ∈ [ETH_STAT.l_sync, ETH_STAT.state, ETH_LOOP.side], f.lo < 32 ∧ ∀ n < 4, inBlocks [0x10] (f.addr n 0) = false := by
    decide
  have regs (f : Fld) (hf : f ∈ [ETH_STAT.l_sync, ETH_STAT.state, ETH_LOOP.side]) : (c.missAll t).rd f (i - 16) = c.rd f (i - 16) :=
    kept.rd_eq (lane f hf).1 ((lane f hf).2 (i - 16) (by omega))
  unfold Core.rckClock Core.rdB
  rw [regs _ (by decide), regs ETH_STAT.state (by decide), regs ETH_LOOP.side (by decide)]

/-! ## What keeps an enabled candidate's last stamp (R66) -/

/-- Nothing asks for DISABLED of candidate `i`, and its last stamp is that at `t`. -/
def Core.LastAt (i t : Nat) (c : Core) : Prop := c.candDisabled i = none ∧ (c.cand i).last = some t

namespace Core.LastAt

variable {i t : Nat} {c d : Core}

theorem told {F : List Fld} (h : LastAt i t c) (k : Core.Told F c d) (hi : i < 24)
    (hF : ∀ g ∈ enableFlds, g.ofRef = true ∧ ∀ f ∈ F, f.apart g = true) : LastAt i t d := by
  refine ⟨?_, by rw [k.cand, h.2]⟩
  rw [← h.1]
  exact Core.candDisabled_congr (fun g hg => k.regs g (hF g hg).1 (hF g hg).2 i hi) (by rw [k.cand]) k.estRun

theorem wr {f : Fld} {v j : Nat} (h : LastAt i t c) (hf : ∀ g ∈ enableFlds, f.apart g = true) : LastAt i t (c.wr f v j) :=
  ⟨(c.candDisabled_wr hf v i j).trans h.1, h.2⟩

theorem setCand {x : Cand} (h : LastAt i t c) (hr : x.inReset = (c.cand i).inReset) (hl : x.last = (c.cand i).last) :
    LastAt i t (c.setCand i x) := by
  refine ⟨(c.candDisabled_setCand hr).trans h.1, ?_⟩
  rw [Core.cand_setCand, if_pos rfl, hl, h.2]

theorem ite {p : Prop} [Decidable p] (h : LastAt i t c) (k : LastAt i t d) : LastAt i t (if p then c else d) := by
  split <;> assumption

theorem on {b : Bool} {f : Core → Core} (h : LastAt i t c) (hf : ∀ {e}, LastAt i t e → LastAt i t (f e)) : LastAt i t (c.on b f) :=
  ite (hf h) h

theorem injFire {fs u info : Nat} (h : LastAt i t c) (hi : i < 24) : LastAt i t (c.injFire fs u info) :=
  h.told (Core.Told.refl (F := [])).injFire hi (by decide)

theorem candRegs (h : LastAt i t c) (hi : i < 24) : LastAt i t (c.candRegs i) :=
  h.told (Core.Told.refl.candRegs (F := estimateFlds) fun _ => id) hi (by decide)

/-! ### Changes of state (R73) -/

theorem candGoto {new cause : Nat} (h : LastAt i t c) (hi : i < 24) (hn : new ≠ csDisabled) : LastAt i t (c.candGoto i new cause) := by
  refine ⟨(Core.candGoto_candDisabled hi new cause).trans h.1, ?_⟩
  rw [(c.told_candGoto i new cause).cand, Core.cand_setCand, if_pos rfl, ← h.2]
  unfold Core.candAfter Cand.entered
  rw [if_neg hn]
  split_ifs <;> rfl

theorem candOnce {act qual wtr : Bool} (h : LastAt i t c) (hi : i < 24) : LastAt i t (c.candOnce i act qual wtr) :=
  Core.candOnce_cases (P := LastAt i t) h (fun asked => absurd h.1 asked) fun _ new cause hn => h.candGoto hi (by
    have running : ∀ n ∈ [csNoSignal, csObserving, csQualified, csDegrading, csDisqualified], n ≠ csDisabled := by decide
    exact running new hn)

theorem candEval {act qual wtr : Bool} (h : LastAt i t c) (hi : i < 24) : LastAt i t (c.candEval i act qual wtr) :=
  Core.candEval_keeps (fun h => h.candOnce hi) h

/-! ### The estimator (R66 to R70) -/

theorem estJump {raw : Rat} {u : Nat} {ev : Bool} (h : LastAt i t c) (hi : i < 24) : LastAt i t (c.estJump i u raw ev) := by
  unfold Core.estJump
  extract_lets x time y c1 c2
  have h1 : LastAt i t c1 := by
    have same : y.inReset = x.inReset ∧ y.last = x.last := by
      unfold y
      split <;> exact ⟨rfl, rfl⟩
    exact h.setCand same.1 same.2
  have h2 : LastAt i t c2 := ite h1 (h1.wr (by decide))
  exact (h2.on fun h => h.wr (by decide)).candRegs hi

theorem estStep {raw T : Rat} {u n : Nat} (h : LastAt i t c) (hi : i < 24) : LastAt i t (c.estStep i u n raw T) := by
  unfold Core.estStep
  extract_lets y x c1 c2 r lim c3 lam a b s phi gate c4
  have h1 : LastAt i t c1 := h.setCand rfl rfl
  have h2 : LastAt i t c2 := h1.wr (by decide)
  have x2 : c2.cand i = x := by
    rw [show c2.cand i = c1.cand i from rfl, Core.cand_setCand, if_pos rfl]
  have h3 : LastAt i t c3 := (h2.wr (by decide)).setCand (congrArg Cand.inReset x2).symm (congrArg Cand.last x2).symm
  have h4 : LastAt i t c4 := h2.setCand (congrArg Cand.inReset x2).symm (congrArg Cand.last x2).symm
  exact ite (h1.estJump hi) (ite (ite (h3.estJump hi) h3) (h4.candRegs hi))

theorem coreData {v : Rat} (h : LastAt i t c) : LastAt i t (c.coreData v).2 := by
  unfold Core.coreData
  split <;> exact h

theorem linkVal {link prod : Nat} (h : LastAt i t c) (hi : i < 24) : LastAt i t (c.linkVal link prod).1 := by
  unfold Core.linkVal
  dsimp only
  split
  · exact h.injFire hi
  · split <;> exact h

theorem estUpdate {raw T : Rat} {u n : Nat} (h : LastAt i t c) (hi : i < 24) : LastAt i t (c.estUpdate i u n raw T) := by
  unfold Core.estUpdate
  exact ((h.coreData.estStep hi).linkVal hi).setCand rfl rfl

/-! ### The label of a frame (R83) -/

theorem setRank {r : Nat} (h : LastAt i t c) (hi : i < 24) : LastAt i t (c.setRank i r) := by
  unfold Core.setRank Core.rankRefresh
  extract_lets old new c1
  have h0 : LastAt i t (c.wr REF_QL_STAT.rank r i) := h.wr (by decide)
  have h1 : LastAt i t c1 := ite h0 (((h0.wr (by decide)).wr (by decide)).on fun h =>
    h.told (Core.Told.refl (F := [])).raise hi (by decide))
  exact h1.candEval hi

theorem todLabel {u : Nat} (h : LastAt i t c) (hi : i < 24) : LastAt i t (c.todLabel i u) := by
  unfold Core.todLabel
  split
  · exact h
  · extract_lets x c1 c2 c3 c4
    have h1 : LastAt i t c1 := h.setCand rfl rfl
    have h2 : LastAt i t c2 := h1.wr (by decide)
    have h3 : LastAt i t c3 := h2.wr (by decide)
    have h4 : LastAt i t c4 := (h3.wr (by decide)).wr (by decide)
    exact h4.setRank hi

end Core.LastAt

end Sys2Proof.Machine
end

section
/-! The stamps and gates of a candidate and the comparison of a pair (R63, R66, R77, R85). -/

namespace Sys2Proof.Machine

open Sys2Proof

/-! ## REF_STAMP (R63, R66) -/

/-- A stamp of an enabled REF or RCK candidate that has a clock is taken. -/
theorem Core.stamp_taken {c : Core} {i : Nat} (t : Nat) (hi : i < 20) (hp : c.part.cand i = true) (hs : c.candState i ≠ csDisabled)
    (hk : c.rckClock i = true) :
    (20 ≤ i || c.candState i = csDisabled || !(c.missAll t).part.cand i || !(c.missAll t).rckClock i) = false := by
  rw [Core.missAll_part, Core.missAll_rckClock c t hi, hp, hk, decide_eq_false (Nat.not_le.mpr hi), decide_eq_false hs]
  rfl

theorem Core.missAll_since (c : Core) (t i : Nat) : ((c.missAll t).cand i).since t = (c.cand i).since t := by
  rw [Core.missAll_cand]
  rfl

theorem Core.missAll_last (c : Core) (t i : Nat) : ((c.missAll t).cand i).last = (c.cand i).last := by
  rw [Core.missAll_cand]

/-- A stamp closer than 320 ns to the one kept. -/
theorem refStampStep_overrun {c : Core} {i : Fin 24} {t high l : Nat} (hi : i.val < 20) (hp : c.part.cand i = true)
    (hs : c.candState i ≠ csDisabled) (hk : c.rckClock i = true) (hl : (c.cand i).last = some l) (h0 : 0 ≤ (c.cand i).since t)
    (h1 : (c.cand i).since t < 320 * 65536) :
    (refStampStep i t high c).rd REF_EVENT.overrun i = 1 ∧ (refStampStep i t high c).rd REF_MISS_CNT.count i =
      min (2 ^ REF_MISS_CNT.count.width - 1) ((c.missAll t).rd REF_MISS_CNT.count i + 1) := by
  unfold refStampStep
  extract_lets i' st d x T near c1
  have close : near = true := by
    unfold near x
    rw [Core.missAll_since, Core.missAll_last, hl, decide_eq_true h0, decide_eq_true h1]
    rfl
  rw [Core.stamp_taken t hi hp hs hk, if_neg Bool.false_ne_true, close, if_pos rfl]
  have count : c1.rd REF_MISS_CNT.count i = min (d.rd REF_MISS_CNT.count i + 1) (2 ^ REF_MISS_CNT.count.width - 1) :=
    (Core.rd_wr_apart _ rfl rfl _ _ _).trans (Core.rd_bump_same ..)
  constructor
  · exact (Core.candEval_rd _ rfl (by decide) i.isLt).trans (Core.rd_wr_same ..)
  · rw [Nat.min_comm, ← count]
    exact Core.candEval_rd _ rfl (by decide) i.isLt

/-- The first stamp of an enabled candidate. -/
theorem refStampStep_last {c : Core} {i : Fin 24} {t high : Nat} (hi : i.val < 20) (hp : c.part.cand i = true)
    (hs : c.candState i ≠ csDisabled) (hd : c.candDisabled i = none) (hk : c.rckClock i = true) (hl : (c.cand i).last = none) :
    ((refStampStep i t high c).cand i).last = some t := by
  unfold refStampStep
  extract_lets i' st d x T near c1 n c2 bad pw y c3 raw c4 x4 c5
  have alone : near = false := by
    unfold near x
    rw [Core.missAll_last, hl]
    rfl
  rw [Core.stamp_taken t hi hp hs hk, if_neg Bool.false_ne_true, alone, if_neg Bool.false_ne_true]
  have enabled : c2.candDisabled i = none :=
    (d.candDisabled_wr (by decide) _ _ _).trans ((c.missAll_candDisabled t i).trans hd)
  have kept {z : Cand} (hz : z.inReset = x.inReset) (hzl : z.last = some t) : Core.LastAt i t (c2.setCand i z) :=
    ⟨(c2.candDisabled_setCand hz).trans enabled, by rw [Core.cand_setCand, if_pos rfl, hzl]⟩
  have h3 : Core.LastAt i t c3 := kept rfl rfl
  have h4 : Core.LastAt i t c4 := h3.estUpdate i.isLt
  have injected : Core.LastAt i t ((c4.injFire 6 i i).setCand i { c4.cand i with restart := true, parity := true }) := by
    have same : (c4.injFire 6 i i).cand i = c4.cand i := (Core.Told.injFire (F := []) Core.Told.refl).cand i
    exact (h4.injFire i.isLt).setCand (congrArg Cand.inReset same).symm (congrArg Cand.last same).symm
  have h5 : Core.LastAt i t c5 := .ite (kept rfl rfl) (.ite injected h4)
  exact ((h5.todLabel i.isLt).candEval i.isLt).2

/-! ## GATE_END (R77) -/

theorem satS_lt {w : Nat} (z : Int) : satS w z < 2 ^ w := by
  have pos : (0 : Int) < 2 ^ w := by positivity
  have low := Int.emod_nonneg (clampI (-(2 ^ (w - 1) : Int)) ((2 ^ (w - 1) : Int) - 1) z) pos.ne'
  have high := Int.emod_lt_of_pos (clampI (-(2 ^ (w - 1) : Int)) ((2 ^ (w - 1) : Int) - 1) z) pos
  unfold satS ofS
  zify
  omega

theorem Core.rd_wrS_same (c : Core) (f : Fld) (z : Int) (i k : Nat) : (c.wrS f z i k).rd f i k = satS f.width z :=
  (Core.rd_wr_same ..).trans (Nat.mod_eq_of_lt (satS_lt z))

/-- No gate waits for its end after an evaluation where none did before. -/
theorem Core.candEval_gateDone {c : Core} {i : Nat} {act qual wtr : Bool} (h : (c.cand i).gateDone = none) :
    ((c.candEval i act qual wtr).cand i).gateDone = none := by
  have goto {d : Core} (new cause : Nat) (hd : (d.cand i).gateDone = none) : ((d.candGoto i new cause).cand i).gateDone = none := by
    rw [(d.told_candGoto i new cause).cand, Core.cand_setCand, if_pos rfl]
    unfold Core.candAfter Cand.entered
    split_ifs
    · exact hd
    · rfl
    · rfl
    · exact hd
    · exact hd
  refine Core.candEval_keeps (P := fun d => (d.cand i).gateDone = none) (fun hd => ?_) h
  exact Core.candOnce_cases (P := fun d => (d.cand i).gateDone = none) hd (fun _ cause => goto _ cause hd)
    fun _ new cause _ => goto new cause hd

/-- What the end of a running candidate's gate leaves. -/
theorem gateEndStep_effect {c : Core} {i : Fin 24} {n t : Nat} {d : Rat} (hr : candRunning (c.candState i) = true)
    (hg : (c.cand i).gateDone = some (n, d, t)) :
    ((gateEndStep i c).cand i).gateDone = none ∧ (gateEndStep i c).rd REF_YQ.value i = satS REF_YQ.value.width
      (roundR16 (-d * 2 ^ 36 / ((n : Rat) * c.candPeriod i))) := by
  have run : ¬(!candRunning (c.candState i)) = true := by rw [hr]; exact Bool.false_ne_true
  unfold gateEndStep
  extract_lets -lift i' x
  rw [show x.gateDone = some (n, d, t) from hg]
  dsimp -zeta only
  rw [if_neg run]
  extract_lets yq bad span hist drift c1 c2 deg c3 mode c4
  have h4 : Core.Told [] c3 c4 := Core.Told.on Core.Told.refl Core.Told.emit
  constructor
  · refine Core.candEval_gateDone ?_
    rw [h4.cand, Core.cand_setCand, if_pos rfl]
  · refine (Core.candEval_rd _ rfl (by decide) i.isLt).trans ((h4.regs REF_YQ.value rfl (by decide) i i.isLt).trans ?_)
    exact (Core.rd_wr_apart _ rfl rfl _ _ _).trans (Core.rd_wrS_same ..)

end Sys2Proof.Machine
end

section
/-! DISAGREE_COMPARE: one pair among the many that are compared, and the masks that show it (R85, R86). -/

namespace Sys2Proof.Machine

open Sys2Proof

theorem pairKey_inj {a b x y : Nat} (ha : a < b) (hb : b < 24) (hx : x < y) (hy : y < 24) (h : pairKey a b = pairKey x y) :
    a = x ∧ b = y := by
  unfold pairKey at h
  rw [if_pos ha, if_pos hx] at h
  omega

/-! ## What a comparison looks at, and what it writes -/

/-- The fields that DISAGREE_COMPARE writes. -/
def compareFlds : List Fld := REF_EVENT.disagree_set :: disFlds

section

variable {c d : Core} {a b : Nat} (ha : a < 24) (hb : b < 24) (h : Core.Told compareFlds c d)
include ha hb h

theorem Core.Told.freqRuns : d.freqRuns a b = c.freqRuns a b := by
  unfold Core.freqRuns
  rw [h.regs REF_DIS_CFG.freq_lim rfl (by decide) a ha, h.regs REF_DIS_CFG.freq_lim rfl (by decide) b hb]

theorem Core.Told.phaseRuns : d.phaseRuns a b = c.phaseRuns a b := by
  unfold Core.phaseRuns Core.candIsTime Core.rdB
  rw [h.regs REF_DIS_CFG.phase_lim rfl (by decide) a ha, h.regs REF_DIS_CFG.phase_lim rfl (by decide) b hb,
    h.regs REF_CFG.ctype rfl (by decide) a ha, h.regs REF_CFG.ctype rfl (by decide) b hb]

theorem Core.Told.compared : d.compared a b = c.compared a b := by
  unfold Core.compared Core.usable
  rw [h.freqRuns ha hb, h.phaseRuns ha hb, h.regs REF_STATE.state rfl (by decide) a ha, h.regs REF_STATE.state rfl (by decide) b hb]

theorem Core.Told.pairDisagrees : d.pairDisagrees a b = c.pairDisagrees a b := by
  unfold Core.pairDisagrees
  rw [h.freqRuns ha hb, h.phaseRuns ha hb, h.cand, h.cand, h.regs REF_DIS_CFG.freq_lim rfl (by decide) a ha,
    h.regs REF_DIS_CFG.freq_lim rfl (by decide) b hb, h.regs REF_DIS_CFG.phase_lim rfl (by decide) a ha,
    h.regs REF_DIS_CFG.phase_lim rfl (by decide) b hb]

end

theorem Core.raise_pairs (c : Core) (fs u : Nat) : (c.raise fs u).pairs = c.pairs := by
  have same := congrArg Core.pairs (c.raise_hit fs u).2
  exact same

theorem Core.Told.comparePair {c d : Core} {x y : Nat} (h : Core.Told compareFlds c d) :
    Core.Told compareFlds c (d.comparePair x y) := by
  unfold Core.comparePair
  extract_lets p run marked run' d1
  have h1 : Core.Told compareFlds c d1 := h.hidden
  exact .ite h (.ite ((h1.wr (by decide) rfl).wr (by decide) rfl).raise.raise h1)

/-- The comparison state of a pair replaced. -/
def Core.setPair (c : Core) (k : Nat) (p : Pair) : Core := { c with pairs := c.pairs.set {} k p }

theorem Core.setPair_same (c : Core) (k : Nat) (p : Pair) : (c.setPair k p).pairs.get {} k = p := by
  unfold Core.setPair
  exact AMap.get_set_same {} c.pairs k p

theorem Core.setPair_other (c : Core) {k q : Nat} (p : Pair) (h : q ≠ k) : (c.setPair k p).pairs.get {} q = c.pairs.get {} q := by
  unfold Core.setPair
  exact AMap.get_set_ne {} c.pairs p h

/-- A comparison touches its own pair alone. -/
theorem Core.comparePair_other {c : Core} {x y k : Nat} (h : k ≠ pairKey x y) :
    (c.comparePair x y).pairs.get {} k = c.pairs.get {} k := by
  unfold Core.comparePair
  extract_lets p run marked run' d1
  have h1 : d1.pairs.get {} k = c.pairs.get {} k := c.setPair_other _ h
  split
  · rfl
  · split
    · rw [raise_pairs, raise_pairs]
      exact h1
    · exact h1

theorem Core.rd_setEvent {c : Core} {i : Nat} (j : Nat) (h : c.rd REF_EVENT.disagree_set i = 1) :
    (c.wr REF_EVENT.disagree_set 1 j).rd REF_EVENT.disagree_set i = 1 := by
  by_cases same : i = j
  · subst same
    exact Core.rd_wr_same ..
  · rwa [Core.rd_wr_ne]
    simp only [Fld.key, Fld.addr, REF_EVENT.disagree_set]
    omega

/-- No comparison clears disagree_set. -/
theorem Core.comparePair_set {c : Core} {x y i : Nat} (hi : i < 24) (h : c.rd REF_EVENT.disagree_set i = 1) :
    (c.comparePair x y).rd REF_EVENT.disagree_set i = 1 := by
  unfold Core.comparePair
  extract_lets p run marked run' d1
  have h1 : d1.rd REF_EVENT.disagree_set i = 1 := h
  split
  · exact h
  · split
    · exact ((Core.Told.refl (F := [])).raise.raise.regs REF_EVENT.disagree_set rfl (by decide) i hi).trans
        (Core.rd_setEvent y (Core.rd_setEvent x h1))
    · exact h1

/-! ## The pair that is marked -/

/-- The pair has disagreed four times in a row, is marked, and its event is set. -/
structure Core.Marked (c : Core) (a b : Nat) : Prop where
  pair : c.pairs.get {} (pairKey a b) = { run := 4, marked := true }
  event : c.rd REF_EVENT.disagree_set a = 1

/-- While the pairs of `c` are compared, the pair is about to be marked or is. -/
structure Core.Marking (c : Core) (a b : Nat) (d : Core) : Prop where
  told : Core.Told compareFlds c d
  pair : d.pairs.get {} (pairKey a b) = { run := 3, marked := false } ∨ d.Marked a b

section

variable {c d : Core} {a b : Nat} (hab : a < b) (hb : b < 24) (hc : c.compared a b = true)

section

variable (hd : c.pairDisagrees a b = true)
include hab hb hc hd

/-- The comparison of the pair itself marks it. -/
theorem Core.Marking.own (h : c.Marking a b d) : (d.comparePair a b).Marked a b := by
  have compared : ¬ (!d.compared a b) = true := by
    rw [h.told.compared (hab.trans hb) hb, hc]
    exact Bool.false_ne_true
  have disagrees : d.pairDisagrees a b = true := (h.told.pairDisagrees (hab.trans hb) hb).trans hd
  rcases h.pair with three | marked
  · have step : d.comparePair a b = ((((d.setPair (pairKey a b) { run := 4, marked := true }).wr
        REF_EVENT.disagree_set 1 a).wr REF_EVENT.disagree_set 1 b).raise 3 a).raise 3 b := by
      unfold Core.comparePair
      rw [if_neg compared, three, disagrees]
      rfl
    rw [step]
    constructor
    · rw [Core.raise_pairs, Core.raise_pairs, Core.wr_pairs, Core.wr_pairs]
      exact d.setPair_same _ _
    · exact ((Core.Told.refl (F := [])).raise.raise.regs REF_EVENT.disagree_set rfl (by decide) a (hab.trans hb)).trans
        (Core.rd_setEvent b (Core.rd_wr_same ..))
  · have step : d.comparePair a b = d.setPair (pairKey a b) { run := 4, marked := true } := by
      unfold Core.comparePair
      rw [if_neg compared, marked.pair, disagrees]
      rfl
    rw [step]
    exact ⟨d.setPair_same _ _, marked.event⟩

/-- No comparison undoes the mark. -/
theorem Core.Marking.stays {x y : Nat} (hx : x < y) (hy : y < 24) (h : c.Marking a b d) (hm : d.Marked a b) :
    (d.comparePair x y).Marked a b := by
  by_cases same : pairKey a b = pairKey x y
  · obtain ⟨rfl, rfl⟩ := pairKey_inj hab hb hx hy same
    exact h.own hab hb hc hd
  · exact ⟨(Core.comparePair_other same).trans hm.pair, Core.comparePair_set (hab.trans hb) hm.event⟩

theorem Core.Marking.comparePair {x y : Nat} (hx : x < y) (hy : y < 24) (h : c.Marking a b d) : c.Marking a b (d.comparePair x y) := by
  refine ⟨h.told.comparePair, ?_⟩
  rcases h.pair with three | marked
  · by_cases same : pairKey a b = pairKey x y
    · obtain ⟨rfl, rfl⟩ := pairKey_inj hab hb hx hy same
      exact .inr (h.own hab hb hc hd)
    · exact .inl ((Core.comparePair_other same).trans three)
  · exact .inr (h.stays hab hb hc hd hx hy marked)

/-- The comparisons of one candidate with those behind it. -/
theorem Core.Marking.row {x : Nat} (h : c.Marking a b d) :
    c.Marking a b (d.each (List.range 24) fun d y => if x < y then d.comparePair x y else d) := by
  refine Core.each_keeps (fun e y hy he => ?_) h
  split
  · next hx => exact he.comparePair hab hb hc hd hx (List.mem_range.mp hy)
  · exact he

theorem Core.Marking.row_stays {x : Nat} (h : c.Marking a b d) (hm : d.Marked a b) :
    (d.each (List.range 24) fun d y => if x < y then d.comparePair x y else d).Marked a b := by
  refine (Core.each_keeps (Q := fun e => c.Marking a b e ∧ e.Marked a b) (fun e y hy he => ?_) ⟨h, hm⟩).2
  split
  · next hx =>
    exact ⟨he.1.comparePair hab hb hc hd hx (List.mem_range.mp hy), he.1.stays hab hb hc hd hx (List.mem_range.mp hy) he.2⟩
  · exact he

theorem Core.Marking.row_own (h : c.Marking a b d) :
    (d.each (List.range 24) fun d y => if a < y then d.comparePair a y else d).Marked a b := by
  refine Core.each_mem (Q := c.Marking a b) (P := fun e => e.Marked a b) (x := b) (fun e y hy he => ?_) (fun e he => ?_)
    (fun e y hy he hm => ?_)
    (List.mem_range.mpr hb) h
  · split
    · next hx => exact he.comparePair hab hb hc hd hx (List.mem_range.mp hy)
    · exact he
  · rw [if_pos hab]
    exact he.own hab hb hc hd
  · split
    · next hx => exact he.stays hab hb hc hd hx (List.mem_range.mp hy) hm
    · exact hm

/-- All the comparisons. -/
theorem Core.Marking.all (h : c.Marking a b d) : (d.each (List.range 24) fun d x => d.each (List.range 24) fun d y =>
    if x < y then d.comparePair x y else d).Marked a b :=
  Core.each_mem (Q := c.Marking a b) (P := fun e => e.Marked a b) (x := a)
    (f := fun d x => d.each (List.range 24) fun d y => if x < y then d.comparePair x y else d)
    (fun _ _ _ he => he.row hab hb hc hd) (fun _ he => he.row_own hab hb hc hd)
    (fun _ _ _ he hm => he.row_stays hab hb hc hd hm) (List.mem_range.mpr (hab.trans hb)) h

end

/-- A pair that is compared is not cleared. -/
theorem Core.Marked.cleared (hm : d.Marked a b) (ht : Core.Told compareFlds c d) (hab : a < b) (hb : b < 24)
    (hc : c.compared a b = true) : (d.each (List.range 24) fun d x => d.each (List.range 24) fun d y =>
      if x < y && !d.compared x y then { d with pairs := d.pairs.set {} (pairKey x y) {} } else d).Marked a b := by
  refine (Core.each_keeps (Q := fun e => Core.Told compareFlds c e ∧ e.Marked a b) (fun e x _ he => ?_) ⟨ht, hm⟩).2
  refine Core.each_keeps (Q := fun e => Core.Told compareFlds c e ∧ e.Marked a b) (fun e y hy he => ?_) he
  split
  · next hx =>
    obtain ⟨lt, no⟩ := Bool.and_eq_true_iff.mp hx
    refine ⟨he.1.hidden, (e.setPair_other _ fun same => ?_).trans he.2.pair, he.2.event⟩
    obtain ⟨rfl, rfl⟩ := pairKey_inj hab hb (of_decide_eq_true lt) (List.mem_range.mp hy) same
    rw [he.1.compared (hab.trans hb) hb, hc] at no
    exact Bool.false_ne_true no
  · exact he

end

/-! ## The masks -/

theorem bitOf_setBit (x j b : Nat) : bitOf (setBit x j) b = (bitOf x b || decide (j = b)) := by
  unfold bitOf setBit
  rw [Nat.testBit_or, Nat.one_shiftLeft, Nat.testBit_two_pow]

/-- A bit of a mask collected from a list's members. -/
theorem bitOf_mask (l : List Nat) (p : Nat → Bool) (m b : Nat) :
    bitOf (l.foldl (fun a j => if p j then setBit a j else a) m) b = (bitOf m b || (decide (b ∈ l) && p b)) := by
  induction l generalizing m with
  | nil => simp
  | cons j l ih =>
    rw [List.foldl_cons, ih]
    by_cases same : b = j
    · subst same
      cases p b <;> simp [bitOf_setBit]
    · cases p j <;> simp [same, Ne.symm same, bitOf_setBit]

/-- What one candidate shows of its pairs. -/
def Core.disRow (c : Core) (i : Nat) : Core :=
  let m := (List.range 24).foldl (fun a j => if c.disagree i j then setBit a j else a) 0
  let c := c.wr REF_DISAGREE.mask m i
  let c := c.wrB REF_STATE.disagree (m ≠ 0) i
  c.wrB REF_STATE.outvoted ((List.range 24).any (fun y => c.outvotedBy i y)) i

theorem Core.disRefresh_rows (c : Core) : c.disRefresh = c.each (List.range 24) Core.disRow := rfl

theorem Core.disRow_pairs (c : Core) (i : Nat) : (c.disRow i).pairs = c.pairs := rfl

theorem Core.disRow_mask (c : Core) (i k : Nat) : (c.disRow k).rd REF_DISAGREE.mask i = (c.wr REF_DISAGREE.mask
    ((List.range 24).foldl (fun a j => if c.disagree k j then setBit a j else a) 0) k).rd REF_DISAGREE.mask i :=
  (Core.rd_wr_apart _ rfl rfl _ _ _).trans (Core.rd_wr_apart _ rfl rfl _ _ _)

theorem Core.disRow_own (c : Core) {i j : Nat} (hj : j < 24) : bitOf ((c.disRow i).rd REF_DISAGREE.mask i) j = c.disagree i j := by
  have inside : bitOf ((c.disRow i).rd REF_DISAGREE.mask i) j =
      bitOf ((List.range 24).foldl (fun a j => if c.disagree i j then setBit a j else a) 0) j := by
    unfold bitOf
    rw [Core.disRow_mask, Core.rd_wr_same, Nat.testBit_mod_two_pow, decide_eq_true (show j < REF_DISAGREE.mask.width from hj),
      Bool.true_and]
  rw [inside, bitOf_mask, decide_eq_true (List.mem_range.mpr hj)]
  simp [bitOf]

theorem Core.disRow_other (c : Core) {i k : Nat} (h : i ≠ k) :
    (c.disRow k).rd REF_DISAGREE.mask i = c.rd REF_DISAGREE.mask i := by
  rw [Core.disRow_mask, Core.rd_wr_ne]
  simp only [Fld.key, Fld.addr, REF_DISAGREE.mask]
  omega

theorem Core.disRefresh_pairs (c : Core) : c.disRefresh.pairs = c.pairs :=
  Core.each_keeps (Q := fun d => d.pairs = c.pairs) (fun d i _ h => (d.disRow_pairs i).trans h) rfl

/-- A pair that disagrees shows in the mask. -/
theorem Core.disRefresh_mask {c : Core} {i j : Nat} (hi : i < 24) (hj : j < 24) (h : c.disagree i j = true) :
    bitOf (c.disRefresh.rd REF_DISAGREE.mask i) j = true := by
  have own {d : Core} (hd : d.pairs = c.pairs) : bitOf ((d.disRow i).rd REF_DISAGREE.mask i) j = true := by
    rw [d.disRow_own hj, ← h]
    unfold Core.disagree
    rw [hd]
  rw [Core.disRefresh_rows]
  refine Core.each_mem (Q := fun d => d.pairs = c.pairs) (P := fun d => bitOf (d.rd REF_DISAGREE.mask i) j = true)
    (fun d k _ hd => (d.disRow_pairs k).trans hd) (fun _ hd => own hd) (fun d k _ hd hb => ?_) (List.mem_range.mpr hi) rfl
  by_cases same : i = k
  · subst same
    exact own hd
  · rwa [d.disRow_other same]

/-! ## The command -/

theorem pairKey_comm (a b : Nat) : pairKey a b = pairKey b a := by
  unfold pairKey
  split_ifs <;> omega

theorem Core.disagree_comm (c : Core) (a b : Nat) : c.disagree a b = c.disagree b a := by
  unfold Core.disagree
  rw [pairKey_comm a b, decide_eq_decide.mpr (ne_comm (a := a) (b := b))]

theorem Core.Marked.disagree {c : Core} {a b : Nat} (h : c.Marked a b) (hab : a < b) : c.disagree a b = true := by
  unfold Core.disagree
  rw [h.pair, decide_eq_true hab.ne]
  rfl

/-- The comparison of a pair that disagrees for the fourth time in a row. -/
theorem disagreeCompareStep_effect {c : Core} {a b : Nat} (hab : a < b) (hb : b < 24) (hc : c.compared a b = true)
    (hd : c.pairDisagrees a b = true) (hp : c.pairs.get {} (pairKey a b) = { run := 3, marked := false }) :
    (disagreeCompareStep c).disagree a b = true ∧ bitOf ((disagreeCompareStep c).rd REF_DISAGREE.mask a) b = true ∧
      bitOf ((disagreeCompareStep c).rd REF_DISAGREE.mask b) a = true ∧
      (disagreeCompareStep c).rd REF_EVENT.disagree_set a = 1 := by
  unfold disagreeCompareStep Core.pairsClear
  extract_lets d e
  have told : Core.Told compareFlds c d := Core.Told.refl.each fun _ h => h.each fun _ h => .ite h.comparePair h
  have start : c.Marking a b c := ⟨.refl, .inl hp⟩
  have marked : e.Marked a b := (start.all hab hb hc hd).cleared told hab hb hc
  have shown : e.disRefresh.disagree a b = true := by
    unfold Core.disagree
    rw [Core.disRefresh_pairs]
    exact marked.disagree hab
  refine ⟨shown, Core.disRefresh_mask (hab.trans hb) hb (marked.disagree hab), ?_, ?_⟩
  · exact Core.disRefresh_mask hb (hab.trans hb) ((e.disagree_comm b a).trans (marked.disagree hab))
  · exact ((Core.Told.refl.disRefresh fun _ => id).regs REF_EVENT.disagree_set rfl (by decide) a (hab.trans hb)).trans marked.event

/-- Settles O20: a stamp, a gate and a comparison each come to the one write the clause names, and what follows it in the
command (the evaluation, the other pairs, the masks) leaves that write. -/
theorem stampsAndGates : Obligations.StampsAndGates := by
  unfold Obligations.StampsAndGates
  refine ⟨?overrun, ?kept, ?gate, ?disagree⟩
  case overrun =>
    intro s i t high l hr hi hp hs hk hl h0 h1
    refine onRunCore_answers hr ?_
    rw [Dev.act_ref rfl, Dev.act_ref rfl]
    exact refStampStep_overrun hi hp hs hk hl h0 h1
  case kept =>
    intro s i t high hr hi hp hs hd hk hl
    refine onRunCore_answers hr ?_
    rw [Dev.act_cand]
    exact refStampStep_last hi hp hs hd hk hl
  case gate =>
    intro s i n t d hr hrun hg
    refine onRunCore_answers hr ?_
    rw [Dev.act_cand, Dev.act_ref rfl]
    exact gateEndStep_effect hrun hg
  case disagree =>
    intro s a b hr hab hc hd hp
    refine onRunCore_answers hr ?_
    unfold Core.disagree
    rw [Dev.act_pairs, Dev.act_ref rfl, Dev.act_ref rfl, Dev.act_ref rfl]
    exact disagreeCompareStep_effect hab b.isLt hc hd hp

end Sys2Proof.Machine
end

section
/-! The registers of the PAL's aligners and rotors, and what telling of an event leaves of them (R205 to R209, R171 to R177). -/

namespace Sys2Proof.Machine

open Sys2Proof

theorem Core.rdB_of_zero {c : Core} {f : Fld} {i : Nat} (h : c.rd f i = 0) : c.rdB f i = false := by
  unfold Core.rdB
  rw [h]
  rfl

theorem Core.rdB_of_one {c : Core} {f : Fld} {i : Nat} (h : c.rd f i = 1) : c.rdB f i = true := by
  unfold Core.rdB
  rw [h]
  rfl

/-! ## Banks of registers -/

/-- A field of a bank of registers, `s` bytes for each unit from `b`. -/
def Fld.inBank (f : Fld) (b s : Nat) : Bool := f.base = b && f.stride = s && f.off < s && f.lo < 32

theorem Fld.inBank_iff {f : Fld} {b s : Nat} : f.inBank b s = true ↔ f.base = b ∧ f.stride = s ∧ f.off < s ∧ f.lo < 32 := by
  simp [Fld.inBank, and_assoc]

/-- A unit's field shares its place with no other field and no other unit of the bank. -/
theorem Fld.key_bank_inj {f g : Fld} {b s i j : Nat} (hf : f.inBank b s = true) (hg : g.inBank b s = true)
    (h : g.key i 0 = f.key j 0) : i = j ∧ g.off = f.off ∧ g.lo = f.lo := by
  obtain ⟨fb, fs, fo, fl⟩ := Fld.inBank_iff.mp hf
  obtain ⟨gb, gs, go, gl⟩ := Fld.inBank_iff.mp hg
  simp only [Fld.key, Fld.addr, fb, fs, gb, gs] at h
  have place : g.off + s * i = f.off + s * j := by
    rw [Nat.mul_comm s i, Nat.mul_comm s j]
    omega
  have unit := congrArg (· / s) place
  have off := congrArg (· % s) place
  simp only [Nat.add_mul_div_left _ _ (Nat.zero_lt_of_lt fo), Nat.div_eq_of_lt fo, Nat.div_eq_of_lt go, Nat.zero_add] at unit
  simp only [Nat.add_mul_mod_self_left, Nat.mod_eq_of_lt fo, Nat.mod_eq_of_lt go] at off
  exact ⟨unit, off, by omega⟩

/-- A write of another field of the bank. -/
theorem Core.rd_wr_bank (c : Core) {f g : Fld} (b s v i j : Nat) (hf : f.inBank b s = true) (hg : g.inBank b s = true)
    (h : g.off ≠ f.off ∨ g.lo ≠ f.lo) : (c.wr f v j).rd g i = c.rd g i := by
  refine Core.rd_wr_ne _ _ _ _ _ _ _ _ fun same => ?_
  obtain ⟨-, off, lo⟩ := Fld.key_bank_inj hf hg same
  exact h.elim (· off) (· lo)

/-- A write for another unit of the bank. -/
theorem Core.rd_wr_unit (c : Core) {f g : Fld} (b s v : Nat) {i j : Nat} (hf : f.inBank b s = true) (hg : g.inBank b s = true)
    (h : i ≠ j) : (c.wr f v j).rd g i = c.rd g i :=
  Core.rd_wr_ne _ _ _ _ _ _ _ _ fun same => h (Fld.key_bank_inj hf hg same).1

/-- A field of the aligners' registers (R207). -/
def Fld.ofPa (f : Fld) : Bool := f.inBank 0x150000 0x40

/-- A field of the rotors' registers (R177). -/
def Fld.ofRot (f : Fld) : Bool := f.inBank 0x158000 0x100

/-- The PAL's block of registers. -/
def inPal (a : Nat) : Prop := 0x150000 ≤ a ∧ a < 0x160000

theorem Fld.ofPa_addr {f : Fld} {a : Nat} (hf : f.ofPa = true) (ha : a < 8) : inPal (f.addr a 0) ∧ f.lo < 32 := by
  obtain ⟨fb, fs, fo, fl⟩ := Fld.inBank_iff.mp hf
  simp only [inPal, Fld.addr, fb, fs]
  omega

theorem Fld.ofRot_addr {f : Fld} {h : Nat} (hf : f.ofRot = true) (hh : h < 12) : inPal (f.addr h 0) ∧ f.lo < 32 := by
  obtain ⟨fb, fs, fo, fl⟩ := Fld.inBank_iff.mp hf
  simp only [inPal, Fld.addr, fb, fs]
  omega

theorem not_inSettle_of_inPal {a : Nat} (h : inPal a) : ¬ inSettle a := by
  simp only [inPal, inSettle, Fld.addr, GLC_STORE_STAT.dirty, MTL_STAT.store_deferred, STG_STAT.store_busy] at h ⊢
  omega

/-- The aligners' registers read after a command what the operation left in them. -/
theorem Dev.act_rdPa (f : Dev → Dev) (d : Dev) (g : Fld) (a : Fin 8) (hg : g.ofPa = true) :
    (d.act f).core.rd g a = (f d).core.rd g a :=
  Dev.act_rd _ _ _ _ _ (Fld.ofPa_addr hg a.isLt).2 (not_inSettle_of_inPal (Fld.ofPa_addr hg a.isLt).1)

/-- The rotors' registers read after a command what the operation left in them. -/
theorem Dev.act_rdRot (f : Dev → Dev) (d : Dev) (g : Fld) (h : Fin 12) (hg : g.ofRot = true) :
    (d.act f).core.rd g h = (f d).core.rd g h :=
  Dev.act_rd _ _ _ _ _ (Fld.ofRot_addr hg h.isLt).2 (not_inSettle_of_inPal (Fld.ofRot_addr hg h.isLt).1)

theorem Dev.act_pal (f : Dev → Dev) (d : Dev) : (d.act f).core.pal = (f d).core.pal := by
  have h := congrArg Core.pal (Dev.act_rest f d); exact h

/-! ## What an event's records and faults leave -/

/-- The PAL's registers, and the one that says whether TSCLK runs. -/
def inPalSight (a : Nat) : Prop := inPal a ∨ a = RS_STAT.clk_src.addr 0 0

/-- From `c` to `d` the PAL's registers and hidden state and the grid of TSCLK are as they were. -/
structure Core.Aside (c d : Core) : Prop where
  regs : Core.Alike inPalSight c d
  pal : d.pal = c.pal
  rots : d.rots = c.rots
  y : d.yMaster = c.yMaster
  start : d.groupStart = c.groupStart

namespace Core.Aside

variable {c d e : Core}

protected theorem refl : Aside c c := ⟨Core.Alike.refl _ c, rfl, rfl, rfl, rfl⟩

protected theorem trans (h : Aside c d) (k : Aside d e) : Aside c e :=
  ⟨h.regs.trans k.regs, k.pal.trans h.pal, k.rots.trans h.rots, k.y.trans h.y, k.start.trans h.start⟩

theorem wr {f : Fld} {v i k : Nat} (h : Aside c d) (hl : f.lo < 32) (ha : ¬ inPalSight (f.addr i k)) : Aside c (d.wr f v i k) :=
  h.trans ⟨Core.Alike.wr d f v i k hl ha, rfl, rfl, rfl, rfl⟩

/-- An update of hidden state of none of these. -/
theorem hidden (h : Aside c d) (hr : e.regs = d.regs := by rfl) (hp : e.pal = d.pal := by rfl) (hrot : e.rots = d.rots := by rfl)
    (hy : e.yMaster = d.yMaster := by rfl) (hs : e.groupStart = d.groupStart := by rfl) : Aside c e :=
  h.trans ⟨Core.Alike.of_regs hr, hp, hrot, hy, hs⟩

theorem ite {p : Prop} [Decidable p] (h : Aside c d) (k : Aside c e) : Aside c (if p then d else e) := by split <;> assumption

theorem emit {rt u a : Nat} {l : List Nat} (h : Aside c d) : Aside c (d.emit rt u a l) := by
  have dropped (v : Nat) : Aside c (d.wr STG_FAB_DROP.dropped v) := h.wr (by decide) (by unfold inPalSight inPal; decide)
  have dead (v : Nat) : Aside c (d.wr TIM_DEAD_CNT.count v) := h.wr (by decide) (by unfold inPalSight inPal; decide)
  unfold Core.emit
  split
  · exact h
  · refine ite h.hidden ?_
    unfold Core.holdItem
    exact ite (ite (dropped _) h.hidden) (ite (ite (dead _) h.hidden) (ite h.hidden (ite (dropped _) (ite (dropped _) h.hidden))))

theorem clkEvent {unit i new old cause : Nat} (h : Aside c d) : Aside c (d.clkEvent unit i new old cause) := h.emit

theorem raise {fs u : Nat} (h : Aside c d) : Aside c (d.raise fs u) := by
  obtain ⟨regs, calm⟩ := d.raise_hit fs u
  have pal := congrArg Core.pal calm
  have rots := congrArg Core.rots calm
  have y := congrArg Core.yMaster calm
  have start := congrArg Core.groupStart calm
  have outside {a : Nat} (ha : inPalSight a) : ¬ inFlt a := by
    simp only [inPalSight, inPal, inFlt, Fld.addr, RS_STAT.clk_src] at ha ⊢
    omega
  exact h.trans ⟨fun g j l hg hl => regs g j l (outside hg) hl, pal, rots, y, start⟩

theorem palLow (h : Aside c d) : Aside c d.palLow := by
  refine Core.each_keeps (fun e o ho he => ?_) h
  refine he.wr (by decide) ?_
  have := List.mem_range.mp ho
  simp only [inPalSight, inPal, Fld.addr, OUT_STAT.pal_low, RS_STAT.clk_src]
  omega

theorem rot (h : Aside c d) (n : Nat) : d.rot n = c.rot n := by
  unfold Core.rot
  rw [h.rots]

theorem pa (h : Aside c d) (a : Nat) : d.pa a = c.pa a := by
  unfold Core.pa
  rw [h.pal]

theorem rdPa {g : Fld} {a : Nat} (h : Aside c d) (hg : g.ofPa = true) (ha : a < 8) : d.rd g a = c.rd g a :=
  h.regs g a 0 (.inl (Fld.ofPa_addr hg ha).1) (Fld.ofPa_addr hg ha).2

theorem rdRot {g : Fld} {n : Nat} (h : Aside c d) (hg : g.ofRot = true) (hn : n < 12) : d.rd g n = c.rd g n :=
  h.regs g n 0 (.inl (Fld.ofRot_addr hg hn).1) (Fld.ofRot_addr hg hn).2

end Core.Aside

end Sys2Proof.Machine
end

section
/-! The edges of a rotor: tach, index, flywheel crossing and angle clock (R63, R171, R173, R175, R177). -/

namespace Sys2Proof.Machine

open Sys2Proof

/-! ## TACH_EDGE and INDEX_EDGE (R63, R173) -/

/-- The tach's input of a discarded edge, whatever its number, has its counters apart from what the end of a command writes. -/
theorem settleFlds_apart {s : Fld} (hs : s ∈ settleFlds) (p : Nat) :
    s.key 0 0 ≠ REF_EVENT.overrun.key p 0 ∧ s.key 0 0 ≠ REF_MISS_CNT.count.key p 0 := by
  have apart : ∀ s ∈ settleFlds, s.key 0 0 / 32 % 0x400 ≠ 0x44 ∧ s.key 0 0 / 32 % 0x400 ≠ 0x78 := by decide
  obtain ⟨overrun, count⟩ := apart s hs
  simp only [Fld.key, Fld.addr, REF_EVENT.overrun, REF_MISS_CNT.count] at overrun count ⊢
  omega

theorem tachEdgeStep_discarded {c : Core} {h : Fin 12} {t l p : Nat} (hs : c.rotState h ≠ rsOff) (hl : (c.rot h).lastStamp = some l)
    (hlt : l ≤ t) (hnear : t - l < 320 * 65536) (hp : c.tachPin h = some p) :
    tachEdgeStep h t c = (c.bump REF_MISS_CNT.count p).wr REF_EVENT.overrun 1 p := by
  unfold tachEdgeStep
  dsimp only
  rw [if_neg hs, hl, hp]
  dsimp only
  rw [if_pos (by rw [decide_eq_true hlt, decide_eq_true hnear]; rfl)]

theorem indexEdgeStep_counts {c : Core} {h : Fin 12} (hs : c.rotState h = rsSyncing) (hz : c.rd PAL_ROT_CFG.zref h = 1) :
    ((indexEdgeStep h c).rot h).sinceIndex = some 0 ∧ ((indexEdgeStep h c).rot h).armed =
      decide ((c.rot h).sinceIndex = some (c.rd PAL_ROT_CFG.teeth h - c.rd PAL_ROT_CFG.missing h)) := by
  unfold indexEdgeStep
  rw [if_pos (by rw [decide_eq_true hs, decide_eq_true hz]; rfl), Core.rot_setRot, if_pos rfl]
  exact ⟨rfl, rfl⟩

/-! ## FLYWHEEL_CROSSING (R175, R177) -/

/-- A crossing of the flywheel begins a revolution at the generator's nearest zero. -/
theorem Core.rotCross_coast (c : Core) (h : Fin 12) (t : Int) (speed accel e left g : Rat) :
    (c.rotCross h t speed accel e left g true).rd PAL_ROT_REVCNT.count h =
        (if c.rdB PAL_ROT_STAT.dir h then c.rd PAL_ROT_REVCNT.count h + (2 ^ 32 - 1) else c.rd PAL_ROT_REVCNT.count h + 1) % 2 ^ 32 ∧
      ((c.rotCross h t speed accel e left g true).rot h).edges = ((c.rot h).edgeAng.filter fun q =>
        decide ((c.rot h).zero + roundR16 (g - (c.rot h).zero) ≤ q)).length := by
  unfold Core.rotCross
  extract_lets x rev n c1 b after edges c2 z dz slewNow step resid k c3
  have told : Core.Aside c1 c2 := Core.Aside.refl.emit
  have last : c3.on slewNow (fun c => c.wrB PAL_ROT_STAT.slewing (resid ≠ 0) h) = c3 := by
    have : slewNow = false := by simp [slewNow]
    rw [this]
    rfl
  rw [last]
  constructor
  · exact (told.rdRot (g := PAL_ROT_REVCNT.count) rfl h.isLt).trans (Core.rd_wr_same ..)
  · rw [Core.rot_setRot, if_pos rfl]
    rfl

theorem flywheelCrossingStep_effect {c : Core} {h : Fin 12} (t : Nat) (hs : c.rotState h = rsCoasting)
    (hf : c.rd PAL_ROT_STAT.fly h = 1) (hd : c.rd PAL_ROT_STAT.dir h = 0) :
    (flywheelCrossingStep h t c).rd PAL_ROT_REVCNT.count h = (c.rd PAL_ROT_REVCNT.count h + 1) % 2 ^ 32 ∧
      ((flywheelCrossingStep h t c).rot h).edges = ((c.rot h).edgeAng.filter fun q =>
        decide ((c.rot h).zero + roundR16 (c.rotGamma h t - (c.rot h).zero) ≤ q)).length := by
  have crosses : flywheelCrossingStep h t c = c.rotCross h t (c.rot h).gw 0 0 0 (c.rotGamma h t) true := by
    unfold flywheelCrossingStep Core.rdB
    rw [if_pos (by rw [hf, hs]; rfl)]
  have forward : c.rdB PAL_ROT_STAT.dir h = false := Core.rdB_of_zero hd
  rw [crosses]
  have effect := c.rotCross_coast h t (c.rot h).gw 0 0 0 (c.rotGamma h t)
  rwa [forward] at effect

/-! ## ANGLE_CLOCK_EDGE (R171) -/

/-- The revolution pulse that starts with the edge, where it is edge 0. -/
def Core.rotPulseAt (c : Core) (h t : Nat) : Core :=
  if c.rotEdge h t % (max 1 (c.rd PAL_ROT_AC.ppr h) : Nat) = 0 then
    c.setRot h { c.rot h with rpPulse := some (c.rotRevPulse h t (c.rotEdgeDue h t)) }
  else c

theorem Core.rotPulseAt_edges (c : Core) (h t : Nat) : ((c.rotPulseAt h t).rot h).edges = (c.rot h).edges := by
  unfold Core.rotPulseAt
  split
  · rw [Core.rot_setRot, if_pos rfl]
  · rfl

/-- An edge that is delivered: counted in the revolution in progress, with its angle, its instant and its pulse, at a legal
rate. -/
def Core.rotDeliver (c : Core) (h t : Nat) : Core :=
  ((c.rotPulseAt h t).setRot h { (c.rotPulseAt h t).rot h with
    edges := (c.rot h).edges + 1, edgeAng := c.rotEdgeAng h t :: (c.rot h).edgeAng, lastEdge := some (c.rotEdgeDue h t),
    acPulse := some ((c.rotPulseAt h t).rotClockPulse h t (c.rotEdgeDue h t)) }).wr PAL_ROT_STAT.ac_over 0 h

/-- An edge that is omitted. -/
def Core.rotOmit (c : Core) (h t : Nat) : Core :=
  (((c.rotPulseAt h t).bump PAL_ROT_OMIT.count h).wr PAL_ROT_STAT.ac_over 1 h).wr PAL_ROT_EVENT.ac_omit 1 h

theorem Core.rotOmit_edges (c : Core) (h t : Nat) : ((c.rotOmit h t).rot h).edges = (c.rot h).edges := by
  unfold Core.rotOmit Core.bump
  rw [Core.rot_wr, Core.rot_wr, Core.rot_wr, Core.rotPulseAt_edges]

section

variable {c : Core} {h : Fin 12} {t : Nat} (hs : c.rotState h = rsTracking)
include hs

/-- An edge before the entry from STOPPED does not appear. -/
theorem angleClockEdgeStep_before (hf : (c.rot h).fStart = true) (hb : c.rotEdgeAng h t < (c.rot h).edgeFrom) :
    angleClockEdgeStep h t c = c := by
  unfold angleClockEdgeStep
  dsimp only
  rw [hs, if_neg (by simp), if_pos (by rw [hf, decide_eq_false (not_le.mpr hb)]; rfl)]

section

variable (hfly : c.rd PAL_ROT_STAT.fly h = 0) (hin : (c.rot h).edgeFrom ≤ c.rotEdgeAng h t)
include hfly hin

/-- An edge of the revolution in progress at a legal rate. -/
theorem angleClockEdgeStep_delivered (hr : (c.rd PAL_ROT_AC.ppr h : Rat) * |(c.rot h).w| ≤ 62500000) :
    angleClockEdgeStep h t c = c.rotDeliver h t := by
  have engaged : c.rdB PAL_ROT_STAT.fly h = false := Core.rdB_of_zero hfly
  unfold angleClockEdgeStep
  extract_lets h' st fly x ang mine w fast due near c1 y c2
  have going : ¬ (!(st = rsTracking || st = rsCoasting || (st = rsSyncing && fly))) = true := by
    rw [show st = rsTracking from hs]
    exact Bool.false_ne_true
  have counted : mine = true := decide_eq_true hin
  have own : ¬ (x.fStart && !mine) = true := by
    rw [counted, Bool.not_true, Bool.and_false]
    exact Bool.false_ne_true
  have speed : w = (c.rot h).w := if_neg (by rw [show fly = false from engaged]; exact Bool.false_ne_true)
  have slow : fast = false := decide_eq_false (by rw [speed]; exact not_lt.mpr hr)
  rw [if_neg going, if_neg own, slow, Bool.false_and, if_neg Bool.false_ne_true]
  unfold c2
  rw [counted]
  rfl

/-- An edge above the legal rate that comes closer than 16 ns to the one before. -/
theorem angleClockEdgeStep_omitted {l : Rat} (hr : 62500000 < (c.rd PAL_ROT_AC.ppr h : Rat) * |(c.rot h).w|)
    (hl : (c.rot h).lastEdge = some l) (hnear : c.rotEdgeDue h t - l < 16 * 65536) :
    angleClockEdgeStep h t c = c.rotOmit h t := by
  have engaged : c.rdB PAL_ROT_STAT.fly h = false := Core.rdB_of_zero hfly
  unfold angleClockEdgeStep
  extract_lets h' st fly x ang mine w fast due near c1
  have going : ¬ (!(st = rsTracking || st = rsCoasting || (st = rsSyncing && fly))) = true := by
    rw [show st = rsTracking from hs]
    exact Bool.false_ne_true
  have own : ¬ (x.fStart && !mine) = true := by
    rw [show mine = true from decide_eq_true hin, Bool.not_true, Bool.and_false]
    exact Bool.false_ne_true
  have speed : w = (c.rot h).w := if_neg (by rw [show fly = false from engaged]; exact Bool.false_ne_true)
  have quick : fast = true := decide_eq_true (by rw [speed]; exact hr)
  have close : near = true := by
    unfold near
    rw [show x.lastEdge = some l from hl]
    exact decide_eq_true hnear
  rw [if_neg going, if_neg own, quick, close, Bool.and_self, if_pos rfl]
  rfl

end

end

/-- Settles O31: each edge comes to the writes of one branch of its step; the fields written are apart, and the record of a
crossing leaves the rotors as they are. -/
theorem rotorEdges : Obligations.RotorEdges := by
  unfold Obligations.RotorEdges
  refine ⟨?tach, ?index, ?crossing, ?delivered, ?omitted, ?before⟩
  case tach =>
    intro s h t l p hr hs hl hlt hnear hp
    have step := tachEdgeStep_discarded hs hl hlt hnear hp
    refine onRunCore_answers hr ?_
    rw [Dev.act_rd_key _ _ _ _ _ fun s hs => (settleFlds_apart hs p).1, Dev.act_rd_key _ _ _ _ _ fun s hs => (settleFlds_apart hs p).2,
      Dev.act_rot, step]
    refine ⟨Core.rd_wr_same .., ?_, rfl⟩
    rw [Core.rd_wr_bank _ 0x100000 0x400 _ _ _ rfl rfl (by decide), Core.rd_bump_same, Nat.min_comm]
  case index =>
    intro s h hr hs hz
    refine onRunCore_answers hr ?_
    rw [Dev.act_rot]
    exact indexEdgeStep_counts hs hz
  case crossing =>
    intro s h t hr hs hf hd
    refine onRunCore_answers hr ?_
    rw [Dev.act_rot, Dev.act_rdRot _ _ _ _ rfl]
    exact flywheelCrossingStep_effect t hs hf hd
  case delivered =>
    intro s h t hr hs hf hrate hin
    have step := angleClockEdgeStep_delivered hs hf hin hrate
    refine onRunCore_answers hr ?_
    rw [Dev.act_rot, Dev.act_rdRot _ _ _ _ rfl, step]
    unfold Core.rotDeliver
    rw [Core.rot_wr, Core.rot_setRot, if_pos rfl]
    exact ⟨rfl, rfl, rfl, Core.rd_wr_same ..⟩
  case omitted =>
    intro s h t l hr hs hf hrate hin hl hnear
    have step := angleClockEdgeStep_omitted hs hf hin hrate hl hnear
    refine onRunCore_answers hr ?_
    rw [Dev.act_rot, Dev.act_rdRot _ _ _ _ rfl, Dev.act_rdRot _ _ _ _ rfl, step]
    refine ⟨s.dev.core.rotOmit_edges h t, ?_, Core.rd_wr_same ..⟩
    exact (Core.rd_wr_bank _ 0x158000 0x100 _ _ _ rfl rfl (by decide)).trans (Core.rd_wr_same ..)
  case before =>
    intro s h t hr hs hf hb
    have step := angleClockEdgeStep_before hs hf hb
    refine onRunCore_answers hr ?_
    rw [Dev.act_rot, step]

end Sys2Proof.Machine
end

section
/-! The edges, the companion's stamps and the frames of the pulse aligners (R205 to R209). -/

namespace Sys2Proof.Machine

open Sys2Proof

/-! ## A change to RUN or HOLD (R208) -/

section

variable {c : Core} {a : Nat} {cause : Nat}

/-- An aligner that takes RUN. -/
theorem Core.paGoto_run (h : c.paState a ≠ paRun) : c.paGoto a paRun cause =
    ((((c.wr PAL_PA_STAT.cause cause a).wr PAL_PA_STAT.state paRun a).wr PAL_PA_EVENT.run 1 a).clkEvent 3 a paRun (c.paState a)
      cause).palLow := by
  unfold Core.paGoto
  dsimp only
  rw [if_neg h.symm]
  rfl

/-- An aligner that takes HOLD. -/
theorem Core.paGoto_hold (h : c.paState a ≠ paHold) : c.paGoto a paHold cause =
    (((((c.wr PAL_PA_STAT.cause cause a).wr PAL_PA_STAT.state paHold a).wr PAL_PA_EVENT.hold 1 a).raise 27 a).clkEvent 3 a paHold
      (c.paState a) cause).palLow := by
  unfold Core.paGoto
  dsimp only
  rw [if_neg h.symm]
  rfl

/-- What the change of state tells others. -/
theorem Core.Aside.told {d : Core} {new old : Nat} : Core.Aside d (d.clkEvent 3 a new old cause).palLow :=
  Core.Aside.refl.clkEvent.palLow

theorem Core.paGoto_run_state (ha : a < 8) (h : c.paState a ≠ paRun) : (c.paGoto a paRun cause).paState a = paRun := by
  rw [Core.paGoto_run h]
  refine (Core.Aside.told.rdPa (g := PAL_PA_STAT.state) rfl ha).trans ?_
  exact (Core.rd_wr_bank _ 0x150000 0x40 _ _ _ rfl rfl (by decide)).trans (Core.rd_wr_same ..)

theorem Core.paGoto_run_event (ha : a < 8) (h : c.paState a ≠ paRun) : (c.paGoto a paRun cause).rd PAL_PA_EVENT.run a = 1 := by
  rw [Core.paGoto_run h]
  exact (Core.Aside.told.rdPa (g := PAL_PA_EVENT.run) rfl ha).trans (Core.rd_wr_same ..)

theorem Core.paGoto_run_pa (h : c.paState a ≠ paRun) (b : Nat) : (c.paGoto a paRun cause).pa b = c.pa b := by
  rw [Core.paGoto_run h]
  exact Core.Aside.told.pa b

theorem Core.paGoto_run_other {b : Nat} (hb : b < 8) (h : c.paState a ≠ paRun) (hne : b ≠ a) :
    (c.paGoto a paRun cause).paState b = c.paState b := by
  rw [Core.paGoto_run h]
  refine (Core.Aside.told.rdPa (g := PAL_PA_STAT.state) rfl hb).trans ?_
  exact (Core.rd_wr_unit _ 0x150000 0x40 _ rfl rfl hne).trans ((Core.rd_wr_unit _ 0x150000 0x40 _ rfl rfl hne).trans
    (Core.rd_wr_unit _ 0x150000 0x40 _ rfl rfl hne))

/-! ## The grid of TSCLK (R206) -/

theorem Core.tsGrid_congr {c d : Core} (hp : d.pclk = c.pclk) (hy : d.yMaster = c.yMaster) (hs : d.groupStart = c.groupStart) (t : Nat) :
    d.tsGrid t = c.tsGrid t := by
  unfold Core.tsGrid
  rw [hp, hy, hs]

theorem Core.Aside.tsGrid {d : Core} (h : Core.Aside c d) (t : Nat) : d.tsGrid t = c.tsGrid t := by
  refine Core.tsGrid_congr ?_ h.y h.start t
  unfold Core.pclk
  rw [h.regs RS_STAT.clk_src 0 0 (.inr rfl) (by decide)]

theorem Core.tsGrid_wrPa (c : Core) {f : Fld} (hf : f.ofPa = true) (v b t : Nat) : (c.wr f v b).tsGrid t = c.tsGrid t := by
  refine Core.tsGrid_congr (c := c) (d := c.wr f v b) ?_ rfl rfl t
  unfold Core.pclk
  rw [Core.rd_wr_ne]
  obtain ⟨fb, fs, fo, fl⟩ := Fld.inBank_iff.mp hf
  simp only [Fld.key, Fld.addr, RS_STAT.clk_src, fb, fs]
  omega

theorem Core.paGoto_run_tsGrid (h : c.paState a ≠ paRun) (t : Nat) : (c.paGoto a paRun cause).tsGrid t = c.tsGrid t := by
  rw [Core.paGoto_run h, Core.Aside.told.tsGrid, Core.tsGrid_wrPa _ rfl, Core.tsGrid_wrPa _ rfl, Core.tsGrid_wrPa _ rfl]

end

/-! ## PA_EDGE_LATCH (R206, R207) -/

/-- The leading edge for the time `t`, under the step limit, is latched. -/
def Core.paLead (c : Core) (a : Nat) (t f : Int) : Core :=
  ((c.setPa a { c.pa a with
      pos := some (c.paLimit a t).1, trail := some (c.paLimit a t).1,
      edges := (c.pa a).edges ++ [(((c.paLimit a t).1 : Rat), true)], phi := f }).wrS PAL_PA_RESID.resid (c.paLimit a t).2 a).wrB
    PAL_PA_STAT.slewing ((c.paLimit a t).2 ≠ 0) a

theorem Core.paLead_pa (c : Core) (a : Nat) (t f : Int) : (c.paLead a t f).pa a = { c.pa a with
    pos := some (c.paLimit a t).1, trail := some (c.paLimit a t).1,
    edges := (c.pa a).edges ++ [(((c.paLimit a t).1 : Rat), true)], phi := f } := by
  unfold Core.paLead Core.wrB Core.wrS
  rw [Core.pa_wr, Core.pa_wr, Core.pa_setPa, if_pos rfl]

theorem Core.paLead_state (c : Core) (a : Nat) (t f : Int) : (c.paLead a t f).paState a = c.paState a :=
  (Core.rd_wr_bank _ 0x150000 0x40 _ _ _ rfl rfl (by decide)).trans (Core.rd_wr_bank _ 0x150000 0x40 _ _ _ rfl rfl (by decide))

/-- In WAIT, RUN and HOLD edges are latched. -/
theorem not_idle_of {st : Nat} (h : st = paWait ∨ st = paRun ∨ st = paHold) :
    (!(st = paWait || st = paRun || st = paHold)) = false := by
  rcases h with rfl | rfl | rfl <;> rfl

section

variable {c : Core} {a : Fin 8}

/-- A latch of a leading edge. -/
theorem paEdgeLatchStep_lead {t f : Int} (hs : c.paState a = paWait ∨ c.paState a = paRun ∨ c.paState a = paHold)
    (ht : (c.pa a).trail = none) (hg : c.paTarget a = some (t, f)) : paEdgeLatchStep a c =
      if c.paState a = paWait then (c.paLead a t f).paGoto a paRun kcStart else c.paLead a t f := by
  unfold paEdgeLatchStep
  extract_lets -lift a' st x
  have going : (!(st = paWait || st = paRun || st = paHold)) = false := not_idle_of hs
  rw [going, if_neg Bool.false_ne_true, show x.trail = none from ht, show c.paTarget a' = some (t, f) from hg]
  rfl

/-- A latch of a trailing edge. -/
theorem paEdgeLatchStep_trail {l : Int} (hs : c.paState a = paWait ∨ c.paState a = paRun ∨ c.paState a = paHold)
    (ht : (c.pa a).trail = some l) : paEdgeLatchStep a c =
      c.setPa a { c.pa a with trail := none, edges := (c.pa a).edges ++ [((l : Rat) + c.paWidth a, false)] } := by
  unfold paEdgeLatchStep
  extract_lets -lift a' st x
  have going : (!(st = paWait || st = paRun || st = paHold)) = false := not_idle_of hs
  rw [going, if_neg Bool.false_ne_true, show x.trail = some l from ht]

/-! ## PA_EDGE (R205, R207) -/

theorem Core.paEdgeRegs_pa (c : Core) (a t b : Nat) : (c.paEdgeRegs a t).pa b = c.pa b := by
  unfold Core.paEdgeRegs
  rw [Core.pa_wr, Core.pa_wr, Core.pa_wr, Core.pa_wr]

theorem Core.paEdgeRegs_ns (c : Core) (a t : Nat) : (c.paEdgeRegs a t).rd PAL_PA_EDGE_NS.ns a = t % secPU / 65536 := by
  have small : t % secPU / 65536 < 2 ^ PAL_PA_EDGE_NS.ns.width := by
    have := Nat.mod_lt t (show 0 < secPU by decide)
    simp only [secPU, Fld.width, PAL_PA_EDGE_NS.ns] at this ⊢
    omega
  refine (Core.rd_wr_bank _ 0x150000 0x40 _ _ _ rfl rfl (by decide)).trans ?_
  refine (Core.rd_wr_bank _ 0x150000 0x40 _ _ _ rfl rfl (by decide)).trans ?_
  exact (Core.rd_wr_same ..).trans (Nat.mod_eq_of_lt small)

theorem paEdgeStep_lead {e : Rat} {r : List (Rat × Bool)} (h : (c.pa a).edges = (e, true) :: r) :
    ((paEdgeStep a c).pa a).edges = r ∧ ((paEdgeStep a c).pa a).high = true ∧
      (paEdgeStep a c).rd PAL_PA_EDGE_NS.ns a = (roundR16 (placeEdge (e + (c.pa a).carry))).toNat % secPU / 65536 := by
  unfold paEdgeStep
  extract_lets -lift a' x
  rw [show x.edges = (e, true) :: r from h]
  dsimp -zeta only
  rw [Core.paEdgeRegs_pa, Core.pa_setPa, if_pos rfl]
  exact ⟨rfl, rfl, Core.paEdgeRegs_ns ..⟩

theorem paEdgeStep_trail {e : Rat} {r : List (Rat × Bool)} (h : (c.pa a).edges = (e, false) :: r) :
    ((paEdgeStep a c).pa a).edges = r ∧ ((paEdgeStep a c).pa a).high = false := by
  unfold paEdgeStep
  extract_lets -lift a' x
  rw [show x.edges = (e, false) :: r from h]
  dsimp -zeta only
  rw [Core.pa_setPa, if_pos rfl]
  exact ⟨rfl, rfl⟩

/-! ## COMPANION_STAMP and COMPANION_TIMEOUT (R206, R208) -/

/-- A stamp of the companion as one aligner on its pin takes it. -/
def Core.paStamp (c : Core) (t a : Nat) : Core :=
  if c.paState a = paOff then c else
  let c := c.setPa a { c.pa a with ts := some (c.tsGrid t) }
  if c.paState a = paHold then c.paGoto a paRun kcReturn else c

theorem companionStampStep_eq {pin : Fin 16} (t : Nat) (h : c.rd REF_CFG.mode pin = 2) : companionStampStep pin t c =
    c.each ((List.range 8).filter fun a => c.rd PAL_PA_CFG.mode a = 2 && c.rd PAL_PA_CFG.src a = pin.val) fun c a => c.paStamp t a := by
  unfold companionStampStep
  rw [if_neg (not_not.mpr h)]
  rfl

theorem paHold_ne_paRun {st : Nat} (h : st = paHold) : st ≠ paRun := by
  rw [h]
  decide

theorem Core.paStamp_tsGrid (c : Core) (t b u : Nat) : (c.paStamp t b).tsGrid u = c.tsGrid u := by
  unfold Core.paStamp
  extract_lets x d
  have same : d.tsGrid u = c.tsGrid u := rfl
  split
  · rfl
  · split
    · next hold => rw [Core.paGoto_run_tsGrid (paHold_ne_paRun hold), same]
    · exact same

/-- The aligner itself. -/
theorem Core.paStamp_own {c : Core} {a : Nat} (t : Nat) (ha : a < 8) (h : c.paState a ≠ paOff) :
    ((c.paStamp t a).pa a).ts = some (c.tsGrid t) ∧ (c.paStamp t a).paState a ≠ paOff ∧ (c.paStamp t a).paState a ≠ paHold := by
  unfold Core.paStamp
  extract_lets x d
  have kept : (d.pa a).ts = some (c.tsGrid t) := by
    unfold d
    rw [Core.pa_setPa, if_pos rfl]
  rw [if_neg h]
  split
  · next hold =>
    rw [Core.paGoto_run_pa (paHold_ne_paRun hold), Core.paGoto_run_state ha (paHold_ne_paRun hold)]
    exact ⟨kept, by decide, by decide⟩
  · next hold => exact ⟨kept, h, hold⟩

/-- Another aligner. -/
theorem Core.paStamp_other {c : Core} {a b : Nat} (t : Nat) (ha : a < 8) (hne : a ≠ b) :
    (c.paStamp t b).pa a = c.pa a ∧ (c.paStamp t b).paState a = c.paState a := by
  unfold Core.paStamp
  extract_lets x d
  have kept : d.pa a = c.pa a := by
    unfold d
    rw [Core.pa_setPa, if_neg hne]
  split
  · exact ⟨rfl, rfl⟩
  · split
    · next hold =>
      rw [Core.paGoto_run_pa (paHold_ne_paRun hold), Core.paGoto_run_other ha (paHold_ne_paRun hold) hne]
      exact ⟨kept, rfl⟩
    · exact ⟨kept, rfl⟩

theorem companionStampStep_effect {pin : Fin 16} (t : Nat) (hp : c.rd REF_CFG.mode pin = 2) (hm : c.rd PAL_PA_CFG.mode a = 2)
    (hsrc : c.rd PAL_PA_CFG.src a = pin.val) (hs : c.paState a ≠ paOff) :
    ((companionStampStep pin t c).pa a).ts = some (c.tsGrid t) ∧ (companionStampStep pin t c).paState a ≠ paHold := by
  have mem : a.val ∈ (List.range 8).filter fun a => c.rd PAL_PA_CFG.mode a = 2 && c.rd PAL_PA_CFG.src a = pin.val := by
    rw [List.mem_filter, List.mem_range, hm, hsrc]
    exact ⟨a.isLt, by simp⟩
  rw [companionStampStep_eq t hp]
  refine Core.each_mem (Q := fun d => d.tsGrid t = c.tsGrid t ∧ d.paState a ≠ paOff)
    (P := fun d => (d.pa a).ts = some (c.tsGrid t) ∧ d.paState a ≠ paHold)
    (fun d b _ hd => ⟨(d.paStamp_tsGrid t b t).trans hd.1, ?on⟩) (fun d hd => ?own) (fun d b _ hd hk => ?kept) mem ⟨rfl, hs⟩
  case on =>
    by_cases same : a.val = b
    · subst same
      exact (Core.paStamp_own t a.isLt hd.2).2.1
    · rw [(Core.paStamp_other t a.isLt same).2]
      exact hd.2
  case own =>
    obtain ⟨ts, -, hold⟩ := Core.paStamp_own t a.isLt hd.2
    exact ⟨ts.trans (congrArg some hd.1), hold⟩
  case kept =>
    by_cases same : a.val = b
    · subst same
      obtain ⟨ts, -, hold⟩ := Core.paStamp_own t a.isLt hd.2
      exact ⟨ts.trans (congrArg some hd.1), hold⟩
    · obtain ⟨pa, state⟩ := Core.paStamp_other (c := d) t a.isLt same
      rw [pa, state]
      exact hk

/-- FS27 of an aligner shows in its raw bit. -/
theorem Core.raise_unaligned (c : Core) (a : Fin 8) : bitOf ((c.raise 27 a).rd FLT_RAW.hit 0 0) 27 = true := by
  refine Core.raiseInfo_raw c (fs := 27) false ?_
  simp [fsSpare, Part.fsAbsent, Part.fsUnitOk]

theorem companionTimeoutStep_effect (hs : c.paState a = paRun) (hm : c.rd PAL_PA_CFG.mode a = 2) :
    (companionTimeoutStep a c).paState a = paHold ∧ (companionTimeoutStep a c).rd PAL_PA_STAT.cause a = kcCandLost ∧
      bitOf ((companionTimeoutStep a c).rd FLT_RAW.hit 0 0) 27 = true := by
  have running : c.paState a ≠ paHold := by
    rw [hs]
    decide
  have step : companionTimeoutStep a c = c.paGoto a paHold kcCandLost :=
    if_pos (by rw [decide_eq_true hs, decide_eq_true hm]; rfl)
  rw [step, Core.paGoto_hold running]
  refine ⟨?_, ?_, (Core.Told.refl (F := [])).emit.palLow.raw 0 (by decide) 27 (by decide) (Core.raise_unaligned _ a)⟩
  · refine (Core.Aside.refl.raise.trans Core.Aside.told |>.rdPa (g := PAL_PA_STAT.state) rfl a.isLt).trans ?_
    exact (Core.rd_wr_bank _ 0x150000 0x40 _ _ _ rfl rfl (by decide)).trans (Core.rd_wr_same ..)
  · refine (Core.Aside.refl.raise.trans Core.Aside.told |>.rdPa (g := PAL_PA_STAT.cause) rfl a.isLt).trans ?_
    refine (Core.rd_wr_bank _ 0x150000 0x40 _ _ _ rfl rfl (by decide)).trans ?_
    exact (Core.rd_wr_bank _ 0x150000 0x40 _ _ _ rfl rfl (by decide)).trans (Core.rd_wr_same ..)

/-! ## TODOUT_FRAME (R83, R209) -/

/-- The frame `f` is sent on a pin. -/
def Core.todSend (c : Core) (a pin : Nat) (f : List Byte) : Core :=
  { c.wr PAL_PA_EVENT.tod_sent 1 a with pal := { c.pal with sent := c.pal.sent.set [] pin f } }

theorem Core.todSend_event (c : Core) (a pin : Nat) (f : List Byte) : (c.todSend a pin f).rd PAL_PA_EVENT.tod_sent a = 1 :=
  Core.rd_wr_same c PAL_PA_EVENT.tod_sent 1 a 0

theorem Core.todSend_pa (c : Core) (a pin b : Nat) (f : List Byte) : (c.todSend a pin f).pa b = c.pa b := by
  unfold Core.todSend Core.pa
  rfl

theorem Core.todSend_sent (c : Core) (a pin : Nat) (f : List Byte) : (c.todSend a pin f).pal.sent.get [] pin = f := by
  unfold Core.todSend
  exact AMap.get_set_same [] c.pal.sent pin f

theorem todoutFrameStep_sends {sec : Nat} (ht : (c.pa a).tod = some sec) (hs : c.paState a = paRun)
    (he : c.rd PAL_PA_CFG.tod_en a = 1) (hh : c.todHolder (c.rd PAL_PA_CFG.tod_pin a) = some a.val) :
    todoutFrameStep a c = (c.setPa a { c.pa a with tod := none }).todSend a (c.rd PAL_PA_CFG.tod_pin a)
      (todFrame sec (c.rd PAL_PA_TOD.cclass a) (c.rd PAL_PA_TOD.flags a) (c.rd PAL_PA_TOD.utc_offset a)) := by
  have ready : (c.paState a = paRun && c.rdB PAL_PA_CFG.tod_en a && c.todHolder (c.rd PAL_PA_CFG.tod_pin a) = some a.val) = true := by
    rw [decide_eq_true hs, Core.rdB_of_one he, decide_eq_true hh]
    rfl
  unfold todoutFrameStep
  extract_lets -lift a' x pin
  rw [show x.tod = some sec from ht]
  exact if_pos ready

end

/-- Settles O34: every command of an aligner comes to the writes of one branch of its step, and a change of its state tells
others without touching the aligners. -/
theorem alignerEdges : Obligations.AlignerEdges := by
  unfold Obligations.AlignerEdges
  refine ⟨?lead, ?trail, ?start, ?rise, ?fall, ?stamp, ?timeout, ?frame⟩
  case lead =>
    intro s a t f hr hs ht hg
    have state : s.dev.core.paState a ≠ paWait := by
      rcases hs with hs | hs <;> rw [hs] <;> decide
    have step := (paEdgeLatchStep_lead (.inr hs) ht hg).trans (if_neg state)
    refine onRunCore_answers hr ?_
    unfold Core.paState
    rw [Dev.act_pa, Dev.act_rdPa _ _ _ _ rfl, step, Core.paLead_pa]
    exact ⟨rfl, rfl, rfl, Core.paLead_state ..⟩
  case trail =>
    intro s a l hr hs ht
    have step := paEdgeLatchStep_trail hs ht
    refine onRunCore_answers hr ?_
    rw [Dev.act_pa, step, Core.pa_setPa, if_pos rfl]
    exact ⟨rfl, rfl, rfl⟩
  case start =>
    intro s a t f hr hs ht hg
    have step := (paEdgeLatchStep_lead (.inl hs) ht hg).trans (if_pos hs)
    have waiting : (s.dev.core.paLead a t f).paState a ≠ paRun := by
      rw [Core.paLead_state, hs]
      decide
    refine onRunCore_answers hr ?_
    unfold Core.paState
    rw [Dev.act_rdPa _ _ _ _ rfl, Dev.act_rdPa _ _ _ _ rfl, step]
    exact ⟨Core.paGoto_run_state a.isLt waiting, Core.paGoto_run_event a.isLt waiting⟩
  case rise =>
    intro s a e r hr he
    refine onRunCore_answers hr ?_
    rw [Dev.act_pa, Dev.act_rdPa _ _ _ _ rfl]
    exact paEdgeStep_lead he
  case fall =>
    intro s a e r hr he
    refine onRunCore_answers hr ?_
    rw [Dev.act_pa]
    exact paEdgeStep_trail he
  case stamp =>
    intro s pin t a hr hp hm hsrc hs
    refine onRunCore_answers hr ?_
    unfold Core.paState
    rw [Dev.act_pa, Dev.act_rdPa _ _ _ _ rfl]
    exact companionStampStep_effect t hp hm hsrc hs
  case timeout =>
    intro s a hr hs hm
    refine onRunCore_answers hr ?_
    unfold Core.paState
    rw [Dev.act_rdPa _ _ _ _ rfl, Dev.act_rdPa _ _ _ _ rfl, Dev.act_rd_key _ _ _ _ _ (by decide)]
    exact companionTimeoutStep_effect hs hm
  case frame =>
    intro s a sec hr ht hs he hh
    have step := todoutFrameStep_sends ht hs he hh
    refine onRunCore_answers hr ?_
    rw [Dev.act_pa, Dev.act_pal, Dev.act_rdPa _ _ _ _ rfl, step, Core.todSend_pa, Core.pa_setPa, if_pos rfl]
    exact ⟨Core.todSend_event .., rfl, Core.todSend_sent ..⟩

end Sys2Proof.Machine
end

section
/-! The registers of the channels (R132), and what records, faults and steering leave of them. -/

namespace Sys2Proof.Machine

open Sys2Proof

/-! ## Fields of the channels' registers -/

/-- A field of the channels' registers (R132). -/
def Fld.ofCh (f : Fld) : Bool := f.inBank 0x110000 0x1000

/-- A field at another place in its register bank than `g`. -/
def Fld.beside (f g : Fld) : Bool := f.off ≠ g.off || f.lo ≠ g.lo

/-- A field of a block behind the channels'. -/
def Fld.behindCh (f : Fld) : Bool := 0x11c000 ≤ f.base && f.lo < 32

/-- The channels' block of registers. -/
def inCh (a : Nat) : Prop := 0x110000 ≤ a ∧ a < 0x11c000

theorem Fld.addr_ofCh {f : Fld} (hf : f.ofCh = true) {h : Nat} (hh : h < 12) : inCh (f.addr h 0) ∧ f.lo < 32 := by
  obtain ⟨fb, fs, fo, fl⟩ := Fld.inBank_iff.mp hf
  simp only [inCh, Fld.addr, fb, fs]
  omega

theorem Core.rd_wr_ch (c : Core) {f g : Fld} (hf : f.ofCh = true) (hg : g.ofCh = true) (h : f.beside g = true) (v i j : Nat) :
    (c.wr f v j).rd g i = c.rd g i := by
  refine Core.rd_wr_bank c 0x110000 0x1000 v i j hf hg ?_
  simp only [Fld.beside, Bool.or_eq_true, decide_eq_true_eq] at h
  exact h.imp Ne.symm Ne.symm

/-- The channels' registers read after a command what the operation left in them. -/
theorem Dev.act_rdCh (f : Dev → Dev) (d : Dev) (g : Fld) (h : Fin 12) (hg : g.ofCh = true) :
    (d.act f).core.rd g h = (f d).core.rd g h := by
  obtain ⟨inside, lo⟩ := Fld.addr_ofCh hg h.isLt
  refine Dev.act_rd _ _ _ _ _ lo ?_
  simp only [inCh, inSettle, Fld.addr, GLC_STORE_STAT.dirty, MTL_STAT.store_deferred, STG_STAT.store_busy] at inside ⊢
  omega

/-- The channel's registers are those of a unit that the variant has (R1). -/
theorem Core.atReg_ch {c : Core} {f : Fld} {ex h : Nat} {g : Core → Core} (hf : f.ofCh = true) (hh : h < c.part.nCh) :
    c.atReg ex (f.addr h 0) g = g c := by
  obtain ⟨fb, fs, fo, fl⟩ := Fld.inBank_iff.mp hf
  have most := c.part.nCh_le
  have addr : f.addr h 0 = 0x110000 + h * 0x1000 + f.off := by
    unfold Fld.addr
    rw [fb, fs, Nat.zero_mul, Nat.add_zero]
  have inst : (f.addr h 0 - 0x110000) / 0x1000 = h := by omega
  have here : c.part.absentAt (f.addr h 0) = false := by
    unfold Part.absentAt
    extract_lets u
    rw [if_neg (by rw [Bool.and_eq_true, decide_eq_true_eq, decide_eq_true_eq]; omega),
      if_pos (by rw [Bool.and_eq_true, decide_eq_true_eq, decide_eq_true_eq]; omega)]
    unfold u
    rw [inst, decide_eq_false (Nat.not_le.mpr hh)]
  unfold Core.atReg
  rw [here]
  rfl

/-! ## What is read the same outside some blocks -/

section

variable {b : List Nat} {c d : Core}

theorem Core.Kept.part_eq (h : Core.Kept b c d) : d.part = c.part := by
  have shown (c : Core) : (c.outside b).part = c.part := by
    simp only [Core.outside, apply_ite Core.part, ite_self]
  rw [← shown d, h, shown c]

theorem Core.Kept.cands_eq (h : Core.Kept b c d) (hb : 0x10 ∉ b) : d.cands = c.cands := by
  have shown (c : Core) : (c.outside b).cands = c.cands := by
    simp only [Core.outside, apply_ite Core.cands, ite_self, List.contains_iff_mem, if_neg hb]
  rw [← shown d, h, shown c]

theorem Core.Kept.inRst_eq (h : Core.Kept b c d) (hb : 3 ∉ b) : d.inRst = c.inRst := by
  have shown (c : Core) : (c.outside b).inRst = c.inRst := by
    simp only [Core.outside, apply_ite Core.inRst, ite_self, List.contains_iff_mem, if_neg hb]
  rw [← shown d, h, shown c]

/-- A page of registers without the words that any block shares. -/
theorem inBlocks_of_page {b : List Nat} {a p : Nat} (ha : a / 65536 = p) (hp : p ∉ b) (hs : p ∉ [3, 4, 0x12, 0x16, 0x25]) :
    inBlocks b a = false := by
  subst ha
  simp only [List.mem_cons, List.not_mem_nil, or_false, not_or] at hs
  simp only [inBlocks, Bool.or_eq_false_iff, decide_eq_false_iff_not, List.contains_eq_mem]
  simp only [Fld.addr, GLC_STORE_STAT.dirty, MTL_STAT.store_deferred, STG_STAT.store_busy, STG_FAB_DROP.dropped, TIM_DEAD_CNT.count]
  refine ⟨⟨⟨⟨⟨⟨hp, ?_⟩, ?_⟩, ?_⟩, ?_⟩, ?_⟩, ?_⟩ <;> omega

end

/-! ## The relation -/

/-- From `c` to `d` no register of the channels is written but the fields `F`, and no raw bit of a fault clears. -/
structure Core.ChTold (F : List Fld) (c d : Core) : Prop where
  regs : ∀ g : Fld, g.ofCh = true → (∀ f ∈ F, f.beside g = true) → ∀ h < 12, d.rd g h = c.rd g h
  raw : ∀ w < 3, ∀ b < 32, bitOf (c.rd FLT_RAW.hit 0 w) b = true → bitOf (d.rd FLT_RAW.hit 0 w) b = true
  part : d.part = c.part

namespace Core.ChTold

variable {F : List Fld} {c d e : Core}

protected theorem refl : ChTold F c c := ⟨fun _ _ _ _ _ => rfl, fun _ _ _ _ h => h, rfl⟩

protected theorem trans (h : ChTold F c d) (k : ChTold F d e) : ChTold F c e where
  regs := fun g hg hF i hi => (k.regs g hg hF i hi).trans (h.regs g hg hF i hi)
  raw := fun w hw b hb hr => k.raw w hw b hb (h.raw w hw b hb hr)
  part := k.part.trans h.part

/-- A write of one of the fields. -/
theorem wr {f : Fld} {v j : Nat} (h : ChTold F c d) (hf : f ∈ F) (hr : f.ofCh = true) : ChTold F c (d.wr f v j) := by
  refine h.trans ⟨fun g hg hF i _ => d.rd_wr_ch hr hg (hF f hf) v i j, fun w hw b _ hb => ?_, rfl⟩
  rwa [Core.rd_wr_ne]
  obtain ⟨fb, fs, fo, fl⟩ := Fld.inBank_iff.mp hr
  simp only [Fld.key, Fld.addr, FLT_RAW.hit, fb, fs]
  omega

/-- A write elsewhere. -/
theorem wrAt {f : Fld} {v j k : Nat} (h : ChTold F c d) (hl : f.lo < 32) (ha : ¬ inCh (f.addr j k)) (hr : ¬ isRaw (f.addr j k)) :
    ChTold F c (d.wr f v j k) := by
  refine h.trans ⟨fun g hg _ i hi => ?_, fun w hw b _ hb => ?_, rfl⟩
  · obtain ⟨inside, lo⟩ := Fld.addr_ofCh hg hi
    exact Core.rd_wr_addr _ _ _ _ _ _ _ _ hl lo fun same => ha (same ▸ inside)
  · rwa [Core.rd_wr_addr _ _ _ _ _ _ _ _ hl (by decide) (fun same => hr (same ▸ isRaw_raw hw))]

theorem wrBehind {f : Fld} {v j k : Nat} (h : ChTold F c d) (hf : f.behindCh = true) : ChTold F c (d.wr f v j k) := by
  simp only [Fld.behindCh, Bool.and_eq_true, decide_eq_true_eq] at hf
  have high : 0x11c000 ≤ f.addr j k := by
    unfold Fld.addr
    have := Nat.zero_le (j * f.stride)
    omega
  exact h.wrAt hf.2 (by unfold inCh; omega) (by unfold isRaw; omega)

/-- An update of hidden state. -/
theorem hidden (h : ChTold F c d) (hr : e.regs = d.regs := by rfl) (hp : e.part = d.part := by rfl) : ChTold F c e := by
  refine h.trans ⟨fun g _ _ i _ => ?_, fun w _ b _ hb => ?_, hp⟩
  · unfold Core.rd
    rw [hr]
  · unfold Core.rd at hb ⊢
    rwa [hr]

theorem ite {p : Prop} [Decidable p] (h : ChTold F c d) (k : ChTold F c e) : ChTold F c (if p then d else e) := by
  split <;> assumption

theorem on {t : Bool} {f : Core → Core} (h : ChTold F c d) (hf : ∀ {e}, ChTold F c e → ChTold F c (f e)) : ChTold F c (d.on t f) :=
  ite (hf h) h

theorem each {α : Type} {l : List α} {f : Core → α → Core} (h : ChTold F c d) (hf : ∀ {e} x, ChTold F c e → ChTold F c (f e x)) :
    ChTold F c (d.each l f) := Core.each_keeps (fun _ x _ h => hf x h) h

/-- What other blocks do. -/
theorem kept {b : List Nat} (h : ChTold F c d) (k : Core.Kept b d e) (hc : 0x11 ∉ b) (hf : 2 ∉ b) : ChTold F c e := by
  refine h.trans ⟨fun g hg _ i hi => ?_, fun w hw b _ hb => ?_, k.part_eq⟩
  · obtain ⟨inside, lo⟩ := Fld.addr_ofCh hg hi
    exact k.rd_eq lo (inBlocks_of_page (p := 0x11) (by unfold inCh at inside; omega) hc (by decide))
  · have page : FLT_RAW.hit.addr 0 w / 65536 = 2 := by
      simp only [Fld.addr, FLT_RAW.hit]
      omega
    rwa [k.rd_eq (by decide) (inBlocks_of_page page hf (by decide))]

/-! ### Faults and records -/

theorem hit (h : ChTold F c d) (k : Core.Hit d e)
    (hr : ∀ w < 3, ∀ b < 32, bitOf (d.rd FLT_RAW.hit 0 w) b = true → bitOf (e.rd FLT_RAW.hit 0 w) b = true) : ChTold F c e := by
  refine h.trans ⟨fun g hg _ i hi => ?_, hr, ?_⟩
  · obtain ⟨inside, lo⟩ := Fld.addr_ofCh hg hi
    exact k.1 g i 0 (by unfold inCh at inside; unfold inFlt; omega) lo
  · have same := congrArg Core.part k.2
    exact same

theorem raise {fs u : Nat} (h : ChTold F c d) : ChTold F c (d.raise fs u) :=
  h.hit (Core.raise_hit d fs u) fun _ hw _ hb => Core.raiseInfo_raw_of d fs u u false hw hb

theorem injFire {fs u info : Nat} (h : ChTold F c d) : ChTold F c (d.injFire fs u info) := by
  have h1 : ChTold F c (d.wr FLT_INJ_STAT.fired 1) := h.wrAt (by decide) (by unfold inCh; decide) (by unfold isRaw; decide)
  have h2 : ChTold F c ((d.wr FLT_INJ_STAT.fired 1).wr FLT_INJ_CFG.arm 0) :=
    h1.wrAt (by decide) (by unfold inCh; decide) (by unfold isRaw; decide)
  have fired : ChTold F c d.injFired := h2.wrAt (by decide) (by unfold inCh; decide) (by unfold isRaw; decide)
  exact fired.hit (Core.raiseInfo_hit _ _ _ _ _) fun _ hw _ hb => Core.raiseInfo_raw_of _ fs u info true hw hb

theorem emit {rt u a : Nat} {l : List Nat} (h : ChTold F c d) : ChTold F c (d.emit rt u a l) :=
  h.kept (Core.Kept.refl.emit (b := [0x102]) (by decide)) (by decide) (by decide)

end Core.ChTold

end Sys2Proof.Machine
end

section
/-! The changes of a channel's state (R101 to R106, R130). -/

namespace Sys2Proof.Machine

open Sys2Proof

/-! ## What follows the hidden state (R95, R100, R111, R116) -/

/-- The fields in which a channel's hidden state shows. -/
def showFlds : List Fld :=
  [CH_PHERR.e, CH_FREQ_LO.f_lo, CH_FREQ_HI.f_hi, CH_POOL_LO.pool_lo, CH_POOL_HI.pool_hi, CH_STAT.slewing, CH_STAT.fallback]

/-- What entering a state and the events of a change of state write beside. -/
def chBesideFlds : List Fld :=
  showFlds ++ [CH_STAT.flim, CH_STAT.bw_clamp, CH_EVENT.freerun, CH_EVENT.holdover, CH_EVENT.locked, CH_EVENT.lock_lost]

/-- All that a change of state writes. -/
def chGotoFlds : List Fld := CH_STAT.state :: CH_STAT.active :: chBesideFlds

namespace Core.ChTold

variable {F : List Fld} {c d : Core}

theorem setChan {h : Nat} {x : Chan} (t : ChTold F c d) : ChTold F c (d.setChan h x) := t.hidden

theorem setGlc {h : Nat} {x : Glc} (t : ChTold F c d) : ChTold F c (d.setGlc h x) := t.hidden

theorem chRegs {h : Nat} (t : ChTold F c d) (hF : ∀ f ∈ showFlds, f ∈ F) : ChTold F c (d.chRegs h) := by
  unfold Core.chRegs Core.fallbackReg Core.wrPair
  extract_lets x st c1 v c2 pool w c3 man
  have h1 : ChTold F c c1 := t.wr (hF CH_PHERR.e (by decide)) rfl
  have h2 : ChTold F c c2 := (h1.wr (hF CH_FREQ_LO.f_lo (by decide)) rfl).wr (hF CH_FREQ_HI.f_hi (by decide)) rfl
  have h3 : ChTold F c c3 := (h2.wr (hF CH_POOL_LO.pool_lo (by decide)) rfl).wr (hF CH_POOL_HI.pool_hi (by decide)) rfl
  exact (h3.wr (hF CH_STAT.slewing (by decide)) rfl).wr (hF CH_STAT.fallback (by decide)) rfl

theorem dtSource (t : ChTold F c d) : ChTold F c d.dtSource :=
  t.kept (Core.Kept.refl.dtSource (b := [3, 0x12]) (by decide) (by decide)) (by decide) (by decide)

theorem glcStore {h : Nat} (t : ChTold F c d) : ChTold F c (d.glcStore h) :=
  t.kept (Core.Kept.refl.frontWrite.glcWrote (b := [0x12]) (by decide)) (by decide) (by decide)

theorem chEvent {h old prev cause : Nat} {x : Int} (t : ChTold F c d) : ChTold F c (d.chEvent h old prev cause x) := t.emit

end Core.ChTold

/-! ## One change (R101 to R106) -/

/-- The new state with the active candidate. -/
def Core.chNamed (c : Core) (h new act : Nat) : Core := (c.wr CH_STAT.state new h).wr CH_STAT.active act h

/-- A model's second in progress has seen a state that it does not learn from (R141). -/
def Glc.unsteady (g : Glc) : Glc := { g with cur := { g.cur with stateOk := false } }

/-- A channel's hidden state in FREERUN. -/
def Chan.freerun (x : Chan) : Chan :=
  { x with acc := 0, eLast := 0, e := 0, fS := 0, limited := false, lockRun := 0, unlockRun := 0 }

/-- A channel's hidden state as it enters HOLDOVER with the prediction `p`. -/
def Chan.holdover (x : Chan) (p : Int) : Chan := { x with hoFrom := p, hoTo := p, hoN := 0, lockRun := 0, unlockRun := 0, e := 0 }

/-- A channel's hidden state as it enters ACQUIRING. -/
def Chan.acquiring (x : Chan) : Chan := { x with lockRun := 0, unlockRun := 0 }

/-- A channel's hidden state as it enters LOCKED from ACQUIRING. -/
def Chan.locked (x : Chan) : Chan := { x with unlockRun := 0 }

/-- The flags of the loop cleared as it stops, and device time left by its master (R100). -/
def Core.loopStill (c : Core) (h : Nat) : Core :=
  if ((c.wr CH_STAT.flim 0 h).wr CH_STAT.bw_clamp 0 h).isMaster h then ((c.wr CH_STAT.flim 0 h).wr CH_STAT.bw_clamp 0 h).masterStill
  else (c.wr CH_STAT.flim 0 h).wr CH_STAT.bw_clamp 0 h

/-- LOCKED or ENSEMBLE entered: the model's samples settle anew, and the master has locked once (R39, R141). -/
def Core.loopLocked (c : Core) (h old : Nat) : Core :=
  let c := if old = chAcquiring then (c.glcUnsettle h).setChan h ((c.glcUnsettle h).chan h).locked else c.glcUnsettle h
  if c.isMaster h then { c with dtLocked := true } else c

/-- What entering a state does to the channel, its model's second and device time. -/
def Core.chEnter (c : Core) (h new old : Nat) : Core :=
  let c := if new = chLocked || new = chEnsemble then c else c.setGlc h (c.glc h).unsteady
  let c :=
    if new = chDisabled then (c.setChan h {}).loopStill h
    else if new = chFreerun then (c.setChan h (c.chan h).freerun).loopStill h
    else if new = chHoldover then
      (((c.setChan h ((c.chan h).holdover (c.glcPredVal h))).wr GLC_HO_SEC.sec 0 h).wr CH_STAT.bw_clamp 0 h).glcStore h
    else if new = chAcquiring then c.setChan h (c.chan h).acquiring
    else if new = chLocked || new = chEnsemble then c.loopLocked h old
    else c
  (c.chRegs h).dtSource

/-- The events of a change of state. -/
def Core.chMark (c : Core) (h new cause : Nat) : Core :=
  (((c.on (new = chFreerun) fun c => c.wr CH_EVENT.freerun 1 h).on (new = chHoldover) fun c =>
    c.wr CH_EVENT.holdover 1 h).on (new = chLocked) fun c => c.wr CH_EVENT.locked 1 h).on (cause = hcLockLost) fun c =>
    c.wr CH_EVENT.lock_lost 1 h

/-- The record and the faults of a change of state. -/
def Core.chTell (c : Core) (h new cause old prev : Nat) (d : Int) : Core :=
  (((c.chEvent h old prev cause d).on (new = chHoldover) fun c => c.raise 9 h).on (cause = hcLockLost) fun c =>
    c.raise 10 h).on (new = chFreerun && cause = hcNoCandidate) fun c => c.raise 13 h

theorem Core.chGoto_eq (c : Core) (h new cause act : Nat) (d : Int) : c.chGoto h new cause act d =
    ((((c.chNamed h new act).chEnter h new (c.chState h)).chMark h new cause).chTell h new cause (c.chState h)
      (c.rd CH_STAT.active h) d) := rfl

namespace Core.ChTold

variable {F : List Fld} {c d : Core} {h new cause : Nat}

theorem loopStill (t : ChTold F c d) (hF : ∀ f ∈ chBesideFlds, f ∈ F) : ChTold F c (d.loopStill h) := by
  have cleared : ChTold F c ((d.wr CH_STAT.flim 0 h).wr CH_STAT.bw_clamp 0 h) :=
    (t.wr (hF CH_STAT.flim (by decide)) rfl).wr (hF CH_STAT.bw_clamp (by decide)) rfl
  exact ite cleared.hidden cleared

theorem loopLocked {old : Nat} (t : ChTold F c d) : ChTold F c (d.loopLocked h old) := by
  unfold Core.loopLocked
  extract_lets e
  have entered : ChTold F c e := ite t.setGlc.setChan t.setGlc
  exact ite entered.hidden entered

theorem chEnter {old : Nat} (t : ChTold F c d) (hF : ∀ f ∈ chBesideFlds, f ∈ F) : ChTold F c (d.chEnter h new old) := by
  unfold Core.chEnter
  extract_lets c1 c2
  have h1 : ChTold F c c1 := ite t t.setGlc
  have holdover {x : Chan} : ChTold F c ((((c1.setChan h x).wr GLC_HO_SEC.sec 0 h).wr CH_STAT.bw_clamp 0 h).glcStore h) :=
    ((h1.setChan.wrBehind rfl).wr (hF CH_STAT.bw_clamp (by decide)) rfl).glcStore
  have h2 : ChTold F c c2 := ite (h1.setChan.loopStill hF) (ite (h1.setChan.loopStill hF) (ite holdover
    (ite h1.setChan (ite h1.loopLocked h1))))
  exact (h2.chRegs fun f hf => hF f (List.mem_append_left _ hf)).dtSource

theorem chMark (t : ChTold F c d) (hF : ∀ f ∈ chBesideFlds, f ∈ F) : ChTold F c (d.chMark h new cause) := by
  unfold Core.chMark
  exact on (on (on (t.on fun t => t.wr (hF CH_EVENT.freerun (by decide)) rfl)
    fun t => t.wr (hF CH_EVENT.holdover (by decide)) rfl) fun t => t.wr (hF CH_EVENT.locked (by decide)) rfl)
    fun t => t.wr (hF CH_EVENT.lock_lost (by decide)) rfl

theorem chTell {old prev : Nat} {x : Int} (t : ChTold F c d) : ChTold F c (d.chTell h new cause old prev x) := by
  unfold Core.chTell
  exact on (on (t.chEvent.on fun t => t.raise) fun t => t.raise) fun t => t.raise

theorem chGoto {act : Nat} {x : Int} (t : ChTold F c d) (hF : ∀ f ∈ chGotoFlds, f ∈ F) : ChTold F c (d.chGoto h new cause act x) := by
  have beside : ∀ f ∈ chBesideFlds, f ∈ F := fun f hf => hF f (List.mem_cons_of_mem _ (List.mem_cons_of_mem _ hf))
  have named : ChTold F c (d.chNamed h new act) := (t.wr (hF CH_STAT.state (by decide)) rfl).wr (hF CH_STAT.active (by decide)) rfl
  rw [Core.chGoto_eq]
  exact ((named.chEnter beside).chMark beside).chTell

end Core.ChTold

section

variable {c : Core} {h new cause act : Nat} {x : Int} (hh : h < 12)
include hh

/-- Beside the state and the active candidate, a change of state leaves what is named in them. -/
theorem Core.chGoto_rd {g : Fld} (hg : g.ofCh = true) (hb : ∀ f ∈ chBesideFlds, f.beside g = true) :
    (c.chGoto h new cause act x).rd g h = (c.chNamed h new act).rd g h :=
  ((((Core.ChTold.refl.chEnter fun _ => id).chMark fun _ => id).chTell).regs g hg hb h hh)

theorem Core.chGoto_state (hn : new < 8) : (c.chGoto h new cause act x).chState h = new :=
  (Core.chGoto_rd hh rfl (by decide)).trans ((Core.rd_wr_ch _ rfl rfl rfl _ _ _).trans
    ((Core.rd_wr_same ..).trans (Nat.mod_eq_of_lt hn)))

theorem Core.chGoto_active (ha : act < 32) : (c.chGoto h new cause act x).rd CH_STAT.active h = act :=
  (Core.chGoto_rd hh rfl (by decide)).trans ((Core.rd_wr_same ..).trans (Nat.mod_eq_of_lt ha))

/-- What a change of state leaves of every other field. -/
theorem Core.chGoto_keeps {g : Fld} (hg : g.ofCh = true) (hb : ∀ f ∈ chGotoFlds, f.beside g = true) :
    (c.chGoto h new cause act x).rd g h = c.rd g h :=
  ((Core.ChTold.refl.chGoto fun _ => id).regs g hg hb h hh)

theorem Core.chGoto_freerun : (c.chGoto h chFreerun hcForceFr act x).rd CH_EVENT.freerun h = 1 :=
  ((Core.ChTold.refl (F := [])).chTell.regs CH_EVENT.freerun rfl (by decide) h hh).trans (Core.rd_wr_same ..)

end

/-- A source of the channels' is raised for a channel that the variant has. -/
theorem Core.raise_channel_raw (c : Core) {fs h : Nat} (hf : fs ∈ [9, 13]) (hh : h < c.part.nCh) :
    bitOf ((c.raise fs h).rd FLT_RAW.hit 0 0) fs = true := by
  have unit : ∀ fs ∈ [9, 13], c.part.fsUnitOk fs h = decide (h < c.part.nCh) ∧ c.part.fsAbsent fs = false ∧
      fsSpare fs = false ∧ fs < 96 ∧ fs / 32 = 0 ∧ fs % 32 = fs := by
    simp [Part.fsUnitOk, Part.fsAbsent, fsSpare]
  obtain ⟨ok, here, spare, small, word, bit⟩ := unit fs hf
  have raw := c.raiseInfo_raw false (fs := fs) (unit := h) (info := h) (by
    rw [ok, here, spare, decide_eq_true hh, decide_eq_false (Nat.not_le.mpr small)]
    rfl)
  rwa [word, bit] at raw

/-- Entering HOLDOVER raises FS9 (R102). -/
theorem Core.chGoto_raw9 {c : Core} {h cause act : Nat} {x : Int} (hh : h < c.part.nCh) :
    bitOf ((c.chGoto h chHoldover cause act x).rd FLT_RAW.hit 0 0) 9 = true := by
  have told : Core.ChTold chBesideFlds (c.chNamed h chHoldover act) ((((c.chNamed h chHoldover act).chEnter h chHoldover
      (c.chState h)).chMark h chHoldover cause).chEvent h (c.chState h) (c.rd CH_STAT.active h) cause x) :=
    ((Core.ChTold.refl.chEnter fun _ => id).chMark fun _ => id).chEvent
  have raised := Core.raise_channel_raw _ (fs := 9) (by decide) (told.part.symm ▸ hh)
  rw [Core.chGoto_eq]
  exact (Core.ChTold.on (F := []) (Core.ChTold.refl.on fun t => t.raise) fun t => t.raise).raw 0 (by decide) 9 (by decide) raised

/-- FREERUN for want of a candidate raises FS13 (R102). -/
theorem Core.chGoto_raw13 {c : Core} {h act : Nat} {x : Int} (hh : h < c.part.nCh) :
    bitOf ((c.chGoto h chFreerun hcNoCandidate act x).rd FLT_RAW.hit 0 0) 13 = true := by
  have told : Core.ChTold chBesideFlds (c.chNamed h chFreerun act) ((((c.chNamed h chFreerun act).chEnter h chFreerun
      (c.chState h)).chMark h chFreerun hcNoCandidate).chEvent h (c.chState h) (c.rd CH_STAT.active h) hcNoCandidate x) :=
    ((Core.ChTold.refl.chEnter fun _ => id).chMark fun _ => id).chEvent
  exact Core.raise_channel_raw _ (fs := 13) (by decide) (told.part.symm ▸ hh)

end Sys2Proof.Machine
end

section
/-! What the enable and the forces ask of a channel (R102, R103), and what a rotor's change of state leaves of its registers
(R168). -/

namespace Sys2Proof.Machine

open Sys2Proof

/-! ## A rotor's change of state (R167 to R180) -/

namespace Core.ChTold

variable {F : List Fld} {c d : Core} {h : Nat}

theorem setRot {x : Rot} (k : ChTold F c d) : ChTold F c (d.setRot h x) := k.hidden

theorem rotDir (k : ChTold F c d) : ChTold F c (d.rotDir h) := by
  unfold Core.rotDir
  exact ((k.wrBehind rfl).wrBehind rfl).setRot

theorem rotCross {t : Int} {v a e l g : Rat} {co : Bool} (k : ChTold F c d) : ChTold F c (d.rotCross h t v a e l g co) := by
  unfold Core.rotCross
  extract_lets x rev n c1 p after edges c2 z dz slew step resid q c3
  have h1 : ChTold F c c1 := k.wrBehind rfl
  have h3 : ChTold F c c3 := h1.emit.setRot
  exact h3.on fun k => k.wrBehind rfl

theorem rotCrossings {t n : Nat} {p a w al e g : Rat} {left : Rat → Rat} (k : ChTold F c d) :
    ChTold F c (d.rotCrossings h t p a w al e g left n) := by
  induction n generalizing d with
  | zero => exact k
  | succ n ih => exact ite k (ih k.rotCross)

theorem rotClamp (k : ChTold F c d) : ChTold F c (d.rotClamp h) := k.wrBehind rfl

theorem rotTests (k : ChTold F c d) : ChTold F c (d.rotTests h) := by
  unfold Core.rotTests
  extract_lets x os oa newS newA c1 c2 c3
  have h1 : ChTold F c c1 := (k.wrBehind rfl).wrBehind rfl
  have h3 : ChTold F c c3 := h1.setRot.on fun k => (k.wrBehind rfl).raise
  exact h3.on fun k => (k.wrBehind rfl).raise

theorem rotRegs (k : ChTold F c d) (he : CH_PHERR.e ∈ F) : ChTold F c (d.rotRegs h) := by
  unfold Core.rotRegs
  extract_lets x c1 c2 c3 c4
  have h2 : ChTold F c c2 := (k.wrBehind rfl).wrBehind rfl
  have h4 : ChTold F c c4 := (h2.wrBehind rfl).wrBehind rfl
  exact h4.wr he rfl

theorem rotReset (k : ChTold F c d) (he : CH_PHERR.e ∈ F) : ChTold F c (d.rotReset h) := by
  unfold Core.rotReset
  extract_lets c1 c2 c3 c4 c5 c6 c7 c8 c9 x
  have h3 : ChTold F c c3 := (k.rotDir.wrBehind rfl).wrBehind rfl
  have h6 : ChTold F c c6 := ((h3.wrBehind rfl).wrBehind rfl).wrBehind rfl
  have h9 : ChTold F c c9 := ((h6.wrBehind rfl).wrBehind rfl).wrBehind rfl
  exact h9.setRot.rotRegs he

theorem rotFly {t : Nat} (k : ChTold F c d) (he : CH_PHERR.e ∈ F) : ChTold F c (d.rotFly h t) := by
  unfold Core.rotFly
  exact ite k (((k.setRot.wrBehind rfl).wrBehind rfl).rotRegs he)

theorem rotRejoin {t : Nat} (k : ChTold F c d) (he : CH_PHERR.e ∈ F) : ChTold F c (d.rotRejoin h t) := by
  unfold Core.rotRejoin
  extract_lets x n g c1 a u z y c2
  have h1 : ChTold F c c1 := (k.wrBehind rfl).setRot
  have h2 : ChTold F c c2 := ite (h1.setRot.wrBehind rfl) h1.setRot
  exact ite k.setRot (h2.rotRegs he)

theorem rotGoto {t new cause : Nat} (k : ChTold F c d) (he : CH_PHERR.e ∈ F) : ChTold F c (d.rotGoto h t new cause) := by
  unfold Core.rotGoto
  extract_lets old c1 c2 c3 c4 x c5 c6 c7 c8 c9
  have h1 : ChTold F c c1 := k.wrBehind rfl
  have h3 : ChTold F c c3 := (h1.on fun k => k.rotCrossings).wrBehind rfl
  have h4 : ChTold F c c4 := ite h3 ((h3.rotFly he).wrBehind rfl)
  have h5 : ChTold F c c5 := ite (h3.rotReset he) (ite ((h3.rotReset he).on fun k => k.wrBehind rfl) (ite h4.setRot
    (ite (h3.rotFly he) (h3.rotRejoin he).rotTests)))
  have h7 : ChTold F c c7 := (h5.on fun k => k.wrBehind rfl).on fun k => k.wrBehind rfl
  have h9 : ChTold F c c9 := (h7.on fun k => (k.wrBehind rfl).raise).on fun k => k.raise
  exact ite h1 h9.rotClamp.emit

theorem rotEval (k : ChTold F c d) (he : CH_PHERR.e ∈ F) : ChTold F c (d.rotEval h) := by
  unfold Core.rotEval
  extract_lets st t c1
  have h1 : ChTold F c c1 := k.wrBehind rfl
  exact ite (k.rotGoto he).rotDir (ite (k.rotGoto he).rotDir (ite (k.rotGoto he) (ite k.rotDir (ite (h1.rotGoto he)
    (ite (h1.rotGoto he) (ite (h1.rotGoto he) (ite (h1.rotGoto he) h1)))))))

/-! ## The transitions asked for (R102, R103) -/

theorem chEval (k : ChTold F c d) (hF : ∀ f ∈ chGotoFlds, f ∈ F) : ChTold F c (d.chEval h) := by
  have he : CH_PHERR.e ∈ F := hF _ (by decide)
  unfold Core.chEval
  extract_lets st force
  exact ite k (ite ((ite k (k.chGoto hF)).rotEval he) (ite (ite k (ite ((k.chGoto hF).rotEval he) (k.chGoto hF)))
    (ite (k.rotEval he) (ite (ite k (k.chGoto hF)) (ite (k.chGoto hF) k)))))

end Core.ChTold

/-- A channel that the variant has, out of block reset, enabled and in a state of the loop (R101). -/
structure Core.ChSteers (c : Core) (h : Nat) : Prop where
  here : h < c.part.nCh
  run : c.inRst.contains (1, h) = false
  enabled : c.rd CH_CFG.en h = 1
  started : c.chState h ≠ chDisabled
  steers : c.chState h ≠ chRotor

/-- The loop runs or coasts (R101). -/
theorem Core.ChSteers.of_state {c : Core} {h : Nat} (hh : h < c.part.nCh) (hr : c.inRst.contains (1, h) = false)
    (he : c.rd CH_CFG.en h = 1) (hs : c.chState h ∈ [chFreerun, chAcquiring, chLocked, chHoldover, chEnsemble]) : c.ChSteers h := by
  have loop : ∀ st ∈ [chFreerun, chAcquiring, chLocked, chHoldover, chEnsemble], st ≠ chDisabled ∧ st ≠ chRotor := by decide
  exact ⟨hh, hr, he, (loop _ hs).1, (loop _ hs).2⟩

theorem mem_of_chRunning {st : Nat} (h : chRunning st = true) : st ∈ [chAcquiring, chLocked, chEnsemble] := by
  simpa [chRunning, or_assoc] using h

theorem Core.ChSteers.of_running {c : Core} {h : Nat} (hh : h < c.part.nCh) (hr : c.inRst.contains (1, h) = false)
    (he : c.rd CH_CFG.en h = 1) (hs : chRunning (c.chState h) = true) : c.ChSteers h := by
  refine .of_state hh hr he ?_
  have running := mem_of_chRunning hs
  simp only [List.mem_cons, List.not_mem_nil, or_false] at running ⊢
  tauto

section

variable {c d : Core} {h : Nat}

theorem Core.ChSteers.lt (s : c.ChSteers h) : h < 12 := Nat.lt_of_lt_of_le s.here c.part.nCh_le

theorem Core.ChSteers.of_same (s : c.ChSteers h) (hp : d.part = c.part) (hr : d.inRst = c.inRst)
    (he : d.rd CH_CFG.en h = c.rd CH_CFG.en h) (hs : d.chState h = c.chState h) : d.ChSteers h :=
  ⟨hp ▸ s.here, hr ▸ s.run, he.trans s.enabled, hs ▸ s.started, hs ▸ s.steers⟩

theorem Core.ChSteers.eval (s : c.ChSteers h) : c.chEval h =
    if c.rdB CH_CTRL.force_fr h then (if c.chState h = chFreerun then c else c.chGoto h chFreerun hcForceFr 31)
    else if (c.rdB CH_CTRL.force_ho h || c.rdB CH_STAT.flt_hold h) && c.rdB CH_STAT.ho_valid h && c.chState h ≠ chHoldover then
      c.chGoto h chHoldover (if c.rdB CH_CTRL.force_ho h then hcForceHo else hcFltHo) 31
    else c := by
  have going : (decide (c.part.nCh ≤ h) || c.inRst.contains (1, h)) = false := by
    rw [decide_eq_false (Nat.not_le.mpr s.here), s.run]
    rfl
  unfold Core.chEval
  rw [going, Core.rdB_of_one s.enabled, if_neg Bool.false_ne_true, if_neg (by decide), if_neg s.started, if_neg s.steers]

/-- Nothing forces the channel, or it is to hold over and cannot. -/
theorem Core.ChSteers.eval_same (s : c.ChSteers h) (hf : c.rdB CH_CTRL.force_fr h = false)
    (ho : (c.rdB CH_CTRL.force_ho h || c.rdB CH_STAT.flt_hold h) = false ∨ c.rdB CH_STAT.ho_valid h = false) :
    c.chEval h = c := by
  rw [s.eval, hf, if_neg Bool.false_ne_true]
  refine if_neg ?_
  rcases ho with ho | ho <;> simp [ho]

end

/-! ## The forces written (R102, R126) -/

/-- The fields of the forces. -/
def forceFlds : List Fld := [CH_CTRL.force_fr, CH_CTRL.force_ho, CH_STAT.flt_hold]

/-- The forces as they are asked for, before what they ask for. -/
def Core.chAsked (c : Core) (h : Nat) (fr ho hold : Bool) : Core :=
  let any := (c.chan h).released || c.chForced h || fr || ho || hold
  let d := ((c.wrB CH_CTRL.force_fr fr h).wrB CH_CTRL.force_ho ho h).wrB CH_STAT.flt_hold hold h
  if d.chState h = chDisabled then d else d.setChan h { c.chan h with released := any }

theorem Core.chForceSet_eq (c : Core) (h : Nat) (fr ho hold : Bool) : c.chForceSet h fr ho hold = (c.chAsked h fr ho hold).chEval h := rfl

section

variable (c : Core) (h : Nat) (fr ho hold : Bool)

/-- The channel's hidden state apart, only the three fields are written. -/
theorem Core.chAsked_same (f : Fld) (i k : Nat) : (c.chAsked h fr ho hold).rd f i k =
    (((c.wrB CH_CTRL.force_fr fr h).wrB CH_CTRL.force_ho ho h).wrB CH_STAT.flt_hold hold h).rd f i k := by
  unfold Core.chAsked
  dsimp only
  split <;> rfl

theorem Core.chAsked_rd {g : Fld} (hg : g.ofCh = true) (hb : ∀ f ∈ forceFlds, f.beside g = true) (i : Nat) :
    (c.chAsked h fr ho hold).rd g i = c.rd g i := by
  rw [Core.chAsked_same]
  unfold Core.wrB
  rw [Core.rd_wr_ch _ rfl hg (hb CH_STAT.flt_hold (by decide)), Core.rd_wr_ch _ rfl hg (hb CH_CTRL.force_ho (by decide)),
    Core.rd_wr_ch _ rfl hg (hb CH_CTRL.force_fr (by decide))]

theorem b2n_mod_two (b : Bool) : b2n b % 2 = b2n b := by cases b <;> rfl

theorem Core.chAsked_fr : (c.chAsked h fr ho hold).rd CH_CTRL.force_fr h = b2n fr := by
  rw [Core.chAsked_same]
  unfold Core.wrB
  rw [Core.rd_wr_ch _ rfl rfl rfl, Core.rd_wr_ch _ rfl rfl rfl, Core.rd_wr_same]
  exact b2n_mod_two fr

theorem Core.chAsked_ho : (c.chAsked h fr ho hold).rd CH_CTRL.force_ho h = b2n ho := by
  rw [Core.chAsked_same]
  unfold Core.wrB
  rw [Core.rd_wr_ch _ rfl rfl rfl, Core.rd_wr_same]
  exact b2n_mod_two ho

theorem Core.chAsked_hold : (c.chAsked h fr ho hold).rd CH_STAT.flt_hold h = b2n hold := by
  rw [Core.chAsked_same]
  unfold Core.wrB
  rw [Core.rd_wr_same]
  exact b2n_mod_two hold

variable {c h}

theorem Core.ChSteers.asked (s : c.ChSteers h) : (c.chAsked h fr ho hold).ChSteers h := by
  refine s.of_same ?_ ?_ (c.chAsked_rd h fr ho hold rfl (by decide) h) (c.chAsked_rd h fr ho hold rfl (by decide) h) <;>
  · unfold Core.chAsked
    dsimp only
    split <;> rfl

end

end Sys2Proof.Machine
end

section
/-! The host's forces on a channel, and their refusal (R102, R103, R125, R126). -/

namespace Sys2Proof.Machine

open Sys2Proof

/-! ## A command refused (R125) -/

/-- The fields that a refusal writes. -/
def refuseFlds : List Fld := [CH_CFG_REJECT.word, CH_CFG_REJECT.valid, CH_CFG_REJECT.count, CH_EVENT.cmd_refused]

section

variable (c : Core) (h off : Nat)

theorem Core.chReject_rd {g : Fld} (hg : g.ofCh = true) (hb : ∀ f ∈ refuseFlds, f.beside g = true) (i : Nat) :
    (c.chReject h off).rd g i = c.rd g i := by
  unfold Core.chReject Core.reject
  extract_lets first d
  have noted : d.rd g i = c.rd g i := by
    unfold d
    split
    · exact Core.rd_wr_ch _ rfl hg (hb CH_CFG_REJECT.word (by decide)) ..
    · rfl
  exact (Core.rd_wr_ch _ rfl hg (hb CH_CFG_REJECT.count (by decide)) ..).trans
    ((Core.rd_wr_ch _ rfl hg (hb CH_CFG_REJECT.valid (by decide)) ..).trans noted)

theorem Core.chReject_valid : (c.chReject h off).rd CH_CFG_REJECT.valid h = 1 :=
  (Core.rd_wr_ch _ rfl rfl rfl ..).trans (Core.rd_wr_same ..)

theorem Core.chReject_chan (i : Nat) : (c.chReject h off).chan i = c.chan i := by
  unfold Core.chReject Core.reject
  dsimp only
  split <;> rfl

theorem Core.chRefuse_refused : (c.chRefuse h off).rd CH_EVENT.cmd_refused h = 1 := Core.rd_wr_same ..

theorem Core.chRefuse_valid : (c.chRefuse h off).rd CH_CFG_REJECT.valid h = 1 :=
  (Core.rd_wr_ch _ rfl rfl rfl ..).trans (c.chReject_valid h off)

theorem Core.chRefuse_chan (i : Nat) : (c.chRefuse h off).chan i = c.chan i := c.chReject_chan h off i

theorem Core.chRefuse_rd {g : Fld} (hg : g.ofCh = true) (hb : ∀ f ∈ refuseFlds, f.beside g = true) (i : Nat) :
    (c.chRefuse h off).rd g i = c.rd g i :=
  (Core.rd_wr_ch _ rfl hg (hb CH_EVENT.cmd_refused (by decide)) ..).trans (c.chReject_rd h off hg hb i)

end

section

variable {c : Core} {h : Fin 12} (hh : h < c.part.nCh)
include hh

theorem forceFrStep_disabled (he : c.rd CH_CFG.en h = 0) (v : Bool) : forceFrStep h v c = c.chRefuse h 0x38 :=
  (Core.atReg_ch (f := CH_CTRL.force_fr) rfl hh).trans (by rw [Core.rdB_of_zero he]; rfl)

theorem forceHoStep_disabled (he : c.rd CH_CFG.en h = 0) (v : Bool) : forceHoStep h v c = c.chRefuse h 0x38 :=
  (Core.atReg_ch (f := CH_CTRL.force_ho) rfl hh).trans (by rw [Core.rdB_of_zero he]; rfl)

theorem hoReleaseStep_disabled (he : c.rd CH_CFG.en h = 0) : hoReleaseStep h c = c.chRefuse h 0x38 :=
  (Core.atReg_ch (f := CH_CTRL.ho_release) rfl hh).trans (by rw [Core.rdB_of_zero he]; rfl)

theorem poolAbortStep_disabled (he : c.rd CH_CFG.en h = 0) (b : Bool) : poolAbortStep h b c = c.chRefuse h 0x38 :=
  (Core.atReg_ch (f := CH_CTRL.pool_abort) rfl hh).trans (by rw [Core.rdB_of_zero he]; rfl)

theorem forceFrStep_enabled (he : c.rd CH_CFG.en h = 1) (v : Bool) : forceFrStep h v c = c.forceFr h v :=
  (Core.atReg_ch (f := CH_CTRL.force_fr) rfl hh).trans (by rw [Core.rdB_of_one he]; rfl)

theorem forceHoStep_enabled (he : c.rd CH_CFG.en h = 1) (v : Bool) : forceHoStep h v c = c.forceHo h v :=
  (Core.atReg_ch (f := CH_CTRL.force_ho) rfl hh).trans (by rw [Core.rdB_of_one he]; rfl)

theorem hoReleaseStep_enabled (he : c.rd CH_CFG.en h = 1) : hoReleaseStep h c = c.holdRelease h :=
  (Core.atReg_ch (f := CH_CTRL.ho_release) rfl hh).trans (by rw [Core.rdB_of_one he]; rfl)

theorem poolAbortStep_enabled (he : c.rd CH_CFG.en h = 1) (b : Bool) : poolAbortStep h b c = (c.poolAbort h b).1 :=
  (Core.atReg_ch (f := CH_CTRL.pool_abort) rfl hh).trans (by rw [Core.rdB_of_one he]; rfl)

/-- CH_PSTEP_COMMIT by an executor that waits for no window. -/
theorem chPstepCommitStep_eq {ex : Fin 4} {data : BitVec 32} (hw : c.indWaits ex = false) :
    chPstepCommitStep h ex data c = (c.chPstepHi h ex data.toNat).1 := by
  have waits : Core.indWaits c (ex : Nat) = false := hw
  unfold chPstepCommitStep
  rw [Core.heldOr_of_not_indWaits (x := { ex := ex, addr := CH_PSTEP_HI.mode.addr h 0, data := data.toNat }) waits]
  exact Core.atReg_ch (f := CH_PSTEP_HI.mode) rfl hh

theorem chPstepCommitStep_disabled {ex : Fin 4} {data : BitVec 32} (hw : c.indWaits ex = false) (he : c.rd CH_CFG.en h = 0) :
    chPstepCommitStep h ex data c = c.chRefuse h 0x40 := by
  have refused (x : Int) (step : Bool) : c.chCommit h x step = (c.chRefuse h 0x40, true) :=
    if_pos (by rw [Core.rdB_of_zero he]; rfl)
  rw [chPstepCommitStep_eq hh hw]
  unfold Core.chPstepHi Core.chPstepPut
  rw [refused]
  rfl

end

/-! ## The forces (R102, R103) -/

section

variable {c : Core} {h : Nat}

/-- force_fr takes a channel of the loop to FREERUN. -/
theorem Core.ChSteers.forceFr_effect (s : c.ChSteers h) (hf : c.chState h ≠ chFreerun) :
    (c.forceFr h true).chState h = chFreerun ∧ (c.forceFr h true).rd CH_STAT.active h = 31 ∧
      (c.forceFr h true).rd CH_CTRL.force_fr h = 1 ∧ (c.forceFr h true).rd CH_EVENT.freerun h = 1 := by
  have step : c.forceFr h true = (c.chAsked h true (c.rdB CH_CTRL.force_ho h) (c.rdB CH_STAT.flt_hold h)).chGoto h chFreerun
      hcForceFr 31 := by
    refine (s.asked true _ _).eval.trans ?_
    rw [Core.rdB_of_one (Core.chAsked_fr ..), if_pos rfl]
    refine if_neg ?_
    rwa [Core.chState, Core.chAsked_rd _ _ _ _ _ rfl (by decide)]
  rw [step]
  exact ⟨Core.chGoto_state s.lt (by decide), Core.chGoto_active s.lt (by decide),
    (Core.chGoto_keeps s.lt rfl (by decide)).trans (Core.chAsked_fr ..), Core.chGoto_freerun s.lt⟩

/-- force_ho takes a running channel to HOLDOVER where that is valid. -/
theorem Core.ChSteers.forceHo_effect (s : c.ChSteers h) (hr : chRunning (c.chState h) = true) (hf : c.rd CH_CTRL.force_fr h = 0)
    (hv : c.rd CH_STAT.ho_valid h = 1) :
    (c.forceHo h true).chState h = chHoldover ∧ (c.forceHo h true).rd CH_STAT.active h = 31 ∧
      (c.forceHo h true).rd CH_CTRL.force_ho h = 1 ∧ bitOf ((c.forceHo h true).rd FLT_RAW.hit 0 0) 9 = true := by
  have unasked : c.hoAsked h true = c := by
    unfold Core.hoAsked
    rw [Core.rdB_of_one hv]
    rfl
  have moves : c.chState h ≠ chHoldover := by
    intro same
    rw [same] at hr
    exact Bool.false_ne_true hr
  have asked (hold : Bool) : (c.chAsked h false true hold).chEval h = (c.chAsked h false true hold).chGoto h chHoldover hcForceHo 31 := by
    have fr : (c.chAsked h false true hold).rdB CH_CTRL.force_fr h = false := Core.rdB_of_zero (Core.chAsked_fr ..)
    have ho : (c.chAsked h false true hold).rdB CH_CTRL.force_ho h = true := Core.rdB_of_one (Core.chAsked_ho ..)
    have valid : (c.chAsked h false true hold).rdB CH_STAT.ho_valid h = true :=
      Core.rdB_of_one ((Core.chAsked_rd _ _ _ _ _ rfl (by decide) _).trans hv)
    have still : (c.chAsked h false true hold).chState h ≠ chHoldover := by
      rwa [Core.chState, Core.chAsked_rd _ _ _ _ _ rfl (by decide)]
    rw [(s.asked false true hold).eval, fr, ho, valid, if_neg Bool.false_ne_true]
    refine if_pos ?_
    rw [Bool.true_or, Bool.true_and, Bool.true_and]
    exact decide_eq_true still
  have step : c.forceHo h true = (c.chAsked h false true (c.rdB CH_STAT.flt_hold h)).chGoto h chHoldover hcForceHo 31 := by
    unfold Core.forceHo
    rw [unasked, Core.rdB_of_zero hf, Core.chForceSet_eq, asked]
  rw [step]
  exact ⟨Core.chGoto_state s.lt (by decide), Core.chGoto_active s.lt (by decide),
    (Core.chGoto_keeps s.lt rfl (by decide)).trans (Core.chAsked_ho ..), Core.chGoto_raw9 (s.asked false true _).here⟩

/-- force_ho without valid holdover stays pending. -/
theorem Core.ChSteers.forceHo_pending (s : c.ChSteers h) (hf : c.rd CH_CTRL.force_fr h = 0) (hv : c.rd CH_STAT.ho_valid h = 0) :
    (c.forceHo h true).chState h = c.chState h ∧ (c.forceHo h true).rd CH_CTRL.force_ho h = 1 ∧
      (c.forceHo h true).rd CH_EVENT.cmd_refused h = 1 := by
  have asked : c.hoAsked h true = c.wr CH_EVENT.cmd_refused 1 h := by
    unfold Core.hoAsked
    rw [Core.rdB_of_zero hv]
    exact if_pos (by simp [s.started, s.steers])
  have other {g : Fld} (hg : g.ofCh = true) (hb : CH_EVENT.cmd_refused.beside g = true) :
      (c.wr CH_EVENT.cmd_refused 1 h).rd g h = c.rd g h := Core.rd_wr_ch _ rfl hg hb ..
  have refused : (c.wr CH_EVENT.cmd_refused 1 h).ChSteers h := s.of_same rfl rfl (other rfl rfl) (other rfl rfl)
  have step : c.forceHo h true = (c.wr CH_EVENT.cmd_refused 1 h).chAsked h false true (c.rdB CH_STAT.flt_hold h) := by
    unfold Core.forceHo
    rw [asked, Core.rdB_of_zero hf]
    refine (refused.asked false true _).eval_same (Core.rdB_of_zero (Core.chAsked_fr ..)) (.inr (Core.rdB_of_zero ?_))
    rw [Core.chAsked_rd _ _ _ _ _ rfl (by decide), other rfl rfl, hv]
  rw [step]
  refine ⟨?_, Core.chAsked_ho .., ?_⟩
  · exact (Core.chAsked_rd _ _ _ _ _ rfl (by decide) _).trans (other rfl rfl)
  · exact (Core.chAsked_rd _ _ _ _ _ rfl (by decide) _).trans (Core.rd_wr_same ..)

/-- The release of the hold clears it, whatever the channel then does (R126). -/
theorem Core.holdRelease_hold (c : Core) (hh : h < 12) : (c.holdRelease h).rd CH_STAT.flt_hold h = 0 :=
  (Core.ChTold.refl.chEval (F := chGotoFlds) fun _ => id).regs CH_STAT.flt_hold rfl (by decide) h hh |>.trans (Core.chAsked_hold ..)

end

/-- Settles O22: a force comes to one change of state, or to none where holdover is not valid; nothing that a change of state
does clears or sets a force; a refusal writes its own record alone. -/
theorem channelForces : Obligations.ChannelForces := by
  unfold Obligations.ChannelForces
  refine ⟨?freerun, ?holdover, ?pending, ?release, ?refusedFr, ?refused, ?refusedStep⟩
  case freerun =>
    intro s h hr hh he hrst hs
    have state : s.dev.core.chState h ∈ [chAcquiring, chLocked, chHoldover, chEnsemble] := by
      rcases hs with hs | hs
      · have running := mem_of_chRunning hs
        simp only [List.mem_cons, List.not_mem_nil, or_false] at running ⊢
        tauto
      · rw [hs]
        decide
    have steers : s.dev.core.ChSteers h := .of_state hh hrst he (List.mem_cons_of_mem _ state)
    have other : ∀ st ∈ [chAcquiring, chLocked, chHoldover, chEnsemble], st ≠ chFreerun := by decide
    refine onRunCore_answers hr ?_
    unfold Core.chState
    rw [Dev.act_rdCh _ _ _ _ rfl, Dev.act_rdCh _ _ _ _ rfl, Dev.act_rdCh _ _ _ _ rfl, Dev.act_rdCh _ _ _ _ rfl,
      forceFrStep_enabled hh he]
    exact steers.forceFr_effect (other _ state)
  case holdover =>
    intro s h hr hh he hrst hf hv hs
    have steers : s.dev.core.ChSteers h := .of_running hh hrst he hs
    refine onRunCore_answers hr ?_
    unfold Core.chState
    rw [Dev.act_rdCh _ _ _ _ rfl, Dev.act_rdCh _ _ _ _ rfl, Dev.act_rdCh _ _ _ _ rfl, Dev.act_rd_key _ _ _ _ _ (by decide),
      forceHoStep_enabled hh he]
    exact steers.forceHo_effect hs hf hv
  case pending =>
    intro s h hr hh he hrst hf hv hs
    have steers : s.dev.core.ChSteers h := .of_running hh hrst he hs
    refine onRunCore_answers hr ?_
    unfold Core.chState
    rw [Dev.act_rdCh _ _ _ _ rfl, Dev.act_rdCh _ _ _ _ rfl, Dev.act_rdCh _ _ _ _ rfl, forceHoStep_enabled hh he]
    exact steers.forceHo_pending hf hv
  case release =>
    intro s h hr hh he
    refine onRunCore_answers hr ?_
    rw [Dev.act_rdCh _ _ _ _ rfl, hoReleaseStep_enabled hh he]
    exact s.dev.core.holdRelease_hold h.isLt
  case refusedFr =>
    intro s h v hr hh he
    refine onRunCore_answers hr ?_
    unfold Core.chState
    rw [Dev.act_rdCh _ _ _ _ rfl, Dev.act_rdCh _ _ _ _ rfl, Dev.act_rdCh _ _ _ _ rfl, Dev.act_rdCh _ _ _ _ rfl,
      forceFrStep_disabled hh he]
    exact ⟨Core.chRefuse_refused .., Core.chRefuse_valid .., Core.chRefuse_rd _ _ _ rfl (by decide) _,
      Core.chRefuse_rd _ _ _ rfl (by decide) _⟩
  case refused =>
    intro s h v b i hr hh he hi
    have stat : ∀ f ∈ CH_STAT.row.flds, f.ofCh = true ∧ ∀ g ∈ refuseFlds, g.beside f = true := by decide
    have refuses {step : Core → Core} (hstep : step s.dev.core = s.dev.core.chRefuse h 0x38) :
        Answers (onRunCore step s) fun t =>
          t.dev.core.rd CH_EVENT.cmd_refused h.val = 1 ∧ t.dev.core.rd CH_CFG_REJECT.valid h.val = 1 ∧
          t.dev.core.chan h.val = s.dev.core.chan h.val ∧ t.dev.core.rd CH_CTRL.force_ho h.val = s.dev.core.rd CH_CTRL.force_ho h.val ∧
          (∀ f ∈ CH_STAT.row.flds, t.dev.core.rd f h.val = s.dev.core.rd f h.val) := by
      refine onRunCore_answers hr ?_
      rw [Dev.act_rdCh _ _ _ _ rfl, Dev.act_rdCh _ _ _ _ rfl, Dev.act_rdCh _ _ _ _ rfl, Dev.act_chan, hstep]
      refine ⟨Core.chRefuse_refused .., Core.chRefuse_valid .., Core.chRefuse_chan .., Core.chRefuse_rd _ _ _ rfl (by decide) _,
        fun f hf => ?_⟩
      rw [Dev.act_rdCh _ _ _ _ (stat f hf).1, hstep]
      exact Core.chRefuse_rd _ _ _ (stat f hf).1 (stat f hf).2 _
    rcases hi with rfl | rfl | rfl
    · exact refuses (forceHoStep_disabled hh he v)
    · exact refuses (hoReleaseStep_disabled hh he)
    · exact refuses (poolAbortStep_disabled hh he b)
  case refusedStep =>
    intro s h ex data hr hh he hw
    refine onRunCore_answers hr ?_
    rw [Dev.act_rdCh _ _ _ _ rfl, Dev.act_rdCh _ _ _ _ rfl, Dev.act_chan, chPstepCommitStep_disabled hh hw he]
    exact ⟨Core.chRefuse_refused .., Core.chRefuse_valid .., Core.chRefuse_chan ..⟩

end Sys2Proof.Machine
end

section
/-! The host's phase steps, the abort of the pools and the manual selection (R112, R121, R122, R124). -/

namespace Sys2Proof.Machine

open Sys2Proof

/-! ## Pools (R121, R122, R124) -/

section

variable (c : Core) (h : Nat)

/-- The registers that show a channel's hidden state leave it alone. -/
theorem Core.chRegs_chan (i : Nat) : (c.chRegs h).chan i = c.chan i := by
  unfold Core.chRegs Core.fallbackReg Core.wrPair Core.wrS Core.wrB
  simp only [Core.chan_wr]

theorem Core.chRegs_slewing : (c.chRegs h).rd CH_STAT.slewing h = b2n ((c.chan h).passPool ≠ 0 || (c.chan h).hostPool ≠ 0) := by
  unfold Core.chRegs Core.fallbackReg
  extract_lets x st c1 pool c2 man
  unfold Core.wrB
  rw [Core.rd_wr_ch _ rfl rfl rfl, Core.rd_wr_same]
  exact b2n_mod_two _

/-- A fault raised leaves the channels' hidden state alone. -/
theorem Core.raise_chan (fs u i : Nat) : (c.raise fs u).chan i = c.chan i := by
  have same := congrArg (fun d : Core => d.chan i) (Core.raise_hit c fs u).2
  exact same

theorem Core.poolSat_chan (big : Bool) (i : Nat) : (c.poolSat h big).chan i = c.chan i := by
  unfold Core.poolSat Core.on
  split
  · exact Core.raise_chan ..
  · rfl

/-- What a commit of `d` makes of the host pool. -/
def Chan.hosted (x : Chan) (d : Int) (step : Bool) : Chan :=
  { x with hostPool := clampI (-poolMax) poolMax (x.hostPool + d), hostStep := step }

theorem Core.hostAdd_chan (d : Int) (step : Bool) : (c.hostAdd h d step).chan h = (c.chan h).hosted d step := by
  unfold Core.hostAdd
  rw [Core.poolSat_chan, Core.chan_setChan, if_pos rfl]
  rfl

variable {c h}

/-- A phase step of an enabled channel without a rotor goes into its host pool. -/
theorem Core.chPstepPut_chan (he : c.rd CH_CFG.en h = 1) (hk : c.rd CH_CFG.kind h = 0) (hs : c.chState h ≠ chDisabled)
    (lo hi mode : Nat) :
    (c.chPstepPut h lo hi mode).1.chan h = (c.chan h).hosted (toS 48 (lo + hi * 2 ^ 32) * 2 ^ 32) (mode = 0) := by
  have taken (x : Int) (step : Bool) : c.chCommit h x step = ((c.hostAdd h (x * 2 ^ 32) step).chRegs h, false) := by
    unfold Core.chCommit
    rw [Core.rdB_of_one he, Core.rdB_of_zero hk, if_neg (by decide), if_neg Bool.false_ne_true, if_neg hs]
  unfold Core.chPstepPut
  rw [taken, if_neg Bool.false_ne_true]
  dsimp only [Core.chan_wr]
  rw [Core.chRegs_chan, Core.hostAdd_chan]

/-- Pools that are not empty are emptied. -/
theorem Core.poolAbort_aborted (hp : (c.chan h).passPool ≠ 0 ∨ (c.chan h).hostPool ≠ 0) (emptied : Bool) :
    ((c.poolAbort h emptied).1.chan h).passPool = 0 ∧ ((c.poolAbort h emptied).1.chan h).hostPool = 0 ∧
      (c.poolAbort h emptied).1.rd CH_STAT.slewing h = 0 ∧ (c.poolAbort h emptied).1.rd CH_STAT.abort_st h = 1 := by
  have step : c.poolAbort h emptied =
      (((c.setChan h { c.chan h with passPool := 0, hostPool := 0, hostStep := false }).chRegs h).wr CH_STAT.abort_st 1 h, 1) :=
    if_pos (by simpa using hp)
  rw [step]
  refine ⟨?_, ?_, ?_, Core.rd_wr_same ..⟩
  · rw [Core.chan_wr, Core.chRegs_chan, Core.chan_setChan, if_pos rfl]
  · rw [Core.chan_wr, Core.chRegs_chan, Core.chan_setChan, if_pos rfl]
  · rw [Core.rd_wr_ch _ rfl rfl rfl, Core.chRegs_slewing, Core.chan_setChan, if_pos rfl]
    rfl

/-- Pools that emptied in the cycle of the abort are reported. -/
theorem Core.poolAbort_already (hp : (c.chan h).passPool = 0) (hq : (c.chan h).hostPool = 0) :
    (c.poolAbort h true).1.rd CH_STAT.abort_st h = 2 := by
  have step : c.poolAbort h true = (c.wr CH_STAT.abort_st 2 h, 2) :=
    (if_neg (by simp [hp, hq])).trans (if_pos rfl)
  rw [step]
  exact Core.rd_wr_same ..

end

/-! ## The manual selection (R112) -/

/-- CH_SEL_CFG of a channel. -/
def chSelRef (h : Nat) : RegRef := ⟨.ch, h, CH_SEL_CFG.row, 0⟩

theorem Part.decodeWord_chSel (p : Part) {h : Fin 12} (hh : h < p.nCh) :
    p.decodeWord ((chSelRef h).addr / 4 * 4) = .reg (chSelRef h) := by
  obtain ⟨v, l, g⟩ := p
  cases v
  case f1624 => fin_cases h <;> rfl
  case c1624 => fin_cases h <;> rfl
  case f1612 =>
    have six (i : Fin 6) : (⟨.f1612, l, g⟩ : Part).decodeWord ((chSelRef i).addr / 4 * 4) = .reg (chSelRef i) := by
      fin_cases i <;> rfl
    exact six ⟨h, hh⟩

theorem Part.access_chSel (p : Part) {h : Fin 12} (hh : h < p.nCh) {be : BitVec 4} (hb : be.toNat.testBit 0 = true) :
    p.access (chSelRef h).addr be.toNat = .reg (chSelRef h) none := by
  have addr : (chSelRef h).addr = 0x110000 + h * 0x1000 + 4 := by
    simp [chSelRef, RegRef.addr, CH_SEL_CFG.row, Fld.addr, CH_SEL_CFG.preempt]
  have plain : aliasAddr ((chSelRef h).addr / 4 * 4) = false := by
    unfold aliasAddr
    rw [addr, decide_eq_false (by omega)]
    rfl
  have some : be.toNat % 16 ≠ 0 := by
    rw [Nat.mod_eq_of_lt be.isLt]
    rintro none
    rw [none, Nat.zero_testBit] at hb
    exact Bool.false_ne_true hb
  have part : (chSelRef h).wholeWord = false := rfl
  unfold Part.access
  dsimp only
  rw [plain, if_neg Bool.false_ne_true, p.decodeWord_chSel hh]
  dsimp only
  rw [if_neg (by omega), part, decide_eq_false some]
  rfl

/-- A write of CH_SEL_CFG by the host, with the fields noted of a channel that the image application holds (R411). -/
theorem Dev.poke_chSel {d : Dev} {h : Fin 12} (hh : h < d.core.part.nCh) {be : BitVec 4} (hb : be.toNat.testBit 0 = true)
    (data : Nat) : (d.poke exHost .ch h 0x4 be.toNat data).core =
      ((d.core.heldNote (chSelRef h) be.toNat).chSelWrite h be.toNat data).1 := by
  have named : regOf .ch h 0x4 = some (chSelRef h) := rfl
  unfold Dev.poke
  rw [named]
  dsimp only
  rw [d.core.part.access_chSel hh hb]
  rfl

/-- Noting a held unit's fields writes no register. -/
theorem Core.heldNote_rd (c : Core) (r : RegRef) (be : Nat) (g : Fld) (i : Nat) : (c.heldNote r be).rd g i = c.rd g i := by
  unfold Core.heldNote
  split <;> rfl

theorem Core.heldNote_manOk (c : Core) (r : RegRef) (be h man : Nat) : (c.heldNote r be).manOk h man = c.manOk h man := by
  unfold Core.manOk Core.routed
  rw [Core.heldNote_rd]

section

variable {c : Core} {h be data : Nat}

/-- The order of the candidates written, before the manual one is named. -/
def Core.chSelOrder (c : Core) (h be data : Nat) : Core :=
  (c.writeField be data h 0 CH_SEL_CFG.preempt).writeField be data h 0 CH_SEL_CFG.revert

theorem Core.chSelOrder_rd {g : Fld} (hg : g.ofCh = true) (hp : CH_SEL_CFG.preempt.beside g = true)
    (hr : CH_SEL_CFG.revert.beside g = true) (i : Nat) : (c.chSelOrder h be data).rd g i = c.rd g i :=
  (Core.rd_wr_ch _ rfl hg hr ..).trans (Core.rd_wr_ch _ rfl hg hp ..)

theorem Core.chSelOrder_manOk (man : Nat) : (c.chSelOrder h be data).manOk h man = c.manOk h man := by
  unfold Core.manOk Core.routed
  rw [Core.chSelOrder_rd rfl rfl rfl]

theorem Core.chSelWrite_eq (hb : be.testBit 0 = true) :
    c.chSelWrite h be data = (c.chSelOrder h be data).chManual h (bits data 4 0) := if_pos hb

/-- A candidate that may be named is. -/
theorem Core.chManual_named {man : Nat} (hh : h < 12) (hm : man < 32) (ho : c.manOk h man = true) :
    (c.chManual h man).1.rd CH_SEL_CFG.manual h = man := by
  have step : (c.chManual h man).1 = (c.wr CH_SEL_CFG.manual man h).manNamed h := congrArg Prod.fst (if_pos ho)
  have told (d : Core) : Core.ChTold showFlds d (d.manNamed h) := .on .refl fun t => t.setChan.chRegs fun _ => id
  rw [step, (told _).regs CH_SEL_CFG.manual rfl (by decide) h hh, Core.rd_wr_same]
  exact Nat.mod_eq_of_lt hm

/-- One that may not is refused. -/
theorem Core.chManual_refused {man : Nat} (ho : c.manOk h man = false) : (c.chManual h man).1 = c.chRefuse h 4 :=
  congrArg Prod.fst (if_neg (by rw [ho]; exact Bool.false_ne_true))

end

/-- A field of one bit. -/
theorem decide_bits_eq_zero (x b : Nat) : decide (bits x b b = 0) = !bitOf x b := by
  have one : bits x b b = x / 2 ^ b % 2 := by
    rw [bits, Nat.add_sub_cancel_left, Nat.shiftRight_eq_div_pow, Nat.pow_one]
  rw [one, bitOf, Nat.testBit_eq_decide_div_mod_eq]
  rcases Nat.mod_two_eq_zero_or_one (x / 2 ^ b) with bit | bit <;>
  · rw [bit]
    rfl

/-- Settles O23: a commit reaches the channel only through its host pool, an abort through its pools, and a write of
CH_SEL_CFG names the candidate after its other fields, which do not say what is routed. -/
theorem channelAdjustments : Obligations.ChannelAdjustments := by
  unfold Obligations.ChannelAdjustments
  refine ⟨?commit, ?abort, ?already, ?named, ?refused⟩
  case commit =>
    intro s h ex data hr hh he hk hs hw
    refine onRunCore_answers hr ?_
    rw [Dev.act_chan, chPstepCommitStep_eq hh hw]
    have chan := Core.chPstepPut_chan he hk hs (s.dev.core.staged ex (CH_PSTEP_LO.amt_lo.addr h 0)) (bits data.toNat 15 0)
      (bits data.toNat 31 31)
    refine ⟨congrArg Chan.hostPool chan, (congrArg Chan.hostStep chan).trans ?_⟩
    exact decide_bits_eq_zero ..
  case abort =>
    intro s h emptied hr hh he hp
    refine onRunCore_answers hr ?_
    rw [Dev.act_chan, Dev.act_rdCh _ _ _ _ rfl, Dev.act_rdCh _ _ _ _ rfl, poolAbortStep_enabled hh he]
    exact Core.poolAbort_aborted hp emptied
  case already =>
    intro s h hr hh he hp hq
    refine onRunCore_answers hr ?_
    rw [Dev.act_rdCh _ _ _ _ rfl, poolAbortStep_enabled hh he]
    exact Core.poolAbort_already hp hq
  case named =>
    intro s h be data hr hh hb ho
    refine onRun_answers hr ?_
    rw [Dev.act_rdCh _ _ _ _ rfl, Dev.poke_chSel hh hb, Core.chSelWrite_eq hb]
    refine Core.chManual_named h.isLt (Nat.mod_lt _ (by decide)) ?_
    rwa [Core.chSelOrder_manOk, Core.heldNote_manOk]
  case refused =>
    intro s h be data hr hh hb ho
    refine onRun_answers hr ?_
    have refused : (((s.dev.core.heldNote (chSelRef h) be.toNat).chSelOrder h be.toNat data.toNat).chManual h
        (bits data.toNat 4 0)).1 = ((s.dev.core.heldNote (chSelRef h) be.toNat).chSelOrder h be.toNat data.toNat).chRefuse h 4 := by
      refine Core.chManual_refused ?_
      rwa [Core.chSelOrder_manOk, Core.heldNote_manOk]
    rw [Dev.act_rdCh _ _ _ _ rfl, Dev.act_rdCh _ _ _ _ rfl, Dev.act_rdCh _ _ _ _ rfl, Dev.poke_chSel hh hb,
      Core.chSelWrite_eq hb, refused]
    refine ⟨?_, Core.chRefuse_refused .., Core.chRefuse_valid ..⟩
    rw [Core.chRefuse_rd _ _ _ rfl (by decide), Core.chSelOrder_rd rfl rfl rfl, Core.heldNote_rd]

end Sys2Proof.Machine
end

section
/-! What the ensemble's estimates leave to an update's decision (R102, R109, R156). -/

namespace Sys2Proof.Machine

open Sys2Proof

/-! ## What the decision reads -/

/-- The registers of the candidates and of the channels. -/
def inLoop (a : Nat) : Prop := 0x100000 ≤ a ∧ a < 0x11c000

/-- What an update decides by reads the same in `d` as in `c`. -/
structure Core.LoopSame (c d : Core) : Prop where
  regs : Core.Alike inLoop c d
  cands : d.cands = c.cands
  inRst : d.inRst = c.inRst
  part : d.part = c.part

/-- What the ensemble's estimates write: Glacier's block and records. -/
def ensBlocks : List Nat := [0x12, 0x102]

namespace Core.LoopSame

variable {c d e : Core}

protected theorem refl : LoopSame c c := ⟨Core.Alike.refl _ c, rfl, rfl, rfl⟩

protected theorem trans (s : LoopSame c d) (t : LoopSame d e) : LoopSame c e :=
  ⟨s.regs.trans t.regs, t.cands.trans s.cands, t.inRst.trans s.inRst, t.part.trans s.part⟩

theorem kept (s : LoopSame c d) (k : Core.Kept ensBlocks d e) : LoopSame c e := by
  refine s.trans ⟨fun g i j ha hl => ?_, k.cands_eq (by decide), k.inRst_eq (by decide), k.part_eq⟩
  unfold inLoop at ha
  refine k.rd_eq hl ?_
  rcases Nat.lt_or_ge (g.addr i j) 0x110000 with low | high
  · exact inBlocks_of_page (p := 0x10) (by omega) (by decide) (by decide)
  · exact inBlocks_of_page (p := 0x11) (by omega) (by decide) (by decide)

theorem setChan {h : Nat} {x : Chan} (s : LoopSame c d) : LoopSame c (d.setChan h x) :=
  ⟨s.regs.trans (Core.Alike.of_regs rfl), s.cands, s.inRst, s.part⟩

/-! ## The fields -/

section

variable (s : LoopSame c d)
include s

theorem rd_ch {f : Fld} (hf : f.ofCh = true) {h : Nat} (hh : h < 12) : d.rd f h = c.rd f h := by
  obtain ⟨inside, lo⟩ := Fld.addr_ofCh hf hh
  exact s.regs f h 0 (by unfold inCh at inside; unfold inLoop; omega) lo

theorem rdB_ch {f : Fld} (hf : f.ofCh = true) {h : Nat} (hh : h < 12) : d.rdB f h = c.rdB f h := by
  unfold Core.rdB
  rw [s.rd_ch hf hh]

theorem rd_ref {f : Fld} (hf : f.ofRef = true) {i : Nat} (hi : i < 24) : d.rd f i = c.rd f i := by
  obtain ⟨low, high, lo⟩ := Fld.addr_of_ofRef hf hi
  exact s.regs f i 0 (by unfold inLoop; omega) lo

theorem cand (i : Nat) : d.cand i = c.cand i := by
  unfold Core.cand
  rw [s.cands]

theorem chState {h : Nat} (hh : h < 12) : d.chState h = c.chState h := s.rd_ch rfl hh

theorem chForced {h : Nat} (hh : h < 12) : d.chForced h = c.chForced h := by
  unfold Core.chForced
  rw [s.rdB_ch rfl hh, s.rdB_ch rfl hh, s.rdB_ch rfl hh]

theorem candState {i : Nat} (hi : i < 24) : d.candState i = c.candState i := s.rd_ref rfl hi

theorem chPrio {h i : Nat} (hh : h < 12) (hi : i < 24) : d.chPrio h i = c.chPrio h i := by
  unfold Core.chPrio
  rw [s.regs CH_PRIO.p h (i / 8) (by simp only [inLoop, Fld.addr, CH_PRIO.p]; omega) (by decide)]

theorem voteKey {i : Nat} (hi : i < 24) : d.voteKey i = c.voteKey i := by
  unfold Core.voteKey
  rw [s.rd_ref rfl hi, s.rd_ref rfl hi, s.rd_ref rfl hi]

theorem bestKey {h i : Nat} (hh : h < 12) (hi : i < 24) : d.bestKey h i = c.bestKey h i := by
  unfold Core.bestKey
  rw [s.candState hi, s.chPrio hh hi, s.voteKey hi]

theorem chUsable {h : Nat} (hh : h < 12) (i : Nat) : d.chUsable h i = c.chUsable h i := by
  unfold Core.chUsable Core.routed Core.usable
  by_cases hi : i < 24
  · rw [s.rd_ch rfl hh, s.chPrio hh hi, s.rd_ref rfl hi]
  · rw [decide_eq_false hi]
    rfl

theorem chUsables {h : Nat} (hh : h < 12) : d.chUsables h = c.chUsables h := by
  unfold Core.chUsables
  exact List.filter_congr fun i _ => s.chUsable hh i

end

end Core.LoopSame

/-! ## The least of a list -/

theorem leastBy_mem {key : Nat → Nat} {l : List Nat} {b : Nat} (h : leastBy key l = some b) : b ∈ l := by
  induction l generalizing b with
  | nil => cases h
  | cons a r ih =>
    simp only [leastBy] at h
    split at h
    · exact Option.some.inj h ▸ List.mem_cons_self ..
    · split at h
      · exact Option.some.inj h ▸ List.mem_cons_of_mem _ (ih ‹_›)
      · exact Option.some.inj h ▸ List.mem_cons_self ..

theorem leastBy_congr {key key' : Nat → Nat} {l : List Nat} (h : ∀ i ∈ l, key i = key' i) : leastBy key l = leastBy key' l := by
  induction l with
  | nil => rfl
  | cons a r ih =>
    have rest : leastBy key r = leastBy key' r := ih fun i hi => h i (List.mem_cons_of_mem _ hi)
    simp only [leastBy, rest, h a (List.mem_cons_self ..)]
    split
    · rfl
    · rw [h _ (List.mem_cons_of_mem _ (leastBy_mem ‹_›))]

theorem Core.lt_of_chUsable {c : Core} {h i : Nat} (hu : c.chUsable h i = true) : i < 24 := by
  simp only [Core.chUsable, Bool.and_eq_true, decide_eq_true_eq] at hu
  obtain ⟨⟨⟨small, _⟩, _⟩, _⟩ := hu
  exact small

theorem Core.lt_of_mem_chUsables {c : Core} {h i : Nat} (hi : i ∈ c.chUsables h) : i < 24 :=
  List.mem_range.1 (List.mem_filter.1 hi).1

/-- R109 names a candidate that there is. -/
theorem Core.lt_of_chFirst {c : Core} {h b : Nat} (hb : c.chFirst h = some b) : b < 24 := by
  unfold Core.chFirst at hb
  dsimp only at hb
  split at hb
  · exact Option.some.inj hb ▸ Core.lt_of_chUsable ‹_›
  · exact Core.lt_of_mem_chUsables (leastBy_mem hb)

theorem Core.LoopSame.chFirst {c d : Core} (s : Core.LoopSame c d) {h : Nat} (hh : h < 12) : d.chFirst h = c.chFirst h := by
  unfold Core.chFirst
  dsimp only
  rw [s.rd_ch rfl hh, s.chUsable hh, s.chUsables hh, leastBy_congr fun i hi => s.bestKey hh (Core.lt_of_mem_chUsables hi)]

/-! ## The estimates (R156, R157) -/

namespace Core.LoopSame

variable {c d : Core} {h : Nat}

theorem ensEstimates (s : LoopSame c d) (hh : h < 12) : LoopSame c (d.ensEstimates h) := by
  refine s.kept (Core.Kept.refl.range fun hm k => ?_)
  exact .ite k ((k.setGlc (by decide)).wrIn (by decide) hh hm rfl)

theorem ensRefresh {fresh : Bool} (s : LoopSame c d) (hh : h < 12) : LoopSame c (d.ensRefresh h fresh).1 := by
  unfold Core.ensRefresh
  extract_lets set mask g oldSet oldW w c1 c2 c3 c4 c5 c6 c7 x c8 c9
  have k3 : Core.Kept ensBlocks d c3 :=
    ((Core.Kept.refl.wrAt (by decide) hh rfl).wrAt (by decide) hh rfl).wrAt (by decide) hh rfl
  have k5 : Core.Kept ensBlocks d c5 := (k3.wrAt (by decide) hh rfl).wrAt (by decide) hh rfl
  have k6 : Core.Kept ensBlocks d c6 := (k5.wrAt (by decide) hh rfl).wrAt (by decide) hh rfl
  have k7 : Core.Kept ensBlocks d c7 := (k6.wrAt (by decide) hh rfl).wrAt (by decide) hh rfl
  have s8 : LoopSame c c8 := (s.kept k7).setChan
  exact s8.kept (.ite .refl ((Core.Kept.refl.setGlc (b := ensBlocks) (by decide)).emit (by decide)))

/-- Outside ENSEMBLE an update's estimates leave all that it then decides by (R102). -/
theorem ensUpdate {check fresh : Bool} (hh : h < 12) (he : c.chState h ≠ chEnsemble) : LoopSame c (c.ensUpdate h check fresh) := by
  have same : LoopSame c ((c.ensEstimates h).ensRefresh h fresh).1 := (LoopSame.refl.ensEstimates hh).ensRefresh hh
  have step : c.ensUpdate h check fresh = ((c.ensEstimates h).ensRefresh h fresh).1 :=
    if_pos (by rwa [same.chState hh])
  rwa [step]

end Core.LoopSame

end Sys2Proof.Machine
end

section
/-! What an update of a channel decides, and what follows in it (R96, R100 to R103). -/

namespace Sys2Proof.Machine

open Sys2Proof

/-! ## After the decision (R100, R117, R141) -/

/-- All that an update in which the state changed still writes of the channels' registers. -/
def afterFlds : List Fld := CH_EVENT.slew_done :: showFlds

namespace Core.ChTold

variable {F : List Fld} {c d : Core} {h : Nat}

theorem setSyn {n : Nat} {x : Syn} (t : ChTold F c d) : ChTold F c (d.setSyn n x) := t.hidden

theorem linkVal {link prod : Nat} (t : ChTold F c d) : ChTold F c (d.linkVal link prod).1 := by
  unfold Core.linkVal
  extract_lets info
  split
  · exact t.injFire
  · split
    · exact t.hidden
    · exact t

theorem dtShiftRest (t : ChTold F c d) : ChTold F c d.dtShiftRest := by
  have psi {e : Core} {s : Int} (t : ChTold F c e) : ChTold F c (e.psiShift s) := t.each fun _ t => ite t t.setChan
  have est {e : Core} {x : Rat} (t : ChTold F c e) : ChTold F c (e.estShift x) :=
    t.kept (Core.Kept.refl.estShift (b := [0x10]) (by decide)) (by decide) (by decide)
  have members {e : Core} {s : Int} (t : ChTold F c e) : ChTold F c (e.memberShift s) := t.each fun _ t => t.setGlc
  have shifted {ps es : Int} : ChTold F c (d.dtShift ps es) := (t.on fun t => psi t).on fun t => members (est t)
  exact (shifted (ps := d.shiftLeft.1) (es := d.shiftLeft.2)).hidden

theorem steerMaster {s stepped : Int} (t : ChTold F c d) : ChTold F c (d.steerMaster h s stepped) := by
  unfold Core.steerMaster
  extract_lets c1 c2 c3
  have h1 : ChTold F c c1 := t.dtShiftRest
  have h2 : ChTold F c c2 := h1.hidden
  have h3 : ChTold F c c3 := h2.hidden
  exact ite h1.hidden (ite h2 (h3.on fun t => t.hidden))

theorem synSlice {n : Nat} {s : Int} (t : ChTold F c d) : ChTold F c (d.synSlice n s) := by
  unfold Core.synSlice Core.synPend Core.synLose
  exact ite ((t.setSyn.wrBehind rfl).wrBehind rfl) (ite t ((t.wrBehind rfl).wrBehind rfl))

theorem steerSyns {f s : Int} (t : ChTold F c d) : ChTold F c (d.steerSyns h f s) := t.each fun _ t => t.setSyn.synSlice

theorem chDeliver {j : Int} (t : ChTold F c d) (hF : ∀ f ∈ afterFlds, f ∈ F) : ChTold F c (d.chDeliver h j) := by
  unfold Core.chDeliver
  extract_lets x before dr s y nu psi gone c1 v c2 c3
  have h1 : ChTold F c c1 := t.setChan
  have hv : ChTold F c v.1 := h1.linkVal
  have h2 : ChTold F c c2 := ite hv (ite hv.steerMaster hv.steerSyns)
  have h3 : ChTold F c c3 := h2.chRegs fun f hf => hF f (List.mem_cons_of_mem _ hf)
  exact ite ((h3.wr (hF CH_EVENT.slew_done (by decide)) rfl).chEvent) h3

end Core.ChTold

/-- The rest of an update in which the state changed. -/
def Core.chAfter (c : Core) (h : Nat) (jam : Int) : Core :=
  let st := c.chState h
  let c := c.on (st = chEnsemble) fun c => c.setChan h { c.chan h with manNew := false }
  let c := c.on (chRunning st && c.injArmed 14 h) fun c => c.injFire 14 h h
  let c := (c.chDeliver h (if (c.chan h).jam = 0 then 0 else jam)).chSample h
  c.setChan h { c.chan h with released := c.chForced h }

theorem Core.chAfter_told (c : Core) (h : Nat) (jam : Int) : Core.ChTold afterFlds c (c.chAfter h jam) := by
  unfold Core.chAfter
  extract_lets st c1 c2 c3
  have h1 : Core.ChTold afterFlds c c1 := Core.ChTold.refl.on fun t => t.setChan
  have h2 : Core.ChTold afterFlds c c2 := h1.on fun t => t.injFire
  have h3 : Core.ChTold afterFlds c c3 := (h2.chDeliver fun _ => id).setGlc
  exact h3.setChan

/-- An update of a channel in a state of the loop, in which the decision changes that. -/
theorem loopUpdateStep_moves {c e : Core} {h : Fin 12} (s : c.ChSteers h) (he : (c.ensUpdate h true).chTransit h = (e, true))
    (hd : e.chState h ≠ chDisabled) (hr : e.chState h ≠ chRotor) :
    loopUpdateStep h c = e.chAfter h (c.chan h).jam := by
  unfold loopUpdateStep
  dsimp only
  rw [if_neg (Nat.not_le.mpr s.here), if_neg s.steers, if_neg s.started, he, if_neg (by simp [hd, hr])]
  rfl

/-! ## The decision (R102, R103, R106) -/

section

variable {c : Core} {h : Nat}

/-- Nothing asks for another state of an unforced channel. -/
theorem Core.ChSteers.unforced (s : c.ChSteers h) (hf : c.chForced h = false) : c.chEval h = c := by
  simp only [Core.chForced, Bool.or_eq_false_iff] at hf
  obtain ⟨⟨fr, ho⟩, hold⟩ := hf
  exact s.eval_same fr (.inl (by rw [ho, hold]; rfl))

/-- A running channel without a usable candidate holds over, or else runs free. -/
theorem Core.ChSteers.transit_lack (s : c.ChSteers h) (hf : c.chForced h = false)
    (hs : c.chState h = chAcquiring ∨ c.chState h = chLocked) (hu : c.chUsables h = []) :
    c.chTransit h = (if c.rdB CH_STAT.ho_valid h then c.chGoto h chHoldover hcNoCandidate 31
      else c.chGoto h chFreerun hcNoCandidate 31, true) := by
  have running : chRunning (c.chState h) = true ∧ c.chState h ≠ chEnsemble := by
    rcases hs with hs | hs <;> rw [hs] <;> decide
  obtain ⟨running, alone⟩ := running
  unfold Core.chTransit
  dsimp only
  rw [s.unforced hf, if_neg (· rfl), if_neg alone, running, hu]
  rfl

/-- A channel in FREERUN or HOLDOVER acquires the candidate that R109 names, once its phase belongs to its epoch. -/
theorem Core.ChSteers.transit_acquires {b : Nat} (s : c.ChSteers h) (hf : c.chForced h = false)
    (hs : c.chState h = chFreerun ∨ c.chState h = chHoldover) (hb : c.chFirst h = some b) (hr : (c.cand b).restart = false) :
    ∃ d cause x, c.chTransit h = (Core.chGoto d h chAcquiring cause b x, true) := by
  obtain ⟨d, cause, x, acquires⟩ : ∃ d cause x, c.chAcquire h b = Core.chGoto d h chAcquiring cause b x := by
    unfold Core.chAcquire
    rw [hr, if_neg Bool.false_ne_true]
    exact ⟨_, _, _, rfl⟩
  have still : ¬ chRunning (c.chState h) = true ∧ (c.chState h = chFreerun || c.chState h = chHoldover) = true ∧
      chAcquiring ≠ c.chState h := by
    rcases hs with hs | hs <;> rw [hs] <;> decide
  obtain ⟨still, waits, other⟩ := still
  refine ⟨d, cause, x, ?_⟩
  unfold Core.chTransit
  dsimp only
  rw [s.unforced hf, if_neg (· rfl), if_neg (by simp [still]), if_pos (by rw [waits, hf]; rfl), hb]
  dsimp only
  rw [acquires, Core.chGoto_state s.lt (by decide), decide_eq_true other]

end

/-! ## The whole update -/

section

variable {c : Core} {h : Fin 12}

/-- The ensemble's estimates come before the decision, and leave the channel in its state. -/
theorem Core.ChSteers.estimated (s : c.ChSteers h) (hs : c.chState h ≠ chEnsemble) :
    Core.LoopSame c (c.ensUpdate h true) ∧ (c.ensUpdate h true).ChSteers h := by
  have same : Core.LoopSame c (c.ensUpdate h true) := .ensUpdate s.lt hs
  exact ⟨same, s.of_same same.part same.inRst (same.rd_ch rfl s.lt) (same.chState s.lt)⟩

theorem Core.ChSteers.update_acquires {b : Nat} (s : c.ChSteers h) (hf : c.chForced h = false)
    (hs : c.chState h = chFreerun ∨ c.chState h = chHoldover) (hb : c.chFirst h = some b) (hr : (c.cand b).restart = false) :
    (loopUpdateStep h c).chState h = chAcquiring ∧ (loopUpdateStep h c).rd CH_STAT.active h = b := by
  have alone : c.chState h ≠ chEnsemble := by
    rcases hs with hs | hs <;> rw [hs] <;> decide
  obtain ⟨same, steers⟩ := s.estimated alone
  obtain ⟨d, cause, x, decision⟩ := steers.transit_acquires (by rwa [same.chForced s.lt]) (by rwa [same.chState s.lt])
    (by rwa [same.chFirst s.lt]) (by rwa [same.cand])
  have state : (d.chGoto h chAcquiring cause b x).chState h = chAcquiring := Core.chGoto_state s.lt (by decide)
  have told := (d.chGoto h chAcquiring cause b x).chAfter_told h (c.chan h).jam
  rw [loopUpdateStep_moves s decision (by rw [state]; decide) (by rw [state]; decide)]
  exact ⟨(told.regs CH_STAT.state rfl (by decide) h s.lt).trans state, (told.regs CH_STAT.active rfl (by decide) h s.lt).trans
    (Core.chGoto_active s.lt (Nat.lt_trans (Core.lt_of_chFirst hb) (by decide)))⟩

theorem Core.ChSteers.update_lack (s : c.ChSteers h) (hf : c.chForced h = false)
    (hs : c.chState h = chAcquiring ∨ c.chState h = chLocked) (hu : c.chUsables h = []) :
    ∃ e : Core, e.part = c.part ∧ (c.ensUpdate h true).chTransit h =
      (if c.rdB CH_STAT.ho_valid h then e.chGoto h chHoldover hcNoCandidate 31 else e.chGoto h chFreerun hcNoCandidate 31, true) := by
  have alone : c.chState h ≠ chEnsemble := by
    rcases hs with hs | hs <;> rw [hs] <;> decide
  obtain ⟨same, steers⟩ := s.estimated alone
  refine ⟨c.ensUpdate h true, same.part, ?_⟩
  rw [steers.transit_lack (by rwa [same.chForced s.lt]) (by rwa [same.chState s.lt]) (by rwa [same.chUsables s.lt]),
    same.rdB_ch rfl s.lt]

theorem Core.ChSteers.update_holdover (s : c.ChSteers h) (hf : c.chForced h = false)
    (hs : c.chState h = chAcquiring ∨ c.chState h = chLocked) (hu : c.chUsables h = []) (hv : c.rd CH_STAT.ho_valid h = 1) :
    (loopUpdateStep h c).chState h = chHoldover := by
  obtain ⟨e, _, decision⟩ := s.update_lack hf hs hu
  rw [Core.rdB_of_one hv, if_pos rfl] at decision
  have state : (e.chGoto h chHoldover hcNoCandidate 31).chState h = chHoldover := Core.chGoto_state s.lt (by decide)
  have told := (e.chGoto h chHoldover hcNoCandidate 31).chAfter_told h (c.chan h).jam
  rw [loopUpdateStep_moves s decision (by rw [state]; decide) (by rw [state]; decide)]
  exact (told.regs CH_STAT.state rfl (by decide) h s.lt).trans state

theorem Core.ChSteers.update_freerun (s : c.ChSteers h) (hf : c.chForced h = false)
    (hs : c.chState h = chAcquiring ∨ c.chState h = chLocked) (hu : c.chUsables h = []) (hv : c.rd CH_STAT.ho_valid h = 0) :
    (loopUpdateStep h c).chState h = chFreerun ∧ bitOf ((loopUpdateStep h c).rd FLT_RAW.hit 0 0) 13 = true := by
  obtain ⟨e, part, decision⟩ := s.update_lack hf hs hu
  rw [Core.rdB_of_zero hv, if_neg Bool.false_ne_true] at decision
  have state : (e.chGoto h chFreerun hcNoCandidate 31).chState h = chFreerun := Core.chGoto_state s.lt (by decide)
  have told := (e.chGoto h chFreerun hcNoCandidate 31).chAfter_told h (c.chan h).jam
  rw [loopUpdateStep_moves s decision (by rw [state]; decide) (by rw [state]; decide)]
  exact ⟨(told.regs CH_STAT.state rfl (by decide) h s.lt).trans state,
    told.raw 0 (by decide) 13 (by decide) (Core.chGoto_raw13 (part.symm ▸ s.here))⟩

end

/-- Settles O24: the ensemble's estimates, which come first, leave all that an update decides by; the decision is one change of
state, and the rest of the update leaves the state and the active candidate, and clears no raw bit. -/
theorem loopTransitions : Obligations.LoopTransitions := by
  unfold Obligations.LoopTransitions
  refine ⟨?acquires, ?holdover, ?freerun⟩
  case acquires =>
    intro s h b hr hh he hrst hf hs hb hc
    have state : s.dev.core.chState h ∈ [chFreerun, chAcquiring, chLocked, chHoldover, chEnsemble] := by
      rcases hs with hs | hs <;> rw [hs] <;> decide
    have steers : s.dev.core.ChSteers h := .of_state hh hrst he state
    refine onRunCore_answers hr ?_
    unfold Core.chState
    rw [Dev.act_rdCh _ _ _ _ rfl, Dev.act_rdCh _ _ _ _ rfl]
    exact steers.update_acquires hf hs hb hc
  case holdover =>
    intro s h hr hh he hrst hf hs hu hv
    have running : chRunning (s.dev.core.chState h) = true := by
      rcases hs with hs | hs <;> rw [hs] <;> decide
    have steers : s.dev.core.ChSteers h := .of_running hh hrst he running
    refine onRunCore_answers hr ?_
    unfold Core.chState
    rw [Dev.act_rdCh _ _ _ _ rfl]
    exact steers.update_holdover hf hs hu hv
  case freerun =>
    intro s h hr hh he hrst hf hs hu hv
    have running : chRunning (s.dev.core.chState h) = true := by
      rcases hs with hs | hs <;> rw [hs] <;> decide
    have steers : s.dev.core.ChSteers h := .of_running hh hrst he running
    refine onRunCore_answers hr ?_
    unfold Core.chState
    rw [Dev.act_rdCh _ _ _ _ rfl, Dev.act_rd_key _ _ _ _ _ (by decide)]
    exact steers.update_freerun hf hs hu hv

end Sys2Proof.Machine
end

section
/-! What the evaluation of a channel's enable and forces touches (R102, R103, R168): a property that each of its single updates
preserves, it preserves. -/

namespace Sys2Proof.Machine

open Sys2Proof

/-- A field that the evaluation of a channel may write: the channel's, its rotor's, or its count of seconds in HOLDOVER. -/
def Fld.ofEval (f : Fld) : Bool := f.ofCh || f.ofRot || f = GLC_HO_SEC.sec

/-- Every single update that the evaluation of channel `h` makes preserves `R`. -/
structure EvalInv (h : Nat) (R : Core → Prop) : Prop where
  wr : ∀ {c f v}, f.ofEval = true → R c → R (c.wr f v h)
  hit : ∀ {c d}, Core.Hit c d → R c → R d
  emit : ∀ {c rt u a l}, R c → R (c.emit rt u a l)
  store : ∀ {c}, R c → R (c.glcStore h)
  dtSource : ∀ {c}, R c → R c.dtSource
  setChan : ∀ {c x}, R c → R (c.setChan h x)
  setRot : ∀ {c x}, R c → R (c.setRot h x)
  unsteady : ∀ {c}, R c → R (c.setGlc h (c.glc h).unsteady)
  unsettle : ∀ {c}, R c → R (c.glcUnsettle h)
  still : ∀ {c}, R c → R c.masterStill
  locked : ∀ {c}, R c → R { c with dtLocked := true }

namespace EvalInv

variable {h : Nat} {R : Core → Prop} {d e : Core}

theorem ite (_ : EvalInv h R) {p : Prop} [Decidable p] (k : R d) (l : R e) : R (if p then d else e) := by
  split <;> assumption

theorem on (I : EvalInv h R) {t : Bool} {f : Core → Core} (hf : ∀ {e}, R e → R (f e)) (k : R d) : R (d.on t f) :=
  I.ite (hf k) k

theorem raise (I : EvalInv h R) {fs u : Nat} (k : R d) : R (d.raise fs u) := I.hit (d.raise_hit fs u) k

/-! ## A rotor's change of state (R167 to R180) -/

theorem rotDir (I : EvalInv h R) (k : R d) : R (d.rotDir h) := I.setRot (I.wr rfl (I.wr rfl k))

theorem rotRegs (I : EvalInv h R) (k : R d) : R (d.rotRegs h) :=
  I.wr rfl (I.wr rfl (I.wr rfl (I.wr rfl (I.wr rfl k))))

theorem rotReset (I : EvalInv h R) (k : R d) : R (d.rotReset h) := by
  unfold Core.rotReset
  extract_lets c1 c2 c3 c4 c5 c6 c7 c8 c9 x
  have h5 : R c5 := I.wr rfl (I.wr rfl (I.wr rfl (I.wr rfl (I.rotDir k))))
  have h9 : R c9 := I.wr rfl (I.wr rfl (I.wr rfl (I.wr rfl h5)))
  exact I.rotRegs (I.setRot h9)

theorem rotFly (I : EvalInv h R) {t : Nat} (k : R d) : R (d.rotFly h t) :=
  I.ite k (I.rotRegs (I.wr rfl (I.wr rfl (I.setRot k))))

theorem rotRejoin (I : EvalInv h R) {t : Nat} (k : R d) : R (d.rotRejoin h t) := by
  unfold Core.rotRejoin
  extract_lets x n g c1 a u z y c2
  have h1 : R c1 := I.setRot (I.wr rfl k)
  exact I.ite (I.setRot k) (I.rotRegs (I.ite (I.wr rfl (I.setRot h1)) (I.setRot h1)))

theorem rotCross (I : EvalInv h R) {t : Int} {v a e l g : Rat} {co : Bool} (k : R d) : R (d.rotCross h t v a e l g co) :=
  I.on (I.wr rfl) (I.setRot (I.emit (I.wr rfl k)))

theorem rotCrossings (I : EvalInv h R) {t n : Nat} {p a w al e g : Rat} {left : Rat → Rat} (k : R d) :
    R (d.rotCrossings h t p a w al e g left n) := by
  induction n generalizing d with
  | zero => exact k
  | succ n ih => exact I.ite k (ih (I.rotCross k))

theorem rotTests (I : EvalInv h R) (k : R d) : R (d.rotTests h) :=
  I.on (fun k => I.raise (I.wr rfl k)) (I.on (fun k => I.raise (I.wr rfl k)) (I.setRot (I.wr rfl (I.wr rfl k))))

theorem rotGoto (I : EvalInv h R) {t new cause : Nat} (k : R d) : R (d.rotGoto h t new cause) := by
  unfold Core.rotGoto
  extract_lets old c1 c2 c3 c4 x c5 c6 c7 c8 c9
  have h1 : R c1 := I.wr rfl k
  have h3 : R c3 := I.wr rfl (I.on I.rotCrossings h1)
  have h4 : R c4 := I.ite h3 (I.wr rfl (I.rotFly h3))
  have h5 : R c5 := I.ite (I.rotReset h3) (I.ite (I.on (I.wr rfl) (I.rotReset h3)) (I.ite (I.setRot h4)
    (I.ite (I.rotFly h3) (I.rotTests (I.rotRejoin h3)))))
  have h7 : R c7 := I.on (I.wr rfl) (I.on (I.wr rfl) h5)
  have h9 : R c9 := I.on I.raise (I.on (fun k => I.raise (I.wr rfl k)) h7)
  exact I.ite h1 (I.emit (I.wr rfl h9))

theorem rotEval (I : EvalInv h R) (k : R d) : R (d.rotEval h) := by
  unfold Core.rotEval
  extract_lets st t c1
  have h1 : R c1 := I.wr rfl k
  have goes {new cause : Nat} : R (c1.rotGoto h t new cause) := I.rotGoto h1
  exact I.ite (I.rotDir (I.rotGoto k)) (I.ite (I.rotDir (I.rotGoto k)) (I.ite (I.rotGoto k) (I.ite (I.rotDir k)
    (I.ite goes (I.ite goes (I.ite goes (I.ite goes h1)))))))

/-! ## A channel's change of state (R101 to R106) -/

theorem chRegs (I : EvalInv h R) (k : R d) : R (d.chRegs h) := by
  unfold Core.chRegs
  extract_lets x st c1 c2 pool c3
  have h2 : R c2 := I.wr rfl (I.wr rfl (I.wr rfl k))
  have h3 : R c3 := I.wr rfl (I.wr rfl h2)
  exact I.wr rfl (I.wr rfl h3)

theorem loopStill (I : EvalInv h R) (k : R d) : R (d.loopStill h) :=
  I.ite (I.still (I.wr rfl (I.wr rfl k))) (I.wr rfl (I.wr rfl k))

theorem loopLocked (I : EvalInv h R) {old : Nat} (k : R d) : R (d.loopLocked h old) := by
  unfold Core.loopLocked
  extract_lets c1
  have h1 : R c1 := I.ite (I.setChan (I.unsettle k)) (I.unsettle k)
  exact I.ite (I.locked h1) h1

theorem chEnter (I : EvalInv h R) {new old : Nat} (k : R d) : R (d.chEnter h new old) := by
  unfold Core.chEnter
  extract_lets c1 c2
  have h1 : R c1 := I.ite k (I.unsteady k)
  have h2 : R c2 := I.ite (I.loopStill (I.setChan h1)) (I.ite (I.loopStill (I.setChan h1))
    (I.ite (I.store (I.wr rfl (I.wr rfl (I.setChan h1)))) (I.ite (I.setChan h1) (I.ite (I.loopLocked h1) h1))))
  exact I.dtSource (I.chRegs h2)

theorem chMark (I : EvalInv h R) {new cause : Nat} (k : R d) : R (d.chMark h new cause) :=
  I.on (I.wr rfl) (I.on (I.wr rfl) (I.on (I.wr rfl) (I.on (I.wr rfl) k)))

theorem chTell (I : EvalInv h R) {new cause old prev : Nat} {x : Int} (k : R d) : R (d.chTell h new cause old prev x) :=
  I.on I.raise (I.on I.raise (I.on I.raise (I.emit k)))

theorem chGoto (I : EvalInv h R) {new cause act : Nat} {x : Int} (k : R d) : R (d.chGoto h new cause act x) := by
  rw [Core.chGoto_eq]
  exact I.chTell (I.chMark (I.chEnter (I.wr rfl (I.wr rfl k))))

/-! ## The evaluation -/

theorem chEval (I : EvalInv h R) (k : R d) : R (d.chEval h) := by
  unfold Core.chEval
  extract_lets st force
  have goes {new cause : Nat} : R (d.chGoto h new cause 31) := I.chGoto k
  exact I.ite k (I.ite (I.rotEval (I.ite k goes)) (I.ite (I.ite k (I.ite (I.rotEval goes) goes))
    (I.ite (I.rotEval k) (I.ite (I.ite k goes) (I.ite goes k)))))

theorem hoChanged (I : EvalInv h R) (k : R d) : R (d.hoChanged h) := I.ite k (I.chEval k)

end EvalInv

end Sys2Proof.Machine
end

section
/-! The registers of the Glacier's models, and what an operation leaves of a model (R141 to R148, R163). -/

namespace Sys2Proof.Machine

open Sys2Proof

/-! ## Fields of the models' registers -/

/-- A field of the models' registers but the words of the coefficients (R163). -/
def Fld.ofGlc (f : Fld) : Bool := f.inBank 0x120000 0x100 && (f.off < 0x20 || 0x58 ≤ f.off)

/-- The models' block of registers. -/
def inGlc (a : Nat) : Prop := 0x120000 ≤ a ∧ a < 0x120c00

theorem Fld.inBank_of_ofGlc {f : Fld} (hf : f.ofGlc = true) : f.inBank 0x120000 0x100 = true :=
  (Bool.and_eq_true_iff.mp hf).1

theorem Fld.addr_ofGlc {f : Fld} (hf : f.ofGlc = true) {h : Nat} (hh : h < 12) : inGlc (f.addr h 0) ∧ f.lo < 32 := by
  obtain ⟨fb, fs, fo, fl⟩ := Fld.inBank_iff.mp (Fld.inBank_of_ofGlc hf)
  simp only [inGlc, Fld.addr, fb, fs]
  omega

/-- A write of another field of the models. -/
theorem Core.rd_wr_glc (c : Core) {f g : Fld} (hf : f.ofGlc = true) (hg : g.ofGlc = true) (h : f.beside g = true) (v i j : Nat) :
    (c.wr f v j).rd g i = c.rd g i := by
  refine Core.rd_wr_bank c 0x120000 0x100 v i j (Fld.inBank_of_ofGlc hf) (Fld.inBank_of_ofGlc hg) ?_
  simp only [Fld.beside, Bool.or_eq_true, decide_eq_true_eq] at h
  exact h.imp Ne.symm Ne.symm

/-- The models' registers read after a command what the operation left in them. -/
theorem Dev.act_rdGlc (f : Dev → Dev) (d : Dev) (g : Fld) (h : Fin 12) (hg : g.ofGlc = true) :
    (d.act f).core.rd g h = (f d).core.rd g h := by
  obtain ⟨inside, lo⟩ := Fld.addr_ofGlc hg h.isLt
  refine Dev.act_rd _ _ _ _ _ lo ?_
  simp only [inGlc, inSettle, Fld.addr, GLC_STORE_STAT.dirty, MTL_STAT.store_deferred, STG_STAT.store_busy] at inside ⊢
  omega

/-- The model's registers are those of a channel that the variant has (R1). -/
theorem Core.atReg_glc {c : Core} {f : Fld} {ex h : Nat} {g : Core → Core} (hf : f.ofGlc = true) (hh : h < c.part.nCh) :
    c.atReg ex (f.addr h 0) g = g c := by
  obtain ⟨fb, fs, fo, fl⟩ := Fld.inBank_iff.mp (Fld.inBank_of_ofGlc hf)
  have most := c.part.nCh_le
  have addr : f.addr h 0 = 0x120000 + h * 0x100 + f.off := by
    unfold Fld.addr
    rw [fb, fs, Nat.zero_mul, Nat.add_zero]
  have inst : (f.addr h 0 - 0x120000) / 0x100 = h := by omega
  have here : c.part.absentAt (f.addr h 0) = false := by
    unfold Part.absentAt
    extract_lets u
    rw [if_neg (by rw [Bool.and_eq_true, decide_eq_true_eq, decide_eq_true_eq]; omega),
      if_neg (by rw [Bool.and_eq_true, decide_eq_true_eq, decide_eq_true_eq]; omega),
      if_pos (by rw [Bool.and_eq_true, decide_eq_true_eq, decide_eq_true_eq]; omega)]
    unfold u
    rw [inst, decide_eq_false (Nat.not_le.mpr hh)]
  unfold Core.atReg
  rw [here]
  rfl

/-! ## The relation -/

/-- From `c` to `d` no register of the models is written but the fields `F` of model `h` and the coefficients, no model's
completed second is judged, and the oscillator's age has its base. -/
structure Core.GlcTold (F : List Fld) (h : Nat) (c d : Core) : Prop where
  regs : ∀ g : Fld, g.ofGlc = true → ∀ j < 12, (j = h → ∀ f ∈ F, f.beside g = true) → d.rd g j = c.rd g j
  done : ∀ j, (d.glc j).done = (c.glc j).done
  day : d.secInDay = c.secInDay
  age : d.ageBase = c.ageBase

namespace Core.GlcTold

variable {F : List Fld} {h : Nat} {c d e : Core}

protected theorem refl : GlcTold F h c c := ⟨fun _ _ _ _ _ => rfl, fun _ => rfl, rfl, rfl⟩

protected theorem trans (s : GlcTold F h c d) (t : GlcTold F h d e) : GlcTold F h c e where
  regs := fun g hg j hj hF => (t.regs g hg j hj hF).trans (s.regs g hg j hj hF)
  done := fun j => (t.done j).trans (s.done j)
  day := t.day.trans s.day
  age := t.age.trans s.age

/-- Another field of the model. -/
theorem rd (t : GlcTold F h c d) (hh : h < 12) {g : Fld} (hg : g.ofGlc = true) (hF : ∀ f ∈ F, f.beside g = true) :
    d.rd g h = c.rd g h := t.regs g hg h hh fun _ => hF

/-- Any field of another model. -/
theorem rd_other (t : GlcTold F h c d) {g : Fld} (hg : g.ofGlc = true) {j : Nat} (hj : j < 12) (hne : j ≠ h) :
    d.rd g j = c.rd g j := t.regs g hg j hj fun same => absurd same hne

/-- A write of one of the fields. -/
theorem wr {f : Fld} {v : Nat} (t : GlcTold F h c d) (hf : f ∈ F) (hg : f.ofGlc = true) : GlcTold F h c (d.wr f v h) := by
  refine t.trans ⟨fun g hg' j _ hF => ?_, fun _ => rfl, rfl, rfl⟩
  by_cases hj : j = h
  · exact d.rd_wr_glc hg hg' (hF hj f hf) v j h
  · exact d.rd_wr_unit 0x120000 0x100 v (Fld.inBank_of_ofGlc hg) (Fld.inBank_of_ofGlc hg') hj

/-- A write elsewhere. -/
theorem wrAt {f : Fld} {v i k : Nat} (t : GlcTold F h c d) (hl : f.lo < 32) (ha : ¬ inGlc (f.addr i k)) :
    GlcTold F h c (d.wr f v i k) := by
  refine t.trans ⟨fun g hg j hj _ => ?_, fun _ => rfl, rfl, rfl⟩
  obtain ⟨inside, lo⟩ := Fld.addr_ofGlc hg hj
  exact Core.rd_wr_addr _ _ _ _ _ _ _ _ hl lo fun same => ha (same ▸ inside)

/-- A write of the only word of a register that is none of theirs. -/
theorem wrOne {f : Fld} {v : Nat} (t : GlcTold F h c d) (hf : (f.lo < 32 && f.addr 0 0 / 0x10000 ≠ 0x12) = true ∨
    (f.lo < 32 && 0x120c00 ≤ f.addr 0 0) = true) : GlcTold F h c (d.wr f v) := by
  simp only [Bool.and_eq_true, decide_eq_true_eq, ne_eq] at hf
  refine hf.elim (fun hf => t.wrAt hf.1 ?_) fun hf => t.wrAt hf.1 ?_ <;>
  · unfold inGlc
    omega

/-- A write of a word of a coefficient. -/
theorem wrCoef {f : Fld} {v k : Nat} (t : GlcTold F h c d) (hb : f.base = 0x120000 ∧ f.stride = 0x100 ∧ f.step = 8 ∧ f.lo < 32)
    (ho : 0x20 ≤ f.off ∧ f.off < 0x28) (hk : k < 7) : GlcTold F h c (d.wr f v h k) := by
  refine t.trans ⟨fun g hg j _ _ => ?_, fun _ => rfl, rfl, rfl⟩
  obtain ⟨fb, fs, ft, fl⟩ := hb
  simp only [Fld.ofGlc, Bool.and_eq_true, Bool.or_eq_true, decide_eq_true_eq, Fld.inBank_iff] at hg
  obtain ⟨⟨gb, gs, go, gl⟩, apart⟩ := hg
  refine Core.rd_wr_addr _ _ _ _ _ _ _ _ fl gl ?_
  simp only [Fld.addr, fb, fs, ft, gb, gs]
  omega

/-- An update of hidden state that is neither the models' nor the age's. -/
theorem hidden (t : GlcTold F h c d) (hr : e.regs = d.regs := by rfl) (hg : e.glcs = d.glcs := by rfl)
    (hd : e.secInDay = d.secInDay := by rfl) (ha : e.ageBase = d.ageBase := by rfl) : GlcTold F h c e := by
  refine t.trans ⟨fun g _ j _ _ => ?_, fun j => ?_, hd, ha⟩
  · unfold Core.rd
    rw [hr]
  · unfold Core.glc
    rw [hg]

/-- An update of a model's hidden state that keeps its completed second. -/
theorem setGlc {i : Nat} {x : Glc} (t : GlcTold F h c d) (hx : x.done = (d.glc i).done := by rfl) :
    GlcTold F h c (d.setGlc i x) := by
  refine t.trans ⟨fun _ _ _ _ _ => rfl, fun j => ?_, rfl, rfl⟩
  rw [Core.glc_setGlc]
  split
  · next same => rw [hx, same]
  · rfl

theorem ite {p : Prop} [Decidable p] (s : GlcTold F h c d) (t : GlcTold F h c e) : GlcTold F h c (if p then d else e) := by
  split <;> assumption

theorem on {b : Bool} {f : Core → Core} (t : GlcTold F h c d) (hf : ∀ {e}, GlcTold F h c e → GlcTold F h c (f e)) :
    GlcTold F h c (d.on b f) := ite (hf t) t

/-! ### Faults, records and stores -/

theorem hit (t : GlcTold F h c d) (k : Core.Hit d e) : GlcTold F h c e := by
  have glcs := congrArg Core.glcs k.2
  have day := congrArg Core.secInDay k.2
  have age := congrArg Core.ageBase k.2
  refine t.trans ⟨fun g hg j hj _ => ?_, fun j => ?_, day, age⟩
  · obtain ⟨inside, lo⟩ := Fld.addr_ofGlc hg hj
    exact k.1 g j 0 (by unfold inGlc at inside; unfold inFlt; omega) lo
  · exact congrArg (fun m : AMap Glc => (m.get {} j).done) glcs

theorem raise {fs u : Nat} (t : GlcTold F h c d) : GlcTold F h c (d.raise fs u) := t.hit (d.raise_hit fs u)

theorem emit {rt u a : Nat} {l : List Nat} (t : GlcTold F h c d) : GlcTold F h c (d.emit rt u a l) := by
  have dropped (v : Nat) : GlcTold F h c (d.wr STG_FAB_DROP.dropped v) := t.wrOne (.inl rfl)
  have dead (v : Nat) : GlcTold F h c (d.wr TIM_DEAD_CNT.count v) := t.wrOne (.inl rfl)
  unfold Core.emit
  split
  · exact t
  · refine ite t.hidden ?_
    unfold Core.holdItem
    exact ite (ite (dropped _) t.hidden) (ite (ite (dead _) t.hidden) (ite t.hidden (ite (dropped _) (ite (dropped _) t.hidden))))

theorem glcWrote (t : GlcTold F h c d) : GlcTold F h c d.glcWrote := by
  unfold Core.glcWrote
  extract_lets p c1
  have h1 : GlcTold F h c c1 := wrOne (t.on fun t => t.wrOne (.inr rfl)) (.inr rfl)
  exact ite h1.hidden h1

theorem glcStore {i : Nat} (t : GlcTold F h c d) : GlcTold F h c (d.glcStore i) :=
  glcWrote (t.hidden : GlcTold F h c (d.frontWrite (d.glcRecAddr i) (d.glcRecord i)))

theorem ageStore (t : GlcTold F h c d) : GlcTold F h c d.ageStore :=
  glcWrote (t.hidden : GlcTold F h c (d.frontWrite _ _))

theorem ageRegs (t : GlcTold F h c d) : GlcTold F h c d.ageRegs := (t.wrOne (.inr rfl)).wrOne (.inr rfl)

/-! ### The channel's evaluation -/

theorem dtSource (t : GlcTold F h c d) : GlcTold F h c d.dtSource :=
  ite t ((t.wrOne (.inl rfl)).on fun t => Core.each_keeps (fun _ _ _ t => t.setGlc) t)

/-- The evaluation of the model's own channel writes of the models' registers GLC_HO_SEC alone. -/
theorem evalInv (hh : h < 12) (hF : GLC_HO_SEC.sec ∈ F) : EvalInv h (GlcTold F h c) where
  wr := fun {d f v} hf t => by
    simp only [Fld.ofEval, Bool.or_eq_true, decide_eq_true_eq] at hf
    rcases hf with (channel | rotor) | rfl
    · obtain ⟨inside, lo⟩ := Fld.addr_ofCh channel hh
      exact t.wrAt lo (by unfold inCh at inside; unfold inGlc; omega)
    · obtain ⟨inside, lo⟩ := Fld.ofRot_addr rotor hh
      exact t.wrAt lo (by unfold inPal at inside; unfold inGlc; omega)
    · exact t.wr hF rfl
  hit := fun k t => t.hit k
  emit := fun t => t.emit
  store := fun t => t.glcStore
  dtSource := fun t => t.dtSource
  setChan := fun t => t.hidden
  setRot := fun t => t.hidden
  unsteady := fun t => t.setGlc
  unsettle := fun t => t.setGlc
  still := fun t => t.hidden
  locked := fun t => t.hidden

theorem hoChanged (t : GlcTold F h c d) (hh : h < 12) (hF : GLC_HO_SEC.sec ∈ F) : GlcTold F h c (d.hoChanged h) :=
  (evalInv hh hF).hoChanged t

end Core.GlcTold

end Sys2Proof.Machine
end

section
/-! A model's operations: the prediction, the fit, the bias, emptying, and a change of its state (R142 to R148). -/

namespace Sys2Proof.Machine

open Sys2Proof

/-- The fields of GLC_PRED. -/
def predFlds : List Fld := [GLC_PRED_LO.p_lo, GLC_PRED_HI.p_hi]

/-- The fields in which the holdover of a model shows. -/
def glcShowFlds : List Fld := GLC_MDL_STAT.ho_valid :: predFlds

/-- All that a change of a model's state writes where the model is not emptied. -/
def glcGotoFlds : List Fld := GLC_MDL_STAT.state :: GLC_MDL_STAT.cause :: glcShowFlds

/-- The fields of an empty model (R145). -/
def glcEmptyFlds : List Fld :=
  [GLC_ORIGIN_LO.org_lo, GLC_ORIGIN_HI.org_hi, GLC_T0.t0, GLC_MDL_STAT.held, GLC_MDL_STAT.bias_ok, GLC_MDL_STAT.host_prov,
   GLC_MDL_STAT.restored, GLC_NSAMP.nsamp, GLC_RES.res, GLC_BIAS.bias, GLC_MDL_STAT.temp_ok]

/-- What an accepted sample's residual writes (R143, R147). -/
def glcResFlds : List Fld := [GLC_RES.res, GLC_MDL_STAT.bias_ok, GLC_BIAS.bias, GLC_MDL_STAT.ho_valid]

/-- The model's new state with its cause. -/
def Core.glcNamed (c : Core) (h new cause : Nat) : Core := (c.wr GLC_MDL_STAT.state new h).wr GLC_MDL_STAT.cause cause h

/-- What shows a change of state: the holdover it allows, its prediction and its record. -/
def Core.glcShown (c : Core) (h : Nat) : Core := ((c.glcHoValid h).glcPred h).glcStore h

/-- What tells of a change of state. -/
def Core.glcTell (c : Core) (h new old : Nat) : Core :=
  (c.glcEvent h 0 old 31).on (old = gsValid && new = gsLearning) fun c => c.raise 16 h

theorem Core.glcGoto_eq (c : Core) (h new cause : Nat) : c.glcGoto h new cause =
    (((c.glcNamed h new cause).on (new = gsEmpty) fun c => c.glcEmpty h).glcShown h).glcTell h new (c.rd GLC_MDL_STAT.state h) :=
  rfl

namespace Core.GlcTold

variable {F : List Fld} {h : Nat} {c d : Core}

theorem glcSetCoef {k : Nat} {v : Int} (t : GlcTold F h c d) (hk : k < 7) : GlcTold F h c (d.glcSetCoef h k v) :=
  (t.wrCoef (f := GLC_C_LO.c_lo) (by decide) (by decide) hk).wrCoef (f := GLC_C_HI.c_hi) (by decide) (by decide) hk

theorem glcSetOrigin {v : Nat} (t : GlcTold F h c d) (hl : GLC_ORIGIN_LO.org_lo ∈ F) (hi : GLC_ORIGIN_HI.org_hi ∈ F) :
    GlcTold F h c (d.glcSetOrigin h v) := (t.wr hl rfl).wr hi rfl

theorem glcTempOk (t : GlcTold F h c d) (hF : GLC_MDL_STAT.temp_ok ∈ F) : GlcTold F h c (d.glcTempOk h) :=
  ite t (ite (t.wr hF rfl) (ite (t.wr hF rfl) t))

theorem glcPredAt {s : Nat × Rat} (t : GlcTold F h c d) (hF : ∀ f ∈ predFlds, f ∈ F) : GlcTold F h c (d.glcPredAt h s) :=
  (t.wr (hF GLC_PRED_LO.p_lo (by decide)) rfl).wr (hF GLC_PRED_HI.p_hi (by decide)) rfl

theorem glcPred (t : GlcTold F h c d) (hF : ∀ f ∈ predFlds, f ∈ F) : GlcTold F h c (d.glcPred h) := t.glcPredAt hF

theorem glcHoValid (t : GlcTold F h c d) (hh : h < 12) (hF : GLC_MDL_STAT.ho_valid ∈ F) : GlcTold F h c (d.glcHoValid h) := by
  obtain ⟨inside, lo⟩ := Fld.addr_ofCh (f := CH_STAT.ho_valid) rfl hh
  exact (t.wr hF rfl).wrAt lo (by unfold inCh at inside; unfold inGlc; omega)

theorem glcBias (t : GlcTold F h c d) (hF : GLC_BIAS.bias ∈ F) : GlcTold F h c (d.glcBias h) :=
  ite t (t.setGlc.wr hF rfl)

theorem glcShown (t : GlcTold F h c d) (hh : h < 12) (hF : ∀ f ∈ glcShowFlds, f ∈ F) : GlcTold F h c (d.glcShown h) :=
  ((t.glcHoValid hh (hF GLC_MDL_STAT.ho_valid (by decide))).glcPred fun f hf => hF f (List.mem_cons_of_mem _ hf)).glcStore

theorem glcTell {new old : Nat} (t : GlcTold F h c d) : GlcTold F h c (d.glcTell h new old) := t.emit.on fun t => t.raise

theorem glcEmpty (t : GlcTold F h c d) (hF : ∀ f ∈ glcEmptyFlds, f ∈ F) : GlcTold F h c (d.glcEmpty h) := by
  unfold Core.glcEmpty
  extract_lets c1 c2 c3 c4 c5 c6 c7 c8 g
  have h1 : GlcTold F h c c1 := Core.each_keeps (fun _ _ hk t => t.glcSetCoef (List.mem_range.mp hk)) t
  have h2 : GlcTold F h c c2 := (h1.glcSetOrigin (hF _ (by decide)) (hF _ (by decide))).wr (hF GLC_T0.t0 (by decide)) rfl
  have h4 : GlcTold F h c c4 := (h2.wr (hF GLC_MDL_STAT.held (by decide)) rfl).wr (hF GLC_MDL_STAT.bias_ok (by decide)) rfl
  have h6 : GlcTold F h c c6 := (h4.wr (hF GLC_MDL_STAT.host_prov (by decide)) rfl).wr (hF GLC_MDL_STAT.restored (by decide)) rfl
  have h7 : GlcTold F h c c7 := h6.wr (hF GLC_NSAMP.nsamp (by decide)) rfl
  have h8 : GlcTold F h c c8 := (h7.wr (hF GLC_RES.res (by decide)) rfl).wr (hF GLC_BIAS.bias (by decide)) rfl
  exact h8.setGlc.glcTempOk (hF GLC_MDL_STAT.temp_ok (by decide))

theorem glcGoto {new cause : Nat} (t : GlcTold F h c d) (hh : h < 12) (hF : ∀ f ∈ glcGotoFlds, f ∈ F)
    (hE : new = gsEmpty → ∀ f ∈ glcEmptyFlds, f ∈ F) : GlcTold F h c (d.glcGoto h new cause) := by
  have named : GlcTold F h c (d.glcNamed h new cause) :=
    (t.wr (hF GLC_MDL_STAT.state (by decide)) rfl).wr (hF GLC_MDL_STAT.cause (by decide)) rfl
  have emptied : GlcTold F h c ((d.glcNamed h new cause).on (new = gsEmpty) fun c => c.glcEmpty h) := by
    unfold Core.on
    split
    · next empty => exact named.glcEmpty (hE (of_decide_eq_true empty))
    · exact named
  rw [Core.glcGoto_eq]
  exact (emptied.glcShown hh fun f hf => hF f (List.mem_cons_of_mem _ (List.mem_cons_of_mem _ hf))).glcTell

/-- The fit writes the held bits and the coefficients (R142). -/
theorem glcFit {s : Nat × Rat} {f : Rat} (t : GlcTold F h c d) (hF : GLC_MDL_STAT.held ∈ F) : GlcTold F h c (d.glcFit h s f) := by
  unfold Core.glcFit
  extract_lets g sec x grow spans maxL held c1 tau lam sums c2 ks n rows
  have h2 : GlcTold F h c c2 := (t.wr hF rfl).setGlc
  have fitted : ∀ k ∈ ks, k < 7 := fun k hk => List.mem_range.mp (List.mem_filter.mp hk).1
  split
  · exact Core.each_keeps (fun _ k hk t => (t.hidden : GlcTold F h c _).glcSetCoef (fitted k hk)) h2
  · refine Core.each_keeps (fun _ i hi t => t.glcSetCoef (fitted _ ?_)) h2
    rw [List.getD_eq_getElem _ _ (List.mem_range.mp hi)]
    exact List.getElem_mem _

theorem glcResidual {r : Int} (t : GlcTold F h c d) (hh : h < 12) (hF : ∀ f ∈ glcResFlds, f ∈ F) :
    GlcTold F h c (d.glcResidual h r) := by
  unfold Core.glcResidual
  extract_lets g avg rs rl sq c1 c2
  have h2 : GlcTold F h c c2 := t.setGlc.wr (hF GLC_RES.res (by decide)) rfl
  exact ((h2.wr (hF GLC_MDL_STAT.bias_ok (by decide)) rfl).glcBias (hF GLC_BIAS.bias (by decide))).glcHoValid hh
    (hF GLC_MDL_STAT.ho_valid (by decide))

end Core.GlcTold

/-! ## What a change of state shows -/

section

variable {c : Core} {h new cause : Nat} (hh : h < 12)
include hh

/-- A field that emptying the model leaves, as the change of state named it. -/
theorem Core.glcGoto_named {g : Fld} (hg : g.ofGlc = true) (hb : ∀ f ∈ glcShowFlds ++ glcEmptyFlds, f.beside g = true) :
    (c.glcGoto h new cause).rd g h = (c.glcNamed h new cause).rd g h := by
  have told : Core.GlcTold (glcShowFlds ++ glcEmptyFlds) h (c.glcNamed h new cause) (c.glcGoto h new cause) := by
    rw [Core.glcGoto_eq]
    exact ((Core.GlcTold.refl.on fun t => t.glcEmpty fun _ hf => List.mem_append_right _ hf).glcShown hh
      fun _ hf => List.mem_append_left _ hf).glcTell
  exact told.rd hh hg hb

theorem Core.glcGoto_state (hn : new < 4) : (c.glcGoto h new cause).rd GLC_MDL_STAT.state h = new :=
  (Core.glcGoto_named hh rfl (by decide)).trans ((Core.rd_wr_glc _ rfl rfl rfl ..).trans
    ((Core.rd_wr_same ..).trans (Nat.mod_eq_of_lt hn)))

theorem Core.glcGoto_cause (hc : cause < 16) : (c.glcGoto h new cause).rd GLC_MDL_STAT.cause h = cause :=
  (Core.glcGoto_named hh rfl (by decide)).trans ((Core.rd_wr_same ..).trans (Nat.mod_eq_of_lt hc))

/-- A field that a change to a state other than EMPTY leaves. -/
theorem Core.glcGoto_keeps (hn : new ≠ gsEmpty) {g : Fld} (hg : g.ofGlc = true) (hb : ∀ f ∈ glcGotoFlds, f.beside g = true) :
    (c.glcGoto h new cause).rd g h = c.rd g h :=
  ((Core.GlcTold.refl (F := glcGotoFlds)).glcGoto hh (fun _ => id) fun empty => absurd empty hn).rd hh hg hb

/-- A field of an empty model that does not show a holdover. -/
theorem Core.glcGoto_emptied {g : Fld} (hg : g.ofGlc = true) (hb : ∀ f ∈ glcShowFlds, f.beside g = true) :
    (c.glcGoto h gsEmpty cause).rd g h = ((c.glcNamed h gsEmpty cause).glcEmpty h).rd g h :=
  (((Core.GlcTold.refl (F := glcShowFlds)).glcShown hh fun _ => id).glcTell).rd hh hg hb

/-- An empty model has no valid holdover (R147). -/
theorem Core.glcGoto_hoValid : (c.glcGoto h gsEmpty cause).rd GLC_MDL_STAT.ho_valid h = 0 := by
  have shown (d : Core) : (d.glcShown h).rd GLC_MDL_STAT.ho_valid h = (d.glcHoValid h).rd GLC_MDL_STAT.ho_valid h :=
    (((Core.GlcTold.refl (F := predFlds)).glcPred fun _ => id).glcStore).rd hh rfl (by decide)
  have told (d : Core) (old : Nat) : (d.glcTell h gsEmpty old).rd GLC_MDL_STAT.ho_valid h = d.rd GLC_MDL_STAT.ho_valid h :=
    ((Core.GlcTold.refl (F := [])).glcTell).rd hh rfl (by decide)
  have empty : ((c.glcNamed h gsEmpty cause).glcEmpty h).rd GLC_MDL_STAT.state h = gsEmpty :=
    (((Core.GlcTold.refl (F := glcEmptyFlds)).glcEmpty fun _ => id).rd hh rfl (by decide)).trans
      ((Core.rd_wr_glc _ rfl rfl rfl ..).trans (Core.rd_wr_same ..))
  have invalid (d : Core) (hd : d.rd GLC_MDL_STAT.state h = gsEmpty) : (d.glcHoValid h).rd GLC_MDL_STAT.ho_valid h = 0 := by
    unfold Core.glcHoValid
    rw [hd]
    exact (Core.rd_wr_addr _ _ _ _ _ _ _ _ (by decide) (by decide)
      (by simp only [Fld.addr, GLC_MDL_STAT.ho_valid, CH_STAT.ho_valid]; omega)).trans (Core.rd_wr_same ..)
  rw [Core.glcGoto_eq, told, shown]
  exact invalid _ empty

end

theorem Core.rd_glcTempOk (c : Core) {h : Nat} (hh : h < 12) {g : Fld} (hg : g.ofGlc = true)
    (hb : GLC_MDL_STAT.temp_ok.beside g = true) : (c.glcTempOk h).rd g h = c.rd g h :=
  ((Core.GlcTold.refl (F := [GLC_MDL_STAT.temp_ok])).glcTempOk (by decide)).rd hh hg (by simpa using hb)

/-- The samples, T0 and held bits of an empty model (R145). -/
theorem Core.glcEmpty_effect (c : Core) {h : Nat} (hh : h < 12) :
    (c.glcEmpty h).rd GLC_NSAMP.nsamp h = 0 ∧ (c.glcEmpty h).rd GLC_T0.t0 h = 0x8000 ∧
      (c.glcEmpty h).rd GLC_MDL_STAT.held h = 0x3F := by
  unfold Core.glcEmpty
  extract_lets c1 c2 c3 c4 c5 c6 c7 c8 g
  refine ⟨?samples, ?origin, ?held⟩ <;> rw [Core.rd_glcTempOk _ hh rfl rfl, Core.setGlc_rd] <;> unfold c8 c7
  case samples =>
    rw [Core.rd_wr_glc _ rfl rfl rfl, Core.rd_wr_glc _ rfl rfl rfl, Core.rd_wr_same]
    rfl
  case origin =>
    unfold c6 c5 c4 c3 c2
    simp (disch := decide) only [Core.rd_wr_glc, Core.rd_wr_same]
    rfl
  case held =>
    unfold c6 c5 c4 c3
    simp (disch := decide) only [Core.rd_wr_glc, Core.rd_wr_same]
    rfl

end Sys2Proof.Machine
end

section
/-! A model's samples (R141 to R143, R146). -/

namespace Sys2Proof.Machine

open Sys2Proof

/-- What an accepted sample writes of its model before the transition, beside its count. -/
def glcSampleFlds : List Fld :=
  GLC_ORIGIN_LO.org_lo :: GLC_ORIGIN_HI.org_hi :: GLC_T0.t0 :: GLC_MDL_STAT.temp_ok :: GLC_MDL_STAT.held :: glcResFlds

/-- From `c` to `d` one sample of model `h` is counted, and its completed second is judged as before. -/
structure Core.GlcCounted (h : Nat) (c d : Core) : Prop where
  done : (d.glc h).done = (c.glc h).done
  count : d.rd GLC_NSAMP.nsamp h = min (2 ^ GLC_NSAMP.nsamp.width - 1) (c.rd GLC_NSAMP.nsamp h + 1)

theorem Core.GlcCounted.told {F : List Fld} {c d e : Core} {h : Nat} (s : Core.GlcCounted h c d) (t : Core.GlcTold F h d e)
    (hh : h < 12) (hF : ∀ f ∈ F, f.beside GLC_NSAMP.nsamp = true) : Core.GlcCounted h c e :=
  ⟨(t.done h).trans s.done, (t.rd hh rfl hF).trans s.count⟩

/-- A sample counted saturates at the greatest code (R143). -/
theorem Core.glcCounted_bump (c : Core) (h : Nat) : Core.GlcCounted h c (c.bump GLC_NSAMP.nsamp h) :=
  ⟨rfl, (Core.rd_bump_same ..).trans (Nat.min_comm ..)⟩

section

variable {c : Core} {h : Nat} (hh : h < 12)
include hh

/-- A transition that an accepted sample brings leaves the model learning or valid (R146). -/
theorem Core.GlcCounted.glcGoto {d : Core} {new cause : Nat} (s : Core.GlcCounted h c d) (hn : new = gsLearning ∨ new = gsValid) :
    Core.GlcCounted h c (d.glcGoto h new cause) ∧ (d.glcGoto h new cause).rd GLC_MDL_STAT.state h ≠ gsEmpty := by
  obtain ⟨filled, code⟩ : new ≠ gsEmpty ∧ new < 4 := by
    rcases hn with rfl | rfl <;> decide
  have told : Core.GlcTold glcGotoFlds h d (d.glcGoto h new cause) :=
    Core.GlcTold.refl.glcGoto hh (fun _ => id) fun empty => absurd empty filled
  exact ⟨s.told told hh (by decide), by rwa [Core.glcGoto_state hh code]⟩

/-- An accepted sample is counted, and its model is not EMPTY after it (R142, R146). -/
theorem Core.glcAccept_effect (f : Rat) : Core.GlcCounted h c (c.glcAccept h f) ∧
    (c.glcAccept h f).rd GLC_MDL_STAT.state h ≠ gsEmpty := by
  unfold Core.glcAccept
  extract_lets d f' c1 st t0 c2 c3 c4 c5
  have h1 : Core.GlcTold glcSampleFlds h c c1 := by
    unfold c1 d Core.coreData
    split
    · exact Core.GlcTold.refl.hidden
    · exact .refl
  have h2 : Core.GlcTold glcSampleFlds h c c2 := .ite (h1.glcSetOrigin (by decide) (by decide)) h1
  have hT : Core.GlcTold glcSampleFlds h c (t0 c2) := by
    unfold t0
    split
    · exact .ite (h2.wr (by decide) rfl) h2
    · exact h2
  have h3 : Core.GlcTold glcSampleFlds h c c3 := hT.glcTempOk (by decide)
  have h5 : Core.GlcTold glcSampleFlds h (c3.bump GLC_NSAMP.nsamp h) c5 :=
    (Core.GlcTold.refl.glcFit (by decide)).glcResidual hh (by decide)
  have before : Core.GlcCounted h c (c3.bump GLC_NSAMP.nsamp h) := by
    obtain ⟨done, count⟩ := c3.glcCounted_bump h
    exact ⟨done.trans (h3.done h), by rw [count, h3.rd hh rfl (by decide)]⟩
  have counted : Core.GlcCounted h c c5 := before.told h5 hh (by decide)
  have state : c5.rd GLC_MDL_STAT.state h = st :=
    (h5.rd hh rfl (by decide)).trans ((Core.rd_wr_glc _ rfl rfl rfl ..).trans ((h3.rd hh rfl (by decide)).trans
      (h1.rd hh rfl (by decide)).symm))
  have stays (filled : st ≠ gsEmpty) (s : Nat × Rat) : Core.GlcCounted h c (c5.glcPredAt h s) ∧
      (c5.glcPredAt h s).rd GLC_MDL_STAT.state h ≠ gsEmpty := by
    have told : Core.GlcTold predFlds h c5 (c5.glcPredAt h s) := Core.GlcTold.refl.glcPredAt fun _ => id
    exact ⟨counted.told told hh (by decide), by rwa [told.rd hh rfl (by decide), state]⟩
  split
  · exact counted.glcGoto hh (.inl rfl)
  · next filled =>
    split
    · split
      · exact counted.glcGoto hh (.inr rfl)
      · exact stays filled _
    · split
      · exact counted.glcGoto hh (.inl rfl)
      · exact stays filled _

end

/-! ## GLC_SAMPLE -/

/-- A model's completed second taken up for judgement. -/
def Core.glcJudged (c : Core) (h : Nat) : Core := c.setGlc h { c.glc h with done := none }

theorem Core.glcJudged_glc (c : Core) (h : Nat) : (c.glcJudged h).glc h = { c.glc h with done := none } := by
  rw [Core.glcJudged, Core.glc_setGlc, if_pos rfl]

/-- What is predicted for a second, and so what rules it out, does not hang on its having been taken up. -/
theorem Core.glcJudged_skip (c : Core) (h : Nat) (r : SecRun) : (c.glcJudged h).glcSkip h r = c.glcSkip h r := by
  have predicted (s : Nat × Rat) : (c.glcJudged h).glcHat h s = c.glcHat h s := by
    unfold Core.glcHat Core.glcRegressors
    rw [Core.glcJudged_glc]
    rfl
  unfold Core.glcSkip
  rw [predicted, Core.glcJudged_glc]
  rfl

section

variable {c : Core} {h : Fin 12} {r : SecRun} (hd : (c.glc h).done = some r)
include hd

/-- A second that a check rules out is skipped and counted (R141). -/
theorem glcSampleStep_skipped {k : Nat} (hk : c.glcSkip h r = some k) :
    glcSampleStep h c = ((c.glcJudged h).wr GLC_MDL_STAT.skip k h).bump GLC_SKIP_CNT.count h := by
  rw [← Core.glcJudged_skip] at hk
  unfold glcSampleStep
  dsimp only
  rw [hd]
  dsimp only
  rw [← Core.glcJudged, hk]

/-- One that none rules out is accepted (R141). -/
theorem glcSampleStep_accepted (hk : c.glcSkip h r = none) :
    glcSampleStep h c = ((c.glcJudged h).glcAccept h ((r.sum : Rat) / r.n)).hoChanged h := by
  rw [← Core.glcJudged_skip] at hk
  unfold glcSampleStep
  dsimp only
  rw [hd]
  dsimp only
  rw [← Core.glcJudged, hk]

end

/-- Settles O25: a second skipped writes its cause and the count of skips alone; an accepted one is counted once, after which
neither the model's transition nor the channel's evaluation touches the count or empties the model. -/
theorem glacierSamples : Obligations.GlacierSamples := by
  unfold Obligations.GlacierSamples
  refine ⟨?skipped, ?accepted⟩
  case skipped =>
    intro s h r k hr hd hk
    refine onRunCore_answers hr ?_
    rw [Dev.act_rdGlc _ _ _ _ rfl, Dev.act_rdGlc _ _ _ _ rfl, Dev.act_glc, glcSampleStep_skipped hd hk]
    exact ⟨(Core.rd_wr_glc _ rfl rfl rfl ..).trans (Core.rd_wr_same ..), congrArg Glc.done (Core.glcJudged_glc ..),
      (Core.rd_wr_glc _ rfl rfl rfl ..).trans (Core.rd_wr_glc _ rfl rfl rfl ..)⟩
  case accepted =>
    intro s h r hr hd hk
    obtain ⟨counted, filled⟩ := Core.glcAccept_effect (c := s.dev.core.glcJudged h) h.isLt ((r.sum : Rat) / r.n)
    have told : Core.GlcTold [GLC_HO_SEC.sec] h ((s.dev.core.glcJudged h).glcAccept h ((r.sum : Rat) / r.n))
        (glcSampleStep h s.dev.core) := by
      rw [glcSampleStep_accepted hd hk]
      exact Core.GlcTold.refl.hoChanged h.isLt (by decide)
    obtain ⟨done, count⟩ := counted.told told h.isLt (by decide)
    rw [Core.glcJudged_glc] at done
    refine onRunCore_answers hr ?_
    rw [Dev.act_rdGlc _ _ _ _ rfl, Dev.act_rdGlc _ _ _ _ rfl, Dev.act_glc]
    refine ⟨done, count, ?_⟩
    rwa [told.rd h.isLt rfl (by decide)]

end Sys2Proof.Machine
end

section
/-! Temperatures (R136, R137, R149). -/

namespace Sys2Proof.Machine

open Sys2Proof

theorem Dev.act_tSum (f : Dev → Dev) (d : Dev) : (d.act f).core.tSum = (f d).core.tSum := by
  have h := congrArg Core.tSum (Dev.act_rest f d); exact h

/-- T invalid with a term of temperature enabled (R149). -/
theorem tempInvalidStep_invalid {c : Core} {h : Fin 12} (hh : h < c.part.nCh) (ht : c.glcTempTerm h = true)
    (hn : (c.glc h).tNow = false) : tempInvalidStep h c = (c.wr GLC_MDL_STAT.temp_ok 0 h).raise 17 h := by
  unfold tempInvalidStep
  rw [if_pos]
  rw [ht, hn, decide_eq_true hh]
  rfl

/-- The source of T, raised for a model that the variant has. -/
theorem Core.raise17_raw {c : Core} {h : Nat} (hh : h < c.part.nCh) : bitOf ((c.raise 17 h).rd FLT_RAW.hit 0 0) 17 = true := by
  refine c.raiseInfo_raw false (fs := 17) ?_
  have unit : c.part.fsUnitOk 17 h = decide (h < c.part.nCh) := rfl
  have here : c.part.fsAbsent 17 = false := Bool.and_false _
  rw [unit, here, decide_eq_true hh]
  rfl

/-- A reading of an on-die sensor (R136). -/
theorem sensorReadingStep_onDie {c : Core} {k : Fin 9} {v : BitVec 16} (hk : k.val < 8) (hv : v.toNat ≠ 0x8000) :
    sensorReadingStep k v c = (c.wr GLC_TSENS.temp v.toNat 0 k).tRead k (toS 16 v.toNat) := by
  unfold sensorReadingStep
  rw [if_pos hk]
  exact if_neg hv

/-- A code outside the conversion (R137). -/
theorem sensorReadingStep_unconverted {c : Core} {v : BitVec 16} (hc : c.oscTemp (v.toNat % 4096) = none) :
    sensorReadingStep 8 v c = (c.wr GLC_OSCT.code (v.toNat % 4096)).wr GLC_OSCT.temp 0x8000 := by
  have same : (c.wr GLC_OSCT.code (v.toNat % 4096)).oscTemp (v.toNat % 4096) = none := by
    rw [← hc]
    unfold Core.oscTemp
    rw [Core.rd_wr_ne _ _ _ _ _ _ _ _ (by decide), Core.rd_wr_ne _ _ _ _ _ _ _ _ (by decide)]
  unfold sensorReadingStep
  rw [if_neg (by decide)]
  dsimp only
  rw [same]

/-- Settles O28: each command comes to the writes of one branch of its step, and the fault that T's loss raises leaves the
model's registers. -/
theorem temperatures : Obligations.Temperatures := by
  unfold Obligations.Temperatures
  refine ⟨?expired, ?invalid, ?reading, ?unconverted⟩
  case expired =>
    intro s hr
    refine onRunCore_answers hr ?_
    rw [Dev.act_rd_key _ _ _ _ _ (by decide)]
    exact Core.rd_wr_same ..
  case invalid =>
    intro s h hr hh ht hn
    refine onRunCore_answers hr ?_
    rw [Dev.act_rdGlc _ _ _ _ rfl, Dev.act_rd_key _ _ _ _ _ (by decide), tempInvalidStep_invalid hh ht hn]
    refine ⟨?_, Core.raise17_raw hh⟩
    exact ((Core.GlcTold.refl (F := [])).raise.rd h.isLt rfl (by decide)).trans (Core.rd_wr_same ..)
  case reading =>
    intro s k v hr hk hv
    have outside : ¬ inSettle (GLC_TSENS.temp.addr 0 k) := by
      simp only [inSettle, Fld.addr, GLC_TSENS.temp, GLC_STORE_STAT.dirty, MTL_STAT.store_deferred, STG_STAT.store_busy]
      omega
    refine onRunCore_answers hr ?_
    rw [Dev.act_rd _ _ _ _ _ (by decide) outside, Dev.act_tSum, sensorReadingStep_onDie hk hv]
    refine ⟨(Core.rd_wr_same ..).trans (Nat.mod_eq_of_lt v.isLt), ?_⟩
    exact AMap.get_set_same ..
  case unconverted =>
    intro s v hr hc
    refine onRunCore_answers hr ?_
    rw [Dev.act_rd_key _ _ _ _ _ (by decide), Dev.act_rd_key _ _ _ _ _ (by decide), sensorReadingStep_unconverted hc]
    refine ⟨?_, Core.rd_wr_same ..⟩
    rw [Core.rd_wr_ne _ _ _ _ _ _ _ _ (by decide), Core.rd_wr_same]
    exact Nat.mod_mod _ _

end Sys2Proof.Machine
end

section
/-! The tally increments that wait keep their order through the end of a command (R454, R463). -/

namespace Sys2Proof.Machine

open Sys2Proof

/-- From `c` to `d` the increments that wait are the same. -/
def Core.TallyKept (c d : Core) : Prop := d.firnU.tq = c.firnU.tq

namespace Core.TallyKept

variable {c d : Core}

protected theorem refl : TallyKept c c := Eq.refl _

theorem wr {f : Fld} {v i k : Nat} (h : TallyKept c d) : TallyKept c (d.wr f v i k) := h

theorem ite {p : Prop} [Decidable p] {e : Core} (h : TallyKept c d) (k : TallyKept c e) : TallyKept c (if p then d else e) := by
  split <;> assumption

theorem on {b : Bool} {f : Core → Core} (h : TallyKept c d) (hf : ∀ {e}, TallyKept c e → TallyKept c (f e)) :
    TallyKept c (d.on b f) := ite (hf h) h

theorem storeTold {kind res : Nat} (h : TallyKept c d) : TallyKept c (d.storeTold kind res) := ite h h

theorem storeJudge {r : StoreReq} (h : TallyKept c d) : TallyKept c (d.storeJudge r) :=
  ite (storeTold (on h.wr.wr fun h => h.wr)) h

theorem storeJudgeAll (h : TallyKept c d) : TallyKept c d.storeJudgeAll := Core.each_keeps (fun _ _ _ h => h.storeJudge) h

theorem storeEnd {x : StoreRun} (h : TallyKept c d) : TallyKept c (d.storeEnd x) :=
  storeTold (on (on h fun h => h.wr) fun h => h.wr)

theorem tallyPump (h : TallyKept c d) : TallyKept c d.tallyPump := ite h h

theorem firnRegs (h : TallyKept c d) : TallyKept c d.firnRegs :=
  on (on h.wr.wr.wr.wr fun h => h.wr) fun h => h.wr

theorem firnOut {x : List (Nat × Byte)} (h : TallyKept c d) : TallyKept c { d with firnOut := x } := h

theorem frontLand {d : Dev} (h : TallyKept c d.core) : TallyKept c d.frontLand.core := by
  unfold Dev.frontLand
  refine firnOut ?_
  generalize d.core.firnOut = l
  induction l generalizing d with
  | nil => exact h
  | cons x r ih =>
    rw [List.foldl_cons]
    refine ih ?_
    split
    · exact h
    · exact h

theorem dirLand {d : Dev} {x : StoreRun} (h : TallyKept c d.core) : TallyKept c (d.dirLand x).core := by
  unfold Dev.dirLand
  split
  · exact h
  · split
    · exact h
    · exact frontLand h

theorem storePump {n : Nat} {d : Dev} (h : TallyKept c d.core) : TallyKept c (Dev.storePump n d).core := by
  induction n generalizing d with
  | zero => exact h
  | succ n ih =>
    unfold Dev.storePump
    split
    · split
      · exact h
      · exact ih h
    · split
      · exact h
      split
      · exact ih h.storeEnd
      dsimp only
      split
      · split
        · exact h.dirLand
        · exact h.dirLand
      · exact ih h.dirLand.storeEnd

theorem settle {d : Dev} (h : TallyKept c d.core) : TallyKept c d.settle.core := by
  have landed : TallyKept c d.frontLand.memLand.core := h.frontLand
  exact firnRegs (storePump landed.storeJudgeAll.tallyPump)

end Core.TallyKept

/-- The increments that wait after a command are those that its operation left. -/
theorem Dev.act_tq (f : Dev → Dev) (d : Dev) : (d.act f).core.firnU.tq = (f d).core.firnU.tq := by
  have settled : Core.TallyKept (f d).core (f d).settle.core := Core.TallyKept.refl.settle
  refine Eq.trans ?_ settled
  unfold Dev.act Core.noticeEval
  dsimp only
  split
  · rfl
  · split <;> rfl

end Sys2Proof.Machine
end

section
/-! A model cleared, declared and put aside for a new oscillator, and the day (R139, R140, R146, R154). -/

namespace Sys2Proof.Machine

open Sys2Proof

theorem Dev.act_secInDay (f : Dev → Dev) (d : Dev) : (d.act f).core.secInDay = (f d).core.secInDay := by
  have h := congrArg Core.secInDay (Dev.act_rest f d); exact h

theorem Dev.act_ageBase (f : Dev → Dev) (d : Dev) : (d.act f).core.ageBase = (f d).core.ageBase := by
  have h := congrArg Core.ageBase (Dev.act_rest f d); exact h

/-! ## A change of state with the channel's evaluation behind it -/

/-- A model changes its state, and its channel follows (R102, R146). -/
def Core.glcMove (c : Core) (h new cause : Nat) : Core := (c.glcGoto h new cause).hoChanged h

section

variable {c : Core} {h new cause : Nat} (hh : h < 12)
include hh

/-- The channel leaves of its model what the change of state made. -/
theorem Core.glcMove_rd {g : Fld} (hg : g.ofGlc = true) (hb : GLC_HO_SEC.sec.beside g = true) :
    (c.glcMove h new cause).rd g h = (c.glcGoto h new cause).rd g h :=
  ((Core.GlcTold.refl (F := [GLC_HO_SEC.sec])).hoChanged hh (by decide)).rd hh hg (by simpa using hb)

theorem Core.glcMove_state (hn : new < 4) : (c.glcMove h new cause).rd GLC_MDL_STAT.state h = new :=
  (Core.glcMove_rd hh rfl rfl).trans (Core.glcGoto_state hh hn)

theorem Core.glcMove_cause (hc : cause < 16) : (c.glcMove h new cause).rd GLC_MDL_STAT.cause h = cause :=
  (Core.glcMove_rd hh rfl rfl).trans (Core.glcGoto_cause hh hc)

/-- An emptied model (R145). -/
theorem Core.glcMove_emptied : (c.glcMove h gsEmpty cause).rd GLC_NSAMP.nsamp h = 0 ∧
    (c.glcMove h gsEmpty cause).rd GLC_T0.t0 h = 0x8000 ∧ (c.glcMove h gsEmpty cause).rd GLC_MDL_STAT.held h = 0x3F ∧
      (c.glcMove h gsEmpty cause).rd GLC_MDL_STAT.ho_valid h = 0 := by
  rw [Core.glcMove_rd hh rfl rfl, Core.glcMove_rd hh rfl rfl, Core.glcMove_rd hh rfl rfl, Core.glcMove_rd hh rfl rfl,
    Core.glcGoto_emptied hh rfl (by decide), Core.glcGoto_emptied hh rfl (by decide), Core.glcGoto_emptied hh rfl (by decide),
    Core.glcGoto_hoValid hh]
  obtain ⟨samples, origin, held⟩ := (c.glcNamed h gsEmpty cause).glcEmpty_effect hh
  exact ⟨samples, origin, held, rfl⟩

/-- All that a change of state writes of its model. -/
theorem Core.glcMove_told {F : List Fld} (hF : ∀ f ∈ GLC_HO_SEC.sec :: glcGotoFlds, f ∈ F)
    (hE : new = gsEmpty → ∀ f ∈ glcEmptyFlds, f ∈ F) : Core.GlcTold F h c (c.glcMove h new cause) :=
  (Core.GlcTold.refl.glcGoto hh (fun f hf => hF f (List.mem_cons_of_mem _ hf)) hE).hoChanged hh (hF _ List.mem_cons_self)

end

/-! ## CLEAR and DECLARE (R146, R154) -/

section

variable {c : Core} {h : Fin 12} {b : Bool} (hh : h < c.part.nCh)
include hh

theorem clearStep_ready (hr : c.glcReady = true) : clearStep h b c = (c.glcDiscard h b).glcMove h gsEmpty gcCleared := by
  unfold clearStep
  rw [Core.atReg_glc rfl hh, if_neg (by rw [hr]; exact Bool.false_ne_true)]
  rfl

theorem clearStep_early (hr : c.glcReady = false) : clearStep h b c = c := by
  unfold clearStep
  rw [Core.atReg_glc rfl hh, hr]
  rfl

theorem declareStep_learning (hl : c.rd GLC_MDL_CFG.learn_en h = 1) :
    declareStep h b c = c.reject GLC_CFG_REJECT.valid GLC_CFG_REJECT.count GLC_CFG_REJECT.word 3 h := by
  unfold declareStep
  rw [Core.atReg_glc rfl hh, if_pos (Core.rdB_of_one hl)]

theorem declareStep_early (hl : c.rd GLC_MDL_CFG.learn_en h = 0) (hr : c.glcReady = false) : declareStep h b c = c := by
  unfold declareStep
  rw [Core.atReg_glc rfl hh, Core.rdB_of_zero hl, hr]
  rfl

end

/-- The model that the host has written: its own, with no bias learnt since (R146, R147). -/
def Core.glcProvided (c : Core) (h : Nat) : Core :=
  let c := ((c.wr GLC_MDL_STAT.host_prov 1 h).wr GLC_MDL_STAT.bias_ok 0 h).wr GLC_MDL_STAT.restored 0 h
  (c.setGlc h { c.glc h with nBias := 0, b0 := (c.glc h).b }).glcTempOk h

theorem Core.glcProvided_effect (c : Core) {h : Nat} (hh : h < 12) :
    (c.glcProvided h).rd GLC_MDL_STAT.host_prov h = 1 ∧ (c.glcProvided h).rd GLC_MDL_STAT.bias_ok h = 0 := by
  unfold Core.glcProvided
  extract_lets d
  rw [Core.rd_glcTempOk _ hh rfl rfl, Core.rd_glcTempOk _ hh rfl rfl, Core.setGlc_rd, Core.setGlc_rd]
  unfold d
  simp (disch := decide) only [Core.rd_wr_glc, Core.rd_wr_same]
  decide

theorem declareStep_ready {c : Core} {h : Fin 12} {b : Bool} (hh : h < c.part.nCh) (hl : c.rd GLC_MDL_CFG.learn_en h = 0)
    (hr : c.glcReady = true) : declareStep h b c = ((c.glcDiscard h b).glcProvided h).glcMove h gsValid gcDeclared := by
  unfold declareStep
  rw [Core.atReg_glc rfl hh, if_neg (by rw [Core.rdB_of_zero hl]; exact Bool.false_ne_true),
    if_neg (by rw [hr]; exact Bool.false_ne_true)]
  rfl

/-- A refusal of a command of a model writes its own record alone. -/
theorem Core.glcReject_effect (c : Core) (h w : Nat) :
    (c.reject GLC_CFG_REJECT.valid GLC_CFG_REJECT.count GLC_CFG_REJECT.word w h).rd GLC_MDL_STAT.state h =
        c.rd GLC_MDL_STAT.state h ∧
      (c.reject GLC_CFG_REJECT.valid GLC_CFG_REJECT.count GLC_CFG_REJECT.word w h).rd GLC_CFG_REJECT.valid h = 1 := by
  unfold Core.reject
  extract_lets first d
  have noted : d.rd GLC_MDL_STAT.state h = c.rd GLC_MDL_STAT.state h := by
    unfold d
    split
    · exact Core.rd_wr_glc _ rfl rfl rfl ..
    · rfl
  exact ⟨(Core.rd_wr_glc _ rfl rfl rfl ..).trans ((Core.rd_wr_glc _ rfl rfl rfl ..).trans noted),
    (Core.rd_wr_glc _ rfl rfl rfl ..).trans (Core.rd_wr_same ..)⟩

/-! ## NEW_OSC (R140) -/

/-- The oscillator's age starts anew. -/
def Core.ageAnew (c : Core) : Core := { c with ageBase := (c.tally (c.rd GLC_AGE_CFG.tally)).value, secInDay := 0 }

/-- Every model emptied for a new oscillator. -/
def Core.glcAnew (c : Core) : Core := c.each (List.range c.part.nCh) fun c h => c.glcMove h gsEmpty gcNewOsc

theorem newOscStep_ready {c : Core} (hr : c.glcReady = true) : newOscStep c = c.ageAnew.glcAnew.ageStore.ageRegs := by
  unfold newOscStep
  have ready : c.ageAnew.glcReady = true := hr
  extract_lets c1 c2
  have anew : c2 = c.ageAnew.glcAnew := if_pos ready
  rw [anew]

/-- Emptying the models leaves the age. -/
theorem Core.glcAnew_age (c : Core) : c.glcAnew.secInDay = c.secInDay ∧ c.glcAnew.ageBase = c.ageBase := by
  refine Core.each_keeps (Q := fun d => d.secInDay = c.secInDay ∧ d.ageBase = c.ageBase) (fun d j hj hd => ?_) ⟨rfl, rfl⟩
  have hj : j < 12 := Nat.lt_of_lt_of_le (List.mem_range.mp hj) c.part.nCh_le
  have told : Core.GlcTold (GLC_HO_SEC.sec :: (glcGotoFlds ++ glcEmptyFlds)) j d (d.glcMove j gsEmpty gcNewOsc) :=
    Core.glcMove_told hj (by decide) (fun _ => by decide)
  exact ⟨told.day.trans hd.1, told.age.trans hd.2⟩

/-- Model `h` emptied for a new oscillator. -/
def Core.GlcAnewAt (h : Nat) (c : Core) : Prop :=
  c.rd GLC_MDL_STAT.state h = gsEmpty ∧ c.rd GLC_MDL_STAT.cause h = gcNewOsc

theorem Core.glcMove_anew (c : Core) {h : Nat} (hh : h < 12) : (c.glcMove h gsEmpty gcNewOsc).GlcAnewAt h :=
  ⟨Core.glcMove_state hh (by decide), Core.glcMove_cause hh (by decide)⟩

/-- No model's change of state undoes another's. -/
theorem Core.glcMove_anewOther {c : Core} {h j new cause : Nat} (hh : h < 12) (hj : j < 12) (hn : h ≠ j)
    (hc : c.GlcAnewAt h) : (c.glcMove j new cause).GlcAnewAt h := by
  have told : Core.GlcTold (GLC_HO_SEC.sec :: (glcGotoFlds ++ glcEmptyFlds)) j c (c.glcMove j new cause) :=
    Core.glcMove_told hj (by decide) (fun _ => by decide)
  exact ⟨(told.rd_other rfl hh hn).trans hc.1, (told.rd_other rfl hh hn).trans hc.2⟩

theorem Core.glcAnew_models {c : Core} {h : Nat} (hh : h < c.part.nCh) : c.glcAnew.GlcAnewAt h := by
  have below {j : Nat} (hj : j ∈ List.range c.part.nCh) : j < 12 := Nat.lt_of_lt_of_le (List.mem_range.mp hj) c.part.nCh_le
  have mem : h ∈ List.range c.part.nCh := List.mem_range.mpr hh
  refine Core.each_mem (x := h) (f := fun c h => c.glcMove h gsEmpty gcNewOsc) (Q := fun _ => True) (P := Core.GlcAnewAt h)
    (fun _ _ _ _ => trivial) (fun d _ => d.glcMove_anew (below mem)) (fun d j hj _ hd => ?_) mem trivial
  by_cases hn : h = j
  · subst hn
    exact d.glcMove_anew (below mem)
  · exact Core.glcMove_anewOther (below mem) (below hj) hn hd

theorem newOscStep_effect {c : Core} {h : Nat} (hh : h < c.part.nCh) (hr : c.glcReady = true) :
    (newOscStep c).rd GLC_MDL_STAT.state h = gsEmpty ∧ (newOscStep c).rd GLC_MDL_STAT.cause h = gcNewOsc ∧
      (newOscStep c).secInDay = 0 ∧ (newOscStep c).ageBase = (c.tally (c.rd GLC_AGE_CFG.tally)).value := by
  have most := c.part.nCh_le
  have stored : Core.GlcTold [] h c.ageAnew.glcAnew c.ageAnew.glcAnew.ageStore.ageRegs := Core.GlcTold.refl.ageStore.ageRegs
  obtain ⟨state, cause⟩ := Core.glcAnew_models (c := c.ageAnew) hh
  obtain ⟨day, age⟩ := c.ageAnew.glcAnew_age
  rw [newOscStep_ready hr]
  exact ⟨(stored.rd (by omega) rfl (by decide)).trans state, (stored.rd (by omega) rfl (by decide)).trans cause,
    stored.day.trans day, stored.age.trans age⟩

/-! ## DAY_ROLLOVER (R139) -/

theorem dayRolloverStep_day {c : Core} (hd : 86400 ≤ c.secInDay) (ht : (c.tally (c.rd GLC_AGE_CFG.tally)).failed = false) :
    (dayRolloverStep c).secInDay = 0 ∧ (dayRolloverStep c).firnU.tq = c.firnU.tq ++ [c.rd GLC_AGE_CFG.tally] := by
  have asks : ({ c with secInDay := 0 } : Core).tallyInc (c.rd GLC_AGE_CFG.tally) =
      { c with secInDay := 0, firnU := { c.firnU with tq := c.firnU.tq ++ [c.rd GLC_AGE_CFG.tally] } } := by
    refine if_neg ?_
    rw [show Core.tally { c with secInDay := 0 } (c.rd GLC_AGE_CFG.tally) = c.tally (c.rd GLC_AGE_CFG.tally) from rfl, ht]
    exact Bool.false_ne_true
  unfold dayRolloverStep
  rw [if_neg (Nat.not_lt.mpr hd), asks]
  exact ⟨rfl, rfl⟩

end Sys2Proof.Machine
end

section
/-! A write of a model's configuration (R135, R154). -/

namespace Sys2Proof.Machine

open Sys2Proof

/-! ## A plain row written whole -/

/-- The bits of a word at a field fit it. -/
theorem bits_mod_width (x : Nat) (f : Fld) : bits x f.hi f.lo % 2 ^ f.width = bits x f.hi f.lo := Nat.mod_mod ..

/-- Where every byte of a field is enabled it takes its bits of the word (R356). -/
theorem mergeField_whole {f : Fld} {be : Nat} (hb : bits (beMask be) f.hi f.lo = 2 ^ f.width - 1) (old data : Nat) :
    mergeField f old be data % 2 ^ f.width = bits data f.hi f.lo := by
  unfold mergeField
  rw [hb, Nat.and_two_pow_sub_one_eq_mod, Nat.xor_mod_two_pow, Nat.mod_mod, Nat.xor_mod_two_pow, ← Nat.xor_assoc,
    Nat.xor_self, Nat.zero_xor, bits_mod_width]

/-- A plain row outside an enable is written field by field. -/
theorem Core.writeRow_open (c : Core) (r : RegRow) (be data i k : Nat) :
    c.writeRow r false be data i k = (c.each r.flds fun c f => c.writeField be data i k f, false) := rfl

theorem Core.writeField_plain {f : Fld} (hf : f.acc = .rw ∨ f.acc = .rwe) (c : Core) (be data i k : Nat) :
    c.writeField be data i k f = c.wr f (mergeField f (c.rd f i k) be data) i k := by
  unfold Core.writeField
  rcases hf with acc | acc <;> rw [acc]

/-! ## The row of GLC_MDL_CFG -/

theorem glcCfg_plain : ∀ f ∈ GLC_MDL_CFG.row.flds,
    (f.acc = .rw ∨ f.acc = .rwe) ∧ f.ofGlc = true ∧ bits (beMask 15) f.hi f.lo = 2 ^ f.width - 1 := by decide

theorem glcCfg_apart : ∀ f ∈ GLC_MDL_CFG.row.flds, ∀ g ∈ GLC_MDL_CFG.row.flds, f = g ∨ g.beside f = true := by decide

/-- GLC_MDL_CFG written whole outside learning takes every field. -/
theorem Core.glcCfg_written (c : Core) (h data : Nat) {f : Fld} (hf : f ∈ GLC_MDL_CFG.row.flds) :
    (c.writeRow GLC_MDL_CFG.row false 15 data h).1.rd f h = bits data f.hi f.lo := by
  have here (d : Core) : (d.writeField 15 data h 0 f).rd f h = bits data f.hi f.lo := by
    obtain ⟨plain, -, whole⟩ := glcCfg_plain f hf
    rw [Core.writeField_plain plain, Core.rd_wr_same, mergeField_whole whole]
  rw [Core.writeRow_open]
  refine Core.each_mem (x := f) (f := fun c f => c.writeField 15 data h 0 f) (Q := fun _ => True)
    (P := fun d => d.rd f h = bits data f.hi f.lo) (fun _ _ _ _ => trivial) (fun d _ => here d) (fun d g hg _ hd => ?_) hf trivial
  obtain ⟨plain, inside, -⟩ := glcCfg_plain g hg
  rcases glcCfg_apart f hf g hg with rfl | apart
  · exact here d
  · rw [Core.writeField_plain plain, Core.rd_wr_glc _ inside (glcCfg_plain f hf).2.1 apart, hd]

/-- What follows the fields in a write of GLC_MDL_CFG writes none of them. -/
theorem Core.glcMdlCfgWrite_told {c : Core} {h be data : Nat} (hh : h < 12) (hl : c.rd GLC_MDL_CFG.learn_en h = 0)
    (hr : c.glcReady = true) : Core.GlcTold (GLC_HO_SEC.sec :: (glcGotoFlds ++ glcEmptyFlds)) h
      (c.writeRow GLC_MDL_CFG.row false be data h).1 (c.glcMdlCfgWrite h be data).1 := by
  have taken : (c.rdB GLC_MDL_CFG.learn_en h || !c.glcReady) = false := by
    rw [Core.rdB_of_zero hl, hr]
    rfl
  unfold Core.glcMdlCfgWrite
  rw [taken]
  extract_lets key old r c1 c2 b c3
  have written : c1 = r.1 := rfl
  have h2 : Core.GlcTold (GLC_HO_SEC.sec :: (glcGotoFlds ++ glcEmptyFlds)) h r.1 c2 := by
    unfold c2
    rw [written]
    exact .ite (Core.GlcTold.refl.glcGoto hh (by decide) fun _ => by decide) .refl
  have h3 : Core.GlcTold (GLC_HO_SEC.sec :: (glcGotoFlds ++ glcEmptyFlds)) h r.1 c3 :=
    (h2.glcTempOk (by decide)).glcBias (by decide)
  exact ((h3.on fun t => t.glcPred (by decide)).glcHoValid hh (by decide)).hoChanged hh (by decide)

theorem Core.glcMdlCfgWrite_effect {c : Core} {h : Nat} (data : Nat) (hh : h < 12) (hl : c.rd GLC_MDL_CFG.learn_en h = 0)
    (hr : c.glcReady = true) {f : Fld} (hf : f ∈ GLC_MDL_CFG.row.flds) :
    (c.glcMdlCfgWrite h 15 data).1.rd f h = bits data f.hi f.lo := by
  have apart : ∀ g ∈ GLC_MDL_CFG.row.flds, ∀ f ∈ GLC_HO_SEC.sec :: (glcGotoFlds ++ glcEmptyFlds), f.beside g = true := by decide
  exact ((Core.glcMdlCfgWrite_told hh hl hr).rd hh (glcCfg_plain f hf).2.1 (apart f hf)).trans (c.glcCfg_written h data hf)

/-! ## The access of the host -/

/-- GLC_MDL_CFG of a model. -/
def glcCfgRef (h : Nat) : RegRef := ⟨.glc, h, GLC_MDL_CFG.row, 0⟩

theorem Part.access_glcCfg (p : Part) {h : Fin 12} (hh : h < p.nCh) :
    p.access (glcCfgRef h).addr 15 = .reg (glcCfgRef h) none := by
  obtain ⟨v, l, g⟩ := p
  cases v
  case f1624 => fin_cases h <;> rfl
  case c1624 => fin_cases h <;> rfl
  case f1612 =>
    have six (i : Fin 6) : (⟨.f1612, l, g⟩ : Part).access (glcCfgRef i).addr 15 = .reg (glcCfgRef i) none := by
      fin_cases i <;> rfl
    exact six ⟨h, hh⟩

/-- A write of GLC_MDL_CFG by the host, with the fields noted of a model that the image application holds (R411). -/
theorem Dev.poke_glcCfg {d : Dev} {h : Fin 12} (hh : h < d.core.part.nCh) (data : Nat) :
    (d.poke exHost .glc h 0x0 15 data).core = ((d.core.heldNote (glcCfgRef h) 15).glcMdlCfgWrite h 15 data).1 := by
  have named : regOf .glc h 0x0 = some (glcCfgRef h) := rfl
  unfold Dev.poke
  rw [named]
  dsimp only
  rw [d.core.part.access_glcCfg hh]
  rfl

theorem Core.heldNote_glcReady (c : Core) (r : RegRef) (be : Nat) : (c.heldNote r be).glcReady = c.glcReady := by
  unfold Core.heldNote
  split <;> rfl

theorem Dev.poke_glcCfg_effect {d : Dev} {h : Fin 12} (data : Nat) (hh : h < d.core.part.nCh)
    (hl : d.core.rd GLC_MDL_CFG.learn_en h = 0) (hr : d.core.glcReady = true) {f : Fld} (hf : f ∈ GLC_MDL_CFG.row.flds) :
    (d.poke exHost .glc h 0x0 15 data).core.rd f h = bits data f.hi f.lo := by
  rw [Dev.poke_glcCfg hh]
  exact Core.glcMdlCfgWrite_effect data h.isLt (by rwa [Core.heldNote_rd]) (by rwa [Core.heldNote_glcReady]) hf

/-! ## The models' commands -/

/-- Settles O26: each command is its change of the model's state, which the channel's evaluation behind it and, for a new
oscillator, the changes of the other models leave; refused or before restoration it makes none. -/
theorem glacierModels : Obligations.GlacierModels := by
  unfold Obligations.GlacierModels
  refine ⟨?clear, ?declare, ?learning, ?newOsc, ?early, ?day, ?configure⟩
  case clear =>
    intro s h b hr hh ready
    refine onRunCore_answers hr ?_
    rw [Dev.act_rdGlc _ _ _ _ rfl, Dev.act_rdGlc _ _ _ _ rfl, Dev.act_rdGlc _ _ _ _ rfl, Dev.act_rdGlc _ _ _ _ rfl,
      Dev.act_rdGlc _ _ _ _ rfl, Dev.act_rdGlc _ _ _ _ rfl, clearStep_ready hh ready]
    exact ⟨Core.glcMove_state h.isLt (by decide), Core.glcMove_cause h.isLt (by decide), Core.glcMove_emptied h.isLt⟩
  case declare =>
    intro s h b hr hh idle ready
    obtain ⟨provided, unlearnt⟩ := (s.dev.core.glcDiscard h b).glcProvided_effect h.isLt
    refine onRunCore_answers hr ?_
    rw [Dev.act_rdGlc _ _ _ _ rfl, Dev.act_rdGlc _ _ _ _ rfl, Dev.act_rdGlc _ _ _ _ rfl, Dev.act_rdGlc _ _ _ _ rfl,
      declareStep_ready hh idle ready]
    refine ⟨Core.glcMove_state h.isLt (by decide), Core.glcMove_cause h.isLt (by decide), ?_, ?_⟩
    · rw [Core.glcMove_rd h.isLt rfl rfl, Core.glcGoto_keeps h.isLt (by decide) rfl (by decide), provided]
    · rw [Core.glcMove_rd h.isLt rfl rfl, Core.glcGoto_keeps h.isLt (by decide) rfl (by decide), unlearnt]
  case learning =>
    intro s h b hr hh learns
    refine onRunCore_answers hr ?_
    rw [Dev.act_rdGlc _ _ _ _ rfl, Dev.act_rdGlc _ _ _ _ rfl, declareStep_learning hh learns]
    exact Core.glcReject_effect ..
  case newOsc =>
    intro s h hr hh ready
    refine onRunCore_answers hr ?_
    rw [Dev.act_rdGlc _ _ _ _ rfl, Dev.act_rdGlc _ _ _ _ rfl, Dev.act_secInDay, Dev.act_ageBase]
    exact newOscStep_effect hh ready
  case early =>
    rintro s h b i - hh early (rfl | ⟨rfl, idle⟩)
    · exact onRunCore_same (clearStep_early hh early)
    · exact onRunCore_same (declareStep_early hh idle early)
  case day =>
    intro s hr full intact
    refine onRunCore_answers hr ?_
    rw [Dev.act_secInDay, Dev.act_tq]
    exact dayRolloverStep_day full intact
  case configure =>
    intro s h data hr hh idle ready
    have field {f : Fld} (hf : f ∈ GLC_MDL_CFG.row.flds) := Dev.poke_glcCfg_effect data.toNat hh idle ready hf
    refine onRun_answers hr ?_
    rw [Dev.act_rdGlc _ _ _ _ rfl, Dev.act_rdGlc _ _ _ _ rfl, Dev.act_rdGlc _ _ _ _ rfl, Dev.act_rdGlc _ _ _ _ rfl,
      Dev.act_rdGlc _ _ _ _ rfl]
    exact ⟨field (by decide), field (by decide), field (by decide), field (by decide), field (by decide)⟩

end Sys2Proof.Machine
end

section
/-! The flywheel's flag of a rotor that leaves TRACKING (R172): a flag that reads as set stays at its value, whatever that is. -/

namespace Sys2Proof.Machine

open Sys2Proof

/-! ## What leaves the flag alone -/

section

variable (c : Core) {h : Nat}

/-- A write of another field of the rotors' registers. -/
theorem Core.wr_rotFly {f : Fld} (hf : f.ofRot = true) (hb : f.beside PAL_ROT_STAT.fly = true) (v i : Nat) :
    (c.wr f v i).rd PAL_ROT_STAT.fly h = c.rd PAL_ROT_STAT.fly h := by
  refine Core.rd_wr_bank c 0x158000 0x100 v h i hf rfl ?_
  simp only [Fld.beside, Bool.or_eq_true, decide_eq_true_eq] at hb
  exact hb.imp Ne.symm Ne.symm

theorem Core.rotCross_rotFly (hh : h < 12) (t : Int) (v a e l g : Rat) (coast : Bool) :
    (c.rotCross h t v a e l g coast).rd PAL_ROT_STAT.fly h = c.rd PAL_ROT_STAT.fly h := by
  unfold Core.rotCross
  extract_lets x rev n c1 b after edges c2 z dz slewNow step resid k c3
  have counted : c1.rd PAL_ROT_STAT.fly h = c.rd PAL_ROT_STAT.fly h := c.wr_rotFly rfl rfl ..
  have told : c3.rd PAL_ROT_STAT.fly h = c1.rd PAL_ROT_STAT.fly h := (Core.Aside.refl.emit : Core.Aside c1 c2).rdRot rfl hh
  rw [← counted, ← told]
  unfold Core.on
  split
  · exact c3.wr_rotFly rfl rfl ..
  · rfl

theorem Core.rotCrossings_rotFly (hh : h < 12) (t n : Nat) (p a w al e g : Rat) (left : Rat → Rat) :
    (c.rotCrossings h t p a w al e g left n).rd PAL_ROT_STAT.fly h = c.rd PAL_ROT_STAT.fly h := by
  induction n generalizing c with
  | zero => rfl
  | succ n ih =>
    unfold Core.rotCrossings
    extract_lets x tau
    split
    · rfl
    · exact (ih _).trans (c.rotCross_rotFly hh ..)

end

/-! ## TRACKING to SYNCING (R168, R172) -/

/-- A generator that flywheels goes on as it is. -/
theorem Core.rotFly_of_flying {c : Core} {h : Nat} (hf : c.rdB PAL_ROT_STAT.fly h = true) (t : Nat) : c.rotFly h t = c := if_pos hf

/-- Back to SYNCING, a flag that reads as set is not written. -/
theorem Core.rotGoto_syncing_rotFly {c : Core} {h : Nat} (hh : h < 12) (hs : c.rotState h = rsTracking)
    (hf : c.rdB PAL_ROT_STAT.fly h = true) (t cause : Nat) :
    (c.rotGoto h t rsSyncing cause).rd PAL_ROT_STAT.fly h = c.rd PAL_ROT_STAT.fly h := by
  unfold Core.rotGoto
  extract_lets old c1 c2 c3 c4 x c5 c6 c7 c8 c9
  have leaves : old = rsTracking := hs
  have h1 : c1.rd PAL_ROT_STAT.fly h = c.rd PAL_ROT_STAT.fly h := c.wr_rotFly rfl rfl ..
  have h2 : c2.rd PAL_ROT_STAT.fly h = c.rd PAL_ROT_STAT.fly h := by
    unfold c2
    rw [leaves]
    exact (c1.rotCrossings_rotFly hh ..).trans h1
  have h3 : c3.rd PAL_ROT_STAT.fly h = c.rd PAL_ROT_STAT.fly h := (c2.wr_rotFly rfl rfl ..).trans h2
  have flying : c3.rdB PAL_ROT_STAT.fly h = true := by
    unfold Core.rdB at hf ⊢
    rwa [h3]
  have h4 : c4.rd PAL_ROT_STAT.fly h = c.rd PAL_ROT_STAT.fly h := by
    unfold c4
    rw [leaves, if_neg (by decide), Core.rotFly_of_flying flying]
    exact (c3.wr_rotFly rfl rfl ..).trans h3
  have told : Core.Aside c5 c9 := by
    unfold c9 Core.on
    exact .ite Core.Aside.refl.raise .refl
  have clamped : (c9.rotClamp h).rd PAL_ROT_STAT.fly h = c9.rd PAL_ROT_STAT.fly h := c9.wr_rotFly rfl rfl ..
  rw [leaves, if_neg (by decide)]
  calc ((c9.rotClamp h).rotEvent h rsTracking).rd PAL_ROT_STAT.fly h
    _ = (c9.rotClamp h).rd PAL_ROT_STAT.fly h := Core.Aside.refl.emit.rdRot rfl hh
    _ = c5.rd PAL_ROT_STAT.fly h := clamped.trans (told.rdRot rfl hh)
    _ = c.rd PAL_ROT_STAT.fly h := h4

/-- HOST_RESYNC of a TRACKING rotor that the variant has. -/
theorem hostResyncStep_tracking {c : Core} {h : Fin 12} (here : c.part.absentAt (PAL_ROT_CTRL.resync.addr h 0) = false)
    (hs : c.rotState h = rsTracking) : hostResyncStep h c = c.rotGoto h c.now rsSyncing rcHostResync := by
  unfold hostResyncStep Core.atReg
  rw [here, if_neg Bool.false_ne_true]
  exact if_pos hs

theorem hostResync_rotFly {s : State} {h : Fin 12} (hr : Running s)
    (here : s.dev.core.part.absentAt (PAL_ROT_CTRL.resync.addr h 0) = false) (hs : s.dev.core.rotState h = rsTracking)
    (hf : s.dev.core.rdB PAL_ROT_STAT.fly h = true) :
    Answers (exec (.hostResync h) s) fun u => u.dev.core.rd PAL_ROT_STAT.fly h = s.dev.core.rd PAL_ROT_STAT.fly h := by
  refine onRunCore_answers hr ?_
  rw [Dev.act_rdRot _ _ _ _ rfl, hostResyncStep_tracking here hs]
  exact Core.rotGoto_syncing_rotFly h.isLt hs hf ..

/-! ## A flag that holds 2 -/

/-- Rotor 0 is TRACKING, and its one-bit flag of the flywheel holds 2. -/
def wideFly : Core :=
  let c : Core := ({ inReset := false } : Core).wr PAL_ROT_STAT.rstate rsTracking 0
  { c with regs := c.regs.set 0 (PAL_ROT_STAT.fly.key 0 0) 2 }

/-- The state with that core. -/
def wideFlyState : State := ⟨[], { core := wideFly }⟩

/-- Refutes O30: in its last clause HOST_RESYNC is to leave PAL_ROT_STAT.fly at 1, but a generator that flywheels already keeps
its flag as it is (R172). No premise bounds the one-bit flag by its width: where it holds 2 it reads as set, and stays 2. The
model's writes cut to the width, so this is a state that no run reaches. -/
theorem not_rotorStates : ¬ Obligations.RotorStates := by
  rintro ⟨-, -, -, -, resync⟩
  have released : Running wideFlyState := rfl
  have tracks : wideFly.rotState 0 = rsTracking := by decide
  have flies : wideFly.rdB PAL_ROT_STAT.fly 0 = true := by decide
  have holds : wideFly.rd PAL_ROT_STAT.fly 0 = 2 := by decide
  obtain ⟨t, ht, kept⟩ := hostResync_rotFly (h := 0) released (by decide) tracks flies
  obtain ⟨u, hu, -, -, -, one⟩ := resync wideFlyState 0 released (by decide) tracks
  obtain rfl : u = t := by injection hu.symm.trans ht
  exact absurd (holds.symm.trans (kept.symm.trans one)) (by decide)

end Sys2Proof.Machine
end

section
/-! The registers of the root synthesiser (R214), and what the operations that follow a stop or a start of PCLK leave of them. -/

namespace Sys2Proof.Machine

open Sys2Proof

/-! ## Fields of the root's registers -/

/-- A field of the root's registers (R214). -/
def Fld.ofRoot (f : Fld) : Bool := f.base = 0x130000 && f.stride = 0 && f.off < 0x800 && f.lo < 32

/-- The root's block of registers. -/
def inRoot (a : Nat) : Prop := 0x130000 ≤ a ∧ a < 0x130800

/-- A field of a block behind the root's. -/
def Fld.behindRoot (f : Fld) : Bool := 0x130800 ≤ f.base && f.lo < 32

/-- A field of a single register outside the root's block. -/
def Fld.awayRoot (f : Fld) : Bool := (f.addr 0 0 < 0x130000 || 0x130800 ≤ f.addr 0 0) && f.lo < 32

theorem Fld.ofRoot_iff {f : Fld} : f.ofRoot = true ↔ f.base = 0x130000 ∧ f.stride = 0 ∧ f.off < 0x800 ∧ f.lo < 32 := by
  simp only [Fld.ofRoot, Bool.and_eq_true, decide_eq_true_eq, and_assoc]

theorem Fld.addr_ofRoot {f : Fld} (hf : f.ofRoot = true) : inRoot (f.addr 0 0) ∧ f.lo < 32 := by
  obtain ⟨fb, fs, fo, fl⟩ := Fld.ofRoot_iff.mp hf
  simp only [inRoot, Fld.addr, fb, fs]
  omega

theorem Core.rd_wr_root (c : Core) {f g : Fld} (hf : f.ofRoot = true) (hg : g.ofRoot = true) (h : f.beside g = true) (v : Nat) :
    (c.wr f v).rd g = c.rd g := by
  obtain ⟨fb, fs, fo, fl⟩ := Fld.ofRoot_iff.mp hf
  obtain ⟨gb, gs, go, gl⟩ := Fld.ofRoot_iff.mp hg
  simp only [Fld.beside, Bool.or_eq_true, decide_eq_true_eq] at h
  refine Core.rd_wr_ne _ _ _ _ _ _ _ _ ?_
  simp only [Fld.key, Fld.addr, fb, fs, gb, gs]
  omega

/-- The root's registers read after a command what the operation left in them. -/
theorem Dev.act_rdRoot (f : Dev → Dev) (d : Dev) (g : Fld) (hg : g.ofRoot = true) : (d.act f).core.rd g = (f d).core.rd g := by
  obtain ⟨inside, lo⟩ := Fld.addr_ofRoot hg
  refine Dev.act_rd _ _ _ _ _ lo ?_
  simp only [inRoot, inSettle, Fld.addr, GLC_STORE_STAT.dirty, MTL_STAT.store_deferred, STG_STAT.store_busy] at inside ⊢
  omega

theorem Dev.act_rsState (f : Dev → Dev) (d : Dev) : (d.act f).core.rsState = (f d).core.rsState := Dev.act_rdRoot _ _ _ rfl

/-! ## The relation -/

/-- From `c` to `d` no register of the root is written but the fields `F`. -/
def Core.RootTold (F : List Fld) (c d : Core) : Prop :=
  ∀ g : Fld, g.ofRoot = true → (∀ f ∈ F, f.beside g = true) → d.rd g = c.rd g

namespace Core.RootTold

variable {F : List Fld} {c d e : Core}

protected theorem refl : RootTold F c c := fun _ _ _ => rfl

protected theorem trans (t : RootTold F c d) (k : RootTold F d e) : RootTold F c e := fun g hg hF => (k g hg hF).trans (t g hg hF)

theorem mono {G : List Fld} (t : RootTold F c d) (hFG : ∀ f ∈ F, f ∈ G) : RootTold G c d :=
  fun g hg hG => t g hg fun f hf => hG f (hFG f hf)

/-- A write of one of the fields. -/
theorem wr {f : Fld} {v : Nat} (t : RootTold F c d) (hf : f ∈ F) (hr : f.ofRoot = true) : RootTold F c (d.wr f v) :=
  t.trans fun _ hg hF => d.rd_wr_root hr hg (hF f hf) v

/-- A write elsewhere. -/
theorem wrAt {f : Fld} {v i k : Nat} (t : RootTold F c d) (hl : f.lo < 32) (ha : ¬ inRoot (f.addr i k)) :
    RootTold F c (d.wr f v i k) := by
  refine t.trans fun g hg _ => ?_
  obtain ⟨inside, lo⟩ := Fld.addr_ofRoot hg
  exact Core.rd_wr_addr _ _ _ _ _ _ _ _ hl lo fun same => ha (same ▸ inside)

theorem wrBehind {f : Fld} {v i k : Nat} (t : RootTold F c d) (hf : f.behindRoot = true) : RootTold F c (d.wr f v i k) := by
  simp only [Fld.behindRoot, Bool.and_eq_true, decide_eq_true_eq] at hf
  refine t.wrAt hf.2 ?_
  unfold inRoot Fld.addr
  have := Nat.zero_le (i * f.stride)
  omega

theorem wrAway {f : Fld} {v : Nat} (t : RootTold F c d) (hf : f.awayRoot = true) : RootTold F c (d.wr f v) := by
  simp only [Fld.awayRoot, Bool.and_eq_true, Bool.or_eq_true, decide_eq_true_eq] at hf
  exact t.wrAt hf.2 (by unfold inRoot; omega)

/-- An update of hidden state. The equation is an explicit argument, not a default one: each use of a default has to wait for every
proof before it, which costs a thread. -/
theorem hidden (t : RootTold F c d) (hr : e.regs = d.regs) : RootTold F c e := by
  refine t.trans fun g _ _ => ?_
  unfold Core.rd
  rw [hr]

theorem ite {p : Prop} [Decidable p] (t : RootTold F c d) (k : RootTold F c e) : RootTold F c (if p then d else e) := by
  split <;> assumption

theorem on {b : Bool} {f : Core → Core} (t : RootTold F c d) (hf : ∀ {e}, RootTold F c e → RootTold F c (f e)) :
    RootTold F c (d.on b f) := ite (hf t) t

theorem each {α : Type} {l : List α} {f : Core → α → Core} (t : RootTold F c d)
    (hf : ∀ {e x}, x ∈ l → RootTold F c e → RootTold F c (f e x)) : RootTold F c (d.each l f) :=
  Core.each_keeps (fun _ _ hx t => hf hx t) t

/-- What other blocks do. -/
theorem kept {b : List Nat} (t : RootTold F c d) (k : Core.Kept b d e) (hb : 0x13 ∉ b) : RootTold F c e := by
  refine t.trans fun g hg _ => ?_
  obtain ⟨inside, lo⟩ := Fld.addr_ofRoot hg
  exact k.rd_eq lo (inBlocks_of_page (p := 0x13) (by unfold inRoot at inside; omega) hb (by decide))

theorem hit (t : RootTold F c d) (k : Core.Hit d e) : RootTold F c e := by
  refine t.trans fun g hg _ => ?_
  obtain ⟨inside, lo⟩ := Fld.addr_ofRoot hg
  exact k.1 g 0 0 (by unfold inRoot at inside; unfold inFlt; omega) lo

theorem raise {fs u : Nat} (t : RootTold F c d) : RootTold F c (d.raise fs u) := t.hit (d.raise_hit fs u)

theorem emit {rt u a : Nat} {l : List Nat} (t : RootTold F c d) : RootTold F c (d.emit rt u a l) :=
  t.kept (Core.Kept.refl.emit (b := [0x102]) (by decide)) (by decide)

theorem clkEvent {unit i new old cause : Nat} (t : RootTold F c d) : RootTold F c (d.clkEvent unit i new old cause) := t.emit

theorem dtSource (t : RootTold F c d) : RootTold F c d.dtSource :=
  t.kept (Core.Kept.refl.dtSource (b := [3, 0x12]) (by decide) (by decide)) (by decide)

end Core.RootTold

end Sys2Proof.Machine
end

section
/-! What the outputs, the synthesisers and the aligners do where PCLK stops or starts leaves the root's registers (R192 to R200,
R206 to R208). -/

namespace Sys2Proof.Machine

open Sys2Proof

namespace Core.RootTold

variable {F : List Fld} {c d : Core} {n cause : Nat}

/-! ## Pulse aligners (R208) -/

theorem palLow (t : RootTold F c d) : RootTold F c d.palLow := t.each fun _ t => t.wrBehind rfl

theorem paGoto {a new : Nat} (t : RootTold F c d) : RootTold F c (d.paGoto a new cause) := by
  unfold Core.paGoto
  extract_lets old c1 c2 c3 c4 c5 x stop c6 c7
  have h1 : RootTold F c c1 := t.wrBehind rfl
  have h3 : RootTold F c c3 := on (h1.wrBehind rfl) fun t => t.wrBehind rfl
  have h5 : RootTold F c c5 := on (h3.on fun t => raise (t.wrBehind rfl)) fun t => t.wrBehind rfl
  have h6 : RootTold F c c6 := ite (h5.hidden rfl) (ite (h5.hidden rfl) h5)
  have h7 : RootTold F c c7 := h6.on fun t => wrBehind (t.wrBehind rfl) rfl
  exact ite h1 h7.clkEvent.palLow

theorem palEval {a : Nat} (t : RootTold F c d) : RootTold F c (d.palEval a) := by
  unfold Core.palEval
  extract_lets st c1 st1
  have h1 : RootTold F c c1 := ite t.paGoto t
  exact ite t (ite (ite t t.paGoto) (ite t.paGoto (ite t (ite (ite h1 h1.paGoto) (ite h1.paGoto
    (ite (ite h1.paGoto (ite h1.paGoto h1)) h1))))))

theorem palEvalAll (t : RootTold F c d) : RootTold F c d.palEvalAll := t.each fun _ t => t.palEval

/-! ## Outputs (R199, R200) -/

theorem outRefresh {o : Nat} (t : RootTold F c d) : RootTold F c (d.outRefresh o cause) := by
  unfold Core.outRefresh
  extract_lets old new c1 _ c2
  have h1 : RootTold F c c1 := t.wrBehind rfl
  have h2 : RootTold F c c2 := ite h1 (h1.hidden rfl)
  exact ite t (ite h2 (clkEvent (h2.wrBehind rfl)))

theorem outRefreshAll (t : RootTold F c d) : RootTold F c (d.outRefreshAll cause) := t.each fun _ t => t.outRefresh

theorem bankRefresh (t : RootTold F c d) : RootTold F c (d.bankRefresh n cause) := t.each fun _ t => t.outRefresh

theorem bankByp (t : RootTold F c d) : RootTold F c (d.bankByp n) := t.each fun _ t => t.wrBehind rfl

/-! ## Commits (R195, R196) -/

theorem commitLoad (t : RootTold F c d) : RootTold F c (d.commitLoad n) := by
  have loaded : RootTold F c (d.each (List.range 6) fun c m =>
      (c.wr SYN_DIV_ACT.div (c.rd SYN_DIV_STAGE.div n m) n m).wr SYN_DIV_ACT.phase (c.rd SYN_DIV_STAGE.phase n m) n m) :=
    t.each fun _ t => wrBehind (t.wrBehind rfl) rfl
  exact bankRefresh (clkEvent (wrBehind (loaded.wrBehind rfl) rfl))

theorem synReject {off : Nat} (t : RootTold F c d) : RootTold F c (d.synReject n off) :=
  wrBehind (wrBehind (ite (t.wrBehind rfl) t) rfl) rfl

theorem synCommit (t : RootTold F c d) : RootTold F c (d.synCommit n).1 := by
  unfold Core.synCommit
  simp only [apply_ite Prod.fst]
  exact ite (t.wrBehind rfl) (ite (synReject (t.wrBehind rfl)) (ite (bankRefresh (t.wrBehind rfl)) t.commitLoad))

/-! ## States of the output synthesisers (R192, R194, R197) -/

theorem sscApply {place : Nat} (t : RootTold F c d) : RootTold F c (d.sscApply n place) :=
  wrBehind (wrBehind (t.hidden rfl : RootTold F c (d.setSyn n _)) rfl) rfl

theorem synPend (t : RootTold F c d) : RootTold F c (d.synPend n) := wrBehind (t.wrBehind rfl) rfl

theorem synLose (t : RootTold F c d) : RootTold F c (d.synLose n) := wrBehind (t.wrBehind rfl) rfl

theorem synGoto {new : Nat} (t : RootTold F c d) : RootTold F c (d.synGoto n new cause) := by
  unfold Core.synGoto
  extract_lets old c1 c2 x c3 c4 c5 c6 lost wait _ c7 c8 c9 c10 c11 c12
  have h1 : RootTold F c c1 := t.wrBehind rfl
  have h3 : RootTold F c c3 := hidden (h1.wrBehind rfl : RootTold F c c2) rfl
  have h6 : RootTold F c c6 := on (h3.clkEvent.on fun t => t.sscApply) fun t => t.wrBehind rfl
  have h8 : RootTold F c c8 := synPend (on (h6.hidden rfl : RootTold F c c7) fun t => t.synLose)
  have h10 : RootTold F c c10 := bankByp (wrBehind (h8.wrBehind rfl) rfl)
  have h11 : RootTold F c c11 := ite h10.commitLoad h10.bankRefresh
  have h12 : RootTold F c c12 := h11.on fun t => t.synCommit
  exact ite h1 (ite (h12.on fun t => t.raise) h6.bankRefresh)

theorem synEval (t : RootTold F c d) : RootTold F c (d.synEval n) := by
  unfold Core.synEval
  extract_lets st
  exact ite t (ite (ite t t.synGoto) (ite (ite (t.wrBehind rfl) (ite t.synGoto t)) (ite t.synGoto t)))

theorem synUnlock (t : RootTold F c d) : RootTold F c (d.synUnlock n cause) := t.synGoto.synEval

end Core.RootTold

end Sys2Proof.Machine
end

section
/-! What the memories, the queues, the interval meter, the lanes and the PTP engine do where PCLK stops or starts leaves the
root's registers (R224, R233, R246, R294, R301 to R303, R312 to R323). -/

namespace Sys2Proof.Machine

open Sys2Proof

namespace Core.RootTold

variable {F : List Fld} {c d : Core}

/-! ## Injections and the memories (R312 to R316, R485) -/

theorem injFired (t : RootTold F c d) : RootTold F c d.injFired := wrAway (wrAway (t.wrAway rfl) rfl) rfl

theorem vaultWrote {l : List Nat} (t : RootTold F c d) : RootTold F c (d.vaultWrote l) := ite t (t.injFired.hidden rfl)

theorem memPut {m : Nat} {l : List (Nat × Byte)} (t : RootTold F c d) : RootTold F c (d.memPut m l) := t.hidden rfl

theorem tileWrote {l : List Nat} (t : RootTold F c d) : RootTold F c (d.tileWrote l) := by
  unfold Core.tileWrote
  extract_lets w _ e
  have he : RootTold F c e := t.hidden rfl
  exact ite he (he.injFired.hidden rfl)

theorem portCount {x : PortMeet} (t : RootTold F c d) : RootTold F c (d.portCount x) :=
  on (on (t.on fun t => t.wrBehind rfl) fun t => t.wrBehind rfl) fun t => t.wrBehind rfl

theorem tileMeet {m : Nat} {l : List Nat} (t : RootTold F c d) : RootTold F c (d.tileMeet m l) := by
  refine t.each fun {e n} _ t => ?_
  extract_lets w
  split
  · exact t
  · exact ite t (ite (t.each fun _ t => t.wrBehind rfl) (ite t (ite (t.portCount.hidden rfl) t.portCount)))

theorem rowBusy {b : Nat} (t : RootTold F c d) : RootTold F c (d.rowBusy b) :=
  ite ((t.hidden rfl : RootTold F c d.fresh.2).wrBehind rfl) t

theorem tilePut {m : Nat} {l : List (Nat × Byte)} (t : RootTold F c d) : RootTold F c (d.tilePut m l) := by
  have waits (v : Nat) : RootTold F c (d.fresh.2.wr TMC_COLL.busy v) := wrBehind (t.hidden rfl) rfl
  exact ite ((waits _).hidden rfl) (memPut (tileWrote (tileMeet (t.each fun _ t => t.rowBusy))))

/-! ## The interval meter (R224, R231, R233) -/

theorem setTab {k : Nat} {x : TdcTab} (t : RootTold F c d) : RootTold F c (d.setTab k x) :=
  t.kept ((Core.Kept.refl (b := [0x16])).setTim (by decide) |>.calRegs (by decide)) (by decide)

theorem tabInstall {k : Nat} {w : List Nat} (t : RootTold F c d) : RootTold F c (d.tabInstall k w) := by
  unfold Core.tabInstall
  extract_lets l banks c1 _ c2
  have h1 : RootTold F c c1 := tileWrote (tileMeet (t.each fun _ t => t.rowBusy))
  have h2 : RootTold F c c2 := setTab (h1.hidden rfl)
  exact ite (setTab (h2.hidden rfl)) h2

theorem timTabs (t : RootTold F c d) : RootTold F c d.timTabs := by
  unfold Core.timTabs
  extract_lets w
  exact ite t (each (t.hidden rfl) fun _ t => t.tabInstall)

theorem timClock (t : RootTold F c d) : RootTold F c d.timClock := ite (timTabs (wrBehind (t.wrBehind rfl) rfl)) t

theorem timDrain (t : RootTold F c d) : RootTold F c d.timDrain := by
  unfold Core.timDrain
  extract_lets l i bytes _ c1
  have h1 : RootTold F c c1 := t.hidden rfl
  exact ite t (wrBehind (ite h1.tilePut h1.memPut.vaultWrote) rfl)

/-! ## The queues (R301 to R303) -/

theorem queuesRefresh (t : RootTold F c d) : RootTold F c d.queuesRefresh :=
  t.each fun hq t => t.kept (Core.Kept.refl.queueRegs (b := [0x22]) (by decide) (List.mem_range.mp hq)) (by decide)

theorem spill {q : Nat} (t : RootTold F c d) : RootTold F c (d.spill q) := by
  unfold Core.spill
  extract_lets x n live out known bursts word bytes last e
  have he : RootTold F c e := t.hidden rfl
  exact ite t (ite t (ite he.tilePut he.memPut.vaultWrote))

theorem middleLost (t : RootTold F c d) : RootTold F c d.middleLost := queuesRefresh (t.hidden rfl)

theorem middleBack (t : RootTold F c d) : RootTold F c d.middleBack := each (queuesRefresh (t.hidden rfl)) fun _ t => t.spill

/-! ## The Vault (R323, R324, R407) -/

theorem vaultGoto {new : Nat} (t : RootTold F c d) : RootTold F c (d.vaultGoto new) := by
  unfold Core.vaultGoto
  extract_lets old had c1 c2 c3 c4
  have h2 : RootTold F c c2 := on (t.wrBehind rfl) fun t => t.wrAway rfl
  have h3 : RootTold F c c3 := h2.on fun t => t.wrAway rfl
  have h4 : RootTold F c c4 := h2.middleLost
  exact ite h3.middleBack.timDrain (ite (ite h4.raise h4) (ite h2.raise h2.queuesRefresh))

theorem loaderTestEnd {res : Nat} (t : RootTold F c d) : RootTold F c (d.loaderTestEnd res) :=
  ite t (wrAway (wrAway (on (t.hidden rfl) fun t => t.wrAway rfl) rfl) rfl)

theorem vltAbort {b : Bool} (t : RootTold F c d) : RootTold F c (d.vltAbort b) :=
  ite (t.hidden rfl) (ite t (ite (t.wrBehind rfl) (loaderTestEnd (vaultGoto (emit (t.wrBehind rfl))))))

theorem vaultSleep (t : RootTold F c d) : RootTold F c d.vaultSleep := ite (vaultGoto (t.hidden rfl)) t

theorem vaultWake (t : RootTold F c d) : RootTold F c d.vaultWake := by
  unfold Core.vaultWake
  extract_lets c1 _ c2
  have h1 : RootTold F c c1 := ite t.vaultGoto (queuesRefresh (t.wrBehind rfl))
  have h2 : RootTold F c c2 := ite (vltAbort (h1.hidden rfl)) h1
  exact ite t (ite (vaultGoto (h2.hidden rfl)) h2)

/-! ## The PTP engine (R285, R294, R417) -/

theorem portsEval (t : RootTold F c d) : RootTold F c d.portsEval :=
  t.kept (Core.Kept.refl.portsEval (b := [0x21, 0x102]) (by decide) (by decide)) (by decide)

theorem pteEval (t : RootTold F c d) : RootTold F c d.pteEval :=
  t.kept (Core.Kept.refl.pteStartStep (b := [0x21, 0x102]) (by decide) (by decide)) (by decide)

theorem slotStat (t : RootTold F c d) : RootTold F c d.slotStat :=
  t.kept (Core.Kept.refl.slotStat (b := [0x21]) (by decide)) (by decide)

theorem setLoad {v : Rat} (t : RootTold F c d) : RootTold F c (d.setLoad v) := hidden (t.wrBehind rfl : RootTold F c (d.wr _ _)) rfl

theorem setSlot {k : Nat} {x : Option Slot} (t : RootTold F c d) : RootTold F c (d.setSlot k x) := by
  unfold Core.setSlot
  extract_lets a fresh c1 c2
  exact vaultWrote (wrBehind (t.hidden rfl) rfl)

theorem grantEnd {k ty cause : Nat} (t : RootTold F c d) : RootTold F c (d.grantEnd k ty cause) := by
  unfold Core.grantEnd
  split
  · exact t
  · exact ite t (ite (slotStat (emit t.setLoad.setSlot)) t.setLoad.setSlot)

theorem grantCheck {k ty : Nat} (t : RootTold F c d) : RootTold F c (d.grantCheck k ty) := by
  unfold Core.grantCheck
  split
  · exact ite t.grantEnd t
  · exact t

theorem pteResume (t : RootTold F c d) : RootTold F c d.pteResume :=
  ite t (t.each fun _ t => t.each fun _ t => t.grantCheck)

/-! ## Lanes (R246) -/

theorem laneGoto {n new cause : Nat} (t : RootTold F c d) : RootTold F c (d.laneGoto n new cause) := by
  unfold Core.laneGoto
  extract_lets old c1 c2 c3 c4 c5 c6 c7 c8 c9
  have h1 : RootTold F c c1 := wrBehind (t.wrBehind rfl) rfl
  have h3 : RootTold F c c3 := on (h1.on fun t => t.wrBehind rfl) fun t => t.hidden rfl
  have h5 : RootTold F c c5 := on (h3.on fun t => t.wrBehind rfl) fun t => t.wrBehind rfl
  have h7 : RootTold F c c7 := on (h5.on fun t => t.wrBehind rfl) fun t => raise (t.wrBehind rfl)
  have h8 : RootTold F c c8 := ite (wrBehind (wrBehind (wrBehind (wrBehind (h7.wrBehind rfl) rfl) rfl) rfl) rfl) h7
  have h9 : RootTold F c c9 := h8.on fun t => t.raise
  exact h9.emit.portsEval

theorem laneSteps {k n : Nat} (t : RootTold F c d) : RootTold F c (Core.laneSteps k d n) := by
  induction k generalizing d with
  | zero => exact t
  | succ k ih =>
    unfold Core.laneSteps
    split
    · exact ih t.laneGoto
    · exact t

theorem laneEval {n : Nat} (t : RootTold F c d) : RootTold F c (d.laneEval n) :=
  ite t (ite (t.laneSteps.wrBehind rfl) t.laneSteps)

/-! ## Rotors (R167 to R180) -/

theorem evalInv {h : Nat} (hh : h < 12) : EvalInv h (RootTold F c) where
  wr := fun {d f v} hf t => by
    simp only [Fld.ofEval, Bool.or_eq_true, decide_eq_true_eq] at hf
    rcases hf with (channel | rotor) | rfl
    · obtain ⟨inside, lo⟩ := Fld.addr_ofCh channel hh
      exact t.wrAt lo (by unfold inCh at inside; unfold inRoot; omega)
    · obtain ⟨inside, lo⟩ := Fld.ofRot_addr rotor hh
      exact t.wrAt lo (by unfold inPal at inside; unfold inRoot; omega)
    · exact t.wrAt (by decide) (by simp only [inRoot, Fld.addr, GLC_HO_SEC.sec]; omega)
  hit := fun k t => t.hit k
  emit := fun t => t.emit
  store := fun t => t.kept (Core.Kept.glcWrote (b := [0x12]) (Core.Kept.refl.frontWrite) (by decide)) (by decide)
  dtSource := fun t => t.dtSource
  setChan := fun t => t.hidden rfl
  setRot := fun t => t.hidden rfl
  unsteady := fun t => t.hidden rfl
  unsettle := fun t => t.hidden rfl
  still := fun t => t.hidden rfl
  locked := fun t => t.hidden rfl

theorem rotEvalAll (t : RootTold F c d) (p : Part) : RootTold F c (d.each (List.range p.nCh) Core.rotEval) :=
  t.each fun hh t => (evalInv (Nat.lt_of_lt_of_le (List.mem_range.mp hh) p.nCh_le)).rotEval t

/-! ## PCLK stops and starts (R34, R189, R190) -/

theorem pclkStop (t : RootTold F c d) : RootTold F c d.pclkStop := by
  unfold Core.pclkStop
  extract_lets c1 c2 c3 c4 c5
  have h1 : RootTold F c c1 := t.each fun _ t => ite t t.synUnlock
  have h3 : RootTold F c c3 := h1.palEvalAll.timClock.each fun _ t => t.laneEval
  have h5 : RootTold F c c5 := h3.vaultSleep.rotEvalAll _
  exact h5.dtSource.outRefreshAll.palLow

/-- The oldest record of the collector waits at the tail (R480). -/
theorem fltDrain (t : RootTold F c d) : RootTold F c d.fltDrain := by
  unfold Core.fltDrain
  split
  · exact ite (t.hidden rfl) t
  split
  · exact t
  split
  · exact t
  · exact emit (t.hidden rfl)

theorem pclkStart (t : RootTold F c d) : RootTold F c d.pclkStart := by
  unfold Core.pclkStart
  extract_lets c1 c2 c3 c4 c5 c6
  have h1 : RootTold F c c1 := t.dtSource.hidden rfl
  have h3 : RootTold F c c3 := palEvalAll (h1.each fun _ t => t.synEval)
  have h5 : RootTold F c c5 := timTabs (timDrain (pteEval (pteResume (vaultWake (h3.each fun _ t => t.laneEval)))))
  exact fltDrain (palLow (outRefreshAll (h5.rotEvalAll _)))

end Core.RootTold

end Sys2Proof.Machine
end

section
/-! A change of the root synthesiser's state: what it writes, and what it leaves (R186, R187). -/

namespace Sys2Proof.Machine

open Sys2Proof

/-! ## The parts of a change -/

/-- The fields that show the clocks' source and divisors (R187, R188). -/
def rsClockFlds : List Fld := [RS_STAT.clk_src, RS_STAT.k_c, RS_STAT.k_s]

/-- The fields that name a state and its cause. -/
def rsNameFlds : List Fld := [RS_STAT.cause, RS_STAT.state]

/-- The event bits and counters of a change. -/
def rsMarkFlds : List Fld := [RS_EVENT.lock, RS_EVENT.lock_lost, RS_UNLOCK_CNT.count, RS_EVENT.retry, RS_RETRY_CNT.count]

/-- What a change that tells of no lock and of no failed attempt writes. -/
def rsQuietFlds : List Fld := rsNameFlds ++ rsClockFlds

/-- What a change writes of the root's registers. -/
def rsGotoFlds : List Fld := rsMarkFlds ++ rsQuietFlds

/-- The state and its cause, the runs of counts anew, and the record. -/
def Core.rsNamed (c : Core) (new cause : Nat) : Core :=
  let d := (c.wr RS_STAT.cause cause).wr RS_STAT.state new
  (d.setSyn 4 { d.syn 4 with inWin := 0, outWin := 0 }).clkEvent 0 0 new c.rsState cause

/-- A lock is told. -/
def Core.rsMarkLock (c : Core) (new : Nat) : Core := c.on (new = sLocked) fun c => c.wr RS_EVENT.lock 1

/-- The loss of lock is told and counted. -/
def Core.rsMarkLost (c : Core) (old : Nat) : Core :=
  c.on (old = sLocked) fun c => (c.wr RS_EVENT.lock_lost 1).bump RS_UNLOCK_CNT.count

/-- A failed attempt is told and counted. -/
def Core.rsMarkRetry (c : Core) (old cause : Nat) : Core :=
  c.on (old = sAcq && cause = kcRetry) fun c => (c.wr RS_EVENT.retry 1).bump RS_RETRY_CNT.count

/-- Everything that a change tells. -/
def Core.rsMarked (c : Core) (new cause : Nat) : Core :=
  (((c.rsNamed new cause).rsMarkLock new).rsMarkLost c.rsState).rsMarkRetry c.rsState cause

/-- The fault, and the clocks. -/
def Core.rsTell (c : Core) (old cause : Nat) : Core :=
  (c.on (cause = kcLockLost || (old = sAcq && cause = kcRetry)) fun c => c.raise 24).rsClock

/-- PCLK starts or stops. -/
def Core.rsPclk (c : Core) (new old : Nat) : Core :=
  if new = sLocked then c.pclkStart else if old = sLocked then c.pclkStop else c

theorem Core.rsGoto_eq (c : Core) (new cause : Nat) :
    c.rsGoto new cause = ((c.rsMarked new cause).rsTell c.rsState cause).rsPclk new c.rsState := rfl

/-! ## What each part leaves -/

namespace Core.RootTold

variable {F : List Fld} {c d : Core} {new old cause : Nat}

theorem rsClock (t : RootTold F c d) (hF : ∀ f ∈ rsClockFlds, f ∈ F) : RootTold F c d.rsClock := by
  have src {v : Nat} : RootTold F c (d.wr RS_STAT.clk_src v) := t.wr (hF _ (by decide)) rfl
  have divs {v u w : Nat} : RootTold F c (((d.wr RS_STAT.clk_src v).wr RS_STAT.k_c u).wr RS_STAT.k_s w) :=
    wr (src.wr (hF _ (by decide)) rfl) (hF _ (by decide)) rfl
  exact ite src (ite divs divs)

theorem rsNamed : RootTold rsNameFlds c (c.rsNamed new cause) :=
  clkEvent (hidden (wr (RootTold.refl.wr (by decide) rfl) (by decide) rfl :
    RootTold rsNameFlds c ((c.wr RS_STAT.cause cause).wr RS_STAT.state new)) rfl)

theorem rsMarkLock (t : RootTold F c d) (hF : RS_EVENT.lock ∈ F) : RootTold F c (d.rsMarkLock new) := t.on fun t => t.wr hF rfl

theorem rsMarkLost (t : RootTold F c d) (he : RS_EVENT.lock_lost ∈ F) (hc : RS_UNLOCK_CNT.count ∈ F) :
    RootTold F c (d.rsMarkLost old) := t.on fun t => (t.wr he rfl).wr hc rfl

theorem rsMarkRetry (t : RootTold F c d) (he : RS_EVENT.retry ∈ F) (hc : RS_RETRY_CNT.count ∈ F) :
    RootTold F c (d.rsMarkRetry old cause) := t.on fun t => (t.wr he rfl).wr hc rfl

theorem rsPclk (t : RootTold F c d) : RootTold F c (d.rsPclk new old) := ite t.pclkStart (ite t.pclkStop t)

/-- After everything is told only the clocks' fields are written. -/
theorem rsGoto_marked : RootTold rsClockFlds (c.rsMarked new cause) (c.rsGoto new cause) := by
  rw [Core.rsGoto_eq]
  exact rsPclk (rsClock (RootTold.refl.on fun t => t.raise) fun _ hf => hf)

theorem rsMarked : RootTold rsMarkFlds (c.rsNamed new cause) (c.rsMarked new cause) :=
  rsMarkRetry (rsMarkLost (RootTold.refl.rsMarkLock (by decide)) (by decide) (by decide)) (by decide) (by decide)

theorem rsGoto : RootTold rsGotoFlds c (c.rsGoto new cause) := by
  have named : RootTold rsGotoFlds c (c.rsNamed new cause) := rsNamed.mono (by decide)
  have marked : RootTold rsGotoFlds (c.rsNamed new cause) (c.rsMarked new cause) := rsMarked.mono (by decide)
  exact (named.trans marked).trans (rsGoto_marked.mono (by decide))

/-- The retry of RS tells of no lock and of no failed attempt: it starts from UNLOCKED. -/
theorem rsRetry : RootTold rsQuietFlds c c.rsRetry := by
  unfold Core.rsRetry
  split
  · next waits =>
    rw [Bool.and_eq_true, decide_eq_true_eq] at waits
    have quiet : c.rsMarked sCal kcRetry = c.rsNamed sCal kcRetry := by
      unfold Core.rsMarked
      rw [waits.1]
      rfl
    have named : RootTold rsQuietFlds c (c.rsNamed sCal kcRetry) := rsNamed.mono (by decide)
    exact named.trans (quiet ▸ rsGoto_marked.mono (by decide))
  · exact .refl

end Core.RootTold

/-! ## What a change establishes -/

section

variable {c : Core} {new cause : Nat}

/-- A field that neither tells of the change nor of the clocks. -/
theorem Core.rsGoto_rd {g : Fld} (hg : g.ofRoot = true) (hm : ∀ f ∈ rsMarkFlds ++ rsClockFlds, f.beside g = true) :
    (c.rsGoto new cause).rd g = (c.rsNamed new cause).rd g :=
  (Core.RootTold.rsGoto_marked g hg fun f hf => hm f (List.mem_append_right _ hf)).trans
    (Core.RootTold.rsMarked g hg fun f hf => hm f (List.mem_append_left _ hf))

theorem Core.rsGoto_state (hn : new < 8) : (c.rsGoto new cause).rsState = new := by
  have told : (c.rsNamed new cause).rsState = new % 8 := by
    refine (Core.RootTold.refl.clkEvent (F := []) RS_STAT.state rfl (by decide)).trans ?_
    exact Core.rd_wr_same ..
  exact ((Core.rsGoto_rd rfl (by decide)).trans told).trans (Nat.mod_eq_of_lt hn)

theorem Core.rsGoto_cause (hc : cause < 16) : (c.rsGoto new cause).rd RS_STAT.cause = cause := by
  have told : (c.rsNamed new cause).rd RS_STAT.cause = cause % 16 := by
    refine (Core.RootTold.refl.clkEvent (F := []) RS_STAT.cause rfl (by decide)).trans ?_
    exact (Core.rd_wr_root _ rfl rfl rfl _).trans (Core.rd_wr_same ..)
  exact ((Core.rsGoto_rd rfl (by decide)).trans told).trans (Nat.mod_eq_of_lt hc)

theorem Core.rsGoto_lock : (c.rsGoto sLocked cause).rd RS_EVENT.lock = 1 := by
  have told : Core.RootTold (rsMarkFlds.erase RS_EVENT.lock) ((c.rsNamed sLocked cause).rsMarkLock sLocked)
      (c.rsMarked sLocked cause) :=
    .rsMarkRetry (.rsMarkLost .refl (by decide) (by decide)) (by decide) (by decide)
  calc (c.rsGoto sLocked cause).rd RS_EVENT.lock
    _ = (c.rsMarked sLocked cause).rd RS_EVENT.lock := Core.RootTold.rsGoto_marked _ rfl (by decide)
    _ = ((c.rsNamed sLocked cause).rsMarkLock sLocked).rd RS_EVENT.lock := told _ rfl (by decide)
    _ = 1 := Core.rd_wr_same ..

/-- Leaving LOCKED is told and counted. -/
theorem Core.rsGoto_lost (hs : c.rsState = sLocked) : (c.rsGoto new cause).rd RS_EVENT.lock_lost = 1 ∧
    (c.rsGoto new cause).rd RS_UNLOCK_CNT.count = min (2 ^ RS_UNLOCK_CNT.count.width - 1) (c.rd RS_UNLOCK_CNT.count + 1) := by
  let d := (c.rsNamed new cause).rsMarkLock new
  have before : Core.RootTold (RS_EVENT.lock :: rsNameFlds) c d :=
    (Core.RootTold.rsNamed.mono (by decide)).rsMarkLock (by decide)
  have lost : d.rsMarkLost c.rsState = (d.wr RS_EVENT.lock_lost 1).bump RS_UNLOCK_CNT.count := by
    rw [hs]
    rfl
  have after : Core.RootTold ([RS_EVENT.retry, RS_RETRY_CNT.count] ++ rsClockFlds)
      ((d.wr RS_EVENT.lock_lost 1).bump RS_UNLOCK_CNT.count) (c.rsGoto new cause) := by
    rw [← lost]
    exact .trans (.rsMarkRetry .refl (by decide) (by decide)) (Core.RootTold.rsGoto_marked.mono (by decide))
  have counted : (d.wr RS_EVENT.lock_lost 1).rd RS_UNLOCK_CNT.count = c.rd RS_UNLOCK_CNT.count :=
    (d.rd_wr_root rfl rfl rfl 1).trans (before _ rfl (by decide))
  rw [after _ rfl (by decide), after _ rfl (by decide), ← counted]
  exact ⟨(Core.rd_wr_root _ rfl rfl rfl _).trans (Core.rd_wr_same ..), (Core.rd_bump_same ..).trans (Nat.min_comm ..)⟩

/-- A failed attempt is told and counted. -/
theorem Core.rsGoto_retry (hs : c.rsState = sAcq) : (c.rsGoto new kcRetry).rd RS_EVENT.retry = 1 ∧
    (c.rsGoto new kcRetry).rd RS_RETRY_CNT.count = min (2 ^ RS_RETRY_CNT.count.width - 1) (c.rd RS_RETRY_CNT.count + 1) := by
  let d := ((c.rsNamed new kcRetry).rsMarkLock new).rsMarkLost c.rsState
  have before : Core.RootTold ([RS_EVENT.lock, RS_EVENT.lock_lost, RS_UNLOCK_CNT.count] ++ rsNameFlds) c d :=
    .rsMarkLost (.rsMarkLock (Core.RootTold.rsNamed.mono (by decide)) (by decide)) (by decide) (by decide)
  have failed : c.rsMarked new kcRetry = (d.wr RS_EVENT.retry 1).bump RS_RETRY_CNT.count := by
    have marked : c.rsMarked new kcRetry = d.rsMarkRetry c.rsState kcRetry := rfl
    rw [marked, hs]
    rfl
  have after : Core.RootTold rsClockFlds ((d.wr RS_EVENT.retry 1).bump RS_RETRY_CNT.count) (c.rsGoto new kcRetry) :=
    failed ▸ Core.RootTold.rsGoto_marked
  have counted : (d.wr RS_EVENT.retry 1).rd RS_RETRY_CNT.count = c.rd RS_RETRY_CNT.count :=
    (d.rd_wr_root rfl rfl rfl 1).trans (before _ rfl (by decide))
  rw [after _ rfl (by decide), after _ rfl (by decide), ← counted]
  exact ⟨(Core.rd_wr_root _ rfl rfl rfl _).trans (Core.rd_wr_same ..), (Core.rd_bump_same ..).trans (Nat.min_comm ..)⟩

/-! ## The faults of the root (R468, R470) -/

/-- FS24 and FS26 are sources of every variant, of one unit. -/
theorem Core.raise_root_raw (c : Core) {fs : Nat} (hf : fs ∈ [24, 26]) : bitOf ((c.raise fs).rd FLT_RAW.hit 0 0) fs = true := by
  simp only [List.mem_cons, List.not_mem_nil, or_false] at hf
  rcases hf with rfl | rfl
  · refine c.raiseInfo_raw false (fs := 24) ?_
    have here : c.part.fsAbsent 24 = false := Bool.and_false _
    rw [here]
    rfl
  · refine c.raiseInfo_raw false (fs := 26) ?_
    have here : c.part.fsAbsent 26 = false := Bool.and_false _
    rw [here]
    rfl

theorem Core.rawKept_rsClock (c : Core) : Core.RawKept c c.rsClock := by
  have src {v : Nat} : Core.RawKept c (c.wr RS_STAT.clk_src v) :=
    Core.RawKept.wr (Core.Alike.refl _ c) (by decide) (not_isRaw_after (by decide))
  have divs {v u w : Nat} : Core.RawKept c (((c.wr RS_STAT.clk_src v).wr RS_STAT.k_c u).wr RS_STAT.k_s w) :=
    .wr (.wr src (by decide) (not_isRaw_after (by decide))) (by decide) (not_isRaw_after (by decide))
  exact .ite src (.ite divs divs)

/-- A failed attempt raises FS24. -/
theorem Core.rsGoto_retry_raw (hs : c.rsState = sAcq) :
    bitOf ((c.rsGoto sCal kcRetry).rd FLT_RAW.hit 0 0) 24 = true := by
  have goes : c.rsGoto sCal kcRetry = ((c.rsMarked sCal kcRetry).raise 24).rsClock := by
    rw [Core.rsGoto_eq, hs]
    rfl
  rw [goes, Core.rawKept_rsClock _ FLT_RAW.hit 0 0 (isRaw_raw (by decide)) (by decide)]
  exact Core.raise_root_raw _ (by decide)

end

end Sys2Proof.Machine
end

section
/-! The commands of the root synthesiser (R184, R186, R187). -/

namespace Sys2Proof.Machine

open Sys2Proof

section

variable {c : Core}

/-! ## RS_CAL_DONE (R186) -/

theorem rsCalDoneStep_effect (hs : c.rsState = sCal) :
    (rsCalDoneStep c).rsState = sAcq ∧ (rsCalDoneStep c).rd RS_STAT.cause = kcCalDone := by
  have step : rsCalDoneStep c = c.rsGoto sAcq kcCalDone := if_pos hs
  rw [step]
  exact ⟨Core.rsGoto_state (by decide), Core.rsGoto_cause (by decide)⟩

/-! ## LOCK_COUNT_END (R184) -/

/-- The count shown, and the runs of counts after it. -/
def Core.rsCounted (c : Core) (n : Nat) : Core :=
  (c.wr RS_FCOUNT.count n).countRun 4 (inWindow n (c.rd RS_LOCK_CFG.win))

/-- The Course stage no longer waits for another attempt (R423). -/
def Core.rsSucceeded (c : Core) : Core :=
  { c.on (c.rd STG_STAT.wait = 4) (fun c => c.wr STG_STAT.wait 0) with rsTried := false }

theorem Core.rsCounted_told (n : Nat) : Core.RootTold [RS_FCOUNT.count] c (c.rsCounted n) :=
  .hidden (.wr .refl (by decide) rfl : Core.RootTold [RS_FCOUNT.count] c (c.wr RS_FCOUNT.count n)) rfl

theorem Core.rsCounted_inWin (n : Nat) : ((c.rsCounted n).syn 4).inWin =
    if inWindow n (c.rd RS_LOCK_CFG.win) then min 4 ((c.syn 4).inWin + 1) else 0 := by
  unfold Core.rsCounted Core.countRun
  rw [Core.syn_setSyn, if_pos rfl]
  rfl

theorem Core.rsSucceeded_told : Core.RootTold [] c c.rsSucceeded := .hidden (Core.RootTold.refl.on fun t => t.wrAway rfl) rfl

/-- While ACQUIRING a count locks, or is only counted. -/
theorem lockCountEndStep_acquiring (count : BitVec 32) (hs : c.rsState = sAcq) : lockCountEndStep 4 count c =
    if ((c.rsCounted count.toNat).syn 4).inWin = 4 then (c.rsCounted count.toNat).rsSucceeded.rsGoto sLocked kcLock
    else c.rsCounted count.toNat := by
  let d := c.rsCounted count.toNat
  have step : lockCountEndStep 4 count c =
      if c.rsState ≠ sAcq && c.rsState ≠ sLocked then c
      else if c.rsState = sAcq && (d.syn 4).inWin = 4 then d.rsSucceeded.rsGoto sLocked kcLock
      else if c.rsState = sLocked && (d.syn 4).outWin = 2 then (d.rsGoto sUnlocked kcLockLost).rsRetry
      else d := rfl
  rw [step, hs, if_neg (by decide)]
  by_cases full : (d.syn 4).inWin = 4
  · rw [if_pos (by rw [full]; rfl), if_pos full]
  · rw [if_neg (by rw [decide_eq_false full]; decide), if_neg full]
    exact if_neg Bool.false_ne_true

theorem lockCountEndStep_locks {count : BitVec 32} (hs : c.rsState = sAcq) (h3 : (c.syn 4).inWin = 3)
    (hw : inWindow count.toNat (c.rd RS_LOCK_CFG.win) = true) :
    (lockCountEndStep 4 count c).rsState = sLocked ∧ (lockCountEndStep 4 count c).rd RS_FCOUNT.count = count.toNat ∧
      (lockCountEndStep 4 count c).rd RS_EVENT.lock = 1 := by
  have full : ((c.rsCounted count.toNat).syn 4).inWin = 4 := by
    rw [Core.rsCounted_inWin, hw, if_pos rfl, h3]
    rfl
  have shown : (c.rsCounted count.toNat).rd RS_FCOUNT.count = count.toNat :=
    (Core.rd_wr_same c RS_FCOUNT.count count.toNat 0 0).trans (Nat.mod_eq_of_lt count.isLt)
  rw [lockCountEndStep_acquiring count hs, if_pos full]
  exact ⟨Core.rsGoto_state (by decide),
    ((Core.RootTold.rsGoto _ rfl (by decide)).trans (Core.rsSucceeded_told _ rfl (by decide))).trans shown, Core.rsGoto_lock⟩

theorem lockCountEndStep_outside {count : BitVec 32} (hs : c.rsState = sAcq)
    (hw : inWindow count.toNat (c.rd RS_LOCK_CFG.win) = false) :
    (lockCountEndStep 4 count c).rsState = sAcq ∧ ((lockCountEndStep 4 count c).syn 4).inWin = 0 := by
  have anew : ((c.rsCounted count.toNat).syn 4).inWin = 0 := by
    rw [Core.rsCounted_inWin, hw]
    rfl
  rw [lockCountEndStep_acquiring count hs, if_neg (by rw [anew]; decide)]
  exact ⟨(Core.rsCounted_told _ _ rfl (by decide)).trans hs, anew⟩

/-! ## ACQUIRE_TIMEOUT (R186) -/

/-- The Course stage notes the failed attempt (R423). -/
def Core.rsGaveUp (c : Core) : Core :=
  c.on (c.rd STG_STAT.stage = 2) fun c => { c with rsTried := true }.wr STG_STAT.wait 4

theorem Core.rsGaveUp_told : Core.RootTold [] c c.rsGaveUp := Core.RootTold.refl.on fun t => .wrAway (t.hidden rfl) rfl

theorem acquireTimeoutStep_acquiring (hs : c.rsState = sAcq) : acquireTimeoutStep 4 c = c.rsGaveUp.rsGoto sCal kcRetry := by
  unfold acquireTimeoutStep
  dsimp only
  rw [if_pos (by rfl), if_neg (by rw [hs]; decide)]
  rfl

theorem acquireTimeoutStep_effect (hs : c.rsState = sAcq) :
    (acquireTimeoutStep 4 c).rsState = sCal ∧ (acquireTimeoutStep 4 c).rd RS_EVENT.retry = 1 ∧
      bitOf ((acquireTimeoutStep 4 c).rd FLT_RAW.hit 0 0) 24 = true ∧
      (acquireTimeoutStep 4 c).rd RS_RETRY_CNT.count = min (2 ^ RS_RETRY_CNT.count.width - 1) (c.rd RS_RETRY_CNT.count + 1) := by
  have still : c.rsGaveUp.rsState = sAcq := (Core.rsGaveUp_told _ rfl (by decide)).trans hs
  have same : c.rsGaveUp.rd RS_RETRY_CNT.count = c.rd RS_RETRY_CNT.count := Core.rsGaveUp_told _ rfl (by decide)
  obtain ⟨told, count⟩ := Core.rsGoto_retry (new := sCal) still
  rw [acquireTimeoutStep_acquiring hs, ← same]
  exact ⟨Core.rsGoto_state (by decide), told, Core.rsGoto_retry_raw still, count⟩

/-! ## RS_RELOCK (R186) -/

/-- UNLOCKED does not last while the local oscillator runs. -/
theorem Core.rsRetry_state (hs : c.rsState = sUnlocked) (hl : c.rd RS_STAT.lo_ok = 1) : c.rsRetry.rsState = sCal := by
  unfold Core.rsRetry
  rw [hs, Core.rdB_of_one hl, if_pos (by rfl)]
  exact Core.rsGoto_state (by decide)

theorem rsRelockStep_effect (hs : c.rsState = sLocked) (hl : c.rd RS_STAT.lo_ok = 1) :
    (rsRelockStep c).rsState = sCal ∧ (rsRelockStep c).rd RS_EVENT.lock_lost = 1 ∧
      (rsRelockStep c).rd RS_UNLOCK_CNT.count = min (2 ^ RS_UNLOCK_CNT.count.width - 1) (c.rd RS_UNLOCK_CNT.count + 1) := by
  have step : rsRelockStep c = (c.rsGoto sUnlocked kcHost).rsRetry := if_pos hs
  have runs : (c.rsGoto sUnlocked kcHost).rd RS_STAT.lo_ok = 1 := (Core.RootTold.rsGoto _ rfl (by decide)).trans hl
  obtain ⟨lost, count⟩ := Core.rsGoto_lost (new := sUnlocked) (cause := kcHost) hs
  rw [step]
  exact ⟨Core.rsRetry_state (Core.rsGoto_state (by decide)) runs, (Core.RootTold.rsRetry _ rfl (by decide)).trans lost,
    (Core.RootTold.rsRetry _ rfl (by decide)).trans count⟩

/-! ## LO_LOSS (R187) -/

/-- The loss of the local oscillator told, before the state follows. -/
def Core.loLost (c : Core) : Core := (c.wr RS_STAT.lo_ok 0).wr RS_EVENT.lo_lost 1

/-- The Course stage waits for the local oscillator (R423). -/
def Core.loAwaited (c : Core) : Core :=
  c.on (c.rd STG_STAT.stage = 2 && c.rd STG_STAT.step = 2) fun c => c.wr STG_STAT.wait 2

theorem loLossStep_running (hl : c.rd RS_STAT.lo_ok = 1) (hs : c.rsState = sCal ∨ c.rsState = sAcq ∨ c.rsState = sLocked) :
    loLossStep c = ((c.loLost.rsGoto sUnlocked kcLoLost).loAwaited.outRefreshAll kcLoLost).raise 26 := by
  have state : c.loLost.rsState = c.rsState := (Core.rd_wr_root _ rfl rfl rfl 1).trans (Core.rd_wr_root c rfl rfl rfl 0)
  have leaves : (c.loLost.rsState = sCal || c.loLost.rsState = sAcq || c.loLost.rsState = sLocked) = true := by
    simpa only [state, Bool.or_eq_true, decide_eq_true_eq, or_assoc] using hs
  have step : loLossStep c = if !c.rdB RS_STAT.lo_ok then c
      else ((if c.loLost.rsState = sCal || c.loLost.rsState = sAcq || c.loLost.rsState = sLocked
        then c.loLost.rsGoto sUnlocked kcLoLost else c.loLost.rsClock).loAwaited.outRefreshAll kcLoLost).raise 26 := rfl
  rw [step, Core.rdB_of_one hl, if_neg (by decide), if_pos leaves]

theorem loLossStep_effect (hl : c.rd RS_STAT.lo_ok = 1) (hs : c.rsState = sCal ∨ c.rsState = sAcq ∨ c.rsState = sLocked) :
    (loLossStep c).rsState = sUnlocked ∧ (loLossStep c).rd RS_STAT.cause = kcLoLost ∧ (loLossStep c).rd RS_STAT.lo_ok = 0 ∧
      (loLossStep c).rd RS_EVENT.lo_lost = 1 ∧ bitOf ((loLossStep c).rd FLT_RAW.hit 0 0) 26 = true := by
  let d := c.loLost.rsGoto sUnlocked kcLoLost
  have after : Core.RootTold [] d ((d.loAwaited.outRefreshAll kcLoLost).raise 26) :=
    .raise (.outRefreshAll (Core.RootTold.refl.on fun t => t.wrAway rfl))
  have low : c.loLost.rd RS_STAT.lo_ok = 0 := (Core.rd_wr_root _ rfl rfl rfl 1).trans (Core.rd_wr_same ..)
  rw [loLossStep_running hl hs]
  refine ⟨?_, ?_, ?_, ?_, Core.raise_root_raw _ (by decide)⟩
  · exact (after _ rfl (by decide)).trans (Core.rsGoto_state (by decide))
  · exact (after _ rfl (by decide)).trans (Core.rsGoto_cause (by decide))
  · exact (after _ rfl (by decide)).trans ((Core.RootTold.rsGoto _ rfl (by decide)).trans low)
  · exact (after _ rfl (by decide)).trans ((Core.RootTold.rsGoto _ rfl (by decide)).trans (Core.rd_wr_same ..))

/-! ## LO_RESTORED (R187) -/

/-- The local oscillator runs and its measurement stands, with the clocks that follow (R187, R418). -/
def Core.loBack (c : Core) : Core :=
  let d := (c.wr RS_STAT.lo_ok 1).wr RS_EVENT.lo_back 1
  (d.on (d.footed && d.loNom = 0) fun c => c.wrU RS_LO_MEAS.khz c.loKhz).rsClock

/-- The stages no longer wait for the local oscillator (R423). -/
def Core.loMet (c : Core) : Core :=
  c.on (c.rd STG_STAT.wait = 2) fun c => c.wr STG_STAT.wait
    (if c.rd STG_STAT.stage = 1 && 4 ≤ c.rd STG_STAT.bootsel then 1 else if c.rsTried then 4 else 0)

/-- The Course stage leaves RS alone once it has started and the local oscillator runs. -/
theorem Core.rsCourse_started (hl : c.rd RS_STAT.lo_ok = 1) (hs : c.rsState ≠ rsBypass) : c.rsCourse = c := by
  unfold Core.rsCourse
  rw [Core.rdB_of_one hl, if_neg (by decide), if_neg hs]

theorem loRestoredStep_running (hr : c.inReset = false) (hl : c.rd RS_STAT.lo_ok = 0) :
    loRestoredStep c =
      (if c.loBack.loMet.rsRetry.rd STG_STAT.stage = 2 && c.loBack.loMet.rsRetry.rd STG_STAT.step = 2
        then c.loBack.loMet.rsRetry.rsCourse else c.loBack.loMet.rsRetry).outRefreshAll kcStart := by
  unfold loRestoredStep
  rw [Core.rdB_of_zero hl, hr, if_neg (by decide)]
  rfl

theorem Core.loBack_effect (c : Core) : c.loBack.rsState = c.rsState ∧ c.loBack.rd RS_STAT.lo_ok = 1 ∧
    c.loBack.rd RS_EVENT.lo_back = 1 := by
  have measured : Core.RootTold (RS_LO_MEAS.khz :: rsClockFlds) ((c.wr RS_STAT.lo_ok 1).wr RS_EVENT.lo_back 1) c.loBack :=
    .rsClock (.on .refl fun t => t.wr (by decide) rfl) (by decide)
  have runs : ((c.wr RS_STAT.lo_ok 1).wr RS_EVENT.lo_back 1).rd RS_STAT.lo_ok = 1 :=
    (Core.rd_wr_root _ rfl rfl rfl 1).trans (Core.rd_wr_same ..)
  have state : ((c.wr RS_STAT.lo_ok 1).wr RS_EVENT.lo_back 1).rsState = c.rsState :=
    (Core.rd_wr_root _ rfl rfl rfl 1).trans (Core.rd_wr_root c rfl rfl rfl 1)
  exact ⟨(measured _ rfl (by decide)).trans state, (measured _ rfl (by decide)).trans runs,
    (measured _ rfl (by decide)).trans (Core.rd_wr_same ..)⟩

theorem loRestoredStep_effect (hr : c.inReset = false) (hl : c.rd RS_STAT.lo_ok = 0) (hs : c.rsState = sUnlocked) :
    (loRestoredStep c).rsState = sCal ∧ (loRestoredStep c).rd RS_STAT.lo_ok = 1 ∧
      (loRestoredStep c).rd RS_EVENT.lo_back = 1 := by
  obtain ⟨state, runs, back⟩ := c.loBack_effect
  let d := c.loBack.loMet
  have met : Core.RootTold [] c.loBack d := Core.RootTold.refl.on fun t => t.wrAway rfl
  have retried : d.rsRetry.rsState = sCal :=
    Core.rsRetry_state ((met _ rfl (by decide)).trans (state.trans hs)) ((met _ rfl (by decide)).trans runs)
  have kept : Core.RootTold rsQuietFlds c.loBack d.rsRetry := .trans (met.mono (by decide)) .rsRetry
  have high : d.rsRetry.rd RS_STAT.lo_ok = 1 := (kept _ rfl (by decide)).trans runs
  rw [loRestoredStep_running hr hl, Core.rsCourse_started high (by rw [retried]; decide), ite_self]
  have shown : Core.RootTold [] d.rsRetry (d.rsRetry.outRefreshAll kcStart) := .outRefreshAll .refl
  exact ⟨(shown _ rfl (by decide)).trans retried, (shown _ rfl (by decide)).trans high,
    (shown _ rfl (by decide)).trans ((kept _ rfl (by decide)).trans back)⟩

end

/-- Settles O32: each command comes to one or two changes of the root's state, and neither PCLK's stop nor its start, which a
change brings about, touches the root's registers. -/
theorem rootStates : Obligations.RootStates := by
  unfold Obligations.RootStates
  refine ⟨?calibrated, ?locks, ?outside, ?gaveUp, ?relock, ?lost, ?restored⟩
  case calibrated =>
    intro s hr hs
    refine onRunCore_answers hr ?_
    rw [Dev.act_rsState, Dev.act_rdRoot _ _ _ rfl]
    exact rsCalDoneStep_effect hs
  case locks =>
    intro s count hr hs h3 hw
    refine onRunCore_answers hr ?_
    rw [Dev.act_rsState, Dev.act_rdRoot _ _ _ rfl, Dev.act_rdRoot _ _ _ rfl]
    exact lockCountEndStep_locks hs h3 hw
  case outside =>
    intro s count hr hs hw
    refine onRunCore_answers hr ?_
    rw [Dev.act_rsState, Dev.act_syn]
    exact lockCountEndStep_outside hs hw
  case gaveUp =>
    intro s hr hs
    refine onRunCore_answers hr ?_
    rw [Dev.act_rsState, Dev.act_rdRoot _ _ _ rfl, Dev.act_rd_key _ _ _ _ _ (by decide), Dev.act_rdRoot _ _ _ rfl]
    exact acquireTimeoutStep_effect hs
  case relock =>
    intro s hr hs hl
    refine onRunCore_answers hr ?_
    rw [Dev.act_rsState, Dev.act_rdRoot _ _ _ rfl, Dev.act_rdRoot _ _ _ rfl]
    exact rsRelockStep_effect hs hl
  case lost =>
    intro s hr hl hs
    refine onRunCore_answers hr ?_
    rw [Dev.act_rsState, Dev.act_rdRoot _ _ _ rfl, Dev.act_rdRoot _ _ _ rfl, Dev.act_rdRoot _ _ _ rfl,
      Dev.act_rd_key _ _ _ _ _ (by decide)]
    exact loLossStep_effect hl hs
  case restored =>
    intro s hr hl hs
    refine onRunCore_answers hr ?_
    rw [Dev.act_rsState, Dev.act_rdRoot _ _ _ rfl, Dev.act_rdRoot _ _ _ rfl]
    exact loRestoredStep_effect hr hl hs

end Sys2Proof.Machine
end

section
/-! The registers of the interval meter (R241), and what its calibration tables, a record and a fault leave of them (R224, R233,
R239, R470). -/

namespace Sys2Proof.Machine

open Sys2Proof

/-! ## Fields of the meter's registers -/

/-- A field of the meter's registers (R241). -/
def Fld.ofMeter (f : Fld) : Bool := 0x160000 ≤ f.addr 0 0 && f.addr 0 0 < 0x170000 && f.lo < 32

/-- The meter's registers read after a command what the operation left in them. -/
theorem Dev.act_rdMeter (f : Dev → Dev) (d : Dev) (g : Fld) (hg : g.ofMeter = true) : (d.act f).core.rd g = (f d).core.rd g := by
  simp only [Fld.ofMeter, Bool.and_eq_true, decide_eq_true_eq] at hg
  obtain ⟨inside, lo⟩ := hg
  refine Dev.act_rd _ _ _ _ _ lo ?_
  simp only [inSettle, Fld.addr, GLC_STORE_STAT.dirty, MTL_STAT.store_deferred, STG_STAT.store_busy] at inside ⊢
  omega

theorem Dev.act_timState (f : Dev → Dev) (d : Dev) : (d.act f).core.timState = (f d).core.timState := Dev.act_rdMeter _ _ _ rfl

/-! ## The relation -/

/-- The meter's configuration, state and events, the state of the stages and the results of the march test: what the gate and the
tables are judged by. -/
abbrev inMeter (a : Nat) : Prop := (0x160000 ≤ a ∧ a < 0x160048) ∨ a = STG_STAT.degraded.addr 0 0 ∨ (0x230100 ≤ a ∧ a < 0x230140)

/-- From `c` to `d` those registers and the memory map are as they were. -/
structure Core.MeterSame (c d : Core) : Prop where
  regs : Core.Alike inMeter c d
  map : d.memMap = c.memMap

namespace Core.MeterSame

variable {c d e : Core}

protected theorem refl : MeterSame c c := ⟨Core.Alike.refl _ c, rfl⟩

protected theorem trans (s : MeterSame c d) (k : MeterSame d e) : MeterSame c e := ⟨s.regs.trans k.regs, k.map.trans s.map⟩

theorem wr {f : Fld} {v i k : Nat} (s : MeterSame c d) (hl : f.lo < 32) (ha : ¬ inMeter (f.addr i k)) :
    MeterSame c (d.wr f v i k) := s.trans ⟨Core.Alike.wr d f v i k hl ha, rfl⟩

/-- An update of hidden state. -/
theorem hidden (s : MeterSame c d) (hr : e.regs = d.regs) (hm : e.memMap = d.memMap) : MeterSame c e :=
  s.trans ⟨Core.Alike.of_regs hr, hm⟩

theorem ite {p : Prop} [Decidable p] (s : MeterSame c d) (k : MeterSame c e) : MeterSame c (if p then d else e) := by
  split <;> assumption

theorem on {b : Bool} {f : Core → Core} (s : MeterSame c d) (hf : ∀ {e}, MeterSame c e → MeterSame c (f e)) :
    MeterSame c (d.on b f) := ite (hf s) s

theorem each {α : Type} {l : List α} {f : Core → α → Core} (s : MeterSame c d)
    (hf : ∀ {e x}, MeterSame c e → MeterSame c (f e x)) : MeterSame c (d.each l f) := Core.each_keeps (fun _ _ _ s => hf s) s

/-! ### Faults and records -/

theorem raise {fs u : Nat} (s : MeterSame c d) : MeterSame c (d.raise fs u) := by
  obtain ⟨regs, calm⟩ := d.raise_hit fs u
  have map := congrArg Core.memMap calm
  refine s.trans ⟨fun g j l hg hl => regs g j l ?_ hl, map⟩
  simp only [inMeter, inFlt, Fld.addr, STG_STAT.degraded] at hg ⊢
  omega

theorem emit {rt u a : Nat} {l : List Nat} (s : MeterSame c d) : MeterSame c (d.emit rt u a l) := by
  have dropped (v : Nat) : MeterSame c (d.wr STG_FAB_DROP.dropped v) := s.wr (by decide) (by decide)
  have dead (v : Nat) : MeterSame c (d.wr TIM_DEAD_CNT.count v) := s.wr (by decide) (by decide)
  have keeps {l : List Item} : MeterSame c { d with held := l } := s.hidden rfl rfl
  unfold Core.emit
  split
  · exact s
  · refine ite (s.hidden rfl rfl) ?_
    unfold Core.holdItem
    exact ite (ite (dropped _) keeps) (ite (ite (dead _) keeps) (ite keeps (ite (dropped _) (ite (dropped _) keeps))))

/-! ### Writes of Tile memory (R313 to R316, R485) -/

theorem rowBusy {b : Nat} (s : MeterSame c d) : MeterSame c (d.rowBusy b) :=
  ite ((s.hidden rfl rfl : MeterSame c d.fresh.2).wr (by decide) (by decide)) s

theorem portCount {x : PortMeet} (s : MeterSame c d) : MeterSame c (d.portCount x) :=
  on (on (s.on fun s => s.wr (by decide) (by decide)) fun s => s.wr (by decide) (by decide)) fun s => s.wr (by decide) (by decide)

/-- The counters of TMC_CONF, of whatever bank, lie behind the march test's results. -/
theorem wrConf {v k : Nat} (s : MeterSame c d) : MeterSame c (d.wr TMC_CONF.count v 0 k) := by
  refine s.wr (by decide) ?_
  simp only [inMeter, Fld.addr, TMC_CONF.count, STG_STAT.degraded]
  omega

theorem tileMeet {m : Nat} {l : List Nat} (s : MeterSame c d) : MeterSame c (d.tileMeet m l) := by
  refine s.each fun {e n} s => ?_
  extract_lets w
  split
  · exact s
  · exact ite s (ite (s.each fun s => s.wrConf) (ite s (ite (s.portCount.hidden rfl rfl) s.portCount)))

theorem injFired (s : MeterSame c d) : MeterSame c d.injFired :=
  wr (wr (s.wr (by decide) (by decide)) (by decide) (by decide)) (by decide) (by decide)

theorem tileWrote {l : List Nat} (s : MeterSame c d) : MeterSame c (d.tileWrote l) := by
  unfold Core.tileWrote
  extract_lets w _ e
  have he : MeterSame c e := s.hidden rfl rfl
  exact ite he (he.injFired.hidden rfl rfl)

/-! ### Calibration tables (R233) -/

theorem calRegs (s : MeterSame c d) : MeterSame c d.calRegs := by
  unfold Core.calRegs
  extract_lets x shown c1 c2 c3 c4 c5 c6
  have h3 : MeterSame c c3 := wr (wr (s.wr (by decide) (by decide)) (by decide) (by decide)) (by decide) (by decide)
  have h6 : MeterSame c c6 := wr (wr (h3.wr (by decide) (by decide)) (by decide) (by decide)) (by decide) (by decide)
  exact h6.wr (by decide) (by decide)

theorem setTab {k : Nat} {x : TdcTab} (s : MeterSame c d) : MeterSame c (d.setTab k x) := calRegs (s.hidden rfl rfl)

theorem tabInstall {k : Nat} {w : List Nat} (s : MeterSame c d) : MeterSame c (d.tabInstall k w) := by
  unfold Core.tabInstall
  extract_lets l banks c1 _ c2
  have h1 : MeterSame c c1 := tileWrote (tileMeet (s.each fun s => s.rowBusy))
  have h2 : MeterSame c c2 := setTab (h1.hidden rfl rfl)
  exact ite (setTab (h2.hidden rfl rfl)) h2

theorem timTabs (s : MeterSame c d) : MeterSame c d.timTabs := by
  unfold Core.timTabs
  extract_lets w
  exact ite s (each (s.hidden rfl rfl) fun s => s.tabInstall)

/-- Whether a bank of a use has failed is read from those registers and the map (R425). -/
theorem badUse (s : MeterSame c d) (use : Nat) : d.badUse use = c.badUse use := by
  have failed {b : Nat} (hb : b < 16) : d.rd TMC_BANK.failed 0 b = c.rd TMC_BANK.failed 0 b := by
    refine s.regs _ _ _ ?_ (by decide)
    simp only [inMeter, Fld.addr, TMC_BANK.failed, STG_STAT.degraded]
    omega
  unfold Core.badUse Core.rdB
  rw [s.map, s.regs STG_STAT.degraded 0 0 (by decide) (by decide)]
  congr 1
  rw [Bool.eq_iff_iff]
  simp only [List.any_eq_true]
  refine exists_congr fun b => and_congr_right fun hb => ?_
  rw [failed (List.mem_range.mp hb)]

end Core.MeterSame

end Sys2Proof.Machine
end

section
/-! The gate of the interval meter (R222 to R227, R236, R237). -/

namespace Sys2Proof.Machine

open Sys2Proof

section

variable {c : Core}

/-! ## Opening and closing (R222, R225, R226) -/

theorem Core.gateActive_eq_true : c.gateActive = true ↔ c.tim.gatePin ≠ c.rdB TIM_CFG.gate_pol := by
  unfold Core.gateActive
  exact decide_eq_true_iff

/-- With TSCLK running a gate that opens stays open. -/
theorem Core.gateOpen_effect (hp : c.pclk = true) :
    c.gateOpen.timState = tsGating ∧ c.gateOpen.rd TIM_BUF_STAT.count = 0 ∧
      c.gateOpen.rd TIM_STAT.meas = (c.rd TIM_STAT.meas + 1) % 2 ^ 16 ∧ c.gateOpen.tim.gatePin = c.tim.gatePin := by
  unfold Core.gateOpen Core.wrB
  extract_lets dev c1 c2 c3 _ c4
  have runs : c4.pclk = true := by
    rw [← hp]
    unfold Core.pclk
    simp (disch := decide) only [c4, c3, c2, c1, Core.setTim_rd, Core.rd_wr_ne]
  rw [runs, Bool.not_true, Bool.and_false, if_neg Bool.false_ne_true]
  unfold Core.timState
  simp (disch := decide) only [c4, c3, c2, c1, Core.setTim_rd, Core.rd_wr_ne, Core.rd_wr_same]
  exact ⟨rfl, rfl, rfl, rfl⟩

/-- The tables that a closing installs leave the meter's state. -/
theorem Core.gateClose_rd (code : Nat) (g : Fld) (hg : inMeter (g.addr 0 0)) (hl : g.lo < 32) :
    (c.gateClose code).rd g = ((c.wr TIM_STAT.endCode code).wr TIM_STAT.state tsFinishing).rd g :=
  Core.MeterSame.refl.timTabs.regs g 0 0 hg hl

theorem Core.gateClose_effect (code : Nat) :
    (c.gateClose code).timState = tsFinishing ∧ (c.gateClose code).rd TIM_STAT.endCode = code % 16 := by
  unfold Core.timState
  rw [Core.gateClose_rd code _ (by decide) (by decide), Core.gateClose_rd code _ (by decide) (by decide)]
  simp (disch := decide) only [Core.rd_wr_ne, Core.rd_wr_same]
  exact ⟨rfl, rfl⟩

theorem Core.gateClose_tb_state (code : Nat) : (c.gateClose code).rd TIM_STAT.tb_state = c.rd TIM_STAT.tb_state := by
  rw [Core.gateClose_rd code _ (by decide) (by decide)]
  simp (disch := decide) only [Core.rd_wr_ne]

/-! ## ARM (R226) -/

theorem armStep_opens (he : c.estRun = true) (hs : c.timState = tsReady) (hg : c.rd TIM_CFG.gate_src = 2) :
    armStep false c = c.gateOpen := by
  unfold armStep Core.timArm
  rw [he, hs, hg]
  rfl

theorem armStep_ignored (he : c.estRun = true) (hs : c.timState ≠ tsReady) : armStep false c = c.wr TIM_EVENT.arm_ignored 1 := by
  unfold armStep Core.timArm
  rw [he, decide_eq_false hs, Bool.and_false]
  rfl

/-! ## TIMGATE_EDGE (R226, R227) -/

/-- The pin at its new level. -/
def Core.gatePinAt (c : Core) (level : Bool) : Core := c.setTim { c.tim with gatePin := level }

theorem timgateEdgeStep_changed {level : Bool} (hl : c.tim.gatePin ≠ level) (hg : c.rd TIM_CFG.gate_src = 0) :
    timgateEdgeStep level c =
      if c.timState = tsReady && (c.gatePinAt level).gateActive then (c.gatePinAt level).gateOpen
      else if c.timState = tsGating && !(c.gatePinAt level).gateActive then (c.gatePinAt level).gateClose 1
      else c.gatePinAt level := by
  have step : timgateEdgeStep level c =
      if !decide (c.tim.gatePin ≠ level) then c.gatePinAt level
      else if c.timState = tsReady && c.rd TIM_CFG.gate_src ≤ 1 && (c.gatePinAt level).gateActive then (c.gatePinAt level).gateOpen
      else if c.timState = tsGating && c.rd TIM_CFG.gate_src = 0 && !(c.gatePinAt level).gateActive then
        (c.gatePinAt level).gateClose 1
      else c.gatePinAt level := rfl
  rw [step, decide_eq_true hl, hg]
  simp only [Bool.not_true, Bool.false_eq_true, if_false, Nat.zero_le, decide_true, Bool.and_true]

theorem timgateEdgeStep_opens {level : Bool} (hs : c.timState = tsReady) (hg : c.rd TIM_CFG.gate_src = 0)
    (hl : c.tim.gatePin ≠ level) (ha : level ≠ c.rdB TIM_CFG.gate_pol) :
    timgateEdgeStep level c = (c.gatePinAt level).gateOpen := by
  have active : (c.gatePinAt level).gateActive = true := Core.gateActive_eq_true.mpr ha
  rw [timgateEdgeStep_changed hl hg, hs, active]
  rfl

theorem timgateEdgeStep_closes {level : Bool} (hs : c.timState = tsGating) (hg : c.rd TIM_CFG.gate_src = 0)
    (hl : c.tim.gatePin ≠ level) (ha : level = c.rdB TIM_CFG.gate_pol) :
    timgateEdgeStep level c = (c.gatePinAt level).gateClose 1 := by
  have inactive : (c.gatePinAt level).gateActive = false :=
    Bool.eq_false_iff.mpr fun active => Core.gateActive_eq_true.mp active ha
  rw [timgateEdgeStep_changed hl hg, hs, inactive]
  rfl

/-! ## TIM_CTRL_ABORT (R236, R237) -/

/-- An abort of a running gate. -/
theorem timCtrlAbortStep_gating (he : c.estRun = true) (hs : c.timState = tsGating) : timCtrlAbortStep false c =
    (((c.setGate { c.timGate with aborted := true }).gateClose 5).wr TIM_STAT.abort_st 1).wr TIM_EVENT.aborted 1 := by
  unfold timCtrlAbortStep Core.timAbort
  rw [he, hs]
  rfl

theorem timCtrlAbortStep_gating_effect (he : c.estRun = true) (hs : c.timState = tsGating) :
    (timCtrlAbortStep false c).timState = tsFinishing ∧ (timCtrlAbortStep false c).rd TIM_STAT.endCode = 5 ∧
      (timCtrlAbortStep false c).rd TIM_STAT.abort_st = 1 ∧ (timCtrlAbortStep false c).rd TIM_EVENT.aborted = 1 := by
  rw [timCtrlAbortStep_gating he hs]
  obtain ⟨state, code⟩ := Core.gateClose_effect (c := c.setGate { c.timGate with aborted := true }) 5
  unfold Core.timState at state ⊢
  simp (disch := decide) only [Core.rd_wr_ne, Core.rd_wr_same]
  exact ⟨state, code, rfl, rfl⟩

/-- An abort while the result is formed. -/
theorem timCtrlAbortStep_finishing (b : Bool) (he : c.estRun = true) (hs : c.timState = tsFinishing) :
    timCtrlAbortStep b c = if c.timGate.aborted then c else c.wr TIM_STAT.abort_st 2 := by
  unfold timCtrlAbortStep Core.timAbort
  rw [he, hs]
  cases c.timGate.aborted <;> rfl

theorem timCtrlAbortStep_finishing_effect (b : Bool) (he : c.estRun = true) (hs : c.timState = tsFinishing) :
    (timCtrlAbortStep b c).timState = tsFinishing ∧
      (timCtrlAbortStep b c).rd TIM_STAT.abort_st = if c.timGate.aborted then c.rd TIM_STAT.abort_st else 2 := by
  rw [timCtrlAbortStep_finishing b he hs]
  split
  · exact ⟨hs, rfl⟩
  · exact ⟨(Core.rd_wr_ne _ _ _ _ _ _ _ _ (by decide)).trans hs, Core.rd_wr_same ..⟩

/-! ## TIM_RESULT (R225) -/

/-- A gate that does not open by the pin's level waits in READY. -/
theorem Core.timReady_of_gate_src (hg : c.rd TIM_CFG.gate_src ≠ 0) : c.timReady = c.wr TIM_STAT.state tsReady := by
  have source : (c.wr TIM_STAT.state tsReady).rd TIM_CFG.gate_src ≠ 0 := by
    rwa [Core.rd_wr_ne _ _ _ _ _ _ _ _ (by decide)]
  exact if_neg (by rw [decide_eq_false source]; exact Bool.false_ne_true)

/-- The gate is forgotten. -/
def Core.ungated (c : Core) : Core := c.setTim { c.tim with gate := none }

/-- The result's registers (R230, R232). -/
def Core.resultRegs (c : Core) : Core :=
  let d := c.wr TIM_N.n (if c.rd TIM_CFG.mode = 0 then c.timGate.pairs else c.timGate.n)
  if c.rd TIM_CFG.mode = 2 then
    (((d.wrPair TIM_F_LO.f TIM_F_HI.f (d.timFreq c.timGate).1).wrPair TIM_Y_LO.y TIM_Y_HI.y (d.timFreq c.timGate).2.1).wr
      TIM_RES.res (d.timFreq c.timGate).2.2)
  else d

theorem Core.meterSame_resultRegs : Core.MeterSame c c.resultRegs := by
  unfold Core.resultRegs Core.wrPair
  extract_lets d low high
  have counted : Core.MeterSame c d := .wr .refl (by decide) (by decide)
  refine .ite ?_ counted
  exact .wr (.wr (.wr (.wr (.wr counted (by decide) (by decide)) (by decide) (by decide)) (by decide) (by decide))
    (by decide) (by decide)) (by decide) (by decide)

theorem timResultStep_finishing (hs : c.timState = tsFinishing) : timResultStep c =
    (c.resultRegs.timRecord c.timGate (c.resultRegs.rd TIM_STAT.endCode)).ungated.timReady := by
  unfold timResultStep
  rw [hs]
  rfl

theorem timResultStep_effect (hs : c.timState = tsFinishing) (hg : c.rd TIM_CFG.gate_src ≠ 0) :
    (timResultStep c).timState = tsReady ∧ (timResultStep c).tim.gate = none ∧ (timResultStep c).rd TIM_EVENT.result = 1 := by
  obtain ⟨d, told, record⟩ : ∃ d, Core.MeterSame c.resultRegs d ∧
      c.resultRegs.timRecord c.timGate (c.resultRegs.rd TIM_STAT.endCode) = d.wr TIM_EVENT.result 1 :=
    ⟨_, Core.MeterSame.refl.emit, rfl⟩
  have source : (d.wr TIM_EVENT.result 1).ungated.rd TIM_CFG.gate_src ≠ 0 := by
    rwa [Core.ungated, Core.setTim_rd, Core.rd_wr_ne _ _ _ _ _ _ _ _ (by decide),
      (Core.meterSame_resultRegs.trans told).regs TIM_CFG.gate_src 0 0 (by decide) (by decide)]
  rw [timResultStep_finishing hs, record, Core.timReady_of_gate_src source]
  refine ⟨Core.rd_wr_same .., rfl, ?_⟩
  exact (Core.rd_wr_ne _ _ _ _ _ _ _ _ (by decide)).trans (Core.rd_wr_same d TIM_EVENT.result 1 0 0)

end

/-- Settles O35: each command comes to one opening or one closing of the gate, or to one field of the meter's registers; the
tables that a closing installs leave the meter's state alone. -/
theorem gateStates : Obligations.GateStates := by
  unfold Obligations.GateStates
  refine ⟨?armed, ?ignored, ?opened, ?closed, ?expired, ?range, ?aborted, ?late, ?result⟩
  case armed =>
    intro s hr he hs hg hp
    refine onRunCore_answers hr ?_
    rw [Dev.act_timState, Dev.act_rdMeter _ _ _ rfl, Dev.act_rdMeter _ _ _ rfl]
    dsimp only
    rw [armStep_opens he hs hg]
    obtain ⟨state, count, meas, -⟩ := Core.gateOpen_effect hp
    exact ⟨state, count, meas⟩
  case ignored =>
    intro s hr he hs
    refine onRunCore_answers hr ?_
    rw [Dev.act_rdMeter _ _ _ rfl, Dev.act_timState]
    dsimp only
    rw [armStep_ignored he hs]
    exact ⟨Core.rd_wr_same .., Core.rd_wr_ne _ _ _ _ _ _ _ _ (by decide)⟩
  case opened =>
    intro s level hr hs hg hp hl ha
    refine onRunCore_answers hr ?_
    rw [Dev.act_timState, Dev.act_tim]
    dsimp only
    rw [timgateEdgeStep_opens hs hg hl ha]
    obtain ⟨state, -, -, pin⟩ := Core.gateOpen_effect (c := s.dev.core.gatePinAt level) hp
    exact ⟨state, pin⟩
  case closed =>
    intro s level hr hs hg hl ha
    refine onRunCore_answers hr ?_
    rw [Dev.act_timState, Dev.act_rdMeter _ _ _ rfl]
    dsimp only
    rw [timgateEdgeStep_closes hs hg hl ha]
    exact Core.gateClose_effect 1
  case expired =>
    intro s hr hs hg hn
    refine onRunCore_answers hr ?_
    rw [Dev.act_timState, Dev.act_rdMeter _ _ _ rfl]
    have step : gateLengthExpireStep s.dev.core = s.dev.core.gateClose 1 := if_pos (by simp [hs, hg, hn])
    dsimp only
    rw [step]
    exact Core.gateClose_effect 1
  case range =>
    intro s hr hs
    refine onRunCore_answers hr ?_
    rw [Dev.act_timState, Dev.act_rdMeter _ _ _ rfl]
    have step : rangeStep s.dev.core = s.dev.core.gateClose 4 := if_pos hs
    dsimp only
    rw [step]
    exact Core.gateClose_effect 4
  case aborted =>
    intro s hr hs he
    refine onRunCore_answers hr ?_
    rw [Dev.act_timState, Dev.act_rdMeter _ _ _ rfl, Dev.act_rdMeter _ _ _ rfl, Dev.act_rdMeter _ _ _ rfl]
    exact timCtrlAbortStep_gating_effect he hs
  case late =>
    intro s b hr hs he
    refine onRunCore_answers hr ?_
    rw [Dev.act_timState, Dev.act_rdMeter _ _ _ rfl]
    exact timCtrlAbortStep_finishing_effect b he hs
  case result =>
    intro s hr hs hg
    refine onRunCore_answers hr ?_
    rw [Dev.act_timState, Dev.act_tim, Dev.act_rdMeter _ _ _ rfl]
    exact timResultStep_effect hs hg

end Sys2Proof.Machine
end

section
/-! The edges of the interval meter, its time base and the calibration of the TDCs (R221, R223, R228 to R233, R368). -/

namespace Sys2Proof.Machine

open Sys2Proof

section

variable {c : Core}

/-! ## TIM_EDGE (R226, R228, R230) -/

theorem timEdgeStep_early (cyc t : Nat) (code : BitVec 11) (sw : Bool) (hs : c.timState = tsReady) :
    timEdgeStep true cyc code t sw c = c.bump TIM_EARLY_CNT.count := by
  unfold timEdgeStep
  rw [hs]
  rfl

/-- A gate with its first start stamp. -/
def Gate.started (x : TimStamp) (nominal : Bool) : Gate := { uncalP := nominal, n := 1, lastA := some x, pairA := some x }

/-- No stamp stands before the first edge of a gate on TIMREF: it meets no dead time, and its pair waits for the stop edge. -/
theorem timEdgeStep_first (cyc t : Nat) (code : BitVec 11) (hs : c.timState = tsGating) (hm : c.rd TIM_CFG.mode = 0)
    (hg : c.tim.gate = some {}) : timEdgeStep false cyc code t false c =
      c.setGate (Gate.started ⟨cyc, (c.tdcTab 20).fine code.toNat, c.tsGrid t⟩ (c.tdcTab 20).nominal) := by
  have gate : c.timGate = {} := by
    unfold Core.timGate
    rw [hg]
    rfl
  unfold timEdgeStep
  rw [hs, hm, gate]
  simp [gate, tsGating, tsReady, inDead, Gate.started]

/-! ## TIMREF (R221, R223) -/

theorem timrefActivityStep_effect (hu : c.rd TIM_REF_CFG.use = 1) (ht : c.rd TIM_STAT.tb_state = 0) :
    (timrefActivityStep c).rd TIM_STAT.tb_state = 1 := by
  unfold timrefActivityStep
  rw [Core.rdB_of_one hu, ht]
  exact Core.rd_wr_same ..

theorem timrefCountEndStep_locks {count : BitVec 32} {dur : Nat} (ht : c.rd TIM_STAT.tb_state = 1) (hr : c.tim.passRun = 3)
    (hw : ((count.toNat : Int) - 65536).natAbs ≤ c.rd TIM_REF_CFG.win) (hd : timrefNear dur = true) :
    timrefCountEndStep count dur c =
      ((c.setTim { c.tim with passRun := 4, failRun := 0 }).wr TIM_STAT.tb_state 2).wr TIM_EVENT.tb_locked 1 := by
  unfold timrefCountEndStep
  dsimp only
  rw [ht, decide_eq_true hw, hd, hr]
  rfl

/-- The time base lost, before the events tell of it: an open gate on it goes on with TSCLK, or ends (R223, R224). -/
def Core.timrefGone (c : Core) : Core :=
  let d := (c.setTim { c.tim with passRun := 0, failRun := 0 }).wr TIM_STAT.tb_state 0
  if d.timState = tsGating && !d.timGate.dev && !d.timGate.switched then
    if (d.setGate { d.timGate with switched := true }).pclk then d.setGate { d.timGate with switched := true }
    else (d.setGate { d.timGate with switched := true }).gateClose 6
  else d

theorem timrefGapStep_locked (ht : c.rd TIM_STAT.tb_state = 2) :
    timrefGapStep c = (c.timrefGone.wr TIM_EVENT.tb_lost 1).raise 28 := by
  unfold timrefGapStep Core.timrefLost
  rw [ht]
  rfl

theorem Core.timrefGone_tb_state (c : Core) : c.timrefGone.rd TIM_STAT.tb_state = 0 := by
  unfold Core.timrefGone
  extract_lets _ d
  have gone : d.rd TIM_STAT.tb_state = 0 := Core.rd_wr_same ..
  split
  · split
    · exact gone
    · exact (Core.gateClose_tb_state 6).trans gone
  · exact gone

/-- FS28 is a source of every variant, of one unit (R468). -/
theorem Core.raise_timref_raw (c : Core) : bitOf ((c.raise 28).rd FLT_RAW.hit 0 0) 28 = true := by
  refine c.raiseInfo_raw false (fs := 28) ?_
  have here : c.part.fsAbsent 28 = false := Bool.and_false _
  rw [here]
  rfl

theorem timrefGapStep_effect (ht : c.rd TIM_STAT.tb_state = 2) :
    (timrefGapStep c).rd TIM_STAT.tb_state = 0 ∧ (timrefGapStep c).rd TIM_EVENT.tb_lost = 1 ∧
      bitOf ((timrefGapStep c).rd FLT_RAW.hit 0 0) 28 = true := by
  have raised := (Core.MeterSame.refl.raise (c := c.timrefGone.wr TIM_EVENT.tb_lost 1) (fs := 28) (u := 0)).regs
  rw [timrefGapStep_locked ht]
  refine ⟨?_, ?_, Core.raise_timref_raw _⟩
  · rw [raised _ 0 0 (by decide) (by decide), Core.rd_wr_ne _ _ _ _ _ _ _ _ (by decide)]
    exact c.timrefGone_tb_state
  · rw [raised _ 0 0 (by decide) (by decide)]
    exact Core.rd_wr_same ..

/-! ## Slots (R233) -/

/-- The slot is for the TDC placed first. -/
theorem calSlotStep_next {k : Nat} (hn : c.tim.next = some k) (hw : c.tim.wait = []) :
    (calSlotStep c).tim.cur = some k ∧ (calSlotStep c).tim.next = none := by
  unfold calSlotStep
  dsimp only
  rw [hn, hw]
  exact ⟨rfl, rfl⟩

/-- The slot is the next of the round. -/
theorem calSlotStep_round (hn : c.tim.next = none) (hw : c.tim.wait = []) :
    (calSlotStep c).tim.slot = (c.tim.slot + 1) % 32 := by
  unfold calSlotStep
  dsimp only
  rw [hn, hw]
  rfl

/-! ## Tables (R233) -/

theorem Dev.act_tdcTab (f : Dev → Dev) (d : Dev) (k : Nat) : (d.act f).core.tdcTab k = (f d).core.tdcTab k := by
  unfold Core.tdcTab
  rw [Dev.act_tim]

@[simp] theorem Core.tdcTab_setTab_same (c : Core) (k : Nat) (x : TdcTab) : (c.setTab k x).tdcTab k = x :=
  AMap.get_set_same _ c.tim.tabs k x

/-- A table installed in a bank that has not failed. -/
theorem Core.tdcTab_tabInstall (k : Nat) (w : List Nat) (hb : c.badUse 1 = false) :
    (c.tabInstall k w).tdcTab k = { widths := w, span := w.length, measured := true } := by
  unfold Core.tabInstall
  extract_lets l banks c1 _ c2
  have written : Core.MeterSame c c1 := .tileWrote (.tileMeet (Core.MeterSame.refl.each fun s => s.rowBusy))
  have listed : Core.MeterSame c c2 := .setTab (written.hidden rfl rfl)
  rw [listed.badUse, hb, if_neg Bool.false_ne_true]
  exact Core.tdcTab_setTab_same ..

theorem Core.raise_tdcTab (c : Core) (fs u k : Nat) : (c.raise fs u).tdcTab k = c.tdcTab k := by
  have calm := congrArg (fun c : Core => c.tdcTab k) (c.raise_hit fs u).2
  exact calm

/-- FS29 is a source of every variant, and its units are the TDCs (R374, R468). -/
theorem Core.raise_tdc_raw {k : Nat} (hk : c.part.tdc k = true) : bitOf ((c.raise 29 k).rd FLT_RAW.hit 0 0) 29 = true := by
  refine c.raiseInfo_raw false (fs := 29) ?_
  have here : c.part.fsAbsent 29 = false := Bool.and_false _
  have unit : c.part.fsUnitOk 29 k = true := by
    simpa [Part.tdc, Part.fsUnitOk, apply_ite] using hk
  rw [here, unit]
  rfl

@[simp] theorem Core.wr_tdcTab (c : Core) (f : Fld) (v i k j : Nat) : (c.wr f v i k).tdcTab j = c.tdcTab j := rfl

theorem Core.setTab_part (c : Core) (k : Nat) (x : TdcTab) : (c.setTab k x).part = c.part := by
  unfold Core.setTab Core.calRegs Core.wrB
  simp only [Core.wr_part, Core.setTim_part]

/-- In Course a table that fails leaves the nominal one. -/
theorem calTableDoneStep_none {k : Fin 32} {hits : List Nat} (hk : c.part.tdc k.val = true) (hc : c.courseCal = true)
    (hp : c.pclk = true) (hh : tabOf hits (2 ^ 20 * 99) = none) :
    calTableDoneStep k hits c = ((c.setTab k.val { nominal := true }).bump TIM_CAL_FAIL_CNT.count).raise 29 k.val := by
  unfold calTableDoneStep
  dsimp only
  rw [hk, hc, hp, if_neg (by decide), Bool.not_true, Bool.false_and, if_neg Bool.false_ne_true, if_pos rfl, hh]
  rfl

/-- In Course a table that passes is installed at once where its bank is not under test. -/
theorem calTableDoneStep_some {k : Fin 32} {hits w : List Nat} (hk : c.part.tdc k.val = true) (hc : c.courseCal = true)
    (hp : c.pclk = true) (ht : c.tabsBusy = false) (hh : tabOf hits (2 ^ 20 * 99) = some w) :
    calTableDoneStep k hits c = c.tabInstall k.val w := by
  unfold calTableDoneStep
  dsimp only
  rw [hk, hc, hp, if_neg (by decide), Bool.not_true, Bool.false_and, if_neg Bool.false_ne_true, if_pos rfl, hh, ht]
  rfl

theorem calTableDoneStep_fails {k : Fin 32} {hits : List Nat} (hk : c.part.tdc k.val = true) (hc : c.courseCal = true)
    (hp : c.pclk = true) (hh : tabOf hits (2 ^ 20 * 99) = none) :
    ((calTableDoneStep k hits c).tdcTab k.val).nominal = true ∧
      bitOf ((calTableDoneStep k hits c).rd FLT_RAW.hit 0 0) 29 = true := by
  have present : ((c.setTab k.val { nominal := true }).bump TIM_CAL_FAIL_CNT.count).part.tdc k.val = true := by
    rwa [Core.bump, Core.wr_part, Core.setTab_part]
  rw [calTableDoneStep_none hk hc hp hh]
  refine ⟨?_, Core.raise_tdc_raw present⟩
  rw [Core.raise_tdcTab, Core.bump, Core.wr_tdcTab, Core.tdcTab_setTab_same]

theorem calTableDoneStep_passes {k : Fin 32} {hits : List Nat} (hk : c.part.tdc k.val = true) (hc : c.courseCal = true)
    (hp : c.pclk = true) (ht : c.tabsBusy = false) (hb : c.badUse 1 = false) (hh : (tabOf hits (2 ^ 20 * 99)).isSome = true) :
    (calTableDoneStep k hits c).tdcTab k.val =
      { widths := (tabOf hits (2 ^ 20 * 99)).getD [], span := ((tabOf hits (2 ^ 20 * 99)).getD []).length, measured := true } := by
  obtain ⟨w, hw⟩ := Option.isSome_iff_exists.mp hh
  rw [calTableDoneStep_some hk hc hp ht hw, hw]
  exact Core.tdcTab_tabInstall k.val w hb

/-! ## TIM_CAL_DATA (R241, R368) -/

theorem timCalDataReadStep_entry :
    (timCalDataReadStep c).rd TIM_CAL_IDX.entry = (c.rd TIM_CAL_IDX.entry + 1) % 2048 := by
  unfold timCalDataReadStep Core.calDataRead Core.calRegs Core.wrB
  simp (disch := decide) only [Core.rd_wr_ne, Core.rd_wr_same]
  exact Nat.mod_mod _ 2048

end

/-- Settles O36: each edge or count comes to one update of the meter, a table that passes is what the installed one reads
whatever its writing meets in Tile memory, and the fault of one that fails names a TDC that the variant has. -/
theorem meterEdges : Obligations.MeterEdges := by
  unfold Obligations.MeterEdges
  refine ⟨?early, ?first, ?activity, ?locks, ?gap, ?now, ?placed, ?round, ?fails, ?passes, ?read⟩
  case early =>
    intro s cyc t code sw hr hs
    refine onRunCore_answers hr ?_
    rw [Dev.act_rdMeter _ _ _ rfl]
    dsimp only
    rw [timEdgeStep_early cyc t code sw hs, Core.rd_bump_same]
    exact Nat.min_comm ..
  case first =>
    intro s cyc t code hr hs hm hg
    refine onRunCore_answers hr ?_
    rw [Dev.act_tim, Dev.act_timState]
    dsimp only
    rw [timEdgeStep_first cyc t code hs hm hg]
    exact ⟨rfl, hs⟩
  case activity =>
    intro s hr hu ht
    refine onRunCore_answers hr ?_
    rw [Dev.act_rdMeter _ _ _ rfl]
    exact timrefActivityStep_effect hu ht
  case locks =>
    intro s count dur hr ht hp hw hd
    refine onRunCore_answers hr ?_
    rw [Dev.act_rdMeter _ _ _ rfl, Dev.act_rdMeter _ _ _ rfl]
    dsimp only
    rw [timrefCountEndStep_locks ht hp hw hd]
    exact ⟨(Core.rd_wr_ne _ _ _ _ _ _ _ _ (by decide)).trans (Core.rd_wr_same ..), Core.rd_wr_same ..⟩
  case gap =>
    intro s hr ht
    refine onRunCore_answers hr ?_
    rw [Dev.act_rdMeter _ _ _ rfl, Dev.act_rdMeter _ _ _ rfl, Dev.act_rd_key _ _ _ _ _ (by decide)]
    exact timrefGapStep_effect ht
  case now =>
    intro s hr
    refine onRunCore_answers hr ?_
    rw [Dev.act_tim]
    rfl
  case placed =>
    intro s k hr hn hw
    refine onRunCore_answers hr ?_
    rw [Dev.act_tim]
    exact calSlotStep_next hn hw
  case round =>
    intro s hr hn hw
    refine onRunCore_answers hr ?_
    rw [Dev.act_tim]
    exact calSlotStep_round hn hw
  case fails =>
    intro s k hits hr hk hc hp hh
    refine onRunCore_answers hr ?_
    rw [Dev.act_tdcTab, Dev.act_rd_key _ _ _ _ _ (by decide)]
    exact calTableDoneStep_fails hk hc hp hh
  case passes =>
    intro s k hits hr hk hc hp ht hb hh
    refine onRunCore_answers hr ?_
    rw [Dev.act_tdcTab]
    exact calTableDoneStep_passes hk hc hp ht hb hh
  case read =>
    intro s hr
    refine onRunCore_answers hr ?_
    rw [Dev.act_rdMeter _ _ _ rfl]
    exact timCalDataReadStep_entry

end Sys2Proof.Machine
end

section
/-! The registers of the lanes (R271), and what a record, a fault and the work of other blocks leave of a lane (R246, R270). -/

namespace Sys2Proof.Machine

open Sys2Proof

/-! ## Fields of the lanes' registers -/

theorem Part.nLane_le (p : Part) : p.nLane ≤ 4 := by
  unfold Part.nLane
  split <;> decide

/-- A field of the lanes' registers (R271). -/
def Fld.ofEth (f : Fld) : Bool := f.inBank 0x200000 0x4000

/-- The lanes' block of registers. -/
def inEth (a : Nat) : Prop := 0x200000 ≤ a ∧ a < 0x210000

theorem Fld.addr_ofEth {f : Fld} (hf : f.ofEth = true) {n : Nat} (hn : n < 4) : inEth (f.addr n 0) ∧ f.lo < 32 := by
  obtain ⟨fb, fs, fo, fl⟩ := Fld.inBank_iff.mp hf
  simp only [inEth, Fld.addr, fb, fs]
  omega

theorem Core.rd_wr_eth (c : Core) {f g : Fld} (hf : f.ofEth = true) (hg : g.ofEth = true) (h : f.beside g = true) (v i j : Nat) :
    (c.wr f v j).rd g i = c.rd g i := by
  refine Core.rd_wr_bank c 0x200000 0x4000 v i j hf hg ?_
  simp only [Fld.beside, Bool.or_eq_true, decide_eq_true_eq] at h
  exact h.imp Ne.symm Ne.symm

/-- The lanes' registers read after a command what the operation left in them. -/
theorem Dev.act_rdEth (f : Dev → Dev) (d : Dev) (g : Fld) (n : Fin 4) (hg : g.ofEth = true) :
    (d.act f).core.rd g n = (f d).core.rd g n := by
  obtain ⟨inside, lo⟩ := Fld.addr_ofEth hg n.isLt
  refine Dev.act_rd _ _ _ _ _ lo ?_
  simp only [inEth, inSettle, Fld.addr, GLC_STORE_STAT.dirty, MTL_STAT.store_deferred, STG_STAT.store_busy] at inside ⊢
  omega

theorem Dev.act_laneState (f : Dev → Dev) (d : Dev) (n : Fin 4) : (d.act f).core.laneState n = (f d).core.laneState n :=
  Dev.act_rdEth f d ETH_STAT.state n rfl

/-- The lane's registers are those of a unit that the variant has (R1). -/
theorem Core.atReg_eth {c : Core} {f : Fld} {ex n : Nat} {g : Core → Core} (hf : f.ofEth = true) (hn : n < c.part.nLane) :
    c.atReg ex (f.addr n 0) g = g c := by
  obtain ⟨fb, fs, fo, fl⟩ := Fld.inBank_iff.mp hf
  have most := c.part.nLane_le
  have addr : f.addr n 0 = 0x200000 + n * 0x4000 + f.off := by
    unfold Fld.addr
    rw [fb, fs, Nat.zero_mul, Nat.add_zero]
  have inst : (f.addr n 0 - 0x200000) / 0x4000 = n := by omega
  have here : c.part.absentAt (f.addr n 0) = false := by
    unfold Part.absentAt
    extract_lets u
    have before (k : Nat) (hk : k ≤ 0x200000) (l : Nat) : (decide (l ≤ f.addr n 0) && decide (f.addr n 0 < k)) = false := by
      rw [Bool.and_eq_false_iff]
      exact .inr (decide_eq_false (by omega))
    rw [before _ (by decide), before _ (by decide), before _ (by decide), before _ (by decide), before _ (by decide),
      before _ (by decide), decide_eq_true (show 0x200000 ≤ f.addr n 0 by omega),
      decide_eq_true (show f.addr n 0 < 0x210000 by omega)]
    exact decide_eq_false (by rw [show u 0x200000 0x4000 = n from inst]; omega)
  unfold Core.atReg
  rw [here]
  rfl

/-! ## What is read the same outside some blocks -/

section

variable {b : List Nat} {c d : Core}

theorem Core.Kept.lanes_eq (h : Core.Kept b c d) (hb : 0x20 ∉ b) : d.lanes = c.lanes := by
  have shown (c : Core) : (c.outside b).lanes = c.lanes := by
    simp only [Core.outside, apply_ite Core.lanes, ite_self, List.contains_iff_mem, if_neg hb]
  rw [← shown d, h, shown c]

theorem Core.Kept.engaged_eq (h : Core.Kept b c d) (hb : 2 ∉ b) : d.engaged = c.engaged := by
  have shown (c : Core) : (c.outside b).engaged = c.engaged := by
    simp only [Core.outside, apply_ite Core.engaged, ite_self, List.contains_iff_mem, if_neg hb]
  rw [← shown d, h, shown c]

end

/-! ## The relation -/

/-- From `c` to `d` no register of the lanes is written but the fields `F`, no lane advertises other pause bits, and the
collector's engagements, the blocks in reset and TSCLK are as they were. -/
structure Core.LaneTold (F : List Fld) (c d : Core) : Prop where
  regs : ∀ g : Fld, g.ofEth = true → (∀ f ∈ F, f.beside g = true) → ∀ n < 4, d.rd g n = c.rd g n
  advL : ∀ n, (d.lane n).advL = (c.lane n).advL
  advM : ∀ n, (d.lane n).advM = (c.lane n).advM
  engaged : d.engaged = c.engaged
  inRst : d.inRst = c.inRst
  pclk : d.pclk = c.pclk
  part : d.part = c.part

namespace Core.LaneTold

variable {F : List Fld} {c d e : Core}

protected theorem refl : LaneTold F c c := ⟨fun _ _ _ _ _ => rfl, fun _ => rfl, fun _ => rfl, rfl, rfl, rfl, rfl⟩

protected theorem trans (t : LaneTold F c d) (k : LaneTold F d e) : LaneTold F c e where
  regs := fun g hg hF n hn => (k.regs g hg hF n hn).trans (t.regs g hg hF n hn)
  advL := fun n => (k.advL n).trans (t.advL n)
  advM := fun n => (k.advM n).trans (t.advM n)
  engaged := k.engaged.trans t.engaged
  inRst := k.inRst.trans t.inRst
  pclk := k.pclk.trans t.pclk
  part := k.part.trans t.part

theorem mono {G : List Fld} (t : LaneTold F c d) (hFG : ∀ f ∈ F, f ∈ G) : LaneTold G c d :=
  { t with regs := fun g hg hG => t.regs g hg fun f hf => hG f (hFG f hf) }

/-- A write of one of the fields. -/
theorem wr {f : Fld} {v j : Nat} (t : LaneTold F c d) (hf : f ∈ F) (hr : f.ofEth = true) : LaneTold F c (d.wr f v j) := by
  refine t.trans ⟨fun g hg hF n _ => d.rd_wr_eth hr hg (hF f hf) v n j, fun _ => rfl, fun _ => rfl, rfl, rfl, ?_, rfl⟩
  obtain ⟨fb, fs, fo, fl⟩ := Fld.inBank_iff.mp hr
  unfold Core.pclk
  rw [Core.rd_wr_ne]
  simp only [Fld.key, Fld.addr, RS_STAT.clk_src, fb, fs]
  omega

/-- A write elsewhere. -/
theorem wrAt {f : Fld} {v i k : Nat} (t : LaneTold F c d) (hl : f.lo < 32) (ha : ¬ inEth (f.addr i k))
    (hp : RS_STAT.clk_src.addr 0 0 ≠ f.addr i k) : LaneTold F c (d.wr f v i k) := by
  refine t.trans ⟨fun g hg _ n hn => ?_, fun _ => rfl, fun _ => rfl, rfl, rfl, ?_, rfl⟩
  · obtain ⟨inside, lo⟩ := Fld.addr_ofEth hg hn
    exact Core.rd_wr_addr _ _ _ _ _ _ _ _ hl lo fun same => ha (same ▸ inside)
  · unfold Core.pclk
    rw [Core.rd_wr_addr _ _ _ _ _ _ _ _ hl (by decide) hp]

/-- An update of hidden state that is none of these. -/
theorem hidden (t : LaneTold F c d) (hr : e.regs = d.regs) (hl : e.lanes = d.lanes) (hg : e.engaged = d.engaged)
    (hi : e.inRst = d.inRst) (hp : e.part = d.part) : LaneTold F c e := by
  have same (f : Fld) (i : Nat) : e.rd f i = d.rd f i := by
    unfold Core.rd
    rw [hr]
  have lane (n : Nat) : e.lane n = d.lane n := by
    unfold Core.lane
    rw [hl]
  refine t.trans ⟨fun g _ _ n _ => same g n, fun n => by rw [lane], fun n => by rw [lane], hg, hi, ?_, hp⟩
  unfold Core.pclk
  rw [same]

/-- An update of a lane's hidden state that keeps the pause bits advertised. -/
theorem setLane {n : Nat} {x : LaneU} (t : LaneTold F c d) (hl : x.advL = (d.lane n).advL) (hm : x.advM = (d.lane n).advM) :
    LaneTold F c (d.setLane n x) := by
  have lane (j : Nat) : ((d.setLane n x).lane j).advL = (d.lane j).advL ∧ ((d.setLane n x).lane j).advM = (d.lane j).advM := by
    rw [Core.lane_setLane]
    split
    · next same => rw [same, hl, hm]; exact ⟨rfl, rfl⟩
    · exact ⟨rfl, rfl⟩
  exact t.trans ⟨fun _ _ _ _ _ => rfl, fun j => (lane j).1, fun j => (lane j).2, rfl, rfl, rfl, rfl⟩

theorem ite {p : Prop} [Decidable p] (t : LaneTold F c d) (k : LaneTold F c e) : LaneTold F c (if p then d else e) := by
  split <;> assumption

theorem on {b : Bool} {f : Core → Core} (t : LaneTold F c d) (hf : ∀ {e}, LaneTold F c e → LaneTold F c (f e)) :
    LaneTold F c (d.on b f) := ite (hf t) t

/-- What other blocks do. -/
theorem kept {b : List Nat} (t : LaneTold F c d) (k : Core.Kept b d e) (h20 : 0x20 ∉ b) (h2 : 2 ∉ b) (h3 : 3 ∉ b)
    (h13 : 0x13 ∉ b) : LaneTold F c e := by
  have lane (n : Nat) : e.lane n = d.lane n := by
    unfold Core.lane
    rw [k.lanes_eq h20]
  refine t.trans ⟨fun g hg _ n hn => ?_, fun n => by rw [lane], fun n => by rw [lane], k.engaged_eq h2, k.inRst_eq h3, ?_, k.part_eq⟩
  · obtain ⟨inside, lo⟩ := Fld.addr_ofEth hg hn
    exact k.rd_eq lo (inBlocks_of_page (p := 0x20) (by unfold inEth at inside; omega) h20 (by decide))
  · unfold Core.pclk
    rw [k.rd_eq (by decide) (inBlocks_of_page (p := 0x13) (by decide) h13 (by decide))]

theorem hit (t : LaneTold F c d) (k : Core.Hit d e) : LaneTold F c e := by
  obtain ⟨regs, calm⟩ := k
  have lanes := congrArg Core.lanes calm
  have engaged := congrArg Core.engaged calm
  have inRst := congrArg Core.inRst calm
  have part := congrArg Core.part calm
  have lane (n : Nat) : e.lane n = d.lane n := congrArg (fun m : AMap LaneU => AMap.get ({} : LaneU) m n) lanes
  refine t.trans ⟨fun g hg _ n hn => ?_, fun n => by rw [lane], fun n => by rw [lane], engaged, inRst, ?_, part⟩
  · obtain ⟨inside, lo⟩ := Fld.addr_ofEth hg hn
    exact regs g n 0 (by unfold inEth at inside; unfold inFlt; omega) lo
  · unfold Core.pclk
    rw [regs RS_STAT.clk_src 0 0 (by unfold inFlt; decide) (by decide)]

theorem raise {fs u : Nat} (t : LaneTold F c d) : LaneTold F c (d.raise fs u) := t.hit (d.raise_hit fs u)

theorem emit {rt u a : Nat} {l : List Nat} (t : LaneTold F c d) : LaneTold F c (d.emit rt u a l) :=
  t.kept (Core.Kept.refl.emit (b := [0x102]) (by decide)) (by decide) (by decide) (by decide) (by decide)

theorem portsEval (t : LaneTold F c d) : LaneTold F c d.portsEval :=
  t.kept (Core.Kept.refl.portsEval (b := [0x21, 0x102]) (by decide) (by decide)) (by decide) (by decide) (by decide) (by decide)

end Core.LaneTold

end Sys2Proof.Machine
end

section
/-! A change of a lane's state: what it writes, and what it leaves (R246, R267, R270). -/

namespace Sys2Proof.Machine

open Sys2Proof

section

variable {c : Core} {n new cause : Nat}

/-! ## The parts of a change -/

/-- The new state with its cause, and the frames that the change ends. -/
def Core.laneMove (c : Core) (n new cause : Nat) : Core :=
  let old := c.laneState n
  let c := (c.wr ETH_STAT.cause cause n).wr ETH_STAT.state new n
  let c := c.on (old = leHold && new = leDown) (fun c => c.bump ETH_HOLD_DROP.count n 0 (c.lane n).holdN)
  c.on (old ≠ new) (fun c => c.setLane n ((c.lane n).enter (c.rd ETH_CFG.mode n) c.now new))

/-- The isolation and the indications of a change from the state `old`. -/
def Core.laneNote (c : Core) (n old new cause : Nat) : Core :=
  let c := c.on (cause = 7) (fun c => c.wr ETH_STAT.isolated 1 n)
  let c := c.on (new = leUp && old ≠ leUp) (fun c => c.wr ETH_EVENT.up 1 n)
  let c := c.on (old = leUp && new ≠ leUp) (fun c => c.wr ETH_EVENT.down 1 n)
  c.on (new = leHold) (fun c => (c.wr ETH_EVENT.hold 1 n).raise 34 n)

/-- OFF knows of no receiver and no isolation. -/
def Core.laneClear (c : Core) (n new : Nat) : Core :=
  if new = leOff then
    ((((c.wr ETH_STAT.l_sync 0 n).wr ETH_STAT.m_sync 0 n).wr ETH_STAT.l_an 0 n).wr ETH_STAT.m_an 0 n).wr ETH_STAT.isolated 0 n
  else c

/-- What a change writes before its fault, its record and the engine's ports follow. -/
def Core.laneMark (c : Core) (n new cause : Nat) : Core :=
  ((c.laneMove n new cause).laneNote n (c.laneState n) new cause).laneClear n new

/-- The fault of a lane that goes down (R270). -/
def Core.laneFault (c : Core) (n old new : Nat) : Core := c.on (old = leUp && new = leDown) (fun c => c.raise 32 n)

theorem Core.laneGoto_eq (c : Core) (n new cause : Nat) : ∃ l, c.laneGoto n new cause =
    (((c.laneMark n new cause).laneFault n (c.laneState n) new).emit 0x38 n (ETH_CFG.en.addr n 0) l).portsEval := ⟨_, rfl⟩

/-! ## What each part leaves -/

theorem LaneU.enter_adv (x : LaneU) (mode now new : Nat) :
    (x.enter mode now new).advL = x.advL ∧ (x.enter mode now new).advM = x.advM := by
  unfold LaneU.enter
  extract_lets stop x1 x2
  have h1 : x1.advL = x.advL ∧ x1.advM = x.advM := by
    unfold x1
    split <;> exact ⟨rfl, rfl⟩
  have h2 : x2.advL = x1.advL ∧ x2.advM = x1.advM := by
    unfold x2
    split <;> exact ⟨rfl, rfl⟩
  exact ⟨h2.1.trans h1.1, h2.2.trans h1.2⟩

def laneMoveFlds : List Fld := [ETH_STAT.cause, ETH_STAT.state, ETH_HOLD_DROP.count]
def laneNoteFlds : List Fld := [ETH_STAT.isolated, ETH_EVENT.up, ETH_EVENT.down, ETH_EVENT.hold]
def laneClearFlds : List Fld := [ETH_STAT.l_sync, ETH_STAT.m_sync, ETH_STAT.l_an, ETH_STAT.m_an, ETH_STAT.isolated]

namespace Core.LaneTold

variable {F : List Fld} {d : Core}

theorem laneMove : LaneTold laneMoveFlds c (c.laneMove n new cause) := by
  unfold Core.laneMove
  extract_lets old c1 c2
  have h1 : LaneTold laneMoveFlds c c1 := .wr (.wr .refl (by decide) rfl) (by decide) rfl
  have h2 : LaneTold laneMoveFlds c c2 := h1.on fun t => t.wr (by decide) rfl
  exact h2.on fun t => t.setLane (LaneU.enter_adv ..).1 (LaneU.enter_adv ..).2

theorem laneNote {old : Nat} : LaneTold laneNoteFlds c (c.laneNote n old new cause) := by
  have wrote {d : Core} {f : Fld} (t : LaneTold laneNoteFlds c d) (hf : f ∈ laneNoteFlds) (hr : f.ofEth = true) :
    LaneTold laneNoteFlds c (d.wr f 1 n) := t.wr hf hr
  exact .on (.on (.on (.on .refl fun t => wrote t (by decide) rfl) fun t => wrote t (by decide) rfl)
    fun t => wrote t (by decide) rfl) fun t => (wrote t (by decide) rfl).raise

theorem laneClear : LaneTold laneClearFlds c (c.laneClear n new) :=
  ite (.wr (.wr (.wr (.wr (.wr .refl (by decide) rfl) (by decide) rfl) (by decide) rfl) (by decide) rfl) (by decide) rfl) .refl

theorem laneFault {old : Nat} (t : LaneTold F c d) : LaneTold F c (d.laneFault n old new) := t.on fun t => t.raise

theorem laneMark : LaneTold (laneMoveFlds ++ laneNoteFlds ++ laneClearFlds) c (c.laneMark n new cause) :=
  ((laneMove.mono (by decide)).trans (laneNote.mono (by decide))).trans (laneClear.mono (by decide))

/-- A change leaves what its marks have written. -/
theorem laneGoto_mark : LaneTold [] (c.laneMark n new cause) (c.laneGoto n new cause) := by
  obtain ⟨l, eq⟩ := c.laneGoto_eq n new cause
  rw [eq]
  exact portsEval (emit (laneFault .refl))

theorem laneGoto (t : LaneTold (laneMoveFlds ++ laneNoteFlds ++ laneClearFlds) c d) :
    LaneTold (laneMoveFlds ++ laneNoteFlds ++ laneClearFlds) c (d.laneGoto n new cause) :=
  (t.trans laneMark).trans (laneGoto_mark.mono (by decide))

end Core.LaneTold

/-! ## What a change shows -/

theorem Core.rd_on (c : Core) (b : Bool) (f : Core → Core) (g : Fld) (i : Nat) :
    (c.on b f).rd g i = if b then (f c).rd g i else c.rd g i := by
  unfold Core.on
  split <;> rfl

theorem Core.laneMove_state : (c.laneMove n new cause).rd ETH_STAT.state n = new % 8 := by
  unfold Core.laneMove
  extract_lets old c1 c2
  have h1 : c1.rd ETH_STAT.state n = new % 8 := Core.rd_wr_same ..
  have h2 : c2.rd ETH_STAT.state n = c1.rd ETH_STAT.state n := by
    unfold c2 Core.bump
    rw [Core.rd_on, Core.rd_wr_eth _ rfl rfl rfl, ite_self]
  rw [Core.rd_on, Core.setLane_rd, ite_self, h2, h1]

theorem Core.laneNote_isolated {old : Nat} (hn : n < 4) (hc : cause ≠ 7) :
    (c.laneNote n old new cause).rd ETH_STAT.isolated n = c.rd ETH_STAT.isolated n := by
  have told : Core.LaneTold [ETH_EVENT.up, ETH_EVENT.down, ETH_EVENT.hold] c (c.laneNote n old new cause) := by
    unfold Core.laneNote
    rw [decide_eq_false hc]
    exact .on (.on (.on .refl fun t => t.wr (by decide) rfl) fun t => t.wr (by decide) rfl)
      fun t => .raise (t.wr (by decide) rfl)
  exact told.regs _ rfl (by decide) n hn

/-- Coming up is indicated. -/
theorem Core.laneNote_up {old : Nat} (hn : n < 4) (ho : old ≠ leUp) : (c.laneNote n old leUp cause).rd ETH_EVENT.up n = 1 := by
  have told (d : Core) : Core.LaneTold [ETH_EVENT.down, ETH_EVENT.hold] (d.wr ETH_EVENT.up 1 n)
      (((d.wr ETH_EVENT.up 1 n).on (old = leUp && leUp ≠ leUp) fun c => c.wr ETH_EVENT.down 1 n).on (leUp = leHold)
        fun c => (c.wr ETH_EVENT.hold 1 n).raise 34 n) :=
    .on (.on .refl fun t => t.wr (by decide) rfl) fun t => .raise (t.wr (by decide) rfl)
  unfold Core.laneNote
  rw [decide_eq_true ho]
  exact ((told _).regs _ rfl (by decide) n hn).trans (Core.rd_wr_same ..)

/-- Going down is indicated. -/
theorem Core.laneNote_down (hn : n < 4) (hw : new ≠ leUp) : (c.laneNote n leUp new cause).rd ETH_EVENT.down n = 1 := by
  have told (d : Core) : Core.LaneTold [ETH_EVENT.hold] (d.wr ETH_EVENT.down 1 n)
      ((d.wr ETH_EVENT.down 1 n).on (new = leHold) fun c => (c.wr ETH_EVENT.hold 1 n).raise 34 n) :=
    .on .refl fun t => .raise (t.wr (by decide) rfl)
  unfold Core.laneNote
  rw [decide_eq_true hw]
  exact ((told _).regs _ rfl (by decide) n hn).trans (Core.rd_wr_same ..)

theorem Core.laneClear_rd {g : Fld} (hg : g = ETH_STAT.l_sync ∨ g = ETH_STAT.m_sync ∨ g = ETH_STAT.isolated) :
    (c.laneClear n new).rd g n = if new = leOff then 0 else c.rd g n := by
  unfold Core.laneClear
  split
  · rcases hg with rfl | rfl | rfl <;> simp (disch := decide) only [Core.rd_wr_eth, Core.rd_wr_same] <;> rfl
  · rfl

theorem Core.laneGoto_state (hn : n < 4) : (c.laneGoto n new cause).laneState n = new % 8 := by
  refine (Core.LaneTold.laneGoto_mark.regs _ rfl (by decide) n hn).trans ?_
  refine (Core.LaneTold.laneClear.regs _ rfl (by decide) n hn).trans ?_
  exact (Core.LaneTold.laneNote.regs _ rfl (by decide) n hn).trans Core.laneMove_state

/-- A change to OFF apart, the receivers stay in sync or out of it. -/
theorem Core.laneGoto_sync {g : Fld} (hg : g = ETH_STAT.l_sync ∨ g = ETH_STAT.m_sync) (hn : n < 4) :
    (c.laneGoto n new cause).rd g n = if new = leOff then 0 else c.rd g n := by
  have eth : g.ofEth = true := by rcases hg with rfl | rfl <;> rfl
  have moved : ∀ f ∈ laneMoveFlds ++ laneNoteFlds, f.beside g = true := by rcases hg with rfl | rfl <;> decide
  rw [Core.LaneTold.laneGoto_mark.regs g eth (by simp) n hn, Core.laneMark, Core.laneClear_rd (by tauto),
    ((Core.LaneTold.laneMove.mono (by decide)).trans (Core.LaneTold.laneNote.mono (by decide))).regs g eth moved n hn]

theorem Core.laneGoto_isolated (hn : n < 4) (hc : cause ≠ 7) :
    (c.laneGoto n new cause).rd ETH_STAT.isolated n = if new = leOff then 0 else c.rd ETH_STAT.isolated n := by
  rw [Core.LaneTold.laneGoto_mark.regs _ rfl (by simp) n hn, Core.laneMark, Core.laneClear_rd (by tauto),
    Core.laneNote_isolated hn hc, Core.LaneTold.laneMove.regs _ rfl (by decide) n hn]

theorem Core.laneGoto_up (hn : n < 4) (hs : c.laneState n ≠ leUp) : (c.laneGoto n leUp cause).rd ETH_EVENT.up n = 1 := by
  refine (Core.LaneTold.laneGoto_mark.regs _ rfl (by simp) n hn).trans ?_
  exact (Core.LaneTold.laneClear.regs _ rfl (by decide) n hn).trans (Core.laneNote_up hn hs)

theorem Core.laneGoto_down (hn : n < 4) (hs : c.laneState n = leUp) (hw : new ≠ leUp) :
    (c.laneGoto n new cause).rd ETH_EVENT.down n = 1 := by
  refine (Core.LaneTold.laneGoto_mark.regs _ rfl (by simp) n hn).trans ?_
  refine (Core.LaneTold.laneClear.regs _ rfl (by decide) n hn).trans ?_
  rw [hs]
  exact Core.laneNote_down hn hw

theorem Part.fsUnitOk_lane {p : Part} {fs : Nat} (hf : 32 ≤ fs ∧ fs ≤ 35) (hn : n < p.nLane) :
    (fsSpare fs || decide (96 ≤ fs) || p.fsAbsent fs || !p.fsUnitOk fs n) = false := by
  have present : p.variant ≠ .c1624 := by
    intro absent
    rw [Part.nLane, absent] at hn
    exact Nat.not_lt_zero n hn
  have most : fs < 36 := by omega
  obtain ⟨least, -⟩ := hf
  interval_cases fs <;> simp [fsSpare, Part.fsAbsent, Part.fsUnitOk, present, hn]

/-- A lane that goes down from UP raises FS32 (R270). -/
theorem Core.laneGoto_fault (hn : n < c.part.nLane) (hs : c.laneState n = leUp) :
    bitOf ((c.laneGoto n leDown cause).rd FLT_RAW.hit 0 1) 0 = true := by
  obtain ⟨l, eq⟩ := c.laneGoto_eq n leDown cause
  have tail (d : Core) : Core.Kept [0x21, 0x102] d (d.emit 0x38 n (ETH_CFG.en.addr n 0) l).portsEval :=
    (Core.Kept.refl.emit (by decide)).portsEval (by decide) (by decide)
  rw [eq, (tail _).rd_eq (by decide) (by decide), hs]
  exact Core.raiseInfo_raw _ false (Part.fsUnitOk_lane ⟨by decide, by decide⟩ (by rw [Core.LaneTold.laneMark.part]; exact hn))

end
end Sys2Proof.Machine
end

section
/-! The states of a lane (R243, R246, R268): what the evaluation asks for in each case. -/

namespace Sys2Proof.Machine

open Sys2Proof

section

variable {c : Core} {n : Nat}

/-! ## The next transition (R246) -/

/-- Only its receivers and its isolation move a lane: it is enabled in a mode that exists and not looped back, TSCLK runs and the
collector does not engage it. -/
structure Core.LaneRuns (c : Core) (n : Nat) : Prop where
  en : c.rd ETH_CFG.en n = 1
  mode : c.rd ETH_CFG.mode n ≠ 3
  depth : c.rd ETH_LOOP.depth n = 0
  pclk : c.pclk = true
  calm : bitOf (c.engTargets 3) n = false

theorem Core.LaneRuns.told {F : List Fld} {d : Core} (r : c.LaneRuns n) (t : Core.LaneTold F c d) (hn : n < 4)
    (hF : ∀ f ∈ F, f.beside ETH_CFG.en = true ∧ f.beside ETH_CFG.mode = true ∧ f.beside ETH_LOOP.depth = true) : d.LaneRuns n where
  en := (t.regs _ rfl (fun f hf => (hF f hf).1) n hn).trans r.en
  mode := by rw [t.regs _ rfl (fun f hf => (hF f hf).2.1) n hn]; exact r.mode
  depth := (t.regs _ rfl (fun f hf => (hF f hf).2.2) n hn).trans r.depth
  pclk := t.pclk.trans r.pclk
  calm := by unfold Core.engTargets; rw [t.engaged]; exact r.calm

/-- Such a lane comes up with both receivers in sync, where nothing isolates it. -/
theorem Core.LaneRuns.next_down (r : c.LaneRuns n) (hs : c.laneState n = leDown) : c.laneNext n =
    if c.rdB ETH_STAT.l_sync n && c.rdB ETH_STAT.m_sync n && !c.rdB ETH_STAT.isolated n then some (leUp, 4) else none := by
  unfold Core.laneNext
  rw [hs, Core.rdB_of_one r.en, r.pclk, r.calm, r.depth]
  simp [r.mode, leDown, leOff, leHold, leTest, leUp]

/-- Up, it goes down where a receiver is out of sync. -/
theorem Core.LaneRuns.next_up (r : c.LaneRuns n) (hs : c.laneState n = leUp) : c.laneNext n =
    if !c.rdB ETH_STAT.l_sync n then some (leDown, 2) else if !c.rdB ETH_STAT.m_sync n then some (leDown, 3) else none := by
  unfold Core.laneNext
  rw [hs, Core.rdB_of_one r.en, r.pclk, r.calm, r.depth]
  simp [r.mode, leOff, leHold, leTest, leUp]

/-- No transition isolates a lane that the collector does not engage. -/
theorem Core.laneNext_cause (he : bitOf (c.engTargets 3) n = false) : ∀ r ∈ c.laneNext n, r.2 ≠ 7 := by
  have stays : ∀ r ∈ (none : Option (Nat × Nat)), r.2 ≠ 7 := fun _ h => nomatch h
  have goes {new cause : Nat} (h : cause ≠ 7) : ∀ r ∈ some (new, cause), r.2 ≠ 7 := fun r hr => by
    rw [← Option.some.inj hr]
    exact h
  have ite {p : Prop} [Decidable p] {x y : Option (Nat × Nat)} (h : ∀ r ∈ x, r.2 ≠ 7) (k : ∀ r ∈ y, r.2 ≠ 7) :
      ∀ r ∈ (if p then x else y), r.2 ≠ 7 := by
    split <;> assumption
  unfold Core.laneNext
  dsimp only
  rw [he, Bool.false_and, if_neg Bool.false_ne_true]
  have off {cause : Nat} (h : cause ≠ 7) := ite (p := c.laneState n = leOff) stays (goes (new := leOff) h)
  exact ite (off (by decide)) (ite (off (by decide)) (ite (ite (goes (by decide)) stays) (ite (ite stays (goes (by decide)))
    (ite (goes (by decide)) (ite (ite stays (goes (by decide))) (ite (goes (by decide)) (ite (ite (goes (by decide))
      (ite (goes (by decide)) stays)) (ite (goes (by decide)) stays))))))))

/-! ## The evaluation -/

/-- What every transition preserves, the evaluation preserves. -/
theorem Core.laneSteps_keeps {Q : Core → Prop} (step : ∀ d, Q d → ∀ r ∈ d.laneNext n, Q (d.laneGoto n r.1 r.2)) (k : Nat)
    (h : Q c) : Q (Core.laneSteps k c n) := by
  induction k generalizing c with
  | zero => exact h
  | succ k ih =>
    unfold Core.laneSteps
    split
    · next new cause next => exact ih (step c h (new, cause) next)
    · exact h

theorem Core.laneSteps_none (h : c.laneNext n = none) (k : Nat) : Core.laneSteps k c n = c := by
  cases k with
  | zero => rfl
  | succ k =>
    unfold Core.laneSteps
    rw [h]

/-- One transition, after which the lane rests. -/
theorem Core.laneEval_once {new cause : Nat} (hn : n < c.part.nLane) (hr : c.inRst = []) (h : c.laneNext n = some (new, cause))
    (rest : (c.laneGoto n new cause).laneNext n = none) (on : (c.laneGoto n new cause).laneState n ≠ leOff) :
    c.laneEval n = c.laneGoto n new cause := by
  have steps : Core.laneSteps 4 c n = c.laneGoto n new cause := by
    unfold Core.laneSteps
    rw [h]
    exact Core.laneSteps_none rest 3
  unfold Core.laneEval
  dsimp only
  rw [hr, decide_eq_false (Nat.not_le.mpr hn), steps, decide_eq_false on]
  rfl

/-- What the evaluation's transitions preserve, and the cause that shows CFG_INVALID in OFF, the evaluation preserves (R243). -/
theorem Core.laneEval_keeps {Q : Core → Prop} (step : ∀ d, Q d → ∀ r ∈ d.laneNext n, Q (d.laneGoto n r.1 r.2))
    (cause : ∀ d, Q d → Q (d.wr ETH_STAT.cause 9 n)) (h : Q c) : Q (c.laneEval n) := by
  unfold Core.laneEval
  split
  · exact h
  · extract_lets d
    have hd : Q d := Core.laneSteps_keeps step 4 h
    split
    · exact cause d hd
    · exact hd

theorem Core.LaneTold.laneEval : Core.LaneTold (laneMoveFlds ++ laneNoteFlds ++ laneClearFlds) c (c.laneEval n) :=
  Core.laneEval_keeps (Q := Core.LaneTold (laneMoveFlds ++ laneNoteFlds ++ laneClearFlds) c) (fun _ t _ _ => t.laneGoto)
    (fun _ t => t.wr (by decide) rfl) .refl

/-- A receiver out of sync stays so. -/
theorem Core.laneEval_sync {g : Fld} (hg : g = ETH_STAT.l_sync ∨ g = ETH_STAT.m_sync) (hn : n < 4) (h : c.rd g n = 0) :
    (c.laneEval n).rd g n = 0 := by
  refine Core.laneEval_keeps (Q := fun d => d.rd g n = 0) (fun d hd r _ => ?_) (fun d hd => ?_) h
  · rw [Core.laneGoto_sync hg hn, hd, ite_self]
  · rcases hg with rfl | rfl <;> exact (Core.rd_wr_eth d rfl rfl rfl ..).trans hd

/-- A lane that nothing isolates and the collector does not engage stays so. -/
theorem Core.laneEval_isolated (hn : n < 4) (he : bitOf (c.engTargets 3) n = false) (h : c.rd ETH_STAT.isolated n = 0) :
    (c.laneEval n).rd ETH_STAT.isolated n = 0 := by
  refine (Core.laneEval_keeps (Q := fun d => bitOf (d.engTargets 3) n = false ∧ d.rd ETH_STAT.isolated n = 0)
    (fun d hd r hr => ⟨?_, ?_⟩) (fun d hd => ⟨hd.1, (Core.rd_wr_eth d rfl rfl rfl ..).trans hd.2⟩) ⟨he, h⟩).2
  · unfold Core.engTargets
    rw [(Core.LaneTold.laneGoto .refl).engaged]
    exact hd.1
  · rw [Core.laneGoto_isolated hn (Core.laneNext_cause hd.1 r hr), hd.2, ite_self]

/-! ## Receivers (R243, R245) -/

/-- The fields that show the receivers' sync and negotiation. -/
def laneSyncFlds : List Fld := [ETH_STAT.l_sync, ETH_STAT.l_an, ETH_STAT.m_sync, ETH_STAT.m_an]

theorem Core.LaneTold.sideSync {d : Core} {line v : Bool} (t : Core.LaneTold laneSyncFlds c d) :
    Core.LaneTold laneSyncFlds c (d.sideSync n line v) :=
  ite ((t.wr (by decide) rfl).wr (by decide) rfl) ((t.wr (by decide) rfl).wr (by decide) rfl)

theorem Core.sideSync_line (c : Core) (n : Nat) (v : Bool) : (c.sideSync n true v).rd ETH_STAT.l_sync n = b2n v ∧
    (c.sideSync n true v).rd ETH_STAT.m_sync n = c.rd ETH_STAT.m_sync n := by
  unfold Core.sideSync Core.wrB
  simp (disch := decide) only [if_true, Core.rd_wr_eth, Core.rd_wr_same]
  cases v <;> exact ⟨rfl, trivial⟩

theorem Core.sideSync_mac (c : Core) (n : Nat) (v : Bool) : (c.sideSync n false v).rd ETH_STAT.m_sync n = b2n v ∧
    (c.sideSync n false v).rd ETH_STAT.l_sync n = c.rd ETH_STAT.l_sync n := by
  unfold Core.sideSync Core.wrB
  simp (disch := decide) only [Bool.false_eq_true, if_false, Core.rd_wr_eth, Core.rd_wr_same]
  cases v <;> exact ⟨rfl, trivial⟩

/-! ## The commands -/

theorem Core.engTargets_nil (h : c.engaged = []) (kind : Nat) : c.engTargets kind = 0 := by
  unfold Core.engTargets
  rw [h]
  rfl

/-- A target that the collector drops is held by none of its engagements any longer (R476). -/
theorem Core.engDrop_targets (c : Core) (kind n : Nat) : bitOf ((c.engDrop kind n).engTargets kind) n = false := by
  have clear (x : Nat) : (clrBit x n).testBit n = false := by
    unfold clrBit
    split
    · next h => simp [Nat.testBit_xor, h, Nat.shiftLeft_eq, Nat.testBit_two_pow_self]
    · next h => simpa using h
  have fold (l : List Engaged) (hl : ∀ e ∈ l, e.kind = kind → e.targets.testBit n = false) (a : Nat) (ha : a.testBit n = false) :
      (l.foldl (fun a e => if e.kind = kind then a ||| e.targets else a) a).testBit n = false := by
    induction l generalizing a with
    | nil => exact ha
    | cons e l ih =>
      refine ih (fun e he => hl e (List.mem_cons_of_mem _ he)) _ ?_
      dsimp only
      split
      · next same => rw [Nat.testBit_or, ha, hl e List.mem_cons_self same, Bool.or_false]
      · exact ha
  refine fold _ (fun e he same => ?_) 0 (Nat.zero_testBit n)
  obtain ⟨e', -, rfl⟩ := List.mem_map.mp (List.mem_filter.mp he).1
  by_cases hk : e'.kind = kind
  · rw [if_pos hk]
    exact clear e'.targets
  · rw [if_neg hk] at same
    exact absurd same hk

/-- LANE_SYNC of both sides: the lane comes up (R243, R246). -/
theorem laneSyncStep_up {n : Fin 4} (hn : n.val < c.part.nLane) (r : c.LaneRuns n.val) (hr : c.inRst = [])
    (hi : c.rd ETH_STAT.isolated n.val = 0) (hs : c.laneState n.val = leDown) :
    (laneSyncStep n true true c).laneState n.val = leUp ∧ (laneSyncStep n true true c).rd ETH_STAT.l_sync n.val = 1 ∧
      (laneSyncStep n true true c).rd ETH_STAT.m_sync n.val = 1 ∧ (laneSyncStep n true true c).rd ETH_EVENT.up n.val = 1 := by
  let d := (c.sideSync n.val true true).sideSync n.val false true
  have told : Core.LaneTold laneSyncFlds c d := .sideSync (.sideSync .refl)
  have here : n.val < d.part.nLane := by rwa [told.part]
  have out : d.inRst = [] := by rwa [told.inRst]
  have runs : d.LaneRuns n.val := r.told told n.isLt (by decide)
  have down : d.laneState n.val = leDown := (told.regs _ rfl (by decide) _ n.isLt).trans hs
  have free : d.rd ETH_STAT.isolated n.val = 0 := (told.regs _ rfl (by decide) _ n.isLt).trans hi
  have line : d.rd ETH_STAT.l_sync n.val = 1 := (Core.sideSync_mac ..).2.trans (Core.sideSync_line ..).1
  have mac : d.rd ETH_STAT.m_sync n.val = 1 := (Core.sideSync_mac ..).1
  have next : d.laneNext n.val = some (leUp, 4) := by
    rw [runs.next_down down, Core.rdB_of_one line, Core.rdB_of_one mac, Core.rdB_of_zero free]
    rfl
  let u := d.laneGoto n.val leUp 4
  have up : u.laneState n.val = leUp := Core.laneGoto_state n.isLt
  have lineUp : u.rd ETH_STAT.l_sync n.val = 1 := (Core.laneGoto_sync (.inl rfl) n.isLt).trans line
  have macUp : u.rd ETH_STAT.m_sync n.val = 1 := (Core.laneGoto_sync (.inr rfl) n.isLt).trans mac
  have rest : u.laneNext n.val = none := by
    rw [(runs.told (.laneGoto .refl) n.isLt (by decide)).next_up up, Core.rdB_of_one lineUp, Core.rdB_of_one macUp]
    rfl
  have eval : laneSyncStep n true true c = u := by
    unfold laneSyncStep
    dsimp only
    rw [decide_eq_false (Nat.not_le.mpr hn), hs, if_neg (by decide)]
    exact (Core.laneEval_once here out next rest (by rw [up]; decide) : d.laneEval n.val = u)
  rw [eval]
  exact ⟨up, lineUp, macUp, Core.laneGoto_up n.isLt (by rw [down]; decide)⟩

/-- LANE_SYNC_LOST: a lane that is up goes down (R246, R270). -/
theorem laneSyncLostStep_down {n : Fin 4} {line : Bool} (hn : n.val < c.part.nLane) (r : c.LaneRuns n.val) (hr : c.inRst = [])
    (hs : c.laneState n.val = leUp) :
    (laneSyncLostStep n line c).laneState n.val = leDown ∧ (laneSyncLostStep n line c).rd ETH_EVENT.down n.val = 1 ∧
      bitOf ((laneSyncLostStep n line c).rd FLT_RAW.hit 0 1) 0 = true := by
  let d := c.sideSync n.val line false
  have told : Core.LaneTold laneSyncFlds c d := .sideSync .refl
  have here : n.val < d.part.nLane := by rwa [told.part]
  have out : d.inRst = [] := by rwa [told.inRst]
  have runs : d.LaneRuns n.val := r.told told n.isLt (by decide)
  have up : d.laneState n.val = leUp := (told.regs _ rfl (by decide) _ n.isLt).trans hs
  have lost {e : Core} (he : ∀ g, g = ETH_STAT.l_sync ∨ g = ETH_STAT.m_sync → e.rd g n.val = d.rd g n.val) :
      (e.rdB ETH_STAT.l_sync n.val && e.rdB ETH_STAT.m_sync n.val) = false := by
    rw [Bool.and_eq_false_iff]
    cases line with
    | true => exact .inl (Core.rdB_of_zero ((he _ (.inl rfl)).trans (Core.sideSync_line ..).1))
    | false => exact .inr (Core.rdB_of_zero ((he _ (.inr rfl)).trans (Core.sideSync_mac ..).1))
  obtain ⟨cause, next⟩ : ∃ cause, d.laneNext n.val = some (leDown, cause) := by
    rw [runs.next_up up]
    have out := lost (e := d) fun _ _ => rfl
    cases hl : d.rdB ETH_STAT.l_sync n.val with
    | false => exact ⟨2, rfl⟩
    | true =>
      rw [hl, Bool.true_and] at out
      exact ⟨3, by rw [out]; rfl⟩
  let u := d.laneGoto n.val leDown cause
  have down : u.laneState n.val = leDown := Core.laneGoto_state n.isLt
  have rest : u.laneNext n.val = none := by
    rw [(runs.told (.laneGoto .refl) n.isLt (by decide)).next_down down,
      lost (e := u) fun g hg => Core.laneGoto_sync hg n.isLt]
    rfl
  have eval : laneSyncLostStep n line c = u := by
    unfold laneSyncLostStep
    dsimp only
    rw [decide_eq_false (Nat.not_le.mpr hn), hs, if_neg (by decide)]
    exact (Core.laneEval_once here out next rest (by rw [down]; decide) : d.laneEval n.val = u)
  rw [eval]
  exact ⟨down, Core.laneGoto_down n.isLt up (by decide), Core.laneGoto_fault here up⟩

/-- LANE_RELEASE (R246, R268). -/
theorem laneReleaseStep_isolated {n : Fin 4} (hn : n.val < c.part.nLane) :
    (laneReleaseStep n c).rd ETH_STAT.isolated n.val = 0 := by
  have free := c.engDrop_targets 3 n.val
  unfold laneReleaseStep
  rw [Core.atReg_eth rfl hn]
  unfold Core.laneRelease Core.laneFree
  rw [free, Bool.or_false]
  split
  · next h => simpa [Core.rdB] using h
  · have freed : ((c.engDrop 3 n.val).wr ETH_STAT.isolated 0 n.val).rd ETH_STAT.isolated n.val = 0 := Core.rd_wr_same ..
    dsimp only
    split
    · have calm : bitOf ((((c.engDrop 3 n.val).wr ETH_STAT.isolated 0 n.val).laneGoto n.val leDown 8).engTargets 3) n.val = false := by
        unfold Core.engTargets
        rw [(Core.LaneTold.laneGoto .refl).engaged]
        exact free
      exact Core.laneEval_isolated n.isLt calm ((Core.laneGoto_isolated n.isLt (by decide)).trans freed)
    · exact Core.laneEval_isolated n.isLt free freed

/-- AN_RESTART (R243, R245). -/
theorem anRestartStep_sync {n : Fin 4} (hn : n.val < c.part.nLane) (ha : c.laneAn n.val = true) :
    (anRestartStep n c).rd ETH_STAT.l_sync n.val = 0 ∧ (anRestartStep n c).rd ETH_STAT.m_sync n.val = 0 := by
  have told : Core.LaneTold laneSyncFlds c (c.sideSync n.val true false) := .sideSync .refl
  have an : (c.sideSync n.val true false).laneAn n.val = true := by
    unfold Core.laneAn Core.rdB at ha ⊢
    rwa [told.regs ETH_CFG.mode rfl (by decide) _ n.isLt, told.regs ETH_CFG.an_en rfl (by decide) _ n.isLt]
  unfold anRestartStep Core.anRestart
  rw [Core.atReg_eth rfl hn, if_pos ha, if_pos an]
  exact ⟨Core.laneEval_sync (.inl rfl) n.isLt ((Core.sideSync_mac ..).2.trans (Core.sideSync_line ..).1),
    Core.laneEval_sync (.inr rfl) n.isLt (Core.sideSync_mac ..).1⟩

/-- The other side of a lane whose pause bits change negotiates anew (R243). -/
theorem Core.laneEval_anRestart {line : Bool} {x : LaneU} (hn : n < 4) (ha : c.laneAn n = true) :
    (((c.setLane n x).anRestart n line).laneEval n).rd (if line then ETH_STAT.l_sync else ETH_STAT.m_sync) n = 0 ∧
      ((((c.setLane n x).anRestart n line).laneEval n).lane n).advL = x.advL ∧
      ((((c.setLane n x).anRestart n line).laneEval n).lane n).advM = x.advM := by
  have an : (c.setLane n x).anRestart n line = (c.setLane n x).sideSync n line false := if_pos ha
  rw [an]
  have told : Core.LaneTold laneSyncFlds (c.setLane n x) ((c.setLane n x).sideSync n line false) := .sideSync .refl
  have lane : (c.setLane n x).lane n = x := by rw [Core.lane_setLane, if_pos rfl]
  refine ⟨?_, ?_, ?_⟩
  · cases line with
    | true => exact Core.laneEval_sync (.inl rfl) hn (Core.sideSync_line ..).1
    | false => exact Core.laneEval_sync (.inr rfl) hn (Core.sideSync_mac ..).1
  · rw [Core.LaneTold.laneEval.advL, told.advL, lane]
  · rw [Core.LaneTold.laneEval.advM, told.advM, lane]

theorem pauseBitsChangeStep_eq {n : Fin 4} {line : Bool} {pause : BitVec 2} (hn : n.val < c.part.nLane)
    (ha : c.laneAn n.val = true) (hp : (if line then (c.lane n.val).advM else (c.lane n.val).advL) ≠ pause.toNat) :
    pauseBitsChangeStep n line pause c = ((c.setLane n.val (if line then { c.lane n.val with advM := pause.toNat }
      else { c.lane n.val with advL := pause.toNat })).anRestart n.val (!line)).laneEval n.val := by
  unfold pauseBitsChangeStep
  dsimp only
  rw [decide_eq_false (Nat.not_le.mpr hn), ha, if_neg hp]
  rfl

/-- PAUSE_BITS_CHANGE of the line side's partner (R243). -/
theorem pauseBitsChangeStep_line {n : Fin 4} {pause : BitVec 2} (hn : n.val < c.part.nLane) (ha : c.laneAn n.val = true)
    (hp : (c.lane n.val).advM ≠ pause.toNat) : ((pauseBitsChangeStep n true pause c).lane n.val).advM = pause.toNat ∧
      (pauseBitsChangeStep n true pause c).rd ETH_STAT.m_sync n.val = 0 := by
  obtain ⟨sync, -, adv⟩ := Core.laneEval_anRestart (line := false) (x := { c.lane n.val with advM := pause.toNat }) n.isLt ha
  rw [pauseBitsChangeStep_eq (line := true) hn ha hp]
  exact ⟨adv, sync⟩

/-- PAUSE_BITS_CHANGE of the MAC side's partner (R243). -/
theorem pauseBitsChangeStep_mac {n : Fin 4} {pause : BitVec 2} (hn : n.val < c.part.nLane) (ha : c.laneAn n.val = true)
    (hp : (c.lane n.val).advL ≠ pause.toNat) : ((pauseBitsChangeStep n false pause c).lane n.val).advL = pause.toNat ∧
      (pauseBitsChangeStep n false pause c).rd ETH_STAT.l_sync n.val = 0 := by
  obtain ⟨sync, adv, -⟩ := Core.laneEval_anRestart (line := true) (x := { c.lane n.val with advL := pause.toNat }) n.isLt ha
  rw [pauseBitsChangeStep_eq (line := false) hn ha hp]
  exact ⟨adv, sync⟩

end

/-- Settles O37: a lane that only its receivers and its isolation move takes one transition for each change of these, and no
transition brings a receiver into sync or isolates a lane that the collector does not engage. -/
theorem laneStates : Obligations.LaneStates := by
  unfold Obligations.LaneStates
  have calm {c : Core} (n : Nat) (h : c.engaged = []) : bitOf (c.engTargets 3) n = false := by
    rw [Core.engTargets_nil h]
    exact Nat.zero_testBit n
  refine ⟨?up, ?down, ?release, ?restart, ?line, ?mac⟩
  case up =>
    intro s n hr hn hp he hm hd hrst heng hi hs
    refine onRunCore_answers hr ?_
    rw [Dev.act_laneState, Dev.act_rdEth _ _ _ _ rfl, Dev.act_rdEth _ _ _ _ rfl, Dev.act_rdEth _ _ _ _ rfl]
    exact laneSyncStep_up hn ⟨he, hm, hd, hp, calm _ heng⟩ hrst hi hs
  case down =>
    intro s n line hr hn hp he hm hd hrst heng hs
    refine onRunCore_answers hr ?_
    rw [Dev.act_laneState, Dev.act_rdEth _ _ _ _ rfl, Dev.act_rd_key _ _ _ _ _ (by decide)]
    exact laneSyncLostStep_down hn ⟨he, hm, hd, hp, calm _ heng⟩ hrst hs
  case release =>
    intro s n hr hn
    refine onRunCore_answers hr ?_
    rw [Dev.act_rdEth _ _ _ _ rfl]
    exact laneReleaseStep_isolated hn
  case restart =>
    intro s n hr hn ha
    refine onRunCore_answers hr ?_
    rw [Dev.act_rdEth _ _ _ _ rfl, Dev.act_rdEth _ _ _ _ rfl]
    exact anRestartStep_sync hn ha
  case line =>
    intro s n pause hr hn ha hp
    refine onRunCore_answers hr ?_
    rw [Dev.act_lane, Dev.act_rdEth _ _ _ _ rfl]
    exact pauseBitsChangeStep_line hn ha hp
  case mac =>
    intro s n pause hr hn ha hp
    refine onRunCore_answers hr ?_
    rw [Dev.act_lane, Dev.act_rdEth _ _ _ _ rfl]
    exact pauseBitsChangeStep_mac hn ha hp

end Sys2Proof.Machine
end

section
/-! What a change of a candidate's state and its quality level touch (R73, R81 to R85, R208): a property that each of their single
updates preserves, they preserve. -/

namespace Sys2Proof.Machine

open Sys2Proof

/-- A field of the candidates, the outputs or the pulse aligners. -/
def Fld.ofCandEval (f : Fld) : Bool := f.spans 24 1 && [0x10, 0x14, 0x15].contains f.page

/-- Every single update that a change of a candidate's state makes preserves `R`. -/
structure CandInv (R : Core → Prop) : Prop where
  wr : ∀ {c f v i}, f.ofCandEval = true → i < 24 → R c → R (c.wr f v i)
  hit : ∀ {c d}, Core.Hit c d → R c → R d
  emit : ∀ {c rt u a l}, R c → R (c.emit rt u a l)
  setCand : ∀ {c i x}, R c → R (c.setCand i x)
  setPa : ∀ {c a x}, R c → R (c.setPa a x)
  pairs : ∀ {c x}, R c → R { c with pairs := x }

namespace CandInv

variable {R : Core → Prop} {d e : Core}

theorem ite (_ : CandInv R) {p : Prop} [Decidable p] (k : R d) (l : R e) : R (if p then d else e) := by
  split <;> assumption

theorem on (I : CandInv R) {t : Bool} {f : Core → Core} (k : R d) (hf : ∀ {e}, R e → R (f e)) : R (d.on t f) := I.ite (hf k) k

theorem raise (I : CandInv R) {fs u : Nat} (k : R d) : R (d.raise fs u) := I.hit (d.raise_hit fs u) k

theorem range (_ : CandInv R) {n : Nat} {f : Core → Nat → Core} (hf : ∀ {e i}, i < n → R e → R (f e i)) (k : R d) :
    R (d.each (List.range n) f) := Core.each_keeps (fun _ _ hi k => hf (List.mem_range.mp hi) k) k

/-! ## The pulse aligners (R208) -/

theorem palLow (I : CandInv R) (k : R d) : R d.palLow := I.range (fun hi k => I.wr rfl hi k) k

theorem paGoto (I : CandInv R) {a new cause : Nat} (ha : a < 8) (k : R d) : R (d.paGoto a new cause) := by
  have put {c : Core} {f : Fld} {v : Nat} (hf : f.ofCandEval = true) (k : R c) : R (c.wr f v a) := I.wr hf (by omega) k
  unfold Core.paGoto
  extract_lets old c1 c2 c3 c4 c5 x stop c6 c7
  have h1 : R c1 := put rfl k
  have h3 : R c3 := I.on (put rfl h1 : R c2) fun k => put rfl k
  have h5 : R c5 := I.on (I.on h3 fun k => I.raise (put rfl k) : R c4) fun k => put rfl k
  have h6 : R c6 := I.ite (I.setPa h5) (I.ite (I.setPa h5) h5)
  have h7 : R c7 := I.on h6 fun k => put rfl (put rfl k)
  exact I.ite h1 (I.palLow (I.emit h7))

theorem palEval (I : CandInv R) {a : Nat} (ha : a < 8) (k : R d) : R (d.palEval a) := by
  unfold Core.palEval
  extract_lets st c1 st1 ok
  have goes {c : Core} {new cause : Nat} (k : R c) : R (c.paGoto a new cause) := I.paGoto ha k
  have h1 : R c1 := I.ite (goes k) k
  exact I.ite k (I.ite (I.ite k (goes k)) (I.ite (goes k) (I.ite k (I.ite (I.ite h1 (goes h1)) (I.ite (goes h1)
    (I.ite (I.ite (goes h1) (I.ite (goes h1) h1)) h1))))))

theorem palEvalAll (I : CandInv R) (k : R d) : R d.palEvalAll := I.range (fun ha k => I.palEval ha k) k

/-! ## The candidates (R73, R81, R85) -/

theorem candRegs (I : CandInv R) {i : Nat} (hi : i < 24) (k : R d) : R (d.candRegs i) := by
  unfold Core.candRegs
  extract_lets x c1 c2 c3
  have h1 : R c1 := I.wr rfl hi (I.wr rfl hi k)
  have h2 : R c2 := I.wr rfl hi (I.wr rfl hi h1)
  exact I.wr rfl hi (I.wr rfl hi h2)

theorem pairsClear (I : CandInv R) (k : R d) : R d.pairsClear := by
  unfold Core.pairsClear Core.disRefresh
  extract_lets c1
  have h1 : R c1 := I.range (fun _ k => I.range (fun _ k => I.ite (I.pairs k) k) k) k
  exact I.range (fun hi k => I.wr rfl hi (I.wr rfl hi (I.wr rfl hi k))) h1

theorem candGoto (I : CandInv R) {i new cause : Nat} (hi : i < 24) (k : R d) : R (d.candGoto i new cause) := by
  have put {c : Core} {f : Fld} {v : Nat} (hf : f.ofCandEval = true) (k : R c) : R (c.wr f v i) := I.wr hf hi k
  unfold Core.candGoto
  extract_lets old c1 c2 x time c3 c4 c5 c6 c7 c8 c9 c10 c11 c12 c13 c14 c15
  have h1 : R c1 := put rfl k
  have h2 : R c2 := put rfl h1
  have h4 : R c4 := put rfl (I.candRegs hi (I.setCand h2))
  have h6 : R c6 := I.on h2 fun k => put rfl k
  have h7 : R c7 := I.ite (put rfl h4) (I.ite (put rfl (I.setCand h2)) (I.ite (I.setCand h6) h2))
  have h9 : R c9 := I.on (I.on h7 fun k => put rfl k : R c8) fun k => put rfl k
  have h11 : R c11 := I.on (I.on h9 fun k => put rfl k : R c10) fun k => put rfl k
  have h12 : R c12 := I.pairsClear h11
  have h15 : R c15 := I.on (I.on (I.on h12 fun k => I.raise k : R c13) fun k => I.raise k : R c14) fun k => I.raise k
  exact I.ite h1 (I.palEvalAll (I.emit h15))

theorem candOnce (I : CandInv R) {i : Nat} {act qual wtr : Bool} (hi : i < 24) (k : R d) : R (d.candOnce i act qual wtr) := by
  unfold Core.candOnce
  extract_lets x st
  have goes {new cause : Nat} : R (d.candGoto i new cause) := I.candGoto hi k
  refine I.ite k ?_
  split
  · exact goes
  · refine I.ite goes (I.ite (I.ite goes goes) (I.ite goes ?_))
    split
    · exact goes
    · exact I.ite (I.ite goes goes) (I.ite (I.ite goes goes) (I.ite goes goes))

theorem candEval (I : CandInv R) {i : Nat} {act qual wtr : Bool} (hi : i < 24) (k : R d) : R (d.candEval i act qual wtr) :=
  I.ite (I.candOnce hi (I.candOnce hi k)) (I.candOnce hi k)

theorem setRank (I : CandInv R) {i r : Nat} (hi : i < 24) (k : R d) : R (d.setRank i r) := by
  unfold Core.setRank Core.rankRefresh
  extract_lets old new c1
  have h0 : R (d.wr REF_QL_STAT.rank r i) := I.wr rfl hi k
  have h1 : R c1 := I.ite h0 (I.on (I.wr rfl hi (I.wr rfl hi h0)) fun k => I.raise k)
  exact I.candEval hi h1

/-- The quality level that an ESMC PDU carries (R81). -/
theorem esmcQl (I : CandInv R) {lane ssm essm ne nc : Nat} {ext mixed part : Bool} (k : R d) :
    R (d.esmcQl lane ssm essm ext mixed part ne nc) := by
  refine Core.each_keeps (fun e i hi k => ?_) k
  obtain ⟨hi, -⟩ := Core.of_mem_qlUsers hi
  have put {c : Core} {f : Fld} {v : Nat} (hf : f.ofCandEval = true) (k : R c) : R (c.wr f v i) := I.wr hf hi k
  extract_lets r c1 c2 c3 c4 c5 c6 c7 c8 c9
  have h3 : R c3 := put rfl (put rfl (put rfl k))
  have h6 : R c6 := put rfl (put rfl (put rfl h3))
  have h9 : R c9 := put rfl (put rfl (put rfl h6))
  exact I.setRank hi h9

end CandInv

/-- A change of a candidate's state leaves the lanes alone. -/
theorem Core.LaneTold.candInv {F : List Fld} {c : Core} : CandInv (Core.LaneTold F c) where
  wr := fun {d f v i} hf hi t => by
    simp only [Fld.ofCandEval, Bool.and_eq_true] at hf
    obtain ⟨spans, page⟩ := hf
    have place := Fld.addr_div_of_spans spans hi Nat.one_pos
    simp only [List.contains_iff_mem, List.mem_cons, List.not_mem_nil, or_false] at page
    refine t.wrAt (Fld.lo_of_spans spans) ?_ ?_
    · unfold inEth
      omega
    · simp only [Fld.addr, RS_STAT.clk_src] at place ⊢
      omega
  hit := fun k t => t.hit k
  emit := fun t => t.emit
  setCand := fun t => t.hidden rfl rfl rfl rfl rfl
  setPa := fun t => t.hidden rfl rfl rfl rfl rfl
  pairs := fun t => t.hidden rfl rfl rfl rfl rfl

end Sys2Proof.Machine
end

section
/-! Frames through a lane and ESMC PDUs (R247, R248, R261, R264). -/

namespace Sys2Proof.Machine

open Sys2Proof

section

variable {c : Core} {n : Nat} {m2l good : Bool} {l : List Byte}

/-! ## What a count of a lane leaves alone -/

theorem Core.rd_wr_beforeEth {f g : Fld} {v i : Nat} (hf : f.ofEth = true) (hg : (g.addr 0 0 < 0x200000 && g.lo < 32) = true) :
    (c.wr f v i).rd g = c.rd g := by
  obtain ⟨fb, fs, fo, fl⟩ := Fld.inBank_iff.mp hf
  simp only [Bool.and_eq_true, decide_eq_true_eq] at hg
  refine Core.rd_wr_ne _ _ _ _ _ _ _ _ ?_
  simp only [Fld.key, Fld.addr, fb, fs] at hg ⊢
  omega

/-- What LTX's inserted frames are judged by is no count of a lane. -/
theorem Core.insPending_wr {f : Fld} {v i : Nat} (hf : f.ofEth = true) (hs : f.beside ETH_STAT.state = true) :
    (c.wr f v i).insPending n = c.insPending n := by
  unfold Core.insPending Core.ibUp Core.laneState Core.rdB
  simp only [Core.rd_wr_beforeEth hf (g := HLK_IB_CFG.en) rfl, Core.rd_wr_beforeEth hf (g := HLK_IB_PEER_LO.mac_lo) rfl,
    Core.rd_wr_beforeEth hf (g := HLK_IB_PEER_HI.mac_hi) rfl, Core.rd_wr_beforeEth hf (g := HLK_CFG.qn_port) rfl,
    Core.rd_wr_eth c hf rfl hs]
  rfl

/-- The parser reads the lane's encapsulations and addresses alone (R253, R255). -/
theorem Core.parse_congr {d : Core} (he : d.rd ETH_PTP_CFG.enc n = c.rd ETH_PTP_CFG.enc n) (hm : d.laneMac n = c.laneMac n)
    (h4 : d.rd ETH_IP4.ip4 n = c.rd ETH_IP4.ip4 n) (h6 : d.laneIp6 n = c.laneIp6 n) : d.parse n l = c.parse n l := by
  unfold Core.parse
  rw [he, hm, h4, h6]

/-- A bad FCS of a frame received is counted (R248). -/
def Core.fcsCount (c : Core) (n : Nat) (good : Bool) : Core := c.on (!good) fun c => c.bump ETH_FCS_CNT.count n

theorem Core.fcsCount_keeps {Q : Core → Prop} (h : Q c) (k : Q (c.bump ETH_FCS_CNT.count n)) : Q (c.fcsCount n good) := by
  unfold Core.fcsCount Core.on
  split <;> assumption

theorem Core.fcsCount_rd {g : Fld} (hg : g.ofEth = true) (hf : ETH_FCS_CNT.count.beside g = true) :
    (c.fcsCount n good).rd g n = c.rd g n :=
  Core.fcsCount_keeps (Q := fun d => d.rd g n = c.rd g n) rfl (Core.rd_wr_eth c rfl hg hf ..)

theorem Core.fcsCount_lane (k : Nat) : (c.fcsCount n good).lane k = c.lane k :=
  Core.fcsCount_keeps (Q := fun d => d.lane k = c.lane k) rfl rfl

theorem Core.fcsCount_insPending : (c.fcsCount n good).insPending n = c.insPending n :=
  Core.fcsCount_keeps (Q := fun d => d.insPending n = c.insPending n) rfl (Core.insPending_wr rfl rfl)

theorem Core.fcsCount_parse : (c.fcsCount n good).parse n l = c.parse n l := by
  refine Core.fcsCount_keeps (Q := fun d => d.parse n l = c.parse n l) rfl (Core.parse_congr ?_ ?_ ?_ ?_)
  · exact Core.rd_wr_eth c rfl rfl rfl ..
  · unfold Core.laneMac Core.bump
    rw [Core.rd_wr_eth c rfl rfl rfl, Core.rd_wr_eth c rfl rfl rfl]
  · exact Core.rd_wr_eth c rfl rfl rfl ..
  · have word (k : Nat) (hk : k < 4) : (c.bump ETH_FCS_CNT.count n).rd ETH_IP6.ip6 n k = c.rd ETH_IP6.ip6 n k := by
      refine Core.rd_wr_addr _ _ _ _ _ _ _ _ (by decide) (by decide) ?_
      simp only [Fld.addr, ETH_IP6.ip6, ETH_FCS_CNT.count]
      omega
    unfold Core.laneIp6
    rw [word 0 (by decide), word 1 (by decide), word 2 (by decide), word 3 (by decide)]

/-! ## Forwarding (R247, R248, R261) -/

/-- A frame within maxlen goes out whole, on LTX behind the inserted frames that wait. -/
theorem Core.forward_short {start : Nat} (hs : c.laneState n = leUp) (hl : l.length + 4 ≤ c.rd ETH_CFG.maxlen n) :
    c.forward n m2l good l start = if m2l && c.insPending n
      then c.setLane n { c.lane n with buf := (c.lane n).buf ++ [⟨l, good, false, start⟩] }
      else (c.on m2l fun c => c.bufFlow n).transmit n m2l ⟨l, good, false, start⟩ := by
  unfold Core.forward
  dsimp only
  rw [decide_eq_false (Nat.not_lt.mpr hl), if_neg Bool.false_ne_true]
  exact if_neg (by rw [show (c.on false fun c => c.bump ETH_LONG_CNT.count n).laneState n = leUp from hs]; decide)

/-- A frame of no PTP message that the lane admits is forwarded. -/
theorem throughFrameStep_forwards {n : Fin 4} {stamp : Nat × Nat} {tTx room words : Nat} (hn : n.val < c.part.nLane)
    (hs : c.laneState n.val = leUp) (he : m2l = true ∨ esmcPdu l = false) (ha : c.admits n.val m2l room = true)
    (hp : c.parse n.val l = .other) :
    throughFrameStep n m2l l good stamp tTx room words c = (c.fcsCount n.val good).forward n.val m2l good l tTx := by
  have pdu : (!m2l && esmcPdu l) = false := by rcases he with rfl | h <;> simp [*]
  unfold throughFrameStep Core.reaches
  dsimp only
  rw [if_neg (Nat.not_le.mpr hn), if_neg (by rw [hs]; decide), pdu, if_pos hs]
  dsimp only
  rw [Bool.false_and, if_neg Bool.false_ne_true, if_neg (by decide), ha, if_neg (by decide)]
  have parsed := Core.fcsCount_parse (c := c) (n := n.val) (good := good) (l := l)
  rw [hp] at parsed
  unfold Core.fcsCount at parsed ⊢
  rw [parsed]

/-- One for which the buffer has no room is dropped (R247). -/
theorem throughFrameStep_drops {n : Fin 4} {stamp : Nat × Nat} {tTx room words : Nat} (hn : n.val < c.part.nLane)
    (hs : c.laneState n.val = leUp) (he : m2l = true ∨ esmcPdu l = false) (ha : c.admits n.val m2l room = false) :
    throughFrameStep n m2l l good stamp tTx room words c = c.frameDrop n.val := by
  have pdu : (!m2l && esmcPdu l) = false := by rcases he with rfl | h <;> simp [*]
  unfold throughFrameStep Core.reaches
  dsimp only
  rw [if_neg (Nat.not_le.mpr hn), if_neg (by rw [hs]; decide), pdu, if_pos hs]
  dsimp only
  rw [Bool.false_and, if_neg Bool.false_ne_true, if_neg (by decide), ha]
  rfl

theorem Core.frameDrop_effect (hn : n < c.part.nLane) : (c.frameDrop n).lane n = c.lane n ∧ (c.frameDrop n).rd ETH_EVENT.drop n = 1 ∧
    bitOf ((c.frameDrop n).rd FLT_RAW.hit 0 1) 1 = true := by
  have lanes := congrArg Core.lanes (Core.raise_hit ((c.bump ETH_DROP_CNT.count n).wr ETH_EVENT.drop 1 n) 33 n).2
  refine ⟨congrArg (fun m : AMap LaneU => AMap.get ({} : LaneU) m n) lanes, ?_, ?_⟩
  · have told : Core.LaneTold [] ((c.bump ETH_DROP_CNT.count n).wr ETH_EVENT.drop 1 n) (c.frameDrop n) := .raise .refl
    exact (told.regs _ rfl (by simp) n (Nat.lt_of_lt_of_le hn c.part.nLane_le)).trans (Core.rd_wr_same ..)
  · exact Core.raiseInfo_raw _ false (Part.fsUnitOk_lane ⟨by decide, by decide⟩ hn)

/-! ## THROUGH_FRAME (R247, R261) -/

/-- What forwards behind no inserted frame goes out on LTX at once. -/
theorem throughFrameStep_ltx {n : Fin 4} {stamp : Nat × Nat} {tTx room words : Nat} (hn : n.val < c.part.nLane)
    (hs : c.laneState n.val = leUp) (hi : c.insPending n.val = false) (ha : c.admits n.val true room = true)
    (hl : l.length + 4 ≤ c.rd ETH_CFG.maxlen n.val) (hp : c.parse n.val l = .other) :
    ((throughFrameStep n true l good stamp tTx room words c).lane n.val).ltx = some ⟨l, good, false, tTx⟩ ∧
      ((throughFrameStep n true l good stamp tTx room words c).lane n.val).mtx = (c.lane n.val).mtx := by
  have free : (c.fcsCount n.val good).insPending n.val = false := Core.fcsCount_insPending.trans hi
  rw [throughFrameStep_forwards hn hs (.inl rfl) ha hp,
    Core.forward_short ((Core.fcsCount_rd rfl rfl).trans hs) (by rwa [Core.fcsCount_rd rfl rfl]), free, Bool.and_false,
    if_neg Bool.false_ne_true]
  unfold Core.transmit Core.on Core.bufFlow
  dsimp only
  rw [if_pos rfl, if_pos rfl, free, if_neg Bool.false_ne_true, Core.lane_setLane, if_pos rfl, Core.lane_setLane, if_pos rfl,
    Core.fcsCount_lane]
  exact ⟨rfl, rfl⟩

/-- Behind an inserted frame it waits. -/
theorem throughFrameStep_waits {n : Fin 4} {stamp : Nat × Nat} {tTx room words : Nat} (hn : n.val < c.part.nLane)
    (hs : c.laneState n.val = leUp) (hi : c.insPending n.val = true) (ha : c.admits n.val true room = true)
    (hl : l.length + 4 ≤ c.rd ETH_CFG.maxlen n.val) (hp : c.parse n.val l = .other) :
    ((throughFrameStep n true l good stamp tTx room words c).lane n.val).buf =
        (c.lane n.val).buf ++ [⟨l, good, false, tTx⟩] ∧
      ((throughFrameStep n true l good stamp tTx room words c).lane n.val).ltx = (c.lane n.val).ltx := by
  rw [throughFrameStep_forwards hn hs (.inl rfl) ha hp,
    Core.forward_short ((Core.fcsCount_rd rfl rfl).trans hs) (by rwa [Core.fcsCount_rd rfl rfl]), Core.fcsCount_insPending, hi,
    Bool.and_true, if_pos rfl, Core.lane_setLane, if_pos rfl, Core.fcsCount_lane]
  exact ⟨rfl, rfl⟩

/-- A frame from the line goes out on MTX. -/
theorem throughFrameStep_mtx {n : Fin 4} {stamp : Nat × Nat} {tTx room words : Nat} (hn : n.val < c.part.nLane)
    (hs : c.laneState n.val = leUp) (ha : c.rd ETH_CFG.maxlen n.val + 64 ≤ min room 32768)
    (hl : l.length + 4 ≤ c.rd ETH_CFG.maxlen n.val) (he : esmcPdu l = false) (hp : c.parse n.val l = .other) :
    ((throughFrameStep n false l good stamp tTx room words c).lane n.val).mtx = some ⟨l, good, false, tTx⟩ ∧
      ((throughFrameStep n false l good stamp tTx room words c).lane n.val).ltx = (c.lane n.val).ltx := by
  rw [throughFrameStep_forwards hn hs (.inr he) (decide_eq_true ha) hp,
    Core.forward_short ((Core.fcsCount_rd rfl rfl).trans hs) (by rwa [Core.fcsCount_rd rfl rfl]), Bool.false_and,
    if_neg Bool.false_ne_true]
  unfold Core.transmit Core.on
  rw [if_neg Bool.false_ne_true, if_neg Bool.false_ne_true, Core.lane_setLane, if_pos rfl, Core.fcsCount_lane]
  exact ⟨rfl, rfl⟩

theorem Core.admits_of_lt {room : Nat} (h : room < c.rd ETH_CFG.maxlen n + 64) : c.admits n m2l room = false :=
  decide_eq_false (by omega)

/-! ## ESMC PDUs (R264) -/

/-- The lane with the receive stamp of one more PDU. -/
def Core.esmcSeen (c : Core) (n : Nat) (good : Bool) (t : Nat) : Core :=
  (c.fcsCount n good).setLane n { c.lane n with esmcT := (t :: (c.lane n).esmcT).take 10 }

theorem Core.esmcSeen_rd {g : Fld} {t : Nat} (hg : g.ofEth = true) (hf : ETH_FCS_CNT.count.beside g = true) :
    (c.esmcSeen n good t).rd g n = c.rd g n := Core.fcsCount_rd hg hf

theorem Core.esmcRx_seen {t room tTx : Nat} (hn : n < c.part.nLane) (hs : c.laneState n = leUp ∨ c.laneState n = leDown)
    (hb : esmcOk l good = false) : c.esmcRx n l good t room tTx = (c.esmcSeen n good t).bump ETH_ESMC_BAD.count n := by
  have hold : c.laneState n ≠ leHold := by rcases hs with h | h <;> rw [h] <;> decide
  have takes : (decide (c.laneState n ≠ leUp) && decide (c.laneState n ≠ leDown)) = false := by
    rcases hs with h | h <;> rw [h] <;> rfl
  have lane := Core.fcsCount_lane (c := c) (n := n) (good := good) n
  unfold Core.esmcSeen
  unfold Core.fcsCount at lane ⊢
  unfold Core.esmcRx
  dsimp only
  rw [if_neg (Nat.not_le.mpr hn), if_neg hold, takes, if_neg Bool.false_ne_true, hb, Bool.not_false, Bool.true_or, if_pos rfl, lane]

/-- An invalid PDU goes no further (R264). -/
theorem Core.esmcRx_bad {t room tTx : Nat} (hn : n < c.part.nLane) (hs : c.laneState n = leUp ∨ c.laneState n = leDown)
    (hb : esmcOk l good = false) :
    (c.esmcRx n l good t room tTx).rd ETH_ESMC_BAD.count n =
        min (2 ^ ETH_ESMC_BAD.count.width - 1) (c.rd ETH_ESMC_BAD.count n + 1) ∧
      (c.esmcRx n l good t room tTx).rd ETH_ESMC_CNT.count n = c.rd ETH_ESMC_CNT.count n ∧
      ((c.esmcRx n l good t room tTx).lane n).mtx = (c.lane n).mtx := by
  rw [Core.esmcRx_seen hn hs hb]
  refine ⟨?_, ?_, ?_⟩
  · rw [Core.rd_bump_same, Core.esmcSeen_rd rfl rfl, Nat.min_comm]
  · exact (Core.rd_wr_eth _ rfl rfl rfl ..).trans (Core.esmcSeen_rd rfl rfl)
  · exact (congrArg LaneU.mtx ((Core.lane_setLane ..).trans (if_pos rfl)) :)

/-- The counters that a forwarded PDU moves (R247, R248). -/
def laneForwardFlds : List Fld := [ETH_LONG_CNT.count, ETH_DROP_CNT.count, ETH_EVENT.drop]

theorem Core.LaneTold.bufFlow {F : List Fld} {d : Core} (t : Core.LaneTold F c d) : Core.LaneTold F c (d.bufFlow n) :=
  ite t (t.setLane rfl rfl)

theorem Core.LaneTold.transmit {F : List Fld} {d : Core} {f : TxFrame} (t : Core.LaneTold F c d) :
    Core.LaneTold F c (d.transmit n m2l f) := by
  unfold Core.transmit
  cases m2l <;> exact t.setLane rfl rfl

theorem Core.LaneTold.forward {d : Core} {start : Nat} (t : Core.LaneTold laneForwardFlds c d) :
    Core.LaneTold laneForwardFlds c (d.forward n m2l good l start) := by
  unfold Core.forward
  extract_lets lim long tx c1 x
  have h1 : Core.LaneTold laneForwardFlds c c1 := t.on fun t => t.wr (by decide) rfl
  exact ite h1 (ite (h1.setLane rfl rfl) (transmit (h1.on fun t => t.bufFlow)))

theorem Core.LaneTold.frameDrop {d : Core} (t : Core.LaneTold laneForwardFlds c d) :
    Core.LaneTold laneForwardFlds c (d.frameDrop n) := raise ((t.wr (by decide) rfl).wr (by decide) rfl)

/-- A valid PDU, the first in its window, is counted; what forwards it and loads its quality level leaves the count alone
(R264). -/
theorem Core.esmcRx_counts {t room tTx : Nat} (hn : n < c.part.nLane) (hs : c.laneState n = leUp ∨ c.laneState n = leDown)
    (hw : (c.lane n).esmcT = []) (ho : esmcOk l true = true) :
    (c.esmcRx n l true t room tTx).rd ETH_ESMC_CNT.count n =
      min (2 ^ ETH_ESMC_CNT.count.width - 1) (c.rd ETH_ESMC_CNT.count n + 1) := by
  have hold : c.laneState n ≠ leHold := by rcases hs with h | h <;> rw [h] <;> decide
  have takes : (decide (c.laneState n ≠ leUp) && decide (c.laneState n ≠ leDown)) = false := by
    rcases hs with h | h <;> rw [h] <;> rfl
  let seen := (c.setLane n { c.lane n with esmcT := [t] }).bump ETH_ESMC_CNT.count n
  have counted : seen.rd ETH_ESMC_CNT.count n = min (2 ^ ETH_ESMC_CNT.count.width - 1) (c.rd ETH_ESMC_CNT.count n + 1) :=
    (Core.rd_bump_same ..).trans (Nat.min_comm ..)
  rw [← counted]
  have told : Core.LaneTold laneForwardFlds seen (c.esmcRx n l true t room tTx) := by
    unfold Core.esmcRx
    rw [if_neg (Nat.not_le.mpr hn), if_neg hold, takes, if_neg Bool.false_ne_true]
    extract_lets c1 x much c2 c3 c4 r c5 ext mixed part ssm essm eeec eec c6
    have first : much = false := by
      change (decide ((c.lane n).esmcT.length = 10) && _) = false
      rw [hw]
      rfl
    have h3 : c3 = seen := by
      change (c.setLane n { c.lane n with esmcT := (t :: (c.lane n).esmcT).take 10 }).bump ETH_ESMC_CNT.count n = seen
      rw [hw]
      rfl
    rw [ho, first, if_neg (by decide)]
    have h4 : Core.LaneTold laneForwardFlds seen c4 := (h3 ▸ .refl : Core.LaneTold laneForwardFlds seen c3).on fun t =>
      .ite t.forward t.frameDrop
    have h5 : Core.LaneTold laneForwardFlds seen c5 :=
      h4.kept (Core.Kept.refl.dropTake (b := [0x22]) (by decide)) (by decide) (by decide) (by decide) (by decide)
    exact .ite h5 (Core.LaneTold.candInv.esmcQl h5.emit)
  exact told.regs _ rfl (by decide) n (Nat.lt_of_lt_of_le hn c.part.nLane_le)

end
end Sys2Proof.Machine
end

section
/-! INSERTED_FRAME: the frame that the lane builds around a message of the engine, and the message that leaves in it (R259 to
R261). -/

namespace Sys2Proof.Machine

open Sys2Proof

/-! ## Bytes -/

@[simp] theorem length_bytesLE (n x : Nat) : (bytesLE n x).length = n := by
  induction n generalizing x with
  | zero => rfl
  | succ n ih => simp [bytesLE, ih]

@[simp] theorem length_bytesBE (n x : Nat) : (bytesBE n x).length = n := by
  unfold bytesBE
  rw [List.length_reverse, length_bytesLE]

/-- Bytes that fit replace as many. -/
theorem fput_of_le {l new : List Byte} {i : Nat} (h : i + new.length ≤ l.length) :
    fput l i new = l.take i ++ new ++ l.drop (i + new.length) := by
  unfold fput
  rw [List.take_of_length_le (l := new) (by omega)]

theorem length_fput {l new : List Byte} {i : Nat} (h : i + new.length ≤ l.length) : (fput l i new).length = l.length := by
  rw [fput_of_le h]
  simp
  omega

/-- Bytes replaced behind a head are replaced in what follows it. -/
theorem fput_append (pre l new : List Byte) (i : Nat) : fput (pre ++ l) (pre.length + i) new = pre ++ fput l i new := by
  unfold fput
  rw [List.take_length_add_append, Nat.add_assoc, List.drop_length_add_append, List.length_append, Nat.add_sub_add_left]
  simp only [List.append_assoc]

/-- Bytes replaced before a place leave what follows it. -/
theorem drop_fput {l new : List Byte} {i k : Nat} (h : i + new.length ≤ k) (hk : k ≤ l.length) : (fput l i new).drop k = l.drop k := by
  rw [fput_of_le (by omega), List.drop_append, List.drop_of_length_le (by simp; omega), List.nil_append, List.drop_drop]
  congr 1
  simp
  omega

/-! ## The frame built (R259 to R261) -/

/-- The frame that the lane builds holds the message at its place; behind a message on L2 or IPv4 nothing follows, and the UDP header
stands right before it. -/
theorem Core.buildFrame_eq (c : Core) (n : Nat) (d : Dest) (event : Bool) (b : List Byte) (v : Nat) :
    ∃ pre post, (c.buildFrame n d event b v).1 = pre ++ b ++ post ∧ (c.buildFrame n d event b v).2.off = pre.length ∧
      (d.enc ≤ 1 → post = [] ∧ (c.buildFrame n d event b v).2.enc = d.enc ∧
        (d.enc = 1 → (c.buildFrame n d event b v).2.udp + 8 = pre.length)) := by
  unfold Core.buildFrame
  extract_lets tag eth port head4 udp4 pseudo sum4 p pay ips head6 udp6 sum6
  split
  · next h =>
    refine ⟨eth ++ bytesBE 2 0x88F7, [], ?_, ?_, fun _ => ⟨rfl, h.symm, fun h1 => absurd (h.symm.trans h1) (by decide)⟩⟩
    · simp
    · simp
  · next h =>
    refine ⟨eth ++ bytesBE 2 0x0800 ++ head4 (ocSumOf (head4 0)) ++ port ++ bytesBE 2 (8 + b.length) ++
      bytesBE 2 sum4, [], ?_, ?_,
      fun _ => ⟨rfl, h.symm, fun _ => ?_⟩⟩
    · simp [udp4]
    · simp [p, head4, port]
    · simp [p, head4, port]
  · next h0 h1 =>
    refine ⟨eth ++ bytesBE 2 0x86DD ++ head6 ++ port ++ bytesBE 2 (8 + pay.length) ++ bytesBE 2 sum6,
      List.replicate (b.length % 2) 0#8 ++ bytesBE 2 (bits v 67 52), ?_, ?_, fun h => ?_⟩
    · simp [udp6, pay]
    · simp [p, head6, port, ips]
    · have : d.enc = 0 ∨ d.enc = 1 := by omega
      rcases this with h | h
      · exact absurd h h0
      · exact absurd h h1

/-- The correction of a message on L2 or IPv4 changes of it the field alone (R259). -/
theorem corrPut_drop {pre b : List Byte} {x : PtpAt} {new : Nat} {v6 : Bool} (ho : x.off = pre.length) (he : x.enc ≤ 1)
    (hu : x.enc = 1 → x.udp + 8 = pre.length) :
    ∃ l, corrPut (pre ++ b) x new v6 = some l ∧ l.drop x.off = fput b 8 (bytesBE 8 new) := by
  have put : (fput (pre ++ b) (x.off + 8) (bytesBE 8 new)) = pre ++ fput b 8 (bytesBE 8 new) := by rw [ho, fput_append]
  unfold corrPut
  dsimp only
  split
  · exact ⟨_, rfl, by rw [put, ho, List.drop_left]⟩
  · next h1 =>
    have udp := hu h1
    refine ⟨_, rfl, ?_⟩
    rw [put, drop_fput (by rw [List.length_cons, List.length_singleton]; omega) (by rw [List.length_append]; omega), ho, List.drop_left]
  · next h0 h1 => exact (Nat.le_one_iff_eq_zero_or_eq_one.mp he).elim (absurd · h0) (absurd · h1)

section

variable {c : Core} {n : Nat} {f : InsFrame}

/-- The frame built around a message, and the message's place in it. -/
def Core.insBuilt (c : Core) (n : Nat) (f : InsFrame) : List Byte × PtpAt :=
  c.fresh.2.buildFrame n (f.dest.getD {}) f.event f.bytes c.fresh.1

/-- That frame as it leaves at the ball time `tTx`, corrected where it holds an event message; none where it cannot be. -/
def Core.insPut (c : Core) (n tTx : Nat) (f : InsFrame) : Option (List Byte) :=
  if f.event then corrPut (c.insBuilt n f).1 (c.insBuilt n f).2
    (ofS 64 (ptpCorr f.bytes 0 + ((tTx : Int) + c.dly ETH_TX_DLY_L.dly n - f.tIns))) (c.rdB ETH_PTP_CFG.v6_comp n)
  else some (c.insBuilt n f).1

/-- The message in that frame. -/
def Core.insMsg (c : Core) (n tTx : Nat) (f : InsFrame) : List Byte :=
  (((c.insPut n tTx f).getD (c.insBuilt n f).1).drop (c.insBuilt n f).2.off).take f.bytes.length

/-- A general message leaves as it is. -/
theorem Core.insMsg_general {tTx : Nat} (he : f.event = false) : c.insMsg n tTx f = f.bytes := by
  obtain ⟨pre, post, frame, off, -⟩ := c.fresh.2.buildFrame_eq n (f.dest.getD {}) f.event f.bytes c.fresh.1
  unfold Core.insMsg Core.insPut Core.insBuilt
  rw [he] at frame off ⊢
  rw [if_neg Bool.false_ne_true, Option.getD_some, frame, off, List.append_assoc, List.drop_left, List.take_left]

/-- An event message on L2 or IPv4 leaves with the time that it waited in its correction (R260). -/
theorem Core.insMsg_event {tTx : Nat} (he : f.event = true) (hd : (f.dest.getD {}).enc ≤ 1) (hb : 34 ≤ f.bytes.length) :
    c.insMsg n tTx f = fput f.bytes 8 (bytesBE 8 (ofS 64
      (ptpCorr f.bytes 0 + ((tTx : Int) + c.dly ETH_TX_DLY_L.dly n - f.tIns)))) := by
  obtain ⟨pre, post, frame, off, near⟩ := c.fresh.2.buildFrame_eq n (f.dest.getD {}) f.event f.bytes c.fresh.1
  obtain ⟨rfl, enc, udp⟩ := near hd
  rw [List.append_nil] at frame
  obtain ⟨l, put, rest⟩ := corrPut_drop (b := f.bytes) (new := ofS 64 (ptpCorr f.bytes 0 + ((tTx : Int) +
    c.dly ETH_TX_DLY_L.dly n - f.tIns))) (v6 := c.rdB ETH_PTP_CFG.v6_comp n) off (by rwa [enc]) fun h => udp (enc ▸ h)
  unfold Core.insMsg Core.insPut Core.insBuilt
  rw [if_pos he, frame, put, Option.getD_some, rest]
  refine List.take_of_length_le (Nat.le_of_eq (length_fput ?_))
  rw [length_bytesBE]
  omega

/-- A frame inserted in UP leaves the messages that wait; with none of M2L's frames held it is what LTX sends. -/
theorem Core.insertOut_lane {tx : TxFrame} (hs : c.laneState n = leUp) :
    ((c.insertOut n tx).lane n).ins = (c.lane n).ins ∧ ((c.insertOut n tx).lane n).sent = (c.lane n).sent ∧
      ((c.lane n).buf = [] → ((c.insertOut n tx).lane n).ltx = some tx) := by
  have up : ¬ c.laneState n = leTest := by rw [hs]; decide
  unfold Core.insertOut
  extract_lets x0 test x1 x2
  have sent : x2 = { c.lane n with ltx := some tx } := by
    unfold x2 x1 test
    rw [if_neg up, decide_eq_false up]
    rfl
  rw [sent]
  unfold Core.bufFlow
  dsimp only
  split
  · rw [Core.lane_setLane, if_pos rfl]
    exact ⟨rfl, rfl, fun _ => rfl⟩
  · rw [Core.lane_setLane, if_pos rfl, Core.lane_setLane, if_pos rfl]
    refine ⟨rfl, rfl, fun h => ?_⟩
    dsimp only
    rw [h]
    rfl

/-- The part when a message goes out: a correction that cannot be made is counted (R258, R259). -/
def Core.insSkip (c : Core) (n tTx : Nat) (f : InsFrame) : Core :=
  c.fresh.2.on (c.insPut n tTx f).isNone fun c => c.corrSkip n

theorem Core.insSkip_lane {tTx : Nat} : (c.insSkip n tTx f).lane n = c.lane n := by
  have skipped := congrArg Core.lanes (Core.raise_hit ((c.fresh.2.bump ETH_SKIP_CNT.count n).wr ETH_EVENT.skip 1 n) 35 n).2
  unfold Core.insSkip Core.on
  split
  · exact congrArg (fun m : AMap LaneU => AMap.get ({} : LaneU) m n) skipped
  · rfl

theorem Core.insSkip_laneState {tTx : Nat} (hn : n < 4) : (c.insSkip n tTx f).laneState n = c.laneState n := by
  have told : Core.LaneTold [ETH_SKIP_CNT.count, ETH_EVENT.skip] c.fresh.2 (c.insSkip n tTx f) :=
    .on .refl fun t => .raise ((t.wr (by decide) rfl).wr (by decide) rfl)
  exact told.regs _ rfl (by decide) n hn

theorem insertedFrameStep_eq {n : Fin 4} {tTx : Nat} {rest : List InsFrame} (hn : n.val < c.part.nLane)
    (hs : c.laneState n.val = leUp) (hi : (c.lane n.val).ins = f :: rest) :
    insertedFrameStep n tTx false c = ((c.insSkip n.val tTx f).setLane n.val { (c.insSkip n.val tTx f).lane n.val with
      ins := rest, sent := some { f with bytes := c.insMsg n.val tTx f } }).insertOut n.val
        ⟨(c.insPut n.val tTx f).getD (c.insBuilt n.val f).1, true, false, tTx⟩ := by
  have inserts : c.inserts n.val = true := by
    unfold Core.inserts
    rw [hs]
    rfl
  unfold insertedFrameStep
  refine (if_neg ?_).trans ?_
  · rw [decide_eq_false (Nat.not_le.mpr hn), inserts]
    decide
  · rw [hi]
    exact if_neg (by rw [Bool.and_false]; decide)

/-- INSERTED_FRAME takes the first message that waits (R260, R261). -/
theorem insertedFrameStep_effect {n : Fin 4} {tTx : Nat} {rest : List InsFrame} (hn : n.val < c.part.nLane)
    (hs : c.laneState n.val = leUp) (hi : (c.lane n.val).ins = f :: rest) :
    ((insertedFrameStep n tTx false c).lane n.val).ins = rest ∧
      ((insertedFrameStep n tTx false c).lane n.val).sent = some { f with bytes := c.insMsg n.val tTx f } ∧
      ((c.lane n.val).buf = [] → ((insertedFrameStep n tTx false c).lane n.val).ltx.map TxFrame.start = some tTx) := by
  rw [insertedFrameStep_eq hn hs hi]
  obtain ⟨ins, sent, ltx⟩ := Core.insertOut_lane (n := n.val)
    (c := (c.insSkip n.val tTx f).setLane n.val { (c.insSkip n.val tTx f).lane n.val with
      ins := rest, sent := some { f with bytes := c.insMsg n.val tTx f } })
    (tx := ⟨(c.insPut n.val tTx f).getD (c.insBuilt n.val f).1, true, false, tTx⟩)
    ((Core.insSkip_laneState n.isLt).trans hs)
  rw [Core.lane_setLane, if_pos rfl] at ins sent ltx
  refine ⟨ins, sent, fun hb => ?_⟩
  rw [ltx (by rw [Core.insSkip_lane]; exact hb)]
  rfl

end
end Sys2Proof.Machine
end

section
/-! The frames that go through a lane, those inserted, and ESMC PDUs (R247 to R249, R260, R261, R264). -/

namespace Sys2Proof.Machine

open Sys2Proof

/-- An invalid PDU that comes as a frame from the line goes no further (R264). -/
theorem throughFrameStep_esmc {c : Core} {n : Fin 4} {l : List Byte} {good : Bool} {stamp : Nat × Nat} {tTx room words : Nat}
    (hn : n.val < c.part.nLane) (hs : c.laneState n.val = leUp) (he : esmcPdu l = true) :
    throughFrameStep n false l good stamp tTx room words c =
      c.esmcRx n.val l good (rxStamp (c.rd ETH_CFG.mode n.val) stamp.1 stamp.2) room tTx := by
  unfold throughFrameStep
  rw [if_neg (Nat.not_le.mpr hn), if_neg (by rw [hs]; decide), he, hs]
  rfl

/-- INSERTED_FRAME where a message of the engine waits is no packet of the in-band session (R261). -/
theorem insertedStep_eq {n : Fin 4} {tTx : Nat} {late : Bool} {d : Dev} {f : InsFrame} {rest : List InsFrame}
    (hi : (d.core.lane n.val).ins = f :: rest) :
    insertedStep n tTx late d = d.act fun d => { d with core := insertedFrameStep n tTx late d.core } := by
  unfold insertedStep
  refine if_neg ?_
  by_cases h0 : n.val = 0
  · rw [h0] at hi
    rw [hi]
    simp
  · simp [h0]

/-- Settles O38: a frame that the lane admits is forwarded at once unless a message of the engine waits; a message inserted is the
first that waits, and its frame holds it unchanged or corrected. -/
theorem laneFrames : Obligations.LaneFrames := by
  unfold Obligations.LaneFrames
  refine ⟨?ltx, ?mtx, ?waits, ?dropped, ?inserted, ?bad, ?badThrough, ?counts⟩
  case ltx =>
    intro s n l good word pos tTx room words hr hn hs hi ha hl hp
    refine onRunCore_answers hr ?_
    rw [Dev.act_lane]
    exact throughFrameStep_ltx hn hs hi ha hl hp
  case mtx =>
    intro s n l good word pos tTx room words hr hn hs ha hl he hp
    refine onRunCore_answers hr ?_
    rw [Dev.act_lane]
    exact throughFrameStep_mtx hn hs ha hl he hp
  case waits =>
    intro s n l good word pos tTx room words hr hn hs hi ha hl hp
    refine onRunCore_answers hr ?_
    rw [Dev.act_lane]
    exact throughFrameStep_waits hn hs hi ha hl hp
  case dropped =>
    intro s n m2l l good word pos tTx room words hr hn hs h he
    refine onRunCore_answers hr ?_
    rw [Dev.act_lane, Dev.act_rdEth _ _ _ _ rfl, Dev.act_rd_key _ _ _ _ _ (by decide),
      throughFrameStep_drops hn hs he (Core.admits_of_lt h)]
    exact Core.frameDrop_effect hn
  case inserted =>
    intro s n f rest tTx hr hn hs hi
    obtain ⟨ins, sent, ltx⟩ := insertedFrameStep_effect (tTx := tTx) hn hs hi
    refine onHost_answers hr ?_
    rw [insertedStep_eq hi, Dev.act_lane]
    refine ⟨ins, fun he => ?_, fun he hd hb => ?_, fun _ hb _ => ltx hb⟩
    · rw [sent, Core.insMsg_general he]
    · rw [sent, Core.insMsg_event he hd hb]
  case bad =>
    intro s n l good tm hr hn hs hb
    refine onRunCore_answers hr ?_
    rw [Dev.act_lane, Dev.act_rdEth _ _ _ _ rfl, Dev.act_rdEth _ _ _ _ rfl]
    exact Core.esmcRx_bad hn hs hb
  case badThrough =>
    intro s n l good word pos tTx room words hr hn hs he hb
    refine onRunCore_answers hr ?_
    rw [Dev.act_lane, Dev.act_rdEth _ _ _ _ rfl, throughFrameStep_esmc hn hs he]
    obtain ⟨bad, -, mtx⟩ := Core.esmcRx_bad hn (.inl hs) hb
    exact ⟨bad, mtx⟩
  case counts =>
    intro s n l tm hr hn hs hw ho
    refine onRunCore_answers hr ?_
    rw [Dev.act_rdEth _ _ _ _ rfl]
    exact Core.esmcRx_counts hn hs hw ho

end Sys2Proof.Machine
end

section
/-! What the engine hears of a frame, what its servos take of a delay, and what it sends (R251, R255, R260, R261, R273, R278). -/

namespace Sys2Proof.Machine

open Sys2Proof

section

variable {c : Core} {n t : Nat} {l : List Byte}

/-! ## What hearing a frame leaves alone (R251, R293) -/

/-- Hearing a frame moves the lane's event messages and the steps' progress at the stamp alone. -/
theorem Core.heard_keeps {α : Type} (g : Core → α) (keep : ∀ m r, g { c with lanes := m, pte := { c.pte with rxAt := r } } = g c) :
    g (c.heard n l t).2 = g c := by
  unfold Core.heard
  extract_lets x
  split
  · exact keep _ _
  · exact keep _ _

@[simp] theorem Core.heard_rd (f : Fld) (i k : Nat) : (c.heard n l t).2.rd f i k = c.rd f i k :=
  Core.heard_keeps (fun c => c.rd f i k) fun _ _ => rfl
@[simp] theorem Core.heard_pport (p : Nat) : (c.heard n l t).2.pport p = c.pport p :=
  Core.heard_keeps (fun c => c.pport p) fun _ _ => rfl
@[simp] theorem Core.heard_sv (v : Nat) : (c.heard n l t).2.sv v = c.sv v := Core.heard_keeps (fun c => c.sv v) fun _ _ => rfl
@[simp] theorem Core.heard_svState (v : Nat) : (c.heard n l t).2.svState v = c.svState v := Core.heard_rd ..
@[simp] theorem Core.heard_stepAfter (a : Int) : (c.heard n l t).2.stepAfter a = c.stepAfter a :=
  Core.heard_keeps (fun c => c.stepAfter a) fun _ _ => rfl
@[simp] theorem Core.heard_msgOf (k : Nat) (b : List Byte) : (c.heard n l t).2.msgOf k b = c.msgOf k b :=
  Core.heard_keeps (fun c => c.msgOf k b) fun _ _ => rfl
@[simp] theorem Core.heard_msgDom (k : Nat) (m : Msg) : (c.heard n l t).2.msgDom k m = c.msgDom k m :=
  Core.heard_keeps (fun c => c.msgDom k m) fun _ _ => rfl
@[simp] theorem Core.heard_portOf (k : Nat) : (c.heard n l t).2.portOf k = c.portOf k :=
  Core.heard_keeps (fun c => c.portOf k) fun _ _ => rfl
@[simp] theorem Core.heard_portDom (p : Nat) : (c.heard n l t).2.portDom p = c.portDom p :=
  Core.heard_keeps (fun c => c.portDom p) fun _ _ => rfl
@[simp] theorem Core.heard_portSlave (p : Nat) : (c.heard n l t).2.portSlave p = c.portSlave p :=
  Core.heard_keeps (fun c => c.portSlave p) fun _ _ => rfl
@[simp] theorem Core.heard_portId (p : Nat) : (c.heard n l t).2.portId p = c.portId p :=
  Core.heard_keeps (fun c => c.portId p) fun _ _ => rfl
@[simp] theorem Core.heard_portDest (d p : Nat) : (c.heard n l t).2.portDest d p = c.portDest d p :=
  Core.heard_keeps (fun c => c.portDest d p) fun _ _ => rfl
@[simp] theorem Core.heard_profile (d : Nat) : (c.heard n l t).2.profile d = c.profile d := Core.heard_rd ..
@[simp] theorem Core.heard_logSync (d p : Nat) : (c.heard n l t).2.logSync d p = c.logSync d p :=
  Core.heard_keeps (fun c => c.logSync d p) fun _ _ => rfl
@[simp] theorem Core.heard_clockId : (c.heard n l t).2.clockId = c.clockId := Core.heard_keeps Core.clockId fun _ _ => rfl
@[simp] theorem Core.heard_tIns : (c.heard n l t).2.tIns = c.tIns := Core.heard_keeps Core.tIns fun _ _ => rfl
@[simp] theorem Core.heard_msg (d ty f0 f1 : Nat) (corr : Int) (src seq ctl : Nat) (log : Int) (body : List Byte) :
    (c.heard n l t).2.msg d ty f0 f1 corr src seq ctl log body = c.msg d ty f0 f1 corr src seq ctl log body :=
  Core.heard_keeps (fun c => c.msg d ty f0 f1 corr src seq ctl log body) fun _ _ => rfl

/-- The messages on their way to LTX stay. -/
@[simp] theorem Core.heard_queued : ((c.heard n l t).2.lane n).queued = (c.lane n).queued := by
  unfold Core.heard
  extract_lets x
  split
  · next i _ =>
    change ((c.setLane n { x with evq := x.evq.eraseIdx i }).lane n).queued = _
    rw [Core.lane_setLane, if_pos rfl]
    rfl
  · rfl

/-! ## A message received (R273) -/

variable {f : Core → Msg → Nat → Nat → Core} {m : Msg} {d p tr : Nat}

theorem Core.rxWith_taken (h : PtpTaken c n l t tr m d p) : c.rxWith n l t f = f (c.heard n l t).2 m d tr := by
  obtain ⟨lane, run, stamp, isMsg, dom, -⟩ := h
  unfold Core.rxWith
  dsimp only
  rw [decide_eq_false (Nat.not_le.mpr lane), run, if_neg (by decide), stamp, Core.heard_msgOf, isMsg]
  dsimp only
  rw [Core.heard_msgDom, dom]

theorem Core.rxWith_unheard (hn : n < c.part.nLane) (run : c.pteRun = true) (h : (c.heard n l t).1 = none) :
    c.rxWith n l t f = (c.heard n l t).2 := by
  unfold Core.rxWith
  dsimp only
  rw [decide_eq_false (Nat.not_le.mpr hn), run, if_neg (by decide), h]

theorem Core.rxWith_discards (hn : n < c.part.nLane) (run : c.pteRun = true) (h : (c.heard n l t).1.isSome = true)
    (isMsg : c.msgOf n l = some m) (dom : c.msgDom n m = none) :
    c.rxWith n l t f = (c.heard n l t).2.bump PTE_DISCARD_CNT.count := by
  obtain ⟨tr, stamp⟩ := Option.isSome_iff_exists.mp h
  unfold Core.rxWith
  dsimp only
  rw [decide_eq_false (Nat.not_le.mpr hn), run, if_neg (by decide), stamp, Core.heard_msgOf, isMsg]
  dsimp only
  rw [Core.heard_msgDom, dom]

/-- The domain of a message is that of the port that takes it. -/
theorem Core.portDom_of_taken (h : PtpTaken c n l t tr m d p) : c.portDom p = some d := by
  obtain ⟨-, -, -, -, dom, port⟩ := h
  have lane : c.portLane p = n := by
    have found := List.find?_some port
    rw [Bool.and_eq_true, decide_eq_true_eq] at found
    exact found.2
  unfold Core.msgDom at dom
  unfold Core.portDom
  rw [lane]
  split at dom
  · next e laneDom =>
    rw [laneDom]
    exact (ite_eq_iff.mp dom).elim And.right fun h => nomatch h.2
  · cases dom

/-! ## A delay to the servos (R278, R293) -/

@[simp] theorem Core.sv_setPport (x : PortU) (v : Nat) : (c.setPport p x).sv v = c.sv v := rfl
@[simp] theorem Core.svState_setPport (x : PortU) (v : Nat) : (c.setPport p x).svState v = c.svState v := rfl
@[simp] theorem Core.stepAfter_setPport (x : PortU) (a : Int) : (c.setPport p x).stepAfter a = c.stepAfter a := rfl

/-- Steps that each write one servo from what the servo and the steps' progress were write each servo of the list once. -/
theorem Core.sv_each_setSv {g : Core → Nat → SvU}
    (own : ∀ {d e : Core} {y : Nat}, d.sv y = e.sv y → d.stepped = e.stepped → g d y = g e y) {s : Nat} :
    ∀ {l : List Nat} (_ : l.Nodup) (c : Core), (c.each l fun c y => c.setSv y (g c y)).sv s = if s ∈ l then g c s else c.sv s
  | [], _, _ => rfl
  | x :: l, h, c => by
    obtain ⟨hx, hl⟩ := List.nodup_cons.mp h
    refine (Core.sv_each_setSv own hl (c.setSv x (g c x))).trans ?_
    by_cases hs : s = x
    · subst hs
      rw [if_neg hx, if_pos List.mem_cons_self, Core.sv_setSv, if_pos rfl]
    · have other : (c.setSv x (g c x)).sv s = c.sv s := (Core.sv_setSv ..).trans (if_neg hs)
      rw [own other rfl, other]
      simp only [List.mem_cons, hs, false_or]

/-- A delay reaches a servo of the port that is not OFF, once. -/
theorem Core.svAdd_sv {fwd : Bool} {x a : Int} {v : Nat} (hv : v < 4) (hp : c.rd PTE_SV_CFG.port v = p) (hs : 1 ≤ c.svState v) :
    (c.svAdd p fwd x a).sv v = if fwd then { c.sv v with df := (c.sv v).df ++ [x - c.stepAfter a] }
      else { c.sv v with db := (c.sv v).db ++ [x + c.stepAfter a] } := by
  unfold Core.svAdd
  refine (Core.sv_each_setSv (g := fun c s => if fwd then { c.sv s with df := (c.sv s).df ++ [x - c.stepAfter a] }
    else { c.sv s with db := (c.sv s).db ++ [x + c.stepAfter a] }) ?_ (List.nodup_range.filter _) c).trans (if_pos ?_)
  · intro d e y same step
    unfold Core.stepAfter
    rw [same, step]
  · rw [List.mem_filter, List.mem_range]
    exact ⟨hv, by rw [hp, decide_eq_true rfl, decide_eq_true (show vsNoMaster ≤ _ from hs)]; rfl⟩

theorem Core.svAdd_pport {fwd : Bool} {x a : Int} (q : Nat) : (c.svAdd p fwd x a).pport q = c.pport q := by
  unfold Core.svAdd
  refine Core.each_keeps (Q := fun d => d.pport q = c.pport q) ?_ rfl
  exact fun _ _ _ h => h

/-! ## A message sent (R260, R261) -/

/-- The link carries the messages on in their order. -/
theorem Core.insPump_queued (k : Nat) : ((Core.insPump k n c).lane n).queued = (c.lane n).queued := by
  induction k generalizing c with
  | zero => rfl
  | succ k ih =>
    unfold Core.insPump
    extract_lets x q
    split
    · rfl
    · next msg rest prod =>
      split
      · rfl
      · dsimp only
        split
        · rw [ih, Core.lane_setLane, if_pos rfl]
          unfold LaneU.queued
          rw [show (c.lane n).prod = msg :: rest from prod]
          exact List.append_assoc ..
        · rw [Core.lane_setLane, if_pos rfl]
          rfl

theorem Core.send_queued {dest : Dest} {bytes : List Byte} {event : Bool} {tIns : Nat} (h : c.clockId ≠ 0) :
    ((c.send n dest bytes event tIns).lane n).queued = (c.lane n).queued ++ [⟨some dest, bytes, event, tIns⟩] := by
  unfold Core.send
  rw [if_neg h]
  refine (Core.insPump_queued _).trans ?_
  rw [Core.lane_setLane, if_pos rfl]
  exact (List.append_assoc ..).symm

end
end Sys2Proof.Machine
end

section
/-! What a port takes from PTP messages (R251, R255, R272, R273, R277, R278). -/

namespace Sys2Proof.Machine

open Sys2Proof

section

variable {c : Core} {n : Fin 4} {t : Nat} {l : List Byte} {m : Msg} {d p tr : Nat}

/-! ## Sync and Follow_Up (R273, R278) -/

theorem syncRxStep_oneStep (h : PtpTaken c n.val l t tr m d p) (ty : m.type = 0) (slave : c.portSlave p = true)
    (parent : (c.pport p).parent = some m.src) (one : m.twoStep = false) :
    syncRxStep n t l c = ((c.heard n.val l t).2.setPport p { c.pport p with vid := m.vid, sync := none }).svAdd p true
      ((tr : Int) - m.time - m.corr) (c.heard n.val l t).2.pte.rxAt := by
  obtain ⟨-, -, -, -, -, port⟩ := id h
  unfold syncRxStep
  rw [Core.rxWith_taken h]
  simp [port, ty, slave, parent, one]

theorem syncRxStep_twoStep (h : PtpTaken c n.val l t tr m d p) (ty : m.type = 0) (slave : c.portSlave p = true)
    (parent : (c.pport p).parent = some m.src) (two : m.twoStep = true) :
    syncRxStep n t l c = (c.heard n.val l t).2.setPport p { c.pport p with
      vid := m.vid, sync := some (m.seq, tr, m.corr), syncAt := (c.heard n.val l t).2.pte.rxAt } := by
  obtain ⟨-, -, -, -, -, port⟩ := id h
  unfold syncRxStep
  rw [Core.rxWith_taken h]
  simp [port, ty, slave, parent, two]

theorem followUpRxStep_eq {t2 : Nat} {corr : Int} (h : PtpTaken c n.val l t tr m d p) (ty : m.type = 8)
    (slave : c.portSlave p = true) (parent : (c.pport p).parent = some m.src) (sync : (c.pport p).sync = some (m.seq, t2, corr))
    (within : (((tr : Int) - t2 : Int) : Rat) ≤ (secPU : Rat) * (2 : Rat) ^ (c.logSync d p)) :
    followUpRxStep n t l c = ((c.heard n.val l t).2.setPport p { c.pport p with sync := none }).svAdd p true
      ((t2 : Int) - m.time - corr - m.corr) (c.pport p).syncAt := by
  obtain ⟨-, -, -, -, -, port⟩ := id h
  have late : decide ((secPU : Rat) * (2 : Rat) ^ (c.logSync d p) < (((tr : Int) - t2 : Int) : Rat)) = false :=
    decide_eq_false (not_lt.mpr within)
  unfold followUpRxStep
  rw [Core.rxWith_taken h]
  dsimp only
  rw [Core.heard_portOf, port]
  dsimp only
  rw [Core.heard_pport, sync]
  dsimp only
  rw [Core.heard_portDom, Core.portDom_of_taken h, Option.getD_some, Core.heard_logSync, late, Core.heard_portSlave, slave, ty,
    parent]
  exact if_neg (by simp)

/-! ## Delay_Resp (R273, R278) -/

theorem delayRespRxStep_eq {t3 : Nat} (h : PtpTaken c n.val l 0 tr m d p) (ty : m.type = 9) (slave : c.portSlave p = true)
    (parent : (c.pport p).parent = some m.src) (req : (c.pport p).req = some (m.seq, t3)) (hid : m.reqId = c.portId p) :
    delayRespRxStep n l c = ((c.heard n.val l 0).2.setPport p { c.pport p with req := none }).svAdd p false
      ((m.time : Int) - t3 - m.corr) (c.pport p).reqAt := by
  obtain ⟨-, -, -, -, -, port⟩ := id h
  unfold delayRespRxStep
  rw [Core.rxWith_taken h]
  simp [port, ty, slave, parent, req, hid]

/-! ## Peer delay (R273, R278) -/

theorem pdelayReqRxStep_eq (h : PtpTaken c n.val l t tr m d p) (ty : m.type = 2) (prof : c.profile d = 3) :
    pdelayReqRxStep n t l c = (c.heard n.val l t).2.send n.val (c.portDest d p)
      (c.msg d 3 0 0 (m.corr + ((c.tIns : Int) - tr)) (c.portId p) m.seq 5 0x7F (List.replicate 10 0#8 ++ bytesBE 10 m.src))
      true c.tIns := by
  obtain ⟨-, -, -, -, -, port⟩ := id h
  unfold pdelayReqRxStep
  rw [Core.rxWith_taken h]
  simp [port, ty, prof]

theorem pdelayRespRxStep_oneStep {t1 : Nat} (h : PtpTaken c n.val l t tr m d p) (ty : m.type = 3) (prof : c.profile d = 3)
    (one : m.twoStep = false) (req : (c.pport p).req = some (m.seq, t1)) (hid : m.reqId = c.portId p) :
    pdelayRespRxStep n t l c = (c.heard n.val l t).2.peerDone p t1 0 0 tr m.corr false (c.heard n.val l t).2.pte.rxAt := by
  obtain ⟨-, -, -, -, -, port⟩ := id h
  unfold pdelayRespRxStep
  rw [Core.rxWith_taken h]
  simp [port, ty, prof, one, req, hid]

theorem pdelayRespRxStep_twoStep {t1 : Nat} (h : PtpTaken c n.val l t tr m d p) (ty : m.type = 3) (prof : c.profile d = 3)
    (two : m.twoStep = true) (req : (c.pport p).req = some (m.seq, t1)) (hid : m.reqId = c.portId p) :
    pdelayRespRxStep n t l c = (c.heard n.val l t).2.setPport p { c.pport p with
      presp := some (m.seq, m.time, tr, m.corr), prespAt := (c.heard n.val l t).2.pte.rxAt } := by
  obtain ⟨-, -, -, -, -, port⟩ := id h
  unfold pdelayRespRxStep
  rw [Core.rxWith_taken h]
  simp [port, ty, prof, two, req, hid]

theorem pdelayRespFollowUpRxStep_eq {q t1 t2 t4 : Nat} {corr : Int} (h : PtpTaken c n.val l 0 tr m d p) (ty : m.type = 0xA)
    (prof : c.profile d = 3) (req : (c.pport p).req = some (q, t1)) (presp : (c.pport p).presp = some (m.seq, t2, t4, corr))
    (hid : m.reqId = c.portId p) :
    pdelayRespFollowUpRxStep n l c = (c.heard n.val l 0).2.peerDone p t1 t2 m.time t4 (corr + m.corr) true
      (c.pport p).prespAt := by
  obtain ⟨-, -, -, -, -, port⟩ := id h
  unfold pdelayRespFollowUpRxStep
  rw [Core.rxWith_taken h]
  simp [port, ty, prof, req, presp, hid]

/-- An exchange that no earlier pair of stamps times leaves the rate of the neighbour (R278). -/
theorem Core.peerDone_pport {t1 t2 t3 t4 : Nat} {corr a4 : Int} {two : Bool} (h : two = false ∨ (c.pport p).pair = none) :
    (c.peerDone p t1 t2 t3 t4 corr two a4).pport p = { c.pport p with
      req := none, presp := none, pair := if two then some ((t3 : Int) + corr, t4) else (c.pport p).pair
      pairAt := if two then a4 else (c.pport p).pairAt
      mld := some (((((t4 : Int) - t1 + (c.stepAfter (c.pport p).reqAt - c.stepAfter a4) : Int) : Rat) * (c.pport p).nrr -
        ((t3 : Int) - t2 : Int) - corr) / 2) } := by
  unfold Core.peerDone
  extract_lets x key r mld
  have rate : r = (c.pport p).nrr := by
    unfold r x
    rcases h with rfl | h
    · split
      · rfl
      · rfl
    · rw [h]
  rw [Core.pport_setPport, if_pos rfl]
  unfold mld
  rw [rate]

end

/-- Settles O39: a message that the engine hears and that belongs to an enabled domain reaches the port of its lane; what the port
takes of it moves that port, and the delays of its servos, alone. -/
theorem ptpMessages : Obligations.PtpMessages := by
  unfold Obligations.PtpMessages
  refine ⟨?oneStep, ?twoStep, ?discarded, ?unheard, ?followUp, ?delayResp, ?pdelayReq, ?pdelayResp, ?pdelayWaits,
    ?pdelayFollowUp⟩
  case oneStep =>
    intro s n tr tm l m d p sv hr h ty slave parent one hp hs
    refine onRunCore_answers hr ?_
    rw [Dev.act_sv, Dev.act_pport, syncRxStep_oneStep h ty slave parent one, Core.svAdd_pport,
      Core.svAdd_sv sv.isLt (by simpa using hp) (by simpa using hs)]
    simp
  case twoStep =>
    intro s n tr tm l m d p hr h ty slave parent two
    have step := syncRxStep_twoStep h ty slave parent two
    refine onRunCore_answers hr ⟨?_, ?_, fun v _ => ?_⟩
    · rw [Dev.act_pport, step, Core.pport_setPport, if_pos rfl]
    · rw [Dev.act_pport, step, Core.pport_setPport, if_pos rfl]
    · rw [Dev.act_sv, step]
      exact Core.heard_sv v
  case discarded =>
    intro s n tm l m hr hn run heard isMsg dom
    have step : syncRxStep n tm l s.dev.core = (s.dev.core.heard n.val l tm).2.bump PTE_DISCARD_CNT.count :=
      Core.rxWith_discards hn run heard isMsg dom
    refine onRunCore_answers hr ⟨?_, fun p _ => ?_⟩
    · rw [Dev.act_rd_key _ _ _ _ _ (by decide), step, Core.rd_bump_same, Core.heard_rd, Nat.min_comm]
    · rw [Dev.act_pport, step]
      exact Core.heard_pport p
  case unheard =>
    intro s n tm l hr hn run heard
    have step : syncRxStep n tm l s.dev.core = (s.dev.core.heard n.val l tm).2 := Core.rxWith_unheard hn run heard
    refine onRunCore_answers hr ⟨?_, fun p _ => ?_⟩
    · rw [Dev.act_rd_key _ _ _ _ _ (by decide), step, Core.heard_rd]
    · rw [Dev.act_pport, step, Core.heard_pport]
  case followUp =>
    intro s n tr tm t2 corr l m d p sv hr h ty slave parent sync within hp hs
    refine onRunCore_answers hr ?_
    rw [Dev.act_sv, Dev.act_pport, followUpRxStep_eq h ty slave parent sync within, Core.svAdd_pport,
      Core.svAdd_sv sv.isLt (by simpa using hp) (by simpa using hs)]
    simp
  case delayResp =>
    intro s n tr t3 l m d p sv hr h ty slave parent req hid hp hs
    refine onRunCore_answers hr ?_
    rw [Dev.act_sv, Dev.act_pport, delayRespRxStep_eq h ty slave parent req hid, Core.svAdd_pport,
      Core.svAdd_sv sv.isLt (by simpa using hp) (by simpa using hs)]
    simp
  case pdelayReq =>
    intro s n tr tm l m d p hr h ty prof clock
    refine onRunCore_answers hr ?_
    rw [Dev.act_lane, pdelayReqRxStep_eq h ty prof, Core.send_queued (by rwa [Core.heard_clockId]), Core.heard_queued]
  case pdelayResp =>
    intro s n tr tm t1 l m d p hr h ty prof one req hid
    refine onRunCore_answers hr ?_
    rw [Dev.act_pport, pdelayRespRxStep_oneStep h ty prof one req hid, Core.peerDone_pport (.inl rfl)]
    simp
  case pdelayWaits =>
    intro s n tr tm t1 l m d p hr h ty prof two req hid
    refine onRunCore_answers hr ?_
    rw [Dev.act_pport, pdelayRespRxStep_twoStep h ty prof two req hid, Core.pport_setPport, if_pos rfl]
    exact ⟨rfl, rfl, rfl⟩
  case pdelayFollowUp =>
    intro s n tr q t1 t2 t4 corr l m d p hr h ty prof req presp hid pair
    refine onRunCore_answers hr ?_
    rw [Dev.act_pport, pdelayRespFollowUpRxStep_eq h ty prof req presp hid,
      Core.peerDone_pport (.inr (by rw [Core.heard_pport]; exact pair))]
    simp

end Sys2Proof.Machine
end

section
/-! Three statements on the PTP engine that fail, each in a state that its premises allow (R276, R281, R285). -/

namespace Sys2Proof.Machine

open Sys2Proof

/-! ## A lost master in a part without lanes (R276) -/

/-- A running engine in a part without lanes, whose port 0 is in SLAVE on domain 1. -/
def lanelessPte : Core :=
  (((({ inReset := false, part := { variant := .c1624 } } : Core).wr PTE_STAT.run 1).wr RS_STAT.clk_src 0).wr
    ETH_CFG.domain 2 0).wr PTE_PORT_STAT.state 9 0

/-- FS37 is absent in such a part, so the loss of the master raises nothing. -/
theorem announceTimeoutStep_laneless_hit : (announceTimeoutStep 0 lanelessPte).rd FLT_RAW.hit 0 1 = 0 := by decide

/-- Refutes O40: the statement promises FS37 for every slave port, and a part of the Course variants has no FS37 to raise;
no premise says that the part has lanes. -/
theorem not_portsAndAnnounces : ¬ Obligations.PortsAndAnnounces := by
  rintro ⟨-, lost, -⟩
  obtain ⟨t, ht, -, raised, -⟩ := lost ⟨[], { core := lanelessPte }⟩ 0 1 rfl (by decide) (by decide) (by decide)
  have quiet : Answers (exec (.announceTimeout 0) ⟨[], { core := lanelessPte }⟩) fun t => t.dev.core.rd FLT_RAW.hit 0 1 = 0 := by
    refine onRunCore_answers rfl ?_
    rw [Dev.act_rd_key _ _ _ _ _ (by decide)]
    exact announceTimeoutStep_laneless_hit
  obtain ⟨t', ht', none_hit⟩ := quiet
  obtain rfl : t' = t := by injection ht'.symm.trans ht
  rw [none_hit] at raised
  exact absurd raised (by decide)

/-! ## A refusal to a slot that the part does not have (R281) -/

/-- A Signaling message over Ethernet that asks for 256 Syncs a second. -/
def fastRequestFrame : List Byte :=
  bytesBE 6 0x011B19000000 ++ bytesBE 6 0 ++ bytesBE 2 0x88F7 ++ bytesBE 1 0x0C ++ bytesBE 1 2 ++ bytesBE 2 54 ++
    List.replicate 30 0#8 ++ List.replicate 10 0#8 ++ bytesBE 2 4 ++ bytesBE 2 6 ++ [0#8, 0xF8#8] ++ List.replicate 4 0#8

/-- The message in that frame. -/
def fastRequest : Msg := ⟨fastRequestFrame.drop 14, {}, 0, true, 0x011B19000000⟩

/-- A running engine that holds the sender of that message in slot 16,384, one beyond the last slot of the part. -/
def farSlot : Core :=
  { (((((({ inReset := false } : Core).wr PTE_STAT.run 1).wr RS_STAT.clk_src 0).wr PTE_DOM_CFG.en 1 0).wr
      PTE_PORT_CFG.en 1 0).wr ETH_CFG.domain 1 0).wr ETH_PTP_CFG.enc 7 0 with
    mtl := { recs := [(11 * 65536, List.replicate 16 0#8)] }
    pte := { slots := [(2 ^ 14, some {})] } }

theorem farSlot_taken : PtpTaken farSlot 0 fastRequestFrame 0 0 fastRequest 0 0 := by decide

/-- FS38 takes no unit beyond the slots of the part. -/
theorem requestUnicastTransmissionStep_farSlot_hit :
    (requestUnicastTransmissionStep 0 fastRequestFrame farSlot).rd FLT_RAW.hit 0 1 = 0 := by decide

/-- Refutes O42: the statement promises FS38 for every refusal, and FS38 names the sender's slot; no premise says that a slot
that the engine holds is one of the part's. -/
theorem not_unicastNegotiation : ¬ Obligations.UnicastNegotiation := by
  rintro ⟨-, refused, -⟩
  obtain ⟨t, ht, -, -, raised, -⟩ := refused ⟨[], { core := farSlot }⟩ 0 0 fastRequestFrame fastRequest 0 0
    [0#8, 0xF8#8, 0#8, 0#8, 0#8, 0#8] 0 rfl farSlot_taken (by decide) (by decide) (by decide) (by decide) (by decide) (by decide)
  have quiet : Answers (exec (.requestUnicastTransmission 0 fastRequestFrame) ⟨[], { core := farSlot }⟩) fun t =>
      t.dev.core.rd FLT_RAW.hit 0 1 = 0 := by
    refine onRunCore_answers rfl ?_
    rw [Dev.act_rd_key _ _ _ _ _ (by decide)]
    exact requestUnicastTransmissionStep_farSlot_hit
  obtain ⟨t', ht', none_hit⟩ := quiet
  obtain rfl : t' = t := by injection ht'.symm.trans ht
  rw [none_hit] at raised
  exact absurd raised (by decide)

/-! ## A slot number with a bit beyond its field (R285) -/

/-- A running engine with a client in slot 0, and PTE_SLOT_CTRL.slot at a value one bit too wide. -/
def wideSlotCtrl : Core :=
  { (({ inReset := false, regs := [(PTE_SLOT_CTRL.slot.key 0 0, 2 ^ 14)] } : Core).wr PTE_STAT.run 1).wr RS_STAT.clk_src 0 with
    pte := { slots := [(0, some {})] } }

/-- The write of the slot's number keeps the bit, so it names no slot of the part and is refused. -/
theorem evictStep_wideSlotCtrl_slots : (evictStep 0 wideSlotCtrl).pte.slots = [(0, some {})] := by decide

/-- Refutes O43: the statement promises that EVICT frees the slot it names, and with a slot number too wide for its field the
write that names the slot is refused; no premise bounds the field. -/
theorem not_clientService : ¬ Obligations.ClientService := by
  rintro ⟨-, -, -, -, -, evicted, -⟩
  obtain ⟨t, ht, freed, -⟩ := evicted ⟨[], { core := wideSlotCtrl }⟩ 0 {} rfl (by decide) (by decide) rfl (by decide)
  have held : Answers (exec (.evict 0) ⟨[], { core := wideSlotCtrl }⟩) fun t => t.dev.core.slot 0 = some {} := by
    refine onRunCore_answers rfl ?_
    rw [Dev.act_slot]
    unfold Core.slot
    exact congrArg (AMap.get none · 0) evictStep_wideSlotCtrl_slots
  obtain ⟨t', ht', still⟩ := held
  obtain rfl : t' = t := by injection ht'.symm.trans ht
  exact absurd (still.symm.trans freed) (by decide)

end Sys2Proof.Machine
end

section
/-! What the work on a candidate leaves of the PTP engine: a servo delivers its samples to a PKT candidate (R67, R278). -/

namespace Sys2Proof.Machine

open Sys2Proof

/-! ## Keys of the register store -/

/-- Registers that read alike at an address hold alike there. -/
theorem Core.Alike.get {p : Nat → Prop} {c d : Core} (h : Core.Alike p c d) {k : Nat} (hp : p (k / 32)) :
    d.regs.get 0 k = c.regs.get 0 k := by
  have key : (⟨k / 32, 0, 0, 4, 31, k % 32, .ro, 0, []⟩ : Fld).key 0 0 = k := by
    simp only [Fld.key, Fld.addr]
    omega
  have read := h ⟨k / 32, 0, 0, 4, 31, k % 32, .ro, 0, []⟩ 0 0
    (by simp only [Fld.addr, Nat.zero_mul, Nat.add_zero]; exact hp) (Nat.mod_lt k (by decide))
  unfold Core.rd at read
  rw [key] at read
  simpa [Fld.reset] using read

/-! ## The relation -/

/-- From `c` to `d` the engine's hidden state, the image's records and the registers with keys in `K` are as they were. -/
structure Core.EngSame (K : Nat → Prop) (c d : Core) : Prop where
  regs : ∀ k, K k → d.regs.get 0 k = c.regs.get 0 k
  pte : d.pte = c.pte
  mtl : d.mtl = c.mtl

/-- The keys of the registers from the lanes' block on. -/
def fromLanes (k : Nat) : Prop := 0x200000 * 32 ≤ k

/-- The first `n` copies of a field lie before the lanes' block. -/
def Fld.beforeLanes (f : Fld) (n : Nat) : Bool := f.addr (n - 1) 0 < 0x200000 && f.lo < 32

namespace Core.EngSame

variable {K : Nat → Prop} {c d e : Core}

protected theorem refl : EngSame K c c := ⟨fun _ _ => rfl, rfl, rfl⟩

protected theorem trans (h : EngSame K c d) (t : EngSame K d e) : EngSame K c e :=
  ⟨fun k hk => (t.regs k hk).trans (h.regs k hk), t.pte.trans h.pte, t.mtl.trans h.mtl⟩

theorem mono {L : Nat → Prop} (h : EngSame K c d) (hL : ∀ k, L k → K k) : EngSame L c d :=
  { h with regs := fun k hk => h.regs k (hL k hk) }

theorem rd (h : EngSame K c d) {g : Fld} {i k : Nat} (hk : K (g.key i k)) : d.rd g i k = c.rd g i k := by
  unfold Core.rd
  rw [h.regs _ hk]

theorem sv (h : EngSame K c d) (v : Nat) : d.sv v = c.sv v := by
  unfold Core.sv
  rw [h.pte]

/-- A write of a register with another key. -/
theorem wr {f : Fld} {v i k : Nat} (h : EngSame K c d) (hf : ¬ K (f.key i k)) : EngSame K c (d.wr f v i k) :=
  h.trans ⟨fun _ hq => AMap.get_set_ne _ _ _ fun same => hf (same ▸ hq), rfl, rfl⟩

/-- An update of hidden state that is none of these. -/
theorem hidden (h : EngSame K c d) (hr : e.regs = d.regs) (hp : e.pte = d.pte) (hm : e.mtl = d.mtl) : EngSame K c e :=
  h.trans ⟨fun _ _ => by rw [hr], hp, hm⟩

theorem ite {p : Prop} [Decidable p] (h : EngSame K c d) (k : EngSame K c e) : EngSame K c (if p then d else e) := by
  split <;> assumption

theorem on {b : Bool} {f : Core → Core} (h : EngSame K c d) (hf : ∀ {e}, EngSame K c e → EngSame K c (f e)) :
    EngSame K c (d.on b f) := ite (hf h) h

theorem range {n : Nat} {f : Core → Nat → Core} (h : EngSame K c d)
    (hf : ∀ {e i}, i < n → EngSame K c e → EngSame K c (f e i)) : EngSame K c (d.each (List.range n) f) :=
  Core.each_keeps (fun _ _ hi h => hf (List.mem_range.mp hi) h) h

/-! ### Faults and records -/

/-- A write of one of `n` copies of a field before the lanes' block. -/
theorem wrAt {f : Fld} {n v i : Nat} (h : EngSame fromLanes c d) (hi : i < n) (hf : f.beforeLanes n = true) :
    EngSame fromLanes c (d.wr f v i) := by
  obtain ⟨below, lo⟩ : f.addr (n - 1) 0 < 0x200000 ∧ f.lo < 32 := by simpa [Fld.beforeLanes] using hf
  have last : f.addr i 0 ≤ f.addr (n - 1) 0 := by
    have := Nat.mul_le_mul_right f.stride (show i ≤ n - 1 by omega)
    unfold Fld.addr
    omega
  refine h.wr fun behind => ?_
  unfold fromLanes Fld.key at behind
  omega

theorem hit (h : EngSame fromLanes c d) (k : Core.Hit d e) : EngSame fromLanes c e := by
  obtain ⟨regs, calm⟩ := k
  have pte := congrArg Core.pte calm
  have mtl := congrArg Core.mtl calm
  refine h.trans ⟨fun q hq => regs.get ?_, pte, mtl⟩
  unfold fromLanes at hq
  unfold inFlt
  omega

theorem injFire {fs u info : Nat} (h : EngSame fromLanes c d) : EngSame fromLanes c (d.injFire fs u info) := by
  have fired : EngSame fromLanes c d.injFired :=
    wrAt (wrAt (h.wrAt Nat.one_pos rfl) Nat.one_pos rfl) Nat.one_pos rfl
  exact fired.hit (Core.raiseInfo_hit ..)

theorem linkVal {link prod : Nat} (h : EngSame fromLanes c d) : EngSame fromLanes c (d.linkVal link prod).1 := by
  unfold Core.linkVal
  extract_lets info
  split
  · exact h.injFire
  · split
    · exact h.hidden rfl rfl rfl
    · exact h

theorem emit {rt u a : Nat} {l : List Nat} (h : EngSame fromLanes c d) : EngSame fromLanes c (d.emit rt u a l) := by
  have dropped (v : Nat) : EngSame fromLanes c (d.wr STG_FAB_DROP.dropped v) := h.wrAt Nat.one_pos rfl
  have dead (v : Nat) : EngSame fromLanes c (d.wr TIM_DEAD_CNT.count v) := h.wrAt Nat.one_pos rfl
  have waits {l m : List Item} : EngSame fromLanes c { d with outbox := l, held := m } := h.hidden rfl rfl rfl
  unfold Core.emit
  split
  · exact h
  · refine ite waits ?_
    unfold Core.holdItem
    exact ite (ite (dropped _) waits) (ite (ite (dead _) waits) (ite waits (ite (dropped _) (ite (dropped _) waits))))

/-! ### The estimator (R66 to R68) -/

theorem setCand {i : Nat} {x : Cand} (h : EngSame fromLanes c d) : EngSame fromLanes c (d.setCand i x) := h.hidden rfl rfl rfl

/-- A change of a candidate's state leaves the engine alone. -/
theorem candInv : CandInv (EngSame fromLanes c) where
  wr := fun {d f v i} hf hi h => by
    simp only [Fld.ofCandEval, Bool.and_eq_true] at hf
    obtain ⟨spans, page⟩ := hf
    have place := Fld.addr_div_of_spans spans hi Nat.one_pos
    have low := Fld.lo_of_spans spans
    simp only [List.contains_iff_mem, List.mem_cons, List.not_mem_nil, or_false] at page
    refine h.wr fun behind => ?_
    unfold fromLanes Fld.key at behind
    omega
  hit := fun k h => h.hit k
  emit := fun h => h.emit
  setCand := fun h => h.setCand
  setPa := fun h => h.hidden rfl rfl rfl
  pairs := fun h => h.hidden rfl rfl rfl

theorem candRegs {i : Nat} (h : EngSame fromLanes c d) (hi : i < 24) : EngSame fromLanes c (d.candRegs i) :=
  candInv.candRegs hi h

theorem estJump {i t : Nat} {raw : Rat} {ev : Bool} (h : EngSame fromLanes c d) (hi : i < 24) :
    EngSame fromLanes c (d.estJump i t raw ev) := by
  unfold Core.estJump
  exact candRegs (on (ite h.setCand (h.setCand.wrAt hi rfl)) fun h => h.wrAt hi rfl) hi

theorem estStep {i t n : Nat} {raw T : Rat} (h : EngSame fromLanes c d) (hi : i < 24) :
    EngSame fromLanes c (d.estStep i t n raw T) := by
  unfold Core.estStep
  extract_lets y x c1 c2 r lim c3 lam a b s phi gate c4
  have h2 : EngSame fromLanes c c2 := h.setCand.wrAt hi rfl
  have h3 : EngSame fromLanes c c3 := (h2.wrAt hi rfl).setCand
  exact ite (h.setCand.estJump hi) (ite (ite (h3.estJump hi) h3) (h2.setCand.candRegs hi))

theorem coreData {v : Rat} (h : EngSame fromLanes c d) : EngSame fromLanes c (d.coreData v).2 := by
  unfold Core.coreData
  split
  · exact h.hidden rfl rfl rfl
  · exact h

theorem estUpdate {i t n : Nat} {raw T : Rat} (h : EngSame fromLanes c d) (hi : i < 24) :
    EngSame fromLanes c (d.estUpdate i t n raw T) := (h.coreData.estStep hi).linkVal.setCand

/-! ### A sample, or none (R71, R75) -/

theorem pktSample {i t : Nat} {raw : Rat} (h : EngSame fromLanes c d) (hi : i < 24) :
    EngSame fromLanes c (d.pktSample i t raw) := by
  unfold Core.pktSample
  extract_lets st n c1 x y c2 z c3
  have h1 : EngSame fromLanes c c1 := h.wrAt hi rfl
  have h2 : EngSame fromLanes c c2 := h1.setCand.estUpdate hi
  have h3 : EngSame fromLanes c c3 := ite h1.setCand (ite h2.injFire.setCand h2)
  exact ite h (candInv.candEval hi h3)

theorem candMiss {i t : Nat} (h : EngSame fromLanes c d) (hi : i < 24) : EngSame fromLanes c (d.candMiss i t) := by
  unfold Core.candMiss
  exact ite h (ite h (setCand (h.wrAt hi rfl)))

end Core.EngSame

end Sys2Proof.Machine
end

section
/-! What a servo of the PTP engine reads of its settings, and what it keeps while a sample is delivered (R278, R290, R296). -/

namespace Sys2Proof.Machine

open Sys2Proof

/-! ## A servo goes to RUN (R290) -/

/-- The keys from the lanes' block on, but for the marks that show the servos' cross-checks. -/
def offXchk (k : Nat) : Prop := fromLanes k ∧ ¬ (k / 32 % 0x40 = 0x10 ∧ k % 32 = 24)

namespace Core.EngSame

variable {c d : Core}

theorem xchkRefresh (h : EngSame offXchk c d) : EngSame offXchk c d.xchkRefresh :=
  h.range fun {_ i} _ h => h.wr fun ⟨_, other⟩ => other <| by
    simp only [Fld.key, Fld.addr, PTE_SV_STAT.xchk_ok]
    omega

theorem svEvent {s new old cause : Nat} {o : Rat} (h : EngSame fromLanes c d) :
    EngSame fromLanes c (d.svEvent s new old cause o) := h.emit

end Core.EngSame

section

variable {c : Core} {s cause : Nat} {o : Rat}

/-- A servo that goes to RUN has its cause and its state written, and nothing else of its own. -/
theorem Core.svGoto_run : EngSame offXchk ((c.wr PTE_SV_STAT.cause cause s).wr PTE_SV_STAT.state vsRun s)
    (c.svGoto s vsRun cause o) := by
  have step : c.svGoto s vsRun cause o = (((c.wr PTE_SV_STAT.cause cause s).wr PTE_SV_STAT.state vsRun s).svEvent s vsRun
      (c.svState s) cause o).xchkRefresh := by
    simp [Core.svGoto, vsRun, vsOff, vsNoMaster, Core.on]
  rw [step]
  exact (Core.EngSame.refl.svEvent.mono fun _ => And.left).xchkRefresh

theorem Core.svState_svGoto_run : (c.svGoto s vsRun cause o).svState s = vsRun := by
  have kept : offXchk (PTE_SV_STAT.state.key s 0) := by
    simp only [offXchk, fromLanes, Fld.key, Fld.addr, PTE_SV_STAT.state]
    omega
  exact (Core.svGoto_run.rd kept).trans (Core.rd_wr_same ..)

theorem Core.rd_svGoto_run {g : Fld} {i : Nat} (kept : offXchk (g.key i 0)) (state : g.key i 0 ≠ PTE_SV_STAT.state.key s 0)
    (other : g.key i 0 ≠ PTE_SV_STAT.cause.key s 0) : (c.svGoto s vsRun cause o).rd g i = c.rd g i := by
  rw [Core.svGoto_run.rd kept, Core.rd_wr_ne _ _ _ _ _ _ _ _ state, Core.rd_wr_ne _ _ _ _ _ _ _ _ other]

theorem Core.sv_svGoto_run (v : Nat) : (c.svGoto s vsRun cause o).sv v = c.sv v := Core.svGoto_run.sv v

end

/-! ## The settings that a servo reads -/

/-- The keys of the engine's settings that a servo reads: all lie in the first word of a row. -/
def settingKey (k : Nat) : Prop := fromLanes k ∧ k / 32 % 0x40 = 0

/-- A field in the first word of a row of the engine's. -/
def Fld.ofSetting (f : Fld) : Bool :=
  0x210000 ≤ f.base + f.off && f.lo < 32 && f.stride % 0x40 = 0 && (f.base + f.off) % 0x40 = 0

theorem Fld.settingKey_key {f : Fld} (hf : f.ofSetting = true) (i : Nat) : settingKey (f.key i 0) := by
  simp only [Fld.ofSetting, Bool.and_eq_true, decide_eq_true_eq] at hf
  obtain ⟨⟨⟨base, lo⟩, stride⟩, off⟩ := hf
  have row : i * f.stride % 0x40 = 0 := by rw [Nat.mul_mod, stride, Nat.mul_zero, Nat.zero_mod]
  have word : f.key i 0 / 32 = f.addr i 0 := f.key_div i 0 lo
  unfold settingKey fromLanes
  rw [word]
  unfold Fld.addr at word ⊢
  omega

/-- Servo `s` is not OFF, it and its domain are enabled, and its port is in UNCALIBRATED or SLAVE. -/
structure Core.ServoServes (s : Nat) (c : Core) : Prop where
  en : c.svEn s = true
  dom : c.domOn (c.rd PTE_SV_CFG.domain s) = true
  slave : c.portSlave (c.rd PTE_SV_CFG.port s) = true
  started : 1 ≤ c.svState s

namespace Core.ServoServes

variable {s : Nat} {c d : Core}

/-- Such a servo keeps its state when it is evaluated. -/
theorem svEval (h : ServoServes s c) : c.svEval s = c := by
  obtain ⟨en, dom, slave, started⟩ := h
  have on : c.svState s ≠ vsOff := Nat.one_le_iff_ne_zero.mp started
  simp [Core.svEval, en, dom, slave, on]

/-- A servo serves on while its settings stay, its port is a slave and it is not OFF. -/
theorem of_settings (h : ServoServes s c) (regs : ∀ k, settingKey k → d.regs.get 0 k = c.regs.get 0 k) (mtl : d.mtl = c.mtl)
    (slave : d.portSlave (c.rd PTE_SV_CFG.port s) = true) (started : 1 ≤ d.svState s) : ServoServes s d := by
  have rd {f : Fld} (hf : f.ofSetting = true) (i : Nat) : d.rd f i = c.rd f i := by
    unfold Core.rd
    rw [regs _ (Fld.settingKey_key hf i)]
  obtain ⟨en, dom, -, -⟩ := h
  refine ⟨?_, ?_, by rwa [rd (f := PTE_SV_CFG.port) rfl], started⟩
  · rw [← en]
    simp only [Core.svEn, Core.rdB, Core.ptpByte, mtl, rd (f := PTE_SV_CFG.en) rfl]
  · rw [← dom]
    simp only [Core.domOn, Core.domValid, Core.rdB, rd (f := PTE_SV_CFG.domain) rfl, rd (f := PTE_STAT.run) rfl,
      rd (f := PTE_DOM_CFG.en) rfl, rd (f := PTE_DOM_CFG.profile) rfl, rd (f := PTE_DOM_CFG.number) rfl]

/-- A write of a register that is none of these. -/
theorem wr {f : Fld} {v i : Nat} (h : ServoServes s c) (setting : ¬ settingKey (f.key i 0)) (low : f.lo < 28) :
    ServoServes s (c.wr f v i) := by
  have rd {g : Fld} {j : Nat} (high : 28 ≤ g.lo ∧ g.lo < 32) : (c.wr f v i).rd g j = c.rd g j := by
    refine Core.rd_wr_ne _ _ _ _ _ _ _ _ ?_
    unfold Fld.key
    omega
  refine h.of_settings (fun k hk => AMap.get_set_ne _ _ _ fun same => setting (same ▸ hk)) rfl ?_ ?_
  · rw [← h.slave]
    unfold Core.portSlave Core.portState
    rw [rd (by decide)]
  · have state : (c.wr f v i).svState s = c.svState s := rd (by decide)
    exact state ▸ h.started

theorem setSv {v : Nat} {x : SvU} (h : ServoServes s c) : ServoServes s (c.setSv v x) :=
  h.of_settings (fun _ _ => rfl) rfl h.slave h.started

theorem svGoto_run {cause : Nat} {o : Rat} (h : ServoServes s c) : ServoServes s (c.svGoto s vsRun cause o) := by
  have kept : EngSame offXchk ((c.wr PTE_SV_STAT.cause cause s).wr PTE_SV_STAT.state vsRun s) (c.svGoto s vsRun cause o) :=
    Core.svGoto_run
  have shows {f : Fld} (word : f.addr s 0 = PTE_SV_STAT.state.addr s 0) (lo : f.lo < 32) : ¬ settingKey (f.key s 0) := by
    rintro ⟨-, row⟩
    rw [f.key_div s 0 lo, word] at row
    simp only [Fld.addr, PTE_SV_STAT.state] at row
    omega
  have written : EngSame settingKey c ((c.wr PTE_SV_STAT.cause cause s).wr PTE_SV_STAT.state vsRun s) :=
    (Core.EngSame.refl.wr (shows (f := PTE_SV_STAT.cause) rfl (by decide))).wr (shows (f := PTE_SV_STAT.state) rfl (by decide))
  have same := written.trans (kept.mono fun k ⟨behind, row⟩ => ⟨behind, by omega⟩)
  have port (p : Nat) : (c.svGoto s vsRun cause o).portState p = c.portState p := by
    refine Core.rd_svGoto_run ?_ ?_ ?_ <;>
      simp only [offXchk, fromLanes, Fld.key, Fld.addr, PTE_PORT_STAT.state, PTE_SV_STAT.state, PTE_SV_STAT.cause] <;> omega
  refine h.of_settings same.regs same.mtl ?_ ?_
  · rw [← h.slave]
    unfold Core.portSlave
    rw [port]
  · rw [Core.svState_svGoto_run]
    decide

end Core.ServoServes

/-! ## What the other servos leave of a servo -/

/-- The keys of the settings, of the ports' states, and of the state and the samples of servo `s`. -/
def servoKey (s k : Nat) : Prop :=
  settingKey k ∨ fromLanes k ∧ k / 32 % 0x20 = 4 ∨ k = PTE_SV_STAT.state.key s 0

theorem servoKey_portState (s p : Nat) : servoKey s (PTE_PORT_STAT.state.key p 0) := by
  simp only [servoKey, fromLanes, Fld.key, Fld.addr, PTE_PORT_STAT.state]
  omega

theorem servoKey_samples (s v : Nat) : servoKey s (PTE_SV_SAMP_CNT.count.key v 0) := by
  simp only [servoKey, fromLanes, Fld.key, Fld.addr, PTE_SV_SAMP_CNT.count]
  omega

theorem servoKey.fromLanes {s k : Nat} (h : servoKey s k) : Machine.fromLanes k := by
  rcases h with ⟨behind, -⟩ | ⟨behind, -⟩ | rfl
  · exact behind
  · exact behind
  · simp only [Machine.fromLanes, Fld.key, Fld.addr, PTE_SV_STAT.state]
    omega

/-- From `c` to `d` servo `s` has its settings, its state, its samples, its offset and its delays, and the ports their states. -/
structure Core.ServoSame (s : Nat) (c d : Core) : Prop where
  regs : ∀ k, servoKey s k → d.regs.get 0 k = c.regs.get 0 k
  mtl : d.mtl = c.mtl
  o : (d.sv s).o = (c.sv s).o
  df : (d.sv s).df = (c.sv s).df
  db : (d.sv s).db = (c.sv s).db

namespace Core.ServoSame

variable {s v : Nat} {c d e : Core}

protected theorem refl : ServoSame s c c := ⟨fun _ _ => rfl, rfl, rfl, rfl, rfl⟩

protected theorem trans (h : ServoSame s c d) (k : ServoSame s d e) : ServoSame s c e :=
  ⟨fun q hq => (k.regs q hq).trans (h.regs q hq), k.mtl.trans h.mtl, k.o.trans h.o, k.df.trans h.df, k.db.trans h.db⟩

theorem ite {p : Prop} [Decidable p] (h : ServoSame s c d) (k : ServoSame s c e) : ServoSame s c (if p then d else e) := by
  split <;> assumption

theorem rd (h : ServoSame s c d) {g : Fld} {i : Nat} (hk : servoKey s (g.key i 0)) : d.rd g i = c.rd g i := by
  unfold Core.rd
  rw [h.regs _ hk]

theorem svState (h : ServoSame s c d) : d.svState s = c.svState s := h.rd (.inr (.inr rfl))

theorem portState (h : ServoSame s c d) (p : Nat) : d.portState p = c.portState p := h.rd (servoKey_portState s p)

theorem samples (h : ServoSame s c d) : d.rd PTE_SV_SAMP_CNT.count s = c.rd PTE_SV_SAMP_CNT.count s :=
  h.rd (servoKey_samples s s)

theorem serves (h : ServoSame s c d) (hs : c.ServoServes s) : d.ServoServes s := by
  refine hs.of_settings (fun k hk => h.regs k (.inl hk)) h.mtl ?_ (h.svState ▸ hs.started)
  rw [← hs.slave]
  unfold Core.portSlave
  rw [h.portState]

theorem eng (h : ServoSame s c d) (k : EngSame Machine.fromLanes d e) : ServoSame s c e :=
  h.trans ⟨fun q hq => k.regs q hq.fromLanes, k.mtl, by rw [k.sv], by rw [k.sv], by rw [k.sv]⟩

theorem wr {f : Fld} {x i : Nat} (h : ServoSame s c d) (hf : ¬ servoKey s (f.key i 0)) : ServoSame s c (d.wr f x i) :=
  h.trans ⟨fun _ hq => AMap.get_set_ne _ _ _ fun same => hf (same ▸ hq), rfl, rfl, rfl, rfl⟩

/-- A write of the word that shows a servo's state, but for the state of servo `s`. -/
theorem wrStat {f : Fld} {x : Nat} (h : ServoSame s c d) (word : f.addr v 0 = PTE_SV_STAT.state.addr v 0) (lo : f.lo < 32)
    (state : f.lo ≠ 29 ∨ v ≠ s) : ServoSame s c (d.wr f x v) := by
  refine h.wr ?_
  simp only [Fld.addr, PTE_SV_STAT.state] at word
  simp only [servoKey, settingKey, Machine.fromLanes, Fld.key, Fld.addr, PTE_SV_STAT.state]
  omega

theorem setSv {x : SvU} (h : ServoSame s c d) (other : v ≠ s) : ServoSame s c (d.setSv v x) := by
  have kept : (d.setSv v x).sv s = d.sv s := by rw [Core.sv_setSv, if_neg (Ne.symm other)]
  exact h.trans ⟨fun _ _ => rfl, rfl, by rw [kept], by rw [kept], by rw [kept]⟩

/-- A servo's average of what it learns starts anew. -/
theorem learnRestart (h : ServoSame s c d) : ServoSame s c (d.learnRestart v) := by
  refine Core.each_keeps (fun e u _ h => ?_) h
  by_cases same : u = s
  · subst same
    have read := Core.sv_setSv (c := e) u u { e.sv u with lSum := 0, lN := 0 }
    rw [if_pos rfl] at read
    exact h.trans ⟨fun _ _ => rfl, rfl, by rw [read], by rw [read], by rw [read]⟩
  · exact h.setSv same

theorem xchkRefresh (h : ServoSame s c d) : ServoSame s c d.xchkRefresh :=
  Core.each_keeps (fun _ _ _ h => h.wrStat (f := PTE_SV_STAT.xchk_ok) rfl (by decide) (.inl (by decide))) h

theorem svGoto {new cause : Nat} {o : Rat} (h : ServoSame s c d) (other : v ≠ s) : ServoSame s c (d.svGoto v new cause o) := by
  unfold Core.svGoto
  extract_lets old c1 x keep c2 c3
  have put {e : Core} {f : Fld} {n : Nat} (word : f.addr v 0 = PTE_SV_STAT.state.addr v 0) (lo : f.lo < 32)
      (h : ServoSame s c e) : ServoSame s c (e.wr f n v) := h.wrStat word lo (.inr other)
  have h1 : ServoSame s c c1 := put rfl (by decide) (put rfl (by decide) h)
  have h2 : ServoSame s c c2 := ite (h1.setSv other) h1
  have h3 : ServoSame s c c3 := ite h2.learnRestart h2
  exact (h3.eng Core.EngSame.refl.svEvent).xchkRefresh

theorem svEval (h : ServoSame s c d) (hs : c.ServoServes s) : ServoSame s c (d.svEval v) := by
  by_cases same : v = s
  · subst same
    rwa [(h.serves hs).svEval]
  · have goes {new cause : Nat} {o : Rat} : ServoSame s c (d.svGoto v new cause o) := h.svGoto same
    unfold Core.svEval
    exact ite h (ite (ite h goes) (ite goes (ite goes h)))

theorem domStat (h : ServoSame s c d) {i : Nat} : ServoSame s c (d.domStat i) := by
  have put {e : Core} {f : Fld} {x : Nat} (word : f.addr i 0 = PTE_DOM_STAT.steps.addr i 0) (lo : f.lo < 32)
      (h : ServoSame s c e) : ServoSame s c (e.wr f x i) := by
    refine h.wr ?_
    simp only [Fld.addr, PTE_DOM_STAT.steps] at word
    simp only [servoKey, settingKey, Machine.fromLanes, Fld.key, Fld.addr, PTE_SV_STAT.state]
    omega
  exact put rfl (by decide) (put rfl (by decide) (put rfl (by decide) (put rfl (by decide) h)))

theorem setPport {p : Nat} {x : PortU} (h : ServoSame s c d) : ServoSame s c (d.setPport p x) :=
  h.trans ⟨fun _ _ => rfl, rfl, rfl, rfl, rfl⟩

/-- A port that goes to another state, in which the servo still serves. -/
theorem portSet {p st : Nat} (moves : c.portState p ≠ st) (hs : (c.wr PTE_PORT_STAT.state st p).ServoServes s) :
    ServoSame s (c.wr PTE_PORT_STAT.state st p) (c.portSet p st) := by
  unfold Core.portSet
  extract_lets x slave c1 c2 c3
  rw [if_neg moves]
  have h2 : ServoSame s c1 c2 := ServoSame.refl.setPport
  have h3 : ServoSame s c1 c3 := Core.each_keeps (fun _ _ _ h => h.domStat) h2
  exact Core.each_keeps (fun _ _ _ h => h.svEval hs) h3

end Core.ServoSame

/-! ## A sample delivered (R278) -/

/-- A servo of a port that goes from UNCALIBRATED to SLAVE serves on. -/
theorem Core.ServoServes.calibrated {s : Nat} {c : Core} (h : c.ServoServes s) :
    (c.wr PTE_PORT_STAT.state 9 (c.rd PTE_SV_CFG.port s)).ServoServes s := by
  have state : (c.wr PTE_PORT_STAT.state 9 (c.rd PTE_SV_CFG.port s)).svState s = c.svState s := by
    refine Core.rd_wr_ne _ _ _ _ _ _ _ _ ?_
    simp only [Fld.key, Fld.addr, PTE_SV_STAT.state, PTE_PORT_STAT.state]
    omega
  refine h.of_settings (fun k hk => AMap.get_set_ne _ _ _ ?_) rfl ?_ (state ▸ h.started)
  · rintro rfl
    obtain ⟨-, row⟩ := hk
    simp only [Fld.key, Fld.addr, PTE_PORT_STAT.state] at row
    omega
  · have moved : (c.wr PTE_PORT_STAT.state 9 (c.rd PTE_SV_CFG.port s)).portState (c.rd PTE_SV_CFG.port s) = 9 :=
      Core.rd_wr_same ..
    unfold Core.portSlave
    rw [moved]
    rfl

/-- What servo `s` shows of its samples is the same in `d` as in `c`. -/
structure Core.ServoShown (s : Nat) (c d : Core) : Prop where
  state : d.svState s = c.svState s
  samples : d.rd PTE_SV_SAMP_CNT.count s = c.rd PTE_SV_SAMP_CNT.count s
  o : (d.sv s).o = (c.sv s).o
  df : (d.sv s).df = (c.sv s).df
  db : (d.sv s).db = (c.sv s).db

section

variable {s : Nat} {c d e : Core}

theorem Core.ServoSame.shown (h : ServoSame s c d) : c.ServoShown s d := ⟨h.svState, h.samples, h.o, h.df, h.db⟩

theorem Core.ServoShown.trans (h : c.ServoShown s d) (k : d.ServoShown s e) : c.ServoShown s e :=
  ⟨k.state.trans h.state, k.samples.trans h.samples, k.o.trans h.o, k.df.trans h.df, k.db.trans h.db⟩

theorem Core.wr_portState_shown (p x : Nat) : c.ServoShown s (c.wr PTE_PORT_STAT.state x p) := by
  refine ⟨Core.rd_wr_ne _ _ _ _ _ _ _ _ ?_, Core.rd_wr_ne _ _ _ _ _ _ _ _ ?_, rfl, rfl, rfl⟩ <;>
    simp only [Fld.key, Fld.addr, PTE_PORT_STAT.state, PTE_SV_STAT.state, PTE_SV_SAMP_CNT.count] <;> omega

/-- A servo that serves delivers a sample: it is counted, and the servo shows the rest as before. -/
theorem Core.svDeliver_shown {o : Rat} (hs : s < 4) (h : c.ServoServes s) :
    (c.bump PTE_SV_SAMP_CNT.count s).ServoShown s (c.svDeliver s o) := by
  unfold Core.svDeliver
  extract_lets p v c1 x c2
  have apart : ¬ settingKey (PTE_SV_SAMP_CNT.count.key s 0) := by
    simp only [settingKey, Fld.key, Fld.addr, PTE_SV_SAMP_CNT.count]
    omega
  have counted : (c.bump PTE_SV_SAMP_CNT.count s).ServoServes s := h.wr apart (by decide)
  have h0 : Core.ServoSame s (c.bump PTE_SV_SAMP_CNT.count s) v.1 := Core.ServoSame.refl.eng Core.EngSame.refl.linkVal
  have h2 : Core.ServoSame s (c.bump PTE_SV_SAMP_CNT.count s) c2 :=
    Core.ServoSame.setPport (.ite (h0.eng (Core.EngSame.refl.pktSample (by omega))) h0)
  have setting : settingKey (PTE_SV_CFG.port.key s 0) := Fld.settingKey_key rfl s
  have same_port : p = c2.rd PTE_SV_CFG.port s :=
    ((h2.rd (.inl setting)).trans (Core.rd_wr_ne _ _ _ _ _ _ _ _ fun same => apart (same ▸ setting))).symm
  split
  · next ready =>
    have moves : c2.portState p ≠ 9 := by
      obtain ⟨uncalibrated, -⟩ : c2.portState p = 8 ∧ 16 ≤ x.nCal + 1 := by simpa using ready
      omega
    have serves := (h2.serves counted).calibrated
    rw [← same_port] at serves
    exact (h2.shown.trans (Core.wr_portState_shown p 9)).trans (Core.ServoSame.portSet moves serves).shown
  · exact h2.shown

end

end Sys2Proof.Machine
end

section
/-! The updates of a servo, what it learns, and the host's acknowledgement (R278, R290, R292, R293, R296). -/

namespace Sys2Proof.Machine

open Sys2Proof

section

variable {c : Core} {s : Nat}

/-! ## SERVO_UPDATE (R278) -/

/-- The registers of a servo's offset and path delay are no settings. -/
theorem Core.ServoServes.svRegs {o m : Rat} (h : c.ServoServes s) : (c.svRegs s o m).ServoServes s := by
  have put {d : Core} {f : Fld} {v : Nat} (h : d.ServoServes s) (low : f.lo < 28)
      (row : f.addr s 0 % 0x40 ≠ 0) : (d.wr f v s).ServoServes s := by
    refine h.wr (fun ⟨_, first⟩ => row ?_) low
    rwa [f.key_div s 0 (by omega)] at first
  have words : PTE_SV_OFFS_LO.o.addr s 0 % 0x40 ≠ 0 ∧ PTE_SV_OFFS_HI.o.addr s 0 % 0x40 ≠ 0 ∧
      PTE_SV_MPD_LO.m.addr s 0 % 0x40 ≠ 0 ∧ PTE_SV_MPD_HI.m.addr s 0 % 0x40 ≠ 0 := by
    simp only [Fld.addr, PTE_SV_OFFS_LO.o, PTE_SV_OFFS_HI.o, PTE_SV_MPD_LO.m, PTE_SV_MPD_HI.m]
    omega
  obtain ⟨oLo, oHi, mLo, mHi⟩ := words
  exact put (put (put (put h (by decide) oLo) (by decide) oHi) (by decide) mLo) (by decide) mHi

theorem Core.sv_svRegs {o m : Rat} (v : Nat) : (c.svRegs s o m).sv v = c.sv v := by
  unfold Core.svRegs Core.wrPair
  simp only [Core.sv_wr]

/-- They are neither its state nor its samples. -/
theorem Core.svRegs_rd {o m : Rat} {g : Fld} (hg : g = PTE_SV_STAT.state ∨ g = PTE_SV_SAMP_CNT.count) :
    (c.svRegs s o m).rd g s = c.rd g s := by
  unfold Core.svRegs Core.wrPair
  rcases hg with rfl | rfl <;>
  · rw [Core.rd_wr_ne, Core.rd_wr_ne, Core.rd_wr_ne, Core.rd_wr_ne] <;>
      simp only [Fld.key, Fld.addr, PTE_SV_STAT.state, PTE_SV_SAMP_CNT.count, PTE_SV_OFFS_LO.o, PTE_SV_OFFS_HI.o,
        PTE_SV_MPD_LO.m, PTE_SV_MPD_HI.m] <;> omega

/-- The offset of a sample with the forward delay `f` and the mean delay `m`. -/
def Core.svOffset (c : Core) (s : Nat) (f m : Rat) : Rat :=
  f - m - (c.linkAsym (c.portLane (c.rd PTE_SV_CFG.port s)) + c.asymPath s : Int)

theorem Core.svState_setSv (v : Nat) (x : SvU) : (c.setSv v x).svState s = c.svState s := rfl

theorem Core.svState_bump_samples : (c.bump PTE_SV_SAMP_CNT.count s).svState s = c.svState s := by
  unfold Core.svState Core.bump
  rw [Core.rd_wr_ne]
  simp only [Fld.key, Fld.addr, PTE_SV_STAT.state, PTE_SV_SAMP_CNT.count]
  omega

/-- The first sample of a servo whose port has just become a slave: the servo runs and delivers its offset. -/
theorem Core.svSample_first {f m : Rat} (state : c.svState s = vsNoMaster) : ∃ x y : SvU,
    y.o = c.svOffset s f m ∧ y.df = (c.sv s).df ∧ y.db = (c.sv s).db ∧
      c.svSample s f m = ((((c.setSv s x).svRegs s (c.svOffset s f m) m).svGoto s vsRun 2 (c.svOffset s f m)).setSv s y).svDeliver
        s (c.svOffset s f m) := by
  unfold Core.svSample
  extract_lets la a o xc xrun smp xv x0 x mv xj c1 tau thr off out good
  have noMaster : c1.svState s = 1 := (Core.svRegs_rd (.inl rfl)).trans state
  have unit : (c1.svGoto s vsRun 2 o).sv s = x := by
    rw [Core.sv_svGoto_run]
    unfold c1
    rw [Core.sv_svRegs, Core.sv_setSv, if_pos rfl]
  have offs : ((c1.svGoto s vsRun 2 o).sv s).o = c.svOffset s f m := by rw [unit]; rfl
  have forth : ((c1.svGoto s vsRun 2 o).sv s).df = (c.sv s).df := by rw [unit]
  have back : ((c1.svGoto s vsRun 2 o).sv s).db = (c.sv s).db := by rw [unit]
  rw [noMaster]
  exact ⟨x, { (c1.svGoto s vsRun 2 o).sv s with
    aside := [], mBase := some (expMean x.mBase tau mv), xBase := some (expMean x.xBase tau xj) }, offs, forth, back, rfl⟩

/-- What that servo shows then. -/
theorem Core.svSample_noMaster {f m : Rat} (hs : s < 4) (h : c.ServoServes s) (state : c.svState s = vsNoMaster) :
    (c.svSample s f m).svState s = vsRun ∧ ((c.svSample s f m).sv s).df = (c.sv s).df ∧
      ((c.svSample s f m).sv s).db = (c.sv s).db ∧ ((c.svSample s f m).sv s).o = c.svOffset s f m ∧
      (c.svSample s f m).rd PTE_SV_SAMP_CNT.count s =
        min (2 ^ PTE_SV_SAMP_CNT.count.width - 1) (c.rd PTE_SV_SAMP_CNT.count s + 1) := by
  obtain ⟨x, y, offs, forth, back, step⟩ := Core.svSample_first (f := f) (m := m) state
  have serves : ((c.setSv s x).svRegs s (c.svOffset s f m) m).ServoServes s := h.setSv.svRegs
  have goes := (serves.svGoto_run (cause := 2) (o := c.svOffset s f m)).setSv (v := s) (x := y)
  have shown := Core.svDeliver_shown (o := c.svOffset s f m) hs goes
  rw [← step] at shown
  have unit (d : Core) : ((d.setSv s y).bump PTE_SV_SAMP_CNT.count s).sv s = y := (Core.sv_setSv _ s s y).trans (if_pos rfl)
  refine ⟨?_, ?_, ?_, ?_, ?_⟩
  · rw [shown.state, Core.svState_bump_samples, Core.svState_setSv, Core.svState_svGoto_run]
  · rw [shown.df, unit, forth]
  · rw [shown.db, unit, back]
  · rw [shown.o, unit, offs]
  · rw [shown.samples, Core.rd_bump_same, Nat.min_comm, Core.setSv_rd, Core.rd_svGoto_run, Core.svRegs_rd (.inr rfl),
      Core.setSv_rd]
    all_goals
      simp only [offXchk, fromLanes, Fld.key, Fld.addr, PTE_SV_SAMP_CNT.count, PTE_SV_STAT.state, PTE_SV_STAT.cause]
      omega

/-- SERVO_UPDATE of one forward and one backward delay, in NO_MASTER with end-to-end delays. -/
theorem servoUpdateStep_first {sv : Fin 4} {f b : Int} (run : c.pteRun = true) (h : c.ServoServes sv.val)
    (ends : c.profile (c.rd PTE_SV_CFG.domain sv.val) ≠ 3) (sel : c.rd PTE_SV_CFG.sel sv.val = 1)
    (forth : (c.sv sv.val).df = [f]) (back : (c.sv sv.val).db = [b]) :
    servoUpdateStep sv c = (c.setSv sv.val { c.sv sv.val with df := [], db := [] }).svSample sv.val f (((f : Rat) + b) / 2) := by
  have on : c.svState sv.val ≠ vsOff := Nat.one_le_iff_ne_zero.mp h.started
  have unitEnds (x : SvU) : (c.setSv sv.val x).profile (c.rd PTE_SV_CFG.domain sv.val) ≠ 3 := ends
  have slave (x : SvU) : (c.setSv sv.val x).portSlave (c.rd PTE_SV_CFG.port sv.val) = true := h.slave
  simp [servoUpdateStep, run, h.svEval, Core.svState_setSv, on, slave, sel, unitEnds, forth, back, svReduce]

/-- SERVO_UPDATE without a forward delay. -/
theorem servoUpdateStep_missed {sv : Fin 4} (run : c.pteRun = true) (h : c.ServoServes sv.val)
    (none_forth : (c.sv sv.val).df = []) :
    servoUpdateStep sv c =
      ((c.setSv sv.val { c.sv sv.val with df := [], db := [] }).candMiss (20 + sv.val)
        (c.setSv sv.val { c.sv sv.val with df := [], db := [] }).now).setSv sv.val
          { c.sv sv.val with df := [], db := [] } := by
  have on : c.svState sv.val ≠ vsOff := Nat.one_le_iff_ne_zero.mp h.started
  have slave (x : SvU) : (c.setSv sv.val x).portSlave (c.rd PTE_SV_CFG.port sv.val) = true := h.slave
  simp [servoUpdateStep, run, h.svEval, Core.svState_setSv, on, slave, none_forth, svReduce]

/-! ## LEARNED (R292) -/

/-- A saturated code reads as the number clamped to the field's range. -/
theorem toS_satS_word (z : Int) : toS 32 (satS 32 z) = max (-2147483648) (min 2147483647 z) := by
  have low : satS 32 z < 2 ^ 32 := satS_lt z
  unfold toS satS ofS clampI at *
  norm_num at *
  omega

/-- The asymmetry that a servo has learnt. -/
def Core.svLearnt (c : Core) (s : Nat) : Int :=
  c.asymPath s + roundR16 ((c.sv s).lSum / 64 - (c.sv s).xBase.getD 0)

/-- The registers that LEARNED writes: the servo's asymmetry and path, and the entry `e`. -/
def Core.learntRegs (c : Core) (s e : Nat) (asym : Int) (lane vid : Nat) (dMin dMax : Int) : Core :=
  let c := (((c.wrS PTE_SV_ASYM.asym asym s).wr PTE_PATH_KEY.valid 1 e).wr PTE_PATH_KEY.learned 1 e).wr PTE_PATH_KEY.lane lane e
  let c := (c.wr PTE_PATH_KEY.vid vid e).wr PTE_PATH_KEY.any_vid 0 e
  let c := (c.wrU PTE_PATH_DMIN.d dMin e).wrU PTE_PATH_DMAX.d dMax e
  (c.wrS PTE_PATH_ASYM.asym asym e).wr PTE_SV_STAT.path e s

/-- What they hold then. -/
theorem Core.learntRegs_rd {e lane vid : Nat} {asym dMin dMax : Int} (hs : s < 4) (he : e < 64) {d : Core}
    (hd : d = c.learntRegs s e asym lane vid dMin dMax) :
    d.rd PTE_PATH_KEY.valid e = 1 ∧ d.rd PTE_PATH_KEY.learned e = 1 ∧ d.rd PTE_SV_STAT.path s = e ∧
      d.rd PTE_PATH_ASYM.asym e = satS 32 asym ∧ d.rd PTE_SV_ASYM.asym s = satS 32 asym := by
  have code : satS 32 asym % 2 ^ 32 = satS 32 asym := Nat.mod_eq_of_lt (satS_lt asym)
  have path : e % 2 ^ 6 = e := Nat.mod_eq_of_lt he
  subst hd
  unfold Core.learntRegs Core.wrS Core.wrU
  refine ⟨?_, ?_, ?_, ?_, ?_⟩ <;>
    simp (disch := (simp only [Fld.key, Fld.addr, PTE_PATH_KEY.valid, PTE_PATH_KEY.learned, PTE_PATH_KEY.lane, PTE_PATH_KEY.vid,
      PTE_PATH_KEY.any_vid, PTE_PATH_DMIN.d, PTE_PATH_DMAX.d, PTE_PATH_ASYM.asym, PTE_SV_ASYM.asym, PTE_SV_STAT.path]; omega))
      only [Core.rd_wr_same, Core.rd_wr_ne]
  · rfl
  · rfl
  · exact path
  · exact code
  · exact code

/-- A field of the path table, or one of the engine's that lies below the state and its cause in its word. -/
def Fld.sparedByRun (f : Fld) : Bool :=
  0x210000 ≤ f.base && f.lo < 32 && (0x210400 ≤ f.base && f.lo ≠ 24 || f.lo < 24)

/-- A servo that goes to RUN keeps those. -/
theorem Core.rd_svGoto_run_spared {cause i : Nat} {o : Rat} {g : Fld} (hs : s < 4) (hg : g.sparedByRun = true) :
    (c.svGoto s vsRun cause o).rd g i = c.rd g i := by
  simp only [Fld.sparedByRun, Bool.and_eq_true, Bool.or_eq_true, decide_eq_true_eq] at hg
  refine Core.rd_svGoto_run ?_ ?_ ?_ <;>
    simp only [offXchk, fromLanes, Fld.key, Fld.addr, PTE_SV_STAT.state, PTE_SV_STAT.cause] <;> omega

/-- A servo in FROZEN with 64 periods of learning has learnt. -/
theorem Core.learns (run : c.pteRun = true) (state : c.svState s = vsFrozen) (full : (c.sv s).lN = 64) :
    (!c.pteRun || decide (c.svState s ≠ vsFrozen) || decide ((c.sv s).lN < 64)) = false := by
  simp [run, state, full]

/-- LEARNED writes what it learnt into the servo and into the free entry `e`, and the servo runs. -/
theorem learnedStep_free {sv : Fin 4} {e : Nat} (run : c.pteRun = true) (state : c.svState sv.val = vsFrozen)
    (full : (c.sv sv.val).lN = 64) (free : (List.range 64).find? (fun e => !c.rdB PTE_PATH_KEY.valid e) = some e) :
    ∃ (lane vid : Nat) (dMin dMax : Int) (x : SvU),
      learnedStep sv c = ((c.learntRegs sv.val e (c.svLearnt sv.val) lane vid dMin dMax).setSv sv.val x).svGoto sv.val vsRun 9
        (c.sv sv.val).o := by
  unfold learnedStep
  extract_lets s x p na ns c1
  rw [Core.learns run state full, if_neg Bool.false_ne_true, free]
  exact ⟨_, _, _, _, _, rfl⟩

/-- What the engine shows then. -/
theorem learnedStep_learns {sv : Fin 4} {e : Nat} (run : c.pteRun = true) (state : c.svState sv.val = vsFrozen)
    (full : (c.sv sv.val).lN = 64) (free : (List.range 64).find? (fun e => !c.rdB PTE_PATH_KEY.valid e) = some e) :
    (learnedStep sv c).svState sv.val = vsRun ∧ (learnedStep sv c).rd PTE_PATH_KEY.valid e = 1 ∧
      (learnedStep sv c).rd PTE_PATH_KEY.learned e = 1 ∧ (learnedStep sv c).rd PTE_SV_STAT.path sv.val = e ∧
      (learnedStep sv c).rd PTE_PATH_ASYM.asym e = satS 32 (c.svLearnt sv.val) ∧
      (learnedStep sv c).rd PTE_SV_ASYM.asym sv.val = satS 32 (c.svLearnt sv.val) := by
  have he : e < 64 := List.mem_range.mp (List.mem_of_find?_eq_some free)
  obtain ⟨lane, vid, dMin, dMax, x, step⟩ := learnedStep_free run state full free
  rw [step]
  refine ⟨Core.svState_svGoto_run, ?_⟩
  repeat rw [Core.rd_svGoto_run_spared sv.isLt rfl, Core.setSv_rd]
  exact Core.learntRegs_rd sv.isLt he rfl

/-- LEARNED without a free entry. -/
theorem learnedStep_full {sv : Fin 4} (run : c.pteRun = true) (state : c.svState sv.val = vsFrozen)
    (full : (c.sv sv.val).lN = 64) (taken : (List.range 64).all (fun e => c.rdB PTE_PATH_KEY.valid e) = true) :
    learnedStep sv c = c.wr PTE_EVENT.table_full 1 := by
  have no_free : (List.range 64).find? (fun e => !c.rdB PTE_PATH_KEY.valid e) = none := by
    rw [List.find?_eq_none]
    intro e he
    simp [List.all_eq_true.mp taken e he]
  unfold learnedStep
  extract_lets s x p na ns c1
  rw [Core.learns run state full, if_neg Bool.false_ne_true, no_free]

/-! ## SV_ASYM_ACK (R290) -/

/-- The engine's block is there in a part with lanes (R1). -/
theorem Part.absentAt_engine {p : Part} {a : Nat} (lanes : p.nLane ≠ 0) (lo : 0x210000 ≤ a) (hi : a < 0x220000) :
    p.absentAt a = false := by
  have engine : p.pte = true := by
    unfold Part.pte
    unfold Part.nLane at lanes
    split at lanes <;> simp_all
  unfold Part.absentAt
  extract_lets inst
  simp only [Bool.and_eq_true, decide_eq_true_eq]
  rw [if_neg (by omega), if_neg (by omega), if_neg (by omega), if_neg (by omega), if_neg (by omega), if_neg (by omega),
    if_neg (by omega), if_pos ⟨lo, hi⟩, engine]
  rfl

theorem Core.atReg_asymAck {sv : Fin 4} {ex : Nat} {f : Core → Core} (lanes : c.part.nLane ≠ 0) :
    c.atReg ex (PTE_SV_CTRL.asym_ack.addr sv.val 0) f = f c := by
  have here : c.part.absentAt (PTE_SV_CTRL.asym_ack.addr sv.val 0) = false := by
    refine Part.absentAt_engine lanes ?_ ?_ <;> simp only [Fld.addr, PTE_SV_CTRL.asym_ack] <;> omega
  unfold Core.atReg
  rw [here, if_neg Bool.false_ne_true]

theorem Core.svState_wr_asym (v i : Nat) : (c.wr PTE_SV_ASYM.asym v i).svState s = c.svState s := by
  refine Core.rd_wr_ne _ _ _ _ _ _ _ _ ?_
  simp only [Fld.key, Fld.addr, PTE_SV_ASYM.asym, PTE_SV_STAT.state]
  omega

/-- The acknowledgement of a staged asymmetry in FROZEN: it applies, the bases are gone, and the servo runs. -/
theorem svAsymAckStep_frozen {sv : Fin 4} {a : Int} (lanes : c.part.nLane ≠ 0) (clock : c.pclk = true)
    (staged : (c.sv sv.val).staged = some a) (state : c.svState sv.val = vsFrozen) :
    svAsymAckStep sv c = ((c.wr PTE_SV_ASYM.asym (ofS 32 a) sv.val).setSv sv.val { c.sv sv.val with
      staged := none, mBase := none, xBase := none, off := 0, lSum := 0, lN := 0, aside := [] }).svGoto sv.val vsRun 8
        (c.sv sv.val).o := by
  have calm : vsFrozen ≠ vsSuspect := by decide
  simp [svAsymAckStep, Core.atReg_asymAck lanes, clock, staged, Core.svState_setSv, Core.svState_wr_asym, state, calm]

/-- The acknowledgement without one, in another state: the bases are gone. -/
theorem svAsymAckStep_bases {sv : Fin 4} (lanes : c.part.nLane ≠ 0) (clock : c.pclk = true)
    (staged : (c.sv sv.val).staged = none) (state : c.svState sv.val ≠ vsFrozen) :
    svAsymAckStep sv c = c.setSv sv.val { c.sv sv.val with
      staged := none, mBase := none, xBase := none, off := 0, lSum := 0, lN := 0,
      aside := if c.svState sv.val = vsSuspect then (c.sv sv.val).aside else [] } := by
  simp [svAsymAckStep, Core.atReg_asymAck lanes, clock, staged, Core.svState_setSv, state]

end

/-! ## The statement -/

/-- The store engine, which works after every command, touches no register of the engine. -/
theorem Dev.act_rdPte (f : Dev → Dev) (d : Dev) {g : Fld} {n i : Nat} (hi : i < n) (hp : g.page = 0x21)
    (hs : g.spans n 1 = true) : (d.act f).core.rd g i = (f d).core.rd g i := by
  have place := Fld.addr_div_of_spans hs hi Nat.one_pos
  rw [hp] at place
  refine Dev.act_rd _ _ _ _ _ (Fld.lo_of_spans hs) ?_
  simp only [inSettle, Fld.addr, GLC_STORE_STAT.dirty, MTL_STAT.store_deferred, STG_STAT.store_busy] at place ⊢
  omega

theorem Dev.act_svState (f : Dev → Dev) (d : Dev) (sv : Fin 4) : (d.act f).core.svState sv.val = (f d).core.svState sv.val :=
  Dev.act_rdPte f d sv.isLt rfl rfl

/-- Settles O41: a servo that serves keeps its state when it is evaluated, and what it delivers to its candidate and its port
leaves its state, its delays and its samples alone. -/
theorem servoUpdates : Obligations.ServoUpdates := by
  unfold Obligations.ServoUpdates
  refine ⟨?first, ?missed, ?learnt, ?tableFull, ?applied, ?bases⟩
  case first =>
    intro s sv f b hr run en dom ends slave state sel forth back
    have serves : s.dev.core.ServoServes sv.val := ⟨en, dom, slave, by rw [state]; decide⟩
    refine onRunCore_answers hr ?_
    rw [Dev.act_svState, Dev.act_sv, Dev.act_rdPte _ _ sv.isLt rfl rfl, servoUpdateStep_first run serves ends sel forth back]
    obtain ⟨runs, noForth, noBack, offs, count⟩ := Core.svSample_noMaster (f := f) (m := ((f : Rat) + b) / 2) sv.isLt
      (serves.setSv (v := sv.val) (x := { s.dev.core.sv sv.val with df := [], db := [] })) state
    rw [Core.sv_setSv, if_pos rfl] at noForth noBack
    exact ⟨runs, noForth, noBack, offs, count⟩
  case missed =>
    intro s sv hr run en dom slave started noForth
    have serves : s.dev.core.ServoServes sv.val := ⟨en, dom, slave, started⟩
    refine onRunCore_answers hr ?_
    rw [Dev.act_svState, Dev.act_sv, Dev.act_rdPte _ _ sv.isLt rfl rfl, servoUpdateStep_missed run serves noForth,
      Core.svState_setSv, Core.sv_setSv, if_pos rfl, Core.setSv_rd]
    have missed {c : Core} {t : Nat} : Core.EngSame fromLanes c (c.candMiss (20 + sv.val) t) :=
      Core.EngSame.refl.candMiss (by omega)
    refine ⟨missed.rd ?_, rfl, missed.rd ?_⟩ <;>
      simp only [fromLanes, Fld.key, Fld.addr, PTE_SV_STAT.state, PTE_SV_SAMP_CNT.count] <;> omega
  case learnt =>
    intro s sv e hr run en dom slave state full free
    have he : e < 64 := List.mem_range.mp (List.mem_of_find?_eq_some free)
    refine onRunCore_answers hr ?_
    unfold Core.rdS
    rw [Dev.act_svState, Dev.act_rdPte _ _ he rfl rfl, Dev.act_rdPte _ _ he rfl rfl, Dev.act_rdPte _ _ sv.isLt rfl rfl,
      Dev.act_rdPte _ _ he rfl rfl, Dev.act_rdPte _ _ sv.isLt rfl rfl]
    obtain ⟨runs, valid, learned, path, entry, asym⟩ := learnedStep_learns run state full free
    exact ⟨runs, valid, learned, path, entry.trans asym.symm, (congrArg (toS 32) asym).trans (toS_satS_word _)⟩
  case tableFull =>
    intro s sv hr run state full taken
    refine onRunCore_answers hr ?_
    rw [Dev.act_rd_key _ _ _ _ _ (by decide), Dev.act_sv, learnedStep_full run state full taken]
    exact ⟨Core.rd_wr_same .., rfl⟩
  case applied =>
    intro s sv a hr lanes clock staged state
    refine onRunCore_answers hr ?_
    rw [Dev.act_svState, Dev.act_sv, Dev.act_rdPte _ _ sv.isLt rfl rfl, svAsymAckStep_frozen lanes clock staged state,
      Core.sv_svGoto_run, Core.sv_setSv, if_pos rfl, Core.rd_svGoto_run_spared sv.isLt rfl, Core.setSv_rd, Core.rd_wr_same]
    have code : ofS 32 a < 2 ^ 32 := by
      unfold ofS
      omega
    exact ⟨Nat.mod_eq_of_lt code, rfl, rfl, rfl, Core.svState_svGoto_run⟩
  case bases =>
    intro s sv hr lanes clock staged state
    refine onRunCore_answers hr ?_
    rw [Dev.act_svState, Dev.act_sv, Dev.act_rdPte _ _ sv.isLt rfl rfl, svAsymAckStep_bases lanes clock staged state,
      Core.sv_setSv, if_pos rfl]
    exact ⟨rfl, rfl, rfl⟩

end Sys2Proof.Machine
end
